-- ==== Sys2Proof/Word.lean ====
section
/-! DEFINITION. The word types of the register bus (R442) and the shapes that many registers share. -/

namespace Sys2Proof

/-- A register word: 32 bits, aligned to 4 bytes (R442). -/
abbrev Word := BitVec 32

/-- A byte of a record, a frame or a window. -/
abbrev Byte := BitVec 8

/-- An event counter of R12: the count, and the SAT flag that says it has stuck at its largest value. -/
structure Cnt where
  n   : Nat
  sat : Bool
deriving DecidableEq, Repr

/-- A counter at its reset value. -/
def Cnt.zero : Cnt := ⟨0, false⟩

/-- A fixed table of `n` equal elements. -/
def tbl {α : Type} (n : Nat) (a : α) : Vector α n := Vector.replicate n a

end Sys2Proof
end

