-- ==== Sys2Proof/Config.lean ====
section
/-! DEFINITION. What an implementation fixes: the vocabulary of fault reactions (R14), the events the module can
raise (R448), the form of a configuration field (R335, R450, R451), and the free values: constants without a body,
one for each quantity that the spec leaves open or gives through a function that is not exact arithmetic. -/

namespace Sys2Proof

/-- The fault reactions of R14, mildest first. -/
inductive Reaction where
  | log | derate | rampStop | quickStop | pulseBlock | asc | trip
deriving DecidableEq, Repr

/-- The R14 index of a reaction, which is also its code in an enumerated field (R451). -/
def Reaction.rank : Reaction → Nat
  | .log => 0 | .derate => 1 | .rampStop => 2 | .quickStop => 3 | .pulseBlock => 4 | .asc => 5 | .trip => 6

/-- The reaction of a code; a code above 6 never reaches here, since R340 refuses it (it reads as TRIP, the hardest). -/
def Reaction.ofRank : Nat → Reaction
  | 0 => .log | 1 => .derate | 2 => .rampStop | 3 => .quickStop | 4 => .pulseBlock | 5 => .asc | _ => .trip

/-- The events of the catalogue (R448): no other event is ever raised. -/
inductive Ev where
  | CLK_FALLBACK
  | CM_EARLY
  | XIN_ATTEMPT_FAIL
  | CLK_DEGRADED
  | CLK_RETURN
  | CLK_RETURN_FAIL
  | IRC_FAULT
  | PLL_UNLOCK
  | MG_CLK_CHANGE
  | RESET_CAUSE
  | STAGE_HOLD
  | SUPPLY_LOW
  | VBAT_LOW
  | VBAT_LOST
  | RESET_REFUSED
  | MODULE_READY
  | FABRIC_CONSERVATION
  | FLOW_CONFIG
  | FLOW_REBUILT
  | FLOW_MIGRATED
  | MIGRATE_REFUSED
  | FABRIC_POISON
  | TXN_TIMEOUT
  | HOST_MODE
  | TRG_MISSED
  | REG_OVERRUN
  | INJ_OVERRUN
  | INJ_MISSED
  | ANA_OVR
  | ANA_ORAIL
  | CAL_DONE
  | CAL_BUSY
  | CAL_REJECTED
  | CAL_FAIL
  | BGCAL_ABORTED
  | CELL_DEGRADED
  | REF_FAULT
  | REF_BUSY
  | CTRIG_CONFLICT
  | SHOOT
  | CMP_TRIP
  | MOD_FORCED
  | NP_UNBAL
  | GD_DESAT
  | GD_UV
  | GD_NOTREADY
  | GD_TEMPINV
  | ASC_ON
  | ASC_SIDE_CHANGE
  | ASC_NOSIDE
  | CON_FAIL
  | MAP_CONFLICT
  | LOOP_OVERRUN
  | LOOP_DEADLINE
  | VOLT_SAT
  | CUR_LIMIT
  | FW_LIMIT
  | LOOP_UNPLACED
  | CIRC_HIGH
  | POS_FAULT
  | POS_FALLBACK
  | POS_MISMATCH
  | START_REFUSED
  | START_ATTEMPT_FAILED
  | START_FAILED
  | CATCH_DONE
  | CATCH_REVERSE
  | EXC_FAULT
  | HOIST_SENSORLESS
  | CMD_LOSS
  | CMD_RESTORED
  | CMD_XFER
  | CMD_XFER_REFUSED
  | CURVE_INVALID
  | SPOOL_INVALID
  | TENS_SPDLIM
  | REACT_CLEARED
  | ARM_REFUSED
  | BRK_PROVE_FAIL
  | BRK_OPEN_FAIL
  | BRK_SLIP
  | STANDSTILL_FORCED
  | CMD_LATE
  | CMD_BOUND_WIDENED
  | SHOCK
  | RENDER_END
  | RENDER_OVERLOAD
  | RENDER_SOFT
  | SHOCK_BOUND_WIDENED
  | TENS_DROP
  | SHOCK_SRC_FAULT
  | SHOCK_CONFIG
  | RENDER_BUSY
  | HEAVE_MRU_LOSS
  | HEAVE_LIMIT
  | HEAVE_POOR
  | AHC_REFUSED
  | STOP_TIMEOUT
  | EQR_ON
  | EQR_END
  | EQR_FREE
  | EQR_REFUSED
  | EQR_NOSPOOL
  | CRO_ON
  | CRO_END
  | CRO_LINEEND
  | SLACK_ARREST
  | ET_ON
  | ET_OFF
  | ET_REFUSED
  | CMD_LOSS_ESC
  | EM_REFUSED
  | BLACKOUT
  | BO_RESTART
  | DEGRADED_ON
  | DEGRADE_FAIL
  | PROF_LIMIT_DEFERRED
  | PROF_OVERSHOOT
  | PROF_TARGET_CLAMPED
  | AX_POS_UNCERTAIN
  | AX_DRV_FAULT
  | AX_LIMIT
  | AX_REFUSED
  | AX_CONFIG
  | AX_HOMED
  | HOME_FAILED
  | AX_CHATTER
  | LW_FOLLOW
  | AX_SYNC_LOST
  | RING_CRC
  | RING_DEGRADED
  | RING_TIMELOSS
  | RING_CONFIG
  | RING_MEMBER_LOST
  | RING_MEMBER_OUT
  | RING_ISOLATED
  | RING_LEADCHANGE
  | RING_NOLEAD
  | RING_CONSERVATION
  | RING_CAP
  | RING_JOINED
  | RING_DRAINED
  | RING_DRAIN_HELD
  | RING_DRAIN_REFUSED
  | RING_REFUSED
  | OV1_LIMIT
  | OV2_FORCED
  | OV3
  | CHOP_FAULT
  | CHOP_SHORT
  | CHOP_HOT
  | ST_DONE
  | ST_FAIL
  | ST_REFUSED
  | THERM_WARN
  | THERM_TRIP
  | MOT_WARN
  | MOT_TRIP
  | DIE_HOT
  | DIE_SHUTDOWN
  | PROT_CONFIG
  | SF_GARNET_FAULT
  | SF_UNARMED
  | SF_STO
  | SF_VIOLATION
  | SF_POS_DISC
  | SF_TENS_DISC
  | SF_SLT_LIMIT
  | SF_PROVE_REFUSED
  | SF_BRAKE_FB
  | SF_EQR_HOLD_END
  | SF_TEST_DUE
  | SI_DISC
  | SI_CROSS
  | SI_TPMISS
  | TP_FAULT
  | SO_FAULT
  | SC_TIMEOUT
  | SC_MISMATCH
  | SC_RESTORED
  | SAFELOG_WARN
  | SAFELOG_FULL
  | SAFELOG_ARCHIVED
  | SAFELOG_MISMATCH
  | SAFELOG_BROKEN
  | SAFE_CHANGE
  | SAFE_CHANGE_REFUSED
  | SAFE_PWD_FAIL
  | SAFE_FIELD_CLAMPED
  | ETH_LINK_DOWN
  | ETH_LINK_UP
  | ETH_DROP
  | GCL_CONFIG
  | PRP_LAN_DOWN
  | PRP_LAN_UP
  | ASLOCK_LOST
  | AS_GM_CHANGE
  | TIME_STEP
  | TIME_WRAP
  | SPC_CONFLICT
  | CAN_ERR_WARN
  | CAN_ERR_PASSIVE
  | CAN_BUS_OFF
  | CAN_BUS_ON
  | CAN_RX_OVERRUN
  | CAN_TX_DROP
  | CAN_TX_FULL
  | CAN_TOO_LATE_SENT
  | CAN_CONFIG
  | CAN_TS_WRAP
  | TAMPER_LOG
  | SEALED
  | ZEROISED
  | ENROLLED
  | ENROL_REFUSED
  | OWNER_RELEASED
  | DEBUG_UNLOCKED
  | DEBUG_LOCKED
  | DEBUG_REFUSED
  | TLS_FAIL
  | FW_SIG_FAIL
  | ONYX_SELFTEST_FAIL
  | ONYX_RNG_FAIL
  | KEYS_ABSENT
  | PROVISIONED
  | PROV_REFUSED
  | IMG_LOADED
  | IMG_INVALID
  | IMG_BANK_FALLBACK
  | IMG_NOCOMMIT
  | IMG_REFUSED
  | FIELD_CLAMPED
  | RECORD_SKIPPED
  | LOAD_REPORT_FULL
  | DELTA_ACCEPTED
  | DELTA_REFUSED
  | DELTA_IN_EFFECT
  | DELTA_DISCARDED
  | STASH_APPLIED
  | STASH_IGNORED
  | COMMIT_START
  | COMMIT_DONE
  | COMMIT_ABORTED
  | COMMIT_FAIL
  | JOURNAL_BEHIND
  | SHADOW_START
  | SHADOW_READY
  | SHADOW_DONE
  | SHADOW_ABORTED
  | SHADOW_REFUSED
  | FW_WRITTEN
  | FW_TRIAL
  | FW_ACCEPTED
  | FW_REVERTED
  | AV_LOST
  | AV_VOID
  | AV_SNAPSHOT
  | WRITE_REJECTED
  | INDEX_WRAP
  | CAP_TRIGGERED
  | CAP_GAP
  | CAP_DONE
  | CAP_CONFIG
deriving DecidableEq, Repr

/-- The 16-bit code of each event (R13, R448 and the event table of its chapter). -/
def Ev.code : Ev → Nat
  | .CLK_FALLBACK => 0x0101
  | .CM_EARLY => 0x0102
  | .XIN_ATTEMPT_FAIL => 0x0103
  | .CLK_DEGRADED => 0x0104
  | .CLK_RETURN => 0x0105
  | .CLK_RETURN_FAIL => 0x0106
  | .IRC_FAULT => 0x0107
  | .PLL_UNLOCK => 0x0108
  | .MG_CLK_CHANGE => 0x0109
  | .RESET_CAUSE => 0x0120
  | .STAGE_HOLD => 0x0121
  | .SUPPLY_LOW => 0x0122
  | .VBAT_LOW => 0x0123
  | .VBAT_LOST => 0x0124
  | .RESET_REFUSED => 0x0125
  | .MODULE_READY => 0x0126
  | .FABRIC_CONSERVATION => 0x0201
  | .FLOW_CONFIG => 0x0202
  | .FLOW_REBUILT => 0x0203
  | .FLOW_MIGRATED => 0x0210
  | .MIGRATE_REFUSED => 0x0211
  | .FABRIC_POISON => 0x0220
  | .TXN_TIMEOUT => 0x0230
  | .HOST_MODE => 0x0240
  | .TRG_MISSED => 0x0301
  | .REG_OVERRUN => 0x0302
  | .INJ_OVERRUN => 0x0303
  | .INJ_MISSED => 0x0304
  | .ANA_OVR => 0x0310
  | .ANA_ORAIL => 0x0311
  | .CAL_DONE => 0x0320
  | .CAL_BUSY => 0x0321
  | .CAL_REJECTED => 0x0322
  | .CAL_FAIL => 0x0323
  | .BGCAL_ABORTED => 0x0324
  | .CELL_DEGRADED => 0x0331
  | .REF_FAULT => 0x0340
  | .REF_BUSY => 0x0341
  | .CTRIG_CONFLICT => 0x0350
  | .SHOOT => 0x0401
  | .CMP_TRIP => 0x0403
  | .MOD_FORCED => 0x0410
  | .NP_UNBAL => 0x0411
  | .GD_DESAT => 0x0420
  | .GD_UV => 0x0421
  | .GD_NOTREADY => 0x0422
  | .GD_TEMPINV => 0x0423
  | .ASC_ON => 0x0430
  | .ASC_SIDE_CHANGE => 0x0431
  | .ASC_NOSIDE => 0x0432
  | .CON_FAIL => 0x0434
  | .MAP_CONFLICT => 0x0440
  | .LOOP_OVERRUN => 0x0501
  | .LOOP_DEADLINE => 0x0502
  | .VOLT_SAT => 0x0503
  | .CUR_LIMIT => 0x0504
  | .FW_LIMIT => 0x0505
  | .LOOP_UNPLACED => 0x0506
  | .CIRC_HIGH => 0x0507
  | .POS_FAULT => 0x0510
  | .POS_FALLBACK => 0x0511
  | .POS_MISMATCH => 0x0512
  | .START_REFUSED => 0x0513
  | .START_ATTEMPT_FAILED => 0x0514
  | .START_FAILED => 0x0515
  | .CATCH_DONE => 0x0516
  | .CATCH_REVERSE => 0x0517
  | .EXC_FAULT => 0x0518
  | .HOIST_SENSORLESS => 0x0519
  | .CMD_LOSS => 0x0520
  | .CMD_RESTORED => 0x0521
  | .CMD_XFER => 0x0522
  | .CMD_XFER_REFUSED => 0x0523
  | .CURVE_INVALID => 0x0524
  | .SPOOL_INVALID => 0x0525
  | .TENS_SPDLIM => 0x0526
  | .REACT_CLEARED => 0x0527
  | .ARM_REFUSED => 0x0528
  | .BRK_PROVE_FAIL => 0x0530
  | .BRK_OPEN_FAIL => 0x0531
  | .BRK_SLIP => 0x0532
  | .STANDSTILL_FORCED => 0x0534
  | .CMD_LATE => 0x0540
  | .CMD_BOUND_WIDENED => 0x0541
  | .SHOCK => 0x0550
  | .RENDER_END => 0x0551
  | .RENDER_OVERLOAD => 0x0552
  | .RENDER_SOFT => 0x0553
  | .SHOCK_BOUND_WIDENED => 0x0554
  | .TENS_DROP => 0x0555
  | .SHOCK_SRC_FAULT => 0x0556
  | .SHOCK_CONFIG => 0x0557
  | .RENDER_BUSY => 0x0558
  | .HEAVE_MRU_LOSS => 0x0560
  | .HEAVE_LIMIT => 0x0561
  | .HEAVE_POOR => 0x0562
  | .AHC_REFUSED => 0x0563
  | .STOP_TIMEOUT => 0x0570
  | .EQR_ON => 0x0571
  | .EQR_END => 0x0572
  | .EQR_FREE => 0x0573
  | .EQR_REFUSED => 0x0574
  | .EQR_NOSPOOL => 0x0575
  | .CRO_ON => 0x0576
  | .CRO_END => 0x0577
  | .CRO_LINEEND => 0x0578
  | .SLACK_ARREST => 0x0579
  | .ET_ON => 0x057B
  | .ET_OFF => 0x057C
  | .ET_REFUSED => 0x057D
  | .CMD_LOSS_ESC => 0x057E
  | .EM_REFUSED => 0x057F
  | .BLACKOUT => 0x0580
  | .BO_RESTART => 0x0581
  | .DEGRADED_ON => 0x0582
  | .DEGRADE_FAIL => 0x0583
  | .PROF_LIMIT_DEFERRED => 0x0601
  | .PROF_OVERSHOOT => 0x0602
  | .PROF_TARGET_CLAMPED => 0x0603
  | .AX_POS_UNCERTAIN => 0x0610
  | .AX_DRV_FAULT => 0x0612
  | .AX_LIMIT => 0x0613
  | .AX_REFUSED => 0x0614
  | .AX_CONFIG => 0x0615
  | .AX_HOMED => 0x0620
  | .HOME_FAILED => 0x0621
  | .AX_CHATTER => 0x0622
  | .LW_FOLLOW => 0x0630
  | .AX_SYNC_LOST => 0x0631
  | .RING_CRC => 0x0701
  | .RING_DEGRADED => 0x0702
  | .RING_TIMELOSS => 0x0703
  | .RING_CONFIG => 0x0704
  | .RING_MEMBER_LOST => 0x0710
  | .RING_MEMBER_OUT => 0x0711
  | .RING_ISOLATED => 0x0712
  | .RING_LEADCHANGE => 0x0713
  | .RING_NOLEAD => 0x0714
  | .RING_CONSERVATION => 0x0720
  | .RING_CAP => 0x0721
  | .RING_JOINED => 0x0730
  | .RING_DRAINED => 0x0731
  | .RING_DRAIN_HELD => 0x0732
  | .RING_DRAIN_REFUSED => 0x0733
  | .RING_REFUSED => 0x0734
  | .OV1_LIMIT => 0x0810
  | .OV2_FORCED => 0x0811
  | .OV3 => 0x0812
  | .CHOP_FAULT => 0x0813
  | .CHOP_SHORT => 0x0814
  | .CHOP_HOT => 0x0815
  | .ST_DONE => 0x0820
  | .ST_FAIL => 0x0821
  | .ST_REFUSED => 0x0822
  | .THERM_WARN => 0x0830
  | .THERM_TRIP => 0x0831
  | .MOT_WARN => 0x0832
  | .MOT_TRIP => 0x0833
  | .DIE_HOT => 0x0840
  | .DIE_SHUTDOWN => 0x0841
  | .PROT_CONFIG => 0x0850
  | .SF_GARNET_FAULT => 0x0901
  | .SF_UNARMED => 0x0902
  | .SF_STO => 0x0910
  | .SF_VIOLATION => 0x0913
  | .SF_POS_DISC => 0x0914
  | .SF_TENS_DISC => 0x0915
  | .SF_SLT_LIMIT => 0x0916
  | .SF_PROVE_REFUSED => 0x0917
  | .SF_BRAKE_FB => 0x0918
  | .SF_EQR_HOLD_END => 0x0919
  | .SF_TEST_DUE => 0x091A
  | .SI_DISC => 0x0920
  | .SI_CROSS => 0x0921
  | .SI_TPMISS => 0x0922
  | .TP_FAULT => 0x0923
  | .SO_FAULT => 0x0930
  | .SC_TIMEOUT => 0x0940
  | .SC_MISMATCH => 0x0941
  | .SC_RESTORED => 0x0942
  | .SAFELOG_WARN => 0x0950
  | .SAFELOG_FULL => 0x0951
  | .SAFELOG_ARCHIVED => 0x0952
  | .SAFELOG_MISMATCH => 0x0953
  | .SAFELOG_BROKEN => 0x0954
  | .SAFE_CHANGE => 0x0955
  | .SAFE_CHANGE_REFUSED => 0x0956
  | .SAFE_PWD_FAIL => 0x0957
  | .SAFE_FIELD_CLAMPED => 0x0958
  | .ETH_LINK_DOWN => 0x0A01
  | .ETH_LINK_UP => 0x0A02
  | .ETH_DROP => 0x0A03
  | .GCL_CONFIG => 0x0A04
  | .PRP_LAN_DOWN => 0x0A10
  | .PRP_LAN_UP => 0x0A11
  | .ASLOCK_LOST => 0x0A20
  | .AS_GM_CHANGE => 0x0A21
  | .TIME_STEP => 0x0A22
  | .TIME_WRAP => 0x0A23
  | .SPC_CONFLICT => 0x0A30
  | .CAN_ERR_WARN => 0x0B01
  | .CAN_ERR_PASSIVE => 0x0B02
  | .CAN_BUS_OFF => 0x0B03
  | .CAN_BUS_ON => 0x0B04
  | .CAN_RX_OVERRUN => 0x0B10
  | .CAN_TX_DROP => 0x0B11
  | .CAN_TX_FULL => 0x0B12
  | .CAN_TOO_LATE_SENT => 0x0B13
  | .CAN_CONFIG => 0x0B20
  | .CAN_TS_WRAP => 0x0B21
  | .TAMPER_LOG => 0x0C01
  | .SEALED => 0x0C02
  | .ZEROISED => 0x0C03
  | .ENROLLED => 0x0C10
  | .ENROL_REFUSED => 0x0C11
  | .OWNER_RELEASED => 0x0C12
  | .DEBUG_UNLOCKED => 0x0C20
  | .DEBUG_LOCKED => 0x0C21
  | .DEBUG_REFUSED => 0x0C22
  | .TLS_FAIL => 0x0C30
  | .FW_SIG_FAIL => 0x0C40
  | .ONYX_SELFTEST_FAIL => 0x0C50
  | .ONYX_RNG_FAIL => 0x0C51
  | .KEYS_ABSENT => 0x0C52
  | .PROVISIONED => 0x0C53
  | .PROV_REFUSED => 0x0C54
  | .IMG_LOADED => 0x0D01
  | .IMG_INVALID => 0x0D02
  | .IMG_BANK_FALLBACK => 0x0D03
  | .IMG_NOCOMMIT => 0x0D04
  | .IMG_REFUSED => 0x0D05
  | .FIELD_CLAMPED => 0x0D10
  | .RECORD_SKIPPED => 0x0D11
  | .LOAD_REPORT_FULL => 0x0D12
  | .DELTA_ACCEPTED => 0x0D20
  | .DELTA_REFUSED => 0x0D21
  | .DELTA_IN_EFFECT => 0x0D22
  | .DELTA_DISCARDED => 0x0D23
  | .STASH_APPLIED => 0x0D24
  | .STASH_IGNORED => 0x0D25
  | .COMMIT_START => 0x0D30
  | .COMMIT_DONE => 0x0D31
  | .COMMIT_ABORTED => 0x0D32
  | .COMMIT_FAIL => 0x0D33
  | .JOURNAL_BEHIND => 0x0D40
  | .SHADOW_START => 0x0D50
  | .SHADOW_READY => 0x0D51
  | .SHADOW_DONE => 0x0D52
  | .SHADOW_ABORTED => 0x0D53
  | .SHADOW_REFUSED => 0x0D54
  | .FW_WRITTEN => 0x0D60
  | .FW_TRIAL => 0x0D61
  | .FW_ACCEPTED => 0x0D62
  | .FW_REVERTED => 0x0D63
  | .AV_LOST => 0x0D70
  | .AV_VOID => 0x0D71
  | .AV_SNAPSHOT => 0x0D72
  | .WRITE_REJECTED => 0x0D80
  | .INDEX_WRAP => 0x0D81
  | .CAP_TRIGGERED => 0x0D90
  | .CAP_GAP => 0x0D91
  | .CAP_DONE => 0x0D92
  | .CAP_CONFIG => 0x0D93

/-- The record types of R336. -/
inductive RecT where
  | motor | bridge | cell | loop | curve | profile | axis | ring | protect | thermal | safety | emergency
  | net | can | security | service
deriving DecidableEq, Repr

/-- TYPE of a record (R336). -/
def RecT.code : RecT → Nat
  | .motor => 0x01 | .bridge => 0x02 | .cell => 0x03 | .loop => 0x04 | .curve => 0x05 | .profile => 0x06
  | .axis => 0x07 | .ring => 0x08 | .protect => 0x09 | .thermal => 0x0A | .safety => 0x0B | .emergency => 0x0C
  | .net => 0x0D | .can => 0x0E | .security => 0x0F | .service => 0x10

/-- How many INST values a record type has (R336). -/
def RecT.insts : RecT → Nat
  | .motor => 4 | .bridge => 8 | .cell => 9 | .loop => 4 | .curve => 16 | .profile => 16 | .axis => 16
  | .emergency => 4 | .can => 4 | _ => 1

/-- FTYPE of R335, assigned by R451. -/
inductive FType where
  | u32 | s32 | f32 | enum | s64 | bytes
deriving DecidableEq, Repr

/-- FTYPE code of R335. -/
def FType.code : FType → Nat
  | .u32 => 1 | .s32 => 2 | .f32 => 3 | .enum => 4 | .s64 => 5 | .bytes => 6

/-- The range of a field's table row: a numeric stretch with its resolution (0: none), zero or a stretch, a stretch or
one further code, a list coded by position, a list of R14 indices (R451), or a string of bytes. -/
inductive Dom where
  | range (lo hi step : Rat)
  | orZero (lo hi step : Rat)
  | orCode (lo hi code : Rat)
  | codes (n : Nat)
  | react (allowed : List Nat)
  | bytes (lo hi : Nat)
deriving DecidableEq, Repr

/-- The safe side of R275 and R276: a field of no safety record, a safety field without a safe side, the low or the
high end of the range, or a stated value. -/
inductive SafeSide where
  | plain | noEnd | low | high | to (v : Rat)
deriving DecidableEq, Repr

/-- One row of a configuration-field table: the record, the FID of R450, its FTYPE, range and default, and how many
values its two sub-indices take (1: no such index). -/
structure Field where
  rt    : RecT
  fid   : Nat
  ftype : FType
  dom   : Dom
  dflt  : Rat
  n1    : Nat
  n2    : Nat
  safe  : SafeSide
deriving DecidableEq, Repr

/-- The value of a field entry: a number (an enumeration by its code), an F32 that is NaN or infinite by its word, or bytes. -/
inductive CfgVal where
  | num (q : Rat)
  | nan (w : Word)
  | bytes (b : List Byte)
deriving DecidableEq, Repr

/-- FREE VALUE: a fresh number for a quantity the spec leaves open, taken from the counter `State.free` (log entry 1). -/
opaque Config.freeRat : Nat → Rat
/-- FREE VALUE: a fresh word for bits the spec leaves open (log entry 1). -/
opaque Config.freeWord : Nat → Word
/-- FREE VALUE: a fresh byte string for random or cryptographic material (log entry 1). -/
opaque Config.freeBytes : Nat → List Byte
/-- FREE VALUE: the square root the module computes; the spec fixes no rounding of it (log entry 2). -/
opaque Config.sqrt : Rat → Rat
/-- FREE VALUE: the sine the module computes, argument in radians (log entry 2). -/
opaque Config.sin : Rat → Rat
/-- FREE VALUE: the cosine the module computes, argument in radians (log entry 2). -/
opaque Config.cos : Rat → Rat
/-- FREE VALUE: the exponential the module computes (log entry 2). -/
opaque Config.exp : Rat → Rat
/-- FREE VALUE: the ratio of a circle's circumference to its diameter as the module holds it (log entry 2). -/
opaque Config.pi : Rat
/-- FREE VALUE: the arctangent of two arguments the module computes, in radians (log entry 2). -/
opaque Config.atan2 : Rat → Rat → Rat
/-- FREE VALUE: a quotient by zero, where a formula of the spec divides by a measured quantity that is zero (log entry 3). -/
opaque Config.divZero : Rat → Rat
/-- FREE VALUE: SHA-384 of a byte string, 48 bytes (log entry 4). -/
opaque Config.sha384Of : List Byte → Vector Byte 48
/-- The 48 bytes of a SHA-384. -/
def Config.sha384 (b : List Byte) : List Byte := (Config.sha384Of b).toList

/-- FREE VALUE: the speed that the tracking loop of a SINCOS or RESOLVER interface shows after a reading (R94, R97), from its bandwidth,
the speed before, the turns since the last reading and the time: the spec names the loop and gives no equation of it (log 122). -/
opaque Config.trackSpeed : Rat → Rat → Rat → Rat → Rat

/-- FREE VALUE: the error that the HFI demodulation gives (R103), from the change of the q-axis current in the sign of the injected
voltage and from that voltage times T_L: the spec gives no scaling (log 123). -/
opaque Config.hfiError : Rat → Rat → Rat

/-- FREE VALUE: the discrete dq model of R82, row by row, from T_L, R_s', L_d', L_q' and the electrical speed: the state matrix and the
input matrix. The spec does not say how the model is made discrete (log 124). -/
opaque Config.mpcA : Rat → Rat → Rat → Rat → Rat → Rat × Rat × Rat × Rat
/-- FREE VALUE: see `Config.mpcA` (log 124). -/
opaque Config.mpcB : Rat → Rat → Rat → Rat → Rat → Rat × Rat × Rat × Rat
/-- FREE VALUE: the disturbance estimate of R82 after an instant, from CBW, T_L, the estimate before and the prediction error of the
axis: the spec gives the bandwidth and no law (log 124). -/
opaque Config.mpcEstimate : Rat → Rat → Rat → Rat → Rat
/-- FREE VALUE: the electrical speed at which |v| would reach V_dc/√3 (R82), from V_dc/√3, the flux linkage, L_d, L_q and IMAX: the spec
does not say at which current (log 124). -/
opaque Config.mpcTop : Rat → Rat → Rat → Rat → Rat → Rat

/-- FREE VALUE: the CRC-32 over the safety field set in force (`SETCRC`, R273); the spec does not give the bytes it runs over (log 4). -/
opaque Config.safetySetCrc : List (Nat × CfgVal) → Word

/-- The serial number of this module, `DEVSN` (R401): the spec names no value. -/
opaque Config.devsn : BitVec 64

/-- This module's 802.1AS system identity below priority1 (R380): the spec names no value. -/
opaque Config.asIdent : BitVec 104

/-- The converter registers of the HK cell, which hold the factory trim (register table of chapter 02): the spec names no value. -/
opaque Config.hkTrim : Nat → Word

/-- The silicon revision, `REVID`: the spec names no value. -/
opaque Config.revid : Word

end Sys2Proof
end

