-- ==== Sys2Proof/Machine/TypesInput.lean ====
section
/-! DEFINITION. What comes to the module from outside with a command, where it is more than a number: what Garnet samples
in a cycle, Ethernet frames, 802.1AS messages, and the statements and tokens of chapter 19 with the outcome of Onyx's
signature check on their bytes (the log says why a check's outcome is an input). -/

namespace Sys2Proof.Machine

/-! ## Garnet -/

/-- What Garnet captures of one motor object in a cycle with counters of its own (R249): the position of each channel in sensor turns,
and whether its capture has its signal. Currents and tensions it reads off the converters of `State`. -/
structure GarnetMoIn where
  posA  : Rat
  posB  : Rat
  sigA  : Bool
  sigB  : Bool
deriving DecidableEq, Repr

/-- What Garnet samples in a cycle (R250): input levels, the node readbacks of the output pairs, and each motor object. -/
structure GarnetIn where
  si   : BitVec 24
  sorh : BitVec 8
  sorl : BitVec 8
  mo   : Vector GarnetMoIn 4
deriving DecidableEq, Repr

/-! ## Position interfaces -/

/-- What an interface reads at an instant (R94, R96): the steps of its sensor, which ABZ and SINCOS count from reset and RESOLVER
gives within its turn, and for ABZ how long ago its last edge was, in counts of 2.5 ns (R97). -/
structure PosRaw where
  steps : Int
  edge  : Nat
deriving DecidableEq, Repr

/-! ## Fabric -/

/-- An upset of the counts of a flow, or of a tracker requester's free slots: what the audit finds there (R293, R295). -/
structure FlowUpset where
  tracker : Bool
  index   : Fin 256
  free    : Nat
  buf     : Nat
  infl    : Nat
deriving DecidableEq, Repr

/-! ## Ethernet and CAN -/

/-- A received 802.1AS message as the time unit evaluates it (R380, R381): the offset in nanoseconds that a Sync and its
Follow_Up give, an Announce with its system identity (priority1 in the top byte, the clock identity in the low 64 bits), or
a completed peer delay measurement. -/
inductive AsMsg where
  | sync (ofs : Rat)
  | announce (ident : BitVec 112)
  | pdelay (delay : Nat)
deriving DecidableEq, Repr

/-- A received Ethernet frame (R370 to R376): addresses, the VLAN (0 for untagged) and PCP, EtherType, the UDP port where it
is IPv4 UDP, whether its FCS is right, its length, the redundancy control trailer (sequence, and whether it names LAN B), the
payload, and the nanoseconds from the start-of-frame delimiter to the last bit. -/
structure EthFrame where
  dst     : BitVec 48
  src     : BitVec 48
  vid     : Nat
  pcp     : BitVec 3
  etype   : BitVec 16
  udp     : Option Nat
  fcsOk   : Bool
  len     : Nat
  prp     : Option (BitVec 16 × Bool)
  superv  : Bool
  asMsg   : Option AsMsg
  payload : List Byte
  dur     : Nat
deriving DecidableEq, Repr

/-- How a CAN transmission attempt ended (R395): sent, arbitration lost, no acknowledgement, or another error with its LEC
code (R397). `dominant` says that an error-passive transmitter saw a dominant bit in its passive error flag (R398). -/
inductive TxResult where
  | sent
  | arbLost
  | noAck (dominant : Bool)
  | error (lec : BitVec 3)
deriving DecidableEq, Repr

/-! ## Onyx -/

/-- An owner certificate as Onyx reads it (R407): X.509 v3 with a P-384 key and basicConstraints CA, its validity in device
time, the owner key's number and the SHA-384 of the certificate. -/
structure OwnerCert where
  formOk  : Bool
  notBefore : BitVec 64
  notAfter  : BitVec 64
  key     : Nat
  hash    : List Byte
deriving DecidableEq, Repr

/-- An enrolment statement (R407, R408): the key that signed it and whether the signature verifies. -/
structure EnrolStmt where
  magicOk : Bool
  serial  : BitVec 64
  nonce   : Vector Word 4
  hash    : List Byte
  signer  : Nat
  sigOk   : Bool
  cert    : OwnerCert
deriving DecidableEq, Repr

/-- A release statement (R408): the hash is that of the new owner's certificate. -/
structure ReleaseStmt where
  magicOk : Bool
  serial  : BitVec 64
  nonce   : Vector Word 4
  hash    : List Byte
  signer  : Nat
  sigOk   : Bool
deriving DecidableEq, Repr

/-- A debug token (R410). -/
structure DebugToken where
  magicOk : Bool
  serial  : BitVec 64
  nonce   : Vector Word 4
  scope   : BitVec 16
  minutes : Nat
  sigOk   : Bool
deriving DecidableEq, Repr

/-- What Onyx reads in its submission windows (R407, R408, R417): nothing that it knows, an enrolment, a release, or a device
certificate with the outcome of its check. -/
inductive Submission where
  | unknown
  | enrol (st : EnrolStmt)
  | release (st : ReleaseStmt)
  | cert (ok : Bool)
deriving DecidableEq, Repr, Inhabited

end Sys2Proof.Machine

namespace Sys2Proof

/-- FREE VALUE: what the bytes of `ENROLWIN` and `PROVCERT` hold. The spec does not lay the statements out in bytes, and the checks
on them are cryptographic (log 4). -/
opaque Config.submission : List Byte → List Byte → Machine.Submission

/-- FREE VALUE: whether the signature of a debug token verifies under an owner key (log 4). -/
opaque Config.tokenSig : List Byte → Nat → Bool

end Sys2Proof
end

