-- ==== Sys2Proof/Machine/TypesNet.lean ====
section
/-! DEFINITION. The state of the Ethernet switch and of device time (chapter 17), of the CAN controllers (18) and of Onyx
(19). Times are nanoseconds of `State.up`. -/

namespace Sys2Proof.Machine

/-! ## The Ethernet switch -/

/-- An entry of the filtering database (R370): address, VLAN, port, and when it was last seen. -/
structure MacEntry where
  mac  : BitVec 48
  vid  : Nat
  port : Nat
  seen : Nat
deriving DecidableEq, Repr

/-- No entry of a gate control list runs: the cycle waits for the next multiple of its time (R372). -/
def gclIdle : Nat := 16

/-- A port ETH[p], with ETHM as port 8 (`ETHPSTAT`, `ETHRX`, `ETHTX`, `ETHDROP`; R369 to R373); `gclAt` is the entry of the gate
control list in force. -/
structure EthPort where
  en    : Bool
  link  : Bool
  speed : Nat
  asCap : Bool
  gclOn : Bool
  gclAt : Nat
  rx    : Cnt
  tx    : Cnt
  drop  : Cnt
deriving DecidableEq, Repr

def EthPort.reset : EthPort := ⟨false, false, 0, false, false, 0, .zero, .zero, .zero⟩

/-- A sequence seen on a PRP pair (R376): source, sequence number and when it was seen. -/
structure PrpSeen where
  mac : BitVec 48
  seq : BitVec 16
  at_ : Nat
deriving DecidableEq, Repr

/-- A PRP pair (`PRPSTAT`, `PRPDUP`, `PRPWRONG`; R376, R377): the LAN states, the times of the last frames with a valid
trailer, the duplicate table (1,024 at most), the node table (256 at most) and the sequence number sent last. -/
structure PrpPair where
  aUp   : Bool
  bUp   : Bool
  aLast : Nat
  bLast : Nat
  dup   : Cnt
  wrong : Cnt
  seen  : List PrpSeen
  nodes : List (BitVec 48)
  seq   : BitVec 16
deriving DecidableEq, Repr

def PrpPair.reset : PrpPair := ⟨false, false, 0, 0, .zero, .zero, [], [], 0⟩

/-- The source of device time, coded as `TIMESTAT.SRC` (R379). -/
inductive TimeSrc where
  | ring | as_ | free
deriving DecidableEq, Repr

def TimeSrc.code : TimeSrc → Nat
  | .ring => 0 | .as_ => 1 | .free => 2

/-- The time unit (`TIMESTAT`, `TIMEOFS`, `TIMERATE`; R378 to R382): the 802.1AS grandmaster and the port towards it, the Sync
offsets in a row within ±50 ns, when the last Sync came, the last offset and the rate correction. Device time itself is `State.dev`. -/
structure TimeUnit where
  gm     : Option (BitVec 112)
  gmPort : Nat
  asLock : Bool
  hold   : Bool
  okN    : Nat
  syncAt : Nat
  ofs    : Rat
  rate   : Rat
deriving DecidableEq, Repr

def TimeUnit.reset : TimeUnit := ⟨none, 15, false, false, 0, 0, 0, 0⟩

/-- The switch as a whole: ports 0 to 8, the filtering database, the PRP pairs, and whether a drop has been reported since
CNTCLR. -/
structure Ether where
  port   : Vector EthPort 9
  mac    : List MacEntry
  prp    : Vector PrpPair 4
  dropEv : Bool
  sentSync  : Nat
  sentPdelay : Nat
deriving DecidableEq, Repr

def Ether.reset : Ether := ⟨tbl 9 .reset, [], tbl 4 .reset, false, 0, 0⟩

/-! ## CAN -/

/-- A CAN frame (R384). -/
structure CanFrame where
  ide  : Bool
  id   : BitVec 29
  rtr  : Bool
  fdf  : Bool
  brs  : Bool
  esi  : Bool
  dlc  : BitVec 4
  data : List Byte
deriving DecidableEq, Repr

/-- A frame in a receive queue (R389, R390). -/
structure CanRx where
  frame : CanFrame
  flt   : Nat
  stamp : Word
deriving DecidableEq, Repr

/-- A frame in the transmit queue (R393 to R396): its writer and tag, the attempts made, the retries counted, a cancel that has reached it, and the stamp of its last start of frame. -/
structure CanTx where
  frame    : CanFrame
  host     : Bool
  tag      : BitVec 8
  attempts : Nat
  fails    : Nat
  cancel   : Bool
  stamp    : Word
deriving DecidableEq, Repr

/-- The completion statuses of R395 and R396, coded as `TXDONE.STATUS`. -/
inductive TxStatus where
  | sent | cancelled | tooLate | dropArb | dropErr | noAck
deriving DecidableEq, Repr

def TxStatus.code : TxStatus → Nat
  | .sent => 0 | .cancelled => 1 | .tooLate => 2 | .dropArb => 3 | .dropErr => 4 | .noAck => 5

/-- A completion record (R393). -/
structure TxDone where
  status   : TxStatus
  attempts : Nat
  host     : Bool
  tag      : BitVec 8
  stamp    : Word
deriving DecidableEq, Repr

/-- The staging registers of a writer (`TXID`, `TXCTL`, `TXDATA`; R393). -/
structure TxStage where
  id   : Word
  ctl  : Word
  data : Vector Word 16
deriving DecidableEq, Repr

def TxStage.reset : TxStage := ⟨0, 0, tbl 16 0⟩

/-- A CAN controller (`CANSTAT`, `CANERR` and the counters; R384 to R399). -/
structure Can where
  on       : Bool
  mon      : Bool
  busOff   : Bool
  passive  : Bool
  rx0      : List CanRx
  rx1      : List CanRx
  tx       : List CanTx
  done     : List TxDone
  stage    : Vector TxStage 2
  tec      : Nat
  rec_     : Nat
  lec      : Nat
  dlec     : Nat
  safe     : Option CanFrame
  safeTx   : Bool
  recover  : Option Nat
  rxOvr0   : Cnt
  rxOvr1   : Cnt
  ovrEv    : Bool
  noMatch  : Cnt
  txDrop   : Cnt
  arbLost  : Cnt
  txEvOvr  : Cnt
  safeRepl : Cnt
deriving DecidableEq, Repr

def Can.reset : Can where
  on := false; mon := false; busOff := false; passive := false; rx0 := []; rx1 := []; tx := []; done := []
  stage := tbl 2 .reset; tec := 0; rec_ := 0; lec := 0; dlec := 0; safe := none; safeTx := false; recover := none
  rxOvr0 := .zero; rxOvr1 := .zero; ovrEv := false; noMatch := .zero; txDrop := .zero; arbLost := .zero
  txEvOvr := .zero; safeRepl := .zero

/-! ## Onyx -/

/-- A management session (R409): its number, when it opened, and the bytes sent under the present traffic keys with the time
they were taken into use. -/
structure Session where
  id     : Nat
  opened : Nat
  bytes  : Nat
  keyAt  : Nat
deriving DecidableEq, Repr

/-- A failed handshake (R409): the client's address and the time. -/
structure TlsFail where
  addr : Nat
  at_  : Nat
deriving DecidableEq, Repr

/-- Onyx (`SECSTAT`, `TMPSTAT`, `ZEPOCH`, `FWMINVER`, `OWNERID`, `SECNONCE` and the windows; R400 to R418). `release`
holds the certificate hash of a pending release and when it was accepted; `nonce` the nonce drawn and its time; the windows
are byte lists from offset 0. `oldOwners` are the OWNERIDs whose
banks stay loadable until the next commit (R408). `certOk` says that the certificate in NVM certifies the keys, `nvmKeys` that wrapped
keys stand in NVM; `provGen` that new keys wait for
their certificate. `due` marks the alarms decided and not yet acted on (R413), `levels` the levels that Onyx holds. `zeroing` marks a zeroise between steps 1 and 4 of R414. -/
structure Onyx where
  keys     : Bool
  nvmKeys  : Bool
  kroot    : Bool
  certOk   : Bool
  provGen  : Bool
  owned    : Bool
  ownerId  : List Byte
  ownerKey : Nat
  oldOwners : List (List Byte)
  sealed_  : Bool
  zero     : Bool
  zlatch   : Bool
  latch    : Vector Bool 4
  nowTrip  : Vector Bool 4
  due      : Vector Bool 4
  levels   : Vector Nat 4
  zeroing  : Bool
  release  : Option (List Byte × Nat)
  zepoch   : Nat
  zcellDue : Bool
  fwMin    : Word
  nonce    : Option (Vector Word 4 × Nat)
  nonceReg : Vector Word 4
  rngFlt   : Bool
  reseedAt : Nat
  dbg      : Option (Bool × Bool × Nat)
  sessions : List Session
  fails    : List TlsFail
  blocked  : List TlsFail
  dbgWin   : List Byte
  enrolWin : List Byte
  certWin  : List Byte
  csr      : List Byte
deriving DecidableEq, Repr

def Onyx.reset : Onyx where
  keys := false; nvmKeys := true; kroot := false; certOk := true; provGen := false; owned := false; ownerId := []; ownerKey := 0
  oldOwners := []; sealed_ := false; zero := false; zlatch := false; latch := tbl 4 false; nowTrip := tbl 4 false; due := tbl 4 false
  levels := #v[1, 0, 0, 0]; zeroing := false
  release := none; zepoch := 0; zcellDue := false; fwMin := 0; nonce := none; nonceReg := tbl 4 0
  rngFlt := false; reseedAt := 0; dbg := none; sessions := []; fails := []; blocked := []; dbgWin := []
  enrolWin := []; certWin := []; csr := []

/-! ## The test access port (R441) -/

/-- The states of the controller of IEEE 1149.1. -/
inductive TapState where
  | testLogicReset | runTestIdle | selectDr | captureDr | shiftDr | exit1Dr | pauseDr | exit2Dr | updateDr
  | selectIr | captureIr | shiftIr | exit1Ir | pauseIr | exit2Ir | updateIr
deriving DecidableEq, Repr

/-- The instructions of the port (R441). -/
inductive TapInstr where
  | idcode | bypass | sample | extest
deriving DecidableEq, Repr

/-- The debug pins as a test access port (R441): the controller, the instruction register, and the bypass bit. In Test-Logic-Reset the
instruction is IDCODE (PRESUMED, log 135: IEEE 1149.1). -/
structure Tap where
  state  : TapState
  instr  : TapInstr
  bypass : Bool
deriving DecidableEq, Repr

def Tap.reset : Tap := ⟨.testLogicReset, .idcode, false⟩

end Sys2Proof.Machine
end

