-- ==== Sys2Proof/Machine/TypesRing.lean ====
section
/-! DEFINITION. The state of the Mladin ring (chapter 08) and of the emergency modes (09). Shares and capacities are
quanta, whole numbers; times are nanoseconds of `State.up` unless a field says otherwise. -/

namespace Sys2Proof.Machine

/-! ## Frames -/

/-- The member states of R193. -/
inductive MemberState where
  | none_ | idle | joining | share | draining | drained | service | out | isolated
deriving DecidableEq, Repr

def MemberState.code : MemberState → Nat
  | .none_ => 0 | .idle => 1 | .joining => 2 | .share => 3 | .draining => 4 | .drained => 5
  | .service => 6 | .out => 7 | .isolated => 8

def MemberState.ofCode : Nat → MemberState
  | 1 => .idle | 2 => .joining | 3 => .share | 4 => .draining | 5 => .drained
  | 6 => .service | 7 => .out | 8 => .isolated | _ => .none_

/-- The MBR[m] entry of a ring frame (R184). -/
structure MbrEntry where
  mstate : MemberState
  weight : Nat
  held   : Int
  rel    : Int
  cpos   : Nat
  cneg   : Nat
deriving DecidableEq, Repr

def MbrEntry.reset : MbrEntry := ⟨.none_, 0, 0, 0, 0, 0⟩

/-- The group state carried in GROUP bits 1 and 0 (R184). -/
inductive GroupState where
  | stopped | starting | running | stopping
deriving DecidableEq, Repr

/-- The fields of a ring frame that carry a value (R184). TYPE and CRC are judged when a copy arrives; the bytes that the
table sends as 0 are left out. -/
structure RingFrame where
  pos     : Nat
  noRef   : Bool
  lead    : Bool
  cycle   : BitVec 16
  seen    : BitVec 8
  leadPos : Option Nat
  group   : GroupState
  brkSt   : Nat
  mode    : Nat
  time    : BitVec 64
  cfgid   : Word
  demand  : Int
  dinf    : Int
  speed   : Rat
  brdem   : Nat
  tprev   : Rat
  nwound  : Int
  mbr     : Vector MbrEntry 4
  chcap   : Vector Nat 4
deriving DecidableEq, Repr

def RingFrame.reset : RingFrame where
  pos := 0; noRef := false; lead := false; cycle := 0; seen := 0; leadPos := none; group := .stopped
  brkSt := 0; mode := 0; time := 0; cfgid := 0; demand := 0; dinf := 0; speed := 0; brdem := 0; tprev := 0
  nwound := 0; mbr := tbl 4 .reset; chcap := tbl 4 0

/-! ## Positions, members and the allocation -/

/-- What a module holds about ring position p: the copies of the cycle under way, the last usable frames with their cycle
numbers (newest first, four at most) and the `POSSTAT[p]` fields (R183, R188, R196). -/
structure RingPos where
  copyA   : Option RingFrame
  copyB   : Option RingFrame
  recent  : List (Nat × RingFrame)
  lastCyc : BitVec 16
  miss    : Nat
  ause    : Bool
  buse    : Bool
  visible : Bool
deriving DecidableEq, Repr

def RingPos.reset : RingPos :=
  { copyA := none, copyB := none, recent := [], lastCyc := 0, miss := 0, ause := false, buse := false, visible := false }

/-- An allocation of R189: DINF, and for each of the 8 × 4 keys (position, then motor object) its share, whether it was
eligible and whether its share equals its capacity; with the braking shares of R199 by position and chopper. -/
structure Alloc where
  dinf    : Int
  share   : Vector Int 32
  elig    : Vector Bool 32
  capped  : Vector Bool 32
  brShare : Vector Nat 32
deriving DecidableEq, Repr

def Alloc.reset : Alloc := ⟨0, tbl 32 0, tbl 32 false, tbl 32 false, tbl 32 0⟩

/-- Why a member stands in OUT (R194): it decides what returns it to IDLE. -/
inductive OutCause where
  | reaction | failed | degradeHold
deriving DecidableEq, Repr

/-- The member registers of MO[m] (`MBRSTAT`, `MBRHELD`, `MBRREL`, `MBRCPOS`, `MBRCNEG`; R191 to R197) and what the member
state machine remembers: the ramp factor of R195 and R201, when it last moved, the hold of R197, the factor at which a drain began, and the share written into QF[8+n]. `owed` is the cycle at whose boundary a share that a render wrote
ahead of it becomes held (R190). -/
structure Member where
  state    : MemberState
  dhold    : Bool
  ramp     : Bool
  held     : Int
  rel      : Int
  cpos     : Nat
  cneg     : Nat
  factor   : Rat
  rampAt   : Nat
  from_    : Rat
  holdAt   : Option Nat
  fullAtOnce : Bool
  outCause : OutCause
  written  : Int
  owed     : Option Nat
deriving DecidableEq, Repr

def Member.reset : Member where
  state := .none_; dhold := false; ramp := false; held := 0; rel := 0; cpos := 0; cneg := 0; factor := 0
  rampAt := 0; from_ := 1; holdAt := none; fullAtOnce := false; outCause := .reaction; written := 0
  owed := none

/-- The ring registers of a module (`RINGSTAT`, `RINGDEM`, `RINGTERR` and the counters; R181 to R199). `adegN` and `bdegN`
count cycles without a valid frame, `agoodN` and `bgoodN` cycles with one; `aSeen`, `bSeen` mark a valid frame in the cycle
under way. `nextAlloc`, `nextLead` and `loseQuorum` take effect at the next boundary; `rx` says that copies of the present cycle are taken.
`sumPos`, `sumNeg` are Σ C of R189, `demand` the demand D of the last lead frame used, and `cut` says that the last allocation was
limited by the capacity of the group. `sentA` and `sentB` are the frames that went out on each ring in the present cycle, in their order
(R182). -/
structure Ring where
  on       : Bool
  conflict : Bool
  k        : Nat
  tlock    : Bool
  lockN    : Nat
  stepped  : Bool
  terr     : Int
  delayA   : Nat
  delayB   : Nat
  adeg     : Bool
  bdeg     : Bool
  adegN    : Nat
  bdegN    : Nat
  agoodN   : Nat
  bgoodN   : Nat
  aSeen    : Bool
  bSeen    : Bool
  quorum   : Bool
  quorumN  : Nat
  loseQuorum : Bool
  leadPos  : Option Nat
  nextLead : Option (Option Nat)
  noLead   : Bool
  rx       : Bool
  group    : GroupState
  frozen   : Bool
  consFail : Nat
  demand   : Int
  missCnt  : Cnt
  crcCnt   : Cnt
  consCnt  : Cnt
  crcSeen  : Bool
  alloc    : Alloc
  nextAlloc : Option Alloc
  own      : RingFrame
  pos      : Vector RingPos 8
  mbr      : Vector Member 4
  brdem    : Nat
  sumPos   : Nat
  sumNeg   : Nat
  cut      : Bool
  sentA    : List RingFrame
  sentB    : List RingFrame
deriving DecidableEq, Repr

def Ring.reset : Ring where
  on := false; conflict := false; k := 0; tlock := false; lockN := 0; stepped := false; terr := 0
  delayA := 0; delayB := 0; adeg := false; bdeg := false; adegN := 0; bdegN := 0; agoodN := 0; bgoodN := 0
  aSeen := false; bSeen := false; quorum := false; quorumN := 0; loseQuorum := false; leadPos := none
  nextLead := none; noLead := false; rx := false; group := .stopped; frozen := false; consFail := 0; demand := 0
  missCnt := .zero; crcCnt := .zero; consCnt := .zero; crcSeen := false; alloc := .reset; nextAlloc := none
  own := .reset; pos := tbl 8 .reset; mbr := tbl 4 .reset; brdem := 0; sumPos := 0; sumNeg := 0
  cut := false; sentA := []; sentB := []

/-! ## Emergency modes -/

/-- The entry in force, `EMSTAT.EMODE` (R203). -/
inductive EMode where
  | modeLaw | cat0 | cat1 | quick | cat2 | eqr | cro | sla
deriving DecidableEq, Repr

def EMode.code : EMode → Nat
  | .modeLaw => 0 | .cat0 => 1 | .cat1 => 2 | .quick => 3 | .cat2 => 4 | .eqr => 5 | .cro => 6 | .sla => 7

/-- The rank of an entry in R203, 2 the highest that the module itself holds. -/
def EMode.prio : EMode → Nat
  | .cat0 => 2 | .eqr => 3 | .cro => 4 | .quick => 5 | .cat1 => 6 | .sla => 7 | .cat2 => 8 | .modeLaw => 9

/-- Who asked for a stop of category 1 or 2: a command, or a reaction that must still persist to start when held pending
(R203). -/
inductive StopBy where
  | command | reaction
deriving DecidableEq, Repr

/-- The phases of degraded operation (R214). -/
inductive DegrPhase where
  | none_ | waiting | on | failed
deriving DecidableEq, Repr

/-- The emergency registers of MO[m] (`EMSTAT`, `ETAVAIL`, `ETUSED`, `EMPAY`, `ETCNT`; R203 to R214). `pend` are the stops
held pending, in the order of R203. `etBins` is the window of R210: (second of device time, milliseconds of override in it)
for the bins that are not empty, newest first. -/
structure Emerg where
  mode     : EMode
  stopBy   : StopBy
  stopped  : Bool
  wRef     : Rat
  pend     : List (EMode × StopBy)
  eqrPin   : Bool
  eqrEnding : Bool
  eqrV     : Rat
  noSpool  : Bool
  free     : Bool
  empay    : Rat
  payAt    : Rat
  since    : Nat
  w0       : Rat
  over_    : Option Nat
  under    : Option Nat
  slack    : Option Nat
  slackTold : Bool
  lineEnd  : Bool
  slaRest  : Bool
  etAct    : Bool
  etFade   : Bool
  etAt     : Nat
  etDevAt  : Nat
  etBins   : List (Nat × Nat)
  etFull   : List Nat
  etCnt    : Cnt
  etTsw    : Rat
  etTw     : Rat
  lossDue  : Bool
  lossAt   : Nat
  escDone  : Bool
  boAt     : Nat
  boWait   : Bool
  boGoodAt : Option Nat
  degr     : DegrPhase
  degrRank : Nat
  degrAuto : Bool
  degrRun  : Bool
deriving DecidableEq, Repr

def Emerg.reset : Emerg where
  mode := .modeLaw; stopBy := .command; stopped := false; wRef := 0; pend := []
  eqrPin := false; eqrEnding := false; eqrV := 0; noSpool := false; free := false; empay := 0
  payAt := 0; since := 0; w0 := 0; over_ := none; under := none; slack := none; slackTold := false; lineEnd := false; slaRest := false; etAct := false
  etFade := false; etAt := 0; etDevAt := 0; etBins := []; etFull := []; etCnt := .zero; etTsw := 0; etTw := 0
  lossDue := false; lossAt := 0; escDone := false; boAt := 0; boWait := false; boGoodAt := none; degr := .none_; degrRank := 0; degrAuto := false; degrRun := false

end Sys2Proof.Machine
end

