-- ==== Sys2Proof/Machine/TypesDrive.lean ====
section
/-! DEFINITION. The state of the drive side: measurement cells (chapter 02), PWM and current loops (03), position
interfaces and start machines (04), command sources, outer loops and brakes (05). Each structure is plain data with its
value at reset beside it. Times are nanoseconds of `State.up`, the time since the last release of reset. -/

namespace Sys2Proof.Machine

/-! ## Measurement cells -/

/-- A result word, `RES[k][e]`, `INJRES[k][e]` or `HKRES[ch]` (R49 to R52, register table of chapter 02). -/
structure AdcRes where
  fresh   : Bool
  ovr     : Bool
  suspect : Bool
  rerun   : Bool
  late    : Bool
  cv      : Nat
  value   : Int
deriving DecidableEq, Repr

def AdcRes.reset : AdcRes := ⟨false, false, false, false, false, 0, 0⟩

/-- One conversion list in progress: the entry, the sample of its burst, the accumulator and its gathered flags (R49,
R50), and the results so far. -/
structure SeqRun where
  active : Bool
  entry  : Nat
  sample : Nat
  acc    : Int
  ovr    : Bool
  sus    : Bool
  rerun  : Bool
  late   : Bool
  hold   : Nat
  work   : Vector AdcRes 16
deriving DecidableEq, Repr

def SeqRun.idle : SeqRun := ⟨false, 0, 0, 0, false, false, false, false, 0, tbl 16 .reset⟩

/-- A sequencer SQ[k]: its regular and injected sequence, the pending regular trigger of R48, the converter it is bound
to (R38, R59, R61), the time from which an idle one tracks its regular entry 0 (R42), and its result registers. -/
structure Sequencer where
  reg      : SeqRun
  inj      : SeqRun
  regPend  : Bool
  conv     : Option (Fin 5)
  track    : Nat
  res      : Vector AdcRes 16
  injRes   : Vector AdcRes 4
  stamp    : Nat
  injStamp : Nat
deriving DecidableEq, Repr

def Sequencer.reset : Sequencer :=
  ⟨.idle, .idle, false, none, 0, tbl 16 .reset, tbl 4 .reset, 0, 0⟩

/-- What a converter does at present, `CVSTAT[c].ROLE`. -/
inductive CvRole where
  | bound (k : Fin 4) | spare | failed | calibrating | uncalibrated
deriving DecidableEq, Repr

/-- A SAR converter CV[c]: its role, when it was last calibrated (its AGE is counted from there), factors (R56, R61) and the
SUSPECT mark of its next sample (R51). -/
structure Converter where
  role    : CvRole
  calAt   : Option Nat
  fail    : Bool
  ofs     : Int
  gain    : Nat
  mis     : Vector Int 6
  susNext : Bool
deriving DecidableEq, Repr

def Converter.reset : Converter := ⟨.uncalibrated, none, false, 0, 0x8000, tbl 6 0, false⟩

/-- The SUSPECT window that an input beyond a rail opens for the others of its cell (R52): whether it is open, since when, and
when ORAIL cleared or, of a closed one, when it closed. -/
structure RailWindow where
  open_ : Bool
  from_ : Nat
  at_   : Nat
deriving DecidableEq, Repr

/-- A control cell AC[n] (`CELLCTL`, `CELLSTAT`, `CALSTAT`, counters) with the running facts behind those bits. -/
structure Cell where
  refen      : Bool
  rdy        : Bool
  orail      : Vector Bool 12
  window     : Vector (Option RailWindow) 12
  refflt     : Bool
  refBad     : Nat
  refGood    : Nat
  bgAct      : Bool
  bgStep     : Nat
  bgRounds   : Cnt
  bgLast     : Option Nat
  bgTemp     : Option (Vector Int 6)
  bgNow      : Bool
  offline    : Bool
  fullPend   : Bool
  calLast    : Nat
  calibrated : Bool
  trgMiss    : Cnt
  injMiss    : Cnt
  regOvr     : Cnt
  injOvr     : Cnt
  missSeen   : Bool
  injMissSeen : Bool
  regOvrSeen : Bool
  injOvrSeen : Bool
  clean      : Vector Bool 12
  sq         : Vector Sequencer 4
  cv         : Vector Converter 5
deriving DecidableEq, Repr

/-- Before its first conversion an input counts as clean, so its first OVR raises ANA_OVR: R51 speaks of a clean conversion before it and
does not say what holds without one (DESIGN CHOICE, log 128). TRG_MISSED and INJ_MISSED wait for what arms them. -/
def Cell.reset : Cell where
  refen := false; rdy := false
  orail := tbl 12 false; window := tbl 12 none
  refflt := false; refBad := 0; refGood := 0
  bgAct := false; bgStep := 0; bgRounds := .zero; bgLast := none; bgTemp := none; bgNow := false
  offline := false; fullPend := false; calLast := 0; calibrated := false
  trgMiss := .zero; injMiss := .zero; regOvr := .zero; injOvr := .zero
  missSeen := true; injMissSeen := true; regOvrSeen := false; injOvrSeen := false
  clean := tbl 12 true
  sq := tbl 4 .reset; cv := tbl 5 .reset

/-- The housekeeping cell (R62, R63): results, which channels have a first result, the test DAC and the last
calibration answer, and its one configurable sequence SQ[1], which HCV[1] converts. `scanSus` marks the next result of HCV[0], `susNext`
the next of HCV[1], and `clean` is as in a control cell (R51). -/
structure HkCell where
  res     : Vector AdcRes 32
  seen    : Vector Bool 32
  dac     : BitVec 12
  calLast : Nat
  sq      : Sequencer
  trgMiss : Cnt
  regOvr  : Cnt
  regOvrSeen : Bool
  missSeen : Bool
  susNext : Bool
  scanSus : Bool
  clean   : Vector Bool 32
  dieTemp : Rat
deriving DecidableEq, Repr

def HkCell.reset : HkCell :=
  ⟨tbl 32 .reset, tbl 32 false, 0, 0, { Sequencer.reset with conv := some 1 }, .zero, .zero, false, false, false, false, tbl 32 true, 0⟩

/-! ## PWM and current loops -/

/-- The compare thresholds of a bridge, in sixteenths of a count, with the modulation law they came from
(`PWMCMP[g]`, `PWMSTAT.MODACT`), how many intervals of one half period the rounding of R72 altered, the region of each
phase of an NPC bridge (R71), and the voltage vector that they give, in α and β (R102). -/
structure CmpSet where
  thr  : Vector Nat 12
  law  : Nat
  alt  : Nat
  neg  : Vector Bool 3
  vab  : Vector Rat 2
deriving DecidableEq, Repr

def CmpSet.reset : CmpSet := ⟨tbl 12 0, 0, 0, tbl 3 false, tbl 2 0⟩

/-- A gate channel as the edges given to it so far leave it: its level, and when the last of them falls (R70, R72). Edge times
are sixteenths of a count, counted as `State.up`. -/
structure GateCh where
  on  : Bool
  at_ : Nat
deriving DecidableEq, Repr

/-- An edge at a gate channel of a bridge, named by its offset. -/
structure GateEdge where
  at_ : Nat
  ch  : Fin 12
  on  : Bool
deriving DecidableEq, Repr

/-- The gate edges of a bridge (R69 to R72): the levels before the edges listed, the edges of this half period and those that
dead time or TMIN carries past it, and the channels as they leave them; `held` counts the edges that TMIN has held back, and `asOf` is
the time in nanoseconds at which they were worked out. -/
structure Gates where
  before : Vector Bool 12
  edges  : List GateEdge
  chan   : Vector GateCh 12
  held   : Nat
  asOf   : Nat
deriving DecidableEq, Repr

def Gates.reset : Gates := ⟨tbl 12 false, [], tbl 12 ⟨false, 0⟩, 0, 0⟩

/-- The PWM registers and carrier of the bridge whose first slot is the index (R65 to R78, R92). `atPeak` says that
its last turning point was a peak, `turnAt` when that was; `th` is the electrical angle latched at its last instant (R80) and
`stamp` the device time from which on a measurement item belongs to that instant (R79); `smp` holds the codes in use of the inputs that
the bridge names: three currents, link, three phase voltages and midpoint; `dhat` and `ipred` are the disturbance estimate and
the last prediction of the predictive controller (R82); `vab` is the voltage vector of the period that ended with the last instant (R102); `prim` says that compare values have become active since the gates went
on. -/
structure Pwm where
  run      : Bool
  chalf    : Nat
  turnAt   : Nat
  atPeak   : Bool
  hold     : Bool
  npUnbal  : Bool
  vsat     : Bool
  dpwm1    : Bool
  minpCnt  : Cnt
  vsatCnt  : Cnt
  npdv     : Rat
  active   : CmpSet
  posted   : Option CmpSet
  gates    : Gates
  prim     : Bool
  minp     : Bool
  th       : Rat
  stamp    : BitVec 64
  smp      : Vector Int 8
  dhat     : Vector Rat 2
  ipred    : Vector Rat 2
  missed   : Bool
  misses   : Nat
  xd       : Rat
  xq       : Rat
  xc       : Vector Rat 3
  ic       : Vector Rat 3
  iab      : Vector Rat 3
  vab      : Vector Rat 2
  vd       : Rat
  vq       : Rat
deriving DecidableEq, Repr

def Pwm.reset : Pwm where
  run := false; chalf := 0; turnAt := 0; atPeak := false
  hold := false; npUnbal := false; vsat := false; dpwm1 := false
  minpCnt := .zero; vsatCnt := .zero; npdv := 0
  active := .reset; posted := none; gates := .reset; prim := false; minp := false; th := 0; stamp := 0; smp := tbl 8 0
  dhat := tbl 2 0; ipred := tbl 2 0
  missed := false; misses := 0
  xd := 0; xq := 0; xc := tbl 3 0; ic := tbl 3 0; iab := tbl 3 0; vab := tbl 2 0; vd := 0; vq := 0

/-- The loop registers of MO[m] (`LOOPSTAT`, the loop float registers, `LPOVR`, `LPSTALE`, `LPCIRC`); `tref` is the torque
reference in use, `fluxAng` the rotor flux angle of an induction motor (R86), `mpcTop` the electrical speed at which the gain
matrices of R82 end. -/
structure LoopSt where
  idRef  : Rat
  iqRef  : Rat
  id     : Rat
  iq     : Rat
  vd     : Rat
  vq     : Rat
  vm     : Rat
  dfw    : Rat
  imax   : Rat
  ovr    : Cnt
  stale  : Cnt
  ovrSeen : Bool
  circ   : Vector Rat 4
  circHi : Bool
  ovr3   : Bool
  fwLim  : Bool
  fwAct  : Bool
  iLim   : Bool
  tLim   : Bool
  vsat   : Bool
  run    : Bool
  nbr    : Nat
  mpc    : Bool
  tref   : Rat
  fluxAng : Rat
  mpcTop  : Rat
deriving DecidableEq, Repr

def LoopSt.reset : LoopSt where
  idRef := 0; iqRef := 0; id := 0; iq := 0; vd := 0; vq := 0; vm := 0; dfw := 0; imax := 0
  ovr := .zero; stale := .zero; ovrSeen := false; circ := tbl 4 0
  circHi := false; ovr3 := false; fwLim := false; fwAct := false; iLim := false; tLim := false
  vsat := false; run := false; nbr := 0; mpc := false; tref := 0; fluxAng := 0; mpcTop := 0

/-! ## Position interfaces and the start machine -/

/-- A position interface PI[k] (`PISTAT`, `PIPOS`, `PISPD`, `PIERR`, `PIAMP`; R94 to R100). `fault` says that a sensor fault has not
been cleared by ERRCLR, `ampBad` that the amplitude still reads outside, `needZ` that Z has yet to be seen again (R100); `badAt` are
the times of the last illegal transitions, `ssiBad` the bad frames in a row; `raw`, `edge`, `latAt` and `latFor` belong to the last
reading: its steps, the time of its last edge in counts of 2.5 ns, and the instant and the bridges it is for; `first` says that none
has been taken yet. `lastZ` is the place of the last Z in steps, `zOfs` the count offset in use in turns and `found` that it has been
found (R99). -/
structure PosIf where
  excf    : Bool
  ampLo   : Bool
  illegal : Bool
  lineBrk : Bool
  ssiErr  : Bool
  zSeen   : Bool
  abs     : Bool
  valid   : Bool
  on      : Bool
  fault   : Bool
  ampBad  : Bool
  needZ   : Bool
  pos     : BitVec 64
  spd     : Rat
  err     : Cnt
  amp     : Rat
  badAt   : List Nat
  ssiBad  : Nat
  first   : Bool
  raw     : Int
  edge    : Nat
  latUp   : Nat
  latAt   : BitVec 64
  latFor  : Vector Bool 8
  lastZ   : Option Int
  zOfs    : Rat
  found   : Bool
deriving DecidableEq, Repr

def PosIf.reset : PosIf where
  excf := false; ampLo := false; illegal := false; lineBrk := false; ssiErr := false
  zSeen := false; abs := false; valid := false; on := false; fault := false; ampBad := false; needZ := false
  pos := 0; spd := 0; err := .zero; amp := 0; badAt := []; ssiBad := 0; first := true; raw := 0; edge := 0
  latUp := 0; latAt := 0; latFor := tbl 8 false; lastZ := none; zOfs := 0; found := false

/-- The states of the start machine (R106). -/
inductive StartState where
  | idle | measure | sync | hfi | align | iframp | search | flux | run | pause | failed
deriving DecidableEq, Repr

/-- The code of R106, shown in `STARTSTAT.STATE`. -/
def StartState.code : StartState → Nat
  | .idle => 0 | .measure => 1 | .sync => 2 | .hfi => 3 | .align => 4 | .iframp => 5 | .search => 6
  | .flux => 7 | .run => 8 | .pause => 9 | .failed => 10

/-- The angle source, `STARTSTAT.ASRC` (R101). -/
inductive AngleSrc where
  | sensor | observer | hfi | forced
deriving DecidableEq, Repr

def AngleSrc.code : AngleSrc → Nat
  | .sensor => 0 | .observer => 1 | .hfi => 2 | .forced => 3

/-- The start registers of MO[m] (R106 to R114) and the back-EMF observer of R102. `peak2` is the square of the largest current
seen while settling, `turning` says that a turning motor is being taken over, `ramp` is the start of the 20 ms ramp of R113; `fHz` is
the frequency of the forced angle (R103), `angAt` the instant of the angle in use, `hfiPos` the sign of the injected voltage and `hfiIq` the q-axis current before (R103),
`polN` counts the instants of the polarity test (R112); `emfAng`, `emfW` and `emfMag` belong to the tracking of the terminal voltage
(R108, R109); `pPos` and `cross` are the sign of the active power and the crossing of the speed search (R109). -/
structure Start where
  state    : StartState
  retry    : Nat
  reason   : Nat
  reverse  : Bool
  caught   : Bool
  asrc     : AngleSrc
  ang      : Rat
  angAt    : Nat
  spd      : Rat
  catchSpd : Rat
  fail     : Cnt
  since    : Nat
  extended : Bool
  lamA     : Rat
  lamB     : Rat
  wPll     : Rat
  obsAng   : Rat
  obsErr   : Rat
  lockCnt  : Nat
  locked   : Bool
  mismAt   : Option Nat
  fallback : Bool
  peak2    : Rat
  turning  : Bool
  ramp     : Option (Nat × Rat × Rat)
  fHz      : Rat
  hfiPos   : Bool
  hfiIq    : Rat
  polN     : Nat
  emfAng   : Rat
  emfW     : Rat
  emfMag   : Rat
  pPos     : Bool
  cross    : Option Rat
deriving DecidableEq, Repr

def Start.reset : Start where
  state := .idle; retry := 0; reason := 0; reverse := false; caught := false; asrc := .sensor
  ang := 0; angAt := 0; spd := 0; catchSpd := 0; fail := .zero; since := 0; extended := false
  lamA := 0; lamB := 0; wPll := 0; obsAng := 0; obsErr := 0; lockCnt := 0; locked := false
  mismAt := none; fallback := false; peak2 := 0; turning := false; ramp := none
  fHz := 0; hfiPos := false; hfiIq := 0; polN := 0; emfAng := 0; emfW := 0; emfMag := 0; pPos := false; cross := none

/-! ## Commands, outer loops and brakes -/

/-- A setpoint channel SPC[j]: its number and the time of its last refresh (R116); the last SEQ byte and the discard
counter of R374. -/
structure SetpointCh where
  value : Rat
  at_   : Option Nat
  seq   : Option Nat
  disc  : Cnt
deriving DecidableEq, Repr

def SetpointCh.reset : SetpointCh := ⟨0, none, none, .zero⟩

/-- A setpoint under measurement (R33): when it came in, and how far it has come. -/
inductive LatStage where
  | new | taken | latched | posted
deriving DecidableEq, Repr

/-- `stage` follows the torque reference formed from the setpoint: taken by the outer loop, in a ring group latched in a frame,
posted to the current loops; then each bridge posts (1) and loads (2) compare values that reflect it. -/
structure LatRun where
  start : Nat
  stage : LatStage
  bridge : Vector Nat 8
deriving DecidableEq, Repr

/-- The command registers of MO[m] (`CMDSTAT`, `SETPT`, `CMDREF`, `CMDLAT`; R116 to R123, R33). `setptReg` is `SETPT`
as written, `setpt` its number. `xfer` is a requested transfer and when it was asked for; `xferOk` says that its source was inside the
window at the request, so that its next value makes it. `lossRamp` says that a loss brings the payout speed of a POSITION loop to 0
(R122). -/
structure Command where
  valid    : Vector Bool 4
  actSrc   : Fin 4
  curveOn  : Bool
  onSign   : Int
  xfer     : Option (Fin 4 × Nat)
  xferOk   : Bool
  lost     : Bool
  setpt    : Rat
  setptReg : Word
  setptAt  : Option Nat
  y        : Rat
  target   : Rat
  ref      : Rat
  refSpd   : Rat
  latRuns  : List LatRun
  latLast  : Nat
  latMax   : Nat
  lossRamp : Bool
deriving DecidableEq, Repr

def Command.reset : Command where
  valid := tbl 4 false; actSrc := 0; curveOn := false; onSign := 0; xfer := none
  xferOk := false; lost := false; setpt := 0; setptReg := 0; setptAt := none; y := 0; target := 0; ref := 0; refSpd := 0
  latRuns := []; latLast := 0; latMax := 0; lossRamp := false

/-- The outer-loop modes, coded as `CMDCTL.MODE` (R124). -/
inductive OlMode where
  | torque | speed | tension | position
deriving DecidableEq, Repr

def OlMode.code : OlMode → Nat
  | .torque => 0 | .speed => 1 | .tension => 2 | .position => 3

def OlMode.ofCode : Nat → OlMode
  | 0 => .torque | 1 => .speed | 2 => .tension | _ => .position

/-- The outer loop of MO[m] (`OLSTAT`, `OLTLOAD`, `OLTENS`, `OLPAY`, `OLREFF`, `OLWOUND`; R124 to R131), the DERATE
factor on its way (R126) and the standstill of R136. `hold` is the payout of a position hold in force, `est` the tension of the EST formula, `law` the code of the law that
the last period ran: the integrators are preset where it changes; `tRaw` is its torque before the limiter, and `spoolSet` the register `SPOOLSETV`. `slow`
is the first of the period starts since which |ω| has been below 1 % of rated speed without a break (R467). -/
structure Outer where
  mode     : OlMode
  modePend : Option OlMode
  spoolOk  : Bool
  tSpd     : Bool
  short    : Bool
  layer    : Nat
  tLoad    : Rat
  wHat     : Rat
  est      : Rat
  tens     : Rat
  pay      : Rat
  rEff     : Rat
  wound    : Rat
  spoolSet : Word
  xs       : Rat
  xf       : Rat
  tPrev    : Rat
  wPrev    : Rat
  wRefPrev : Rat
  angPrev  : Rat
  derate   : Rat
  hold     : Option Rat
  law      : Nat
  refVel   : Rat
  tRaw     : Rat
  slow     : Option Nat
deriving DecidableEq, Repr

def Outer.reset : Outer where
  mode := .speed; modePend := none; spoolOk := false; tSpd := false; short := false; layer := 0
  tLoad := 0; wHat := 0; est := 0; tens := 0; pay := 0; rEff := 0; wound := 0; spoolSet := 0; xs := 0; xf := 0
  tPrev := 0; wPrev := 0; wRefPrev := 0; angPrev := 0; derate := 1; hold := none; law := 0; refVel := 0; tRaw := 0; slow := none

/-- The brake sequence states (R133). -/
inductive BrakeState where
  | closed | proving | opening | open_ | closing | slipTest | holdFault
deriving DecidableEq, Repr

def BrakeState.code : BrakeState → Nat
  | .closed => 0 | .proving => 1 | .opening => 2 | .open_ => 3 | .closing => 4 | .slipTest => 5 | .holdFault => 6

/-- The brake registers of MO[m] (`BRKSTAT`, `BRKHOLD`, `BRKFAIL`; R133 to R135) and what the sequence remembers: `start` is the
shaft angle at the beginning of a proof or slip test, in turns, and `from_` the T* at which a stop met a proof (R135). -/
structure Brake where
  state   : BrakeState
  proved  : Bool
  slip    : Bool
  hold    : Rat
  holdSet : Bool
  fail    : Cnt
  since   : Nat
  release : Bool
  runNext : Bool
  abort   : Bool
  start   : Rat
  from_   : Rat
deriving DecidableEq, Repr

def Brake.reset : Brake :=
  ⟨.closed, false, false, 0, false, .zero, 0, false, false, false, 0, 0⟩

end Sys2Proof.Machine
end

