-- ==== Sys2Proof/Machine/TypesService.lean ====
section
/-! DEFINITION. The state of the event recorder and journal (R20, R445, R464, R342, R343), the configuration image and its
changes (chapter 15), the live service mechanisms (16) and the capture buffers (R446). -/

namespace Sys2Proof.Machine

/-! ## Events on record -/

/-- A journal entry without its CRC, which is a function of the rest (R342). -/
structure Entry where
  code : Nat
  unit : Nat
  aux  : Nat
  time : BitVec 64
  data : List Byte
deriving DecidableEq, Repr

/-- The event recorder (R20, R464): entries whose grid point is open, the ring of stored entries that the writer has not
programmed, newest first, at most 8,192; the index of the next entry (kept in the VBAT domain, R445), the lost count, and the
spell of loss under way: its count, its first stamp and whether the ring has a freed slot. `held` are the events of S1 to S3
and those held for S9; `step` is the last step of device time, from and to (R382). -/
structure Recorder where
  on      : Bool
  open_   : List Entry
  ring    : List (Word × Entry)
  next    : Word
  dropped : Cnt
  spell   : Option (Nat × BitVec 64)
  held    : List Entry
  step    : Option (BitVec 64 × BitVec 64)
  lastAt  : Nat
deriving DecidableEq, Repr

def Recorder.reset : Recorder := ⟨false, [], [], 0, .zero, none, [], none, 0⟩

/-- The journal in the NOR flash (R331, R343): the written slots newest first with their slot numbers, the next slot to
write (0 to 71,679), and whether the sector whose erase started last is erased. -/
structure Journal where
  slots   : List (Nat × Word × Entry)
  wpos    : Nat
  ahead   : Bool
deriving DecidableEq, Repr

def Journal.reset : Journal := ⟨[], 0, true⟩

/-! ## Images, deltas and firmware as they arrive -/

/-- A field entry as it stands in a record (R335): identifier, FTYPE code, sub-indices, value length and value. -/
structure RawField where
  fid   : Nat
  ftype : Nat
  idx1  : Nat
  idx2  : Nat
  vlen  : Nat
  val   : CfgVal
deriving DecidableEq, Repr

/-- A record as it stands in a body (R335); `overrun` marks a LEN that runs beyond the body. -/
structure RawRec where
  typ     : Nat
  inst    : Nat
  overrun : Bool
  fields  : List RawField
deriving DecidableEq, Repr

/-- An image or a delta (R334), with the outcome of each cryptographic check that Onyx makes on its bytes: the KEYBLOB and
WRAPKID (`wrapOk`), the GCM tag and the signature by the key that SIGNER names. `hash` is the SHA-384 over its bytes. -/
structure Package where
  delta   : Bool
  magicOk : Bool
  format  : Nat
  product : Bool
  ownerId : List Byte
  wrapOk  : Bool
  form    : Nat
  tagOk   : Bool
  sigOk   : Bool
  signer  : Nat
  cfgSeq  : BitVec 64
  baseSeq : BitVec 64
  hdrLen  : Nat
  bodyLen : Nat
  hash    : List Byte
  recs    : List RawRec
deriving DecidableEq, Repr

/-- A firmware package (R406) with the outcome of its checks. -/
structure FwPackage where
  version : Word
  sigOk   : Bool
  chainOk : Bool
  ownerOk : Bool
deriving DecidableEq, Repr

/-! ## The NOR flash -/

/-- KIND of a commit record (R332). -/
inductive CrKind where
  | bank | log | fw | intent
deriving DecidableEq, Repr

def CrKind.code : CrKind → Nat
  | .bank => 1 | .log => 2 | .fw => 3 | .intent => 4

/-- A valid commit record (R332). -/
structure CommitRec where
  seq     : Nat
  kind    : CrKind
  bank    : Bool
  logArea : Bool
  fwBank  : Bool
  stash   : Bool
  target  : Bool
  nextSt  : Bool
  cfgSeq  : BitVec 64
  imgLen  : Nat
  imgHash : List Byte
  time    : BitVec 64
deriving DecidableEq, Repr

/-- A stash entry (R347): the delta's sequence, the record and its changed fields, and whether its seal verifies. -/
structure StashEntry where
  cfgSeq : BitVec 64
  typ    : Nat
  inst   : Nat
  fields : List RawField
  sealOk : Bool
deriving DecidableEq, Repr

/-- A firmware bank: the VERSION of the package it holds, none while erased or torn. -/
abbrev FwBank := Option Word

/-- The NOR flash outside the journal and the change log (R331 to R333, R347): its size in MiB, the commit records newest
first with the active sector and the slots used in it, the image banks A and B, the stash halves oldest entry first, the
firmware banks, and the shutdown record (R246). -/
structure Nor where
  sizeMiB : Nat
  crs     : List CommitRec
  crSec   : Bool
  crUsed  : Nat
  bankA   : Option Package
  bankB   : Option Package
  stash0  : List StashEntry
  stash1  : List StashEntry
  fw0     : FwBank
  fw1     : FwBank
  shutRec : List Byte
deriving DecidableEq, Repr

def Nor.reset : Nor where
  sizeMiB := 64; crs := []; crSec := false; crUsed := 0; bankA := none; bankB := none
  stash0 := []; stash1 := []; fw0 := none; fw1 := none; shutRec := []

/-! ## The image in force, deltas and commits -/

/-- A staged record of an accepted delta (R345). `carried` names the shadow slot that carries it (R358). -/
structure Staged where
  cfgSeq  : BitVec 64
  rec_    : RawRec
  signer  : List Byte
  hash    : List Byte
  carried : Option (Fin 2)
deriving DecidableEq, Repr

/-- A record in effect whose stash entry is still to be written and read back (R347). -/
structure ToStash where
  cfgSeq : BitVec 64
  rec_   : RawRec
deriving DecidableEq, Repr

/-- The states of a commit, coded as `COMMITSTAT.STATE` (R350). -/
inductive CommitStep where
  | idle | snapshot | erase | write | readBack | record
deriving DecidableEq, Repr

def CommitStep.code : CommitStep → Nat
  | .idle => 0 | .snapshot => 1 | .erase => 2 | .write => 3 | .readBack => 4 | .record => 5

/-- The bank commit (`COMMITSTAT`; R349 to R352): `owner` holds the new owner image of R352 in place of the device-built one,
`snapSeq` and `snap` the snapshot, `waiting` a submitted image that waits for a running commit; `archive` an archive of the
change log that waits for it (R353); `delay` the instant that the wait of COMMITDLY runs from (R349), `again` a commit that is due. -/
structure Commit where
  step     : CommitStep
  progress : Nat
  repeated : Bool
  aborted  : Bool
  delay    : Option Nat
  target   : Bool
  snapSeq  : BitVec 64
  snap     : List RawRec
  owner    : Option Package
  waiting  : Option Package
  again    : Bool
  archive  : Option (List Byte)
deriving DecidableEq, Repr

def Commit.reset : Commit where
  step := .idle; progress := 0; repeated := false; aborted := false; delay := none; target := false; snapSeq := 0
  snap := []; owner := none; waiting := none; again := false; archive := none

/-- The image registers (`IMGSTAT`, `CFGSEQ`, `LREPSTAT`, the load report; R337 to R341), the records that S5 hands to S6,
staged records and records awaiting their stash entry. -/
structure Image where
  loaded   : Bool
  bank     : Bool
  pend     : Bool
  fallback : Bool
  stashIgn : Bool
  noCommit : Bool
  failA    : Nat
  failB    : Nat
  cfgSeq   : BitVec 64
  bankSeq  : BitVec 64
  loadRecs : List RawRec
  report   : List Entry
  repLost  : Nat
  repSat   : Bool
  staged   : List Staged
  toStash  : List ToStash
  dirty    : Bool
deriving DecidableEq, Repr

def Image.reset : Image where
  loaded := false; bank := false; pend := false; fallback := false; stashIgn := false; noCommit := false
  failA := 0; failB := 0; cfgSeq := 0; bankSeq := 0; loadRecs := []; report := []; repLost := 0; repSat := false
  staged := []; toStash := []; dirty := false

/-! ## Shadow execution, firmware and availability -/

/-- The states of a shadow slot, coded as `SHSTAT.STATE` (R356). -/
inductive ShadowState where
  | idle | prep | shadow | ready | switch | done | abort
deriving DecidableEq, Repr

def ShadowState.code : ShadowState → Nat
  | .idle => 0 | .prep => 1 | .shadow => 2 | .ready => 3 | .switch => 4 | .done => 5 | .abort => 6

/-- KIND of a shadow (R354). -/
inductive ShadowKind where
  | move | current | outer
deriving DecidableEq, Repr

def ShadowKind.code : ShadowKind → Nat
  | .move => 0 | .current => 1 | .outer => 2

/-- A shadow slot SH[s] (`SHSTAT`, `SHMATCH`, `SHMISM`, `SHMAXD`; R354 to R359). `mirror` counts the copies waiting in the
mirror buffer of each input flow, by flow index; `tries` the boundaries at which a switch was deferred; `diff` the largest
difference of the other bridges since the rank-0 one was compared; `since` is when the state was entered. Then the state of the shadow tasks, copied when SHADOW is
entered, and the last differences of v_d and v_q by bridge, and of T*. -/
structure Shadow where
  state   : ShadowState
  kind    : ShadowKind
  task    : Nat
  mo      : Fin 4
  target  : Fin 16
  reason  : Nat
  carry   : Bool
  matches_ : Nat
  mism    : Cnt
  maxd    : Rat
  tries   : Nat
  diff    : Rat
  mirror  : List (Nat × Nat)
  since   : Nat
  pwm     : Vector Pwm 8
  loop    : LoopSt
  start   : Start
  outer   : Outer
  dv      : Vector (Rat × Rat) 8
  dt      : Rat
deriving DecidableEq, Repr

def Shadow.reset : Shadow where
  state := .idle; kind := .move; task := 0; mo := 0; target := 0; reason := 0; carry := false
  matches_ := 0; mism := .zero; maxd := 0; tries := 0; diff := 0; mirror := []; since := 0
  pwm := tbl 8 .reset; loop := .reset; start := .reset; outer := .reset; dv := tbl 8 (0, 0); dt := 0

/-- Where a firmware update stands, coded as `FWSTAT.STEP` (R360). -/
inductive FwStep where
  | idle | writing | waiting | probation
deriving DecidableEq, Repr

def FwStep.code : FwStep → Nat
  | .idle => 0 | .writing => 1 | .waiting => 2 | .probation => 3

/-- The management firmware (`FWSTAT`, `FWVER`; R360 to R362). `oldCode` lists the tasks on old loop code, `since` the start of the trial and of its
probation. -/
structure Firmware where
  bank     : Bool
  step     : FwStep
  trial    : Bool
  pkg      : Option FwPackage
  repeated : Bool
  oldCode  : List Nat
  since    : Nat
deriving DecidableEq, Repr

def Firmware.reset : Firmware := ⟨false, .idle, false, none, false, [], 0⟩

/-- Availability accounting (`AVINSVC` to `AVRATIO`; R365 to R367): the four classes in milliseconds, the spells under way,
the motor objects commanded to run and those stopped by the owner, a software restart still counted as LOST, whether the last
reset took a new image into force, and the counts of the newest snapshot with its time. -/
structure Avail where
  insvc  : Nat
  lost   : Nat
  excl   : Nat
  void   : Nat
  inLost : Bool
  inVoid : Bool
  cmdRun : Vector Bool 4
  owner  : Vector Bool 4
  swLost : Bool
  newImage : Bool
  snapAt : BitVec 64
  saved  : Nat × Nat × Nat × Nat
deriving DecidableEq, Repr

def Avail.reset : Avail :=
  ⟨0, 0, 0, 0, false, false, tbl 4 false, tbl 4 false, false, false, 0, (0, 0, 0, 0)⟩

/-! ## Capture buffers -/

/-- A 64-byte capture frame (R446). -/
structure CapFrame where
  time : BitVec 64
  gap  : Bool
  trig : Bool
  seq  : BitVec 16
  vals : Vector Word 12
deriving DecidableEq, Repr

/-- A capture buffer CAP[k] (`CAPSTAT`, `CAPBASE`, `CAPWR`, `CAPTRIGT`, `CAPGAPS`; R446). `frames` holds the written frames by
their place in the buffer, in rising order; `post` the frames still to come after the trigger. -/
structure Cap where
  config  : Bool
  base    : Nat
  size    : Nat
  run     : Bool
  trigged : Bool
  done    : Bool
  preserved : Bool
  trigNow : Bool
  wr      : Nat
  count   : Nat
  decim   : Nat
  post    : Nat
  trigT   : BitVec 64
  gaps    : Cnt
  gap     : Bool
  frames  : List (Nat × CapFrame)
deriving DecidableEq, Repr

def Cap.reset : Cap where
  config := false; base := 0; size := 0; run := false; trigged := false; done := false; preserved := false
  trigNow := false; wr := 0; count := 0; decim := 0; post := 0; trigT := 0; gaps := .zero; gap := false; frames := []

end Sys2Proof.Machine
end

