-- ==== Sys2Proof/Syntax.lean ====
section
/-! DEFINITION. The commands of the module: one constructor for each row of the table of operations and events, with what
comes from outside when it happens. Unit operands are bounded by their types: `m` is a motor object MO[m], `n` the first
slot of a bridge, `c` a cell, chopper, CAN controller or safe connection, `k` an axis, position interface, pair or buffer,
`i` an analog input, `g` a gate channel (CH[c] at 48 + c), `f` a flow, `sess` the number of a management session. -/

namespace Sys2Proof

open Sys2Proof.Machine

/-- The commands. Each constructor's docstring is the summary of its row, with the governing rule. -/
inductive Instr where
  /-- The main rails rise and the module takes a cold power-up reset, with or without the VBAT domain intact. (R321) -/
  | powerUp (vbat : Bool) (off : Nat) (legacy : Bool) (mesh : Bool) (temp : Bool)
  /-- PORn is driven low for at least 1 µs, which causes a cold reset. (R321) -/
  | pornAssert
  /-- A rail stays below its reset threshold for 2 µs, which causes a cold brownout reset. (R318) -/
  | brownout (rail : Fin 9)
  /-- SRSTn is held low for at least 10 µs, which causes a warm reset, or exits thermal hold below 100 °C. (R321) -/
  | srstnPulse
  /-- A write to RSTCTL with the key and RESTART requests a warm software restart. (R322) -/
  | softwareRestart (key : BitVec 16) (force : Bool)
  /-- The warm reset finishes flushing the recorder and putting DRAM into self-refresh, and the start-up stages begin. (R321) -/
  | warmResetFlushDone
  /-- PORn is released and the module enters stage S0. (R324) -/
  | pornRelease (legacy : Bool)
  /-- Every rail has been above its threshold for 1 ms, and S1 starts with IRC and LPO. (R324) -/
  | s0RailsConfirmed (ok : Bool)
  /-- LPO has counted 1,024 of its cycles and is qualified. (R302) -/
  | lpoQualified
  /-- LPO is not qualified within 100 ms, and the module holds in reset with CLKFAILn asserted. (R304) -/
  | lpoQualifyTimeout
  /-- IRC passes its check against LPO, the clock monitor is armed and S2 starts. (R303) -/
  | ircQualified
  /-- An XIN qualification attempt ends in a pass or a failure, and the sequencer moves to S3, retries or starts on IRC alone. (R303) -/
  | xinAttemptEnd (irc : Nat) (inTime : Bool)
  /-- The PLLs lock and the first IRC trim is set; the islands are released, the recorder starts and device time is set, ending S3. (R303) -/
  | pllLockDone (locked : BitVec 5) (trim : Int)
  /-- The Onyx self-test, key unlock and DRAM training complete, and S5 begins or the module holds. (R324) -/
  | s4Done (onyxOk : Bool) (rngOk : Bool) (kroot : Bool) (dramOk : Bool) (chainOk : Bool)
  /-- S5 finishes reading, decrypting and verifying the image bank and applying the stash. (R337) -/
  | imageLoadDone (readA : Bool) (readB : Bool)
  /-- S6 checks and clamps fields, builds the load report, allocates flows, places tasks and starts the carriers. (R339) -/
  | s6Done
  /-- Reference enabling and full calibration of every cell end S7. (R324) -/
  | s7Done
  /-- Garnet self-diagnosis, test-pulse frames, output and bridge self-tests end S8. (R325) -/
  | s8Done (garnetOk : Bool) (tpBad : BitVec 8) (soBadH : BitVec 8) (soBadL : BitVec 8) (brOk : BitVec 8) (chOk : BitVec 4) (failItem : Nat)
  /-- The module becomes ready, journals MODULE_READY and RESET_CAUSE, and starts in-service time. (R324) -/
  | s9Entry
  /-- A 1,000-IRC-cycle monitor window ends and its XIN count is judged. (R313) -/
  | clockMonitorWindow (count : Nat)
  /-- A PLL sees two bad reference periods and freezes its control word. (R307) -/
  | pllHoldover (p : Fin 4)
  /-- A PLL does not relock within 100 µs of holdover, giving PULSE_BLOCK or a management restart. (R308) -/
  | pllUnlock (p : Fin 4)
  /-- The analog die sees no 160 MHz edge for 1 µs and blocks every bridge. (R308) -/
  | analogClockLoss
  /-- Every 1 ms the fractional divider is set so that the trimmed IRC matches XIN. (R306) -/
  | ircTrimUpdate (trim : Int)
  /-- Every 10 ms IRC is checked against LPO. (R316) -/
  | ircCheck (count : Nat)
  /-- Every 1 ms the management clock frequency is re-evaluated from the die temperature. (R311) -/
  | mgClockEvaluation
  /-- The spare management PLL locks and the management island is switched to it. (R311) -/
  | mgClockSwitch
  /-- CLKCTL.XINRET requests a return to XIN after 1,000 passing windows. (R315) -/
  | xinReturnRequest
  /-- The return to XIN is qualified and made, or abandoned. (R315) -/
  | xinReturnEnd (ok : Bool)
  /-- CLKCTL.CNTCLR clears CMTRIPS and the window MIN and MAX. (R313) -/
  | clockCountersClear
  /-- FMCTL.START starts or restarts a frequency measurement. (R317) -/
  | freqMeasureStart
  /-- The gate ends, or the 1 s limit expires, and the count goes to FMRES. (R317) -/
  | freqMeasureEnd (count : Word) (timeout : Bool)
  /-- An island has been idle for 8 cycles and its clock gate closes. (R312) -/
  | islandGateClose (g : Fin 24) (idle : Bool)
  /-- Work or an access reaches a closed island and its gate opens within 3 cycles. (R312) -/
  | islandGateOpen (g : Fin 24)
  /-- VBAT falls below 2.5 V. (R320) -/
  | vbatLow (below : Bool)
  /-- The management cluster crashes or is restarted, leaving the fast plane running. (R3) -/
  | managementRestart
  /-- The management cluster is running again within 2 s. (R3) -/
  | managementRestartDone
  /-- A 50 ms management slice ends and the fields due at its end take effect. (R345) -/
  | managementSliceEnd
  /-- A block hands an event to the event recorder, which stores it or counts it as lost. (R20) -/
  | evrecEntry (code : BitVec 16) (unit : Byte) (aux : Byte) (stamp : BitVec 64) (data : List Byte)
  /-- A grid point has been held open 2 µs and its entries are stored in code order with indices. (R464) -/
  | evrecGridClose
  /-- The writer programs a page of up to 8 entries into the NOR journal. (R465) -/
  | journalPageWrite
  /-- A journal sector erase completes and the writer may continue. (R343) -/
  | journalSectorEraseDone
  /-- A carrier peak or valley is a loop instant: compare values load, CTRIG fires and positions latch. (R79) -/
  | carrierTurningPoint (n : Fin 8) (pos : Vector PosRaw 8)
  /-- A converter completes the conversion phase of one sample. (R41) -/
  | sampleConversionDone (c : Fin 9) (v : Fin 5) (code : Int)
  /-- A regular sequence completes, its results are stored and its item posted. (R46) -/
  | regularSequenceDone (c : Fin 9) (k : Fin 4)
  /-- An urgent trigger preempts the regular sequence and starts the injected sequence. (R47) -/
  | urgentTrigger (c : Fin 9) (k : Fin 4)
  /-- An injected sequence completes, posts its item and the regular sequence resumes. (R47) -/
  | injectedSequenceDone (c : Fin 9) (k : Fin 4)
  /-- CELLCTL.SWREG sends a software regular trigger to a sequencer. (R48) -/
  | softwareRegularTrigger (c : Fin 9) (k : Fin 4)
  /-- CELLCTL.SWINJ sends a software urgent trigger to a sequencer. (R47) -/
  | softwareUrgentTrigger (c : Fin 9) (k : Fin 4)
  /-- CELLCTL.CNTCLR clears the trigger and overrun counters. (R48) -/
  | cellCountersClear (c : Fin 9)
  /-- A write to CELLCTL.REFEN switches the reference buffer, or is refused. (R54) -/
  | refenWrite (c : Fin 9) (on : Bool)
  /-- The reference is ready 1.5 ms after REFEN and RDY sets. (R53) -/
  | refReady (c : Fin 9)
  /-- CALCMD.CMD = 1 requests a full calibration of the cell. (R56) -/
  | fullCalibrationCommand (c : Fin 9)
  /-- Pending injected sequences finish and the cell goes offline to calibrate. (R56) -/
  | calibrationDrainDone (c : Fin 9)
  /-- A full calibration completes, its factors are stored and checked. (R56) -/
  | fullCalibrationDone (c : Fin 9) (offs : Vector Int 5) (gains : Vector Rat 5) (mis : Vector (Vector Int 6) 5)
  /-- CALCMD.CMD = 2 starts a background round at once, or is rejected. (R60) -/
  | bgroundStartCommand (c : Fin 9)
  /-- CALCMD.CMD = 3 aborts a background round. (R60) -/
  | bgroundAbortCommand (c : Fin 9)
  /-- A cell's background round falls due by interval or temperature change and is started. (R363) -/
  | bgroundSchedule (c : Fin 9)
  /-- The spare converter finishes calibrating within a background round. (R59) -/
  | spareCalibrationDone (c : Fin 9) (off : Int) (gain : Rat) (mis : Vector Int 6)
  /-- At an entry boundary the spare takes over the oldest bound converter's sequencer. (R59) -/
  | converterHandover (c : Fin 9)
  /-- The housekeeping scan writes a channel result, which is used at once. (R63) -/
  | hkChannelResult (ch : Fin 32) (code : Int)
  /-- The shutdown record is written and read back, and the module enters thermal hold. (R245) -/
  | dieShutdownRecordDone
  /-- An input goes more than 0.3 V beyond a rail and ORAIL sets, or it returns and ORAIL clears. (R52) -/
  | railClampSet (i : Fin 96) (beyond : Bool)
  /-- The SUSPECT window closes 2 µs after ORAIL clears. (R52) -/
  | railWindowClose (i : Fin 96)
  /-- The last measurement item arrives and the current-loop task runs and posts its compare item. (R79) -/
  | currentLoopTaskStart (n : Fin 8)
  /-- The compare deadline passes; values load or the old values are held. (R68) -/
  | compareDeadline (n : Fin 8)
  /-- The neutral point stays unbalanced for 10 ms and NPREACT applies. (R75) -/
  | npUnbal (n : Fin 8)
  /-- The circulating current stays above CIRCMAX for 1 ms and CIRCREACT applies. (R77) -/
  | circHigh (m : Fin 4)
  /-- LPCTL.CNTCLR clears the loop and PWM counters of a motor object. (R92) -/
  | loopCountersClear (m : Fin 4)
  /-- An SSI read completes and the extrapolated position item is posted. (R96) -/
  | ssiFrameDone (k : Fin 8) (frame : Word)
  /-- A differential pair is open or shorted for 10 µs and the position is invalid. (R100) -/
  | piLineBreak (k : Fin 8)
  /-- More than 4 illegal transitions within 1 ms make an ABZ sensor fault. (R100) -/
  | piIllegalTransitions (k : Fin 8) (count : Nat)
  /-- The sine/cosine amplitude is out of range at 3 consecutive instants. (R100) -/
  | piAmplitudeFault (k : Fin 8) (amp : Rat)
  /-- SSI frame errors at 2 consecutive instants make a sensor fault. (R100) -/
  | ssiFrameFault (k : Fin 8)
  /-- Resolver excitation stays outside ±20 % for 1 ms. (R95) -/
  | excFault (k : Fin 8)
  /-- A Z index is seen and the count offset is checked or corrected. (R99) -/
  | indexPulse (k : Fin 8) (pos : Int)
  /-- Sensor and observer angles differ by more than POSDEV for 10 ms. (R104) -/
  | posMismatchTimer (m : Fin 4)
  /-- PICTL.ERRCLR clears the held fault bits and PIERR. (R100) -/
  | piErrorClear (k : Fin 8)
  /-- The back-EMF observer has met its lock conditions for 16 instants. (R102) -/
  | observerLock (m : Fin 4)
  /-- A run command starts the start machine in MEASURE, or is refused. (R107) -/
  | runCommand (m : Fin 4)
  /-- At W the module decides speed, direction and angle and chooses the next start state. (R108) -/
  | measureDecision (m : Fin 4)
  /-- At the first valley after W + 2·T_L the integrators are preset and the gates enabled. (R108) -/
  | syncGateEnable (n : Fin 8)
  /-- After four or eight settling instants the catch passes, extends or fails. (R108) -/
  | catchSettleCheck (m : Fin 4)
  /-- The HFI polarity test completes and RUN follows or the attempt fails. (R112) -/
  | hfiPolarityDone (m : Fin 4) (plus : Rat) (minus : Rat)
  /-- HFI has not converged within 100 ms and the attempt fails. (R111) -/
  | hfiNoconvTimeout (m : Fin 4)
  /-- IFALIGN has elapsed and the start machine leaves ALIGN. (R113) -/
  | alignElapsed (m : Fin 4)
  /-- The observer has not locked within IFTMAX of IFRAMP. (R111) -/
  | obsNolockTimeout (m : Fin 4)
  /-- The speed search finds a crossing or ends its sweep, and FLUX follows. (R109) -/
  | searchEnd (m : Fin 4)
  /-- The flux build time elapses and RUN or IFRAMP follows. (R109) -/
  | fluxBuilt (m : Fin 4)
  /-- VSAT prevents the flux current for 20 ms in FLUX and the attempt fails. (R111) -/
  | searchLost (m : Fin 4)
  /-- 2 s after a failed attempt the machine returns to MEASURE. (R107) -/
  | startPauseEnd (m : Fin 4)
  /-- A write to SETPT refreshes the HOST source and enters the command path. (R118) -/
  | setpointWrite (m : Fin 4) (v : Word)
  /-- CMDCTL.SEL with SELWR requests a bumpless source transfer. (R117) -/
  | sourceTransferRequest (m : Fin 4) (src : Fin 4)
  /-- A pending transfer is still pending 10 s after the request and is refused. (R117) -/
  | transferTimeout (m : Fin 4)
  /-- An outer-loop period starts: the mode law, observer, spooling model and level-wind reference run. (R467) -/
  | outerLoopPeriod (m : Fin 4)
  /-- The active source has not been refreshed within CMDTO and LOSSACT applies. (R122) -/
  | cmdLoss (m : Fin 4)
  /-- CMDCTL.MODE with MODEWR changes the outer-loop mode, or is refused. (R124) -/
  | modeChangeCommand (m : Fin 4) (mode : BitVec 2)
  /-- CMDCTL.SPOOLSET sets the wound turns and validates the spooling model. (R130) -/
  | spoolsetCommand (m : Fin 4)
  /-- CMDCTL.FCLR clears the fault reactions whose causes have cleared. (R137) -/
  | faultClearCommand (m : Fin 4)
  /-- CMDCTL.STOP starts a stop of the configured category. (R204) -/
  | stopCommand (m : Fin 4)
  /-- CMDCTL.ARM arms the motor object when the conditions hold. (R27) -/
  | armCommand (m : Fin 4)
  /-- CMDCTL.DISARM disarms an idle motor object in PULSE_BLOCK. (R27) -/
  | disarmCommand (m : Fin 4)
  /-- CMDLATCTL.CLR clears the command latency measurements. (R33) -/
  | cmdlatClear (m : Fin 4)
  /-- 150 ms of torque proving end and the brake release is requested or proving fails. (R134) -/
  | provingEnd (m : Fin 4)
  /-- The brake feedback reads open and the brake sequence enters OPEN. (R134) -/
  | brakeFeedbackOpen (m : Fin 4)
  /-- BRKOPENT elapses in OPENING and the sequence opens or closes. (R134) -/
  | brakeOpenTimeout (m : Fin 4)
  /-- The brake feedback reads closed, or BRKCLOSET elapses, and the slip test starts. (R134) -/
  | brakeClosingDone (m : Fin 4)
  /-- The slip test completes and the brake is CLOSED or HOLDFAULT. (R134) -/
  | sliptestEnd (m : Fin 4)
  /-- Speed has stayed below 1 % for 100 ms and the stop's end is applied. (R205) -/
  | stopComplete (m : Fin 4)
  /-- An axis generator period runs: it plans and delivers the position to the step engine. (R139) -/
  | axisGeneratorPeriod (k : Fin 8)
  /-- The write of the high word of AXTGT commits a new axis target. (R150) -/
  | axisTargetCommit (k : Fin 8) (hi : Word)
  /-- A write to AXCTL.EN enables or disables the axis. (R152) -/
  | axisEnableWrite (k : Fin 8) (en : Bool)
  /-- AXCTL.STOP makes an immediate stop of the axis. (R153) -/
  | axisStop (k : Fin 8)
  /-- AXCTL.HALT decelerates the axis to rest under its profile. (R152) -/
  | axisHalt (k : Fin 8)
  /-- AXCTL.HOME starts homing. (R157) -/
  | axisHome (k : Fin 8)
  /-- AXCTL.SYNCON puts a level-wind axis into SYNC. (R152) -/
  | axisSyncon (k : Fin 8)
  /-- AXCTL.SYNCOFF ends SYNC and halts the axis. (R152) -/
  | axisSyncoff (k : Fin 8)
  /-- AXCTL.CLR leaves FAULT and clears AXCHAT. (R152) -/
  | axisClear (k : Fin 8)
  /-- ENONDLY elapses, the axis is READY and the pending request proceeds. (R152) -/
  | axisEnableDelayEnd (k : Fin 8)
  /-- An axis at rest for ENOFFDLY enters STANDSTILL. (R152) -/
  | axisStandstillDelayEnd (k : Fin 8)
  /-- AXFLT is active for 10 µs and the axis stops into FAULT. (R153) -/
  | axDrvFault (k : Fin 8)
  /-- A home or limit input edge is latched and a limit acts at once. (R155) -/
  | axisInputEdge (k : Fin 8) (inp : Fin 4) (level : Bool)
  /-- The debounce window ends and the input is qualified or counted as chatter. (R155) -/
  | axisDebounceEnd (k : Fin 8) (inp : Fin 4)
  /-- Homing does not complete within HOMETMAX. (R158) -/
  | homeTimeout (k : Fin 8)
  /-- The level-wind following error stays above LWERRMAX for 100 ms. (R160) -/
  | lwFollow (k : Fin 8)
  /-- The shock detector processes a tension sample against its baseline. (R164) -/
  | shockSample (m : Fin 4)
  /-- The load-pin stream is missing for 3·P or over range, and EST takes over. (R166) -/
  | shockSrcFault (m : Fin 4)
  /-- After 1 s of clean items the pin source is taken back. (R166) -/
  | shockPinRestore (m : Fin 4)
  /-- A render cannot hold the line and hands over to controlled render under overload. (R170) -/
  | renderOverload (m : Fin 4)
  /-- The tension has stayed within RNDEXIT for RNDHOLD and the render ends. (R171) -/
  | renderExit (m : Fin 4)
  /-- SHKCTL.CNTCLR clears SHKCNT and RNDCNT. (R164) -/
  | shockCountersClear (m : Fin 4)
  /-- A refresh of the heave channel updates the wave model and prediction. (R175) -/
  | heaveSample (m : Fin 4)
  /-- 120 s of valid samples set READY. (R175) -/
  | heaveFitReady (m : Fin 4)
  /-- A write to HVCTL.AHCON switches heave compensation on or off, or is refused. (R177) -/
  | ahconWrite (m : Fin 4) (on : Bool)
  /-- The MRU is not valid for HVMRUTO and the gain coasts down. (R178) -/
  | heaveMruLoss (m : Fin 4)
  /-- The coast ends in loss: AHCON and READY clear. (R178) -/
  | heaveCoastEnd (m : Fin 4)
  /-- Every 0.5 s the averaged z_tip is posted into the history ring. (R179) -/
  | heaveHistoryPost (m : Fin 4)
  /-- Every whole minute the wave spectrum, Hs and Tp are computed and published. (R179) -/
  | heaveStatistics (m : Fin 4)
  /-- At L_k each module latches and sends its ring frame, declaring demand, shares and capacities. (R182) -/
  | ringLatch
  /-- A frame copy arrives on a ring in-port, is checked and forwarded. (R183) -/
  | ringFrameArrival (portB : Bool) (crcOk : Bool) (typeOk : Bool) (f : RingFrame) (delay : Nat)
  /-- At the arrival deadline each module allocates the demand, checks conservation and quorum. (R196) -/
  | ringArrivalDeadline
  /-- At B_k members hold new shares and member, lead and quorum changes take effect. (R190) -/
  | ringCycleBoundary
  /-- Quorum has held for 100 consecutive cycles and ISOLATED members return to IDLE. (R194) -/
  | quorumRestored
  /-- Every 64 cycles a module measures its incoming link delays by echo. (R185) -/
  | ringDelayMeasure (a : Nat) (b : Nat)
  /-- An IDLE member whose join conditions hold goes to JOINING and starts. (R194) -/
  | ringMemberJoin (m : Fin 4)
  /-- RINGCTL.DRAIN starts draining a member. (R194) -/
  | ringDrainCommand (m : Fin 4)
  /-- RINGCTL.JOIN rejoins a drained or serviced member or ends a drain. (R194) -/
  | ringJoinCommand (m : Fin 4)
  /-- RINGCTL.SERVICE puts a drained member into SERVICE. (R194) -/
  | ringServiceCommand (m : Fin 4)
  /-- RINGCTL.CNTCLR clears the ring counters. (R183) -/
  | ringCountersClear
  /-- The join ramp ends at full capacity. (R195) -/
  | ringJoined (m : Fin 4)
  /-- A drain held for DRAINMAX is refused and the member returns to SHARE. (R197) -/
  | ringDrainRefused (m : Fin 4)
  /-- EMCTL.STOP0 makes a category 0 stop. (R204) -/
  | stop0Command (m : Fin 4)
  /-- EMCTL.STOP1 makes a category 1 stop. (R204) -/
  | stop1Command (m : Fin 4)
  /-- EMCTL.QSTOP makes a quick stop. (R204) -/
  | quickStopCommand (m : Fin 4)
  /-- EMCTL.STOP2 makes a category 2 stop. (R204) -/
  | stop2Command (m : Fin 4)
  /-- A stop not complete within 1.5·t_s + 1 s becomes PULSE_BLOCK. (R205) -/
  | stopTimeout (m : Fin 4)
  /-- EMCTL.EQR requests emergency quick release. (R207) -/
  | eqrRequest (m : Fin 4)
  /-- The EQRIN safety input pair reads active and requests EQR. (R207) -/
  | eqrInputRequest (m : Fin 4)
  /-- EMCTL.EQROFF ends EQR. (R207) -/
  | eqrOffCommand (m : Fin 4)
  /-- F exceeds CROF for CRODLY and controlled render under overload begins. (R208) -/
  | croEntry (m : Fin 4)
  /-- F stays below CROEXIT for CROHOLD and the mode law resumes. (R208) -/
  | croExit (m : Fin 4)
  /-- Tension below SLKF for SLKDLY, or the slack switch, starts slack-line arrest. (R209) -/
  | slaEntry (m : Fin 4)
  /-- EMCTL.SLKCLR ends SLA when the line is taut. (R209) -/
  | slackClearCommand (m : Fin 4)
  /-- EMCTL.ETON starts the emergency thermal override. (R210) -/
  | etOnCommand (m : Fin 4)
  /-- EMCTL.ETOFF ends the override. (R210) -/
  | etOffCommand (m : Fin 4)
  /-- ETAVAIL reaches 0 and the override ends. (R210) -/
  | etBudgetExhausted (m : Fin 4)
  /-- ETFADE elapses and the derate factors are back at their computed values. (R210) -/
  | etFadeEnd (m : Fin 4)
  /-- A loss lasting LOSSTMAX applies LOSSESC. (R211) -/
  | cmdLossEscalation (m : Fin 4)
  /-- The link stays below BOUV for 10 ms and BLACKOUT applies. (R212) -/
  | blackoutDetect (m : Fin 4)
  /-- The link has stayed above BORECOV for BOSTAB. (R212) -/
  | blackoutRecoveryQualified (m : Fin 4)
  /-- At t_r the remembered motor object's reaction is cleared and it is restarted. (R212) -/
  | blackoutRestart (m : Fin 4)
  /-- BOMEM expires and the motor object is no longer remembered. (R212) -/
  | blackoutMemoryExpiry (m : Fin 4)
  /-- EMCTL.DEGRADE takes a bridge rank out of the motor object. (R214) -/
  | degradeCommand (m : Fin 4) (rank : Fin 4)
  /-- ISOIN reads open and the motor object runs on N − 1 bridges. (R214) -/
  | isolatorOpen (m : Fin 4)
  /-- ISOIN does not read open within ISOT. (R214) -/
  | isolatorTimeout (m : Fin 4)
  /-- EMCTL.RESTORE closes the isolator and restores N. (R214) -/
  | restoreCommand (m : Fin 4)
  /-- An AIN crosses a level-2 threshold and the bridges that name it are gated off within 200 ns. (R35) -/
  | comparatorLevel2Trip (i : Fin 96) (high : Bool) (stamp : BitVec 64)
  /-- An input crosses a level-1 threshold, setting flags and an urgent trigger. (R223) -/
  | comparatorLevel1Crossing (i : Fin 96) (high : Bool)
  /-- An input returns 32 codes inside its window and its level-2 flag may clear. (R224) -/
  | comparatorReturn (i : Fin 96)
  /-- A status line low for 2 µs outside blanking is recognised as DESAT and the bridge gated off. (R218) -/
  | gateStatusDesat (g : Fin 52)
  /-- No train pulse for 250 µs is recognised as UV and the bridge gated off. (R218) -/
  | gateStatusUv (g : Fin 52)
  /-- Eight valid train pulses set READY and the temperature. (R218) -/
  | gateTrainReady (g : Fin 52) (freq : Rat)
  /-- Eight pulses with out-of-range periods mark the train invalid. (R218) -/
  | gateTrainInvalid (g : Fin 52)
  /-- A write to GATEEN.EN enables a bridge or takes it to PULSE_BLOCK. (R219) -/
  | gateEnableWrite (n : Fin 8) (en : Bool)
  /-- A write to GATEEN.CHEN enables or disables a chopper. (R219) -/
  | chopperEnableWrite (c : Fin 4) (en : Bool)
  /-- The interlock rejects a switch pattern or TILOCK gap and blocks the bridge. (R221) -/
  | shoot (n : Fin 8) (phase : Fin 3) (a : Fin 12) (b : Fin 12) (pattern : BitVec 12) (gap : Bool)
  /-- The collection window ends and the bridge's reaction, ASC side or TRIP, is decided. (R226) -/
  | faultWindowEnd (n : Fin 8)
  /-- The contactor does not read open within CONT. (R231) -/
  | contactorTimeout (n : Fin 8)
  /-- A chopper period starts, sets its duty and supervises the chopper. (R234) -/
  | chopperPeriod (c : Fin 4)
  /-- DLC reaches OV2 and forces the chopper fully on. (R235) -/
  | chopperForceOn (c : Fin 4)
  /-- The link falls below OV2 − OV2HYS and forcing is released. (R235) -/
  | chopperForceRelease (c : Fin 4)
  /-- STCMD.GO starts a self-test of a bridge or chopper, or is refused. (R238) -/
  | selfTestCommand (target : BitVec 4)
  /-- The self-test completes with a pass or a failed item. (R239) -/
  | selfTestDone (fail : Option (BitVec 16))
  /-- PRCTL.CNTCLR clears the comparator trip counters. (R224) -/
  | protectionCountersClear
  /-- Every 250 µs Garnet evaluates inputs, safe frames and every safe function and acts. (R250) -/
  | garnetCycle (g : GarnetIn)
  /-- A Garnet self-diagnosis check fails and Garnet enters its safe state. (R251) -/
  | garnetSelfFault
  /-- Every 10 s Garnet scrubs its SRAM. (R251) -/
  | garnetSramScrub (bad : Bool)
  /-- A 16 ms test-pulse frame ends and sources and inputs are judged. (R253) -/
  | testPulseFrame (tpBad : BitVec 8) (own : Vector Bool 24) (foreign : Vector (Option (Fin 8)) 24)
  /-- A channel has shown its demand level for FILT and the pair demands. (R255) -/
  | inputPairDemand (k : Fin 12)
  /-- A pair is neither healthy nor demanding for DISC. (R255) -/
  | inputPairDiscrepancy (k : Fin 12)
  /-- Every 500 ms an output off-pulse test is made and checked. (R256) -/
  | soOffPulse (j : Fin 8) (ok : Bool)
  /-- The two speed channels differ for POSDISC and STO applies. (R258) -/
  | sfPosDisc (m : Fin 4)
  /-- The two tension channels differ for POSDISC and STO applies. (R266) -/
  | sfTensDisc (m : Fin 4)
  /-- SS1T elapses in SS1 or SS2 and STO or VIOLREACT follows. (R260) -/
  | ss1TimeEnd (m : Fin 4)
  /-- F exceeds SLTF for SLTDLY and the hauling torque is limited. (R266) -/
  | sltStage1 (m : Fin 4)
  /-- F exceeds the stage-2 level for SLTDLY and STO with SBC applies. (R266) -/
  | sltStage2 (m : Fin 4)
  /-- F stays at or below 0.95·SLTF for 500 ms and stage 1 ends. (R266) -/
  | sltStage1Exit (m : Fin 4)
  /-- The EQR brake hold reaches EQRTMAX and the brakes set. (R265) -/
  | eqrHoldTimeout (m : Fin 4)
  /-- BRKCLOSET after de-energising, the brake feedback is checked. (R265) -/
  | brakeFbCheck (m : Fin 4)
  /-- A copy of a safety PDU arrives and is matched with its partner or kept waiting. (R270) -/
  | safeFrameCopy (c : Fin 4) (portB : Bool) (bytes : List Byte)
  /-- A waiting copy's 5 ms window closes without a partner. (R270) -/
  | safeFrameWindowClose (c : Fin 4) (seq : BitVec 16)
  /-- No sequence is accepted for 6 ms and the connection reaction applies. (R270) -/
  | scTimeout (c : Fin 4)
  /-- Every 2 ms Garnet sends its PDU on both ports of each connection. (R269) -/
  | safeFrameSend
  /-- SFCTL.ACK gives the restart acknowledgement for a motor object. (R260) -/
  | safetyAck (m : Fin 4)
  /-- SFCTL.SICLR clears input faults once the pattern is healthy. (R254) -/
  | safetyInputClear
  /-- SFCTL.SOCLR clears output faults after consistent off readbacks. (R256) -/
  | safetyOutputClear
  /-- SFCTL.CNTCLR clears the safe connection counters. (R270) -/
  | safetyCountersClear
  /-- A staged safety delta takes effect once every named motor object is in STO. (R271) -/
  | safeChange
  /-- A safety password submitted in a session is checked by Garnet. (R272) -/
  | safetyPassword (sess : Nat) (pw : List Byte)
  /-- The 15 min safety unlock expires. (R272) -/
  | safetyUnlockExpiry
  /-- The 30 min password lockout ends. (R272) -/
  | passwordLockoutEnd
  /-- An owner-signed acknowledgement empties the change log to one KIND 2 entry. (R274) -/
  | safelogArchive (sess : Nat) (sigOk : Bool) (index : Nat) (hash : List Byte) (actor : List Byte)
  /-- A motor object has not passed through STO within STOTEST, and again every 24 h. (R268) -/
  | sfTestDue (m : Fin 4)
  /-- A port posts an item to a flow, taking credits and writing its entries. (R282) -/
  | fabricPost (port : Fin 64) (f : Fin 256) (len : Fin 4) (fence : Bool) (epoch : BitVec 8) (payload : List Byte)
  /-- A post waiting for credit finds enough credit and proceeds. (R283) -/
  | postCreditAvailable (f : Fin 256)
  /-- A consumer pops the head item of a flow, or gets EMPTY. (R284) -/
  | fabricPop (port : Fin 64) (f : Fin 256) (ecc : BitVec 2)
  /-- A consumer releases an item and its credits return. (R284) -/
  | fabricRelease (port : Fin 64) (f : Fin 256)
  /-- A FENCE item is written once every earlier post and memory write of its port is done. (R286) -/
  | fenceWritten (f : Fin 256)
  /-- A requester issues a memory transaction and takes a tracker slot. (R287) -/
  | memoryTransactionIssue (req : Fin 64) (write : Bool)
  /-- A transaction completes and frees its slot. (R287) -/
  | memoryTransactionDone (id : Nat)
  /-- A transaction not complete in 10 µs is ended with an error response. (R288) -/
  | txnTimeout (id : Nat)
  /-- At the switchover boundary the fabric rebinds the task's flows and advances the epoch. (R290) -/
  | migrationBoundary (t : Fin 28)
  /-- The old placement's last run ends and its port is unbound. (R290) -/
  | flowMigrated (t : Fin 28)
  /-- Every 1 ms Jasper checks the conservation law of every flow and tracker requester. (R293) -/
  | jasperAuditRound (upset : Option FlowUpset)
  /-- A flow count fails its parity and is handled as a failed audit. (R295) -/
  | countParityError (upset : FlowUpset)
  /-- FLOWCTL.REBUILD empties a frozen flow, or is refused. (R296) -/
  | flowRebuild (f : Fin 256)
  /-- FABCTL.CNTCLR clears the fabric counters. (R295) -/
  | fabricCountersClear
  /-- A host write reaching the last byte of an item posts it to a host flow. (R297) -/
  | hostFlowPost (f : Fin 256) (len : Fin 4) (fence : Bool) (epoch : BitVec 8) (payload : List Byte)
  /-- A host read of a read window pops the head item. (R297) -/
  | hostFlowRead (f : Fin 256)
  /-- A PCIe link reset takes the host mode from LEGACY. (R298) -/
  | pcieLinkReset
  /-- A write to HOSTFENCE posts a FENCE into each mailbox lane. (R300) -/
  | hostFence (tok : Word)
  /-- The firmware has consumed all four fences and writes the token to HOSTFDONE. (R300) -/
  | hostFenceDone
  /-- A SETPOINT message acts as a write to SETPT. (R454) -/
  | mailboxSetpoint (blk : BitVec 16) (seq : Word) (mo : Byte) (v : Word)
  /-- A COMMAND message acts as writes to CMDCTL and EMCTL. (R454) -/
  | mailboxCommand (blk : BitVec 16) (seq : Word) (mo : Byte) (bits : Byte)
  /-- A READ message returns register words in a response block. (R454) -/
  | mailboxRead (blk : BitVec 16) (seq : Word) (addr : Word) (count : Word)
  /-- A WRITE message acts as a BAR0 write. (R454) -/
  | mailboxWrite (blk : BitVec 16) (seq : Word) (addr : Word) (v : Word)
  /-- A message of unknown type is ignored and journaled. (R454) -/
  | mailboxOtherType (blk : BitVec 16) (seq : Word) (typ : BitVec 16)
  /-- Every 1 ms the STATUS blocks are refreshed and fenced. (R454) -/
  | mailboxStatusRefresh
  /-- A signed delta arrives over a session and is accepted and staged, or refused whole. (R344) -/
  | deltaSubmit (sess : Nat) (p : Package)
  /-- A staged record reaches its boundary and takes effect. (R345) -/
  | deltaRecordEffect (k : Nat)
  /-- A stash entry for a record in effect is written and read back. (R347) -/
  | stashEntryWritten
  /-- COMMITDLY after the newest stash entry elapses and a commit starts. (R349) -/
  | commitDelayExpiry
  /-- IMGCTL.COMMIT starts a commit. (R349) -/
  | commitCommand
  /-- The snapshot is taken and the KIND 4 record written. (R350) -/
  | commitSnapshotDone
  /-- The target bank is erased. (R350) -/
  | commitEraseDone
  /-- The device-built image is written to the target bank. (R350) -/
  | commitWriteDone
  /-- The bank is read back and the KIND 1 record written, or the commit fails. (R350) -/
  | commitReadbackDone (ok : Bool)
  /-- A new owner image arrives and is checked and written to take effect at the next reset. (R352) -/
  | imageSubmit (sess : Nat) (p : Package)
  /-- SHCMD.START opens a shadow slot, or is refused. (R354) -/
  | shadowStartCommand (sl : Fin 2) (task : Byte) (kind : BitVec 2) (target : Fin 16)
  /-- Loading completes and at the first period boundary the live state is copied into the shadow. (R356) -/
  | shadowPrepDone (sl : Fin 2)
  /-- SHCMD.GO switches a READY shadow. (R356) -/
  | shadowGoCommand (sl : Fin 2)
  /-- SHCMD.ABORT aborts a shadow before SWITCH. (R359) -/
  | shadowAbortCommand (sl : Fin 2)
  /-- A shadow has not reached READY within SHTMAX and is aborted. (R356) -/
  | shadowTimeout (sl : Fin 2)
  /-- At the switch boundary the fabric migrates the task and the shadow states are corrected. (R357) -/
  | shadowSwitchBoundary (sl : Fin 2)
  /-- A firmware package is checked and its bank written, or refused. (R406) -/
  | firmwarePackageSubmit (sess : Nat) (p : FwPackage)
  /-- The firmware bank is written and read back. (R360) -/
  | fwWriteDone (ok : Bool)
  /-- After any running commit, the management cluster restarts on the new bank. (R360) -/
  | fwTrial
  /-- The new firmware is not running within 2 s and the trial reverts. (R361) -/
  | fwTrialStartTimeout
  /-- Probation passes and a KIND 3 record names the new bank. (R360) -/
  | fwProbationEnd
  /-- FWCTL.REVERT ends probation on the old bank. (R361) -/
  | fwRevertCommand
  /-- Each 1 ms step is classified as VOID, EXCLUDED, LOST or IN SERVICE. (R365) -/
  | availabilityStep
  /-- Hourly, and at a warm reset, the availability counts are journaled. (R367) -/
  | avSnapshot
  /-- AVCTL.CLR sets every count to 0. (R367) -/
  | availabilityClear
  /-- A frame is received at a port and is forwarded, matched to setpoint channels or handed to Garnet or the time unit. (R370) -/
  | ethFrameReceived (p : Fin 8) (f : EthFrame) (full : BitVec 9)
  /-- A port's SGMII link state changes. (R369) -/
  | ethLinkChange (p : Fin 8) (up : Bool) (half : Bool) (speed : BitVec 2)
  /-- A gate control list entry's duration ends and the next gate mask applies. (R372) -/
  | gclEntryEnd (p : Fin 8)
  /-- Every 2 s PRP supervision frames are sent. (R376) -/
  | prpSupervisionSend
  /-- A LAN has had no trailer frame for LANTO while the other had. (R377) -/
  | prpLanTimeout (k : Fin 4) (lanB : Bool)
  /-- At each sync interval the time unit sends Sync and Follow_Up. (R380) -/
  | asSyncSend
  /-- Every 1 s the time unit sends a peer delay request. (R380) -/
  | asPdelaySend
  /-- Sync receipt times out and the servo enters holdover. (R381) -/
  | asSyncTimeout
  /-- A learned MAC entry reaches its aging time and is removed. (R370) -/
  | macEntryAging
  /-- ETHCTL.CNTCLR clears the Ethernet counters. (R373) -/
  | ethCountersClear
  /-- Device time or another time counter wraps and raises its wrap event. (R378) -/
  | deviceTimeWrap
  /-- A valid CAN frame is received and filtered into a queue, to Garnet or dropped. (R389) -/
  | canFrameReceived (c : Fin 4) (f : CanFrame) (sofAgo : Nat) (endAgo : Nat)
  /-- A reception ends in an error and REC changes state. (R397) -/
  | canReceiveError (c : Fin 4) (err : BitVec 3) (dataPhase : Bool) (recN : Nat)
  /-- TXCTL.GO appends the staged frame to the transmit queue, or is refused. (R393) -/
  | canTxSubmit (c : Fin 4) (host : Bool)
  /-- A transmission attempt ends sent, lost or in error, and the frame completes, retries or drops. (R395) -/
  | canTxAttemptEnd (c : Fin 4) (r : TxResult) (dataPhase : Bool) (stamp : Word)
  /-- TXCANCEL removes the first queued frame with a TAG, between frames. (R396) -/
  | canTxCancel (c : Fin 4) (tag : BitVec 8)
  /-- CANCTL.FLUSH cancels every queued frame. (R396) -/
  | canFlush (c : Fin 4)
  /-- CANCTL.RECOVER starts bus-off recovery. (R397) -/
  | canRecover (c : Fin 4)
  /-- 128 occurrences of 11 recessive bits bring the controller back bus-on. (R397) -/
  | canBusoffRecovered (c : Fin 4)
  /-- CANCTL.CNTCLR clears the controller's counters. (R389) -/
  | canCountersClear (c : Fin 4)
  /-- TXDPOP removes the oldest completion record. (R393) -/
  | txDonePop (c : Fin 4)
  /-- RXPOP removes the head of a HOST receive queue. (R389) -/
  | rxQueuePop (c : Fin 4) (q : Fin 2)
  /-- CANTS wraps after 4,294.967296 s. (R390) -/
  | canTsWrap
  /-- A staged bit-timing delta takes the controller off for up to 2 ms and back bus-on. (R399) -/
  | canReconfigure (c : Fin 4)
  /-- A read of SECNONCE word 0 draws a fresh nonce. (R407) -/
  | secnonceRead (acc : Nat)
  /-- A nonce expires after 10 min. (R407) -/
  | nonceExpiry
  /-- An enrolment statement and owner certificate are submitted and checked. (R407) -/
  | enrolSubmit (st : EnrolStmt)
  /-- The current owner submits a release statement naming the new owner. (R408) -/
  | releaseSubmit (st : ReleaseStmt)
  /-- No enrolment follows a release within 60 min and it lapses. (R408) -/
  | releaseLapse
  /-- SECCTL.PROVGEN generates new device keys and a CSR. (R417) -/
  | provgenCommand
  /-- A new device certificate is submitted and checked. (R417) -/
  | provcertSubmit (ok : Bool)
  /-- SECCTL.FWMIN raises FWMINVER to the running version. (R406) -/
  | fwminCommand (sess : Nat)
  /-- A debug token written to DBGTOKEN unlocks debug, or is refused. (R411) -/
  | debugTokenWrite (t : DebugToken)
  /-- SECCTL.DBGLOCK ends any debug unlock. (R411) -/
  | debugLockCommand
  /-- The debug unlock reaches its MINUTES and ends. (R411) -/
  | debugUnlockExpiry
  /-- A tamper monitor trips and its level, LOG, SEAL or ZEROISE, is acted on. (R413) -/
  | tamperTrip (x : Fin 4)
  /-- The next ZEPOCH anti-fuse cell is blown. (R414) -/
  | zepochCellBlown
  /-- Wrapped keys and enrolment are erased, sessions closed and any commit abandoned. (R414) -/
  | zeroiseNvmErased
  /-- A TLS 1.3 handshake opens a management session, or fails. (R409) -/
  | tlsHandshake (addr : Nat) (alert : Option Byte)
  /-- After 1 GiB or 1 h of traffic the module forces a KeyUpdate. (R409) -/
  | tlsKeyUpdate (sess : Nat)
  /-- A session reaches 24 h and is closed. (R409) -/
  | tlsSessionExpiry (sess : Nat)
  /-- A continuous random health test fails and random-dependent operations are refused. (R418) -/
  | onyxRngFail
  /-- The DRBG is reseeded every 1 s or 2^20 requests. (R400) -/
  | drbgReseed
  /-- CAPCTL.ARM empties and starts a capture buffer. (R446) -/
  | captureArm (k : Fin 8)
  /-- CAPCTL.SWTRIG triggers a capture buffer. (R446) -/
  | captureSoftwareTrigger (k : Fin 8)
  /-- CAPCTL.STOP stops a buffer without DONE. (R446) -/
  | captureStop (k : Fin 8)
  /-- A write to a register that has no row of its own is carried out or ignored. (R442) -/
  | registerWrite (acc : Nat) (addr : Word) (size : BitVec 3) (v : Word)
  /-- A PLL in holdover or unlocked locks again to its reference, ending the holdover or the cause of PLL_UNLOCK. (R308) -/
  | pllRelock (p : Fin 4)
  /-- A start-up check of IRC against LPO fails, and after 64 consecutive failures the module holds in reset with CLKFAILn asserted. (R304) -/
  | ircQualifyFail
  /-- After a health-test failure, 4,096 random samples pass again and Onyx accepts randomness-dependent operations once more. (R418) -/
  | onyxRngRecovered
  /-- The client closes its management session, ending it and any safety unlock it held. (R409) -/
  | tlsSessionClose (sess : Nat)
deriving DecidableEq, Repr

end Sys2Proof
end

