-- ==== Sys2Proof/Machine/Fields.lean ====
section
/-! DEFINITION. The configuration fields of every record, one definition per name of the spec's configuration-field
tables: FID by R450, FTYPE by R451, range and default by the row, safe side by R276. A default that depends on another
field is given by `Sys2Proof.Machine.Cfg.dflt`. -/

namespace Sys2Proof.Fld

/-- `CELL[n].REFEN` (R64). -/
def CELL_REFEN : Field := ⟨.cell, 0x0201, .u32, .range 0 1 0, 1, 1, 1, .plain⟩
/-- `CELL[n].INMODE[i]` (R64). -/
def CELL_INMODE : Field := ⟨.cell, 0x0202, .enum, .codes 2, 0, 12, 1, .plain⟩
/-- `CELL[n].SQ[k].MODE` (R64). -/
def CELL_SQ_MODE : Field := ⟨.cell, 0x0203, .enum, .codes 2, 0, 4, 1, .plain⟩
/-- `CELL[n].SQ[k].TRIG` (R64). -/
def CELL_SQ_TRIG : Field := ⟨.cell, 0x0204, .enum, .codes 5, 0, 4, 1, .plain⟩
/-- `CELL[n].SQ[k].LEN` (R64). -/
def CELL_SQ_LEN : Field := ⟨.cell, 0x0205, .u32, .range 0 16 0, 0, 4, 1, .plain⟩
/-- `CELL[n].SQ[k].E[e].IN` (R64). -/
def CELL_SQ_E_IN : Field := ⟨.cell, 0x0206, .u32, .range 0 11 0, 0, 4, 16, .plain⟩
/-- `CELL[n].SQ[k].E[e].TACQ` (R64). -/
def CELL_SQ_E_TACQ : Field := ⟨.cell, 0x0207, .u32, .range 50 800 10, 100, 4, 16, .plain⟩
/-- `CELL[n].SQ[k].E[e].AVG` (R64). -/
def CELL_SQ_E_AVG : Field := ⟨.cell, 0x0208, .u32, .range 0 8 0, 0, 4, 16, .plain⟩
/-- `CELL[n].SQ[k].E[e].SHIFT` (R64). -/
def CELL_SQ_E_SHIFT : Field := ⟨.cell, 0x0209, .u32, .range 0 8 0, 0, 4, 16, .plain⟩
/-- `CELL[n].SQ[k].UTRIG` (R64). -/
def CELL_SQ_UTRIG : Field := ⟨.cell, 0x020A, .enum, .codes 6, 5, 4, 1, .plain⟩
/-- `CELL[n].SQ[k].UCMP` (R64). -/
def CELL_SQ_UCMP : Field := ⟨.cell, 0x020B, .u32, .range 0 11 0, 0, 4, 1, .plain⟩
/-- `CELL[n].SQ[k].ILEN` (R64). -/
def CELL_SQ_ILEN : Field := ⟨.cell, 0x020C, .u32, .range 0 4 0, 0, 4, 1, .plain⟩
/-- `CELL[n].SQ[k].I[e].IN` (R64). -/
def CELL_SQ_I_IN : Field := ⟨.cell, 0x020D, .u32, .range 0 11 0, 0, 4, 4, .plain⟩
/-- `CELL[n].SQ[k].I[e].TACQ` (R64). -/
def CELL_SQ_I_TACQ : Field := ⟨.cell, 0x020E, .u32, .range 50 800 10, 100, 4, 4, .plain⟩
/-- `CELL[n].SQ[k].I[e].AVG` (R64). -/
def CELL_SQ_I_AVG : Field := ⟨.cell, 0x020F, .u32, .range 0 8 0, 0, 4, 4, .plain⟩
/-- `CELL[n].SQ[k].I[e].SHIFT` (R64). -/
def CELL_SQ_I_SHIFT : Field := ⟨.cell, 0x0210, .u32, .range 0 8 0, 0, 4, 4, .plain⟩
/-- `CELL[n].BGINT` (R64). -/
def CELL_BGINT : Field := ⟨.cell, 0x0211, .u32, .orZero 10 3600 0, 60, 1, 1, .plain⟩
/-- `CELL[n].REFFAULT` (R64). -/
def CELL_REFFAULT : Field := ⟨.cell, 0x0212, .enum, .react [0, 1, 2, 3, 4, 5, 6], 4, 1, 1, .plain⟩
/-- `CELL[n].CVFAIL` (R64). -/
def CELL_CVFAIL : Field := ⟨.cell, 0x0213, .enum, .react [0, 1, 2, 3, 4, 5, 6], 4, 1, 1, .plain⟩
/-- `BRIDGE[b].CTRIG` (R64). -/
def BRIDGE_CTRIG : Field := ⟨.bridge, 0x0214, .enum, .codes 5, 0, 1, 1, .plain⟩
/-- `BRIDGE[b].CTRIGPT` (R64). -/
def BRIDGE_CTRIGPT : Field := ⟨.bridge, 0x0215, .enum, .codes 3, 2, 1, 1, .plain⟩
/-- `BRIDGE[b].CTRIGOFS` (R64). -/
def BRIDGE_CTRIGOFS : Field := ⟨.bridge, 0x0216, .f32, .range (-10000) 10000 (5/2), 0, 1, 1, .plain⟩
/-- `BRIDGE[b].FCARR` (R93). -/
def BRIDGE_FCARR : Field := ⟨.bridge, 0x0301, .u32, .range 200 40000 0, 4000, 1, 1, .plain⟩
/-- `BRIDGE[b].MOD` (R93). -/
def BRIDGE_MOD : Field := ⟨.bridge, 0x0302, .enum, .codes 4, 0, 1, 1, .plain⟩
/-- `BRIDGE[b].DPWMON` (R93). -/
def BRIDGE_DPWMON : Field := ⟨.bridge, 0x0303, .f32, .range (3/10) (19/20) 0, (3/5), 1, 1, .plain⟩
/-- `BRIDGE[b].TDEAD` (R93). -/
def BRIDGE_TDEAD : Field := ⟨.bridge, 0x0304, .f32, .range (1/10) 20 (1/400), 3, 1, 1, .plain⟩
/-- `BRIDGE[b].TMIN` (R93). -/
def BRIDGE_TMIN : Field := ⟨.bridge, 0x0305, .f32, .range (1/5) 50 (1/400), 2, 1, 1, .plain⟩
/-- `BRIDGE[b].IMAX` (R93). -/
def BRIDGE_IMAX : Field := ⟨.bridge, 0x0306, .u32, .range 1 20000 0, 100, 1, 1, .plain⟩
/-- `BRIDGE[b].DTCOMP` (R93). -/
def BRIDGE_DTCOMP : Field := ⟨.bridge, 0x0307, .u32, .range 0 1 0, 1, 1, 1, .plain⟩
/-- `BRIDGE[b].DTBAND` (R93). -/
def BRIDGE_DTBAND : Field := ⟨.bridge, 0x0308, .f32, .range (1/10) 10 0, 2, 1, 1, .plain⟩
/-- `BRIDGE[b].VFD` (R93). -/
def BRIDGE_VFD : Field := ⟨.bridge, 0x0309, .u32, .range 0 10 0, 0, 1, 1, .plain⟩
/-- `BRIDGE[b].NPKP` (R93). -/
def BRIDGE_NPKP : Field := ⟨.bridge, 0x030A, .u32, .range 0 20 0, 4, 1, 1, .plain⟩
/-- `BRIDGE[b].NPLIM` (R93). -/
def BRIDGE_NPLIM : Field := ⟨.bridge, 0x030B, .f32, .range 0 (1/5) 0, (1/20), 1, 1, .plain⟩
/-- `BRIDGE[b].NPTRIP` (R93). -/
def BRIDGE_NPTRIP : Field := ⟨.bridge, 0x030C, .u32, .range 1 20 0, 5, 1, 1, .plain⟩
/-- `BRIDGE[b].NPREACT` (R93). -/
def BRIDGE_NPREACT : Field := ⟨.bridge, 0x030D, .enum, .react [0, 1, 2, 3, 4, 5, 6], 4, 1, 1, .plain⟩
/-- `MOTOR[m].TYPE` (R93). -/
def MOTOR_TYPE : Field := ⟨.motor, 0x030E, .enum, .codes 3, 0, 1, 1, .plain⟩
/-- `MOTOR[m].POLEPAIRS` (R93). -/
def MOTOR_POLEPAIRS : Field := ⟨.motor, 0x030F, .u32, .range 1 64 0, 4, 1, 1, .plain⟩
/-- `MOTOR[m].RS` (R93). -/
def MOTOR_RS : Field := ⟨.motor, 0x0310, .f32, .range (1/100) 10000 0, 100, 1, 1, .plain⟩
/-- `MOTOR[m].LD` (R93). -/
def MOTOR_LD : Field := ⟨.motor, 0x0311, .f32, .range (1/1000) 1000 0, 1, 1, 1, .plain⟩
/-- `MOTOR[m].LQ` (R93). -/
def MOTOR_LQ : Field := ⟨.motor, 0x0312, .f32, .range (1/1000) 1000 0, 1, 1, 1, .plain⟩
/-- `MOTOR[m].PSI` (R93). -/
def MOTOR_PSI : Field := ⟨.motor, 0x0313, .f32, .range (1/1000) 50 0, 1, 1, 1, .plain⟩
/-- `MOTOR[m].LM` (R93). -/
def MOTOR_LM : Field := ⟨.motor, 0x0314, .f32, .range (1/100) 10000 0, 10, 1, 1, .plain⟩
/-- `MOTOR[m].LR` (R93). -/
def MOTOR_LR : Field := ⟨.motor, 0x0315, .f32, .range (1/100) 10000 0, (21/2), 1, 1, .plain⟩
/-- `MOTOR[m].RR` (R93). -/
def MOTOR_RR : Field := ⟨.motor, 0x0316, .f32, .range (1/100) 10000 0, 100, 1, 1, .plain⟩
/-- `MOTOR[m].PSIR` (R93). -/
def MOTOR_PSIR : Field := ⟨.motor, 0x0317, .f32, .range (1/1000) 50 0, 1, 1, 1, .plain⟩
/-- `MOTOR[m].IMAX` (R93). -/
def MOTOR_IMAX : Field := ⟨.motor, 0x0318, .u32, .range 1 40000 0, 100, 1, 1, .plain⟩
/-- `MOTOR[m].IDMIN` (R93). -/
def MOTOR_IDMIN : Field := ⟨.motor, 0x0319, .f32, .range (-40000) 0 0, (-50), 1, 1, .plain⟩
/-- `MOTOR[m].FLXMIN` (R93). -/
def MOTOR_FLXMIN : Field := ⟨.motor, 0x031A, .f32, .range (1/10) 1 0, (3/10), 1, 1, .plain⟩
/-- `MOTOR[m].BRMODE` (R93). -/
def MOTOR_BRMODE : Field := ⟨.motor, 0x031B, .enum, .codes 2, 0, 1, 1, .plain⟩
/-- `MOTOR[m].CIRCKP` (R93). -/
def MOTOR_CIRCKP : Field := ⟨.motor, 0x031C, .f32, .range 0 100 0, 2, 1, 1, .plain⟩
/-- `MOTOR[m].CIRCKI` (R93). -/
def MOTOR_CIRCKI : Field := ⟨.motor, 0x031D, .f32, .range 0 100000 0, 200, 1, 1, .plain⟩
/-- `MOTOR[m].CIRCMAX` (R93). -/
def MOTOR_CIRCMAX : Field := ⟨.motor, 0x031E, .u32, .range 5 50 0, 20, 1, 1, .plain⟩
/-- `MOTOR[m].CIRCREACT` (R93). -/
def MOTOR_CIRCREACT : Field := ⟨.motor, 0x031F, .enum, .react [0, 1, 2, 3, 4, 5, 6], 4, 1, 1, .plain⟩
/-- `LOOP[m].CTYPE` (R93). -/
def LOOP_CTYPE : Field := ⟨.loop, 0x0320, .enum, .codes 2, 0, 1, 1, .plain⟩
/-- `LOOP[m].CBW` (R93). -/
def LOOP_CBW : Field := ⟨.loop, 0x0321, .u32, .range 50 4000 0, 200, 1, 1, .plain⟩
/-- `LOOP[m].KPD` (R93). -/
def LOOP_KPD : Field := ⟨.loop, 0x0322, .f32, .range 0 1000 0, 0, 1, 1, .plain⟩
/-- `LOOP[m].KPQ` (R93). -/
def LOOP_KPQ : Field := ⟨.loop, 0x0323, .f32, .range 0 1000 0, 0, 1, 1, .plain⟩
/-- `LOOP[m].KID` (R93). -/
def LOOP_KID : Field := ⟨.loop, 0x0324, .f32, .range 0 1000000 0, 0, 1, 1, .plain⟩
/-- `LOOP[m].KIQ` (R93). -/
def LOOP_KIQ : Field := ⟨.loop, 0x0325, .f32, .range 0 1000000 0, 0, 1, 1, .plain⟩
/-- `LOOP[m].DECOUPLE` (R93). -/
def LOOP_DECOUPLE : Field := ⟨.loop, 0x0326, .u32, .range 0 1 0, 1, 1, 1, .plain⟩
/-- `LOOP[m].HORIZON` (R93). -/
def LOOP_HORIZON : Field := ⟨.loop, 0x0327, .u32, .range 1 4 0, 2, 1, 1, .plain⟩
/-- `LOOP[m].LAMBDA` (R93). -/
def LOOP_LAMBDA : Field := ⟨.loop, 0x0328, .f32, .range 0 1 0, (1/100), 1, 1, .plain⟩
/-- `LOOP[m].VMARGIN` (R93). -/
def LOOP_VMARGIN : Field := ⟨.loop, 0x0329, .f32, .range (4/5) (49/50) 0, (19/20), 1, 1, .plain⟩
/-- `LOOP[m].KFW` (R93). -/
def LOOP_KFW : Field := ⟨.loop, 0x032A, .u32, .range 10 100000 0, 2000, 1, 1, .plain⟩
/-- `LOOP[m].OVRREACT` (R93). -/
def LOOP_OVRREACT : Field := ⟨.loop, 0x032B, .enum, .react [4, 5, 6], 4, 1, 1, .plain⟩
/-- `AXIS[8+k].MODE` (R115). -/
def PI_MODE : Field := ⟨.axis, 0x0401, .enum, .codes 5, 0, 1, 1, .plain⟩
/-- `AXIS[8+k].LINES` (R115). -/
def PI_LINES : Field := ⟨.axis, 0x0402, .u32, .range 1 1048576 0, 1024, 1, 1, .plain⟩
/-- `AXIS[8+k].ZUSE` (R115). -/
def PI_ZUSE : Field := ⟨.axis, 0x0403, .u32, .range 0 1 0, 1, 1, 1, .plain⟩
/-- `AXIS[8+k].FILT` (R115). -/
def PI_FILT : Field := ⟨.axis, 0x0404, .u32, .range 0 1000 25, 100, 1, 1, .plain⟩
/-- `AXIS[8+k].DIR` (R115). -/
def PI_DIR : Field := ⟨.axis, 0x0405, .u32, .range 0 1 0, 0, 1, 1, .plain⟩
/-- `AXIS[8+k].TRKBW` (R115). -/
def PI_TRKBW : Field := ⟨.axis, 0x0406, .u32, .range 100 2000 0, 500, 1, 1, .plain⟩
/-- `AXIS[8+k].RESPP` (R115). -/
def PI_RESPP : Field := ⟨.axis, 0x0407, .u32, .range 1 16 0, 1, 1, 1, .plain⟩
/-- `AXIS[8+k].EXCF` (R115). -/
def PI_EXCF : Field := ⟨.axis, 0x0408, .u32, .range 2000 20000 0, 10000, 1, 1, .plain⟩
/-- `AXIS[8+k].EXCV` (R115). -/
def PI_EXCV : Field := ⟨.axis, 0x0409, .f32, .range 1 (7/2) 0, 2, 1, 1, .plain⟩
/-- `AXIS[8+k].SSIF` (R115). -/
def PI_SSIF : Field := ⟨.axis, 0x040A, .f32, .range (1/10) 10 0, 1, 1, 1, .plain⟩
/-- `AXIS[8+k].SSIBITS` (R115). -/
def PI_SSIBITS : Field := ⟨.axis, 0x040B, .u32, .range 8 32 0, 25, 1, 1, .plain⟩
/-- `AXIS[8+k].SSITURN` (R115). -/
def PI_SSITURN : Field := ⟨.axis, 0x040C, .u32, .range 0 24 0, 12, 1, 1, .plain⟩
/-- `AXIS[8+k].SSICODE` (R115). -/
def PI_SSICODE : Field := ⟨.axis, 0x040D, .enum, .codes 2, 0, 1, 1, .plain⟩
/-- `AXIS[8+k].SSIDLY` (R115). -/
def PI_SSIDLY : Field := ⟨.axis, 0x040E, .u32, .range 0 100 0, 0, 1, 1, .plain⟩
/-- `MOTOR[m].POSMODE` (R115). -/
def MOTOR_POSMODE : Field := ⟨.motor, 0x040F, .enum, .codes 3, 0, 1, 1, .plain⟩
/-- `MOTOR[m].POSSRC` (R115). -/
def MOTOR_POSSRC : Field := ⟨.motor, 0x0410, .enum, .codes 9, 0, 1, 1, .plain⟩
/-- `MOTOR[m].PIRATIO` (R115). -/
def MOTOR_PIRATIO : Field := ⟨.motor, 0x0411, .f32, .range (1/1000) 1000 0, 1, 1, 1, .plain⟩
/-- `MOTOR[m].POSOFS` (R115). -/
def MOTOR_POSOFS : Field := ⟨.motor, 0x0412, .s32, .range (-180) 180 0, 0, 1, 1, .plain⟩
/-- `MOTOR[m].NRATED` (R115). -/
def MOTOR_NRATED : Field := ⟨.motor, 0x0413, .u32, .range 1 30000 0, 1500, 1, 1, .plain⟩
/-- `MOTOR[m].HOIST` (R115). -/
def MOTOR_HOIST : Field := ⟨.motor, 0x0414, .u32, .range 0 1 0, 0, 1, 1, .plain⟩
/-- `MOTOR[m].POSDEV` (R115). -/
def MOTOR_POSDEV : Field := ⟨.motor, 0x0415, .u32, .range 5 90 0, 30, 1, 1, .plain⟩
/-- `MOTOR[m].POSREACT` (R115). -/
def MOTOR_POSREACT : Field := ⟨.motor, 0x0416, .enum, .react [4, 5, 6], 4, 1, 1, .plain⟩
/-- `MOTOR[m].OBSBW` (R115). -/
def MOTOR_OBSBW : Field := ⟨.motor, 0x0417, .f32, .range (1/2) 50 0, 5, 1, 1, .plain⟩
/-- `MOTOR[m].PLLBW` (R115). -/
def MOTOR_PLLBW : Field := ⟨.motor, 0x0418, .u32, .range 5 500 0, 50, 1, 1, .plain⟩
/-- `MOTOR[m].HFIV` (R115). -/
def MOTOR_HFIV : Field := ⟨.motor, 0x0419, .u32, .range 1 20 0, 5, 1, 1, .plain⟩
/-- `MOTOR[m].HFIPOL` (R115). -/
def MOTOR_HFIPOL : Field := ⟨.motor, 0x041A, .u32, .range 10 100 0, 50, 1, 1, .plain⟩
/-- `MOTOR[m].IFI` (R115). -/
def MOTOR_IFI : Field := ⟨.motor, 0x041B, .u32, .range 5 100 0, 50, 1, 1, .plain⟩
/-- `MOTOR[m].IFALIGN` (R115). -/
def MOTOR_IFALIGN : Field := ⟨.motor, 0x041C, .u32, .range 50 2000 0, 200, 1, 1, .plain⟩
/-- `MOTOR[m].IFACC` (R115). -/
def MOTOR_IFACC : Field := ⟨.motor, 0x041D, .f32, .range (1/10) 100 0, 5, 1, 1, .plain⟩
/-- `MOTOR[m].IFTMAX` (R115). -/
def MOTOR_IFTMAX : Field := ⟨.motor, 0x041E, .f32, .range (1/2) 60 0, 10, 1, 1, .plain⟩
/-- `MOTOR[m].STARTRETRY` (R115). -/
def MOTOR_STARTRETRY : Field := ⟨.motor, 0x041F, .u32, .range 1 7 0, 3, 1, 1, .plain⟩
/-- `MOTOR[m].SRCHI` (R115). -/
def MOTOR_SRCHI : Field := ⟨.motor, 0x0420, .u32, .range 5 50 0, 15, 1, 1, .plain⟩
/-- `MOTOR[m].SRCHT` (R115). -/
def MOTOR_SRCHT : Field := ⟨.motor, 0x0421, .u32, .range 100 2000 0, 500, 1, 1, .plain⟩
/-- `CURVE[c].NPT` (R138). -/
def CURVE_NPT : Field := ⟨.curve, 0x0501, .u32, .range 2 33 0, 2, 1, 1, .plain⟩
/-- `CURVE[c].X[i]` (R138). -/
def CURVE_X : Field := ⟨.curve, 0x0502, .f32, .range 0 1 0, 0, 33, 1, .plain⟩
/-- `CURVE[c].Y[i]` (R138). -/
def CURVE_Y : Field := ⟨.curve, 0x0503, .f32, .range 0 1 0, 0, 33, 1, .plain⟩
/-- `CURVE[c].XON` (R138). -/
def CURVE_XON : Field := ⟨.curve, 0x0504, .f32, .range (1/500) (1/2) 0, (1/50), 1, 1, .plain⟩
/-- `CURVE[c].XOFF` (R138). -/
def CURVE_XOFF : Field := ⟨.curve, 0x0505, .f32, .range (1/1000) (499/1000) 0, (1/100), 1, 1, .plain⟩
/-- `CURVE[c].NEGSCALE` (R138). -/
def CURVE_NEGSCALE : Field := ⟨.curve, 0x0506, .f32, .range 0 1 0, 1, 1, 1, .plain⟩
/-- `LOOP[m].SRC[j]` (R138). -/
def LOOP_SRC : Field := ⟨.loop, 0x0507, .enum, .codes 34, 0, 4, 1, .plain⟩
/-- `LOOP[m].CURVE` (R138). -/
def LOOP_CURVE : Field := ⟨.loop, 0x0508, .u32, .range 0 15 0, 0, 1, 1, .plain⟩
/-- `LOOP[m].CMDTO` (R138). -/
def LOOP_CMDTO : Field := ⟨.loop, 0x0509, .u32, .range 10 5000 0, 200, 1, 1, .plain⟩
/-- `LOOP[m].XFERWIN` (R138). -/
def LOOP_XFERWIN : Field := ⟨.loop, 0x050A, .f32, .range (1/200) (1/5) 0, (1/20), 1, 1, .plain⟩
/-- `LOOP[m].LOSSACT` (R138). -/
def LOOP_LOSSACT : Field := ⟨.loop, 0x050B, .enum, .codes 3, 1, 1, 1, .plain⟩
/-- `LOOP[m].LOSSPRESET` (R138). -/
def LOOP_LOSSPRESET : Field := ⟨.loop, 0x050C, .f32, .range (-1) 1 0, 0, 1, 1, .plain⟩
/-- `LOOP[m].MODE` (R138). -/
def LOOP_MODE : Field := ⟨.loop, 0x050D, .enum, .codes 4, 1, 1, 1, .plain⟩
/-- `LOOP[m].REFSCALE` (R138). -/
def LOOP_REFSCALE : Field := ⟨.loop, 0x050E, .f32, .range (1/1000) 1000000 0, 1, 1, 1, .plain⟩
/-- `LOOP[m].RAMPUP` (R138). -/
def LOOP_RAMPUP : Field := ⟨.loop, 0x050F, .f32, .range (1/10) 1000 0, 10, 1, 1, .plain⟩
/-- `LOOP[m].RAMPDN` (R138). -/
def LOOP_RAMPDN : Field := ⟨.loop, 0x0510, .f32, .range (1/10) 1000 0, 10, 1, 1, .plain⟩
/-- `LOOP[m].PROFILE` (R138). -/
def LOOP_PROFILE : Field := ⟨.loop, 0x0511, .u32, .range 0 1 0, 0, 1, 1, .plain⟩
/-- `LOOP[m].TRATED` (R138). -/
def LOOP_TRATED : Field := ⟨.loop, 0x0512, .u32, .range 1 2000000 0, 1000, 1, 1, .plain⟩
/-- `LOOP[m].TMOT` (R138). -/
def LOOP_TMOT : Field := ⟨.loop, 0x0513, .u32, .range 0 300 0, 100, 1, 1, .plain⟩
/-- `LOOP[m].TREG` (R138). -/
def LOOP_TREG : Field := ⟨.loop, 0x0514, .u32, .range 0 300 0, 100, 1, 1, .plain⟩
/-- `LOOP[m].JTOT` (R138). -/
def LOOP_JTOT : Field := ⟨.loop, 0x0515, .f32, .range (1/1000) 100000 0, 1, 1, 1, .plain⟩
/-- `LOOP[m].SPDBW` (R138). -/
def LOOP_SPDBW : Field := ⟨.loop, 0x0516, .f32, .range (1/2) 200 0, 10, 1, 1, .plain⟩
/-- `LOOP[m].KPS` (R138). -/
def LOOP_KPS : Field := ⟨.loop, 0x0517, .f32, .range 0 1000000 0, 0, 1, 1, .plain⟩
/-- `LOOP[m].KIS` (R138). -/
def LOOP_KIS : Field := ⟨.loop, 0x0518, .f32, .range 0 100000000 0, 0, 1, 1, .plain⟩
/-- `LOOP[m].LTOBW` (R138). -/
def LOOP_LTOBW : Field := ⟨.loop, 0x0519, .f32, .range (1/2) 100 0, 5, 1, 1, .plain⟩
/-- `LOOP[m].LTOFF` (R138). -/
def LOOP_LTOFF : Field := ⟨.loop, 0x051A, .f32, .range 0 1 0, 1, 1, 1, .plain⟩
/-- `LOOP[m].GEAR` (R138). -/
def LOOP_GEAR : Field := ⟨.loop, 0x051B, .u32, .range 1 1000 0, 1, 1, 1, .plain⟩
/-- `LOOP[m].ETA` (R138). -/
def LOOP_ETA : Field := ⟨.loop, 0x051C, .f32, .range (1/2) 1 0, (19/20), 1, 1, .plain⟩
/-- `LOOP[m].TSRC` (R138). -/
def LOOP_TSRC : Field := ⟨.loop, 0x051D, .enum, .codes 2, 1, 1, 1, .plain⟩
/-- `LOOP[m].KPF` (R138). -/
def LOOP_KPF : Field := ⟨.loop, 0x051E, .f32, .range 0 100000 0, 0, 1, 1, .plain⟩
/-- `LOOP[m].KIF` (R138). -/
def LOOP_KIF : Field := ⟨.loop, 0x051F, .f32, .range 0 1000000 0, 0, 1, 1, .plain⟩
/-- `LOOP[m].TMAXREF` (R138). -/
def LOOP_TMAXREF : Field := ⟨.loop, 0x0520, .u32, .range 0 100000 0, 0, 1, 1, .plain⟩
/-- `LOOP[m].TSPDLIM` (R138). -/
def LOOP_TSPDLIM : Field := ⟨.loop, 0x0521, .u32, .range 0 30000 0, 100, 1, 1, .plain⟩
/-- `LOOP[m].RCORE` (R138). -/
def LOOP_RCORE : Field := ⟨.loop, 0x0522, .f32, .range (1/20) 10 0, (1/2), 1, 1, .plain⟩
/-- `LOOP[m].DROPE` (R138). -/
def LOOP_DROPE : Field := ⟨.loop, 0x0523, .u32, .range 1 200 0, 20, 1, 1, .plain⟩
/-- `LOOP[m].WRAPS` (R138). -/
def LOOP_WRAPS : Field := ⟨.loop, 0x0524, .u32, .range 1 1000 0, 20, 1, 1, .plain⟩
/-- `LOOP[m].LAYERS` (R138). -/
def LOOP_LAYERS : Field := ⟨.loop, 0x0525, .u32, .range 1 255 0, 1, 1, 1, .plain⟩
/-- `LOOP[m].LAYK` (R138). -/
def LOOP_LAYK : Field := ⟨.loop, 0x0526, .f32, .range (1/2) 1 0, (87/100), 1, 1, .plain⟩
/-- `LOOP[m].LAYTRANS` (R138). -/
def LOOP_LAYTRANS : Field := ⟨.loop, 0x0527, .f32, .range (1/10) 2 0, (1/2), 1, 1, .plain⟩
/-- `LOOP[m].LTOTAL` (R138). -/
def LOOP_LTOTAL : Field := ⟨.loop, 0x0528, .u32, .range 0 20000 0, 0, 1, 1, .plain⟩
/-- `LOOP[m].KPP` (R138). -/
def LOOP_KPP : Field := ⟨.loop, 0x0529, .f32, .range (1/10) 100 0, 5, 1, 1, .plain⟩
/-- `LOOP[m].SPOOLREACT` (R138). -/
def LOOP_SPOOLREACT : Field := ⟨.loop, 0x052A, .enum, .react [0, 1, 2, 3, 4, 5, 6], 3, 1, 1, .plain⟩
/-- `LOOP[m].TPROVE` (R138). -/
def LOOP_TPROVE : Field := ⟨.loop, 0x052B, .u32, .range 5 150 0, 30, 1, 1, .plain⟩
/-- `MOTOR[m].BRAKE0` (R138). -/
def MOTOR_BRAKE0 : Field := ⟨.motor, 0x052C, .enum, .codes 9, 0, 1, 1, .plain⟩
/-- `MOTOR[m].BRAKE1` (R138). -/
def MOTOR_BRAKE1 : Field := ⟨.motor, 0x052D, .enum, .codes 9, 0, 1, 1, .plain⟩
/-- `MOTOR[m].BRKFB` (R138). -/
def MOTOR_BRKFB : Field := ⟨.motor, 0x052E, .enum, .codes 13, 0, 1, 1, .plain⟩
/-- `MOTOR[m].BRKOPENT` (R138). -/
def MOTOR_BRKOPENT : Field := ⟨.motor, 0x052F, .u32, .range 50 2000 0, 300, 1, 1, .plain⟩
/-- `MOTOR[m].BRKCLOSET` (R138). -/
def MOTOR_BRKCLOSET : Field := ⟨.motor, 0x0530, .u32, .range 50 2000 0, 300, 1, 1, .plain⟩
/-- `MOTOR[m].PROVEMOV` (R138). -/
def MOTOR_PROVEMOV : Field := ⟨.motor, 0x0531, .u32, .range 1 90 0, 10, 1, 1, .plain⟩
/-- `MOTOR[m].STANDSTILL` (R138). -/
def MOTOR_STANDSTILL : Field := ⟨.motor, 0x0532, .enum, .codes 2, 0, 1, 1, .plain⟩
/-- `LOOP[m].DERATEK` (R138). -/
def LOOP_DERATEK : Field := ⟨.loop, 0x0533, .f32, .range (1/10) 1 0, (1/2), 1, 1, .plain⟩
/-- `LOOP[m].TOPER` (R138). -/
def LOOP_TOPER : Field := ⟨.loop, 0x0534, .u32, .range 50 125 1, 100, 1, 1, .plain⟩
/-- `PROFILE[p].VMAX` (R161). -/
def PROFILE_VMAX : Field := ⟨.profile, 0x0601, .f32, .range (1/1000000) 4000000 0, 1, 1, 1, .plain⟩
/-- `PROFILE[p].AMAX` (R161). -/
def PROFILE_AMAX : Field := ⟨.profile, 0x0602, .f32, .range (1/1000000) 1000000000 0, 1, 1, 1, .plain⟩
/-- `PROFILE[p].DMAX` (R161). -/
def PROFILE_DMAX : Field := ⟨.profile, 0x0603, .f32, .range (1/1000000) 1000000000 0, 1, 1, 1, .plain⟩
/-- `PROFILE[p].JMAX` (R161). -/
def PROFILE_JMAX : Field := ⟨.profile, 0x0604, .f32, .range (1/1000000) 1000000000000 0, 10, 1, 1, .plain⟩
/-- `PROFILE[p].NOOVER` (R161). -/
def PROFILE_NOOVER : Field := ⟨.profile, 0x0605, .u32, .range 0 1 0, 0, 1, 1, .plain⟩
/-- `LOOP[m].PROFSEL` (R161). -/
def LOOP_PROFSEL : Field := ⟨.loop, 0x0606, .u32, .range 0 15 0, 0, 1, 1, .plain⟩
/-- `AXIS[k].PROFSEL` (R161). -/
def AXIS_PROFSEL : Field := ⟨.axis, 0x0607, .u32, .range 0 15 0, 0, 1, 1, .plain⟩
/-- `AXIS[k].MODE` (R161). -/
def AXIS_MODE : Field := ⟨.axis, 0x0608, .enum, .codes 3, 0, 1, 1, .plain⟩
/-- `AXIS[k].LINKMO` (R161). -/
def AXIS_LINKMO : Field := ⟨.axis, 0x0609, .enum, .codes 5, 0, 1, 1, .plain⟩
/-- `AXIS[k].STEPW` (R161). -/
def AXIS_STEPW : Field := ⟨.axis, 0x060A, .f32, .range 100 10000 (5/2), 2000, 1, 1, .plain⟩
/-- `AXIS[k].DIRSU` (R161). -/
def AXIS_DIRSU : Field := ⟨.axis, 0x060B, .f32, .range (1/10) 50 0, 5, 1, 1, .plain⟩
/-- `AXIS[k].DIRINV` (R161). -/
def AXIS_DIRINV : Field := ⟨.axis, 0x060C, .u32, .range 0 1 0, 0, 1, 1, .plain⟩
/-- `AXIS[k].SWLIMP` (R161). -/
def AXIS_SWLIMP : Field := ⟨.axis, 0x060D, .s64, .range (-9223372036854775808) 9223372036854775807 0, 9223372036854775807, 1, 1, .plain⟩
/-- `AXIS[k].SWLIMN` (R161). -/
def AXIS_SWLIMN : Field := ⟨.axis, 0x060E, .s64, .range (-9223372036854775808) 9223372036854775807 0, (-9223372036854775808), 1, 1, .plain⟩
/-- `AXIS[k].ENONDLY` (R161). -/
def AXIS_ENONDLY : Field := ⟨.axis, 0x060F, .u32, .range 0 500 0, 50, 1, 1, .plain⟩
/-- `AXIS[k].ENOFFDLY` (R161). -/
def AXIS_ENOFFDLY : Field := ⟨.axis, 0x0610, .u32, .range 0 60000 0, 1000, 1, 1, .plain⟩
/-- `AXIS[k].STANDSTILL` (R161). -/
def AXIS_STANDSTILL : Field := ⟨.axis, 0x0611, .enum, .codes 2, 0, 1, 1, .plain⟩
/-- `AXIS[k].ENOFFUNC` (R161). -/
def AXIS_ENOFFUNC : Field := ⟨.axis, 0x0612, .u32, .range 0 1 0, 0, 1, 1, .plain⟩
/-- `AXIS[k].INPOL` (R161). -/
def AXIS_INPOL : Field := ⟨.axis, 0x0613, .u32, .range 0 15 0, 0, 1, 1, .plain⟩
/-- `AXIS[k].DEBOUNCE` (R161). -/
def AXIS_DEBOUNCE : Field := ⟨.axis, 0x0614, .u32, .range 2 50 0, 10, 1, 1, .plain⟩
/-- `AXIS[k].LIMACT` (R161). -/
def AXIS_LIMACT : Field := ⟨.axis, 0x0615, .enum, .codes 3, 0, 1, 1, .plain⟩
/-- `AXIS[k].HOMESRC` (R161). -/
def AXIS_HOMESRC : Field := ⟨.axis, 0x0616, .enum, .codes 3, 0, 1, 1, .plain⟩
/-- `AXIS[k].HOMEDIR` (R161). -/
def AXIS_HOMEDIR : Field := ⟨.axis, 0x0617, .enum, .codes 2, 1, 1, 1, .plain⟩
/-- `AXIS[k].HOMEV` (R161). -/
def AXIS_HOMEV : Field := ⟨.axis, 0x0618, .u32, .range 1 4000000 0, 1000, 1, 1, .plain⟩
/-- `AXIS[k].HOMEPOS` (R161). -/
def AXIS_HOMEPOS : Field := ⟨.axis, 0x0619, .s64, .range (-9223372036854775808) 9223372036854775807 0, 0, 1, 1, .plain⟩
/-- `AXIS[k].HOMEPARK` (R161). -/
def AXIS_HOMEPARK : Field := ⟨.axis, 0x061A, .s64, .range (-9223372036854775808) 9223372036854775807 0, 0, 1, 1, .plain⟩
/-- `AXIS[k].HOMELIM` (R161). -/
def AXIS_HOMELIM : Field := ⟨.axis, 0x061B, .enum, .codes 2, 0, 1, 1, .plain⟩
/-- `AXIS[k].HOMETMAX` (R161). -/
def AXIS_HOMETMAX : Field := ⟨.axis, 0x061C, .u32, .range 1 600 0, 60, 1, 1, .plain⟩
/-- `AXIS[k].SPMM` (R161). -/
def AXIS_SPMM : Field := ⟨.axis, 0x061D, .u32, .range 1 100000 0, 100, 1, 1, .plain⟩
/-- `AXIS[k].LWX0` (R161). -/
def AXIS_LWX0 : Field := ⟨.axis, 0x061E, .s32, .range (-10000) 10000 0, 0, 1, 1, .plain⟩
/-- `AXIS[k].LWKP` (R161). -/
def AXIS_LWKP : Field := ⟨.axis, 0x061F, .f32, .range (1/10) 50 0, 5, 1, 1, .plain⟩
/-- `AXIS[k].LWERRMAX` (R161). -/
def AXIS_LWERRMAX : Field := ⟨.axis, 0x0620, .f32, .range (1/2) 100 0, 10, 1, 1, .plain⟩
/-- `AXIS[k].LWREACT` (R161). -/
def AXIS_LWREACT : Field := ⟨.axis, 0x0621, .enum, .react [0, 1, 2, 3, 4, 5, 6], 3, 1, 1, .plain⟩
/-- `LOOP[m].SHKEN` (R180). -/
def LOOP_SHKEN : Field := ⟨.loop, 0x0701, .u32, .range 0 1 0, 0, 1, 1, .plain⟩
/-- `LOOP[m].SHKSRC` (R180). -/
def LOOP_SHKSRC : Field := ⟨.loop, 0x0702, .enum, .codes 2, 1, 1, 1, .plain⟩
/-- `LOOP[m].SHKPIN` (R180). -/
def LOOP_SHKPIN : Field := ⟨.loop, 0x0703, .enum, .codes 97, 0, 1, 1, .plain⟩
/-- `LOOP[m].SHKDF` (R180). -/
def LOOP_SHKDF : Field := ⟨.loop, 0x0704, .u32, .range 1 10000 0, 50, 1, 1, .plain⟩
/-- `LOOP[m].SHKN` (R180). -/
def LOOP_SHKN : Field := ⟨.loop, 0x0705, .u32, .range 1 3 0, 2, 1, 1, .plain⟩
/-- `LOOP[m].SHKBW` (R180). -/
def LOOP_SHKBW : Field := ⟨.loop, 0x0706, .f32, .range (1/2) 20 0, 5, 1, 1, .plain⟩
/-- `LOOP[m].RNDEN` (R180). -/
def LOOP_RNDEN : Field := ⟨.loop, 0x0707, .u32, .range 0 1 0, 0, 1, 1, .plain⟩
/-- `LOOP[m].RNDK` (R180). -/
def LOOP_RNDK : Field := ⟨.loop, 0x0708, .u32, .range 10 100000 0, 1000, 1, 1, .plain⟩
/-- `LOOP[m].RNDZETA` (R180). -/
def LOOP_RNDZETA : Field := ⟨.loop, 0x0709, .f32, .range (1/5) 2 0, (7/10), 1, 1, .plain⟩
/-- `LOOP[m].RNDCEIL` (R180). -/
def LOOP_RNDCEIL : Field := ⟨.loop, 0x070A, .u32, .range 0 100000 0, 0, 1, 1, .plain⟩
/-- `LOOP[m].RNDFLOOR` (R180). -/
def LOOP_RNDFLOOR : Field := ⟨.loop, 0x070B, .u32, .range 0 100000 0, 0, 1, 1, .plain⟩
/-- `LOOP[m].RNDVMAX` (R180). -/
def LOOP_RNDVMAX : Field := ⟨.loop, 0x070C, .f32, .range (1/100) 10 0, 1, 1, 1, .plain⟩
/-- `LOOP[m].RNDLMAX` (R180). -/
def LOOP_RNDLMAX : Field := ⟨.loop, 0x070D, .f32, .range (1/10) 1000 0, 10, 1, 1, .plain⟩
/-- `LOOP[m].RNDEXIT` (R180). -/
def LOOP_RNDEXIT : Field := ⟨.loop, 0x070E, .f32, .range (1/2) 50 0, 5, 1, 1, .plain⟩
/-- `LOOP[m].RNDHOLD` (R180). -/
def LOOP_RNDHOLD : Field := ⟨.loop, 0x070F, .f32, .range (1/10) 30 0, 2, 1, 1, .plain⟩
/-- `LOOP[m].RNDRECV` (R180). -/
def LOOP_RNDRECV : Field := ⟨.loop, 0x0710, .f32, .range (1/100) 2 0, (1/10), 1, 1, .plain⟩
/-- `LOOP[m].HVMRUZ` (R180). -/
def LOOP_HVMRUZ : Field := ⟨.loop, 0x0711, .enum, .codes 33, 0, 1, 1, .plain⟩
/-- `LOOP[m].HVMRUR` (R180). -/
def LOOP_HVMRUR : Field := ⟨.loop, 0x0712, .enum, .codes 33, 0, 1, 1, .plain⟩
/-- `LOOP[m].HVMRUP` (R180). -/
def LOOP_HVMRUP : Field := ⟨.loop, 0x0713, .enum, .codes 33, 0, 1, 1, .plain⟩
/-- `LOOP[m].HVZFS` (R180). -/
def LOOP_HVZFS : Field := ⟨.loop, 0x0714, .u32, .range 1 50 0, 10, 1, 1, .plain⟩
/-- `LOOP[m].HVAFS` (R180). -/
def LOOP_HVAFS : Field := ⟨.loop, 0x0715, .u32, .range 1 90 0, 30, 1, 1, .plain⟩
/-- `LOOP[m].HVARMX` (R180). -/
def LOOP_HVARMX : Field := ⟨.loop, 0x0716, .s32, .range (-200) 200 0, 0, 1, 1, .plain⟩
/-- `LOOP[m].HVARMY` (R180). -/
def LOOP_HVARMY : Field := ⟨.loop, 0x0717, .s32, .range (-200) 200 0, 0, 1, 1, .plain⟩
/-- `LOOP[m].HVMRUTO` (R180). -/
def LOOP_HVMRUTO : Field := ⟨.loop, 0x0718, .u32, .range 10 1000 0, 50, 1, 1, .plain⟩
/-- `LOOP[m].HVNWAVE` (R180). -/
def LOOP_HVNWAVE : Field := ⟨.loop, 0x0719, .u32, .range 1 8 0, 4, 1, 1, .plain⟩
/-- `LOOP[m].HVOBSBW` (R180). -/
def LOOP_HVOBSBW : Field := ⟨.loop, 0x071A, .f32, .range (1/100) (1/2) 0, (1/20), 1, 1, .plain⟩
/-- `LOOP[m].HVTAU` (R180). -/
def LOOP_HVTAU : Field := ⟨.loop, 0x071B, .f32, .range (1/5) 2 0, (1/2), 1, 1, .plain⟩
/-- `LOOP[m].HVERRMAX` (R180). -/
def LOOP_HVERRMAX : Field := ⟨.loop, 0x071C, .u32, .range 5 100 0, 30, 1, 1, .plain⟩
/-- `LOOP[m].HVGAIN` (R180). -/
def LOOP_HVGAIN : Field := ⟨.loop, 0x071D, .f32, .range 0 1 0, 1, 1, 1, .plain⟩
/-- `LOOP[m].HVFALLS` (R180). -/
def LOOP_HVFALLS : Field := ⟨.loop, 0x071E, .u32, .range 1 8 0, 1, 1, 1, .plain⟩
/-- `LOOP[m].HVRAMP` (R180). -/
def LOOP_HVRAMP : Field := ⟨.loop, 0x071F, .u32, .range 1 60 0, 10, 1, 1, .plain⟩
/-- `LOOP[m].HVSTROKE` (R180). -/
def LOOP_HVSTROKE : Field := ⟨.loop, 0x0720, .f32, .range (1/10) 20 0, 5, 1, 1, .plain⟩
/-- `LOOP[m].HVVMAX` (R180). -/
def LOOP_HVVMAX : Field := ⟨.loop, 0x0721, .f32, .range (1/20) 5 0, 2, 1, 1, .plain⟩
/-- `LOOP[m].HVAMAX` (R180). -/
def LOOP_HVAMAX : Field := ⟨.loop, 0x0722, .f32, .range (1/20) 10 0, 2, 1, 1, .plain⟩
/-- `LOOP[m].HVCOAST` (R180). -/
def LOOP_HVCOAST : Field := ⟨.loop, 0x0723, .u32, .range 0 5 0, 2, 1, 1, .plain⟩
/-- `LOOP[m].HVSTATWIN` (R180). -/
def LOOP_HVSTATWIN : Field := ⟨.loop, 0x0724, .u32, .range 120 3600 0, 1200, 1, 1, .plain⟩
/-- `RING.NMOD` (R202). -/
def RING_NMOD : Field := ⟨.ring, 0x0801, .u32, .range 1 8 0, 1, 1, 1, .plain⟩
/-- `RING.POS` (R202). -/
def RING_POS : Field := ⟨.ring, 0x0802, .u32, .range 0 7 0, 0, 1, 1, .plain⟩
/-- `RING.GID` (R202). -/
def RING_GID : Field := ⟨.ring, 0x0803, .u32, .range 1 65535 0, 1, 1, 1, .plain⟩
/-- `RING.LEADOK` (R202). -/
def RING_LEADOK : Field := ⟨.ring, 0x0804, .u32, .range 0 1 0, 0, 1, 1, .plain⟩
/-- `RING.GTRATED` (R202). -/
def RING_GTRATED : Field := ⟨.ring, 0x0805, .u32, .range 1 20000000 0, 1000, 1, 1, .plain⟩
/-- `RING.MEMBER[m]` (R202). -/
def RING_MEMBER : Field := ⟨.ring, 0x0806, .u32, .range 0 1 0, 0, 4, 1, .plain⟩
/-- `RING.WEIGHT[m]` (R202). -/
def RING_WEIGHT : Field := ⟨.ring, 0x0807, .u32, .range 1 255 0, 1, 4, 1, .plain⟩
/-- `RING.PHASE[m]` (R202). -/
def RING_PHASE : Field := ⟨.ring, 0x0808, .u32, .range 0 31 0, 0, 4, 1, .plain⟩
/-- `RING.CARRALIGN` (R202). -/
def RING_CARRALIGN : Field := ⟨.ring, 0x0809, .u32, .range 0 1 0, 1, 1, 1, .plain⟩
/-- `RING.JOINRAMP` (R202). -/
def RING_JOINRAMP : Field := ⟨.ring, 0x080A, .u32, .range 10 10000 0, 500, 1, 1, .plain⟩
/-- `RING.DRAINT` (R202). -/
def RING_DRAINT : Field := ⟨.ring, 0x080B, .u32, .range 10 10000 0, 1000, 1, 1, .plain⟩
/-- `RING.DRAINMAX` (R202). -/
def RING_DRAINMAX : Field := ⟨.ring, 0x080C, .u32, .range 1 60 0, 10, 1, 1, .plain⟩
/-- `RING.LOSSREACT` (R202). -/
def RING_LOSSREACT : Field := ⟨.ring, 0x080D, .enum, .react [0, 1, 2, 3, 4, 5, 6], 0, 1, 1, .plain⟩
/-- `RING.NOLEADREACT` (R202). -/
def RING_NOLEADREACT : Field := ⟨.ring, 0x080E, .enum, .react [4, 5, 6], 4, 1, 1, .plain⟩
/-- `RING.CONSREACT` (R202). -/
def RING_CONSREACT : Field := ⟨.ring, 0x080F, .enum, .react [0, 1, 2, 3, 4, 5, 6], 4, 1, 1, .plain⟩
/-- `RING.BRSHARE` (R202). -/
def RING_BRSHARE : Field := ⟨.ring, 0x0810, .u32, .range 0 1 0, 0, 1, 1, .plain⟩
/-- `RING.PBRATED` (R202). -/
def RING_PBRATED : Field := ⟨.ring, 0x0811, .u32, .range 1 50000 0, 100, 1, 1, .plain⟩
/-- `EMERGENCY[m].STOPCAT` (R215). -/
def EMERGENCY_STOPCAT : Field := ⟨.emergency, 0x0901, .u32, .range 1 2 0, 1, 1, 1, .plain⟩
/-- `EMERGENCY[m].STOPT` (R215). -/
def EMERGENCY_STOPT : Field := ⟨.emergency, 0x0902, .f32, .range (1/10) 600 0, 10, 1, 1, .plain⟩
/-- `EMERGENCY[m].QSTOPT` (R215). -/
def EMERGENCY_QSTOPT : Field := ⟨.emergency, 0x0903, .f32, .range (1/20) 60 0, 2, 1, 1, .plain⟩
/-- `EMERGENCY[m].EQREN` (R215). -/
def EMERGENCY_EQREN : Field := ⟨.emergency, 0x0904, .u32, .range 0 1 0, 0, 1, 1, .plain⟩
/-- `EMERGENCY[m].EQRIN` (R215). -/
def EMERGENCY_EQRIN : Field := ⟨.emergency, 0x0905, .enum, .codes 13, 0, 1, 1, .plain⟩
/-- `EMERGENCY[m].EQRV` (R215). -/
def EMERGENCY_EQRV : Field := ⟨.emergency, 0x0906, .f32, .range (1/20) 10 0, 1, 1, 1, .plain⟩
/-- `EMERGENCY[m].EQRACC` (R215). -/
def EMERGENCY_EQRACC : Field := ⟨.emergency, 0x0907, .f32, .range (1/20) 10 0, (1/2), 1, 1, .plain⟩
/-- `EMERGENCY[m].EQRLEN` (R215). -/
def EMERGENCY_EQRLEN : Field := ⟨.emergency, 0x0908, .u32, .range 1 20000 0, 100, 1, 1, .plain⟩
/-- `EMERGENCY[m].MINWRAP` (R215). -/
def EMERGENCY_MINWRAP : Field := ⟨.emergency, 0x0909, .u32, .range 1 1000 0, 3, 1, 1, .plain⟩
/-- `EMERGENCY[m].CROEN` (R215). -/
def EMERGENCY_CROEN : Field := ⟨.emergency, 0x090A, .u32, .range 0 1 0, 0, 1, 1, .plain⟩
/-- `EMERGENCY[m].CROF` (R215). -/
def EMERGENCY_CROF : Field := ⟨.emergency, 0x090B, .u32, .range 0 100000 0, 0, 1, 1, .plain⟩
/-- `EMERGENCY[m].CRODLY` (R215). -/
def EMERGENCY_CRODLY : Field := ⟨.emergency, 0x090C, .u32, .range 10 1000 0, 100, 1, 1, .plain⟩
/-- `EMERGENCY[m].CROVMAX` (R215). -/
def EMERGENCY_CROVMAX : Field := ⟨.emergency, 0x090D, .f32, .range (1/20) 10 0, 2, 1, 1, .plain⟩
/-- `EMERGENCY[m].CROEXIT` (R215). -/
def EMERGENCY_CROEXIT : Field := ⟨.emergency, 0x090E, .u32, .range 50 99 0, 80, 1, 1, .plain⟩
/-- `EMERGENCY[m].CROHOLD` (R215). -/
def EMERGENCY_CROHOLD : Field := ⟨.emergency, 0x090F, .f32, .range (1/2) 60 0, 5, 1, 1, .plain⟩
/-- `EMERGENCY[m].SLKEN` (R215). -/
def EMERGENCY_SLKEN : Field := ⟨.emergency, 0x0910, .u32, .range 0 1 0, 0, 1, 1, .plain⟩
/-- `EMERGENCY[m].SLKF` (R215). -/
def EMERGENCY_SLKF : Field := ⟨.emergency, 0x0911, .u32, .range 0 10000 0, 5, 1, 1, .plain⟩
/-- `EMERGENCY[m].SLKDLY` (R215). -/
def EMERGENCY_SLKDLY : Field := ⟨.emergency, 0x0912, .u32, .range 10 2000 0, 200, 1, 1, .plain⟩
/-- `EMERGENCY[m].SLKIN` (R215). -/
def EMERGENCY_SLKIN : Field := ⟨.emergency, 0x0913, .enum, .codes 13, 0, 1, 1, .plain⟩
/-- `EMERGENCY[m].SLKDEC` (R215). -/
def EMERGENCY_SLKDEC : Field := ⟨.emergency, 0x0914, .f32, .range (1/20) 10 0, 1, 1, 1, .plain⟩
/-- `EMERGENCY[m].SLKTAKEUP` (R215). -/
def EMERGENCY_SLKTAKEUP : Field := ⟨.emergency, 0x0915, .u32, .range 0 1 0, 0, 1, 1, .plain⟩
/-- `EMERGENCY[m].SLKVUP` (R215). -/
def EMERGENCY_SLKVUP : Field := ⟨.emergency, 0x0916, .f32, .range (1/100) 1 0, (1/10), 1, 1, .plain⟩
/-- `EMERGENCY[m].ETEN` (R215). -/
def EMERGENCY_ETEN : Field := ⟨.emergency, 0x0917, .u32, .range 0 1 0, 0, 1, 1, .plain⟩
/-- `EMERGENCY[m].ETBUD` (R215). -/
def EMERGENCY_ETBUD : Field := ⟨.emergency, 0x0918, .u32, .range 1 60 0, 60, 1, 1, .plain⟩
/-- `EMERGENCY[m].ETFADE` (R215). -/
def EMERGENCY_ETFADE : Field := ⟨.emergency, 0x0919, .f32, .range (1/2) 10 0, 2, 1, 1, .plain⟩
/-- `EMERGENCY[m].LOSSESC` (R215). -/
def EMERGENCY_LOSSESC : Field := ⟨.emergency, 0x091A, .enum, .codes 3, 0, 1, 1, .plain⟩
/-- `EMERGENCY[m].LOSSTMAX` (R215). -/
def EMERGENCY_LOSSTMAX : Field := ⟨.emergency, 0x091B, .u32, .range 1 3600 0, 60, 1, 1, .plain⟩
/-- `EMERGENCY[m].VDCNOM` (R215). -/
def EMERGENCY_VDCNOM : Field := ⟨.emergency, 0x091C, .u32, .range 10 20000 0, 700, 1, 1, .plain⟩
/-- `EMERGENCY[m].BOUV` (R215). -/
def EMERGENCY_BOUV : Field := ⟨.emergency, 0x091D, .u32, .range 30 90 0, 60, 1, 1, .plain⟩
/-- `EMERGENCY[m].BORECOV` (R215). -/
def EMERGENCY_BORECOV : Field := ⟨.emergency, 0x091E, .u32, .range 70 100 0, 85, 1, 1, .plain⟩
/-- `EMERGENCY[m].BOSTAB` (R215). -/
def EMERGENCY_BOSTAB : Field := ⟨.emergency, 0x091F, .f32, .range (1/10) 60 0, 2, 1, 1, .plain⟩
/-- `EMERGENCY[m].BOAUTO` (R215). -/
def EMERGENCY_BOAUTO : Field := ⟨.emergency, 0x0920, .u32, .range 0 1 0, 0, 1, 1, .plain⟩
/-- `EMERGENCY[m].BODLY` (R215). -/
def EMERGENCY_BODLY : Field := ⟨.emergency, 0x0921, .u32, .range 0 60 0, 1, 1, 1, .plain⟩
/-- `EMERGENCY[m].BOSTAG` (R215). -/
def EMERGENCY_BOSTAG : Field := ⟨.emergency, 0x0922, .f32, .range (1/10) 30 0, 2, 1, 1, .plain⟩
/-- `EMERGENCY[m].BOMEM` (R215). -/
def EMERGENCY_BOMEM : Field := ⟨.emergency, 0x0923, .u32, .range 1 600 0, 60, 1, 1, .plain⟩
/-- `EMERGENCY[m].DEGRADE` (R215). -/
def EMERGENCY_DEGRADE : Field := ⟨.emergency, 0x0924, .u32, .range 0 1 0, 0, 1, 1, .plain⟩
/-- `EMERGENCY[m].ISOT` (R215). -/
def EMERGENCY_ISOT : Field := ⟨.emergency, 0x0925, .u32, .range 50 2000 0, 300, 1, 1, .plain⟩
/-- `BRIDGE[b].ISOOUT` (R215). -/
def BRIDGE_ISOOUT : Field := ⟨.bridge, 0x0926, .enum, .codes 9, 0, 1, 1, .plain⟩
/-- `BRIDGE[b].ISOIN` (R215). -/
def BRIDGE_ISOIN : Field := ⟨.bridge, 0x0927, .enum, .codes 13, 0, 1, 1, .plain⟩
/-- `BRIDGE[b].ILOCK` (R248). -/
def BRIDGE_ILOCK : Field := ⟨.bridge, 0x0A01, .bytes, .bytes 0 132, 0, 1, 1, .plain⟩
/-- `BRIDGE[b].TILOCK` (R248). -/
def BRIDGE_TILOCK : Field := ⟨.bridge, 0x0A02, .f32, .range (1/10) 20 0, 1, 1, 1, .plain⟩
/-- `BRIDGE[b].TBLANK` (R248). -/
def BRIDGE_TBLANK : Field := ⟨.bridge, 0x0A03, .f32, .range (1/2) 10 0, 3, 1, 1, .plain⟩
/-- `BRIDGE[b].ASCSIDE` (R248). -/
def BRIDGE_ASCSIDE : Field := ⟨.bridge, 0x0A04, .enum, .codes 2, 0, 1, 1, .plain⟩
/-- `BRIDGE[b].DCOPEN` (R248). -/
def BRIDGE_DCOPEN : Field := ⟨.bridge, 0x0A05, .enum, .codes 9, 0, 1, 1, .plain⟩
/-- `BRIDGE[b].DCFB` (R248). -/
def BRIDGE_DCFB : Field := ⟨.bridge, 0x0A06, .enum, .codes 13, 0, 1, 1, .plain⟩
/-- `PROTECT.BR[b].OC1` (R248). -/
def PROTECT_BR_OC1 : Field := ⟨.protect, 0x0A07, .u32, .range 50 400 0, 120, 8, 1, .plain⟩
/-- `PROTECT.BR[b].OC2` (R248). -/
def PROTECT_BR_OC2 : Field := ⟨.protect, 0x0A08, .u32, .range 50 400 0, 150, 8, 1, .plain⟩
/-- `PROTECT.BR[b].OC2REACT` (R248). -/
def PROTECT_BR_OC2REACT : Field := ⟨.protect, 0x0A09, .enum, .react [4, 5, 6], 4, 8, 1, .plain⟩
/-- `PROTECT.BR[b].SWREACT` (R248). -/
def PROTECT_BR_SWREACT : Field := ⟨.protect, 0x0A0A, .enum, .react [4, 5, 6], 5, 8, 1, .plain⟩
/-- `PROTECT.BR[b].FWIN` (R248). -/
def PROTECT_BR_FWIN : Field := ⟨.protect, 0x0A0B, .u32, .range 2 20 0, 5, 8, 1, .plain⟩
/-- `PROTECT.BR[b].OV1` (R248). -/
def PROTECT_BR_OV1 : Field := ⟨.protect, 0x0A0C, .u32, .range 10 20000 0, 750, 8, 1, .plain⟩
/-- `PROTECT.BR[b].OV3` (R248). -/
def PROTECT_BR_OV3 : Field := ⟨.protect, 0x0A0D, .u32, .range 10 20000 0, 850, 8, 1, .plain⟩
/-- `PROTECT.CMP[i].L1HI` (R248). -/
def PROTECT_CMP_L1HI : Field := ⟨.protect, 0x0A0E, .s32, .range (-8192) 16383 0, 16383, 96, 1, .plain⟩
/-- `PROTECT.CMP[i].L1LO` (R248). -/
def PROTECT_CMP_L1LO : Field := ⟨.protect, 0x0A0F, .s32, .range (-8192) 16383 0, 0, 96, 1, .plain⟩
/-- `PROTECT.CMP[i].L2HI` (R248). -/
def PROTECT_CMP_L2HI : Field := ⟨.protect, 0x0A10, .s32, .range (-8192) 16383 0, 16383, 96, 1, .plain⟩
/-- `PROTECT.CMP[i].L2LO` (R248). -/
def PROTECT_CMP_L2LO : Field := ⟨.protect, 0x0A11, .s32, .range (-8192) 16383 0, 0, 96, 1, .plain⟩
/-- `PROTECT.CMP[i].FILT` (R248). -/
def PROTECT_CMP_FILT : Field := ⟨.protect, 0x0A12, .f32, .range 0 50 (25/4), 25, 96, 1, .plain⟩
/-- `PROTECT.CMP[i].REACT` (R248). -/
def PROTECT_CMP_REACT : Field := ⟨.protect, 0x0A13, .enum, .react [0, 1, 2, 3, 4, 5, 6], 4, 96, 1, .plain⟩
/-- `PROTECT.CH[c].VIN` (R248). -/
def PROTECT_CH_VIN : Field := ⟨.protect, 0x0A14, .enum, .codes 97, 0, 4, 1, .plain⟩
/-- `PROTECT.CH[c].IIN` (R248). -/
def PROTECT_CH_IIN : Field := ⟨.protect, 0x0A15, .enum, .codes 97, 0, 4, 1, .plain⟩
/-- `PROTECT.CH[c].RCH` (R248). -/
def PROTECT_CH_RCH : Field := ⟨.protect, 0x0A16, .f32, .range (1/10) 1000 0, 10, 4, 1, .plain⟩
/-- `PROTECT.CH[c].CHON` (R248). -/
def PROTECT_CH_CHON : Field := ⟨.protect, 0x0A17, .u32, .range 10 20000 0, 740, 4, 1, .plain⟩
/-- `PROTECT.CH[c].OV2` (R248). -/
def PROTECT_CH_OV2 : Field := ⟨.protect, 0x0A18, .u32, .range 10 20000 0, 800, 4, 1, .plain⟩
/-- `PROTECT.CH[c].OV2HYS` (R248). -/
def PROTECT_CH_OV2HYS : Field := ⟨.protect, 0x0A19, .u32, .range 1 500 0, 20, 4, 1, .plain⟩
/-- `PROTECT.CH[c].FSW` (R248). -/
def PROTECT_CH_FSW : Field := ⟨.protect, 0x0A1A, .u32, .range 200 5000 0, 1000, 4, 1, .plain⟩
/-- `PROTECT.CH[c].SHREACT` (R248). -/
def PROTECT_CH_SHREACT : Field := ⟨.protect, 0x0A1B, .enum, .react [4, 6], 6, 4, 1, .plain⟩
/-- `PROTECT.GCHON` (R248). -/
def PROTECT_GCHON : Field := ⟨.protect, 0x0A1C, .u32, .range 10 20000 0, 740, 1, 1, .plain⟩
/-- `PROTECT.GOV2` (R248). -/
def PROTECT_GOV2 : Field := ⟨.protect, 0x0A1D, .u32, .range 10 20000 0, 800, 1, 1, .plain⟩
/-- `PROTECT.CONT` (R248). -/
def PROTECT_CONT : Field := ⟨.protect, 0x0A1E, .u32, .range 20 2000 0, 200, 1, 1, .plain⟩
/-- `THERMAL.BR[b].RTH1` (R248). -/
def THERMAL_BR_RTH1 : Field := ⟨.thermal, 0x0A1F, .f32, .range 0 10 0, (1/100), 8, 1, .plain⟩
/-- `THERMAL.BR[b].RTH2` (R248). -/
def THERMAL_BR_RTH2 : Field := ⟨.thermal, 0x0A20, .f32, .range 0 10 0, (1/100), 8, 1, .plain⟩
/-- `THERMAL.BR[b].RTH3` (R248). -/
def THERMAL_BR_RTH3 : Field := ⟨.thermal, 0x0A21, .f32, .range 0 10 0, (1/100), 8, 1, .plain⟩
/-- `THERMAL.BR[b].RTH4` (R248). -/
def THERMAL_BR_RTH4 : Field := ⟨.thermal, 0x0A22, .f32, .range 0 10 0, (1/100), 8, 1, .plain⟩
/-- `THERMAL.BR[b].TAU1` (R248). -/
def THERMAL_BR_TAU1 : Field := ⟨.thermal, 0x0A23, .f32, .range (1/10000) 1000 0, (1/1000), 8, 1, .plain⟩
/-- `THERMAL.BR[b].TAU2` (R248). -/
def THERMAL_BR_TAU2 : Field := ⟨.thermal, 0x0A24, .f32, .range (1/10000) 1000 0, (1/100), 8, 1, .plain⟩
/-- `THERMAL.BR[b].TAU3` (R248). -/
def THERMAL_BR_TAU3 : Field := ⟨.thermal, 0x0A25, .f32, .range (1/10000) 1000 0, (1/10), 8, 1, .plain⟩
/-- `THERMAL.BR[b].TAU4` (R248). -/
def THERMAL_BR_TAU4 : Field := ⟨.thermal, 0x0A26, .f32, .range (1/10000) 1000 0, 1, 8, 1, .plain⟩
/-- `THERMAL.BR[b].VCE0` (R248). -/
def THERMAL_BR_VCE0 : Field := ⟨.thermal, 0x0A27, .f32, .range 0 10 0, 1, 8, 1, .plain⟩
/-- `THERMAL.BR[b].VF0` (R248). -/
def THERMAL_BR_VF0 : Field := ⟨.thermal, 0x0A28, .f32, .range 0 10 0, 1, 8, 1, .plain⟩
/-- `THERMAL.BR[b].RCE` (R248). -/
def THERMAL_BR_RCE : Field := ⟨.thermal, 0x0A29, .f32, .range 0 100 0, 1, 8, 1, .plain⟩
/-- `THERMAL.BR[b].RF` (R248). -/
def THERMAL_BR_RF : Field := ⟨.thermal, 0x0A2A, .f32, .range 0 100 0, 1, 8, 1, .plain⟩
/-- `THERMAL.BR[b].ESW` (R248). -/
def THERMAL_BR_ESW : Field := ⟨.thermal, 0x0A2B, .u32, .range 0 100000 0, 100, 8, 1, .plain⟩
/-- `THERMAL.BR[b].ERR` (R248). -/
def THERMAL_BR_ERR : Field := ⟨.thermal, 0x0A2C, .u32, .range 0 100000 0, 100, 8, 1, .plain⟩
/-- `THERMAL.BR[b].VREF` (R248). -/
def THERMAL_BR_VREF : Field := ⟨.thermal, 0x0A2D, .u32, .range 1 20000 0, 1000, 8, 1, .plain⟩
/-- `THERMAL.BR[b].IREF` (R248). -/
def THERMAL_BR_IREF : Field := ⟨.thermal, 0x0A2E, .u32, .range 1 20000 0, 1000, 8, 1, .plain⟩
/-- `THERMAL.BR[b].TWARN` (R248). -/
def THERMAL_BR_TWARN : Field := ⟨.thermal, 0x0A2F, .u32, .range 50 200 0, 125, 8, 1, .plain⟩
/-- `THERMAL.BR[b].TTRIP` (R248). -/
def THERMAL_BR_TTRIP : Field := ⟨.thermal, 0x0A30, .u32, .range 50 200 0, 150, 8, 1, .plain⟩
/-- `THERMAL.BR[b].TDRVMAX` (R248). -/
def THERMAL_BR_TDRVMAX : Field := ⟨.thermal, 0x0A31, .u32, .range 50 160 0, 110, 8, 1, .plain⟩
/-- `THERMAL.BR[b].TRIPREACT` (R248). -/
def THERMAL_BR_TRIPREACT : Field := ⟨.thermal, 0x0A32, .enum, .react [2, 3, 4, 5, 6], 4, 8, 1, .plain⟩
/-- `THERMAL.MOT[m].TRIPREACT` (R248). -/
def THERMAL_MOT_TRIPREACT : Field := ⟨.thermal, 0x0A33, .enum, .react [2, 3, 4, 5, 6], 4, 4, 1, .plain⟩
/-- `THERMAL.MOT[m].RTH1` (R248). -/
def THERMAL_MOT_RTH1 : Field := ⟨.thermal, 0x0A34, .f32, .range 0 10 0, (1/1000), 4, 1, .plain⟩
/-- `THERMAL.MOT[m].RTH2` (R248). -/
def THERMAL_MOT_RTH2 : Field := ⟨.thermal, 0x0A35, .f32, .range 0 10 0, (1/1000), 4, 1, .plain⟩
/-- `THERMAL.MOT[m].RTH3` (R248). -/
def THERMAL_MOT_RTH3 : Field := ⟨.thermal, 0x0A36, .f32, .range 0 10 0, (1/1000), 4, 1, .plain⟩
/-- `THERMAL.MOT[m].RTH4` (R248). -/
def THERMAL_MOT_RTH4 : Field := ⟨.thermal, 0x0A37, .f32, .range 0 10 0, (1/1000), 4, 1, .plain⟩
/-- `THERMAL.MOT[m].TAU1` (R248). -/
def THERMAL_MOT_TAU1 : Field := ⟨.thermal, 0x0A38, .f32, .range (1/10000) 1000 0, 10, 4, 1, .plain⟩
/-- `THERMAL.MOT[m].TAU2` (R248). -/
def THERMAL_MOT_TAU2 : Field := ⟨.thermal, 0x0A39, .f32, .range (1/10000) 1000 0, 100, 4, 1, .plain⟩
/-- `THERMAL.MOT[m].TAU3` (R248). -/
def THERMAL_MOT_TAU3 : Field := ⟨.thermal, 0x0A3A, .f32, .range (1/10000) 1000 0, 1000, 4, 1, .plain⟩
/-- `THERMAL.MOT[m].TAU4` (R248). -/
def THERMAL_MOT_TAU4 : Field := ⟨.thermal, 0x0A3B, .f32, .range (1/10000) 1000 0, 3000, 4, 1, .plain⟩
/-- `THERMAL.MOT[m].TAMBIN` (R248). -/
def THERMAL_MOT_TAMBIN : Field := ⟨.thermal, 0x0A3C, .enum, .codes 97, 0, 4, 1, .plain⟩
/-- `THERMAL.MOT[m].TSENS` (R248). -/
def THERMAL_MOT_TSENS : Field := ⟨.thermal, 0x0A3D, .enum, .codes 97, 0, 4, 1, .plain⟩
/-- `THERMAL.MOT[m].TAMB` (R248). -/
def THERMAL_MOT_TAMB : Field := ⟨.thermal, 0x0A3E, .s32, .range (-40) 80 0, 45, 4, 1, .plain⟩
/-- `THERMAL.MOT[m].TWARN` (R248). -/
def THERMAL_MOT_TWARN : Field := ⟨.thermal, 0x0A3F, .u32, .range 50 250 0, 140, 4, 1, .plain⟩
/-- `THERMAL.MOT[m].TTRIP` (R248). -/
def THERMAL_MOT_TTRIP : Field := ⟨.thermal, 0x0A40, .u32, .range 50 250 0, 155, 4, 1, .plain⟩
/-- `THERMAL.CH[c].RTH` (R248). -/
def THERMAL_CH_RTH : Field := ⟨.thermal, 0x0A41, .f32, .range (1/10000) 10 0, (1/20), 4, 1, .plain⟩
/-- `THERMAL.CH[c].CTH` (R248). -/
def THERMAL_CH_CTH : Field := ⟨.thermal, 0x0A42, .u32, .range 1 10000000 0, 20000, 4, 1, .plain⟩
/-- `THERMAL.CH[c].TRMAX` (R248). -/
def THERMAL_CH_TRMAX : Field := ⟨.thermal, 0x0A43, .u32, .range 50 600 0, 350, 4, 1, .plain⟩
/-- `THERMAL.CH[c].TAMB` (R248). -/
def THERMAL_CH_TAMB : Field := ⟨.thermal, 0x0A44, .s32, .range (-40) 80 0, 45, 4, 1, .plain⟩
/-- `THERMAL.CH[c].PMAX` (R248). -/
def THERMAL_CH_PMAX : Field := ⟨.thermal, 0x0A45, .u32, .range 1 10000 0, 100, 4, 1, .plain⟩
/-- `THERMAL.DIEREACT` (R248). -/
def THERMAL_DIEREACT : Field := ⟨.thermal, 0x0A46, .enum, .react [4, 5, 6], 4, 1, 1, .plain⟩
/-- `SAFETY.SI[i].TP` (R276). -/
def SAFETY_SI_TP : Field := ⟨.safety, 0x0B01, .enum, .codes 9, 0, 24, 1, .noEnd⟩
/-- `SAFETY.SIP[k].TYPE` (R276). -/
def SAFETY_SIP_TYPE : Field := ⟨.safety, 0x0B02, .enum, .codes 2, 0, 12, 1, .noEnd⟩
/-- `SAFETY.SIP[k].FILT` (R276). -/
def SAFETY_SIP_FILT : Field := ⟨.safety, 0x0B03, .f32, .range (1/10) 20 0, 1, 12, 1, .low⟩
/-- `SAFETY.SIP[k].DISC` (R276). -/
def SAFETY_SIP_DISC : Field := ⟨.safety, 0x0B04, .u32, .range 5 500 0, 50, 12, 1, .low⟩
/-- `SAFETY.SIP[k].RESTART` (R276). -/
def SAFETY_SIP_RESTART : Field := ⟨.safety, 0x0B05, .enum, .codes 2, 1, 12, 1, .to 1⟩
/-- `SAFETY.SO[j].ROLE` (R276). -/
def SAFETY_SO_ROLE : Field := ⟨.safety, 0x0B06, .enum, .codes 4, 0, 8, 1, .to 0⟩
/-- `SAFETY.SO[j].PULSE` (R276). -/
def SAFETY_SO_PULSE : Field := ⟨.safety, 0x0B07, .u32, .range 0 1 0, 1, 8, 1, .to 1⟩
/-- `SAFETY.MO[m].STOSEL` (R276). -/
def SAFETY_MO_STOSEL : Field := ⟨.safety, 0x0B08, .enum, .codes 30, 0, 4, 1, .to 1⟩
/-- `SAFETY.MO[m].SS1SEL` (R276). -/
def SAFETY_MO_SS1SEL : Field := ⟨.safety, 0x0B09, .enum, .codes 30, 0, 4, 1, .to 1⟩
/-- `SAFETY.MO[m].SS2SEL` (R276). -/
def SAFETY_MO_SS2SEL : Field := ⟨.safety, 0x0B0A, .enum, .codes 30, 0, 4, 1, .to 1⟩
/-- `SAFETY.MO[m].SOSSEL` (R276). -/
def SAFETY_MO_SOSSEL : Field := ⟨.safety, 0x0B0B, .enum, .codes 30, 0, 4, 1, .to 1⟩
/-- `SAFETY.MO[m].SDISEL` (R276). -/
def SAFETY_MO_SDISEL : Field := ⟨.safety, 0x0B0C, .enum, .codes 30, 0, 4, 1, .to 1⟩
/-- `SAFETY.MO[m].SLPSEL` (R276). -/
def SAFETY_MO_SLPSEL : Field := ⟨.safety, 0x0B0D, .enum, .codes 30, 0, 4, 1, .to 1⟩
/-- `SAFETY.MO[m].SLSSEL[j]` (R276). -/
def SAFETY_MO_SLSSEL : Field := ⟨.safety, 0x0B0E, .enum, .codes 30, 0, 4, 4, .to 1⟩
/-- `SAFETY.MO[m].VIOLREACT` (R276). -/
def SAFETY_MO_VIOLREACT : Field := ⟨.safety, 0x0B0F, .enum, .codes 2, 0, 4, 1, .to 0⟩
/-- `SAFETY.MO[m].STOSO` (R276). -/
def SAFETY_MO_STOSO : Field := ⟨.safety, 0x0B10, .enum, .codes 9, 0, 4, 1, .noEnd⟩
/-- `SAFETY.MO[m].POSA` (R276). -/
def SAFETY_MO_POSA : Field := ⟨.safety, 0x0B11, .enum, .codes 9, 0, 4, 1, .noEnd⟩
/-- `SAFETY.MO[m].POSB` (R276). -/
def SAFETY_MO_POSB : Field := ⟨.safety, 0x0B12, .enum, .codes 10, 0, 4, 1, .noEnd⟩
/-- `SAFETY.MO[m].RATIOA` (R276). -/
def SAFETY_MO_RATIOA : Field := ⟨.safety, 0x0B13, .f32, .range (1/1000) 1000 0, 1, 4, 1, .noEnd⟩
/-- `SAFETY.MO[m].RATIOB` (R276). -/
def SAFETY_MO_RATIOB : Field := ⟨.safety, 0x0B14, .f32, .range (1/1000) 1000 0, 1, 4, 1, .noEnd⟩
/-- `SAFETY.MO[m].SPDTOL` (R276). -/
def SAFETY_MO_SPDTOL : Field := ⟨.safety, 0x0B15, .u32, .range 1 20 0, 5, 4, 1, .low⟩
/-- `SAFETY.MO[m].POSDISC` (R276). -/
def SAFETY_MO_POSDISC : Field := ⟨.safety, 0x0B16, .u32, .range 5 500 0, 50, 4, 1, .low⟩
/-- `SAFETY.MO[m].SPDFILT` (R276). -/
def SAFETY_MO_SPDFILT : Field := ⟨.safety, 0x0B17, .u32, .range 1 16 0, 4, 4, 1, .low⟩
/-- `SAFETY.MO[m].SSTOP` (R276). -/
def SAFETY_MO_SSTOP : Field := ⟨.safety, 0x0B18, .f32, .range (1/10) 5 0, 1, 4, 1, .low⟩
/-- `SAFETY.MO[m].SS1MODE` (R276). -/
def SAFETY_MO_SS1MODE : Field := ⟨.safety, 0x0B19, .enum, .codes 2, 1, 4, 1, .to 1⟩
/-- `SAFETY.MO[m].SS1REQ` (R276). -/
def SAFETY_MO_SS1REQ : Field := ⟨.safety, 0x0B1A, .enum, .react [2, 3], 3, 4, 1, .to 3⟩
/-- `SAFETY.MO[m].SS1T` (R276). -/
def SAFETY_MO_SS1T : Field := ⟨.safety, 0x0B1B, .f32, .range (1/10) 600 0, 10, 4, 1, .low⟩
/-- `SAFETY.MO[m].SS1DEC` (R276). -/
def SAFETY_MO_SS1DEC : Field := ⟨.safety, 0x0B1C, .f32, .range (1/10) 600 0, 10, 4, 1, .low⟩
/-- `SAFETY.MO[m].SS1TOL` (R276). -/
def SAFETY_MO_SS1TOL : Field := ⟨.safety, 0x0B1D, .u32, .range 1 20 0, 5, 4, 1, .low⟩
/-- `SAFETY.MO[m].SOSWIN` (R276). -/
def SAFETY_MO_SOSWIN : Field := ⟨.safety, 0x0B1E, .u32, .range 1 360 0, 10, 4, 1, .low⟩
/-- `SAFETY.MO[m].SLS[j]` (R276). -/
def SAFETY_MO_SLS : Field := ⟨.safety, 0x0B1F, .f32, .range (1/10) 120 0, 10, 4, 4, .low⟩
/-- `SAFETY.MO[m].SLSRAMPT` (R276). -/
def SAFETY_MO_SLSRAMPT : Field := ⟨.safety, 0x0B20, .f32, .range (1/10) 60 0, 2, 4, 1, .low⟩
/-- `SAFETY.MO[m].SDIDIR` (R276). -/
def SAFETY_MO_SDIDIR : Field := ⟨.safety, 0x0B21, .enum, .codes 2, 0, 4, 1, .noEnd⟩
/-- `SAFETY.MO[m].SDITOL` (R276). -/
def SAFETY_MO_SDITOL : Field := ⟨.safety, 0x0B22, .u32, .range 1 360 0, 10, 4, 1, .low⟩
/-- `SAFETY.MO[m].SLPMIN` (R276). -/
def SAFETY_MO_SLPMIN : Field := ⟨.safety, 0x0B23, .s32, .range (-2000000) 2000000 0, 0, 4, 1, .high⟩
/-- `SAFETY.MO[m].SLPMAX` (R276). -/
def SAFETY_MO_SLPMAX : Field := ⟨.safety, 0x0B24, .s32, .range (-2000000) 2000000 0, 0, 4, 1, .low⟩
/-- `SAFETY.MO[m].SLPDEC` (R276). -/
def SAFETY_MO_SLPDEC : Field := ⟨.safety, 0x0B25, .f32, .range (1/100) 10000 0, 1, 4, 1, .low⟩
/-- `SAFETY.MO[m].PROVEI` (R276). -/
def SAFETY_MO_PROVEI : Field := ⟨.safety, 0x0B26, .u32, .range 1 40000 0, 10, 4, 1, .high⟩
/-- `SAFETY.MO[m].EQRHOLD` (R276). -/
def SAFETY_MO_EQRHOLD : Field := ⟨.safety, 0x0B27, .u32, .range 0 1 0, 0, 4, 1, .to 0⟩
/-- `SAFETY.MO[m].EQRSEL` (R276). -/
def SAFETY_MO_EQRSEL : Field := ⟨.safety, 0x0B28, .enum, .codes 29, 0, 4, 1, .noEnd⟩
/-- `SAFETY.MO[m].EQRSLS` (R276). -/
def SAFETY_MO_EQRSLS : Field := ⟨.safety, 0x0B29, .u32, .range 1 120 0, 50, 4, 1, .low⟩
/-- `SAFETY.MO[m].EQRTMAX` (R276). -/
def SAFETY_MO_EQRTMAX : Field := ⟨.safety, 0x0B2A, .u32, .range 1 3600 0, 600, 4, 1, .low⟩
/-- `SAFETY.MO[m].SLTF` (R276). -/
def SAFETY_MO_SLTF : Field := ⟨.safety, 0x0B2B, .u32, .range 0 100000 0, 0, 4, 1, .to 1⟩
/-- `SAFETY.MO[m].SLTTOL` (R276). -/
def SAFETY_MO_SLTTOL : Field := ⟨.safety, 0x0B2C, .u32, .range 0 50 0, 10, 4, 1, .low⟩
/-- `SAFETY.MO[m].SLTDLY` (R276). -/
def SAFETY_MO_SLTDLY : Field := ⟨.safety, 0x0B2D, .u32, .range 1 500 0, 20, 4, 1, .low⟩
/-- `SAFETY.MO[m].SLTTQ` (R276). -/
def SAFETY_MO_SLTTQ : Field := ⟨.safety, 0x0B2E, .u32, .range 0 2000000 0, 0, 4, 1, .low⟩
/-- `SAFETY.MO[m].TENSA` (R276). -/
def SAFETY_MO_TENSA : Field := ⟨.safety, 0x0B2F, .enum, .codes 97, 0, 4, 1, .noEnd⟩
/-- `SAFETY.MO[m].TENSB` (R276). -/
def SAFETY_MO_TENSB : Field := ⟨.safety, 0x0B30, .enum, .codes 98, 0, 4, 1, .noEnd⟩
/-- `SAFETY.MO[m].TAGAIN` (R276). -/
def SAFETY_MO_TAGAIN : Field := ⟨.safety, 0x0B31, .f32, .range (-10) 10 0, (1/10), 4, 1, .noEnd⟩
/-- `SAFETY.MO[m].TBGAIN` (R276). -/
def SAFETY_MO_TBGAIN : Field := ⟨.safety, 0x0B32, .f32, .range (-10) 10 0, (1/10), 4, 1, .noEnd⟩
/-- `SAFETY.MO[m].TAOFS` (R276). -/
def SAFETY_MO_TAOFS : Field := ⟨.safety, 0x0B33, .s32, .range (-100000) 100000 0, 0, 4, 1, .noEnd⟩
/-- `SAFETY.MO[m].TBOFS` (R276). -/
def SAFETY_MO_TBOFS : Field := ⟨.safety, 0x0B34, .s32, .range (-100000) 100000 0, 0, 4, 1, .noEnd⟩
/-- `SAFETY.MO[m].TENSTOL` (R276). -/
def SAFETY_MO_TENSTOL : Field := ⟨.safety, 0x0B35, .u32, .range 1 50 0, 10, 4, 1, .low⟩
/-- `SAFETY.STOTEST` (R276). -/
def SAFETY_STOTEST : Field := ⟨.safety, 0x0B36, .u32, .range 1 8760 0, 168, 1, 1, .low⟩
/-- `SAFETY.CONN[c].NET` (R276). -/
def SAFETY_CONN_NET : Field := ⟨.safety, 0x0B37, .enum, .codes 3, 0, 4, 1, .noEnd⟩
/-- `SAFETY.CONN[c].PORTA` (R276). -/
def SAFETY_CONN_PORTA : Field := ⟨.safety, 0x0B38, .enum, .codes 12, 0, 4, 1, .noEnd⟩
/-- `SAFETY.CONN[c].PORTB` (R276). -/
def SAFETY_CONN_PORTB : Field := ⟨.safety, 0x0B39, .enum, .codes 12, 0, 4, 1, .noEnd⟩
/-- `SAFETY.CONN[c].CONNID` (R276). -/
def SAFETY_CONN_CONNID : Field := ⟨.safety, 0x0B3A, .u32, .range 1 65535 0, 1, 4, 1, .noEnd⟩
/-- `SAFETY.CONN[c].ETYPE` (R276). -/
def SAFETY_CONN_ETYPE : Field := ⟨.safety, 0x0B3B, .u32, .range 1536 65535 0, 34997, 4, 1, .noEnd⟩
/-- `SAFETY.CONN[c].CANID` (R276). -/
def SAFETY_CONN_CANID : Field := ⟨.safety, 0x0B3C, .u32, .range 0 536870911 0, 256, 4, 1, .noEnd⟩
/-- `SAFETY.CONN[c].MOMASK` (R276). -/
def SAFETY_CONN_MOMASK : Field := ⟨.safety, 0x0B3D, .u32, .range 0 15 0, 0, 4, 1, .to 15⟩
/-- `SAFETY.CONN[c].REACT` (R276). -/
def SAFETY_CONN_REACT : Field := ⟨.safety, 0x0B3E, .enum, .codes 2, 0, 4, 1, .to 0⟩
/-- `SAFETY.CONN[c].RESTART` (R276). -/
def SAFETY_CONN_RESTART : Field := ⟨.safety, 0x0B3F, .enum, .codes 2, 1, 4, 1, .to 1⟩
/-- `SAFETY.PWHASH` (R276). -/
def SAFETY_PWHASH : Field := ⟨.safety, 0x0B40, .bytes, .bytes 80 80, 0, 1, 1, .noEnd⟩
/-- `SERVICE.FLOW[f].PROD` (R301). -/
def SERVICE_FLOW_PROD : Field := ⟨.service, 0x0C01, .enum, .codes 272, 0, 252, 1, .plain⟩
/-- `SERVICE.FLOW[f].CONS` (R301). -/
def SERVICE_FLOW_CONS : Field := ⟨.service, 0x0C02, .enum, .codes 272, 0, 252, 1, .plain⟩
/-- `SERVICE.FLOW[f].DEPTH` (R301). -/
def SERVICE_FLOW_DEPTH : Field := ⟨.service, 0x0C03, .u32, .range 1 1024 0, 8, 252, 1, .plain⟩
/-- `SERVICE.FLOW[f].MOMASK` (R301). -/
def SERVICE_FLOW_MOMASK : Field := ⟨.service, 0x0C04, .u32, .range 0 15 0, 0, 252, 1, .plain⟩
/-- `SERVICE.FLOW[f].REACT` (R301). -/
def SERVICE_FLOW_REACT : Field := ⟨.service, 0x0C05, .enum, .react [0, 1, 2, 3, 4, 5, 6], 4, 252, 1, .plain⟩
/-- `SERVICE.FABREACT` (R301). -/
def SERVICE_FABREACT : Field := ⟨.service, 0x0C06, .enum, .react [4, 5, 6], 4, 1, 1, .plain⟩
/-- `SERVICE.SHNMATCH` (R368). -/
def SERVICE_SHNMATCH : Field := ⟨.service, 0x1001, .u32, .range 100 1000000 0, 4000, 1, 1, .plain⟩
/-- `SERVICE.SHTOL` (R368). -/
def SERVICE_SHTOL : Field := ⟨.service, 0x1002, .f32, .range (1/1000) (1/5) 0, (1/50), 1, 1, .plain⟩
/-- `SERVICE.SHTMAX` (R368). -/
def SERVICE_SHTMAX : Field := ⟨.service, 0x1003, .u32, .range 1 3600 0, 60, 1, 1, .plain⟩
/-- `SERVICE.SHAUTO` (R368). -/
def SERVICE_SHAUTO : Field := ⟨.service, 0x1004, .u32, .range 0 1 0, 1, 1, 1, .plain⟩
/-- `SERVICE.FWPROB` (R368). -/
def SERVICE_FWPROB : Field := ⟨.service, 0x1005, .u32, .range 10 3600 0, 60, 1, 1, .plain⟩
/-- `SERVICE.CALDT` (R368). -/
def SERVICE_CALDT : Field := ⟨.service, 0x1006, .u32, .range 0 50 0, 10, 1, 1, .plain⟩
/-- `NET.PORT[p].EN` (R383). -/
def NET_PORT_EN : Field := ⟨.net, 0x1101, .u32, .range 0 1 0, 0, 8, 1, .plain⟩
/-- `NET.PORT[p].SPEED` (R383). -/
def NET_PORT_SPEED : Field := ⟨.net, 0x1102, .enum, .codes 4, 0, 8, 1, .plain⟩
/-- `NET.PORT[p].PVID` (R383). -/
def NET_PORT_PVID : Field := ⟨.net, 0x1103, .u32, .range 1 4094 0, 1, 8, 1, .plain⟩
/-- `NET.PORT[p].DEFPCP` (R383). -/
def NET_PORT_DEFPCP : Field := ⟨.net, 0x1104, .u32, .range 0 7 0, 0, 8, 1, .plain⟩
/-- `NET.PORT[p].RXLAT` (R383). -/
def NET_PORT_RXLAT : Field := ⟨.net, 0x1105, .u32, .range 0 2000 0, 0, 8, 1, .plain⟩
/-- `NET.PORT[p].TXLAT` (R383). -/
def NET_PORT_TXLAT : Field := ⟨.net, 0x1106, .u32, .range 0 2000 0, 0, 8, 1, .plain⟩
/-- `NET.PORT[p].GCL[e].GATES` (R383). -/
def NET_PORT_GCL_GATES : Field := ⟨.net, 0x1107, .u32, .range 0 255 0, 255, 8, 16, .plain⟩
/-- `NET.PORT[p].GCL[e].DUR` (R383). -/
def NET_PORT_GCL_DUR : Field := ⟨.net, 0x1108, .u32, .range 0 10000 0, 0, 8, 16, .plain⟩
/-- `NET.VLAN[v].VID` (R383). -/
def NET_VLAN_VID : Field := ⟨.net, 0x1109, .u32, .range 1 4094 0, 1, 32, 1, .plain⟩
/-- `NET.VLAN[v].MEMBERS` (R383). -/
def NET_VLAN_MEMBERS : Field := ⟨.net, 0x110A, .u32, .range 0 511 0, 511, 32, 1, .plain⟩
/-- `NET.AGE` (R383). -/
def NET_AGE : Field := ⟨.net, 0x110B, .u32, .range 10 1000 0, 300, 1, 1, .plain⟩
/-- `NET.MGRATE` (R383). -/
def NET_MGRATE : Field := ⟨.net, 0x110C, .u32, .range 10 1000 0, 100, 1, 1, .plain⟩
/-- `NET.PRP[k].PORTA` (R383). -/
def NET_PRP_PORTA : Field := ⟨.net, 0x110D, .enum, .codes 9, 0, 4, 1, .plain⟩
/-- `NET.PRP[k].PORTB` (R383). -/
def NET_PRP_PORTB : Field := ⟨.net, 0x110E, .enum, .codes 9, 0, 4, 1, .plain⟩
/-- `NET.PRP[k].LANTO` (R383). -/
def NET_PRP_LANTO : Field := ⟨.net, 0x110F, .u32, .range 10 10000 0, 100, 4, 1, .plain⟩
/-- `NET.ASEN` (R383). -/
def NET_ASEN : Field := ⟨.net, 0x1110, .u32, .range 0 1 0, 1, 1, 1, .plain⟩
/-- `NET.ASDOM` (R383). -/
def NET_ASDOM : Field := ⟨.net, 0x1111, .u32, .range 0 127 0, 0, 1, 1, .plain⟩
/-- `NET.ASPRIO1` (R383). -/
def NET_ASPRIO1 : Field := ⟨.net, 0x1112, .u32, .range 0 255 0, 248, 1, 1, .plain⟩
/-- `NET.ASSYNC` (R383). -/
def NET_ASSYNC : Field := ⟨.net, 0x1113, .s32, .range (-5) 0 0, (-3), 1, 1, .plain⟩
/-- `NET.SPC[j].PORTS` (R383). -/
def NET_SPC_PORTS : Field := ⟨.net, 0x1114, .u32, .range 0 255 0, 0, 32, 1, .plain⟩
/-- `NET.SPC[j].VID` (R383). -/
def NET_SPC_VID : Field := ⟨.net, 0x1115, .u32, .range 0 4094 0, 0, 32, 1, .plain⟩
/-- `NET.SPC[j].ETYPE` (R383). -/
def NET_SPC_ETYPE : Field := ⟨.net, 0x1116, .u32, .range 1536 65535 0, 34998, 32, 1, .plain⟩
/-- `NET.SPC[j].UDPPORT` (R383). -/
def NET_SPC_UDPPORT : Field := ⟨.net, 0x1117, .u32, .range 1 65535 0, 50000, 32, 1, .plain⟩
/-- `NET.SPC[j].OFS` (R383). -/
def NET_SPC_OFS : Field := ⟨.net, 0x1118, .u32, .range 0 1496 0, 0, 32, 1, .plain⟩
/-- `NET.SPC[j].SEQOFS` (R383). -/
def NET_SPC_SEQOFS : Field := ⟨.net, 0x1119, .u32, .orCode 0 254 255, 255, 32, 1, .plain⟩
/-- `NET.SPC[j].FMT` (R383). -/
def NET_SPC_FMT : Field := ⟨.net, 0x111A, .enum, .codes 3, 2, 32, 1, .plain⟩
/-- `NET.SPC[j].FS` (R383). -/
def NET_SPC_FS : Field := ⟨.net, 0x111B, .f32, .range (1/1000000) 2000000000 0, 1, 32, 1, .plain⟩
/-- `NET.SPC[j].CONSUME` (R383). -/
def NET_SPC_CONSUME : Field := ⟨.net, 0x111C, .u32, .range 0 1 0, 0, 32, 1, .plain⟩
/-- `CAN[c].EN` (R399). -/
def CAN_EN : Field := ⟨.can, 0x1201, .u32, .range 0 1 0, 0, 1, 1, .plain⟩
/-- `CAN[c].MODE` (R399). -/
def CAN_MODE : Field := ⟨.can, 0x1202, .enum, .codes 2, 0, 1, 1, .plain⟩
/-- `CAN[c].FDEN` (R399). -/
def CAN_FDEN : Field := ⟨.can, 0x1203, .u32, .range 0 1 0, 0, 1, 1, .plain⟩
/-- `CAN[c].NBRP` (R399). -/
def CAN_NBRP : Field := ⟨.can, 0x1204, .u32, .range 1 256 0, 2, 1, 1, .plain⟩
/-- `CAN[c].NTSEG1` (R399). -/
def CAN_NTSEG1 : Field := ⟨.can, 0x1205, .u32, .range 2 256 0, 63, 1, 1, .plain⟩
/-- `CAN[c].NTSEG2` (R399). -/
def CAN_NTSEG2 : Field := ⟨.can, 0x1206, .u32, .range 1 128 0, 16, 1, 1, .plain⟩
/-- `CAN[c].NSJW` (R399). -/
def CAN_NSJW : Field := ⟨.can, 0x1207, .u32, .range 1 128 0, 16, 1, 1, .plain⟩
/-- `CAN[c].TRIPLE` (R399). -/
def CAN_TRIPLE : Field := ⟨.can, 0x1208, .u32, .range 0 1 0, 0, 1, 1, .plain⟩
/-- `CAN[c].DBRP` (R399). -/
def CAN_DBRP : Field := ⟨.can, 0x1209, .u32, .range 1 32 0, 1, 1, 1, .plain⟩
/-- `CAN[c].DTSEG1` (R399). -/
def CAN_DTSEG1 : Field := ⟨.can, 0x120A, .u32, .range 1 32 0, 31, 1, 1, .plain⟩
/-- `CAN[c].DTSEG2` (R399). -/
def CAN_DTSEG2 : Field := ⟨.can, 0x120B, .u32, .range 1 16 0, 8, 1, 1, .plain⟩
/-- `CAN[c].DSJW` (R399). -/
def CAN_DSJW : Field := ⟨.can, 0x120C, .u32, .range 1 16 0, 8, 1, 1, .plain⟩
/-- `CAN[c].TDC` (R399). -/
def CAN_TDC : Field := ⟨.can, 0x120D, .u32, .range 0 1 0, 1, 1, 1, .plain⟩
/-- `CAN[c].TDCO` (R399). -/
def CAN_TDCO : Field := ⟨.can, 0x120E, .u32, .range 0 127 0, 32, 1, 1, .plain⟩
/-- `CAN[c].RXLAT` (R399). -/
def CAN_RXLAT : Field := ⟨.can, 0x120F, .u32, .range 0 1000 0, 0, 1, 1, .plain⟩
/-- `CAN[c].RETRY` (R399). -/
def CAN_RETRY : Field := ⟨.can, 0x1210, .u32, .range 0 255 0, 32, 1, 1, .plain⟩
/-- `CAN[c].BOAUTO` (R399). -/
def CAN_BOAUTO : Field := ⟨.can, 0x1211, .u32, .range 0 1 0, 1, 1, 1, .plain⟩
/-- `CAN[c].RXQ[q].CONS` (R399). -/
def CAN_RXQ_CONS : Field := ⟨.can, 0x1212, .enum, .codes 2, 0, 2, 1, .plain⟩
/-- `CAN[c].FLT[f].EN` (R399). -/
def CAN_FLT_EN : Field := ⟨.can, 0x1213, .u32, .range 0 1 0, 0, 64, 1, .plain⟩
/-- `CAN[c].FLT[f].ID` (R399). -/
def CAN_FLT_ID : Field := ⟨.can, 0x1214, .u32, .range 0 536870911 0, 0, 64, 1, .plain⟩
/-- `CAN[c].FLT[f].MASK` (R399). -/
def CAN_FLT_MASK : Field := ⟨.can, 0x1215, .u32, .range 0 536870911 0, 0, 64, 1, .plain⟩
/-- `CAN[c].FLT[f].IDE` (R399). -/
def CAN_FLT_IDE : Field := ⟨.can, 0x1216, .enum, .codes 3, 2, 64, 1, .plain⟩
/-- `CAN[c].FLT[f].FDF` (R399). -/
def CAN_FLT_FDF : Field := ⟨.can, 0x1217, .enum, .codes 3, 2, 64, 1, .plain⟩
/-- `CAN[c].FLT[f].Q` (R399). -/
def CAN_FLT_Q : Field := ⟨.can, 0x1218, .enum, .codes 3, 0, 64, 1, .plain⟩
/-- `CAN[c].SPC[j].ID` (R399). -/
def CAN_SPC_ID : Field := ⟨.can, 0x1219, .u32, .range 0 536870911 0, 0, 32, 1, .plain⟩
/-- `CAN[c].SPC[j].IDE` (R399). -/
def CAN_SPC_IDE : Field := ⟨.can, 0x121A, .enum, .codes 2, 0, 32, 1, .plain⟩
/-- `CAN[c].SPC[j].OFS` (R399). -/
def CAN_SPC_OFS : Field := ⟨.can, 0x121B, .u32, .range 0 63 0, 0, 32, 1, .plain⟩
/-- `CAN[c].SPC[j].SEQOFS` (R399). -/
def CAN_SPC_SEQOFS : Field := ⟨.can, 0x121C, .u32, .orCode 0 63 255, 255, 32, 1, .plain⟩
/-- `CAN[c].SPC[j].FMT` (R399). -/
def CAN_SPC_FMT : Field := ⟨.can, 0x121D, .enum, .codes 4, 1, 32, 1, .plain⟩
/-- `CAN[c].SPC[j].ORDER` (R399). -/
def CAN_SPC_ORDER : Field := ⟨.can, 0x121E, .enum, .codes 2, 0, 32, 1, .plain⟩
/-- `CAN[c].SPC[j].FS` (R399). -/
def CAN_SPC_FS : Field := ⟨.can, 0x121F, .f32, .range (1/1000000) 2000000000 0, 32767, 32, 1, .plain⟩
/-- `SECURITY.TMP[x].LEVEL` (R419). -/
def SECURITY_TMP_LEVEL : Field := ⟨.security, 0x1301, .enum, .codes 3, 0, 4, 1, .plain⟩
/-- `SECURITY.TLSPORT` (R419). -/
def SECURITY_TLSPORT : Field := ⟨.security, 0x1302, .u32, .range 1 65535 0, 7240, 1, 1, .plain⟩
/-- `SECURITY.REVOKE[r]` (R419). -/
def SECURITY_REVOKE : Field := ⟨.security, 0x1303, .bytes, .bytes 0 20, 0, 64, 1, .plain⟩
/-- `SECURITY.FWOWNERSIG` (R419). -/
def SECURITY_FWOWNERSIG : Field := ⟨.security, 0x1304, .u32, .range 0 1 0, 1, 1, 1, .plain⟩
/-- `BRIDGE[b].TOPO` (R453). -/
def BRIDGE_TOPO : Field := ⟨.bridge, 0x1501, .enum, .codes 3, 0, 1, 1, .plain⟩
/-- `BRIDGE[b].SLOT` (R453). -/
def BRIDGE_SLOT : Field := ⟨.bridge, 0x1502, .u32, .range 0 7 0, 0, 1, 1, .plain⟩
/-- `BRIDGE[b].MO` (R453). -/
def BRIDGE_MO : Field := ⟨.bridge, 0x1503, .enum, .codes 4, 0, 1, 1, .plain⟩
/-- `BRIDGE[b].IIN[p]` (R453). -/
def BRIDGE_IIN : Field := ⟨.bridge, 0x1504, .enum, .codes 97, 0, 3, 1, .plain⟩
/-- `BRIDGE[b].VDCIN` (R453). -/
def BRIDGE_VDCIN : Field := ⟨.bridge, 0x1505, .enum, .codes 97, 0, 1, 1, .plain⟩
/-- `BRIDGE[b].VPHIN[p]` (R453). -/
def BRIDGE_VPHIN : Field := ⟨.bridge, 0x1506, .enum, .codes 97, 0, 3, 1, .plain⟩
/-- `BRIDGE[b].VNPIN` (R453). -/
def BRIDGE_VNPIN : Field := ⟨.bridge, 0x1507, .enum, .codes 97, 0, 1, 1, .plain⟩
/-- `BRIDGE[b].IGAIN` (R453). -/
def BRIDGE_IGAIN : Field := ⟨.bridge, 0x1508, .f32, .range (-1000) 1000 0, (1/10), 1, 1, .plain⟩
/-- `BRIDGE[b].IOFS` (R453). -/
def BRIDGE_IOFS : Field := ⟨.bridge, 0x1509, .s32, .range (-10000) 10000 0, 0, 1, 1, .plain⟩
/-- `BRIDGE[b].VDCGAIN` (R453). -/
def BRIDGE_VDCGAIN : Field := ⟨.bridge, 0x150A, .f32, .range (1/1000) 100 0, (1/2), 1, 1, .plain⟩
/-- `BRIDGE[b].VDCOFS` (R453). -/
def BRIDGE_VDCOFS : Field := ⟨.bridge, 0x150B, .s32, .range (-10000) 10000 0, 0, 1, 1, .plain⟩
/-- `BRIDGE[b].VPHGAIN` (R453). -/
def BRIDGE_VPHGAIN : Field := ⟨.bridge, 0x150C, .f32, .range (-100) 100 0, (1/2), 1, 1, .plain⟩
/-- `BRIDGE[b].VPHOFS` (R453). -/
def BRIDGE_VPHOFS : Field := ⟨.bridge, 0x150D, .s32, .range (-10000) 10000 0, 0, 1, 1, .plain⟩
/-- `CELL[n].GAIN[i]` (R453). -/
def CELL_GAIN : Field := ⟨.cell, 0x150E, .f32, .range (-1000000) 1000000 0, 1, 12, 1, .plain⟩
/-- `CELL[n].OFS[i]` (R453). -/
def CELL_OFS : Field := ⟨.cell, 0x150F, .f32, .range (-1000000) 1000000 0, 0, 12, 1, .plain⟩
/-- `LOOP[m].TPIN` (R453). -/
def LOOP_TPIN : Field := ⟨.loop, 0x1510, .enum, .codes 97, 0, 1, 1, .plain⟩
/-- `SERVICE.COMMITDLY` (R453). -/
def SERVICE_COMMITDLY : Field := ⟨.service, 0x1511, .u32, .range 1 3600 0, 30, 1, 1, .plain⟩
/-- `SERVICE.CAP[k].EN` (R453). -/
def SERVICE_CAP_EN : Field := ⟨.service, 0x1512, .u32, .range 0 1 0, 0, 8, 1, .plain⟩
/-- `SERVICE.CAP[k].SIZE` (R453). -/
def SERVICE_CAP_SIZE : Field := ⟨.service, 0x1513, .u32, .range 1 256 0, 16, 8, 1, .plain⟩
/-- `SERVICE.CAP[k].PRE` (R453). -/
def SERVICE_CAP_PRE : Field := ⟨.service, 0x1514, .u32, .range 0 100 0, 50, 8, 1, .plain⟩
/-- `SERVICE.CAP[k].TRIG` (R453). -/
def SERVICE_CAP_TRIG : Field := ⟨.service, 0x1515, .u32, .range 0 3583 0, 0, 8, 1, .plain⟩
/-- `SERVICE.CAP[k].SLOT` (R453). -/
def SERVICE_CAP_SLOT : Field := ⟨.service, 0x1516, .u32, .range 0 7 0, 0, 8, 1, .plain⟩
/-- `SERVICE.CAP[k].DECIM` (R453). -/
def SERVICE_CAP_DECIM : Field := ⟨.service, 0x1517, .u32, .range 1 65536 0, 1, 8, 1, .plain⟩
/-- `SERVICE.CAP[k].SRC[ch]` (R453). -/
def SERVICE_CAP_SRC : Field := ⟨.service, 0x1518, .u32, .range 0 65535 0, 0, 8, 12, .plain⟩

/-- Fields of C = 2, part 0 (R450). -/
def tab2_0 : List Field :=
  [CELL_REFEN, CELL_INMODE, CELL_SQ_MODE, CELL_SQ_TRIG, CELL_SQ_LEN, CELL_SQ_E_IN, CELL_SQ_E_TACQ, CELL_SQ_E_AVG, CELL_SQ_E_SHIFT, CELL_SQ_UTRIG, CELL_SQ_UCMP, CELL_SQ_ILEN, CELL_SQ_I_IN, CELL_SQ_I_TACQ, CELL_SQ_I_AVG, CELL_SQ_I_SHIFT, CELL_BGINT, CELL_REFFAULT, CELL_CVFAIL, BRIDGE_CTRIG, BRIDGE_CTRIGPT, BRIDGE_CTRIGOFS]
/-- Fields of C = 3, part 0 (R450). -/
def tab3_0 : List Field :=
  [BRIDGE_FCARR, BRIDGE_MOD, BRIDGE_DPWMON, BRIDGE_TDEAD, BRIDGE_TMIN, BRIDGE_IMAX, BRIDGE_DTCOMP, BRIDGE_DTBAND, BRIDGE_VFD, BRIDGE_NPKP, BRIDGE_NPLIM, BRIDGE_NPTRIP, BRIDGE_NPREACT, MOTOR_TYPE, MOTOR_POLEPAIRS, MOTOR_RS, MOTOR_LD, MOTOR_LQ, MOTOR_PSI, MOTOR_LM, MOTOR_LR, MOTOR_RR, MOTOR_PSIR, MOTOR_IMAX, MOTOR_IDMIN, MOTOR_FLXMIN, MOTOR_BRMODE, MOTOR_CIRCKP, MOTOR_CIRCKI, MOTOR_CIRCMAX, MOTOR_CIRCREACT, LOOP_CTYPE, LOOP_CBW, LOOP_KPD, LOOP_KPQ, LOOP_KID, LOOP_KIQ, LOOP_DECOUPLE, LOOP_HORIZON, LOOP_LAMBDA]
/-- Fields of C = 3, part 1 (R450). -/
def tab3_1 : List Field :=
  [LOOP_VMARGIN, LOOP_KFW, LOOP_OVRREACT]
/-- Fields of C = 4, part 0 (R450). -/
def tab4_0 : List Field :=
  [PI_MODE, PI_LINES, PI_ZUSE, PI_FILT, PI_DIR, PI_TRKBW, PI_RESPP, PI_EXCF, PI_EXCV, PI_SSIF, PI_SSIBITS, PI_SSITURN, PI_SSICODE, PI_SSIDLY, MOTOR_POSMODE, MOTOR_POSSRC, MOTOR_PIRATIO, MOTOR_POSOFS, MOTOR_NRATED, MOTOR_HOIST, MOTOR_POSDEV, MOTOR_POSREACT, MOTOR_OBSBW, MOTOR_PLLBW, MOTOR_HFIV, MOTOR_HFIPOL, MOTOR_IFI, MOTOR_IFALIGN, MOTOR_IFACC, MOTOR_IFTMAX, MOTOR_STARTRETRY, MOTOR_SRCHI, MOTOR_SRCHT]
/-- Fields of C = 5, part 0 (R450). -/
def tab5_0 : List Field :=
  [CURVE_NPT, CURVE_X, CURVE_Y, CURVE_XON, CURVE_XOFF, CURVE_NEGSCALE, LOOP_SRC, LOOP_CURVE, LOOP_CMDTO, LOOP_XFERWIN, LOOP_LOSSACT, LOOP_LOSSPRESET, LOOP_MODE, LOOP_REFSCALE, LOOP_RAMPUP, LOOP_RAMPDN, LOOP_PROFILE, LOOP_TRATED, LOOP_TMOT, LOOP_TREG, LOOP_JTOT, LOOP_SPDBW, LOOP_KPS, LOOP_KIS, LOOP_LTOBW, LOOP_LTOFF, LOOP_GEAR, LOOP_ETA, LOOP_TSRC, LOOP_KPF, LOOP_KIF, LOOP_TMAXREF, LOOP_TSPDLIM, LOOP_RCORE, LOOP_DROPE, LOOP_WRAPS, LOOP_LAYERS, LOOP_LAYK, LOOP_LAYTRANS, LOOP_LTOTAL]
/-- Fields of C = 5, part 1 (R450). -/
def tab5_1 : List Field :=
  [LOOP_KPP, LOOP_SPOOLREACT, LOOP_TPROVE, MOTOR_BRAKE0, MOTOR_BRAKE1, MOTOR_BRKFB, MOTOR_BRKOPENT, MOTOR_BRKCLOSET, MOTOR_PROVEMOV, MOTOR_STANDSTILL, LOOP_DERATEK, LOOP_TOPER]
/-- Fields of C = 6, part 0 (R450). -/
def tab6_0 : List Field :=
  [PROFILE_VMAX, PROFILE_AMAX, PROFILE_DMAX, PROFILE_JMAX, PROFILE_NOOVER, LOOP_PROFSEL, AXIS_PROFSEL, AXIS_MODE, AXIS_LINKMO, AXIS_STEPW, AXIS_DIRSU, AXIS_DIRINV, AXIS_SWLIMP, AXIS_SWLIMN, AXIS_ENONDLY, AXIS_ENOFFDLY, AXIS_STANDSTILL, AXIS_ENOFFUNC, AXIS_INPOL, AXIS_DEBOUNCE, AXIS_LIMACT, AXIS_HOMESRC, AXIS_HOMEDIR, AXIS_HOMEV, AXIS_HOMEPOS, AXIS_HOMEPARK, AXIS_HOMELIM, AXIS_HOMETMAX, AXIS_SPMM, AXIS_LWX0, AXIS_LWKP, AXIS_LWERRMAX, AXIS_LWREACT]
/-- Fields of C = 7, part 0 (R450). -/
def tab7_0 : List Field :=
  [LOOP_SHKEN, LOOP_SHKSRC, LOOP_SHKPIN, LOOP_SHKDF, LOOP_SHKN, LOOP_SHKBW, LOOP_RNDEN, LOOP_RNDK, LOOP_RNDZETA, LOOP_RNDCEIL, LOOP_RNDFLOOR, LOOP_RNDVMAX, LOOP_RNDLMAX, LOOP_RNDEXIT, LOOP_RNDHOLD, LOOP_RNDRECV, LOOP_HVMRUZ, LOOP_HVMRUR, LOOP_HVMRUP, LOOP_HVZFS, LOOP_HVAFS, LOOP_HVARMX, LOOP_HVARMY, LOOP_HVMRUTO, LOOP_HVNWAVE, LOOP_HVOBSBW, LOOP_HVTAU, LOOP_HVERRMAX, LOOP_HVGAIN, LOOP_HVFALLS, LOOP_HVRAMP, LOOP_HVSTROKE, LOOP_HVVMAX, LOOP_HVAMAX, LOOP_HVCOAST, LOOP_HVSTATWIN]
/-- Fields of C = 8, part 0 (R450). -/
def tab8_0 : List Field :=
  [RING_NMOD, RING_POS, RING_GID, RING_LEADOK, RING_GTRATED, RING_MEMBER, RING_WEIGHT, RING_PHASE, RING_CARRALIGN, RING_JOINRAMP, RING_DRAINT, RING_DRAINMAX, RING_LOSSREACT, RING_NOLEADREACT, RING_CONSREACT, RING_BRSHARE, RING_PBRATED]
/-- Fields of C = 9, part 0 (R450). -/
def tab9_0 : List Field :=
  [EMERGENCY_STOPCAT, EMERGENCY_STOPT, EMERGENCY_QSTOPT, EMERGENCY_EQREN, EMERGENCY_EQRIN, EMERGENCY_EQRV, EMERGENCY_EQRACC, EMERGENCY_EQRLEN, EMERGENCY_MINWRAP, EMERGENCY_CROEN, EMERGENCY_CROF, EMERGENCY_CRODLY, EMERGENCY_CROVMAX, EMERGENCY_CROEXIT, EMERGENCY_CROHOLD, EMERGENCY_SLKEN, EMERGENCY_SLKF, EMERGENCY_SLKDLY, EMERGENCY_SLKIN, EMERGENCY_SLKDEC, EMERGENCY_SLKTAKEUP, EMERGENCY_SLKVUP, EMERGENCY_ETEN, EMERGENCY_ETBUD, EMERGENCY_ETFADE, EMERGENCY_LOSSESC, EMERGENCY_LOSSTMAX, EMERGENCY_VDCNOM, EMERGENCY_BOUV, EMERGENCY_BORECOV, EMERGENCY_BOSTAB, EMERGENCY_BOAUTO, EMERGENCY_BODLY, EMERGENCY_BOSTAG, EMERGENCY_BOMEM, EMERGENCY_DEGRADE, EMERGENCY_ISOT, BRIDGE_ISOOUT, BRIDGE_ISOIN]
/-- Fields of C = 10, part 0 (R450). -/
def tab10_0 : List Field :=
  [BRIDGE_ILOCK, BRIDGE_TILOCK, BRIDGE_TBLANK, BRIDGE_ASCSIDE, BRIDGE_DCOPEN, BRIDGE_DCFB, PROTECT_BR_OC1, PROTECT_BR_OC2, PROTECT_BR_OC2REACT, PROTECT_BR_SWREACT, PROTECT_BR_FWIN, PROTECT_BR_OV1, PROTECT_BR_OV3, PROTECT_CMP_L1HI, PROTECT_CMP_L1LO, PROTECT_CMP_L2HI, PROTECT_CMP_L2LO, PROTECT_CMP_FILT, PROTECT_CMP_REACT, PROTECT_CH_VIN, PROTECT_CH_IIN, PROTECT_CH_RCH, PROTECT_CH_CHON, PROTECT_CH_OV2, PROTECT_CH_OV2HYS, PROTECT_CH_FSW, PROTECT_CH_SHREACT, PROTECT_GCHON, PROTECT_GOV2, PROTECT_CONT, THERMAL_BR_RTH1, THERMAL_BR_RTH2, THERMAL_BR_RTH3, THERMAL_BR_RTH4, THERMAL_BR_TAU1, THERMAL_BR_TAU2, THERMAL_BR_TAU3, THERMAL_BR_TAU4, THERMAL_BR_VCE0, THERMAL_BR_VF0]
/-- Fields of C = 10, part 1 (R450). -/
def tab10_1 : List Field :=
  [THERMAL_BR_RCE, THERMAL_BR_RF, THERMAL_BR_ESW, THERMAL_BR_ERR, THERMAL_BR_VREF, THERMAL_BR_IREF, THERMAL_BR_TWARN, THERMAL_BR_TTRIP, THERMAL_BR_TDRVMAX, THERMAL_BR_TRIPREACT, THERMAL_MOT_TRIPREACT, THERMAL_MOT_RTH1, THERMAL_MOT_RTH2, THERMAL_MOT_RTH3, THERMAL_MOT_RTH4, THERMAL_MOT_TAU1, THERMAL_MOT_TAU2, THERMAL_MOT_TAU3, THERMAL_MOT_TAU4, THERMAL_MOT_TAMBIN, THERMAL_MOT_TSENS, THERMAL_MOT_TAMB, THERMAL_MOT_TWARN, THERMAL_MOT_TTRIP, THERMAL_CH_RTH, THERMAL_CH_CTH, THERMAL_CH_TRMAX, THERMAL_CH_TAMB, THERMAL_CH_PMAX, THERMAL_DIEREACT]
/-- Fields of C = 11, part 0 (R450). -/
def tab11_0 : List Field :=
  [SAFETY_SI_TP, SAFETY_SIP_TYPE, SAFETY_SIP_FILT, SAFETY_SIP_DISC, SAFETY_SIP_RESTART, SAFETY_SO_ROLE, SAFETY_SO_PULSE, SAFETY_MO_STOSEL, SAFETY_MO_SS1SEL, SAFETY_MO_SS2SEL, SAFETY_MO_SOSSEL, SAFETY_MO_SDISEL, SAFETY_MO_SLPSEL, SAFETY_MO_SLSSEL, SAFETY_MO_VIOLREACT, SAFETY_MO_STOSO, SAFETY_MO_POSA, SAFETY_MO_POSB, SAFETY_MO_RATIOA, SAFETY_MO_RATIOB, SAFETY_MO_SPDTOL, SAFETY_MO_POSDISC, SAFETY_MO_SPDFILT, SAFETY_MO_SSTOP, SAFETY_MO_SS1MODE, SAFETY_MO_SS1REQ, SAFETY_MO_SS1T, SAFETY_MO_SS1DEC, SAFETY_MO_SS1TOL, SAFETY_MO_SOSWIN, SAFETY_MO_SLS, SAFETY_MO_SLSRAMPT, SAFETY_MO_SDIDIR, SAFETY_MO_SDITOL, SAFETY_MO_SLPMIN, SAFETY_MO_SLPMAX, SAFETY_MO_SLPDEC, SAFETY_MO_PROVEI, SAFETY_MO_EQRHOLD, SAFETY_MO_EQRSEL]
/-- Fields of C = 11, part 1 (R450). -/
def tab11_1 : List Field :=
  [SAFETY_MO_EQRSLS, SAFETY_MO_EQRTMAX, SAFETY_MO_SLTF, SAFETY_MO_SLTTOL, SAFETY_MO_SLTDLY, SAFETY_MO_SLTTQ, SAFETY_MO_TENSA, SAFETY_MO_TENSB, SAFETY_MO_TAGAIN, SAFETY_MO_TBGAIN, SAFETY_MO_TAOFS, SAFETY_MO_TBOFS, SAFETY_MO_TENSTOL, SAFETY_STOTEST, SAFETY_CONN_NET, SAFETY_CONN_PORTA, SAFETY_CONN_PORTB, SAFETY_CONN_CONNID, SAFETY_CONN_ETYPE, SAFETY_CONN_CANID, SAFETY_CONN_MOMASK, SAFETY_CONN_REACT, SAFETY_CONN_RESTART, SAFETY_PWHASH]
/-- Fields of C = 12, part 0 (R450). -/
def tab12_0 : List Field :=
  [SERVICE_FLOW_PROD, SERVICE_FLOW_CONS, SERVICE_FLOW_DEPTH, SERVICE_FLOW_MOMASK, SERVICE_FLOW_REACT, SERVICE_FABREACT]
/-- Fields of C = 16, part 0 (R450). -/
def tab16_0 : List Field :=
  [SERVICE_SHNMATCH, SERVICE_SHTOL, SERVICE_SHTMAX, SERVICE_SHAUTO, SERVICE_FWPROB, SERVICE_CALDT]
/-- Fields of C = 17, part 0 (R450). -/
def tab17_0 : List Field :=
  [NET_PORT_EN, NET_PORT_SPEED, NET_PORT_PVID, NET_PORT_DEFPCP, NET_PORT_RXLAT, NET_PORT_TXLAT, NET_PORT_GCL_GATES, NET_PORT_GCL_DUR, NET_VLAN_VID, NET_VLAN_MEMBERS, NET_AGE, NET_MGRATE, NET_PRP_PORTA, NET_PRP_PORTB, NET_PRP_LANTO, NET_ASEN, NET_ASDOM, NET_ASPRIO1, NET_ASSYNC, NET_SPC_PORTS, NET_SPC_VID, NET_SPC_ETYPE, NET_SPC_UDPPORT, NET_SPC_OFS, NET_SPC_SEQOFS, NET_SPC_FMT, NET_SPC_FS, NET_SPC_CONSUME]
/-- Fields of C = 18, part 0 (R450). -/
def tab18_0 : List Field :=
  [CAN_EN, CAN_MODE, CAN_FDEN, CAN_NBRP, CAN_NTSEG1, CAN_NTSEG2, CAN_NSJW, CAN_TRIPLE, CAN_DBRP, CAN_DTSEG1, CAN_DTSEG2, CAN_DSJW, CAN_TDC, CAN_TDCO, CAN_RXLAT, CAN_RETRY, CAN_BOAUTO, CAN_RXQ_CONS, CAN_FLT_EN, CAN_FLT_ID, CAN_FLT_MASK, CAN_FLT_IDE, CAN_FLT_FDF, CAN_FLT_Q, CAN_SPC_ID, CAN_SPC_IDE, CAN_SPC_OFS, CAN_SPC_SEQOFS, CAN_SPC_FMT, CAN_SPC_ORDER, CAN_SPC_FS]
/-- Fields of C = 19, part 0 (R450). -/
def tab19_0 : List Field :=
  [SECURITY_TMP_LEVEL, SECURITY_TLSPORT, SECURITY_REVOKE, SECURITY_FWOWNERSIG]
/-- Fields of C = 21, part 0 (R450). -/
def tab21_0 : List Field :=
  [BRIDGE_TOPO, BRIDGE_SLOT, BRIDGE_MO, BRIDGE_IIN, BRIDGE_VDCIN, BRIDGE_VPHIN, BRIDGE_VNPIN, BRIDGE_IGAIN, BRIDGE_IOFS, BRIDGE_VDCGAIN, BRIDGE_VDCOFS, BRIDGE_VPHGAIN, BRIDGE_VPHOFS, CELL_GAIN, CELL_OFS, LOOP_TPIN, SERVICE_COMMITDLY, SERVICE_CAP_EN, SERVICE_CAP_SIZE, SERVICE_CAP_PRE, SERVICE_CAP_TRIG, SERVICE_CAP_SLOT, SERVICE_CAP_DECIM, SERVICE_CAP_SRC]
/-- Every field of the image records, by C and n of R450. -/
def all : List Field :=
  tab2_0 ++ tab3_0 ++ tab3_1 ++ tab4_0 ++ tab5_0 ++ tab5_1 ++ tab6_0 ++ tab7_0 ++ tab8_0 ++ tab9_0 ++ tab10_0 ++ tab10_1 ++ tab11_0 ++ tab11_1 ++ tab12_0 ++ tab16_0 ++ tab17_0 ++ tab18_0 ++ tab19_0 ++ tab21_0

end Sys2Proof.Fld
end

