-- ==== Sys2Proof/Machine/Num.lean ====
section
/-! DEFINITION. Exact numbers and how registers and fields show them: rounding, single-precision words (R335, R443), signed
fields, and the small operations on fixed tables. -/

namespace Sys2Proof.Machine

/-! ## Exact arithmetic -/

/-- A quotient of measured quantities; where the divisor is zero the spec gives no value and it is free (log 3). -/
def qdiv (a b : Rat) : Rat := if b = 0 then Config.divZero a else a / b

/-- The value limited to a stretch. -/
def clampQ (lo hi x : Rat) : Rat := if x < lo then lo else if hi < x then hi else x

/-- The magnitude. -/
def absQ (x : Rat) : Rat := if x < 0 then -x else x

/-- −1, 0 or 1. -/
def signQ (x : Rat) : Int := if x < 0 then -1 else if x = 0 then 0 else 1

/-- The larger of two numbers. -/
def maxQ (x y : Rat) : Rat := if x < y then y else x

/-- The smaller of two numbers. -/
def minQ (x y : Rat) : Rat := if y < x then y else x

/-- The nearest whole number, a half upwards. -/
def roundQ (x : Rat) : Int := (x + 1 / 2).floor

/-- The nearest whole number, a half to even (the rounding of IEEE 754). -/
def roundEven (x : Rat) : Int :=
  let f := x.floor
  let r := x - f
  if r < 1 / 2 then f else if 1 / 2 < r then f + 1 else if f % 2 = 0 then f else f + 1

/-- The whole part of a number that is not negative; 0 for a negative number. -/
def natQ (x : Rat) : Nat := x.floor.toNat

/-- The largest multiple of the resolution that is at most the value. -/
def gridDown (step x : Rat) : Rat := if step = 0 then x else ((x / step).floor : Rat) * step

/-- The remainder of a number on the circle of the given length, from 0 up to the length. -/
def wrapQ (len x : Rat) : Rat := if len = 0 then x else x - ((x / len).floor : Rat) * len

/-- The difference of two angles in turns, from −1/2 up to 1/2. -/
def turnDiff (x y : Rat) : Rat := wrapQ 1 (x - y + 1 / 2) - 1 / 2

/-- Integer limits. -/
def clampI (lo hi x : Int) : Int := if x < lo then lo else if hi < x then hi else x

/-! ## Words -/

/-- The exponent of a positive number: the whole `e` with 2^e ≤ x < 2^(e+1). -/
def expOf (x : Rat) : Int :=
  let e : Int := (Nat.log2 x.num.natAbs : Int) - (Nat.log2 x.den : Int)
  if x < (2 : Rat) ^ e then e - 1 else e

/-- The single-precision word of a number, rounded to nearest with ties to even; beyond the format it is infinite. -/
def toF32 (x : Rat) : Word :=
  if x = 0 then 0 else
    let a := absQ x
    let sgn : Nat := if x < 0 then 0x80000000 else 0
    let e := max (expOf a) (-126)
    let m := (roundEven (a * (2 : Rat) ^ (23 - e))).toNat
    let bits : Nat := if m < 2 ^ 23 then m else ((e + 127).toNat - 1) * 2 ^ 23 + m
    BitVec.ofNat 32 (sgn + (if bits < 0x7F800000 then bits else 0x7F800000))

/-- The number of a single-precision word, or `nan` for a NaN or an infinity. -/
def ofF32 (w : Word) : CfgVal :=
  let n : Nat := w.toNat
  let e : Nat := n / 2 ^ 23 % 256
  let m : Nat := n % 2 ^ 23
  let mag : Rat := if e = 0 then (Int.ofNat m : Rat) * (2 : Rat) ^ (-149 : Int)
    else (Int.ofNat (m + 2 ^ 23) : Rat) * (2 : Rat) ^ ((e : Int) - 150)
  if e = 255 then .nan w else .num (if n < 2 ^ 31 then mag else -mag)

/-- A field of a word: `v` placed at bit `lo`, cut to `width` bits. -/
def fld (lo width v : Nat) : Nat := v % 2 ^ width * 2 ^ lo

/-- A flag at a bit. -/
def bit (lo : Nat) (b : Bool) : Nat := if b then 2 ^ lo else 0

/-- A signed number in a field of `width` bits. -/
def sfld (lo width : Nat) (v : Int) : Nat := (v % Int.ofNat (2 ^ width)).toNat * 2 ^ lo

/-- The word of a sum of fields that do not overlap. -/
def word (fs : List Nat) : Word := BitVec.ofNat 32 (fs.foldl (· + ·) 0)

/-- Bits `lo` to `lo + width − 1` of a word. -/
def bits (w : Word) (lo width : Nat) : Nat := w.toNat / 2 ^ lo % 2 ^ width

/-- A bit of a word. -/
def tst (w : Word) (i : Nat) : Bool := w.getLsbD i

/-- The number of the lowest `width` bits read as a signed number. -/
def signed (width v : Nat) : Int :=
  let u : Nat := v % 2 ^ width
  if u < 2 ^ (width - 1) then Int.ofNat u else Int.ofNat u - Int.ofNat (2 ^ width)

/-- A big-endian or little-endian number of a byte string. -/
def ofBytesBE (b : List Byte) : Nat := b.foldl (fun n x => n * 256 + x.toNat) 0

def ofBytesLE (b : List Byte) : Nat := ofBytesBE b.reverse

/-- The `n` bytes of a number, least significant first. -/
def bytesLE : Nat → Nat → List Byte
  | 0, _ => []
  | n + 1, v => BitVec.ofNat 8 v :: bytesLE n (v / 256)

/-- A word from `off` of a byte string, least significant byte first; bytes beyond the end read 0. -/
def wordAt (b : List Byte) (off : Nat) : Word := BitVec.ofNat 32 (ofBytesLE ((b.drop off).take 4))

/-! ## Counters -/

/-- The largest count of an event counter: 31 bits beside its SAT flag. -/
def Cnt.top : Nat := 2 ^ 31 - 1

/-- One more on an event counter of R12: at its largest value it sticks with SAT set (log 12). -/
def bump (c : Cnt) : Cnt := if c.n + 1 < Cnt.top then ⟨c.n + 1, c.sat⟩ else ⟨Cnt.top, true⟩

/-- Several more on an event counter. -/
def bumpBy (c : Cnt) (k : Nat) : Cnt := if c.n + k < Cnt.top then ⟨c.n + k, c.sat⟩ else ⟨Cnt.top, true⟩

/-- The word of an event counter: SAT in bit 31, the count below it. -/
def cntWord (c : Cnt) : Word := word [fld 0 31 c.n, bit 31 c.sat]

/-! ## Fixed tables -/

variable {α : Type} {n : Nat}

/-- A table with one element changed. -/
def vmod (v : Vector α n) (i : Fin n) (f : α → α) : Vector α n := v.set i.1 (f v[i.1]) i.2

/-- The element of a table at a number, or a default beyond its end. -/
def vat (v : Vector α n) (d : α) (i : Nat) : α := if h : i < n then v[i] else d

/-- A table with the element at a number changed; beyond its end nothing changes. -/
def vmodN (v : Vector α n) (i : Nat) (f : α → α) : Vector α n := if h : i < n then v.set i (f v[i]) else v

/-- A step for every index in rising order. -/
def forFin {σ : Type} (n : Nat) (f : Fin n → σ → σ) (s : σ) : σ := (List.finRange n).foldl (fun s i => f i s) s

/-- The bits of a table of flags, element i at bit `lo` + i. -/
def flagBits (lo : Nat) (v : Vector Bool n) : Nat :=
  (List.finRange n).foldl (fun w i => w + bit (lo + i.1) v[i.1]) 0

/-- The table of the values of a function. -/
def vgen (n : Nat) (f : Fin n → α) : Vector α n := Vector.ofFn f

end Sys2Proof.Machine
end

