-- ==== Sys2Proof/Machine/TypesClock.lean ====
section
/-! DEFINITION. The state of clocks and clock islands (chapter 13) and of supplies, reset and start-up (14). -/

namespace Sys2Proof.Machine

/-! ## Clocks -/

/-- The main reference, `CLKSTAT.SRC` (R303, R313). -/
inductive ClkSrc where
  | xin | fallback | degraded
deriving DecidableEq, Repr

def ClkSrc.code : ClkSrc → Nat
  | .xin => 0 | .fallback => 1 | .degraded => 2

/-- The frequency-measuring counter (`FMSEL`, `FMGATE`, `FMCTL`, `FMRES`; R317). -/
structure FreqMeas where
  meas : BitVec 5
  ref  : BitVec 5
  gate : BitVec 24
  done : Bool
  tmo  : Bool
  busy : Bool
  res  : Word
deriving DecidableEq, Repr

def FreqMeas.reset : FreqMeas := ⟨0, 1, 0, false, false, false, 0⟩

/-- The clock registers (`CLKSTAT` to `FMRES`; R302 to R317) and the sequencer's memory: `early16` armed windows passed in
step 5 of R303, `ircFails` failed IRC checks in a row, `clkFail` the asserted CLKFAILn, `ret` the windows passed in a return
to XIN with its qualification step, `holdover` of PLL[0..3], `mgPend` a management frequency whose PLL is locking,
`ircBad` an IRC outside its check (R316). -/
structure Clocks where
  xinTry  : Nat
  cmEarly : Bool
  degr    : Bool
  cmArm   : Bool
  ircQ    : Bool
  lpoQ    : Bool
  xinQ    : Bool
  lock    : Vector Bool 5
  mgPll2  : Bool
  src     : ClkSrc
  cmLast  : Nat
  cmMin   : Nat
  cmMax   : Nat
  cmTrips : Cnt
  frozen  : Bool
  servo   : Bool
  trim    : Int
  early16 : Option Nat
  ircFails : Nat
  clkFail : Bool
  ret     : Option Nat
  holdover : Vector Bool 4
  pllTry  : Nat
  anaLost : Bool
  mgPend  : Option Nat
  gateReg : BitVec 24
  gateOpen : BitVec 24
  fm      : FreqMeas
  nmiUntil : Nat
  ircBad  : Bool
deriving DecidableEq, Repr

def Clocks.reset : Clocks where
  xinTry := 0; cmEarly := false; degr := false; cmArm := false; ircQ := false; lpoQ := false; xinQ := false
  lock := tbl 5 false; mgPll2 := false; src := .xin; cmLast := 0; cmMin := 511; cmMax := 0; cmTrips := .zero
  frozen := false; servo := false; trim := 0; early16 := none; ircFails := 0; clkFail := false; ret := none
  holdover := tbl 4 false; pllTry := 0; anaLost := false; mgPend := none; gateReg := 0; gateOpen := 0xFFFFFF
  fm := .reset; nmiUntil := 0; ircBad := false

/-! ## Supplies, reset and start-up -/

/-- The causes of a module reset, coded as `RSTSTAT.CAUSE` (R321). -/
inductive RstCause where
  | powerUp | vbatLost | porn | brownout | srstn | software | thermalExit
deriving DecidableEq, Repr

def RstCause.code : RstCause → Nat
  | .powerUp => 0 | .vbatLost => 1 | .porn => 2 | .brownout => 3 | .srstn => 4 | .software => 5 | .thermalExit => 6

def RstCause.cold : RstCause → Bool
  | .powerUp => true | .vbatLost => true | .porn => true | .brownout => true
  | .srstn => false | .software => false | .thermalExit => false

/-- The reset registers (`RSTSTAT` to `STARTT`; R318 to R330). `held` says that PORn is held low, `flushing` that a warm reset
flushes the recorder, with its cause. `relAt` is when PORn was released or the flush
ended, `s8Done` that S8 has ended. -/
structure Rst where
  stage    : Nat
  hold     : Nat
  cause    : RstCause
  rail     : BitVec 9
  low      : BitVec 9
  ok       : BitVec 9
  startT   : Nat
  held     : Bool
  flushing : Option RstCause
  mgmtRun  : Bool
  relAt    : Nat
  s8Done   : Bool
deriving DecidableEq, Repr

def Rst.reset : Rst where
  stage := 0; hold := 0; cause := .powerUp; rail := 0; low := 0; ok := 0; startT := 0; held := false
  flushing := none; mgmtRun := false; relAt := 0; s8Done := false

/-- The VBAT domain (R320, R327, R330): the LPO qualification, the saved trim, the time counter in LPO cycles with the
remainder of a cycle in nanoseconds, and the reset counter. The journal index counter and the
tamper latches stand with the journal and Onyx. -/
structure Vbat where
  lpoQ   : Bool
  trim   : Int
  lpo    : Nat
  frac   : Nat
  rstCnt : Cnt
deriving DecidableEq, Repr

def Vbat.reset : Vbat := ⟨false, 0, 0, 0, .zero⟩

end Sys2Proof.Machine
end

