-- ==== Sys2Proof/Machine/TypesFabric.lean ====
section
/-! DEFINITION. The state of the queue fabric (chapter 12): flows with their three counts, the transaction tracker, the task
placement and the host port. Ports are the codes of R279; 63 means none. -/

namespace Sys2Proof.Machine

/-! ## Items and flows -/

/-- An item (R280): LEN in entries, FENCE, POISON, the epoch, the item number and its payload bytes. -/
structure Item where
  len     : Nat
  fence   : Bool
  poison  : Bool
  epoch   : BitVec 8
  seq     : Word
  payload : List Byte
deriving DecidableEq, Repr

/-- The class of a flow, `FLOWCFG.PLANE` (R279). -/
inductive Plane where
  | unconf | fast | mgmt | host
deriving DecidableEq, Repr

def Plane.code : Plane → Nat
  | .unconf => 0 | .fast => 1 | .mgmt => 2 | .host => 3

/-- A flow context QF[f] (R277 to R296): its registers (`FLOWCFG`, `FLOWLVL`, `FLOWOCC`, `FLOWSTALE`, `FLOWREFUSE`), the three
counts of R281 in entries, the buffered items oldest first, the items whose credit is taken and which are not yet written
(fences that wait), the item the consumer holds, and the `FLOWOCC` sample latched by a read of `FLOWLVL`. -/
structure Flow where
  plane   : Plane
  resv    : Bool
  prod    : Nat
  cons    : Nat
  prod2   : Nat
  frozen  : Bool
  epoch   : BitVec 8
  depth   : Nat
  free    : Nat
  buf     : Nat
  infl    : Nat
  items   : List Item
  ingress : List Item
  held    : Option Item
  seq     : Word
  stale   : Cnt
  refuse  : Cnt
  latBuf  : Nat
  latInfl : Nat
deriving DecidableEq, Repr

def Flow.reset : Flow where
  plane := .unconf; resv := false; prod := 63; cons := 63; prod2 := 63; frozen := false; epoch := 0; depth := 0
  free := 0; buf := 0; infl := 0; items := []; ingress := []; held := none; seq := 0; stale := .zero
  refuse := .zero; latBuf := 0; latInfl := 0

/-- A post that waits for credit at its port (R283), oldest first in `Fabric.waiting`. -/
structure Post where
  port : Nat
  flow : Fin 256
  item : Item
  src  : Nat
deriving DecidableEq, Repr

/-! ## The transaction tracker -/

/-- A memory transaction in a tracker slot (R287): its number, its requester (a port code), whether it is a write, and the
capture buffer and frame that it carries (R446). -/
structure Txn where
  id    : Nat
  req   : Nat
  write : Bool
  frame : Option (Fin 8 × Nat)
deriving DecidableEq, Repr

/-! ## Tasks and moves -/

/-- A task of R452: whether its object exists, the loop engine it is placed on, its placement epoch (R289), and whether it
runs at this moment. -/
structure Task where
  wanted : Bool
  engine : Option (Fin 16)
  epoch  : BitVec 8
deriving DecidableEq, Repr

def Task.reset : Task := ⟨false, none, 0⟩

/-- A requested move of a task (R290): the new engine and the switchover boundary in device time. -/
structure Move where
  task     : Fin 28
  engine   : Fin 16
deriving DecidableEq, Repr

/-! ## The mailbox and the fabric registers -/

/-- The forerunner mailbox (R299, R454): `image` is a sparse list of (offset, byte) in rising order without zero bytes, an unlisted
byte reading 0; `lastSeq` holds the SEQ last acted on in each block, and `evNext` is the index after the newest event in EVRING, which
shows the journal entries below it. -/
structure Mailbox where
  image   : List (Nat × Byte)
  lastSeq : List (Nat × Word)
  evNext  : Word
deriving DecidableEq, Repr

def Mailbox.reset : Mailbox := ⟨[], [], 0⟩

/-- The fabric (`FABSTAT` to `HOSTMFENCE`; R277 to R300). `badReq` are the requesters whose issues stall after a failed
tracker audit, `stalled` transactions wait for a slot, `nextId` numbers transactions; `hostToks` are the tokens of the host
fences in the lanes, oldest first. -/
structure Fabric where
  run      : Bool
  flows    : Vector Flow 256
  waiting  : List Post
  unalloc  : Nat
  txns     : List Txn
  stalled  : List Txn
  nextId   : Nat
  peak     : Nat
  badReq   : List Nat
  txnTmo   : Cnt
  ecc      : Cnt
  poison   : Cnt
  jasFail  : Bool
  lastFlow : Nat
  lastKind : Nat
  pin      : Bool
  mode     : Bool
  legacy   : Bool
  hostToks : List Word
  fdone    : Word
  mfence   : Word
  mbox     : Mailbox
  moves    : List Move
  oldPort  : Vector (Option Nat) 28
  tasks    : Vector Task 28
deriving DecidableEq, Repr

def Fabric.reset : Fabric where
  run := false; flows := tbl 256 .reset; waiting := []; unalloc := 65536; txns := []; stalled := []; nextId := 0
  peak := 0; badReq := []; txnTmo := .zero; ecc := .zero; poison := .zero; jasFail := false; lastFlow := 0
  lastKind := 0; pin := false; mode := false; legacy := false; hostToks := []; fdone := 0; mfence := 0
  mbox := .reset; moves := []; oldPort := tbl 28 none; tasks := tbl 28 .reset

end Sys2Proof.Machine
end

