-- ==== Sys2Proof/Machine/TypesMotion.lean ====
section
/-! DEFINITION. The state of motion: trajectory generators and auxiliary axes (chapter 06), shock detection, render and
heave compensation (07). -/

namespace Sys2Proof.Machine

/-! ## Trajectory generators and axes -/

/-- The kind of target of a generator, `PGSTAT.KIND` (R141). -/
inductive TargetKind where
  | none_ | speed | position
deriving DecidableEq, Repr

def TargetKind.code : TargetKind → Nat
  | .none_ => 0 | .speed => 1 | .position => 2

/-- A segment of constant jerk: its remaining duration in seconds and its jerk (R143). A dwell has jerk 0 at rest, and `turn` is the
direction in which the motion goes on after it, 1 or -1 (R142); it is 0 for every other segment. -/
structure Seg where
  dur  : Rat
  jerk : Rat
  turn : Int := 0
deriving DecidableEq, Repr

/-- The four limits and NOOVER of a profile as a generator last planned with them (R140, R145). -/
structure Limits where
  vmax   : Rat
  amax   : Rat
  dmax   : Rat
  jmax   : Rat
  noover : Bool
deriving DecidableEq, Repr

def Limits.reset : Limits := ⟨1, 1, 1, 10, false⟩

/-- A trajectory generator (R139 to R147): state, target, plan and the `PGSTAT` bits. `raw` is the target as given and `target` what
R146 makes of it. `lims` are the limits it planned with, `want` those that the profile last gave; the two differ while a change is
deferred (R145). `dir` is the direction of the last motion or of the one that a dwell prepares, 1 or -1, and `wait` what is left of
that dwell in seconds (R142, R149). -/
structure Gen where
  active    : Bool
  x         : Rat
  v         : Rat
  a         : Rat
  kind      : TargetKind
  target    : Rat
  raw       : Rat
  plan      : List Seg
  planned   : Bool
  lims      : Limits
  want      : Limits
  defer     : Bool
  overshoot : Bool
  reversal  : Bool
  done      : Bool
  replan    : Bool
  dir       : Int
  wait      : Rat
deriving DecidableEq, Repr

def Gen.reset : Gen where
  active := false; x := 0; v := 0; a := 0; kind := .none_; target := 0; raw := 0; plan := []; planned := false; dir := -1; wait := 0
  lims := .reset; want := .reset; defer := false; overshoot := false; reversal := false; done := false; replan := false

/-- The states of an axis (R151). -/
inductive AxState where
  | off | standstill | ready | moving | homing | sync | fault
deriving DecidableEq, Repr

def AxState.code : AxState → Nat
  | .off => 0 | .standstill => 1 | .ready => 2 | .moving => 3 | .homing => 4 | .sync => 5 | .fault => 6

/-- A request waiting for ENONDLY (R152). -/
inductive AxReq where
  | target | home | syncOn
deriving DecidableEq, Repr

/-- The steps of a homing in progress (R157, R158): `leave` and `stop` make up step 1, `debounce` and `settle` steps 3 to 5. -/
inductive HomeStep where
  | none_ | leave | stop | search | debounce | settle | park
deriving DecidableEq, Repr

/-- One of the inputs AXHOM, AXLMP, AXLMN, AXFLT: the level at its ball now, whether it is qualified, and an open debounce
window (R155). -/
structure AxInput where
  ball      : Bool
  qualified : Bool
  window    : Option Nat
deriving DecidableEq, Repr

def AxInput.reset : AxInput := ⟨false, false, none⟩

/-- `limHalt` names the limit input whose edge asked for a halt, and whether SYNC was halted (R156); `latched` is a home latch that is
pending (R155); `lwOver` is the first of the period starts since which the following error has been too large (R160). An auxiliary axis AX[k] (`AXSTAT`, `AXCTL.EN`, `AXTGT`, `AXPOS`, `AXLATCH`, `AXLATCHT`, `AXSPD`, `AXLWERR`,
`AXCHAT`; R148 to R160). -/
structure Axis where
  state   : AxState
  en      : Bool
  axen    : Bool
  shrt    : Bool
  dir     : Bool
  homed   : Bool
  uncert  : Bool
  lwErr   : Bool
  tgt     : BitVec 64
  tgtLow  : Word
  pos     : BitVec 64
  latch   : BitVec 64
  latchT  : Nat
  latched : Bool
  lwErrMm : Rat
  lwOver  : Option Nat
  chat    : Cnt
  inputs  : Vector AxInput 4
  pend    : Option AxReq
  since   : Nat
  halting : Bool
  limHalt : Option (Nat × Bool)
  thenStandstill : Bool
  homeStep : HomeStep
  homeRev : Bool
  gen     : Gen
deriving DecidableEq, Repr

def Axis.reset : Axis where
  state := .off; en := false; axen := false; shrt := false; dir := false; homed := false; uncert := true
  lwErr := false; tgt := 0; tgtLow := 0; pos := 0; latch := 0; latchT := 0; latched := false; lwErrMm := 0; lwOver := none
  chat := .zero; inputs := tbl 4 .reset; pend := none; since := 0; halting := false; limHalt := none; thenStandstill := false
  homeStep := .none_; homeRev := false; gen := .reset

/-! ## Shock, render and heave -/

/-- The shock detector and render of a drum (`SHKSTAT`, `SHKCTL`, `SHKF` to `SHKT`; R162 to R173). `t` is the device time of the last
detection, `lastAt` the time of the last sample used and `wLast` the speed at it; `below` marks a spell under the baseline, `xr` the
recovery offset of R171. `hot` and `calm` are the first of the period starts since which the conditions of R170 and R171 have held, and
`restore` says that the tension reference returns at RAMPUP (R171). -/
structure Shock where
  srcfb   : Bool
  ovld    : Bool
  soft    : Bool
  ceil    : Bool
  vcap    : Bool
  recov   : Bool
  render  : Bool
  rndInh  : Bool
  f       : Rat
  base    : Rat
  baseSet : Bool
  n       : Nat
  below   : Bool
  ovrRun  : Nat
  x       : Rat
  fCmd    : Rat
  peak    : Rat
  dr      : Rat
  fSet    : Rat
  lPath   : Rat
  xr      : Rat
  cnt     : Cnt
  rndCnt  : Cnt
  t       : BitVec 64
  lastAt  : Nat
  wLast   : Rat
  hot     : Option Nat
  calm    : Option Nat
  restore : Bool
deriving DecidableEq, Repr

def Shock.reset : Shock where
  srcfb := false; ovld := false; soft := false; ceil := false; vcap := false
  recov := false; render := false; rndInh := false; f := 0; base := 0; baseSet := false; n := 0; below := false
  ovrRun := 0; x := 0; fCmd := 0; peak := 0; dr := 0; fSet := 0; lPath := 0; xr := 0
  cnt := .zero; rndCnt := .zero; t := 0; lastAt := 0; wLast := 0; hot := none; calm := none; restore := false

/-- One component of the wave model (R175). -/
structure WaveComp where
  p : Rat
  q : Rat
  w : Rat
deriving DecidableEq, Repr

def WaveComp.reset : WaveComp := ⟨0, 0, 0⟩

/-- A sample of the heave history ring: z_tip and its invalid mark (R179, R447). -/
structure HeaveSample where
  index   : Nat
  z       : Rat
  invalid : Bool
deriving DecidableEq, Repr

/-- The heave estimator of a drum (`HVSTAT`, `HVCTL`, `HVZ` to `HVSPEC`; R174 to R179). `preds` holds predictions
awaiting their target time, `errs` the squared errors of the last 60 s, `acc` the half-second average under way. `lastAt` is the time
stamp of the refresh last used; `gTo` is where the gain is going and `gFrom` the gain from which it falls (R177, R178). -/
structure Heave where
  ahcOn   : Bool
  statInv : Bool
  poor    : Bool
  limit   : Bool
  coast   : Bool
  mruOk   : Bool
  ready   : Bool
  z       : Rat
  zp      : Rat
  zdp     : Rat
  ofs     : Rat
  vofs    : Rat
  g       : Rat
  gTo     : Rat
  gFrom   : Rat
  perr    : Rat
  hs      : Rat
  tp      : Rat
  stamp   : Nat
  bias    : Rat
  comps   : Vector WaveComp 8
  nComp   : Nat
  lastAt  : Option Nat
  fitFrom : Option Nat
  preds   : List (Nat × Rat)
  errs    : List (Nat × Rat × Rat)
  accSum  : Rat
  accN    : Nat
  accBad  : Bool
  spec    : Vector Rat 64
deriving DecidableEq, Repr

def Heave.reset : Heave where
  ahcOn := false; statInv := false; poor := false; limit := false; coast := false; mruOk := false
  ready := false; z := 0; zp := 0; zdp := 0; ofs := 0; vofs := 0; g := 0; gTo := 0; gFrom := 0; perr := 0; hs := 0; tp := 0
  stamp := 0; bias := 0; comps := tbl 8 .reset; nComp := 0; lastAt := none; fitFrom := none; preds := []
  errs := []; accSum := 0; accN := 0; accBad := false; spec := tbl 64 0

end Sys2Proof.Machine
end

