-- ==== Sys2Proof/Machine/TypesProtect.lean ====
section
/-! DEFINITION. The state of gate links and power-stage protection (chapter 10) and of the fault reactions (R14 to R16).
Bridge state is indexed by the first slot of the bridge, channel state by g with CH[c] at 48 + c, comparator state by the
input. Times are nanoseconds of `State.up`. -/

namespace Sys2Proof.Machine

/-! ## Fault reactions -/

/-- A request for a fault reaction (R15): the event that caused it with its unit (none for `EMCTL.STOP0`), the reaction asked for, whether the cause
still persists, and how it ends: by command, or with its cause (BLACKOUT, STO, the hold of degraded operation, and every
DERATE). -/
structure React where
  cause   : Option Ev
  unit    : Nat
  sev     : Reaction
  present : Bool
  selfEnd : Bool
deriving DecidableEq, Repr

/-! ## Channels -/

/-- The receiver of a gate or chopper channel and its `GDSTAT[g]` fields (R217, R218), the enable-independent fault mark
FAULTED, and the thermal network of the switch position (R240): four elements and T_j. -/
structure Chan where
  ready    : Bool
  desat    : Bool
  uv       : Bool
  trainInv : Bool
  faulted  : Bool
  config   : Bool
  temp     : Int
  level    : Bool
  th       : Vector Rat 4
  tj       : Rat
deriving DecidableEq, Repr

def Chan.reset : Chan where
  ready := false; desat := false; uv := false; trainInv := false; faulted := false; config := false; temp := 0
  level := false; th := tbl 4 0; tj := 0

/-! ## Bridges -/

/-- The side of an active short, `BRPSTAT[n].SIDE` (R227). -/
inductive Side where
  | none_ | lower | upper | noFree
deriving DecidableEq, Repr

def Side.code : Side → Nat
  | .none_ => 0 | .lower => 1 | .upper => 2 | .noFree => 3

/-- The form in which the bridge stands: switching, or with its gates off, or in an active short, or in the zero vector of
the SHORT standstill (R36, R136, R228). -/
inductive BrForm where
  | run | pblk | asc | short
deriving DecidableEq, Repr

/-- The run-time state of a bridge (`SLOTMAP`, `GATEEN`, `BRPSTAT`, `BRKOV`, `BRKB`, `STSTAT.BROK`; R216 to R241). `rec_` is
the accepted BRIDGE record (R25); `reacts` the reactions that belong to this bridge alone; `taken` says that degraded
operation has taken it out; `kovMin`, `kovPrev` are the lowest k_ov of this and the last outer-loop period (R232). `offAt` is when its
gates last went off, `onAt` when the channels of an active short turn on (R228), and `gdis` says that Garnet's disable holds its gates
(R17, R36). -/
structure Bridge where
  rec_    : Option (Fin 8)
  mo      : Fin 4
  npc     : Bool
  taken   : Bool
  enabled : Bool
  form    : BrForm
  reacts  : List React
  exec_   : Reaction
  latch   : Bool
  offAt   : Nat
  onAt    : Nat
  gdis    : Bool
  window  : Option Nat
  gather  : List (Ev × Nat × Reaction)
  side    : Side
  ov1     : Bool
  dcopen  : Bool
  conFail : Bool
  dcAt    : Nat
  kov     : Rat
  kovMin  : Rat
  kovPrev : Rat
  kb      : Rat
  warned  : Bool
  passed  : Bool
  isoReq  : Bool
deriving DecidableEq, Repr

def Bridge.reset : Bridge where
  rec_ := none; mo := 0; npc := false; taken := false; enabled := false; form := .pblk; reacts := []
  exec_ := .log; latch := false; offAt := 0; onAt := 0; gdis := false; window := none; gather := []; side := .none_
  ov1 := false; dcopen := false; conFail := false; dcAt := 0
  kov := 1; kovMin := 1; kovPrev := 1; kb := 1; warned := false; passed := false; isoReq := true

/-! ## Comparators, choppers, thermal models, self-test and die temperature -/

/-- The comparator of an input (`CMPSTAT[i]`, `CMPTRIPS[i]`; R223, R224). -/
structure Cmp where
  l1hi  : Bool
  l1lo  : Bool
  l2hi  : Bool
  l2lo  : Bool
  back  : Bool
  trips : Cnt
deriving DecidableEq, Repr

def Cmp.reset : Cmp := ⟨false, false, false, false, false, .zero⟩

/-- A chopper (`CHSTAT[c]`, `CHDUTY` to `CHIMEAS`, `GATEEN.CHEN`; R234 to R236, R243). -/
structure Chopper where
  config  : Bool
  enabled : Bool
  on      : Bool
  forced  : Bool
  fault   : Bool
  short   : Bool
  hot     : Bool
  stok    : Bool
  duty    : Rat
  tres    : Rat
  capw    : Rat
  imeas   : Rat
  badN    : Nat
  offN    : Nat
  share   : Nat
deriving DecidableEq, Repr

def Chopper.reset : Chopper where
  config := false; enabled := false; on := false; forced := false; fault := false; short := false
  hot := false; stok := false; duty := 0; tres := 0; capw := 0; imeas := 0; badN := 0; offN := 0; share := 0

/-- The winding model of MO[m] (`MOTTW`, `MOTKM`; R242), whether it has warned, and the largest switch temperature seen. -/
structure Winding where
  th     : Vector Rat 4
  tw     : Rat
  kmot   : Rat
  warned : Bool
deriving DecidableEq, Repr

def Winding.reset : Winding := ⟨tbl 4 0, 0, 1, false⟩

/-- The self-test unit (`STSTAT`; R238, R239): the target under test, the last outcome and the failed item. -/
structure SelfTest where
  busy : Option Nat
  last : Nat
  fail : Nat
deriving DecidableEq, Repr

def SelfTest.reset : SelfTest := ⟨none, 0, 0⟩

/-- The die temperature response (`PRSTAT`, `DIETEMP`; R244 to R247): the last code of each die channel, whether one has
been converted, whether the last scan and the present one read above the shutdown level, the management frequency in units of 100 MHz, and the shutdown
under way with its record. -/
structure Die where
  code     : Vector Int 6
  seen     : Bool
  prevHot  : Bool
  nowHot   : Bool
  firstHot : Nat
  hot      : Bool
  mgFreq   : Nat
  shut     : Bool
  record   : List Byte
  hold     : Bool
deriving DecidableEq, Repr

def Die.reset : Die where
  code := tbl 6 0; seen := false; prevHot := false; nowHot := false; firstHot := 0; hot := false; mgFreq := 12
  shut := false; record := []; hold := false

end Sys2Proof.Machine
end

