-- ==== Sys2Proof/Machine/TypesSafety.lean ====
section
/-! DEFINITION. The state of Garnet, the safety island (chapter 11): inputs, outputs, safe functions, safe frames and the
change log. Times are nanoseconds of `State.up`. -/

namespace Sys2Proof.Machine

/-! ## Inputs, sources and outputs -/

/-- A safety input SI[i]: its level at the last sample, and the faults of R254 with the frames they were seen in a row. -/
structure SafeIn where
  level   : Bool
  miss    : Bool
  cross   : Bool
  missN   : Nat
  crossN  : Nat
  goodN   : Nat
deriving DecidableEq, Repr

def SafeIn.reset : SafeIn := ⟨false, false, false, 0, 0, 0⟩

/-- A pair (`SIPSTAT[k]`; R255): its demand, the discrepancy, and the demand on both channels seen since it (the working of
the contacts that ends it). -/
structure SafePair where
  disc    : Bool
  discDem : Bool
  demand  : Bool
deriving DecidableEq, Repr

def SafePair.reset : SafePair := ⟨false, false, true⟩

/-- A test-pulse source TP[t] (R253): the fault, and frames in a row with a wrong or a right readback. -/
structure TestPulse where
  fault : Bool
  badN  : Nat
  goodN : Nat
deriving DecidableEq, Repr

def TestPulse.reset : TestPulse := ⟨false, 0, 0⟩

/-- A safety output pair SO[j] (`SOSTAT[j]`; R256, R257): commanded state and when it last changed, node levels, faults, the
mismatches in a row of each switch, since when the off-state readbacks are consistent, and whether the next off-pulse falls
into an even frame. An off-pulse begins and ends within one command. -/
structure SafeOut where
  on      : Bool
  chgAt   : Nat
  sorh    : Bool
  sorl    : Bool
  hsFlt   : Bool
  lsFlt   : Bool
  hsN     : Nat
  lsN     : Nat
  okAt    : Option Nat
  evenN   : Bool
deriving DecidableEq, Repr

def SafeOut.reset : SafeOut := ⟨false, 0, false, true, false, false, 0, 0, none, true⟩

/-! ## Safe functions -/

/-- The causes of an STO; the codes of `SFMSTAT[m].CAUSE`. -/
inductive StoCause where
  | selection | violation | connection | inputFault | outputFault | garnet | unarmed | slt | discrepancy
deriving DecidableEq, Repr

def StoCause.code : StoCause → Nat
  | .selection => 1 | .violation => 2 | .connection => 3 | .inputFault => 4 | .outputFault => 5 | .garnet => 6
  | .unarmed => 7 | .slt => 8 | .discrepancy => 9

/-- The safe functions of R260 to R266. -/
inductive SafeFn where
  | sto | ss1 | ss2 | sos | sdi | slp | sls | slt | sbc | conn
deriving DecidableEq, Repr

/-- What an STO or a stop of Garnet waits for before it may end (R260, R262, R270): a function that is selected, a violated
function, a connection that is not OK, an output fault, a discrepancy, an unarmed function, Garnet's safe state, or nothing
but an acknowledgement. -/
inductive StoHold where
  | sel (f : SafeFn)
  | viol (f : SafeFn)
  | conn (c : Fin 4)
  | output
  | position
  | tension
  | unarmed
  | safeState
  | start
deriving DecidableEq, Repr

/-- An SS1 or SS2 in progress (R260): which of the two, what requested it, when, from which speed, and whether the RAMP
envelope is supervised. -/
structure SsRun where
  ss2   : Bool
  by_   : StoHold
  since : Nat
  w0    : Rat
  ramp  : Bool
deriving DecidableEq, Repr

/-- The safe functions of MO[m] (`SFMSTAT[m]`, `SFSPDA`, `SFSPDB`, `SFTENS`, `SFPOS`; R258 to R268). `holds` is what the
STO in force waits for, `unarmed` the functions found unarmed, `viol` those in violation now. `hold` is the EQR hold, `holdOver` says that
it has ended while EQR goes on. `slsSet` is the mask of the SLS limits selected. `histA`, `histB` are the positions of the
last cycles, newest first. `proveMin`, `proveStill` gather the proof of R264, `relSeen` is the release request of the last
cycle. Since when a condition of R258 or R266 has held without a break: the channels of position or tension differ, the tension is above
the level of stage 1 or of stage 2, or low enough to leave stage 1. `holdAt` is when the EQR hold began, `stoAt` when STO was last in
force, `dueAt` when it was last found overdue (R268). -/
structure SafeMo where
  sto      : Bool
  cause    : Nat
  holds    : List StoHold
  unarmed  : List SafeFn
  posDisc  : Bool
  tensDisc : Bool
  hold     : Bool
  holdOver : Bool
  brkSet   : Bool
  fbDue    : Bool
  slt1     : Bool
  slp      : Bool
  sdi      : Bool
  sdiRef   : Rat
  sls      : Bool
  slsSet   : Nat
  slsAt    : Nat
  slsFrom  : Rat
  sos      : Bool
  sosPos   : Rat
  ss2Done  : Bool
  ss       : Option SsRun
  viol     : List SafeFn
  relSeen  : Bool
  proofOk  : Bool
  proveMin : Option Rat
  proveStill : Bool
  wA       : Rat
  wB       : Rat
  posA     : Rat
  posB     : Rat
  sigOk    : Bool
  histA    : List Rat
  histB    : List Rat
  tens     : Rat
  tensB    : Rat
  posSince  : Option Nat
  tensSince : Option Nat
  over1     : Option Nat
  over2     : Option Nat
  low1      : Option Nat
  holdAt    : Nat
  stoAt     : Nat
  dueAt     : Option Nat
deriving DecidableEq, Repr

def SafeMo.reset : SafeMo where
  sto := true; cause := 0; holds := []; unarmed := []; posDisc := false; tensDisc := false; hold := false; holdOver := false
  brkSet := true; fbDue := false; slt1 := false; slp := false
  sdi := false; sdiRef := 0; sls := false; slsSet := 0; slsAt := 0; slsFrom := 0; sos := false; sosPos := 0
  ss2Done := false; ss := none; viol := []; relSeen := false; proofOk := false
  proveMin := none; proveStill := true; wA := 0; wB := 0; posA := 0; posB := 0; sigOk := true; histA := []; histB := []
  tens := 0; tensB := 0; posSince := none; tensSince := none; over1 := none; over2 := none; low1 := none
  holdAt := 0; stoAt := 0; dueAt := none

/-! ## Safe frames -/

/-- A valid copy that waits for its partner (R270): its sequence, its 20 bytes and the port it came from (PORTB or PORTA). -/
structure WaitCopy where
  seq   : BitVec 16
  bytes : List Byte
  portB : Bool
deriving DecidableEq, Repr

/-- A safe connection CONN[c] (`SCSTAT[c]`, `SCMISS[c]`, `SCMISM[c]`; R269, R270). `accN` counts the sequences accepted since it
was last not OK, `watch` says that the watchdog runs, `fault` that it has failed since it was last OK, `due` that its
reaction waits for the next Garnet cycle. `sent` is the PDU sent last. -/
structure SafeConn where
  ok      : Bool
  everAcc : Bool
  mism    : Bool
  timeout : Bool
  fault   : Bool
  due     : Bool
  watch   : Bool
  lastSeq : BitVec 16
  waiting : List WaitCopy
  accN    : Nat
  cmd     : BitVec 16
  sendSeq : BitVec 16
  miss    : Cnt
  mismCnt : Cnt
  sent    : List Byte
deriving DecidableEq, Repr

def SafeConn.reset : SafeConn where
  ok := false; everAcc := false; mism := false; timeout := false; fault := false; due := false; watch := false
  lastSeq := 0; waiting := []; accN := 0; cmd := 0; sendSeq := 0; miss := .zero; mismCnt := .zero; sent := []

/-! ## The change log and Garnet itself -/

/-- An entry of the safety change log (R273); byte strings are lists of bytes. -/
structure SafeLogEntry where
  index  : Nat
  kind   : Nat
  nField : Nat
  time   : BitVec 64
  actor  : List Byte
  setCrc : Word
  deltaH : List Byte
  prev   : List Byte
deriving DecidableEq, Repr

/-- The change log: its entries, newest first, the INDEX of the next entry, and a broken chain (`SFSTAT`, `SLOGSTAT`,
`SLOGIDX`; R273, R274). It lies in the NOR flash and outlives a reset. -/
structure SafeLog where
  entries : List SafeLogEntry
  next    : Nat
  broken  : Bool
deriving DecidableEq, Repr

def SafeLog.reset : SafeLog := ⟨[], 0, false⟩

/-- Garnet (`SFSTAT`, `SFCTL`; R250 to R253, R272): `s8ok` says that the tests of S8 passed, `unlocked` holds the session of the unlock, `wrong` the times of the last
wrong passwords, `pwLock` the lockout. -/
structure Garnet where
  run      : Bool
  s8ok     : Bool
  safe     : Bool
  si       : Vector SafeIn 24
  pair     : Vector SafePair 12
  tp       : Vector TestPulse 8
  so       : Vector SafeOut 8
  mo       : Vector SafeMo 4
  conn     : Vector SafeConn 4
  unlocked : Option Nat
  wrong    : List Nat
  pwLock   : Bool
deriving DecidableEq, Repr

def Garnet.reset : Garnet where
  run := false; s8ok := false; safe := false; si := tbl 24 .reset; pair := tbl 12 .reset; tp := tbl 8 .reset
  so := tbl 8 .reset; mo := tbl 4 .reset; conn := tbl 4 .reset; unlocked := none; wrong := []; pwLock := false

end Sys2Proof.Machine
end

