-- ==== Sys2Proof/Machine/State.lean ====
section
/-! DEFINITION. The state of the module: every register, counter, queue, buffer and mode the spec gives it, as plain data,
the queue of waiting commands, and the state right after reset. -/

namespace Sys2Proof.Machine

/-- The module. `pending` is the queue of commands that wait, first in, first out. `up` is the time in nanoseconds since the
model's start, which never steps; `dev` is device time (R378) with the fraction `devFrac` of a nanosecond; `free` counts the
free values taken so far (log 1) and is the model's own field. `given` and `used` are the live configuration: the fields as
configured, and the values in force in place of them (R340), each with its keys strictly rising. -/
structure State where
  pending : List Instr
  up      : Nat
  dev     : BitVec 64
  devFrac : Rat
  free    : Nat
  given   : List (Nat × CfgVal)
  used    : List (Nat × CfgVal)
  unarmedF : List Nat
  cells   : Vector Cell 8
  hk      : HkCell
  pwm     : Vector Pwm 8
  loops   : Vector LoopSt 4
  posIf   : Vector PosIf 8
  start   : Vector Start 4
  spc     : Vector SetpointCh 32
  cmd     : Vector Command 4
  outer   : Vector Outer 4
  brake   : Vector Brake 4
  armed   : Vector Bool 4
  disarmed : Vector Bool 4
  mapBad  : Vector Bool 4
  badChk  : Vector Bool 4
  axes    : Vector Axis 8
  moGen   : Vector Gen 4
  shock   : Vector Shock 4
  heave   : Vector Heave 4
  hist    : Vector (List HeaveSample) 4
  ring    : Ring
  em      : Vector Emerg 4
  reacts  : Vector (List React) 4
  chan    : Vector Chan 52
  br      : Vector Bridge 8
  cmp     : Vector Cmp 96
  chop    : Vector Chopper 4
  wind    : Vector Winding 4
  stest   : SelfTest
  die     : Die
  garnet  : Garnet
  slog    : SafeLog
  fab     : Fabric
  clk     : Clocks
  rst     : Rst
  vbat    : Vbat
  recd    : Recorder
  jrn     : Journal
  jwBase  : Word
  nor     : Nor
  img     : Image
  com     : Commit
  shadow  : Vector Shadow 2
  fw      : Firmware
  av      : Avail
  cap     : Vector Cap 8
  eth     : Ether
  time    : TimeUnit
  can     : Vector Can 4
  onyx    : Onyx
  tap     : Tap
  latches : List (Nat × Nat × Word)
deriving DecidableEq, Repr

/-- The reasons for which the module as modelled stops. No meaning raises a fault: the spec gives every command an effect in
every state, or says that it is ignored, so the type has no constructor. -/
inductive Fault where
deriving DecidableEq, Repr

/-- Why a command is not carried out by the model. -/
inductive Refusal where
  /-- Raised by `exec` alone, for a command whose meaning is not written. Safe: the model stops. -/
  | notModelled (mnemonic : String)
deriving DecidableEq, Repr

/-- The module right after a power-up reset: every register at its Reset value, an empty flash journal, no image, no owner,
and device keys from manufacture. The values that the spec does not give are those of log 5. -/
def State.reset : State where
  pending := []
  up := 0; dev := 0; devFrac := 0; free := 0; given := []; used := []; unarmedF := []
  cells := tbl 8 .reset; hk := .reset; pwm := tbl 8 .reset; loops := tbl 4 .reset; posIf := tbl 8 .reset
  start := tbl 4 .reset; spc := tbl 32 .reset; cmd := tbl 4 .reset; outer := tbl 4 .reset; brake := tbl 4 .reset
  armed := tbl 4 false; disarmed := tbl 4 false; mapBad := tbl 4 false; badChk := tbl 4 false
  axes := tbl 8 .reset; moGen := tbl 4 .reset; shock := tbl 4 .reset; heave := tbl 4 .reset; hist := tbl 4 []
  ring := .reset; em := tbl 4 .reset; reacts := tbl 4 []; chan := tbl 52 .reset; br := tbl 8 .reset
  cmp := tbl 96 .reset; chop := tbl 4 .reset; wind := tbl 4 .reset; stest := .reset; die := .reset
  garnet := .reset; slog := .reset; fab := .reset; clk := .reset; rst := .reset; vbat := .reset
  recd := .reset; jrn := .reset; jwBase := 0; nor := .reset; img := .reset; com := .reset
  shadow := tbl 2 .reset; fw := .reset; av := .reset; cap := tbl 8 .reset; eth := .reset; time := .reset
  can := tbl 4 .reset; onyx := .reset; tap := .reset; latches := []

end Sys2Proof.Machine
end

