-- ==== Sys2Proof/Machine/Cfg.lean ====
section
/-! DEFINITION. Reading and changing the live configuration (R339, R340): a field is named by its record, instance, FID and
sub-indices; its value in force is the one taken in place of it, else the one configured, else its default. -/

namespace Sys2Proof.Machine

/-- The key of a field value in the sparse lists of `State`: TYPE, INST, FID and the two sub-indices. -/
def fieldKey (f : Field) (inst i j : Nat) : Nat :=
  (((f.rt.code * 256 + inst) * 65536 + f.fid) * 256 + i) * 256 + j

/-- The entry of a key in a sparse list. -/
def cfgFind : List (Nat × CfgVal) → Nat → Option CfgVal
  | [], _ => none
  | (k, v) :: l, key => if k = key then some v else cfgFind l key

/-- The list with the entry of a key set, or removed for `none`; it stays in rising order of keys. -/
def cfgPut : List (Nat × CfgVal) → Nat → Option CfgVal → List (Nat × CfgVal)
  | [], _, none => []
  | [], key, some v => [(key, v)]
  | (k, w) :: l, key, v =>
    if k < key then (k, w) :: cfgPut l key v
    else
      let rest := if k = key then l else (k, w) :: l
      match v with
      | none => rest
      | some x => (key, x) :: rest

/-- The canonical form of a sparse list: keys strictly rising. -/
def cfgSorted (l : List (Nat × CfgVal)) : Bool := decide (l.Pairwise (fun a b => a.1 < b.1))

/-- The number of a field value; a value that is no number reads 0 here and is refused where it would be used. -/
def cvNum : CfgVal → Rat
  | .num q => q
  | _ => 0

/-- A value by its key alone: in force, else configured, else the plain default of the row. -/
def State.raw (s : State) (f : Field) (inst i j : Nat) : Rat :=
  match cfgFind s.used (fieldKey f inst i j) with
  | some v => cvNum v
  | none => match cfgFind s.given (fieldKey f inst i j) with
    | some v => cvNum v
    | none => f.dflt

/-- The first slot that a BRIDGE record names, b by default. -/
def State.slotOf (s : State) (b : Nat) : Nat :=
  match cfgFind s.used (fieldKey Fld.BRIDGE_SLOT b 0 0) with
  | some v => natQ (cvNum v)
  | none => match cfgFind s.given (fieldKey Fld.BRIDGE_SLOT b 0 0) with
    | some v => natQ (cvNum v)
    | none => b

/-- The default of a field value, with the defaults that depend on another field (R28, R78, R93, R223, R120, R389, R413). -/
def State.dflt (s : State) (f : Field) (inst i : Nat) : Rat :=
  if f = Fld.BRIDGE_SLOT then inst
  else if f = Fld.BRIDGE_IIN then 12 * s.slotOf inst + i + 1
  else if f = Fld.BRIDGE_VDCIN then 12 * s.slotOf inst + 3 + 1
  else if f = Fld.BRIDGE_VPHIN then 12 * s.slotOf inst + 4 + i + 1
  else if f = Fld.BRIDGE_VNPIN then
    if s.raw Fld.BRIDGE_TOPO inst 0 0 = 2 then 12 * s.slotOf inst + 7 + 1 else 0
  else if f = Fld.BRIDGE_MOD then if s.raw Fld.BRIDGE_TOPO inst 0 0 = 2 then 3 else 0
  else if f = Fld.MOTOR_IDMIN then -(s.raw Fld.MOTOR_IMAX inst 0 0) / 2
  else if f = Fld.PROTECT_CMP_L1HI ∨ f = Fld.PROTECT_CMP_L2HI then
    if s.raw Fld.CELL_INMODE (i / 12) (i % 12) 0 = 1 then 8191 else 16383
  else if f = Fld.PROTECT_CMP_L1LO ∨ f = Fld.PROTECT_CMP_L2LO then
    if s.raw Fld.CELL_INMODE (i / 12) (i % 12) 0 = 1 then -8192 else 0
  else if f = Fld.CURVE_X ∨ f = Fld.CURVE_Y then if i = 0 then 0 else 1
  else if f = Fld.CAN_RXQ_CONS then i
  else if f = Fld.SECURITY_TMP_LEVEL then if i = 0 then 1 else 0
  else f.dflt

/-- The value of a field as configured: the entry of an image or a delta, else the default. -/
def State.cvGiven (s : State) (f : Field) (inst i j : Nat) : CfgVal :=
  (cfgFind s.given (fieldKey f inst i j)).getD (.num (s.dflt f inst i))

/-- The value of a field in force: one taken in its place under R340, else as configured. -/
def State.cv (s : State) (f : Field) (inst i j : Nat) : CfgVal :=
  (cfgFind s.used (fieldKey f inst i j)).getD (s.cvGiven f inst i j)

/-- The number in force. -/
def State.q (s : State) (f : Field) (inst : Nat) (i j : Nat := 0) : Rat := cvNum (s.cv f inst i j)

/-- The number in force of a whole field that is not negative, or the code of an enumeration. -/
def State.n (s : State) (f : Field) (inst : Nat) (i j : Nat := 0) : Nat := natQ (s.q f inst i j)

/-- The number in force of a signed field. -/
def State.z (s : State) (f : Field) (inst : Nat) (i j : Nat := 0) : Int := (s.q f inst i j).floor

/-- A field that is 1. -/
def State.yes (s : State) (f : Field) (inst : Nat) (i j : Nat := 0) : Bool := s.q f inst i j = 1

/-- The byte string in force; a field that is absent or no string is empty. -/
def State.str (s : State) (f : Field) (inst : Nat) (i j : Nat := 0) : List Byte :=
  match s.cv f inst i j with
  | .bytes b => b
  | _ => []

/-- The reaction in force of a field. -/
def State.rc (s : State) (f : Field) (inst : Nat) (i j : Nat := 0) : Reaction := Reaction.ofRank (s.n f inst i j)

/-- A field configured with a value. -/
def State.setGiven (s : State) (f : Field) (inst i j : Nat) (v : CfgVal) : State :=
  { s with given := cfgPut s.given (fieldKey f inst i j) (some v) }

/-- A value taken in place of the configured one, or none. -/
def State.setUsed (s : State) (f : Field) (inst i j : Nat) (v : Option CfgVal) : State :=
  { s with used := cfgPut s.used (fieldKey f inst i j) v }

end Sys2Proof.Machine
end

