-- ==== Sys2Proof/Machine/Ops.lean ====
section
/-! DEFINITION. Operations that every family shares: free values, time, the event recorder (R20, R445, R464), capture
triggers (R446), and which bridge, cell and motor object belong together (R23 to R28). -/

namespace Sys2Proof.Machine

/-! ## Free values and time -/

/-- A fresh number that the spec leaves open (log 1). -/
def State.takeRat (s : State) : Rat × State := (Config.freeRat s.free, { s with free := s.free + 1 })

/-- A fresh word that the spec leaves open (log 1). -/
def State.takeWord (s : State) : Word × State := (Config.freeWord s.free, { s with free := s.free + 1 })

/-- Fresh bytes that the spec leaves open (log 1). -/
def State.takeBytes (s : State) : List Byte × State := (Config.freeBytes s.free, { s with free := s.free + 1 })

/-- A span in nanoseconds. -/
def us : Nat := 1000
def ms : Nat := 1000000
def sec : Nat := 1000000000

/-- A device time rounded down to the 50 ns grid (R1). -/
def gridOf (t : BitVec 64) : BitVec 64 := BitVec.ofNat 64 (t.toNat / 50 * 50)

/-- The stamp of an event that occurs now. -/
def State.stamp (s : State) : BitVec 64 := gridOf s.dev

/-! ## The event recorder -/

/-- The entries that the recorder ring holds (R20). -/
def ringMax : Nat := 8192

/-- An entry of an event that occurs now. -/
def State.entry (s : State) (ev : Ev) (unit aux : Nat) (data : List Byte) : Entry :=
  ⟨ev.code, unit, aux, s.stamp, data⟩

/-- An entry stored with the next index (R445); the index wraps to 0. -/
def storeRaw (r : Recorder) (e : Entry) : Recorder :=
  { r with ring := (r.next, e) :: r.ring, next := r.next + 1 }

/-- An entry for which the ring has no room is counted, and opens a spell of loss with its stamp (R20). -/
def loseEntry (r : Recorder) (e : Entry) : Recorder :=
  { r with
    dropped := bump r.dropped
    spell := match r.spell with
      | none => some (1, e.time)
      | some (n, t) => some (n + 1, t) }

/-- An entry that reaches the ring: stored where it has room, else lost. -/
def storeOne (r : Recorder) (e : Entry) : Recorder :=
  if r.ring.length < ringMax then storeRaw r e else loseEntry r e

/-- An entry stored; where its index is the last one the next wraps to 0 and INDEX_WRAP follows (R12, R445). -/
def State.store (s : State) (e : Entry) : State :=
  let r := storeOne s.recd e
  if r.next = 0 ∧ r.next ≠ s.recd.next then
    { s with recd := { storeOne r ⟨Ev.INDEX_WRAP.code, 0, 0, s.stamp, []⟩ with lastAt := s.up } }
  else { s with recd := { r with lastAt := s.up } }

/-- The events of the management plane (R18, R464): blocks 0x0C and 0x0D of R13. -/
def Entry.late (e : Entry) : Bool := 0x0C00 ≤ e.code

/-- An event handed to the recorder: kept until the end of S3 while the recorder does not run (R304); a management-plane
event is stored at once; any other waits for its grid point to close (R464). -/
def State.record (s : State) (e : Entry) : State :=
  if !s.recd.on then { s with recd := { s.recd with held := s.recd.held ++ [e] } }
  else if e.late then s.store e
  else { s with recd := { s.recd with open_ := s.recd.open_ ++ [e] } }

/-- An event journaled late with its own stamp: stored at once (R464). -/
def State.recordLate (s : State) (e : Entry) : State :=
  if s.recd.on then s.store e else { s with recd := { s.recd with held := s.recd.held ++ [e] } }

/-! ## Capture triggers -/

/-- How many frames of 64 bytes a buffer holds. -/
def Cap.frameMax (c : Cap) : Nat := c.size / 64

/-- A trigger of a running buffer that has none yet (R446); any other is ignored. -/
def trigCap (c : Cap) (pre : Nat) (t : BitVec 64) : Cap :=
  if c.run ∧ !c.trigged then
    { c with trigged := true, trigNow := true, trigT := t, post := c.frameMax * (100 - pre) / 100 }
  else c

/-- The buffers whose TRIG names an event code take their trigger, and CAP_TRIGGERED is recorded for each (R446). -/
def State.trigOnce (s : State) (code : Nat) (t : BitVec 64) : State :=
  forFin 8 (fun k s =>
    let c := s.cap[k]
    if s.n Fld.SERVICE_CAP_TRIG 0 k = code ∧ c.run ∧ !c.trigged then
      { s with cap := vmod s.cap k fun c => trigCap c (s.n Fld.SERVICE_CAP_PRE 0 k) t }.record
        ⟨Ev.CAP_TRIGGERED.code, k, 0, t, []⟩
    else s) s

/-- Every capture that an event triggers; CAP_TRIGGERED is itself an event that may trigger further buffers. -/
def State.capTrigger (s : State) (code : Nat) (t : BitVec 64) : State :=
  let s1 := s.trigOnce code t
  if s1.cap = s.cap then s1 else s1.trigOnce Ev.CAP_TRIGGERED.code t

/-- An event is raised: it reaches the recorder, and triggers the captures that wait for its code. -/
def State.raise (s : State) (ev : Ev) (unit : Nat := 0xFF) (aux : Nat := 0) (data : List Byte := []) : State :=
  (s.record (s.entry ev unit aux data)).capTrigger ev.code s.stamp

/-- An event is raised where a condition holds. -/
def State.raiseIf (s : State) (c : Bool) (ev : Ev) (unit : Nat := 0xFF) (aux : Nat := 0) (data : List Byte := []) : State :=
  if c then s.raise ev unit aux data else s

/-- An event with a stamp of its own is raised (R37). -/
def State.raiseAt (s : State) (t : BitVec 64) (ev : Ev) (unit : Nat := 0xFF) (aux : Nat := 0) (data : List Byte := []) : State :=
  (s.record { s.entry ev unit aux data with time := gridOf t }).capTrigger ev.code (gridOf t)

/-- An ignored write is journaled with its address and value (R449). -/
def State.rejectWrite (s : State) (addr v : Nat) : State :=
  s.raise .WRITE_REJECTED 0xFF 0 (bytesLE 4 addr ++ bytesLE 4 v)

/-! ## The load report -/

/-- Entries that the load report holds (R341). -/
def reportMax : Nat := 1024

/-- An entry of the load report; beyond its last place it is counted as lost, and LOAD_REPORT_FULL is raised at the first
(R341). -/
def State.report (s : State) (ev : Ev) (unit aux : Nat) (data : List Byte) : State :=
  if s.img.report.length < reportMax then
    { s with img := { s.img with report := s.img.report ++ [s.entry ev unit aux data] } }
  else
    let s1 := { s with img := { s.img with
      repLost := if s.img.repLost + 1 < 32767 then s.img.repLost + 1 else 32767
      repSat := s.img.repSat || decide (32767 ≤ s.img.repLost + 1) } }
    s1.raiseIf (s.img.repLost == 0) .LOAD_REPORT_FULL

/-! ## What belongs together -/

/-- The first slot of the bridge that holds a slot (R23). -/
def State.firstOf (s : State) (n : Fin 8) : Fin 8 :=
  let e : Fin 8 := ⟨n.1 / 2 * 2, by omega⟩
  if (s.br[e].npc && s.br[e].rec_.isSome) then e else n

/-- A configured bridge starts at this slot (R25). -/
def State.conf (s : State) (n : Fin 8) : Bool := s.br[n].rec_.isSome

/-- The BRIDGE record of a configured bridge; its own slot number where there is none. -/
def State.recOf (s : State) (n : Fin 8) : Nat := match s.br[n].rec_ with | some b => b.1 | none => n.1

/-- The configured bridges of a motor object. -/
def State.bridges (s : State) (m : Fin 4) : List (Fin 8) :=
  (List.finRange 8).filter fun n => s.conf n && s.br[n].mo == m

/-- The bridges that feed a motor object now: those that degraded operation has not taken out (R15, R214). -/
def State.feeding (s : State) (m : Fin 4) : List (Fin 8) :=
  (s.bridges m).filter fun n => !s.br[n].taken

/-- The first gate channel of a bridge and how many it has. -/
def gateBase (n : Fin 8) : Nat := 6 * n.1
def State.gateCount (s : State) (n : Fin 8) : Nat := if s.br[n].npc then 12 else 6

/-- The bridge of a gate channel (R23). -/
def State.bridgeOfGate (s : State) (g : Nat) : Fin 8 := s.firstOf ⟨g / 6 % 8, Nat.mod_lt _ (by decide)⟩

/-- The bridge is of an induction motor (R16). -/
def State.induction (s : State) (m : Fin 4) : Bool := s.n Fld.MOTOR_TYPE m = 2

/-- An AIN that a field with NONE first names: its number, or none. -/
def ainOf (code : Nat) : Option Nat := if code = 0 then none else some (code - 1)

/-- The analog inputs that a bridge names (R28): currents, link, phase voltages, midpoint. -/
def State.inputsOf (s : State) (n : Fin 8) : List Nat :=
  let b := s.recOf n
  [s.n Fld.BRIDGE_IIN b 0, s.n Fld.BRIDGE_IIN b 1, s.n Fld.BRIDGE_IIN b 2, s.n Fld.BRIDGE_VDCIN b,
   s.n Fld.BRIDGE_VPHIN b 0, s.n Fld.BRIDGE_VPHIN b 1, s.n Fld.BRIDGE_VPHIN b 2, s.n Fld.BRIDGE_VNPIN b].filterMap ainOf

/-- The configured bridges that name an input (R28, R35). -/
def State.naming (s : State) (i : Nat) : List (Fin 8) :=
  (List.finRange 8).filter fun n => s.conf n && (s.inputsOf n).contains i

/-- The first regular entry that reads an input, as 16·k + e of its cell (R49). -/
def State.readerOf (s : State) (i : Nat) : Option Nat :=
  (List.range 64).find? fun x => x % 16 < s.n Fld.CELL_SQ_LEN (i / 12) (x / 16)
      && s.n Fld.CELL_SQ_E_IN (i / 12) (x / 16) (x % 16) == i % 12

/-- The latest regular result of an input. -/
def State.ainCode (s : State) (i : Nat) : Int :=
  match s.readerOf i with
  | some x => (vat (vat (vat s.cells .reset (i / 12)).sq .reset (x / 16)).res .reset (x % 16)).value
  | none => 0

/-- The code of the input that a field names; 0 where it names none. -/
def State.codeOf (s : State) (code : Nat) : Int := match ainOf code with | some i => s.ainCode i | none => 0

/-- A change of one element of a table of `State`. -/
def State.onBr (s : State) (n : Fin 8) (f : Bridge → Bridge) : State := { s with br := vmod s.br n f }
def State.onCell (s : State) (n : Fin 8) (f : Cell → Cell) : State := { s with cells := vmod s.cells n f }
def State.onPwm (s : State) (n : Fin 8) (f : Pwm → Pwm) : State := { s with pwm := vmod s.pwm n f }
def State.onLoop (s : State) (m : Fin 4) (f : LoopSt → LoopSt) : State := { s with loops := vmod s.loops m f }
def State.onPi (s : State) (k : Fin 8) (f : PosIf → PosIf) : State := { s with posIf := vmod s.posIf k f }
def State.onStart (s : State) (m : Fin 4) (f : Start → Start) : State := { s with start := vmod s.start m f }
def State.onCmd (s : State) (m : Fin 4) (f : Command → Command) : State := { s with cmd := vmod s.cmd m f }
def State.onOuter (s : State) (m : Fin 4) (f : Outer → Outer) : State := { s with outer := vmod s.outer m f }
def State.onBrake (s : State) (m : Fin 4) (f : Brake → Brake) : State := { s with brake := vmod s.brake m f }
def State.onAxis (s : State) (k : Fin 8) (f : Axis → Axis) : State := { s with axes := vmod s.axes k f }
def State.onGen (s : State) (m : Fin 4) (f : Gen → Gen) : State := { s with moGen := vmod s.moGen m f }
def State.onShock (s : State) (m : Fin 4) (f : Shock → Shock) : State := { s with shock := vmod s.shock m f }
def State.onHeave (s : State) (m : Fin 4) (f : Heave → Heave) : State := { s with heave := vmod s.heave m f }
def State.onMbr (s : State) (m : Fin 4) (f : Member → Member) : State :=
  { s with ring := { s.ring with mbr := vmod s.ring.mbr m f } }
def State.onRing (s : State) (f : Ring → Ring) : State := { s with ring := f s.ring }
def State.onEm (s : State) (m : Fin 4) (f : Emerg → Emerg) : State := { s with em := vmod s.em m f }
def State.onChan (s : State) (g : Fin 52) (f : Chan → Chan) : State := { s with chan := vmod s.chan g f }
def State.onCmp (s : State) (i : Fin 96) (f : Cmp → Cmp) : State := { s with cmp := vmod s.cmp i f }
def State.onChop (s : State) (c : Fin 4) (f : Chopper → Chopper) : State := { s with chop := vmod s.chop c f }
def State.onWind (s : State) (m : Fin 4) (f : Winding → Winding) : State := { s with wind := vmod s.wind m f }
def State.onGarnet (s : State) (f : Garnet → Garnet) : State := { s with garnet := f s.garnet }
def State.onSmo (s : State) (m : Fin 4) (f : SafeMo → SafeMo) : State :=
  { s with garnet := { s.garnet with mo := vmod s.garnet.mo m f } }
def State.onFab (s : State) (f : Fabric → Fabric) : State := { s with fab := f s.fab }
def State.onFlow (s : State) (i : Fin 256) (f : Flow → Flow) : State :=
  { s with fab := { s.fab with flows := vmod s.fab.flows i f } }
def State.onClk (s : State) (f : Clocks → Clocks) : State := { s with clk := f s.clk }
def State.onRst (s : State) (f : Rst → Rst) : State := { s with rst := f s.rst }
def State.onImg (s : State) (f : Image → Image) : State := { s with img := f s.img }
def State.onShadow (s : State) (i : Fin 2) (f : Shadow → Shadow) : State := { s with shadow := vmod s.shadow i f }
def State.onCap (s : State) (k : Fin 8) (f : Cap → Cap) : State := { s with cap := vmod s.cap k f }
def State.onPort (s : State) (p : Fin 9) (f : EthPort → EthPort) : State :=
  { s with eth := { s.eth with port := vmod s.eth.port p f } }
def State.onCan (s : State) (c : Fin 4) (f : Can → Can) : State := { s with can := vmod s.can c f }
def State.onOnyx (s : State) (f : Onyx → Onyx) : State := { s with onyx := f s.onyx }
def State.onSpc (s : State) (j : Fin 32) (f : SetpointCh → SetpointCh) : State := { s with spc := vmod s.spc j f }

end Sys2Proof.Machine
end

