-- ==== Sys2Proof/Machine/React.lean ====
section
/-! DEFINITION. Fault reactions (R14 to R16): how they rank, what executing one does to the motor object (R107, R134, R153,
R172, R177, R194, R203, R213, R214, R227 to R231, R359), and how they end. -/

namespace Sys2Proof.Machine

/-! ## Ranking -/

/-- The harder of two reactions. -/
def harder (a b : Reaction) : Reaction := if a.rank < b.rank then b else a

/-- The hardest reaction of a list; LOG for none. -/
def hardest (l : List React) : Reaction := l.foldl (fun a r => harder a r.sev) .log

/-- The hardest reaction of a motor object as a whole. -/
def State.moHard (s : State) (m : Fin 4) : Reaction := hardest s.reacts[m]

/-- The hardest reaction that applies to a bridge (R15). -/
def State.brHard (s : State) (n : Fin 8) : Reaction := harder (hardest s.br[n].reacts) (s.moHard s.br[n].mo)

/-- `MOSUM[m].REACT`: the hardest reaction on the motor object or on a bridge that feeds it (R15). -/
def State.shownReact (s : State) (m : Fin 4) : Reaction :=
  (s.bridges m).foldl (fun a n => harder a (hardest s.br[n].reacts)) (s.moHard m)

/-- The motor object is in a reaction of PULSE_BLOCK or harder. -/
def State.blocked (s : State) (m : Fin 4) : Bool := decide (4 ≤ (s.moHard m).rank)

/-- A request joins the list: one of the same cause and unit is renewed with the harder of both. -/
def addReact (l : List React) (r : React) : List React :=
  match l.find? (fun x => x.cause == r.cause && x.unit == r.unit) with
  | some o => { r with sev := harder o.sev r.sev } :: l.filter (fun x => !(x.cause == r.cause && x.unit == r.unit))
  | none => l ++ [r]

/-! ## Where the outer loop runs (R132, R198) -/

/-- The lowest member motor object of this module: the one whose outer loop runs for the group when the module leads (log 21). -/
def State.leadMo (s : State) : Option (Fin 4) := (List.finRange 4).find? fun m => s.yes Fld.RING_MEMBER 0 m

/-- This module leads the ring. -/
def State.isLead (s : State) : Bool := s.ring.on && s.ring.leadPos == some (s.n Fld.RING_POS 0)

/-- A motor object whose torque comes from its ring share (R132). -/
def State.inGroup (s : State) (m : Fin 4) : Bool := s.ring.on && s.yes Fld.RING_MEMBER 0 m

/-- The outer loop of a motor object runs here: it belongs to no group, or it is the lead motor object of the lead. -/
def State.runsHere (s : State) (m : Fin 4) : Bool := !s.inGroup m || (s.isLead && s.leadMo == some m)

/-- A member that a state shows as part of the torque: SHARE or DRAINING (R193). -/
def MemberState.carries : MemberState → Bool
  | .share | .draining => true
  | _ => false

/-- Members beside this one carry the torque of the group: local ones, or those of the latest frames of other positions. -/
def State.othersShare (s : State) (m : Fin 4) : Bool :=
  (List.finRange 4).any (fun j => decide (j ≠ m) && s.ring.mbr[j].state.carries) ||
    (List.finRange 8).any fun p => decide (p.1 ≠ s.n Fld.RING_POS 0) && s.ring.pos[p].visible &&
      (match s.ring.pos[p].recent.head? with | some (_, f) => f.mbr.toList.any fun e => e.mstate.carries | none => false)

/-- The motor objects of this module that follow the outer loop of `m`: itself, or every local member of its group. -/
def State.followers (s : State) (m : Fin 4) : List (Fin 4) :=
  if s.inGroup m then (List.finRange 4).filter fun j => s.yes Fld.RING_MEMBER 0 j else [m]

/-! ## Speed -/

/-- The measured speed of a motor object in rpm (`STARTSPD`). -/
def State.rpm (s : State) (m : Fin 4) : Rat := s.start[m].spd

/-- Radians per second of a speed in rpm. -/
def radPerSec (rpm : Rat) : Rat := rpm * 2 * Config.pi / 60

/-- The measured speed in rad/s. -/
def State.omega (s : State) (m : Fin 4) : Rat := radPerSec (s.rpm m)

/-- The rated speed in rad/s. -/
def State.omegaRated (s : State) (m : Fin 4) : Rat := radPerSec (s.q Fld.MOTOR_NRATED m)

/-- The speed is below a share of rated speed. -/
def State.slower (s : State) (m : Fin 4) (share : Rat) : Bool :=
  decide (absQ (s.rpm m) < share * s.q Fld.MOTOR_NRATED m)

/-! ## What a reaction ends -/

/-- A generator set to a position at rest (R153). -/
def Gen.restAt (g : Gen) (x : Rat) : Gen :=
  { g with active := false, x := x, v := 0, a := 0, kind := .none_, plan := [], planned := false, defer := false,
           overshoot := false, reversal := false, done := true, replan := false }

/-- UNCERT of an axis sets, and HOMED clears (R153, R154). -/
def State.axisUncertain (s : State) (k : Fin 8) : State :=
  (s.onAxis k fun a => { a with uncert := true, homed := false }).raise .AX_POS_UNCERTAIN k

/-- An immediate stop (R153): no new step, the position uncertain, the generator at rest; to FAULT with AXEN released, or to
READY where motion stood. -/
def State.axisImmediate (s : State) (k : Fin 8) (toFault : Bool) : State :=
  let s1 := s.axisUncertain k
  s1.onAxis k fun a =>
    let b := { a with gen := a.gen.restAt a.pos.toInt, pend := none, halting := false, thenStandstill := false,
                      limHalt := none, homeStep := .none_ }
    if toFault then
      { b with state := .fault, axen := false, shrt := s.n Fld.AXIS_STANDSTILL k == 1, since := s.up }
    else match a.state with
      | .moving | .homing | .sync => { b with state := .ready, since := s.up }
      | _ => b

/-- The axes linked to a motor object stop immediately and go to FAULT (R152, R153). -/
def State.stopLinkedAxes (s : State) (m : Fin 4) : State :=
  forFin 8 (fun k s => if s.n Fld.AXIS_LINKMO k = m.1 + 1 ∧ s.axes[k].state ≠ .off then s.axisImmediate k true else s) s

/-- A render in progress ends (R172). -/
def State.endRender (s : State) (m : Fin 4) : State :=
  if s.shock[m].render then
    (s.onShock m fun h => { h with render := false, below := false, n := 0, base := h.f, baseSet := true, hot := none, calm := none }).raise .RENDER_END m
  else s

/-- Heave compensation is taken out at once (R177). -/
def State.dropHeave (s : State) (m : Fin 4) : State :=
  s.onHeave m fun h => { h with ahcOn := false, g := 0, ofs := 0, vofs := 0, limit := false }

/-- The motor object of a task (R452): current loops by their bridge, the others by their number. -/
def State.taskMo (s : State) (t : Nat) : Option (Fin 4) :=
  if h : t < 8 then some s.br[t].mo
  else if t < 20 then some ⟨t % 4, Nat.mod_lt _ (by decide)⟩ else none

/-- A shadow aborted with its reason (R359). -/
def State.abortShadow (s : State) (i : Fin 2) (reason : Nat) : State :=
  ((s.onShadow i fun h => { h with state := .abort, reason := reason, mirror := [] }).onImg fun x => { x with
    staged := x.staged.map fun y => if y.carried = some i then { y with carried := none } else y }).raise .SHADOW_ABORTED i reason

/-- A motor object that enters RAMP_STOP or harder aborts the shadows of its tasks before SWITCH (R359). -/
def State.abortShadowsOf (s : State) (m : Fin 4) : State :=
  forFin 2 (fun i s => match s.shadow[i].state with
    | .prep | .shadow | .ready => if s.shadow[i].mo = m ∧ (s.shadow[i].kind ≠ .move ∨ s.taskMo s.shadow[i].task = some m) then s.abortShadow i 8 else s
    | _ => s) s

/-- The start machine returns to IDLE; a start in progress, which includes the pause between two attempts, is journaled as ended by
protection (R107). FAILED, too, is left on a fault reaction: the table says 'any but IDLE', the text that FAILED holds until a stop
command (DESIGN CHOICE, log 123). -/
def State.startToIdle (s : State) (m : Fin 4) : State :=
  let st := s.start[m]
  match st.state with
  | .idle => s
  | .run | .failed => s.onStart m fun x => { x with state := .idle, since := s.up }
  | _ => (s.onStart m fun x => { x with state := .idle, reason := 8, since := s.up }).raise
      .START_ATTEMPT_FAILED m 8

/-- The brake of a motor object falls to CLOSED (R134). -/
def State.brakeToClosed (s : State) (m : Fin 4) : State :=
  s.onBrake m fun b => { b with state := .closed, proved := false, release := false, runNext := false, abort := false,
                                since := if b.state = .closed then b.since else s.up }

/-- A member in JOINING, SHARE or DRAINING goes OUT (R194). -/
def State.memberOut (s : State) (m : Fin 4) (c : OutCause) : State :=
  s.onMbr m fun x => match x.state with
    | .joining | .share | .draining =>
      { x with state := .out, outCause := c, dhold := false, ramp := false, cpos := 0, cneg := 0, factor := 0, holdAt := none }
    | _ => x

/-! ## Stops and their precedence (R203 to R205) -/

/-- A stop kept for later, once, in the order of R203. -/
def pendStop (l : List (EMode × StopBy)) (e : EMode) (by_ : StopBy) : List (EMode × StopBy) :=
  if l.any (fun x => x.1 == e && x.2 == by_) then l
  else
    let hi := l.filter fun x => decide (x.1.prio ≤ e.prio)
    hi ++ [(e, by_)] ++ l.filter fun x => !decide (x.1.prio ≤ e.prio)

/-- A stop of entries 5, 6 and 8 of R203. -/
def EMode.isStop : EMode → Bool
  | .quick | .cat1 | .cat2 => true
  | _ => false

/-- What a higher entry does to the one in force: a stop is held pending, another mode ends (R203). -/
def Emerg.displace (e : Emerg) : Emerg :=
  if e.mode.isStop ∧ !e.stopped then { e with pend := pendStop e.pend e.mode e.stopBy } else e

/-- A stop takes over from the present state (R205 step 1 and 2). -/
def State.enterStop (s : State) (m : Fin 4) (e : EMode) (by_ : StopBy) : State :=
  let s1 := (s.endRender m).onHeave m fun h => { h with ahcOn := false }
  s1.onEm m fun x => { x.displace with
    mode := e, stopBy := by_, wRef := s.omega m, w0 := s.omega m, since := s.up, stopped := false, payAt := s.outer[m].pay }

/-- A request for a stop: it takes over from a lower entry, renews its own, or is held pending under a higher one (R203). -/
def State.requestStop (s : State) (m : Fin 4) (e : EMode) (by_ : StopBy) : State :=
  let cur := s.em[m].mode
  if e.prio < cur.prio then s.enterStop m e by_
  else if e = cur then
    s.onEm m fun x => if by_ = .reaction then { x with stopBy := .reaction } else x
  else s.onEm m fun x => { x with pend := pendStop x.pend e by_ }

/-- The mode that a reaction of R14 stops with. -/
def stopOf : Reaction → Option EMode
  | .rampStop => some .cat1
  | .quickStop => some .quick
  | _ => none

/-- A pending stop reaction whose cause still persists (R203). -/
def State.stopPersists (s : State) (m : Fin 4) (e : EMode) : Bool :=
  s.reacts[m].any fun r => r.present && (stopOf r.sev == some e)

/-- When a higher entry ends: of the pending stops, those of reactions whose cause is gone are dropped, and the highest of the
rest starts from the present state (R203). An EQR that ran below a category 0 is in force again. -/
def State.resumePending (s : State) (m : Fin 4) : State :=
  let keep := s.em[m].pend.filter fun x => x.2 == .command || s.stopPersists m x.1
  let free := s.em[m].free
  let s1 := s.onEm m fun x => { x with pend := keep, mode := .modeLaw, stopped := false, free := false }
  if free then s1.onEm m fun x => { x with mode := .eqr }
  else match keep with
    | [] => s1
    | (e, b) :: rest =>
      let s2 := s1.onEm m fun x => { x with pend := rest }
      s2.enterStop m e b

/-! ## Active shorts (R227 to R230) -/

/-- F: the faulted channels of a bridge, by their offset (R227). -/
def State.faultSet (s : State) (n : Fin 8) : List Nat :=
  (List.range (s.gateCount n)).filter fun o => (vat s.chan .reset (gateBase n + o)).faulted

/-- A faulted switch counts against the upper side, or the lower side (R227). -/
def State.against (s : State) (n : Fin 8) (upper : Bool) : Bool :=
  (s.faultSet n).any fun o =>
    if s.br[n].npc then
      (if upper then o % 4 != 3 else o % 4 != 0)
    else o % 2 == (if upper then 0 else 1)

/-- The side on which a short is taken: the configured one where F is empty, the free one, or none (R227). -/
def State.ascSide (s : State) (n : Fin 8) : Side :=
  let u := s.against n true
  let l := s.against n false
  if u && l then .noFree else if u then .lower else if l then .upper
  else if s.n Fld.BRIDGE_ASCSIDE (s.recOf n) = 1 then .upper else .lower

/-- The circulating-current integrators of all bridges of a motor object are reset together (R77). -/
def State.circReset (s : State) (m : Fin 4) : State :=
  { s with pwm := vgen 8 fun j => if s.conf j && s.br[j].mo == m then { s.pwm[j] with xc := tbl 3 0 } else s.pwm[j] }

/-- A bridge enters PULSE_BLOCK: its gates go off, compare values on their way are not used any more, and R77 follows. -/
def State.offBridge (s : State) (n : Fin 8) (f : Bridge → Bridge) : State :=
  if s.br[n].form = .pblk then s.onBr n fun b => { f b with form := .pblk }
  else ((s.onBr n fun b => { f b with form := .pblk, offAt := s.up }).onPwm n fun p => { p with posted := none }).circReset s.br[n].mo

/-- A bridge executes TRIP: gates off and its contactor permissive withdrawn (R14, R231). -/
def State.bridgeTrip (s : State) (n : Fin 8) : State :=
  let named := s.n Fld.BRIDGE_DCOPEN (s.recOf n) ≠ 0
  s.offBridge n fun b => { b with
    exec_ := .trip, latch := true, dcopen := b.dcopen || decide named, dcAt := if named ∧ !b.dcopen then s.up else b.dcAt }

/-- A bridge goes to PULSE_BLOCK under a reaction. -/
def State.bridgeBlock (s : State) (n : Fin 8) : State :=
  s.offBridge n fun b => { b with exec_ := .pulseBlock, latch := true, side := .none_, dcopen := false }

/-- TDEAD of a bridge in nanoseconds, rounded up. -/
def State.deadNs (s : State) (n : Fin 8) : Nat := (s.q Fld.BRIDGE_TDEAD (s.recOf n) * 1000).ceil.toNat

/-- A bridge executes an ASC on the side that its F allows, or TRIP where none is free (R227). The channels of the side turn on
TDEAD after the off level was reached, but not before the decision (R228). -/
def State.bridgeAsc (s : State) (n : Fin 8) : State :=
  match s.ascSide n with
  | .noFree => ((s.onBr n fun b => { b with side := .noFree }).bridgeTrip n).raise .ASC_NOSIDE n
  | sd =>
    let s1 := s.offBridge n fun b => { b with exec_ := .asc, latch := true, side := sd }
    (s1.onBr n fun b => { b with form := .asc, onAt := max s.up (b.offAt + s.deadNs n) }).raise .ASC_ON n

/-- A bridge executes the hardest reaction that applies to it, in the form of R16 and R230; while its collection window is
open it is held off and decides at the end (R226). -/
def State.bridgeExec (s : State) (n : Fin 8) : State :=
  match s.brHard n with
  | .trip => if s.br[n].exec_ = .trip then s else s.bridgeTrip n
  | .asc =>
    if s.induction s.br[n].mo then s.bridgeBlock n
    else if s.br[n].window.isSome then s.bridgeBlock n
    else if s.br[n].form = .asc ∨ s.br[n].exec_ = .trip then s
    else s.bridgeAsc n
  | .pulseBlock => s.bridgeBlock n
  | _ =>
    let s1 := if s.br[n].form = .asc then s.offBridge n id else s
    s1.onBr n fun b => { b with exec_ := .log, side := .none_, dcopen := false, conFail := false }

/-! ## Executing and ending a reaction -/

/-- What a motor object runs beyond its own gates ends under a reaction of PULSE_BLOCK or harder: the brake, the running mode, the
render and the heave compensation. -/
def State.drumOff (s : State) (m : Fin 4) : State :=
  let eqr := s.em[m].mode = .eqr
  let s1 := ((s.brakeToClosed m).endRender m).dropHeave m
  let s2 := (s1.onEm m fun e => { e.displace with mode := .cat0, stopped := false, free := e.free || decide eqr }).onOuter m fun o =>
    { o with short := false }
  s2.raiseIf (decide eqr) .EQR_FREE m

/-- The gates of a motor object go off under a reaction of PULSE_BLOCK or harder: the start machine, the linked axes, the member and the
shadows follow, and so does its drum. The drum of a group runs on with the members that are left (R196, log 71). -/
def State.gatesOff (s : State) (m : Fin 4) (c : OutCause) : State :=
  let carried := s.inGroup m && s.runsHere m && s.othersShare m
  let s1 := ((s.startToIdle m).stopLinkedAxes m).memberOut m c
  let s2 := (s1.abortShadowsOf m).onLoop m fun l => { l with run := false }
  if carried then s2 else s2.drumOff m

/-- A ring member of a module that is not the lead (R206). -/
def State.followsLead (s : State) (m : Fin 4) : Bool :=
  s.ring.on && s.yes Fld.RING_MEMBER 0 m && (s.ring.leadPos != some (s.n Fld.RING_POS 0))

/-- A member that shares begins to drain (R197, R201). -/
def State.drainMember (s : State) (m : Fin 4) : State :=
  s.onMbr m fun x => if x.state = .share then
    { x with state := .draining, rampAt := s.up, from_ := x.factor, ramp := true, dhold := false, holdAt := none } else x

/-- The hardest reaction of a motor object has become `r`: it is executed from the present state. A stop of a member of the lead's module
stops the group; on another module it is a drain (R206). -/
def State.execReact (s : State) (m : Fin 4) (r : Reaction) (c : OutCause) : State :=
  let bridgesDo (s : State) : State := (s.feeding m).foldl (fun s n => s.bridgeExec n) s
  match r with
  | .log | .derate => bridgesDo s
  | .rampStop | .quickStop =>
    let s1 := ((s.abortShadowsOf m).endRender m).dropHeave m
    if s.followsLead m ∧ s.ring.mbr[m].state ≠ .idle then bridgesDo (s1.drainMember m)
    else
      let s2 := s1.requestStop (if s.inGroup m then s.leadMo.getD m else m) ((stopOf r).getD .cat1) .reaction
      bridgesDo (if s.inGroup m then s2.onRing fun r => if r.group = .stopped then r else { r with group := .stopping } else s2)
  | _ => bridgesDo (s.gatesOff m c)

/-- A reaction is requested of a motor object as a whole (R15): a LOG has no action; a harder one than any in force is
executed at once; any other is held pending. -/
def State.react (s : State) (m : Fin 4) (r : React) (c : OutCause := .reaction) : State :=
  if r.sev = .log then s
  else
    let old := s.moHard m
    let s1 := { s with reacts := vmod s.reacts m fun l => addReact l r }
    if old.rank < r.sev.rank then s1.execReact m r.sev c else s1

/-- A reaction requested by an event. -/
def State.reactEv (s : State) (m : Fin 4) (ev : Ev) (unit : Nat) (sev : Reaction) (present : Bool := true) : State :=
  s.react m ⟨some ev, unit, sev, present, false⟩

/-- The rank of a bridge in its motor object: its place among the feeding bridges, lowest slot first (R66). -/
def State.rankOf (s : State) (n : Fin 8) : Nat :=
  ((s.feeding s.br[n].mo).takeWhile (fun x => decide (x.1 < n.1))).length

/-- Degraded operation is waited for (R214 step 2): the other bridges are held, and the isolator of the blocked bridge is
requested open. -/
def State.degradeStart (s : State) (m : Fin 4) (n : Fin 8) (auto : Bool) : State :=
  let run := s.start[m].state ≠ .idle
  let s1 := s.onEm m fun e => { e with
    degr := .waiting, degrRank := s.rankOf n, degrAuto := auto, degrRun := decide run }
  let s2 := s1.offBridge n fun b => { b with isoReq := false }
  s2.react m ⟨some .DEGRADED_ON, m, .pulseBlock, true, true⟩ .degradeHold

/-- A reaction is requested of one bridge. ASC, TRIP and the milder ones act on the motor object; a PULSE_BLOCK acts on the
bridge alone where degraded operation can take it out, and else extends to the whole motor object (R15, R213, R214). -/
def State.reactBridge (s : State) (n : Fin 8) (ev : Ev) (unit : Nat) (sev : Reaction) (present : Bool := true) : State :=
  let m := s.br[n].mo
  if sev = .pulseBlock ∧ s.yes Fld.EMERGENCY_DEGRADE m ∧ 2 ≤ (s.feeding m).length ∧ !s.br[n].taken then
    let s1 := s.onBr n fun b => { b with reacts := addReact b.reacts ⟨some ev, unit, sev, present, false⟩ }
    let s2 := s1.bridgeExec n
    if s.em[m].degr = .waiting ∨ s.em[m].degr = .failed then s2 else s2.degradeStart m n true
  else s.reactEv m ev unit sev present

/-- After reactions have been removed: where the hardest has become milder, pending ones whose cause is gone are dropped, and
the hardest of the rest is executed from the state the drive is then in (R15). -/
def State.settle (s : State) (m : Fin 4) (old : Reaction) : State :=
  let new := s.moHard m
  if new.rank < old.rank then
    let s1 := { s with reacts := vmod s.reacts m fun l => l.filter fun r => r.present }
    let now := s1.moHard m
    if 4 ≤ now.rank then s1.execReact m now .reaction
    else
      let gone : Bool := s1.em[m].mode.isStop && s1.em[m].stopBy == .reaction && !s1.stopPersists m s1.em[m].mode
      let s2 := if s1.em[m].mode == EMode.cat0 || gone then s1.resumePending m else s1
      s2.execReact m now .reaction
  else (s.feeding m).foldl (fun s n => s.bridgeExec n) s

/-- Every bridge of a motor object executes what now applies to it. -/
def State.bridgesExec (s : State) (m : Fin 4) : State := (s.bridges m).foldl (fun s n => s.bridgeExec n) s

/-- A request that no event has made is taken away. -/
def State.dropOwn (s : State) (m : Fin 4) (unit : Nat) : State :=
  let old := s.moHard m
  let keep (r : React) : Bool := !(r.cause == none && r.unit == unit)
  let s1 := { s with
    reacts := vmod s.reacts m fun l => l.filter keep
    br := vgen 8 fun n => if s.br[n].mo = m then { s.br[n] with reacts := s.br[n].reacts.filter keep } else s.br[n] }
  (s1.settle m old).bridgesExec m

/-- The cause of a request has cleared: a reaction that needs no command ends (R15); a DERATE ends at the next outer-loop period (R467),
and any other waits for its clear. -/
def State.causeGone (s : State) (m : Fin 4) (ev : Ev) (unit : Nat) : State :=
  let old := s.moHard m
  let hit (r : React) : Bool := r.cause == some ev && r.unit == unit
  let s1 := { s with
    reacts := vmod s.reacts m fun l =>
      (l.map fun r => if hit r then { r with present := false } else r).filter fun r =>
        !(hit r && r.selfEnd)
    br := vgen 8 fun n =>
      if s.br[n].mo = m then
        { s.br[n] with reacts := s.br[n].reacts.map fun r => if hit r then { r with present := false } else r }
      else s.br[n] }
  (s1.settle m old).bridgesExec m

/-- The DERATEs whose cause has cleared end: this is judged at the start of an outer-loop period (R15, R467). -/
def State.derateEnds (s : State) (m : Fin 4) : State :=
  let old := s.moHard m
  let s1 := { s with reacts := vmod s.reacts m fun l => l.filter fun r => r.sev != Reaction.derate || r.present }
  (s1.settle m old).bridgesExec m

/-- The cause has cleared for every motor object and bridge. -/
def State.causeGoneAll (s : State) (ev : Ev) (unit : Nat) : State :=
  forFin 4 (fun m s =>
    if s.reacts[m].any (fun r => r.cause == some ev && r.unit == unit)
        || (List.finRange 8).any (fun n => s.br[n].mo == m && s.br[n].reacts.any (fun r => r.cause == some ev && r.unit == unit))
    then s.causeGone m ev unit else s) s

/-- A reaction is taken away by the module itself (R212, R214, R252). -/
def State.endReact (s : State) (m : Fin 4) (ev : Ev) (unit : Nat) : State :=
  let old := s.moHard m
  let s1 := { s with reacts := vmod s.reacts m fun l => l.filter fun r => !(r.cause == some ev && r.unit == unit) }
  (s1.settle m old).bridgesExec m

/-- FAULTn is low: from S9 while a configured bridge executes a reaction of PULSE_BLOCK or harder, and in every hold (R329). -/
def State.faultn (s : State) : Bool :=
  decide (s.rst.stage < 9) || s.rst.hold != 0 || s.die.hold ||
    (List.finRange 8).any (fun n => s.conf n &&
      (s.reacts[s.br[n].mo] ++ s.br[n].reacts).any fun r => r.cause.isSome && decide (4 ≤ r.sev.rank))

/-! ## Marks that a clear removes (R218, R224, R236) -/

/-- A reaction of that cause and unit still stands. -/
def State.stands (s : State) (ev : Ev) (unit : Nat) : Bool :=
  let hit (r : React) : Bool := r.cause == some ev && r.unit == unit && decide (1 < r.sev.rank)
  s.reacts.toList.any (fun l => l.any hit) || s.br.toList.any fun b => b.reacts.any hit

/-- A trip of an input still holds a reaction harder than DERATE: its own, or the OV3 of a bridge whose link it measures, or one that
a collection window has yet to ask for (R224). -/
def State.tripStands (s : State) (i : Nat) : Bool :=
  s.stands .CMP_TRIP i || (s.naming i).any fun n =>
    (ainOf (s.n Fld.BRIDGE_VDCIN (s.recOf n)) == some i && s.stands .OV3 n)
      || s.br[n].gather.any fun x => x.1 == .CMP_TRIP && x.2.1 == i && decide (1 < x.2.2.rank)

/-- Marks whose reactions have been cleared go: FAULTED, the level-2 flags of inputs back inside, CHOP_SHORT, and OVR3 (R92). -/
def State.dropMarks (s : State) : State :=
  { s with
    loops := vgen 4 fun m => { s.loops[m] with ovr3 := s.loops[m].ovr3 && s.stands .LOOP_DEADLINE m }
    chan := vgen 52 fun g => let c := s.chan[g]
      if c.faulted && c.ready && !s.stands .GD_DESAT g && !s.stands .GD_UV g then { c with faulted := false } else c
    cmp := vgen 96 fun i => let c := s.cmp[i]
      if (c.l2hi || c.l2lo) && c.back && !s.tripStands i then { c with l2hi := false, l2lo := false } else c
    chop := vgen 4 fun k => let c := s.chop[k]
      if c.short && c.stok && !s.stands .CHOP_SHORT k then { c with short := false } else c }

end Sys2Proof.Machine
end

