-- ==== Sys2Proof/Machine/Recorder.lean ====
section
/-! DEFINITION. The event recorder and the journal writer (R20, R343, R445, R464, R465). -/

namespace Sys2Proof.Machine

/-- The grid point of a stamp has ended 2 µs ago or earlier (R464). -/
def State.gridClosed (s : State) (t : BitVec 64) : Bool := decide (t.toNat + 2050 ≤ s.dev.toNat)

/-- A stamp lies before the last step of device time (R382, R464): below what a forward step led to, or ahead of device time after a
backward one. -/
def State.beforeStep (s : State) (t : BitVec 64) : Bool :=
  match s.recd.step with
  | some (old, new) => if old.toNat ≤ new.toNat then decide (t.toNat < new.toNat) else decide (s.dev.toNat < t.toNat)
  | none => false

/-- An event handed over with its own stamp (R464): late ones are stored at once. -/
def State.handEvent (s : State) (e : Entry) : State :=
  (if s.gridClosed e.time ∨ s.beforeStep e.time then s.recordLate e else s.record e).capTrigger e.code e.time

/-- The earliest stamp of a list of entries. -/
def earliest : List Entry → Option (BitVec 64)
  | [] => none
  | e :: l => match earliest l with
    | none => some e.time
    | some t => some (if e.time.toNat ≤ t.toNat then e.time else t)

/-- An entry placed behind those of its code or a lower one (R464). -/
def placeByCode : List Entry → Entry → List Entry
  | [], e => [e]
  | x :: l, e => if x.code ≤ e.code then x :: placeByCode l e else e :: x :: l

/-- Entries in the order of their codes, lowest first; equal codes keep their order. -/
def byCode (l : List Entry) : List Entry := l.foldl placeByCode []

/-- The earliest open grid point closes: its entries are stored in code order (R464). -/
def State.closeGrid (s : State) : State :=
  match earliest s.recd.open_ with
  | none => s
  | some t =>
    let now := byCode (s.recd.open_.filter fun e => e.time == t)
    let s1 := { s with recd := { s.recd with open_ := s.recd.open_.filter fun e => !(e.time == t) } }
    now.foldl State.store s1

/-- Every open grid point closes, in order. -/
def State.closeAll (s : State) : State := (List.range s.recd.open_.length).foldl (fun s _ => s.closeGrid) s

/-- Device time is stepped (R382): what was stamped before is stored at once (R464). -/
def State.stepDev (s : State) (t : BitVec 64) : State :=
  { s.closeAll with dev := t, recd := { s.closeAll.recd with step := some (s.dev, t) } }

/-- Slots of a journal sector and of the journal (R331). -/
def secSlots : Nat := 2048
def jrnSlots : Nat := 71680

/-- The sector whose erase starts when the sector of a slot begins: the one after the next (R343). -/
def eraseSector (wpos : Nat) : Nat := (wpos / secSlots + 2) % 35

/-- The writer may program the next slot: within a sector always, at its first slot only once the following sector is erased
(R343). -/
def Journal.ready (j : Journal) : Bool := j.wpos % secSlots != 0 || j.ahead

/-- One entry programmed into the next slot; at the first slot of a sector the erase of the sector after the next starts. -/
def Journal.put (j : Journal) (x : Word × Entry) : Journal :=
  let first := j.wpos % secSlots = 0
  { j with
    slots := (j.wpos, x.1, x.2) :: (if first then j.slots.filter fun y => y.1 / secSlots != eraseSector j.wpos else j.slots)
    wpos := (j.wpos + 1) % jrnSlots
    ahead := if first then false else j.ahead }

/-- A page programmed: the oldest entries of the ring, up to the end of the page of 8 slots (R465). -/
def State.programPage (s : State) : State :=
  let k := min (8 - s.jrn.wpos % 8) s.recd.ring.length
  let out := (s.recd.ring.reverse.take k)
  { s with
    recd := { s.recd with ring := s.recd.ring.take (s.recd.ring.length - k) }
    jrn := out.foldl Journal.put s.jrn }

/-- A spell of loss ends with the first freed entry: JOURNAL_BEHIND is stored in it (R20). -/
def State.endSpell (s : State) : State :=
  match s.recd.spell with
  | some (n, t) =>
    if s.recd.ring.length < ringMax then
      let s1 := { s with recd := { s.recd with spell := none } }
      s1.store ⟨Ev.JOURNAL_BEHIND.code, 0xFF, 0, t, bytesLE 4 n ++ bytesLE 8 s.stamp.toNat⟩
    else s
  | none => s

/-- A page is due: its entries are there, or none has come for 1 ms (R465). -/
def State.pageDue (s : State) : Bool :=
  decide (8 - s.jrn.wpos % 8 ≤ s.recd.ring.length) || (s.recd.ring != [] && decide (s.recd.lastAt + ms ≤ s.up))

/-- The writer programs a page where one is due and no erase holds it back (R343, R465). -/
def State.pageWrite (s : State) : State :=
  if !s.pageDue ∨ !s.jrn.ready then s else s.programPage.endSpell

/-- The erase of the sector after the next ends (R343). -/
def State.sectorErased (s : State) : State := { s with jrn := { s.jrn with ahead := true } }

/-- The flush before a warm reset (R321): open grid points are stored and every entry of the ring is programmed; the writer
waits for its erases. -/
def State.flushRecorder (s : State) : State :=
  let s1 := s.closeAll
  (List.range s1.recd.ring.length).foldl (fun s _ => if s.recd.ring = [] then s else s.sectorErased.programPage.endSpell) s1

/-- Every entry on record, newest first: those of the ring before those of the flash. -/
def State.onRecord (s : State) : List (Word × Entry) := s.recd.ring ++ s.jrn.slots.map fun x => (x.2.1, x.2.2)

/-- EVREC_ENTRY (R20): a block hands an event to the recorder. -/
def execEvrecEntry (code : BitVec 16) (unit aux : Byte) (stamp : BitVec 64) (data : List Byte) (s : State) :
    Host.Outcome State Fault Refusal :=
  .next (s.handEvent ⟨code.toNat, unit.toNat, aux.toNat, gridOf stamp, data.take 16⟩)

/-- EVREC_GRID_CLOSE (R464): a grid point has been held open for 2 µs. -/
def execEvrecGridClose (s : State) : Host.Outcome State Fault Refusal := .next s.closeGrid

/-- JOURNAL_PAGE_WRITE (R465): the writer programs a page. -/
def execJournalPageWrite (s : State) : Host.Outcome State Fault Refusal := .next s.pageWrite

/-- JOURNAL_SECTOR_ERASE_DONE (R343): the sector after the next is erased. -/
def execJournalSectorEraseDone (s : State) : Host.Outcome State Fault Refusal := .next s.sectorErased

end Sys2Proof.Machine
end

