-- ==== Sys2Proof/Machine/Reset.lean ====
section
/-! DEFINITION. Module resets, what each keeps, and holds (R318 to R324, R330), and the restart of the management cluster
(R3, R346, R351, R361). -/

namespace Sys2Proof.Machine

/-! ## Holds and the safe state at reset entry -/

/-- A start-up stage holds (R324). -/
def State.holdAt (s : State) (hold : Nat) : State :=
  (s.onRst fun r => { r with hold := hold }).raise .STAGE_HOLD 0xFF hold

/-- The module is in a stage and neither held low, nor holding, nor flushing. -/
def State.inStage (s : State) (k : Nat) : Bool :=
  s.rst.stage == k && s.rst.hold == 0 && !s.rst.held && s.rst.flushing.isNone && !s.die.hold

/-- Both switches of an output pair off. -/
def SafeOut.offNow (o : SafeOut) (t : Nat) : SafeOut :=
  { o with on := false, chgAt := if o.on then t else o.chgAt, sorh := false, sorl := true }

/-- What happens at the entry to every module reset before anything else (R323): gates and choppers off, Garnet stopped with
every safety output off, every axis stopped at once. -/
def State.resetEntry (s : State) : State :=
  let s1 := { s with
    br := s.br.map fun b => { b with latch := true, form := .pblk, enabled := false, window := none }
    chop := s.chop.map fun c => { c with on := false, forced := false, enabled := false }
    garnet := { s.garnet with
      run := false, so := s.garnet.so.map fun o => o.offNow s.up, mo := s.garnet.mo.map fun x => { x with brkSet := true } } }
  forFin 8 (fun k s => if s.axes[k].state = .off then s else s.axisImmediate k false) s1

/-- Every running capture buffer stops at the entry to a warm reset (R446). -/
def State.capsStop (s : State) : State := { s with cap := s.cap.map fun c => { c with run := false } }

/-! ## What a reset keeps (R330) -/

/-- Onyx after a reset: keys and sessions gone, what stands in its NVM and in the VBAT domain kept. -/
def Onyx.reboot (o : Onyx) : Onyx :=
  { Onyx.reset with
    nvmKeys := o.nvmKeys, certOk := o.certOk, provGen := o.provGen, owned := o.owned, ownerId := o.ownerId
    ownerKey := o.ownerKey, oldOwners := o.oldOwners, sealed_ := o.sealed_, zero := o.zero, zlatch := o.zlatch, latch := o.latch
    nowTrip := o.nowTrip, due := o.due, levels := o.levels, zeroing := o.zeroing, release := o.release, zepoch := o.zepoch
    zcellDue := o.zcellDue, fwMin := o.fwMin }

/-- What a reset interrupts is remembered for COMMIT_ABORTED at S9 (R351, R352): a device-built commit starts again with its target;
a new image, being written or waiting, is abandoned. -/
def Commit.reboot (c : Commit) : Commit :=
  let owner := c.owner <|> c.waiting
  let again := (c.again && c.aborted) || (c.step != .idle && c.owner.isNone)
  { Commit.reset with aborted := again || owner.isSome, target := c.target, again := again, owner := owner }

/-- A capture buffer whose DRAM is kept: its frames are marked as preserved. -/
def Cap.keep (c : Cap) : Cap :=
  { Cap.reset with config := c.config, base := c.base, size := c.size, preserved := decide (c.frames ≠ []), frames := c.frames
                   wr := c.wr, count := c.count, trigT := c.trigT, trigged := c.trigged, done := c.done }

/-- The firmware bank that the newest commit record names; 0 without one (log 100). -/
def Nor.fwNow (n : Nor) : Bool := match n.crs.head? with | some r => r.fwBank | none => false

/-- The module right after a reset: reset values everywhere but for what R330 keeps. -/
def State.afterReset (s : State) (cause : RstCause) (rail : BitVec 9) (vb : Vbat) : State :=
  { State.reset with
    pending := s.pending, up := s.up, free := s.free
    nor := s.nor, jrn := s.jrn, slog := { s.slog with broken := false }
    recd := { Recorder.reset with next := if cause = .vbatLost then 0 else s.recd.next }
    vbat := { vb with rstCnt := bump vb.rstCnt }
    onyx := s.onyx.reboot
    com := s.com.reboot
    fw := { Firmware.reset with bank := s.nor.fwNow }
    av := { Avail.reset with
      saved := s.av.saved, snapAt := s.av.snapAt, swLost := cause == .software, newImage := s.img.pend
      cmdRun := if cause = .software then s.av.cmdRun else tbl 4 false }
    clk := { Clocks.reset with lpoQ := vb.lpoQ, trim := vb.trim, cmEarly := !cause.cold && s.clk.cmEarly }
    fab := { Fabric.reset with pin := s.fab.pin, legacy := s.fab.legacy, mode := s.fab.mode }
    rst := { Rst.reset with cause := cause, rail := rail, relAt := s.up }
    cap := if cause.cold then State.reset.cap else s.cap.map Cap.keep
    hist := if cause.cold then State.reset.hist else s.hist }

/-- The module after a reset; an unlocked debug port is locked (R411). -/
def State.rebooted (s : State) (cause : RstCause) (rail : BitVec 9) (vb : Vbat) : State :=
  (s.afterReset cause rail vb).raiseIf s.onyx.dbg.isSome .DEBUG_LOCKED

/-- A cold reset takes effect at once (R321). -/
def State.coldReset (s : State) (cause : RstCause) (rail : BitVec 9) (vb : Vbat) : State :=
  s.resetEntry.rebooted cause rail vb

/-- The counts of availability are journaled (R367). -/
def State.avSnap (s : State) : State :=
  { s.raise .AV_SNAPSHOT with av := { s.av with
    saved := (s.av.insvc, s.av.lost, s.av.excl, s.av.void), snapAt := s.dev } }

/-- A warm reset begins: the safe state of R323, and the flush of the recorder (R321). -/
def State.warmEntry (s : State) (cause : RstCause) : State :=
  let s1 := s.resetEntry.capsStop
  let s2 := if s1.rst.stage = 9 ∨ s1.die.hold then s1.avSnap else s1
  s2.onRst fun r => { r with flushing := some cause }

/-- Nanoseconds to cycles of the 32.768 kHz LPO, with what is left over. -/
def Vbat.advance (v : Vbat) (ns : Nat) : Vbat :=
  let t := v.frac + ns * 32768
  { v with lpo := v.lpo + t / sec, frac := t % sec }

/-- POWER_UP (R321, R320, R429, R416): the main rails rise, `off` nanoseconds after they fell. With the VBAT domain lost its
content is gone, and Onyx has MESH and TEMP to act on; else it acts on those that tripped meanwhile. -/
def State.powerUp (s : State) (vbat : Bool) (off : Nat) (legacy mesh temp : Bool) : State :=
  let vb : Vbat := if vbat then s.vbat.advance off else Vbat.reset
  let s1 := s.coldReset (if vbat then .powerUp else .vbatLost) 0 vb
  let tripM := mesh || !vbat
  let tripT := temp || !vbat
  let o := s1.onyx
  let latch := if vbat then o.latch else tbl 4 false
  { s1 with
    rst := { s1.rst with held := true }
    fab := { s1.fab with pin := legacy, legacy := legacy }
    onyx := { o with
      latch := (latch.set 0 (latch[0] || tripM)).set 3 (latch[3] || tripT)
      zlatch := vbat && o.zlatch
      nowTrip := (o.nowTrip.set 0 mesh).set 3 temp
      due := (o.due.set 0 (o.due[0] || tripM)).set 3 (o.due[3] || tripT) } }

/-- PORN_ASSERT (R321): PORn is driven low. It does not end a thermal hold, which only SRSTn and a power cycle do (R247, log 136). -/
def State.pornAssert (s : State) : State :=
  let s1 := s.coldReset .porn 0 s.vbat
  { s1.onRst (fun r => { r with held := true, hold := if s.die.hold then 7 else 0 }) with die := if s.die.hold then s.die else s1.die }

/-- BROWNOUT (R318, R321): a rail stays below its threshold; the module leaves reset by itself, unless PORn is low. VBAT and no rail outside
R318 causes none. -/
def State.brownout (s : State) (rail : Fin 9) : State :=
  if rail = 8 then s
  else if s.rst.held then (s.coldReset .brownout (1#9 <<< rail.1) s.vbat).onRst fun r => { r with held := true }
  else { s.coldReset .brownout (1#9 <<< rail.1) s.vbat with
    fab := { Fabric.reset with pin := s.fab.pin, legacy := s.fab.pin, mode := s.fab.pin } }.raise .HOST_MODE 0xFF
      (bit 0 s.fab.pin)

/-- SRSTN_PULSE (R321, R247): a warm reset; in thermal hold only once every die channel reads below 8,000. -/
def State.srstn (s : State) : State :=
  if s.rst.held ∨ s.rst.flushing.isSome then s
  else if s.die.hold then
    if (List.finRange 6).all (fun i => decide (s.die.code[i] < 8000)) then s.warmEntry .thermalExit else s
  else s.warmEntry .srstn

/-- A bit of `GATEEN` is set. -/
def State.anyGate (s : State) : Bool :=
  (List.finRange 8).any (fun n => s.br[n].enabled) || (List.finRange 4).any (fun c => s.chop[c].enabled)

/-- SOFTWARE_RESTART (R322): refused with gates enabled and FORCE = 0; ignored with another key. -/
def State.softRestart (s : State) (key : BitVec 16) (force : Bool) : State :=
  if key ≠ 0xA5C3 then s.rejectWrite 0x00010084 (key.toNat * 65536 + bit 1 force + 1)
  else if s.rst.held ∨ s.rst.flushing.isSome then s
  else if s.anyGate ∧ !force then s.raise .RESET_REFUSED
  else s.warmEntry .software

/-- WARM_RESET_FLUSH_DONE (R321): the entries of the recorder are in the journal, and the module starts again from S0. -/
def State.flushDone (s : State) : State :=
  match s.rst.flushing with
  | some c => s.flushRecorder.rebooted c 0 s.vbat
  | none => s

/-- PORN_RELEASE (R324, R429): the level of ORDER_LEGACY is sampled and S0 begins. -/
def State.pornRelease (s : State) (legacy : Bool) : State :=
  if s.rst.held then
    { s with
      rst := { s.rst with held := false, relAt := s.up }
      clk := { s.clk with cmEarly := false }
      fab := { s.fab with pin := legacy, legacy := legacy, mode := legacy } }.raise .HOST_MODE 0xFF (bit 0 legacy)
  else s

/-- S0_RAILS_CONFIRMED (R324): every rail has been above its threshold for 1 ms, or S0 holds with HOLD = 1. -/
def State.railsConfirmed (s : State) (ok : Bool) : State :=
  if s.inStage 0 then
    if ok then s.onRst fun r => { r with stage := 1, ok := r.ok ||| (if r.low.getLsbD 8 then 0x008 else 0x108) }
    else s.holdAt 1
  else s

/-- VBAT_LOW (R318, R320): the comparator of the VBAT domain; the event marks the fall below 2.5 V. -/
def State.vbatLow (s : State) (below : Bool) : State :=
  if below then
    let known := s.rst.low.getLsbD 8 && !s.rst.ok.getLsbD 8
    (s.onRst fun r => { r with low := r.low ||| 0x100, ok := r.ok &&& 0x0FF }).raiseIf (!known) .VBAT_LOW
  else s.onRst fun r => { r with ok := r.ok ||| 0x100 }

/-! ## The management cluster -/

/-- The numbers CFGSEQ of the deltas with staged records, each once. -/
def stagedSeqs (l : List Staged) : List (BitVec 64) := (l.map fun x => x.cfgSeq).dedup

/-- A staged record that a switch under way carries: the fabric completes it without the cluster (R359). -/
def State.inSwitch (s : State) (x : Staged) : Bool :=
  match x.carried with
  | some i => s.shadow[i].state == .switch
  | none => false

/-- Every record still staged is discarded (R346). -/
def State.discardStaged (s : State) : State :=
  let gone := s.img.staged.filter fun x => !s.inSwitch x
  let s1 := s.onImg fun i => { i with staged := i.staged.filter fun x => s.inSwitch x }
  (stagedSeqs gone).foldl (fun s q => s.raise .DELTA_DISCARDED 0xFF 0 (bytesLE 8 q.toNat)) s1

/-- A commit or a new image that a restart of the cluster interrupts: a device-built commit starts again afterwards (R351, R352). -/
def State.abandonCommit (s : State) : State :=
  if s.com.step = .idle then s
  else
    let dev := s.com.owner.isNone
    let s1 : State := { s with com := { Commit.reset with target := s.com.target, again := dev, aborted := true } }
    (s1.raiseIf dev .COMMIT_ABORTED 0xFF 2).raiseIf (!dev || s.com.waiting.isSome) .COMMIT_ABORTED 0xFF 5

/-- Every session closes, and with it any safety unlock (R272, R409). -/
def State.closeSessions (s : State) : State :=
  { s with onyx := { s.onyx with sessions := [] }, garnet := { s.garnet with unlocked := none } }

/-- Shadows that have not reached SWITCH are stopped (R359). -/
def State.abortShadows (s : State) (reason : Nat) : State :=
  forFin 2 (fun i s => match s.shadow[i].state with
    | .prep | .shadow | .ready => s.abortShadow i reason
    | _ => s) s

/-- The management cluster restarts: the fast plane runs on (R2, R3). -/
def State.mgmtDown (s : State) : State :=
  let s1 := ((s.discardStaged.abandonCommit).abortShadows 9).closeSessions
  s1.onRst fun r => { r with mgmtRun := false }

/-- A firmware trial that ends on the old bank (R361). -/
def State.fwRevert (s : State) : State :=
  if s.fw.step = .probation ∨ s.fw.trial then
    { s with fw := { s.fw with bank := s.nor.fwNow, step := .idle, trial := false, pkg := none, repeated := false } }.raise .FW_REVERTED
  else s

/-- MANAGEMENT_RESTART (R3): a crash or a commanded restart; during probation the trial reverts (R361). -/
def State.mgmtRestart (s : State) : State := if s.rst.mgmtRun then s.mgmtDown.fwRevert else s

/-! ## Commands -/

/-- POWER_UP: see `State.powerUp`. -/
def execPowerUp (vbat : Bool) (off : Nat) (legacy mesh temp : Bool) (s : State) : Host.Outcome State Fault Refusal :=
  .next (s.powerUp vbat off legacy mesh temp)

/-- PORN_ASSERT: see `State.pornAssert`. -/
def execPornAssert (s : State) : Host.Outcome State Fault Refusal := .next s.pornAssert

/-- BROWNOUT: see `State.brownout`. -/
def execBrownout (rail : Fin 9) (s : State) : Host.Outcome State Fault Refusal := .next (s.brownout rail)

/-- SRSTN_PULSE: see `State.srstn`. -/
def execSrstnPulse (s : State) : Host.Outcome State Fault Refusal := .next s.srstn

/-- SOFTWARE_RESTART: see `State.softRestart`. -/
def execSoftwareRestart (key : BitVec 16) (force : Bool) (s : State) : Host.Outcome State Fault Refusal :=
  .next (s.softRestart key force)

/-- WARM_RESET_FLUSH_DONE: see `State.flushDone`. -/
def execWarmResetFlushDone (s : State) : Host.Outcome State Fault Refusal := .next s.flushDone

/-- PORN_RELEASE: see `State.pornRelease`. -/
def execPornRelease (legacy : Bool) (s : State) : Host.Outcome State Fault Refusal := .next (s.pornRelease legacy)

/-- S0_RAILS_CONFIRMED: see `State.railsConfirmed`. -/
def execS0RailsConfirmed (ok : Bool) (s : State) : Host.Outcome State Fault Refusal := .next (s.railsConfirmed ok)

/-- VBAT_LOW: see `State.vbatLow`. -/
def execVbatLow (below : Bool) (s : State) : Host.Outcome State Fault Refusal := .next (s.vbatLow below)

/-- MANAGEMENT_RESTART: see `State.mgmtRestart`. -/
def execManagementRestart (s : State) : Host.Outcome State Fault Refusal := .next s.mgmtRestart

end Sys2Proof.Machine
end

