-- ==== Sys2Proof/Machine/Fabric.lean ====
section
/-! DEFINITION. The queue fabric: posts, pops, releases, fences, the transaction tracker, freezing and rebuilding, and moves of
tasks (R277 to R296). -/

namespace Sys2Proof.Machine

/-! ## Counts of a flow (R281) -/

/-- The law of R5 for a flow. -/
def Flow.law (f : Flow) : Prop := f.free + f.buf + f.infl = f.depth

/-- Credits taken: FREE to INFL. -/
def Flow.take (f : Flow) (n : Nat) : Flow := { f with free := f.free - n, infl := f.infl + n }

/-- An item written into the pool with the next number of its flow: INFL to BUF. -/
def Flow.write (f : Flow) (it : Item) : Flow :=
  { f with infl := f.infl - it.len, buf := f.buf + it.len, items := f.items ++ [{ it with seq := f.seq }], seq := f.seq + 1 }

/-- Entries of a list of items. -/
def entries (l : List Item) : Nat := l.foldl (fun n i => n + i.len) 0

/-- Stale items that reach the head are removed: BUF to FREE (R291). -/
def Flow.purge (f : Flow) : Flow :=
  let bad := f.items.takeWhile fun i => i.epoch != f.epoch
  { f with
    items := f.items.dropWhile fun i => i.epoch != f.epoch
    buf := f.buf - entries bad, free := f.free + entries bad, stale := bumpBy f.stale bad.length }

/-- The item that the consumer holds is released: INFL to FREE (R284). -/
def Flow.release (f : Flow) : Flow :=
  match f.held with
  | some i => { f with held := none, infl := f.infl - i.len, free := f.free + i.len }
  | none => f

/-- The head item handed to the consumer, which releases the one it held: BUF to INFL (R284). -/
def Flow.popped (f : Flow) (i : Item) (rest : List Item) : Flow :=
  let g := f.release
  { g with items := rest, held := some i, buf := g.buf - i.len, infl := g.infl + i.len }.purge

/-- A stale item stands in the flow (`FLOWCFG.STALEPEND`). -/
def Flow.stalePend (f : Flow) : Bool := f.items.any fun i => i.epoch != f.epoch

/-- A post that the flow refuses is counted. -/
def Flow.refused (f : Flow) : Flow := { f with refuse := bump f.refuse }

/-- A configured flow that a port may post to now. -/
def Flow.takesFrom (f : Flow) (port : Nat) : Bool :=
  f.plane != .unconf && !f.frozen && (f.prod == port || f.prod2 == port) && port != 63

/-! ## Tasks and their flows (R278, R452) -/

/-- The code of a task, or of a port, in PROD and CONS (R278). -/
def taskCode (t : Nat) : Nat := 1 + t
def portCode (p : Nat) : Nat := 257 + (p - 16)

/-- A flow is produced, or consumed, by a task: an image flow that names it, or a bridge flow of R89. -/
def State.producedBy (s : State) (f : Fin 256) (t : Nat) : Bool :=
  if f.1 < 16 then decide (8 ≤ f.1) && s.conf ⟨f.1 % 8, Nat.mod_lt _ (by decide)⟩
    && t == 8 + s.br[(⟨f.1 % 8, Nat.mod_lt _ (by decide)⟩ : Fin 8)].mo.1
    && !(s.ring.on && s.yes Fld.RING_MEMBER 0 s.br[(⟨f.1 % 8, Nat.mod_lt _ (by decide)⟩ : Fin 8)].mo)
  else if f.1 < 24 then f.1 - 16 == t
  else if f.1 < 252 then s.n Fld.SERVICE_FLOW_PROD 0 f.1 == taskCode t
  else false

def State.consumedBy (s : State) (f : Fin 256) (t : Nat) : Bool :=
  if f.1 < 16 then f.1 % 8 == t
  else if f.1 < 24 then false
  else if f.1 < 252 then s.n Fld.SERVICE_FLOW_CONS 0 f.1 == taskCode t
  else false

/-! ## Posts (R282, R283, R286) -/

/-- Ports that post in order across their flows (R283). -/
def inOrder (port : Nat) : Bool := decide (port < 16) || (decide (24 ≤ port) && decide (port ≤ 29))

/-- The ports of value streams, whose waiting post a newer value replaces (R283). -/
def valueStream (port : Nat) : Bool := decide (17 ≤ port) && decide (port ≤ 20)

/-- A waiting post holds this one back: any earlier one of an in-order port, or one in the same lane (R283); a fence is held back by any
earlier post of its port, and holds back any later one (R286). -/
def heldBack (w : List Post) (port : Nat) (f : Fin 256) (fence : Bool) : Bool :=
  w.any fun p => p.port == port && (inOrder port || p.flow == f || fence || p.item.fence)

/-- A fence of a port that is not written yet. -/
def State.fenceOpen (s : State) (port : Nat) : Bool :=
  (List.finRange 256).any fun g => (s.fab.flows[g].prod == port || s.fab.flows[g].prod2 == port)
    && s.fab.flows[g].ingress.any fun i => i.fence

/-- A post whose credits are there: they are taken, and the item is written at once, or waits in ingress for a fence (R286). In ingress
`seq` marks the memory transactions issued before the post. -/
def State.commitPost (s : State) (p : Post) : State :=
  let wait := p.item.fence || s.fenceOpen p.port
  s.onFlow p.flow fun f =>
    let g := f.take p.item.len
    if wait then { g with ingress := g.ingress ++ [{ p.item with seq := BitVec.ofNat 32 s.fab.nextId }] } else (g.write p.item).purge

/-- A post must wait behind others of its port (R283, R286); a second fence of a port waits until the first is written (log 136). -/
def State.mustWait (s : State) (port : Nat) (f : Fin 256) (fence : Bool) : Bool :=
  heldBack s.fab.waiting port f fence || (fence && s.fenceOpen port)

/-- A post from the new port of a requested move stalls until the boundary (R290). -/
def State.awaitsMove (s : State) (port : Nat) (f : Fin 256) : Bool :=
  s.fab.flows[f].plane != .unconf && !s.fab.flows[f].frozen &&
    s.fab.moves.any fun v => v.engine.1 == port && s.producedBy f v.task

/-- A post at a port (R282, R283): refused by an unconfigured, frozen or unbound flow; waiting behind an earlier post, for
credit or for a move; else carried out. -/
def State.postFrom (s : State) (src port : Nat) (f : Fin 256) (it : Item) : State :=
  let p : Post := ⟨port, f, it, src⟩
  if !s.fab.flows[f].takesFrom port then
    if s.awaitsMove port f then s.onFab fun b => { b with waiting := b.waiting ++ [p] } else s.onFlow f Flow.refused
  else if s.mustWait port f it.fence then
    if valueStream port && s.fab.waiting.any (fun q => q.port == port && q.flow == f) then
      (s.onFab fun b => { b with waiting := b.waiting.map fun q => if q.port == port && q.flow == f then p else q }).onFlow f
        Flow.refused
    else s.onFab fun b => { b with waiting := b.waiting ++ [p] }
  else if it.len ≤ s.fab.flows[f].free then s.commitPost p
  else s.onFab fun b => { b with waiting := b.waiting ++ [p] }

/-- A post of which it does not matter what behind the port made it. -/
def State.post (s : State) (port : Nat) (f : Fin 256) (it : Item) : State := s.postFrom 0 port f it

/-- A waiting post is tried: it keeps waiting, is refused by a flow that froze or was unbound, or goes ahead. -/
def State.retryPost (s : State) (p : Post) : State :=
  let keep := s.onFab fun b => { b with waiting := b.waiting ++ [p] }
  if !s.fab.flows[p.flow].takesFrom p.port then if s.awaitsMove p.port p.flow then keep else s.onFlow p.flow Flow.refused
  else if s.mustWait p.port p.flow p.item.fence ∨ s.fab.flows[p.flow].free < p.item.len then keep
  else s.commitPost p

/-- The waiting posts are tried in order, and those that keep waiting hold back what comes after them. -/
def State.drainPosts (s : State) : State :=
  s.fab.waiting.foldl State.retryPost (s.onFab fun b => { b with waiting := [] })

/-- A memory write that a port of a flow issued before a fence is outstanding. -/
def State.writeOwed (s : State) (fl : Flow) (fence : Item) : Bool :=
  s.fab.txns.any fun t => (t.req == fl.prod || t.req == fl.prod2) && t.write && decide (t.id < fence.seq.toNat)

/-- A fence of which no earlier memory write is outstanding is written; what its port posted after it follows, in post order, and then
what waited for that (R286). -/
def State.fenceWritten (s : State) (f : Fin 256) : State :=
  let fl := s.fab.flows[f]
  match fl.ingress with
  | it :: rest =>
    if it.fence ∧ !s.writeOwed fl it then
      let s1 := s.onFlow f fun g => ({ g with ingress := rest }.write it).purge
      (forFin 256 (fun g s =>
        if s.fab.flows[g].prod = fl.prod ∨ s.fab.flows[g].prod2 = fl.prod then
          s.onFlow g fun h => (h.ingress.foldl Flow.write { h with ingress := [] }).purge
        else s) s1).drainPosts
    else s
  | [] => s

/-! ## What a shadow mirrors (R355) -/

/-- The tasks that a shadow runs (R354). -/
def State.shadowTasks (s : State) (h : Shadow) : List Nat :=
  match h.kind with
  | .move => [h.task]
  | .current => (s.bridges h.mo).map fun n => n.1
  | .outer => [8 + h.mo.1]

/-- The shadow runs beside the live task. -/
def Shadow.runs (h : Shadow) : Bool := h.state == .shadow || h.state == .ready

/-- A mismatch (R356), at a time. -/
def Shadow.mismatch (h : Shadow) (t : Nat) : Shadow :=
  if h.state = .ready then { h with matches_ := 0, mism := bump h.mism, state := .shadow, since := t }
  else { h with matches_ := 0, mism := bump h.mism }

/-- One more copy in the mirror buffer of a flow; the fifth overwrites the oldest and counts as a mismatch. -/
def Shadow.mirrorCopy (h : Shadow) (f t : Nat) : Shadow :=
  let k := ((h.mirror.find? fun x => x.1 == f).map Prod.snd).getD 0
  if k < 4 then { h with mirror := (f, k + 1) :: h.mirror.filter fun x => x.1 != f } else h.mismatch t

/-- An item handed to a live task is copied for its shadow. -/
def State.mirrorItem (s : State) (f : Fin 256) : State :=
  forFin 2 (fun i s =>
    let h := s.shadow[i]
    if h.runs ∧ (s.shadowTasks h).any (fun t => s.consumedBy f t) then s.onShadow i fun h => h.mirrorCopy f s.up else s) s

/-! ## Pops and releases (R284, R295) -/

/-- A pop by a port: EMPTY where the flow is frozen, empty or not its own; else the head item. -/
def State.pop (s : State) (port : Nat) (f : Fin 256) : Option Item × State :=
  let fl := s.fab.flows[f]
  if fl.plane = .unconf ∨ fl.frozen ∨ fl.cons ≠ port ∨ port = 63 then (none, s)
  else match fl.items with
    | [] => (none, s)
    | i :: rest => (some i, (s.onFlow f fun g => g.popped i rest).mirrorItem f)

/-- FABRIC_POP with what ECC finds in the entry (R295): 1 a corrected bit, 2 an error that marks the item POISON. -/
def State.popEcc (s : State) (port : Nat) (f : Fin 256) (ecc : BitVec 2) : State :=
  match s.pop port f with
  | (none, s1) => s1
  | (some _, s1) =>
    if ecc = 1 then s1.onFab fun b => { b with ecc := bump b.ecc }
    else if ecc = 2 then
      ((s1.onFlow f fun g => { g with held := g.held.map fun i => { i with poison := true } }).onFab
        fun b => { b with poison := bump b.poison }).raise .FABRIC_POISON (f.1 % 256)
    else s1

/-- FABRIC_RELEASE: the consumer releases what it holds. -/
def State.releaseItem (s : State) (port : Nat) (f : Fin 256) : State :=
  if s.fab.flows[f].cons = port then s.onFlow f Flow.release else s

/-- Every item of a flow that a consumer pops until EMPTY, oldest first; it keeps holding the last (R79, R284). -/
def State.popAll (s : State) (port : Nat) (f : Fin 256) : List Item × State :=
  (List.range s.fab.flows[f].items.length).foldl (fun (l, s) _ =>
    match s.pop port f with
    | (some i, s1) => (l ++ [i], s1)
    | (none, s1) => (l, s1)) ([], s)

/-! ## The tracker (R287, R288) -/

/-- The slots of a requester (R287). -/
def txnQuota (req : Nat) : Nat :=
  if req < 16 then 4 else if req = 21 ∨ req = 30 then 8 else if 26 ≤ req ∧ req ≤ 29 then 8
  else if req = 24 then 12 else if req = 25 then 4 else 0

/-- Slots in use by a requester. -/
def Fabric.outstanding (b : Fabric) (req : Nat) : Nat := (b.txns.filter fun t => t.req == req).length

/-- A requester may issue now: a slot of its quota is free, and no failed audit stalls it (R287, R294). -/
def Fabric.mayIssue (b : Fabric) (req : Nat) : Bool :=
  decide (b.outstanding req < txnQuota req) && !b.badReq.contains req

/-- A transaction takes a slot. -/
def Fabric.issue (b : Fabric) (t : Txn) : Fabric :=
  let l := b.txns ++ [t]
  { b with txns := l, peak := max b.peak l.length }

/-- MEMORY_TRANSACTION_ISSUE: a slot is taken, or the requester stalls until one of its slots frees. -/
def State.txnIssue (s : State) (req : Nat) (write : Bool) (frame : Option (Fin 8 × Nat)) : State :=
  if txnQuota req = 0 then s
  else
    let t : Txn := ⟨s.fab.nextId, req, write, frame⟩
    s.onFab fun b =>
      let c := { b with nextId := b.nextId + 1 }
      if b.mayIssue req ∧ !b.stalled.any (fun x => x.req == req) then c.issue t else { c with stalled := c.stalled ++ [t] }

/-- The stalled transactions are tried in order; a requester stalled by a failed audit is taken up again once nothing of it is
outstanding (R294). -/
def Fabric.retry (b : Fabric) : Fabric :=
  let b0 := { b with badReq := b.badReq.filter fun r => b.outstanding r != 0 }
  b0.stalled.foldl (fun c t =>
    if c.mayIssue t.req ∧ !c.stalled.any (fun x => x.req == t.req) then c.issue t
    else { c with stalled := c.stalled ++ [t] }) { b0 with stalled := [] }

/-- MEMORY_TRANSACTION_DONE: the slot is freed; a completion after the timeout is discarded (R288). -/
def State.txnDone (s : State) (id : Nat) : State :=
  s.onFab fun b => { b with txns := b.txns.filter fun t => t.id != id }.retry

/-- A capture frame whose write failed is lost: it leaves the buffer, the next frame carries GAP, and CAP_GAP marks the first
loss of a spell (R446). -/
def State.frameLost (s : State) (k : Fin 8) (n : Nat) : State :=
  let spell := s.cap[k].gap
  (s.onCap k fun c => { c with
    frames := c.frames.filter fun x => x.2.seq.toNat != n % 65536, gaps := bump c.gaps, gap := true }).raiseIf (!spell) .CAP_GAP k

/-- TXN_TIMEOUT (R288): the tracker ends the transaction with an error response. -/
def State.txnTimeout (s : State) (id : Nat) : State :=
  match s.fab.txns.find? (fun t => t.id == id) with
  | none => s
  | some t =>
    let s1 := (s.txnDone id).onFab fun b => { b with txnTmo := bump b.txnTmo }
    let s2 := s1.raise .TXN_TIMEOUT t.req
    match t.frame with
    | some (k, n) => s2.frameLost k n
    | none => s2

/-! ## Failed checks (R294, R295) and rebuilding (R296) -/

/-- A flow emptied: its entries dropped, every credit free, its accept epoch kept. -/
def Flow.emptied (f : Flow) : Flow :=
  { f with free := f.depth, buf := 0, infl := 0, items := [], ingress := [], held := none, frozen := false }

/-- Every management-plane flow is rebuilt empty at the management restart (R294); the host's lanes are not emptied (R300), but for one
that has failed. -/
def State.mgmtFlowsEmptied (s : State) : State :=
  s.onFab fun b => { b with flows := b.flows.map fun f => if f.plane = .mgmt ∧ (!f.resv ∨ f.frozen) then f.emptied else f }

/-- The motor objects that depend on a flow, with the reaction (R294). -/
def State.flowMos (s : State) (f : Fin 256) : List (Fin 4) × Reaction :=
  if f.1 < 24 then
    let n : Fin 8 := ⟨f.1 % 8, Nat.mod_lt _ (by decide)⟩
    (if s.conf n then [s.br[n].mo] else [], s.rc Fld.SERVICE_FABREACT 0)
  else
    let mask := BitVec.ofNat 4 (s.n Fld.SERVICE_FLOW_MOMASK 0 f.1)
    ((List.finRange 4).filter (fun m => mask.getLsbD m), s.rc Fld.SERVICE_FLOW_REACT 0 f.1)

/-- A flow fails its check: frozen, reported, and its motor objects or the management cluster react (R294). -/
def State.flowFails (s : State) (f : Fin 256) (kind : Nat) : State :=
  let fl := s.fab.flows[f]
  let s1 := (s.onFlow f fun g => { g with frozen := true }).onFab fun b => { b with jasFail := true, lastFlow := f, lastKind := kind }
  let s2 := s1.raise .FABRIC_CONSERVATION (f.1 % 256) kind
    (bytesLE 2 fl.free ++ bytesLE 2 fl.buf ++ bytesLE 2 fl.infl ++ bytesLE 2 fl.depth)
  match fl.plane with
  | .mgmt => s2.mgmtRestart.mgmtFlowsEmptied
  | .unconf => s2
  | _ => (s.flowMos f).1.foldl (fun s m => s.reactEv m .FABRIC_CONSERVATION f (s2.flowMos f).2) s2

/-- A requester fails the audit of the tracker (R294). -/
def State.trackerFails (s : State) (req free : Nat) : State :=
  (s.onFab fun b => { b with jasFail := true, lastFlow := req, lastKind := 3, badReq := req :: b.badReq }).raise
    .FABRIC_CONSERVATION req 3 (bytesLE 2 free ++ bytesLE 2 (s.fab.outstanding req) ++ bytesLE 2 (txnQuota req))

/-- An upset changes the counts that a flow holds. -/
def State.upsetFlow (s : State) (u : FlowUpset) : State :=
  s.onFlow u.index fun f => { f with free := u.free, buf := u.buf, infl := u.infl }

/-- The audit of the flows in one round of Jasper (R293): each configured flow that is not frozen yet. DEPTH is the image's value held
in ECC SRAM, which no upset reaches. -/
def State.auditFlows (s : State) : State :=
  forFin 256 (fun f s =>
    let fl := s.fab.flows[f]
    if fl.plane ≠ .unconf ∧ !fl.frozen ∧ fl.free + fl.buf + fl.infl ≠ fl.depth then s.flowFails f 1 else s) s

/-- The audit of the tracker: the upset requester's free slots against its quota. -/
def State.auditTracker (s : State) (u : Option FlowUpset) : State :=
  match u with
  | some x =>
    if x.tracker ∧ txnQuota x.index ≠ 0 ∧ x.free + s.fab.outstanding x.index ≠ txnQuota x.index then
      s.trackerFails x.index x.free
    else s
  | none => s

/-- An audit round with the upset, if any, that it is to find. -/
def State.audit (s : State) (u : Option FlowUpset) : State :=
  if !s.fab.run then s
  else
    let s1 := match u with
      | some x => if x.tracker then s else s.upsetFlow x
      | none => s
    s1.auditFlows.auditTracker u

/-- COUNT_PARITY_ERROR (R295): handled as a failed check from the cycle of detection. -/
def State.parityError (s : State) (u : FlowUpset) : State :=
  if u.tracker ∨ s.fab.flows[u.index].plane = .unconf ∨ s.fab.flows[u.index].frozen then s
  else (s.upsetFlow u).flowFails u.index 2

/-- The gates of every bridge of a motor object are off. -/
def State.gatesAreOff (s : State) (m : Fin 4) : Bool := (s.bridges m).all fun n => s.br[n].form == .pblk

/-- Every motor object that a flow names is in PULSE_BLOCK or harder. -/
def State.flowIdle (s : State) (f : Fin 256) : Bool := (s.flowMos f).1.all fun m => s.blocked m || s.gatesAreOff m

/-- FLOW_REBUILD (R296). -/
def State.flowRebuild (s : State) (f : Fin 256) : State :=
  let fl := s.fab.flows[f]
  if fl.frozen ∧ fl.plane ≠ .mgmt ∧ s.flowIdle f then
    ((s.onFlow f Flow.emptied).raise .FLOW_REBUILT (f.1 % 256)).causeGoneAll .FABRIC_CONSERVATION f
  else s.raise .FLOW_CONFIG (f.1 % 256)

/-- FABRIC_COUNTERS_CLEAR: `FABCTL.CNTCLR`. -/
def State.fabClear (s : State) : State :=
  s.onFab fun b => { b with
    txnTmo := .zero, ecc := .zero, poison := .zero, jasFail := false
    flows := b.flows.map fun f => { f with stale := .zero, refuse := .zero } }

/-! ## Tasks and moves (R289 to R292) -/

/-- The port of a task: its loop engine, or none while it is not placed. -/
def State.taskPort (s : State) (t : Nat) : Nat :=
  match (vat s.fab.tasks .reset t).engine with
  | some e => e.1
  | none => 63

/-- The placement epoch of a task. -/
def State.taskEpoch (s : State) (t : Nat) : BitVec 8 := (vat s.fab.tasks .reset t).epoch

/-- A move is refused while a flow that the task produces holds a stale item, has a second producer or is frozen (R292). -/
def State.moveRefused (s : State) (t : Nat) : Bool :=
  (List.finRange 256).any fun f => s.producedBy f t &&
    (s.fab.flows[f].stalePend || s.fab.flows[f].prod2 != 63 || s.fab.flows[f].frozen)

/-- The flows of a task change over to its new engine in one fabric cycle (R290). -/
def State.rebind (s : State) (t : Fin 28) (e : Fin 16) : State :=
  let old := s.taskPort t
  let s1 := s.onFab fun b => { b with
    tasks := vmod b.tasks t fun x => { x with engine := some e, epoch := x.epoch + 1 }
    oldPort := b.oldPort.set t.1 (some old) t.2
    moves := b.moves.filter fun v => v.task != t }
  forFin 256 (fun f s =>
    let p := s.producedBy f t && s.fab.flows[f].plane != .unconf
    let c := s.consumedBy f t && s.fab.flows[f].plane != .unconf
    let s2 := if p then s.onFlow f fun g => { g with epoch := g.epoch + 1, prod := e, prod2 := old }.purge else s
    if c then s2.onFlow f fun g => { g.release with cons := e } else s2) s1

/-- MIGRATION_BOUNDARY (R290, R292): the requested move of a task is carried out, or refused with no change. -/
def State.migrate (s : State) (t : Fin 28) : State :=
  match s.fab.moves.find? (fun v => v.task == t) with
  | none => s
  | some v =>
    if s.moveRefused t then
      (s.onFab fun b => { b with moves := b.moves.filter fun v => v.task != t }).raise .MIGRATE_REFUSED t
    else (s.rebind t v.engine).drainPosts

/-- FLOW_MIGRATED (R290): the run of the old placement has ended; its port is unbound. -/
def State.migrated (s : State) (t : Fin 28) : State :=
  match s.fab.oldPort[t] with
  | none => s
  | some _ =>
    let s1 := s.onFab fun b => { b with oldPort := b.oldPort.set t.1 none t.2 }
    let s2 := (forFin 256 (fun f s => if s.producedBy f t then s.onFlow f fun g => { g with prod2 := 63 } else s) s1).raise
      .FLOW_MIGRATED t
    forFin 2 (fun i s =>
      let h := s.shadow[i]
      let busy := (s.shadowTasks h).any fun t => (vat s.fab.oldPort none t).isSome
      if h.state = .done ∧ !busy then s.onShadow i fun h => { h with state := .idle } else s) s2

/-! ## The comparison of a shadow (R356) -/

/-- A period's output compared: a match counts, and SHNMATCH of them in a row make the shadow READY; a mismatch starts anew. -/
def State.shadowJudge (s : State) (i : Fin 2) (d tol : Rat) : State :=
  let s1 := s.onShadow i fun h => { h with maxd := maxQ h.maxd d, mirror := [] }
  if tol < d then s1.onShadow i fun h => h.mismatch s.up
  else
    let s2 := s1.onShadow i fun h => { h with matches_ := h.matches_ + 1 }
    if s2.shadow[i].state = .shadow ∧ s.n Fld.SERVICE_SHNMATCH 0 ≤ (s2.shadow[i]).matches_ then
      (s2.onShadow i fun h => { h with state := if s.yes Fld.SERVICE_SHAUTO 0 then .switch else .ready, tries := 0, since := s.up }).raise .SHADOW_READY i
    else s2

/-- A shadow of KIND MOVE runs the same program on the same inputs: its outputs match in every period of the task. -/
def State.shadowMove (s : State) (t : Nat) : State :=
  forFin 2 (fun i s =>
    let h := s.shadow[i]
    if h.runs ∧ h.kind = .move ∧ h.task = t then s.shadowJudge i 0 0 else s) s

/-! ## Commands -/

/-- An item as a port posts it: LEN of 1 to 4 entries, a FENCE of one. -/
def itemOf (len : Fin 4) (fence : Bool) (epoch : BitVec 8) (payload : List Byte) : Item :=
  ⟨if fence then 1 else len.1 + 1, fence, false, epoch, 0, payload⟩

/-- FABRIC_POST (R282): a port posts an item to a flow. -/
def execFabricPost (port : Fin 64) (f : Fin 256) (len : Fin 4) (fence : Bool) (epoch : BitVec 8) (payload : List Byte)
    (s : State) : Host.Outcome State Fault Refusal :=
  .next (s.post port f (itemOf len fence epoch payload))

/-- POST_CREDIT_AVAILABLE (R282): credit has returned to a flow, and the waiting posts are checked again. -/
def execPostCreditAvailable (_f : Fin 256) (s : State) : Host.Outcome State Fault Refusal := .next s.drainPosts

def execFabricPop (port : Fin 64) (f : Fin 256) (ecc : BitVec 2) (s : State) : Host.Outcome State Fault Refusal :=
  .next (s.popEcc port f ecc)
def execFabricRelease (port : Fin 64) (f : Fin 256) (s : State) : Host.Outcome State Fault Refusal :=
  .next (s.releaseItem port f)
def execFenceWritten (f : Fin 256) (s : State) : Host.Outcome State Fault Refusal := .next (s.fenceWritten f)
def execMemoryTransactionIssue (req : Fin 64) (write : Bool) (s : State) : Host.Outcome State Fault Refusal :=
  .next (s.txnIssue req write none)
def execMemoryTransactionDone (id : Nat) (s : State) : Host.Outcome State Fault Refusal := .next (s.txnDone id)
def execTxnTimeout (id : Nat) (s : State) : Host.Outcome State Fault Refusal := .next (s.txnTimeout id)
def execMigrationBoundary (t : Fin 28) (s : State) : Host.Outcome State Fault Refusal := .next (s.migrate t)
def execFlowMigrated (t : Fin 28) (s : State) : Host.Outcome State Fault Refusal := .next (s.migrated t)
def execCountParityError (u : FlowUpset) (s : State) : Host.Outcome State Fault Refusal := .next (s.parityError u)
def execFlowRebuild (f : Fin 256) (s : State) : Host.Outcome State Fault Refusal := .next (s.flowRebuild f)
def execFabricCountersClear (s : State) : Host.Outcome State Fault Refusal := .next s.fabClear

/-- HOST_FLOW_POST (R297): in native mode the host writes the last byte of an item in the post window of a flow. -/
def execHostFlowPost (f : Fin 256) (len : Fin 4) (fence : Bool) (epoch : BitVec 8) (payload : List Byte) (s : State) :
    Host.Outcome State Fault Refusal :=
  .next (if s.fab.mode then s else s.post 24 f (itemOf len fence epoch payload))

/-- HOST_FLOW_READ (R297): a read of the read window pops the head item. -/
def execHostFlowRead (f : Fin 256) (s : State) : Host.Outcome State Fault Refusal :=
  .next (if s.fab.mode then s else (s.pop 24 f).2)

end Sys2Proof.Machine
end

