-- ==== Sys2Proof/Machine/Arm.lean ====
section
/-! DEFINITION. Arming (R27): its conditions, its evaluation, and the ARM and DISARM commands. -/

namespace Sys2Proof.Machine

/-- The inputs that the bridges and the loop of a motor object name (R27, R54, R57). -/
def State.moInputs (s : State) (m : Fin 4) : List Nat :=
  (s.bridges m).flatMap s.inputsOf ++ [s.n Fld.LOOP_TPIN m, s.n Fld.LOOP_SHKPIN m].filterMap ainOf

/-- A bridge or loop of the motor object names an input of a cell. -/
def State.usesCell (s : State) (m : Fin 4) (c : Nat) : Bool := (s.moInputs m).any fun i => i / 12 == c

/-- A bridge or loop of an armed motor object names an input of the cell (R54, R57). -/
def State.cellInUse (s : State) (c : Nat) : Bool := (List.finRange 4).any fun m => s.armed[m] && s.usesCell m c

/-- The tasks of the motor object that exist are placed (R91, R466). -/
def State.tasksPlaced (s : State) (m : Fin 4) : Bool :=
  (List.finRange 28).all fun t => !(s.fab.tasks[t].wanted && s.taskMo t == some m) || s.fab.tasks[t].engine.isSome

/-- Every cell that the motor object names has completed a full calibration. -/
def State.cellsCalibrated (s : State) (m : Fin 4) : Bool :=
  (List.finRange 8).all fun c => !s.usesCell m c || s.cells[c].calibrated

/-- The first condition of R27 that does not hold, by the AUX of its table; 0 where all but the command hold. -/
def State.unmet (s : State) (m : Fin 4) : Nat :=
  if s.bridges m = [] ∨ s.mapBad[m] then 1
  else if !s.tasksPlaced m then 2
  else if s.badChk[m] then 3
  else if !s.cellsCalibrated m then 4
  else 0

/-- The unit under which the block of an unarmed motor object stands in the list of requests. -/
def unarmedUnit : Nat := 24

/-- The conditions are evaluated for every motor object. An unarmed one keeps its gates at the off level: where they are on, it is
blocked until it is armed again (log 120). -/
def State.armNow (s : State) : State :=
  let now : Vector Bool 4 := vgen 4 fun m => s.unmet m == 0 && !s.disarmed[m]
  forFin 4 (fun m t =>
    if now[m] then (if s.armed[m] then t else t.dropOwn m unarmedUnit)
    else if s.armed[m] && (s.bridges m).any (fun n => s.br[n].form != .pblk) then t.react m ⟨none, unarmedUnit, .pulseBlock, true, true⟩
    else t) { s with armed := now }

/-- The conditions are evaluated, from the end of S8 on (R27). -/
def State.evalArm (s : State) : State := if s.rst.stage < 9 then s else s.armNow

/-- The start machine is IDLE and every feeding bridge is in PULSE_BLOCK. -/
def State.atRestOff (s : State) (m : Fin 4) : Bool :=
  s.start[m].state == .idle && (s.feeding m).all fun n => s.br[n].form == .pblk

/-- `CMDCTL.ARM`: arms the motor object when the conditions hold. Before S9, where the conditions are not evaluated, it is refused with
the first unmet condition, and with AUX 3 where all hold: the table of R27 has none for that case (DESIGN CHOICE, log 120). -/
def State.armCmd (s : State) (m : Fin 4) : State :=
  let u := s.unmet m
  if s.rst.stage < 9 ∨ u ≠ 0 then s.raise .ARM_REFUSED m (if u = 0 then 3 else u)
  else ({ s with disarmed := s.disarmed.set m false }).evalArm

/-- `CMDCTL.DISARM`: disarms a motor object at rest with its gates off. -/
def State.disarmCmd (s : State) (m : Fin 4) : State :=
  if s.atRestOff m then ({ s with disarmed := s.disarmed.set m true, armed := s.armed.set m false })
  else s.raise .ARM_REFUSED m 5

/-- ARM_COMMAND (R27): see `State.armCmd`. -/
def execArmCommand (m : Fin 4) (s : State) : Host.Outcome State Fault Refusal := .next (s.armCmd m)

/-- DISARM_COMMAND (R27): see `State.disarmCmd`. -/
def execDisarmCommand (m : Fin 4) (s : State) : Host.Outcome State Fault Refusal := .next (s.disarmCmd m)

end Sys2Proof.Machine
end

