-- ==== Sys2Proof/Machine/Cells.lean ====
section
/-! DEFINITION. Measurement cells (chapter 02): sequences and triggers, conversions, the reference, calibration and the
housekeeping scan with what acts on it (R244, R245, R318). Control cells are numbered 0 to 7 and the HK cell 8. -/

namespace Sys2Proof.Machine

/-! ## Sequencers -/

/-- Sequencer SQ[k] of a cell; the HK cell has only SQ[1]. -/
def State.seq (s : State) (c k : Nat) : Sequencer :=
  if c = 8 then s.hk.sq else vat (vat s.cells .reset c).sq .reset k

/-- A change of a sequencer. -/
def State.onSeq (s : State) (c k : Nat) (f : Sequencer → Sequencer) : State :=
  if c = 8 then { s with hk := { s.hk with sq := f s.hk.sq } }
  else { s with cells := vmodN s.cells c fun x => { x with sq := vmodN x.sq k f } }

/-- A control cell by number. -/
def State.cell (s : State) (c : Nat) : Cell := vat s.cells .reset c

/-- A change of a control cell by number. -/
def State.onCellN (s : State) (c : Nat) (f : Cell → Cell) : State := { s with cells := vmodN s.cells c f }

/-- The sequencer exists: four in a control cell, SQ[1] in the HK cell (R39, R63). -/
def seqExists (c k : Nat) : Bool := decide (c < 8 ∧ k < 4) || decide (c = 8 ∧ k = 1)

/-- The reference of the cell is ready; that of the HK cell is on from S1 (R53). -/
def State.refReady (s : State) (c : Nat) : Bool := if c = 8 then decide (1 ≤ s.rst.stage) else (s.cell c).rdy

/-- A full calibration is accepted or running (R48, R56). -/
def State.calibrating (s : State) (c : Nat) : Bool := decide (c < 8) && ((s.cell c).fullPend || (s.cell c).offline)

/-- Device time a span of nanoseconds from now. -/
def State.devIn (s : State) (d : Rat) : Nat := (s.dev + BitVec.ofInt 64 d.floor).toNat

/-- A sequence begins at entry 0, which is held at that device time. -/
def SeqRun.begin_ (hold : Nat) (late : Bool) : SeqRun := { SeqRun.idle with active := true, late := late, hold := hold }

/-- The sequence is in continuous mode (R45). -/
def State.continuous (s : State) (c k : Nat) : Bool := s.n Fld.CELL_SQ_MODE c k = 1

/-- The acquisition of an entry that follows a conversion phase of its converter (R41). -/
def acqAfter (tacq : Nat) : Nat := max tacq 100

/-- The hold of regular entry 0 that acquires afresh from now on. -/
def State.freshHold (s : State) (c k : Nat) : Nat := s.devIn (acqAfter (s.n Fld.CELL_SQ_E_TACQ c k 0))

/-- The regular sequence begins on a trigger whose edge falls `ofs` ns from now. Entry 0 is held 5 ns after the edge, the latest that
R42 allows (log 128), where its input has been tracked for t_acq by then; else when it has, with LATE. -/
def State.startReg (s : State) (c k : Nat) (ofs : Rat) : State :=
  let edge := ofs + 5
  let ready : Rat := ((s.seq c k).track : Rat) + s.n Fld.CELL_SQ_E_TACQ c k 0 - s.up
  s.onSeq c k fun q => { q with reg := SeqRun.begin_ (s.devIn (maxQ edge ready)) (decide (edge < ready)), regPend := false }

/-- Continuous sequences of a cell that can convert begin at entry 0 (R45, R56 step 5). -/
def State.startContinuous (s : State) (c : Nat) : State :=
  (List.range 4).foldl (fun s k =>
    let q := s.seq c k
    if seqExists c k ∧ s.continuous c k ∧ s.n Fld.CELL_SQ_LEN c k ≠ 0 ∧ !q.reg.active ∧ !q.inj.active ∧ q.conv.isSome
        ∧ s.refReady c ∧ !s.calibrating c then
      s.onSeq c k fun q => { q with reg := SeqRun.begin_ (s.freshHold c k) false, regPend := false }
    else s) s

/-- An item of the sequencer waits in a lane for credit (R283). -/
def State.seqWaits (s : State) (c k : Nat) : Bool := s.fab.waiting.any fun p => p.src == 4 * c + k + 1

/-! ## Trigger outcomes of R48 -/

/-- A trigger that is not converted: `TRGMISS` counts, and the first count is an event. -/
def State.trgMissed (s : State) (c : Nat) : State :=
  if c = 8 then
    ({ s with hk := { s.hk with trgMiss := bump s.hk.trgMiss, missSeen := true } }).raiseIf (!s.hk.missSeen) .TRG_MISSED c
  else
    (s.onCellN c fun x => { x with trgMiss := bump x.trgMiss, missSeen := true }).raiseIf (!(s.cell c).missSeen) .TRG_MISSED c

/-- A regular trigger that is discarded. -/
def State.regOverrun (s : State) (c : Nat) : State :=
  if c = 8 then
    ({ s with hk := { s.hk with regOvr := bump s.hk.regOvr, regOvrSeen := true } }).raiseIf (!s.hk.regOvrSeen) .REG_OVERRUN c
  else
    (s.onCellN c fun x => { x with regOvr := bump x.regOvr, regOvrSeen := true }).raiseIf (!(s.cell c).regOvrSeen)
      .REG_OVERRUN c

/-- An urgent trigger that is rejected. -/
def State.injMissed (s : State) (c : Nat) : State :=
  (s.onCellN c fun x => { x with injMiss := bump x.injMiss, injMissSeen := true }).raiseIf (!(s.cell c).injMissSeen)
    .INJ_MISSED c

/-- An urgent trigger that is discarded. -/
def State.injOverrun (s : State) (c : Nat) : State :=
  (s.onCellN c fun x => { x with injOvr := bump x.injOvr, injOvrSeen := true }).raiseIf (!(s.cell c).injOvrSeen)
    .INJ_OVERRUN c

/-- A regular trigger reaches a sequencer, its edge `ofs` ns from now (R45, R48, R283). One that comes while an injected sequence holds up
an unfinished regular one fits two rows of R48; it counts as an overrun (DESIGN CHOICE, log 128). -/
def State.regTrigger (s : State) (c k : Nat) (ofs : Rat := 0) : State :=
  let q := s.seq c k
  if !seqExists c k ∨ s.n Fld.CELL_SQ_LEN c k = 0 ∨ s.continuous c k then s
  else if q.conv.isNone ∨ !s.refReady c ∨ s.calibrating c then s.trgMissed c
  else if q.reg.active ∨ q.regPend ∨ s.seqWaits c k then s.regOverrun c
  else if q.inj.active then s.onSeq c k fun q => { q with regPend := true }
  else s.startReg c k ofs

/-- An urgent trigger reaches a sequencer, its edge `ofs` ns from now (R47, R48): it preempts the running regular entry, whose partial
result is discarded and which is converted again; entry 0 is then held late. Injected entry 0 is held 20 ns and its acquisition after the
edge. -/
def State.urgTrigger (s : State) (c k : Nat) (ofs : Rat := 0) : State :=
  let q := s.seq c k
  if 8 ≤ c ∨ s.n Fld.CELL_SQ_ILEN c k = 0 then s
  else if s.calibrating c then s.injMissed c
  else if !s.refReady c then s.trgMissed c
  else if q.conv.isNone then s.injMissed c
  else if q.inj.active then s.injOverrun c
  else s.onSeq c k fun q => { q with
    inj := SeqRun.begin_ (s.devIn (ofs + 20 + acqAfter (s.n Fld.CELL_SQ_I_TACQ c k 0))) false
    reg := if q.reg.active then
        { q.reg with sample := 0, acc := 0, ovr := false, sus := false, rerun := true, late := q.reg.late || q.reg.entry == 0 }
      else q.reg }

/-- A bridge drives a common trigger (R43). -/
def State.ctrigDriven (s : State) (j : Nat) : Bool :=
  (List.finRange 8).any fun n => s.conf n && s.n Fld.BRIDGE_CTRIG (s.recOf n) == j + 1

/-- A software urgent trigger (R47): it acts where UTRIG is SW, or names a common trigger that no bridge drives (R44, log 128). -/
def State.swUrgent (s : State) (c k : Nat) : State :=
  let u := s.n Fld.CELL_SQ_UTRIG c k
  if u = 5 ∨ (u < 4 ∧ !s.ctrigDriven u) then s.urgTrigger c k else s

/-- A common trigger fires, its edge `ofs` ns from now: urgent sequences that name it, then regular ones, which are pending where the
same edge started an injected sequence (R43, R47, R48). -/
def State.ctrigEdge (s : State) (j : Nat) (ofs : Rat) : State :=
  let each (f : Nat → Nat → State → State) (s : State) : State :=
    (List.range 36).foldl (fun s x => f (x / 4) (x % 4) s) s
  let s1 := each (fun c k s => if c < 8 ∧ s.n Fld.CELL_SQ_UTRIG c k = j then s.urgTrigger c k ofs else s) s
  each (fun c k s => if s.n Fld.CELL_SQ_TRIG c k = j then s.regTrigger c k ofs else s) s1

/-- A level-1 crossing of an input is the urgent trigger of the sequencers that name it (R47, R223). -/
def State.cmpTrigger (s : State) (i : Nat) : State :=
  (List.range 4).foldl (fun s k =>
    if s.n Fld.CELL_SQ_UTRIG (i / 12) k = 4 ∧ s.n Fld.CELL_SQ_UCMP (i / 12) k = i % 12 then s.urgTrigger (i / 12) k else s) s

/-! ## Conversions (R40 to R52) -/

/-- The code range of an input of a cell (R40). -/
def State.codeRange (s : State) (c i : Nat) : Int × Int :=
  if c < 8 ∧ s.n Fld.CELL_INMODE c i = 1 then (-8192, 8191) else (0, 16383)

/-- The window is open at a time. -/
def RailWindow.covers (w : RailWindow) (t : Nat) : Bool := decide (w.from_ ≤ t) && (w.open_ || decide (t ≤ w.at_))

/-- A sample of an input of a control cell, held at a time, is suspect for another input's rail window (R52). -/
def railSuspect (x : Cell) (i t : Nat) : Bool :=
  (List.finRange 12).any fun j => j.1 != i && (match x.window[j] with | some w => w.covers t | none => false)

/-- One sample added to the entry under way (R49, R50); the result is written to `work` after the last one. -/
def SeqRun.sampled (r : SeqRun) (cvt avg shift : Nat) (code : Int) (beyond sus : Bool) : SeqRun :=
  let acc := r.acc + code
  let ovr := r.ovr || beyond
  let su := r.sus || sus
  if r.sample + 1 < 2 ^ avg then { r with acc := acc, ovr := ovr, sus := su, sample := r.sample + 1 }
  else
    { r with
      acc := 0, ovr := false, sus := false, rerun := false, sample := 0, entry := r.entry + 1
      work := vmodN r.work r.entry fun _ =>
        { fresh := true, ovr := ovr, suspect := su, rerun := r.rerun, late := r.late && r.entry == 0, cv := cvt
          value := acc / (2 : Int) ^ shift } }

/-- The beyond-range event of an input, once after a clean conversion (R51); HK channel i is unit 96 + i (log 128). -/
def State.noteResult (s : State) (c i : Nat) (r : AdcRes) : State :=
  let was := if 8 ≤ c then vat s.hk.clean true i else vat (s.cell c).clean true i
  let clean := if r.ovr then false else if r.suspect then was else true
  let s1 := if 8 ≤ c then { s with hk := { s.hk with clean := vmodN s.hk.clean i fun _ => clean } }
    else s.onCellN c fun x => { x with clean := vmodN x.clean i fun _ => clean }
  s1.raiseIf (r.ovr && was) .ANA_OVR (if 8 ≤ c then 96 + i else 12 * c + i)

/-- The sequencer that a converter is bound to (R38). -/
def State.seqOf (s : State) (c v : Nat) : Option Nat :=
  (List.range 4).find? fun k => seqExists c k && (s.seq c k).conv.any fun w => w.1 == v

/-- SAMPLE_CONVERSION_DONE: a converter delivers the code of one sample, not yet clamped. It belongs to the injected sequence
of its sequencer, else to the regular one. While a full calibration is pending, a regular sequence starts no further conversion (R56
step 2). -/
def State.sampleDone (s : State) (c v : Nat) (raw : Int) : State :=
  match s.seqOf c v with
  | none => s
  | some k =>
    let q := s.seq c k
    let isInj := q.inj.active
    let r := if isInj then q.inj else q.reg
    let len := if isInj then s.n Fld.CELL_SQ_ILEN c k else s.n Fld.CELL_SQ_LEN c k
    if !r.active ∨ len ≤ r.entry ∨ (c < 8 ∧ (s.cell c).offline) then s
    else
      let i := if isInj then s.n Fld.CELL_SQ_I_IN c k r.entry else s.n Fld.CELL_SQ_E_IN c k r.entry
      let avg := if isInj then s.n Fld.CELL_SQ_I_AVG c k r.entry else s.n Fld.CELL_SQ_E_AVG c k r.entry
      let shift := if isInj then s.n Fld.CELL_SQ_I_SHIFT c k r.entry else s.n Fld.CELL_SQ_E_SHIFT c k r.entry
      let (lo, hi) := s.codeRange c i
      let beyond := decide (raw < lo) || decide (hi < raw)
      let mark := if c = 8 then s.hk.susNext else (vat (s.cell c).cv .reset v).susNext
      let sus := mark || (decide (c < 8) && (railSuspect (s.cell c) i (s.up - 150) || !(s.cell c).calibrated))
      let r2 := r.sampled v avg shift (clampI lo hi raw) beyond sus
      let stop := decide (c < 8) && (s.cell c).fullPend && decide (r2.entry < len)
      let s1 := s.onSeq c k fun q => if isInj then { q with inj := r2 } else { q with reg := if stop then .idle else r2 }
      let s2 := if c = 8 then { s1 with hk := { s1.hk with susNext := beyond } }
        else s1.onCellN c fun x => { x with cv := vmodN x.cv v fun y => { y with susNext := beyond } }
      if r2.entry = r.entry then s2 else s2.noteResult c i (vat r2.work .reset r.entry)

/-- The bytes of an item of results: the stamp, and 16 words of results, those beyond the sequence 0 (R46, R280, log 128). -/
def resultBytes (stamp : Nat) (l : List AdcRes) : List Byte :=
  bytesLE 8 stamp ++ (List.range 16).flatMap fun e => match l[e]? with
    | some r => bytesLE 4
        (word [sfld 0 22 r.value, fld 24 3 r.cv, bit 27 r.late, bit 28 r.rerun, bit 29 r.suspect, bit 30 r.ovr]).toNat
    | none => bytesLE 4 0

/-- The tasks that read one of the inputs of a cell: the outer loop at TPIN, the shock detector at SHKPIN. -/
def State.pinTasks (s : State) (c : Nat) (ins : List Nat) : List Nat :=
  let reads (f : Field) (m : Fin 4) : Bool := match ainOf (s.n f m) with
    | some i => i / 12 == c && ins.contains (i % 12)
    | none => false
  (List.finRange 4).flatMap fun m =>
    (if reads Fld.LOOP_TPIN m then [8 + m.1] else []) ++ if reads Fld.LOOP_SHKPIN m then [12 + m.1] else []

/-- The image flow through which the analog result port feeds a consumer is for a sequence (R46, R89): its consumer reads a pin of the
sequence; a sequence that no pin names goes to every consumer that reads no pin at all (DESIGN CHOICE, log 128). -/
def State.seqFlow (s : State) (c : Nat) (ins : List Nat) (f : Nat) : Bool :=
  let cons := s.n Fld.SERVICE_FLOW_CONS 0 f
  let mine := (s.pinTasks c ins).map taskCode
  let all := (List.range 8).flatMap fun d => (s.pinTasks d (List.range 12)).map taskCode
  decide (24 ≤ f ∧ f < 252) && s.n Fld.SERVICE_FLOW_PROD 0 f == portCode 16 && cons != 0 &&
    (if mine.isEmpty then !all.contains cons else mine.contains cons)

/-- The item of a sequence goes to the measurement flow of every bridge that names one of its inputs; where none does, to the flow that the
image gives its consuming task (R46, R79, R89). -/
def State.postResults (s : State) (c k : Nat) (ins : List Nat) (bytes : List Byte) : State :=
  let put (f : Fin 256) (s : State) : State := s.postFrom (4 * c + k + 1) 16 f (itemOf 1 false s.fab.flows[f].epoch bytes)
  let named (n : Fin 8) : Bool := s.conf n && (s.inputsOf n).any fun i => i / 12 == c && ins.contains (i % 12)
  if (List.finRange 8).any named then forFin 8 (fun n s => if named n then put ⟨n.1, by omega⟩ s else s) s
  else forFin 256 (fun f t => if s.seqFlow c ins f then put f t else t) s

/-- REGULAR_SEQUENCE_DONE (R46): results and stamp are stored and posted; a continuous sequence wraps to entry 0, and an idle one tracks it
(R42, R45). -/
def State.regDone (s : State) (c k : Nat) : State :=
  let q := s.seq c k
  let len := s.n Fld.CELL_SQ_LEN c k
  if !seqExists c k ∨ !q.reg.active ∨ q.reg.entry < len then s
  else
    let out := (List.range len).map fun e => vat q.reg.work .reset e
    let s1 := s.onSeq c k fun q => { q with
      res := vgen 16 fun e => if e.1 < len then q.reg.work[e] else q.res[e]
      stamp := q.reg.hold, track := s.up
      reg := if s.continuous c k && !s.calibrating c then SeqRun.begin_ (s.freshHold c k) false else .idle }
    s1.postResults c k ((List.range len).map fun e => s.n Fld.CELL_SQ_E_IN c k e) (resultBytes q.reg.hold out)

/-- What the regular sequence does when the injected one has ended: the interrupted one goes on, a pending one begins with LATE, and
neither does while a full calibration is accepted (R47, R48, R56). -/
def State.regAfter (s : State) (c k : Nat) : SeqRun :=
  let q := s.seq c k
  if s.calibrating c then .idle
  else if q.regPend then SeqRun.begin_ (s.freshHold c k) true
  else if q.reg.active ∧ q.reg.entry = 0 then { q.reg with hold := s.freshHold c k }
  else q.reg

/-- INJECTED_SEQUENCE_DONE (R46, R47, R48): results are stored and posted, and the regular sequence goes on. -/
def State.injDone (s : State) (c k : Nat) : State :=
  let q := s.seq c k
  let len := s.n Fld.CELL_SQ_ILEN c k
  if 8 ≤ c ∨ !q.inj.active ∨ q.inj.entry < len then s
  else
    let out := (List.range len).map fun e => vat q.inj.work .reset e
    let s1 := s.onSeq c k fun q => { q with
      injRes := vgen 4 fun e => if e.1 < len then vat q.inj.work .reset e else q.injRes[e]
      injStamp := q.inj.hold
      inj := .idle, regPend := false, track := s.up
      reg := s.regAfter c k }
    (s1.postResults c k ((List.range len).map fun e => s.n Fld.CELL_SQ_I_IN c k e) (resultBytes q.inj.hold out)).startContinuous c

/-- CELL_COUNTERS_CLEAR: `CELLCTL.CNTCLR`. -/
def State.cellClear (s : State) (c : Nat) : State :=
  if c = 8 then { s with hk := { s.hk with trgMiss := .zero, regOvr := .zero, regOvrSeen := false } }
  else s.onCellN c fun x => { x with
    trgMiss := .zero, injMiss := .zero, regOvr := .zero, injOvr := .zero, regOvrSeen := false, injOvrSeen := false }

/-! ## Rail clamps (R52) -/

/-- RAIL_CLAMP_SET: an input goes more than 0.3 V beyond a rail, or returns; ORAIL follows it. The window opens with ORAIL, and one still
open runs on. -/
def State.railSet (s : State) (i : Fin 96) (beyond : Bool) : State :=
  let c := i.1 / 12
  let was := vat (s.cell c).orail false (i.1 % 12)
  let turn (w : Option RailWindow) : Option RailWindow :=
    let x := w.getD ⟨false, 0, 0⟩
    if beyond ∧ !was then some (if x.open_ then x else ⟨true, s.up, s.up⟩)
    else if !beyond ∧ was then some { x with at_ := s.up }
    else w
  (s.onCellN c fun x => { x with
    orail := vmodN x.orail (i.1 % 12) fun _ => beyond
    window := vmodN x.window (i.1 % 12) turn }).raiseIf (beyond && !was) .ANA_ORAIL i

/-- RAIL_WINDOW_CLOSE: the window of an input closes 2.000 µs after its ORAIL has cleared. -/
def State.railClose (s : State) (i : Fin 96) : State :=
  let c := i.1 / 12
  if vat (s.cell c).orail false (i.1 % 12) then s
  else s.onCellN c fun x => { x with window := vmodN x.window (i.1 % 12) fun w => w.map fun y =>
    if y.open_ ∧ y.at_ + 2 * us ≤ s.up then { y with open_ := false, at_ := y.at_ + 2 * us } else y }

/-! ## Calibration (R56 to R62) -/

/-- The last answer to a calibration command. -/
def State.calAnswer (s : State) (c k : Nat) : State :=
  if c = 8 then { s with hk := { s.hk with calLast := k } } else s.onCellN c fun x => { x with calLast := k }

/-- A rejected calibration command. -/
def State.calReject (s : State) (c : Nat) : State := (s.calAnswer c 3).raise .CAL_REJECTED c

/-- A background round is aborted: the spare's unfinished factors are discarded (R60). -/
def State.bgAbort (s : State) (c : Nat) : State :=
  if (s.cell c).bgAct then
    (s.onCellN c fun x => { x with
      bgAct := false
      cv := x.cv.map fun v => if v.role = .calibrating then { v with role := .spare } else v }).raise .BGCAL_ABORTED c
  else s

/-- A full calibration is accepted (R56 step 1). -/
def State.fullAccept (s : State) (c : Nat) : State :=
  (s.bgAbort c).onCellN c fun x => { x with calLast := 1, fullPend := true, missSeen := false, injMissSeen := false }

/-- FULL_CALIBRATION_COMMAND: `CALCMD.CMD` = 1. -/
def State.fullCommand (s : State) (c : Nat) : State :=
  if 8 ≤ c ∨ !(s.cell c).rdy ∨ s.calibrating c then s.calReject c
  else if s.cellInUse c then (s.calAnswer c 2).raise .CAL_BUSY c
  else s.fullAccept c

/-- CALIBRATION_DRAIN_DONE (R56 steps 2 and 3): with the injected sequences finished the cell goes offline; its sequences are to restart at
entry 0. -/
def State.calDrained (s : State) (c : Nat) : State :=
  if (s.cell c).fullPend ∧ (s.cell c).sq.toList.all fun q => !q.inj.active then
    s.onCellN c fun x => { x with
      fullPend := false, offline := true
      cv := x.cv.map fun v => { v with role := .calibrating }
      sq := x.sq.map fun q => { q with reg := .idle, inj := .idle, regPend := false } }
  else s

/-- The factory window (R61): the offset in 1/16 LSB, the gain, and each mismatch in 1/64 LSB. -/
def factorsOk (off : Int) (gain : Rat) (mis : Vector Int 6) : Bool :=
  decide (-1024 ≤ off ∧ off ≤ 1024) && decide (97 / 100 ≤ gain ∧ gain ≤ 103 / 100) &&
    mis.toList.all fun m => decide (-256 ≤ m ∧ m ≤ 256)

/-- A converter with new factors. -/
def Converter.with_ (v : Converter) (t : Nat) (off : Int) (gain : Rat) (mis : Vector Int 6) : Converter :=
  { v with calAt := some t, ofs := off, gain := (roundQ (gain * 32768)).toNat, mis := mis, fail := !factorsOk off gain mis }

/-- Where the good converters go (R38, R61): with four or more, each sequencer keeps a good one, or takes the lowest good one
that is free, and one left beyond is the spare; with three or fewer they serve SQ[0] upwards, lowest first. -/
def bindGood (old : List (Option (Fin 5))) (good : List (Fin 5)) : List (Option (Fin 5)) :=
  if good.length ≤ 3 then (List.range 4).map fun k => good[k]?
  else
    let kept := old.map fun o => match o with | some v => if good.contains v then some v else none | none => none
    let free := good.filter fun v => !kept.contains (some v)
    (kept.foldl (fun (a : List (Option (Fin 5)) × List (Fin 5)) o => match o, a.2 with
      | some v, f => (a.1 ++ [some v], f)
      | none, v :: f => (a.1 ++ [some v], f)
      | none, [] => (a.1 ++ [none], [])) ([], free)).1

/-- The converters of a cell are bound anew after a full calibration. -/
def Cell.rebind (x : Cell) : Cell :=
  let good := (List.finRange 5).filter fun v => !x.cv[v].fail
  let map := bindGood (x.sq.toList.map fun q => q.conv) good
  { x with
    sq := vgen 4 fun k => { x.sq[k] with conv := (map[k.1]?).join }
    cv := vgen 5 fun v => { x.cv[v] with
      role := if x.cv[v].fail then .failed
        else match (List.finRange 4).find? fun k => (map[k.1]?).join == some v with
          | some k => .bound k
          | none => .spare } }

/-- The motor objects fed by a bridge that names an input of a cell, among the inputs given. -/
def State.mosNaming (s : State) (c : Nat) (ins : List Nat) : List (Fin 4) :=
  (List.finRange 4).filter fun m => (s.bridges m).any fun n =>
    (s.inputsOf n).any fun i => i / 12 == c && ins.contains (i % 12)

/-- All inputs of a cell. -/
def allIns : List Nat := List.range 12

/-- The inputs of the sequencers of a cell that have no converter. -/
def State.stoppedIns (s : State) (c : Nat) : List Nat :=
  (List.range 4).flatMap fun k =>
    if (s.seq c k).conv.isNone then
      (List.range (s.n Fld.CELL_SQ_LEN c k)).map (fun e => s.n Fld.CELL_SQ_E_IN c k e)
        ++ (List.range (s.n Fld.CELL_SQ_ILEN c k)).map fun e => s.n Fld.CELL_SQ_I_IN c k e
    else []

/-- The sequencers of a cell track entry 0 from now on. -/
def Cell.tracking (x : Cell) (t : Nat) : Cell := { x with sq := x.sq.map fun q => { q with track := t } }

/-- FULL_CALIBRATION_DONE (R56 step 4, R61): factors stored and checked, converters bound, the cell back online. -/
def State.fullDone (s : State) (c : Nat) (offs : Vector Int 5) (gains : Vector Rat 5) (mis : Vector (Vector Int 6) 5) : State :=
  if !(s.cell c).offline ∨ 8 ≤ c then s
  else
    let s1 := s.onCellN c fun x => ({ x with
      offline := false, calibrated := true
      cv := vgen 5 fun v => x.cv[v].with_ s.up offs[v] gains[v] mis[v] }).rebind.tracking s.up
    let bad := (List.finRange 5).filter fun v => (s1.cell c).cv[v].fail
    let s2 := bad.foldl (fun s v => s.raise .CAL_FAIL c v) s1
    let s3 := if 2 ≤ bad.length then
        let s3 := (s2.onCellN c fun x => { x with missSeen := false, injMissSeen := false }).raise .CELL_DEGRADED c
        (s3.mosNaming c (s3.stoppedIns c)).foldl (fun s m => s.reactEv m .CELL_DEGRADED c (s.rc Fld.CELL_CVFAIL c)) s3
      else s2.causeGoneAll .CELL_DEGRADED c
    ((s3.raise .CAL_DONE c).startContinuous c).evalArm

/-- REFEN_WRITE (R53, R54): the HK reference cannot be switched off. -/
def State.refenWrite (s : State) (c : Nat) (on : Bool) : State :=
  if 8 ≤ c ∨ on = (s.cell c).refen then s
  else if on then s.onCellN c fun x => { x with refen := true, rdy := false, missSeen := false }
  else if s.cellInUse c then s.raise .REF_BUSY c
  else s.onCellN c fun x => { x with refen := false, rdy := false }

/-- A cell at S7 (R38, R53, R56, R58): CV[k] serves SQ[k], `CELL.REFEN` goes to `CELLCTL.REFEN`, and a reference that is ready already
starts the full calibration. -/
def State.cellStart (s : State) (c : Fin 8) : State :=
  let on := s.yes Fld.CELL_REFEN c
  let s1 := s.onCell c fun x => { x with
    refen := on, rdy := on && x.rdy, missSeen := if on && !x.refen then false else x.missSeen
    sq := vgen 4 fun k => { x.sq[k] with conv := if x.calibrated then x.sq[k].conv else some ⟨k.1, by omega⟩, track := s.up } }
  if (s1.cell c).rdy ∧ !s1.calibrating c then s1.fullAccept c else s1

/-- Every cell that is to be calibrated at S7 has been. -/
def State.cellsDone (s : State) : Bool :=
  (List.finRange 8).all fun c => !s.yes Fld.CELL_REFEN c || (s.cells[c].calibrated && !s.calibrating c)

/-- REF_READY (R53, R56, R58): 240,000 cycles after REFEN; a cell never calibrated starts its full calibration. -/
def State.refReadyNow (s : State) (c : Nat) : State :=
  if 8 ≤ c ∨ !(s.cell c).refen ∨ (s.cell c).rdy then s
  else
    let s1 := s.onCellN c fun x => { x with rdy := true }
    if 7 ≤ s.rst.stage ∧ !(s.cell c).calibrated then s1.fullAccept c else s1.startContinuous c

/-- The spare of a cell. -/
def Cell.spare (x : Cell) : Option (Fin 5) := (List.finRange 5).find? fun v => x.cv[v].role == .spare

/-- The die temperature of a channel (R63). -/
def dieDeg (code : Int) : Rat := (code - 4000) / 40

/-- A background round may start (R60). -/
def State.bgCan (s : State) (c : Nat) : Bool :=
  !s.calibrating c && !(s.cell c).bgAct && (s.cell c).spare.isSome && (s.cell c).calibrated

/-- The spare of a running round begins its calibration. -/
def Cell.bgNext (x : Cell) : Cell :=
  { x with cv := x.cv.map fun v => if v.role = .spare then { v with role := .calibrating } else v }

/-- A background round starts, at the die temperatures of now (R363). -/
def State.bgStart (s : State) (c : Nat) : State :=
  s.onCellN c fun x => { x.bgNext with bgAct := true, bgStep := 0, bgTemp := some s.die.code }

/-- The interval of background rounds in nanoseconds; 0: none. -/
def State.bgEvery (s : State) (c : Nat) : Nat := s.n Fld.CELL_BGINT c * sec

/-- When the next round of a cell is due (R363): S9 + 10 s + n·BGINT/8 at first, then an interval after the last one. -/
def State.bgDueAt (s : State) (c : Nat) : Nat :=
  match (s.cell c).bgLast with
  | some t => t + s.bgEvery c
  | none => s.rst.relAt + s.rst.startT * us + 10 * sec + c * s.bgEvery c / 8

/-- A die temperature channel has moved by more than CALDT since the start of the cell's last round (R363). -/
def State.bgEarly (s : State) (c : Nat) : Bool :=
  match (s.cell c).bgTemp with
  | some v => s.n Fld.SERVICE_CALDT 0 != 0 && (List.finRange 6).any fun i =>
      decide ((s.n Fld.SERVICE_CALDT 0 : Rat) < absQ (dieDeg s.die.code[i] - dieDeg v[i]))
  | none => false

/-- A round of the cell is due, or wanted early. -/
def State.bgWants (s : State) (c : Nat) : Bool :=
  s.n Fld.CELL_BGINT c != 0 && (decide (s.bgDueAt c ≤ s.up) || s.bgEarly c)

/-- BGROUND_START_COMMAND: `CALCMD.CMD` = 2. -/
def State.bgCommand (s : State) (c : Nat) : State :=
  if 8 ≤ c ∨ !s.bgCan c then s.calReject c else (s.calAnswer c 1).bgStart c

/-- BGROUND_ABORT_COMMAND: `CALCMD.CMD` = 3. With no round running the command is accepted and does nothing: R60 names no outcome (DESIGN
CHOICE, log 128). -/
def State.bgAbortCommand (s : State) (c : Nat) : State :=
  if 8 ≤ c then s.calReject c else (s.calAnswer c 1).bgAbort c

/-- A round is taken from the schedule: its instant begins the next interval, an early one's at once. -/
def State.bgMark (s : State) (c : Nat) : State :=
  s.onCellN c fun x => { x with bgLast := some (if s.bgDueAt c ≤ s.up then s.bgDueAt c else s.up) }

/-- BGROUND_SCHEDULE (R60, R363): one round in a slice, the lowest cell first; one that cannot start is skipped without an event until it
is due again. -/
def State.bgSchedule (s : State) (c : Nat) : State :=
  if 8 ≤ c ∨ s.rst.stage < 9 ∨ !s.rst.mgmtRun ∨ !s.bgWants c then s
  else if !s.bgCan c then (s.bgMark c).onCellN c fun x => { x with bgTemp := none }
  else if (List.range 8).any (fun j => (s.cell j).bgNow) ∨ (List.range c).any (fun j => s.bgWants j && s.bgCan j) then s
  else ((s.bgMark c).bgStart c).onCellN c fun x => { x with bgNow := true }

/-- A new slice may start a round again (R363). -/
def State.bgSlice (s : State) : State := forFin 8 (fun c s => s.onCellN c fun x => { x with bgNow := false }) s

/-- The rounds that fell due while the management cluster was down are not made up (R60). -/
def State.bgMissed (s : State) : State :=
  forFin 8 (fun c s =>
    let d := s.bgDueAt c
    if s.bgEvery c ≠ 0 ∧ d ≤ s.up then s.onCellN c fun x => { x with bgLast := some (d + (s.up - d) / s.bgEvery c * s.bgEvery c) }
    else s) s

/-- SPARE_CALIBRATION_DONE (R59, R61): the spare has new factors; the fifth ends the round; a failed one ends the rounds. -/
def State.spareDone (s : State) (c : Nat) (off : Int) (gain : Rat) (mis : Vector Int 6) : State :=
  let x := s.cell c
  if 8 ≤ c ∨ !x.bgAct then s
  else match (List.finRange 5).find? fun v => x.cv[v].role == .calibrating with
    | none => s
    | some v =>
      let y := x.cv[v].with_ s.up off gain mis
      if y.fail then
        (s.onCellN c fun x => { x with cv := x.cv.set v { y with role := .failed }, bgAct := false }).raise .CAL_FAIL c v
      else s.onCellN c fun x =>
        let z := { x with cv := x.cv.set v { y with role := .spare } }
        if 5 ≤ x.bgStep + 1 then
          { z with bgAct := false, bgStep := 5
                   bgRounds := if x.bgRounds.n + 1 < 32767 then ⟨x.bgRounds.n + 1, x.bgRounds.sat⟩ else ⟨32767, true⟩ }
        else { z with bgStep := x.bgStep + 1 }

/-- The bound converter with the oldest calibration, the lowest of those as old (R59). -/
def Cell.oldest (x : Cell) : Option (Fin 5 × Fin 4) :=
  (List.finRange 5).foldl (fun a v => match x.cv[v].role with
    | .bound k => match a with
      | none => some (v, k)
      | some (w, _) => if x.cv[v].calAt.getD 0 < x.cv[w].calAt.getD 0 then some (v, k) else a
    | _ => a) none

/-- A sequencer stands between two entries: no burst is under way. -/
def Sequencer.between (q : Sequencer) : Bool := if q.inj.active then q.inj.sample == 0 else !q.reg.active || q.reg.sample == 0

/-- CONVERTER_HANDOVER (R59): between entries the spare takes over, and the converter it relieves is calibrated next. -/
def State.handover (s : State) (c : Nat) : State :=
  let x := s.cell c
  if 8 ≤ c ∨ !x.bgAct ∨ x.bgStep = 0 then s
  else match x.spare, x.oldest with
    | some sp, some (v, k) => if !x.sq[k].between then s else s.onCellN c fun x => { x with
        cv := (x.cv.set sp { x.cv[sp] with role := .bound k }).set v { x.cv[v] with role := .calibrating }
        sq := x.sq.set k { x.sq[k] with conv := some sp, track := s.up } }
    | _, _ => s

/-! ## The housekeeping scan (R63) -/

/-- Volts of an HK code. -/
def hkVolts (code : Int) : Rat := code * 5 / 32768

/-- A rail that the scan measures: its bit, its reading and its recommended range (R63, R318). -/
def railOf (ch : Nat) (code : Int) : Option (Nat × Rat × Rat × Rat) :=
  let v := hkVolts code
  match ch with
  | 17 => some (0, v, 776 / 1000, 824 / 1000)
  | 18 => some (1, v, 873 / 1000, 927 / 1000)
  | 19 => some (2, v, 1067 / 1000, 1133 / 1000)
  | 20 => some (4, v, 171 / 100, 189 / 100)
  | 21 => some (5, v, 171 / 100, 189 / 100)
  | 22 => some (6, v * 2, 3135 / 1000, 3465 / 1000)
  | 23 => some (7, v * 5 / 2, 475 / 100, 525 / 100)
  | _ => none

/-- The supply check of R318 on a rail reading. -/
def State.railCheck (s : State) (ch : Nat) (code : Int) : State :=
  match railOf ch code with
  | none => s
  | some (r, v, lo, hi) =>
    let m : BitVec 9 := 1#9 <<< r
    if lo ≤ v ∧ v ≤ hi then s.onRst fun x => { x with ok := x.ok ||| m }
    else (s.onRst fun x => { x with ok := x.ok &&& ~~~m, low := x.low ||| m }).raiseIf
      (s.rst.ok &&& m != 0 || s.rst.low &&& m == 0) .SUPPLY_LOW r

/-- The check of a cell's reference, three readings in a row (R55). -/
def State.refCheck (s : State) (c : Nat) (code : Int) : State :=
  if absQ (hkVolts code - 5 / 4) ≤ 5 / 4 * 5 / 1000 then
    let s1 := s.onCellN c fun x => { x with refBad := 0, refGood := min 3 (x.refGood + 1) }
    if (s.cell c).refflt ∧ 3 ≤ (s1.cell c).refGood then
      (s1.onCellN c fun x => { x with refflt := false }).causeGoneAll .REF_FAULT c
    else s1
  else
    let s1 := s.onCellN c fun x => { x with refGood := 0, refBad := min 3 (x.refBad + 1) }
    if !(s.cell c).refflt ∧ 3 ≤ (s1.cell c).refBad then
      let s2 := (s1.onCellN c fun x => { x with refflt := true }).raise .REF_FAULT c
      (s2.mosNaming c allIns).foldl (fun s m => s.reactEv m .REF_FAULT c (s.rc Fld.CELL_REFFAULT c)) s2
    else s1

/-- One bit of the CRC-32 of IEEE 802.3. -/
def crcBit (r : BitVec 32) : BitVec 32 := if r.getLsbD 0 then (r >>> 1) ^^^ 0xEDB88320#32 else r >>> 1

/-- The CRC-32 of IEEE 802.3 (R246, R342). -/
def crc32 (l : List Byte) : Word :=
  ~~~(l.foldl (fun r b => (List.range 8).foldl (fun r _ => crcBit r) (r ^^^ b.setWidth 32)) 0xFFFFFFFF#32)

/-- The shutdown record of R246. -/
def State.shutdownRecord (s : State) (en : List Bool) (react : Nat) : List Byte :=
  let bitsOf (l : List Bool) : Nat := (l.zipIdx.map fun x => bit x.2 x.1).foldl (· + ·) 0
  let asc := (List.finRange 8).map fun n => s.br[n].form == .asc
  let body := bytesLE 2 0x0841 ++ bytesLE 1 s.die.firstHot ++ bytesLE 1 react ++ bytesLE 8 s.stamp.toNat
    ++ (s.die.code.toList.flatMap fun c => bytesLE 2 c.toNat) ++ bytesLE 1 (bitsOf en) ++ bytesLE 1 (bitsOf asc) ++ [0, 0]
  body ++ bytesLE 4 (crc32 body).toNat

/-- The shutdown of R245, steps 1 and 2: every bridge executes DIEREACT, choppers go off, axes stop. -/
def State.dieShutdown (s : State) : State :=
  let s1 := ({ s with die := { s.die with shut := true } }).raise .DIE_SHUTDOWN 0xFF s.die.firstHot
  let sev := s.rc Fld.THERMAL_DIEREACT 0
  let en := (List.finRange 8).map fun n => s.br[n].enabled
  let s2 : State := forFin 4 (fun m s => if s.bridges m = [] then s else s.reactEv m .DIE_SHUTDOWN 0xFF sev) s1
  let s3 : State := forFin 8 (fun k s => if s.axes[k].state = .off then s else s.axisImmediate k false) s2
  let off (c : Chopper) : Chopper := { c with on := false, forced := false, enabled := false }
  let s4 := { s3 with chop := s3.chop.map off }
  { s4 with die := { s4.die with record := s4.shutdownRecord en sev.rank } }

/-- The die temperature channels (R63, R244, R245): T_die is the highest read so far of the six. -/
def State.dieCheck (s : State) (ch : Nat) (code : Int) : State :=
  let i := ch - 24
  let d := s.die
  let prev := if ch = 24 then d.nowHot else d.prevHot
  let now0 := if ch = 24 then false else d.nowHot
  let hotNow := decide (9000 ≤ code)
  let codes := vmodN d.code i fun _ => code
  let top := (List.range 6).foldl (fun a j => if s.hk.seen.toList[24 + j]? = some true ∨ j = i then max a (vat codes 0 j) else a) code
  let t := dieDeg top
  let s1 := { s with
    die := { d with
      code := codes, seen := true, prevHot := prev, nowHot := now0 || hotNow
      firstHot := if hotNow && !prev && !now0 then ch else d.firstHot
      hot := decide (115 < t) }
    hk := { s.hk with dieTemp := t } }
  let s2 := s1.raiseIf (decide (115 < t) && !d.hot) .DIE_HOT ch
  if hotNow ∧ prev ∧ !d.shut ∧ !d.hold then s2.dieShutdown else s2

/-- HK_CHANNEL_RESULT (R63): channels 8 to 30 of the scan; each result is used as soon as it is written. -/
def State.hkResult (s : State) (ch : Fin 32) (code : Int) : State :=
  if ch.1 < 8 ∨ ch.1 = 31 then s
  else
    let beyond := decide (code < 0) || decide (16383 < code)
    let v := clampI 0 16383 code
    let res : AdcRes := { AdcRes.reset with fresh := true, ovr := beyond, suspect := s.hk.scanSus, value := v }
    let s1 := { s with hk := { s.hk with
      res := s.hk.res.set ch res, scanSus := beyond
      seen := s.hk.seen.set ch true } }.noteResult 8 ch res
    if 9 ≤ ch.1 ∧ ch.1 ≤ 16 then s1.refCheck (ch.1 - 9) v
    else if 24 ≤ ch.1 ∧ ch.1 ≤ 29 then s1.dieCheck ch v
    else s1.railCheck ch v

/-- DIE_SHUTDOWN_RECORD_DONE (R245 steps 3 and 4): the record is in its slot, and the module holds itself in reset, which the model shows as
stage 0 (log 136). -/
def State.dieHold (s : State) : State :=
  if s.die.shut ∧ !s.die.hold then
    let e : Entry := ⟨0x0841, s.die.firstHot, (vat (s.die.record.toArray.toVector) 0 3).toNat,
      BitVec.ofNat 64 (ofBytesLE ((s.die.record.drop 4).take 8)), (s.die.record.drop 12).take 16⟩
    let s1 := { s with
      nor := { s.nor with shutRec := s.die.record }
      jrn := s.jrn.put (s.recd.next, e)
      recd := { s.recd with next := s.recd.next + 1 } }
    let s2 := s1.resetEntry
    { s2 with die := { s2.die with hold := true }, rst := { s2.rst with mgmtRun := false, stage := 0, hold := 7 } }
  else s

/-! ## Commands -/

/-- SAMPLE_CONVERSION_DONE (R41): see `State.sampleDone`. -/
def execSampleConversionDone (c : Fin 9) (v : Fin 5) (code : Int) (s : State) : Host.Outcome State Fault Refusal :=
  .next (s.sampleDone c v code)
/-- REGULAR_SEQUENCE_DONE (R46): see `State.regDone`. -/
def execRegularSequenceDone (c : Fin 9) (k : Fin 4) (s : State) : Host.Outcome State Fault Refusal := .next (s.regDone c k)
/-- URGENT_TRIGGER (R47): an urgent trigger reaches a sequencer. -/
def execUrgentTrigger (c : Fin 9) (k : Fin 4) (s : State) : Host.Outcome State Fault Refusal := .next (s.urgTrigger c k)
/-- INJECTED_SEQUENCE_DONE (R46): see `State.injDone`. -/
def execInjectedSequenceDone (c : Fin 9) (k : Fin 4) (s : State) : Host.Outcome State Fault Refusal := .next (s.injDone c k)
/-- SOFTWARE_REGULAR_TRIGGER (R48): `CELLCTL.SWREG`. -/
def execSoftwareRegularTrigger (c : Fin 9) (k : Fin 4) (s : State) : Host.Outcome State Fault Refusal := .next (s.regTrigger c k)
/-- SOFTWARE_URGENT_TRIGGER (R47): `CELLCTL.SWINJ`; see `State.swUrgent`. -/
def execSoftwareUrgentTrigger (c : Fin 9) (k : Fin 4) (s : State) : Host.Outcome State Fault Refusal := .next (s.swUrgent c k)
/-- CELL_COUNTERS_CLEAR: `CELLCTL.CNTCLR`. -/
def execCellCountersClear (c : Fin 9) (s : State) : Host.Outcome State Fault Refusal := .next (s.cellClear c)
/-- REFEN_WRITE (R54): see `State.refenWrite`. -/
def execRefenWrite (c : Fin 9) (on : Bool) (s : State) : Host.Outcome State Fault Refusal := .next (s.refenWrite c on)
/-- REF_READY (R53): see `State.refReadyNow`. -/
def execRefReady (c : Fin 9) (s : State) : Host.Outcome State Fault Refusal := .next (s.refReadyNow c)
/-- FULL_CALIBRATION_COMMAND (R56): see `State.fullCommand`. -/
def execFullCalibrationCommand (c : Fin 9) (s : State) : Host.Outcome State Fault Refusal := .next (s.fullCommand c)
/-- CALIBRATION_DRAIN_DONE (R56): see `State.calDrained`. -/
def execCalibrationDrainDone (c : Fin 9) (s : State) : Host.Outcome State Fault Refusal := .next (s.calDrained c)
/-- FULL_CALIBRATION_DONE (R56): see `State.fullDone`. -/
def execFullCalibrationDone (c : Fin 9) (offs : Vector Int 5) (gains : Vector Rat 5) (mis : Vector (Vector Int 6) 5)
    (s : State) : Host.Outcome State Fault Refusal := .next (s.fullDone c offs gains mis)
/-- BGROUND_START_COMMAND (R60): see `State.bgCommand`. -/
def execBgroundStartCommand (c : Fin 9) (s : State) : Host.Outcome State Fault Refusal := .next (s.bgCommand c)
/-- BGROUND_ABORT_COMMAND (R60): see `State.bgAbortCommand`. -/
def execBgroundAbortCommand (c : Fin 9) (s : State) : Host.Outcome State Fault Refusal := .next (s.bgAbortCommand c)
/-- BGROUND_SCHEDULE (R363): see `State.bgSchedule`. -/
def execBgroundSchedule (c : Fin 9) (s : State) : Host.Outcome State Fault Refusal := .next (s.bgSchedule c)
/-- SPARE_CALIBRATION_DONE (R59): see `State.spareDone`. -/
def execSpareCalibrationDone (c : Fin 9) (off : Int) (gain : Rat) (mis : Vector Int 6) (s : State) :
    Host.Outcome State Fault Refusal := .next (s.spareDone c off gain mis)
/-- CONVERTER_HANDOVER (R59): see `State.handover`. -/
def execConverterHandover (c : Fin 9) (s : State) : Host.Outcome State Fault Refusal := .next (s.handover c)
/-- HK_CHANNEL_RESULT (R63): see `State.hkResult`. -/
def execHkChannelResult (ch : Fin 32) (code : Int) (s : State) : Host.Outcome State Fault Refusal := .next (s.hkResult ch code)
/-- DIE_SHUTDOWN_RECORD_DONE (R245): see `State.dieHold`. -/
def execDieShutdownRecordDone (s : State) : Host.Outcome State Fault Refusal := .next s.dieHold
/-- RAIL_CLAMP_SET (R52): see `State.railSet`. -/
def execRailClampSet (i : Fin 96) (beyond : Bool) (s : State) : Host.Outcome State Fault Refusal := .next (s.railSet i beyond)
/-- RAIL_WINDOW_CLOSE (R52): see `State.railClose`. -/
def execRailWindowClose (i : Fin 96) (s : State) : Host.Outcome State Fault Refusal := .next (s.railClose i)

end Sys2Proof.Machine
end

