-- ==== Sys2Proof/Machine/Position.lean ====
section
/-! DEFINITION. Position interfaces (R94 to R100): the latch, the index, sensor faults with the fallback of R104, and the angle
and speed that a motor object takes from its source (R98, R101). -/

namespace Sys2Proof.Machine

/-! ## Sources -/

/-- The interface that a motor object names, none for RING (R98). -/
def State.piOf (s : State) (m : Fin 4) : Option (Fin 8) :=
  let c := s.n Fld.MOTOR_POSSRC m
  if h : c < 8 then some ⟨c, h⟩ else none

/-- The motor objects that take their shaft information from an interface. -/
def State.namingPi (s : State) (k : Fin 8) : List (Fin 4) :=
  (List.finRange 4).filter fun m => s.piOf m == some k && s.bridges m != []

/-- The frame in use of the lead of the ring. -/
def Ring.leadFrame (r : Ring) : Option RingFrame :=
  match r.leadPos with
  | some p => if h : p < 8 then (r.pos[p].recent.head?).map Prod.snd else none
  | none => none

/-- Turns of a signed 64-bit count in units of 2⁻³² of a turn. -/
def turnsOf (p : BitVec 64) : Rat := p.toInt / 4294967296

/-- The electrical angle of the sensor in turns (R98), less the count offset in use (R99). -/
def State.sensorAngle (s : State) (m : Fin 4) : Rat :=
  match s.piOf m with
  | some k =>
    s.n Fld.MOTOR_POLEPAIRS m * s.q Fld.MOTOR_PIRATIO m * (turnsOf s.posIf[k].pos - s.posIf[k].zOfs) + s.q Fld.MOTOR_POSOFS m / 360
  | none => 0

/-- The angle of the motor shaft in turns: read from the interface, or carried on by the outer loop (log 20). -/
def State.shaft (s : State) (m : Fin 4) : Rat :=
  match s.piOf m with
  | some k => if s.n Fld.MOTOR_POSMODE m = 1 then s.outer[m].angPrev else s.q Fld.MOTOR_PIRATIO m * turnsOf s.posIf[k].pos
  | none => s.outer[m].angPrev

/-- The speed of the source in rpm of the motor. -/
def State.sourceRpm (s : State) (m : Fin 4) : Rat :=
  match s.piOf m with
  | some k => s.posIf[k].spd * s.q Fld.MOTOR_PIRATIO m * 60
  | none => match s.ring.leadFrame with | some f => f.speed | none => 0

/-- The source of a motor object gives a valid reading now: its interface is VALID, or a ring speed is there. -/
def State.sourceValid (s : State) (m : Fin 4) : Bool :=
  match s.piOf m with
  | some k => s.posIf[k].valid
  | none => s.ring.on && s.ring.leadFrame.isSome

/-- The source gives an absolute angle (R99). -/
def State.sourceAbs (s : State) (m : Fin 4) : Bool :=
  match s.piOf m with
  | some k => s.posIf[k].abs
  | none => false

/-- A motor object with a speed source in use (R109): a sensor that is wanted and valid. -/
def State.hasSpeedSource (s : State) (m : Fin 4) : Bool := s.n Fld.MOTOR_POSMODE m != 1 && s.sourceValid m

/-! ## The latch (R94, R96, R97) -/

/-- A loop period in nanoseconds and in seconds (R67): CHALF counts of 2.5 ns at double update, twice that above 20 kHz. -/
def Pwm.single (p : Pwm) : Bool := decide (p.chalf < 10000)
def Pwm.tl (p : Pwm) : Rat := (if p.single then 2 * p.chalf else p.chalf) * 25 / 10000000000

/-- The last loop instant of a carrier: its last turning point, or the valley before it above 20 kHz. -/
def Pwm.instAt (p : Pwm) : Nat := if p.single ∧ p.atPeak then p.turnAt - p.chalf * 5 / 2 else p.turnAt

/-- A sensor kind that is absolute from its first valid reading: RESOLVER and SSI (R99). -/
def absKind (mode : Nat) : Bool := decide (3 ≤ mode)

/-- The steps of a sensor in one turn (R94): 4 counts a line, 4,096 steps a period, 65,536 an electrical turn of a resolver, and what
the multi-turn bits of an SSI frame leave. -/
def State.piSteps (s : State) (k : Fin 8) : Nat :=
  let i := 8 + k.1
  match s.n Fld.PI_MODE i with
  | 1 => 4 * s.n Fld.PI_LINES i
  | 2 => 4096 * s.n Fld.PI_LINES i
  | 3 => 65536 * s.n Fld.PI_RESPP i
  | _ => 2 ^ (s.n Fld.PI_SSIBITS i - s.n Fld.PI_SSITURN i)

/-- A Gray code read as a binary number. -/
def ofGray (w : Word) : Word := (List.range 32).foldl (fun (x : Word) i => if i = 0 then x else x ^^^ (w >>> i)) w

/-- The number of an SSI frame of SSIBITS bits (R94). -/
def State.ssiSteps (s : State) (k : Fin 8) (frame : Word) : Nat :=
  let w := frame &&& BitVec.ofNat 32 (2 ^ s.n Fld.PI_SSIBITS (8 + k) - 1)
  (if s.n Fld.PI_SSICODE (8 + k) = 0 then ofGray w else w).toNat

/-- The steps counted on to a new reading: counters from reset as they stand; an absolute sensor from its first valid reading, in SSI
with the whole turns of its frame, and from then on the short way round (R97). -/
def PosIf.count (p : PosIf) (mode steps : Nat) (x : Int) : Int :=
  if !absKind mode then x
  else if p.first then (if mode = 4 then x else x % steps)
  else p.raw + ((x - p.raw + steps / 2) % steps - steps / 2)

/-- The position of a count in units of 2⁻³² of a turn, in the direction of DIR (R97). -/
def posCount (rev : Bool) (steps : Nat) (x : Int) : Int := (qdiv ((if rev then -x else x) * 4294967296) steps).floor

/-- The speed between two readings in turns a second: ABZ from the counts over the time between their last edges, SINCOS and RESOLVER
from the tracking loop, SSI from the difference (log 122). -/
def PosIf.speed (p : PosIf) (mode : Nat) (bw turns : Rat) (edge up : Nat) : Rat :=
  let dt : Rat := ((up : Rat) - p.latUp) / 1000000000
  match mode with
  | 1 => if turns = 0 then 0 else qdiv turns (((edge : Rat) - p.edge) * 25 / 10000000000)
  | 2 | 3 => Config.trackSpeed bw p.spd turns dt
  | _ => qdiv turns dt

/-- A reading of an interface at this moment (R96, R97): `x` steps, the last edge `edge` counts of 2.5 ns ago, and carried on by `ahead`
seconds of its speed. A second reading at the same moment keeps the speed. -/
def State.piRead (s : State) (k : Fin 8) (x : Int) (edge : Nat) (ahead : Rat) : State :=
  let mode := s.n Fld.PI_MODE (8 + k)
  let rev := s.yes Fld.PI_DIR (8 + k)
  let steps := s.piSteps k
  let at_ := s.up * 2 / 5 - edge
  s.onPi k fun p =>
    let c := p.count mode steps x
    let now := posCount rev steps c
    let old := posCount rev steps p.raw
    let spd := if p.first ∨ s.up = p.latUp then p.spd else p.speed mode (s.q Fld.PI_TRKBW (8 + k)) ((now - old) / 4294967296) at_ s.up
    let ok := !p.fault && !p.ampBad
    { p with
      raw := c, edge := at_, latUp := s.up, first := p.first && !ok, spd := spd
      pos := BitVec.ofInt 64 (now + (spd * ahead * 4294967296).floor)
      abs := p.abs || (absKind mode && ok), valid := p.valid || (ok && !p.needZ) }

/-- A latched position goes into the measurement flow of a bridge, with the device time of its instant (R96), and gives the bridge the
angle of that instant (R80). -/
def State.postPosition (s : State) (n k : Fin 8) (t : BitVec 64) : State :=
  (s.onPwm n fun p => { p with th := wrapQ 1 (s.sensorAngle s.br[n].mo) }).post 20 ⟨n.1, by omega⟩
    (itemOf 0 false s.fab.flows[(⟨n.1, by omega⟩ : Fin 256)].epoch (bytesLE 8 t.toNat ++ bytesLE 8 s.posIf[k].pos.toNat))

/-- An interface latches at a loop instant of a bridge whose motor object names it; an SSI sensor answers later. -/
def State.posLatch (s : State) (n : Fin 8) (pos : Vector PosRaw 8) : State :=
  match s.piOf s.br[n].mo with
  | some k =>
    let mode := s.n Fld.PI_MODE (8 + k)
    if !s.posIf[k].on ∨ mode = 0 then s
    else if mode = 4 then
      s.onPi k fun p => { p with latAt := s.dev, latFor := (if p.latAt = s.dev then p.latFor else tbl 8 false).set n.1 true n.2 }
    else (s.piRead k pos[k].steps pos[k].edge 0).postPosition n k s.dev
  | none => s

/-- SSI_FRAME_DONE (R96): the reading, extrapolated by SSIDLY, for the bridges whose instant started the frame. -/
def State.ssiDone (s : State) (k : Fin 8) (frame : Word) : State :=
  if s.posIf[k].on ∧ s.n Fld.PI_MODE (8 + k) = 4 then
    let p := s.posIf[k]
    let s1 := (s.piRead k (s.ssiSteps k frame) 0 (s.q Fld.PI_SSIDLY (8 + k) / 1000000)).onPi k fun p =>
      { p with ssiBad := 0, latFor := tbl 8 false }
    forFin 8 (fun n s => if p.latFor[n] then s.postPosition n k p.latAt else s) s1
  else s

/-! ## Faults (R95, R100, R104) -/

/-- A mismatch of sensor and observer has been raised in the last 100 ms. -/
def State.recentMismatch (s : State) (m : Fin 4) : Bool :=
  match s.start[m].mismAt with
  | some t => decide (s.up < t + 100 * ms)
  | none => false

/-- What a motor object does when its sensor fails (R104). -/
def State.sensorLost (s : State) (m : Fin 4) (ev : Ev) (k : Nat) : State :=
  let mode := s.n Fld.MOTOR_POSMODE m
  if mode = 1 ∨ s.start[m].fallback then s
  else if mode = 2 ∧ !s.yes Fld.MOTOR_HOIST m ∧ s.start[m].locked ∧ !s.slower m (5 / 100) ∧ !s.recentMismatch m then
    (s.onStart m fun x => { x with fallback := true, asrc := .observer }).raise .POS_FALLBACK m
  else s.reactEv m ev k (s.rc Fld.MOTOR_POSREACT m)

/-- The motor objects on an interface are all induction motors, so that no index is needed (R100). -/
def State.allInduction (s : State) (k : Fin 8) : Bool := (s.namingPi k).all s.induction

/-- VALID waits for Z after a fault: ABZ or SINCOS of a PM motor, where the index is used (R100). -/
def State.waitsZ (s : State) (k : Fin 8) : Bool :=
  !absKind (s.n Fld.PI_MODE (8 + k)) && s.yes Fld.PI_ZUSE (8 + k) && !s.allInduction k

/-- A sensor fault: its trace bit sets, VALID clears, and every motor object that names the interface decides. -/
def State.posFault (s : State) (k : Fin 8) (ev : Ev) (trace : PosIf → PosIf) : State :=
  if s.posIf[k].on ∧ s.n Fld.PI_MODE (8 + k) ≠ 0 then
    let s1 := (s.onPi k fun p => { trace p with valid := false, fault := true, needZ := s.waitsZ k }).raise ev k
    (s.namingPi k).foldl (fun s m => s.sensorLost m ev k) s1
  else s

/-- PI_AMPLITUDE_FAULT: the amplitude of an interface as it now reads; outside 0.5 to 1.5 it is the fault of R100. -/
def State.amplitude (s : State) (k : Fin 8) (amp : Rat) : State :=
  let bad := decide (amp < 1 / 2 ∨ 3 / 2 < amp)
  let s1 := s.onPi k fun p => { p with amp := amp, ampBad := bad, ampLo := bad }
  if bad then s1.posFault k .POS_FAULT id else s1

/-- VALID has returned on an interface: the requests of its faults have lost their cause. -/
def State.posBack (s : State) (k : Fin 8) : State := (s.causeGoneAll .POS_FAULT k).causeGoneAll .EXC_FAULT k

/-- VALID returns where nothing of R100 stands against it any more. -/
def State.posRecheck (s : State) (k : Fin 8) : State :=
  let p := s.posIf[k]
  if p.on ∧ !p.first ∧ !p.valid ∧ !p.fault ∧ !p.ampBad ∧ !p.needZ then (s.onPi k fun p => { p with valid := true }).posBack k else s

/-- PI_ERROR_CLEAR (R100): `PICTL.ERRCLR` clears the held fault bits, ZSEEN and PIERR. A cause without an end of its own counts as
cleared here; an amplitude that still reads outside does not (log 122). -/
def State.piClear (s : State) (k : Fin 8) : State :=
  (s.onPi k fun p => { p with
    excf := false, illegal := false, lineBrk := false, ssiErr := false, fault := false, zSeen := false, err := .zero }).posRecheck k

/-- Illegal transitions (R100): each counts; more than 4 within 1 ms are the fault of an ABZ interface. -/
def State.illegal (s : State) (k : Fin 8) (count : Nat) : State :=
  let recent := (s.posIf[k].badAt.filter fun t => decide (s.up < t + ms)) ++ List.replicate count s.up
  let s1 := s.onPi k fun p => { p with err := bumpBy p.err count, badAt := recent.drop (recent.length - 5) }
  if s.n Fld.PI_MODE (8 + k) = 1 ∧ 4 < recent.length then s1.posFault k .POS_FAULT fun p => { p with illegal := true } else s1

/-- Electrical degrees between two count offsets, in sensor turns. -/
def State.offsetDiff (s : State) (m : Fin 4) (x y : Rat) : Rat :=
  absQ (turnDiff (s.n Fld.MOTOR_POLEPAIRS m * s.q Fld.MOTOR_PIRATIO m * x) (s.n Fld.MOTOR_POLEPAIRS m * s.q Fld.MOTOR_PIRATIO m * y)) * 360

/-- A Z after the first lies a turn of 4·LINES ± 4 counts away from the one before (R99). -/
def State.zInPlace (s : State) (k : Fin 8) (last now : Int) : Bool :=
  decide (absQ (absQ (qdiv (now - last) (s.piSteps k)) - 1) ≤ 1 / s.q Fld.PI_LINES (8 + k))

/-- INDEX_PULSE (R99): the first Z corrects the offset or is a mismatch; a later one is checked for its place, and one that is misplaced
is an illegal transition. A first Z that differs by more than POSDEV leaves ABS as it was: the table of R99 says only what happens to
the offset (DESIGN CHOICE, log 122). -/
def State.indexPulse (s : State) (k : Fin 8) (raw : Int) : State :=
  let p := s.posIf[k]
  let mode := s.n Fld.PI_MODE (8 + k)
  if !p.on ∨ (mode ≠ 1 ∧ mode ≠ 2) ∨ !s.yes Fld.PI_ZUSE (8 + k) then s
  else
    let turns : Rat := (posCount (s.yes Fld.PI_DIR (8 + k)) (s.piSteps k) raw : Rat) / 4294967296
    let s0 := (s.onPi k fun p => { p with zSeen := true, lastZ := some raw, needZ := false })
    let s1 := match p.lastZ with
      | some z => if s.zInPlace k z raw then s0 else s0.illegal k 1
      | none =>
        let bad := p.found && (s.namingPi k).any fun m => decide (s.q Fld.MOTOR_POSDEV m < s.offsetDiff m turns p.zOfs)
        if bad then
          (s.namingPi k).foldl (fun s m => (s.onStart m fun x => { x with mismAt := some s.up }).raise .POS_MISMATCH m) s0
        else s0.onPi k fun p => { p with zOfs := turns, abs := true, found := true }
    s1.posRecheck k

/-- POS_MISMATCH_TIMER (R104): sensor and observer have differed by more than POSDEV for 10 ms. -/
def State.mismatch (s : State) (m : Fin 4) : State :=
  if s.n Fld.MOTOR_POSMODE m = 2 ∧ s.start[m].locked ∧ !s.start[m].fallback then
    (s.onStart m fun x => { x with mismAt := some s.up }).raise .POS_MISMATCH m
  else s

/-! ## Commands -/

/-- SSI_FRAME_DONE (R96): see `State.ssiDone`. -/
def execSsiFrameDone (k : Fin 8) (frame : Word) (s : State) : Host.Outcome State Fault Refusal := .next (s.ssiDone k frame)
/-- PI_LINE_BREAK (R100): an open or shorted pair on an ABZ or SINCOS interface. -/
def execPiLineBreak (k : Fin 8) (s : State) : Host.Outcome State Fault Refusal :=
  .next (if s.n Fld.PI_MODE (8 + k) = 1 ∨ s.n Fld.PI_MODE (8 + k) = 2 then
    s.posFault k .POS_FAULT fun p => { p with lineBrk := true } else s)
/-- PI_ILLEGAL_TRANSITIONS (R100): illegal transitions of A and B on an ABZ interface, `count` of them now. -/
def execPiIllegalTransitions (k : Fin 8) (count : Nat) (s : State) : Host.Outcome State Fault Refusal :=
  .next (if s.n Fld.PI_MODE (8 + k) = 1 ∧ s.posIf[k].on then s.illegal k count else s)
/-- PI_AMPLITUDE_FAULT (R100): see `State.amplitude`. -/
def execPiAmplitudeFault (k : Fin 8) (amp : Rat) (s : State) : Host.Outcome State Fault Refusal :=
  .next (if s.n Fld.PI_MODE (8 + k) = 2 ∨ s.n Fld.PI_MODE (8 + k) = 3 then s.amplitude k amp else s)
/-- SSI_FRAME_FAULT (R100): a bad frame; the second in a row is a fault. -/
def execSsiFrameFault (k : Fin 8) (s : State) : Host.Outcome State Fault Refusal :=
  .next (if s.n Fld.PI_MODE (8 + k) = 4 then
    let s1 := s.onPi k fun p => { p with err := bump p.err, ssiBad := p.ssiBad + 1 }
    if 2 ≤ s.posIf[k].ssiBad + 1 then s1.posFault k .POS_FAULT fun p => { p with ssiErr := true } else s1
  else s)
/-- EXC_FAULT (R95, R100): the excitation has been outside ±20 % for 1 ms on a RESOLVER interface; it is a sensor fault too. -/
def execExcFault (k : Fin 8) (s : State) : Host.Outcome State Fault Refusal :=
  .next (if s.n Fld.PI_MODE (8 + k) = 3 then
    (s.posFault k .EXC_FAULT fun p => { p with excf := true }).posFault k .POS_FAULT id else s)
/-- INDEX_PULSE (R99): see `State.indexPulse`. -/
def execIndexPulse (k : Fin 8) (pos : Int) (s : State) : Host.Outcome State Fault Refusal := .next (s.indexPulse k pos)
/-- POS_MISMATCH_TIMER (R104): see `State.mismatch`. -/
def execPosMismatchTimer (m : Fin 4) (s : State) : Host.Outcome State Fault Refusal := .next (s.mismatch m)
/-- PI_ERROR_CLEAR (R100): see `State.piClear`. -/
def execPiErrorClear (k : Fin 8) (s : State) : Host.Outcome State Fault Refusal := .next (s.piClear k)

end Sys2Proof.Machine
end

