-- ==== Sys2Proof/Machine/Thermal.lean ====
section
/-! DEFINITION. What is sampled of a bridge (R28), and what each loop instant judges from it: OV1 (R232) and the thermal models
of switches and windings (R240 to R242) with their derate factors. -/

namespace Sys2Proof.Machine

/-! ## Sampled quantities -/

/-- The link voltage of a bridge. -/
def State.vdc (s : State) (n : Fin 8) : Rat :=
  s.q Fld.BRIDGE_VDCGAIN (s.recOf n) * s.codeOf (s.n Fld.BRIDGE_VDCIN (s.recOf n)) + s.q Fld.BRIDGE_VDCOFS (s.recOf n)

/-- The fields by which a bridge names its inputs, in the order of `Pwm.smp`: three currents, link, three phase voltages, midpoint. -/
def State.inputCode (s : State) (n : Fin 8) (j : Nat) : Nat :=
  let b := s.recOf n
  if j < 3 then s.n Fld.BRIDGE_IIN b j
  else if j = 3 then s.n Fld.BRIDGE_VDCIN b
  else if j < 7 then s.n Fld.BRIDGE_VPHIN b (j - 4)
  else s.n Fld.BRIDGE_VNPIN b

/-- The code in use of an input of a bridge. -/
def State.smpOf (s : State) (n : Fin 8) (j : Nat) : Int := vat s.pwm[n].smp 0 j

/-- A phase current of a bridge, as the loop uses it. -/
def State.phaseI (s : State) (n : Fin 8) (p : Nat) : Rat :=
  s.q Fld.BRIDGE_IGAIN (s.recOf n) * s.smpOf n p + s.q Fld.BRIDGE_IOFS (s.recOf n)

/-- The link voltage as the loop uses it. -/
def State.vlink (s : State) (n : Fin 8) : Rat :=
  s.q Fld.BRIDGE_VDCGAIN (s.recOf n) * s.smpOf n 3 + s.q Fld.BRIDGE_VDCOFS (s.recOf n)

/-- A phase voltage as the loop uses it (R108). -/
def State.phaseV (s : State) (n : Fin 8) (p : Nat) : Rat :=
  s.q Fld.BRIDGE_VPHGAIN (s.recOf n) * s.smpOf n (4 + p) + s.q Fld.BRIDGE_VPHOFS (s.recOf n)

/-- The lower capacitor voltage of an NPC bridge (R75). -/
def State.vLower (s : State) (n : Fin 8) : Rat :=
  s.q Fld.BRIDGE_VPHGAIN (s.recOf n) * s.smpOf n 7 + s.q Fld.BRIDGE_VPHOFS (s.recOf n)

/-- The value of an input in the unit of the field that names it. -/
def State.inputValue (s : State) (i : Nat) : Rat :=
  s.q Fld.CELL_GAIN (i / 12) (i % 12) * s.ainCode i + s.q Fld.CELL_OFS (i / 12) (i % 12)

/-- Garnet's disable holds the gates of a bridge off: from the moment of an STO to the period boundary after it (R17, R36). -/
def State.disabled (s : State) (n : Fin 8) : Bool := s.br[n].gdis || s.garnet.mo[s.br[n].mo].sto

/-- The modulator drives the bridge: its motor object is armed (R27), its gates enabled (R219), and no latch holds them off (R36). -/
def State.switching (s : State) (n : Fin 8) : Bool :=
  s.br[n].form == .run && s.br[n].enabled && !s.br[n].latch && s.armed[s.br[n].mo] && !s.disabled n

/-- The lowest-ranked feeding bridge of a motor object. -/
def State.rank0 (s : State) (m : Fin 4) : Option (Fin 8) := (s.feeding m).head?

/-- A period boundary lets go what holds the gates of a bridge off: the latch once it has been cleared under R15, and the disable once
its STO has ended (R36). -/
def State.latchRelease (s : State) (n : Fin 8) : State :=
  s.onBr n fun b => { b with
    latch := b.latch && !(decide (b.exec_.rank < 4) && b.window.isNone), gdis := s.garnet.mo[b.mo].sto }

/-! ## OV1 (R232) -/

/-- k_ov of a bridge. -/
def State.kovNow (s : State) (n : Fin 8) : Rat :=
  let ov3 := s.q Fld.PROTECT_BR_OV3 0 (s.recOf n)
  let ov1 := s.q Fld.PROTECT_BR_OV1 0 (s.recOf n)
  clampQ 0 1 (qdiv (ov3 - s.vdc n) (ov3 - ov1))

/-- OV1 is evaluated at a loop instant; the DERATE starts when k_ov first drops. -/
def State.ov1Step (s : State) (n : Fin 8) : State :=
  let k := s.kovNow n
  let was := s.br[n].ov1
  let s1 := s.onBr n fun b => { b with kov := k, kovMin := minQ b.kovMin k, ov1 := decide (k < 1) }
  if k < 1 ∧ !was then (s1.raise .OV1_LIMIT n).reactEv s.br[n].mo .OV1_LIMIT n .derate else s1

/-! ## Switch temperatures (R240, R241) -/

/-- The driver temperature of a channel in °C (`GDSTAT[g].TEMP` counts sixteenths). -/
def Chan.celsius (c : Chan) : Rat := (c.temp : Rat) / 16

/-- How a switch position carries current in the interval: the share of it, through its transistor or its diode, and whether
the position switches: a phase held at one level makes no edge. -/
structure Carry where
  share  : Rat
  trans  : Bool
  edges  : Bool

/-- The carry of a position of a phase, by its place in the leg, from the active duty d (or |u| and its sign) and the current. -/
def carryOf (npc : Bool) (pos : Nat) (d : Rat) (neg : Bool) (i : Rat) : Carry :=
  let out := decide (0 ≤ i)
  let moves := decide (0 < d) && decide (d < 1)
  if !npc then
    let onShare := if pos = 0 then d else 1 - d
    ⟨onShare, (pos == 0) == out, moves⟩
  else
    let p := if neg then 0 else d
    let nn := if neg then d else 0
    let o := 1 - p - nn
    match pos with
    | 0 => ⟨p, out, !neg && moves⟩
    | 1 => ⟨if out then p + o else p, out, neg && moves⟩
    | 2 => ⟨if out then nn else nn + o, !out, !neg && moves⟩
    | _ => ⟨nn, !out, neg && moves⟩

/-- One element of a Foster network over `dt` seconds. -/
def fosterStep (th p r tau dt : Rat) : Rat := th + (p * r - th) * (1 - Config.exp (-(qdiv dt tau)))

/-- The loss of a position (R240). -/
def State.lossOf (s : State) (n : Fin 8) (o : Nat) : Rat :=
  let b := s.recOf n
  let npc := s.br[n].npc
  let legs := if npc then 4 else 2
  let ph := o / legs
  let i := s.phaseI n ph
  let p := s.pwm[n]
  let thr : Rat := vat p.active.thr 0 o / 16
  let c := carryOf npc (o % legs) (1 - qdiv thr p.chalf) (vat p.active.neg false ph) i
  let a := absQ i
  let vsw := if npc then s.vdc n / 2 else s.vdc n
  let fc := qdiv 200000000 p.chalf
  let e := qdiv vsw (s.q Fld.THERMAL_BR_VREF 0 b) * qdiv a (s.q Fld.THERMAL_BR_IREF 0 b) / 1000
  if !s.switching n then 0
  else if c.trans then
    c.share * (s.q Fld.THERMAL_BR_VCE0 0 b * a + s.q Fld.THERMAL_BR_RCE 0 b / 1000 * a * a)
      + (if c.edges then fc * s.q Fld.THERMAL_BR_ESW 0 b * e else 0)
  else
    c.share * (s.q Fld.THERMAL_BR_VF0 0 b * a + s.q Fld.THERMAL_BR_RF 0 b / 1000 * a * a)
      + (if c.edges then fc * s.q Fld.THERMAL_BR_ERR 0 b * e else 0)

/-- The network of one channel at a loop instant. -/
def State.chanThermal (s : State) (n : Fin 8) (o : Nat) (c : Chan) : Chan :=
  let b := s.recOf n
  let p := s.lossOf n o
  let dt := s.pwm[n].tl
  let th : Vector Rat 4 := #v[
    fosterStep c.th[0] p (s.q Fld.THERMAL_BR_RTH1 0 b) (s.q Fld.THERMAL_BR_TAU1 0 b) dt,
    fosterStep c.th[1] p (s.q Fld.THERMAL_BR_RTH2 0 b) (s.q Fld.THERMAL_BR_TAU2 0 b) dt,
    fosterStep c.th[2] p (s.q Fld.THERMAL_BR_RTH3 0 b) (s.q Fld.THERMAL_BR_TAU3 0 b) dt,
    fosterStep c.th[3] p (s.q Fld.THERMAL_BR_RTH4 0 b) (s.q Fld.THERMAL_BR_TAU4 0 b) dt]
  { c with th := th, tj := c.celsius + th[0] + th[1] + th[2] + th[3] }

/-- The derate factor of a temperature (R241). -/
def derateOf (warn trip t : Rat) : Rat := clampQ 0 1 (qdiv (trip - t) (trip - warn))

/-- The factor in force under the thermal override of R210 and its fade. -/
def State.etBlend (s : State) (m : Fin 4) (k : Rat) : Rat :=
  let e := s.em[m]
  if e.etAct then 1
  else if e.etFade then 1 + (k - 1) * minQ 1 (qdiv ((s.up : Rat) - e.etAt) (s.q Fld.EMERGENCY_ETFADE m * sec)) else k

/-- Switch temperatures of a bridge at a loop instant, the warning, the trip, and their ends. -/
def State.switchThermal (s : State) (n : Fin 8) : State :=
  let b := s.recOf n
  let m := s.br[n].mo
  let warn := s.q Fld.THERMAL_BR_TWARN 0 b
  let trip := s.q Fld.THERMAL_BR_TTRIP 0 b
  let base := gateBase n
  let cnt := s.gateCount n
  let s1 := { s with chan := vgen 52 fun g =>
    if base ≤ g.1 ∧ g.1 < base + cnt then s.chanThermal n (g.1 - base) s.chan[g] else s.chan[g] }
  let ts := (List.range cnt).map fun o => (vat s1.chan .reset (base + o)).tj
  let drv := (List.range cnt).any fun o => decide (s.q Fld.THERMAL_BR_TDRVMAX 0 b ≤ (vat s1.chan .reset (base + o)).celsius)
  let top := ts.foldl maxQ (ts.headD 0)
  let was := s.br[n].warned
  let tripped := decide (trip ≤ top) || drv
  let s2 := s1.onBr n fun x => { x with kb := derateOf warn trip top, warned := decide (warn < top) }
  let s3 := if warn < top ∧ !was then (s2.raise .THERM_WARN n).reactEv m .THERM_WARN n .derate
    else if top ≤ warn ∧ was then (s2.causeGone m .THERM_WARN n).causeGone m .THERM_TRIP n else s2
  let standing := s.reacts[m].any (fun r => r.cause == some Ev.THERM_TRIP && r.unit == n.1)
    || s.br[n].reacts.any (fun r => r.cause == some Ev.THERM_TRIP && r.unit == n.1)
  let s4 := if tripped ∧ !standing then (s3.raise .THERM_TRIP n).reactBridge n .THERM_TRIP n (s.rc Fld.THERMAL_BR_TRIPREACT 0 b) else s3
  s4.onEm m fun e => if e.etAct then { e with etTsw := maxQ e.etTsw top } else e

/-- The winding of a motor object at a loop instant of its rank-0 bridge (R242). -/
def State.windThermal (s : State) (m : Fin 4) (dt : Rat) : State :=
  let w := s.wind[m]
  let l := s.loops[m]
  let p := 3 / 2 * s.q Fld.MOTOR_RS m / 1000 * (l.id * l.id + l.iq * l.iq)
  let th : Vector Rat 4 := #v[
    fosterStep w.th[0] p (s.q Fld.THERMAL_MOT_RTH1 0 m) (s.q Fld.THERMAL_MOT_TAU1 0 m) dt,
    fosterStep w.th[1] p (s.q Fld.THERMAL_MOT_RTH2 0 m) (s.q Fld.THERMAL_MOT_TAU2 0 m) dt,
    fosterStep w.th[2] p (s.q Fld.THERMAL_MOT_RTH3 0 m) (s.q Fld.THERMAL_MOT_TAU3 0 m) dt,
    fosterStep w.th[3] p (s.q Fld.THERMAL_MOT_RTH4 0 m) (s.q Fld.THERMAL_MOT_TAU4 0 m) dt]
  let amb := match ainOf (s.n Fld.THERMAL_MOT_TAMBIN 0 m) with
    | some i => s.inputValue i
    | none => s.q Fld.THERMAL_MOT_TAMB 0 m
  let model := amb + th[0] + th[1] + th[2] + th[3]
  let tw := match ainOf (s.n Fld.THERMAL_MOT_TSENS 0 m) with
    | some i => maxQ model (s.inputValue i)
    | none => model
  let warn := s.q Fld.THERMAL_MOT_TWARN 0 m
  let trip := s.q Fld.THERMAL_MOT_TTRIP 0 m
  let s1 := s.onWind m fun x => { x with th := th, tw := tw, kmot := derateOf warn trip tw, warned := decide (warn < tw) }
  let s2 := if warn < tw ∧ !w.warned then (s1.raise .MOT_WARN m).reactEv m .MOT_WARN m .derate
    else if tw ≤ warn ∧ w.warned then (s1.causeGone m .MOT_WARN m).causeGone m .MOT_TRIP m else s1
  let standing := s.reacts[m].any fun r => r.cause == some Ev.MOT_TRIP
  let s3 := if trip ≤ tw ∧ !standing then (s2.raise .MOT_TRIP m).reactEv m .MOT_TRIP m (s.rc Fld.THERMAL_MOT_TRIPREACT 0 m) else s2
  s3.onEm m fun e => if e.etAct then { e with etTw := maxQ e.etTw tw } else e

/-- The current limit of R87. -/
def State.imaxEff (s : State) (m : Fin 4) : Rat :=
  let mot := s.etBlend m s.wind[m].kmot * s.q Fld.MOTOR_IMAX m
  let brs := (s.feeding m).map fun n => s.etBlend m s.br[n].kb * s.q Fld.BRIDGE_IMAX (s.recOf n)
  match brs with
  | [] => mot
  | x :: l => minQ mot ((s.feeding m).length * l.foldl minQ x)

end Sys2Proof.Machine
end

