-- ==== Sys2Proof/Machine/Edges.lean ====
section
/-! DEFINITION. The gate edges of a half period (R69 to R72) and the levels at the gate channels (R36, R136, R216, R227, R228). Edge
times are sixteenths of a count of the PWM clock, counted as `State.up`. -/

namespace Sys2Proof.Machine

/-! ## Edges -/

/-- A time in nanoseconds, and a field in microseconds, in sixteenths of a count. -/
def t16 (ns : Nat) : Nat := ns * 32 / 5
def us16 (q : Rat) : Nat := (roundQ (q * 6400)).toNat

/-- The latency of the output stage in nanoseconds: edges that recent are still on their way to the balls (R216). -/
def outNs : Nat := 24

/-- The level of a channel at a time. -/
def Gates.level (g : Gates) (t : Nat) (o : Fin 12) : Bool :=
  g.edges.foldl (fun l e => if e.ch = o ∧ e.at_ ≤ t then e.on else l) g.before[o]

/-- The edges up to a time become the levels before those to come. -/
def Gates.settle (g : Gates) (t : Nat) : Gates :=
  { g with before := vgen 12 fun o => g.level t o, edges := g.edges.filter fun e => decide (t < e.at_) }

/-- Every channel has been off since a time. -/
def Gates.allOff (t : Nat) : Gates := { Gates.reset with chan := tbl 12 ⟨false, t⟩ }

/-- An edge given to a channel; one later than it was due is held back. -/
def Gates.put (g : Gates) (o : Fin 12) (on : Bool) (due t : Nat) : Gates :=
  { g with
    edges := g.edges ++ [⟨t, o, on⟩], chan := g.chan.set o.1 ⟨on, t⟩ o.2, held := if due < t then g.held + 1 else g.held }

/-- A turn-off: never delayed, but held back until the switch has been on for TMIN (R70, R72). -/
def Gates.turnOff (g : Gates) (tmin t : Nat) (o : Fin 12) : Gates :=
  if g.chan[o].on then g.put o false t (max t (g.chan[o].at_ + tmin)) else g

/-- A turn-on: TDEAD after the turn-off of the complement, and held back until the switch has been off for TMIN (R70, R72). -/
def Gates.turnOn (g : Gates) (tdead tmin t : Nat) (o compl : Fin 12) : Gates :=
  if g.chan[o].on then g
  else
    let due := max t (g.chan[compl].at_ + tdead)
    g.put o true due (max due (g.chan[o].at_ + tmin))

/-- A complementary pair is commanded to its active or its inactive switch. -/
def Gates.pair (g : Gates) (tdead tmin t : Nat) (active : Bool) (a b : Fin 12) : Gates :=
  if active then (g.turnOff tmin t b).turnOn tdead tmin t a b else (g.turnOff tmin t a).turnOn tdead tmin t b a

/-- What one compare value commands of a phase in a half period that starts at a time (R69): the times at which its output is to
become active or inactive. After a change of region at a peak the first `gap` of it is inactive (R71). -/
def phaseTimes (full thr start gap : Nat) (peak : Bool) : List (Nat × Bool) :=
  if !peak then
    if thr = 0 then [(start, true)] else if thr < full then [(start, false), (start + thr, true)] else [(start, false)]
  else
    let len := full - thr
    let first := if gap = 0 then [] else [(start, false)]
    if len ≤ gap then [(start, false)]
    else first ++ (start + gap, true) :: (if thr = 0 then [] else [(start + len, false)])

/-- The pairs of a phase: the one that switches, and in an NPC bridge the one whose inner switch is held on (R70, R71). -/
def phasePairs (npc neg : Bool) (p : Fin 3) : (Fin 12 × Fin 12) × Option (Fin 12 × Fin 12) :=
  let at_ (k : Nat) : Fin 12 := ⟨k % 12, Nat.mod_lt _ (by decide)⟩
  if npc then
    let upper := (at_ (4 * p), at_ (4 * p + 2))
    let lower := (at_ (4 * p + 3), at_ (4 * p + 1))
    if neg then (lower, some upper) else (upper, some lower)
  else ((at_ (2 * p), at_ (2 * p + 1)), none)

/-- The edges of a phase in a half period. -/
def Gates.phase (g : Gates) (npc : Bool) (tdead tmin full start : Nat) (peak : Bool) (old new : CmpSet) (p : Fin 3) : Gates :=
  let neg := npc && new.neg[p]
  let gap := if npc && peak && (old.neg[p] != new.neg[p]) then tdead + tmin else 0
  let thr := vat new.thr 0 (if npc then 4 * p else 2 * p)
  let (main, rest) := phasePairs npc neg p
  let g1 := match rest with
    | some x => g.pair tdead tmin start false x.1 x.2
    | none => g
  (phaseTimes full thr start gap peak).foldl (fun g x => g.pair tdead tmin x.1 x.2 main.1 main.2) g1

/-- The zero vector of R136: lower switches on, or T2 and T3. -/
def Gates.zero (g : Gates) (npc : Bool) (tdead tmin t : Nat) : Gates :=
  let one (neg : Bool) (g : Gates) : Gates := (List.finRange 3).foldl (fun g p =>
    let x := (phasePairs npc neg p).1
    g.pair tdead tmin t false x.1 x.2) g
  if npc then one true (one false g) else one false g

/-- The gates of a bridge as they stand now: off since it went off, where that is later than the edges worked out last. -/
def State.gatesNow (s : State) (n : Fin 8) : Gates :=
  let g := s.pwm[n].gates
  { (if g.asOf < s.br[n].offAt then Gates.allOff (t16 s.br[n].offAt) else g.settle (t16 (s.up - outNs))) with held := 0, asOf := s.up }

/-- The gate edges of the half period that begins now: those of the active compare values while the bridge switches and has been
given some (log 121), those of the zero vector, or none. Intervals altered and edges held back count (R72). `old` is the compare set
before this turning point. -/
def State.driveHalf (s : State) (n : Fin 8) (old : CmpSet) : State :=
  let b := s.recOf n
  let p := s.pwm[n]
  let now := t16 s.up
  let g := s.gatesNow n
  let tdead := us16 (s.q Fld.BRIDGE_TDEAD b)
  let tmin := us16 (s.q Fld.BRIDGE_TMIN b)
  if s.switching n ∧ p.prim then
    let g1 := (List.finRange 3).foldl (fun g x => g.phase s.br[n].npc tdead tmin (16 * p.chalf) now p.atPeak old p.active x) g
    s.onPwm n fun p => { p with
      gates := g1, minp := decide (0 < p.active.alt + g1.held), minpCnt := bumpBy p.minpCnt (p.active.alt + g1.held) }
  else if s.br[n].form = .short ∧ !s.disabled n then s.onPwm n fun p => { p with gates := g.zero s.br[n].npc tdead tmin now, minp := false }
  else s.onPwm n fun p => { p with
    gates := { Gates.allOff (if g.chan.toList.any GateCh.on then t16 s.br[n].offAt else (g.chan[(0 : Fin 12)]).at_) with asOf := s.up }
    minp := false }

/-- A bridge goes to the zero vector at once (R136). -/
def State.shortNow (s : State) (n : Fin 8) : State :=
  let b := s.recOf n
  let g := s.gatesNow n
  (s.onBr n fun x => { x with form := .short }).onPwm n fun p => { p with
    gates := g.zero s.br[n].npc (us16 (s.q Fld.BRIDGE_TDEAD b)) (us16 (s.q Fld.BRIDGE_TMIN b)) (t16 s.up) }

/-- The first edge from the time on at which the edges were worked out. -/
def Pwm.firstEdge (p : Pwm) : Option Nat := ((p.gates.edges.map GateEdge.at_).filter fun t => decide (t16 p.gates.asOf ≤ t)).min?

/-! ## Levels -/

/-- The levels in an active short on a side (R227, R228). -/
def shortLevel (npc upper : Bool) (o : Nat) : Bool :=
  if npc then (if upper then decide (o % 4 < 2) else decide (2 ≤ o % 4)) else decide (o < 6) && decide (o % 2 = if upper then 0 else 1)

/-- The level that the output stage gives a gate channel of a bridge at a time in nanoseconds: Garnet's disable and the disable latch
stand behind the PWM engine, and the latch lets the side of an active short pass (R36, R228). -/
def State.gateAt (s : State) (n : Fin 8) (ns : Nat) (o : Fin 12) : Bool :=
  let b := s.br[n]
  let off := s.disabled n || !s.armed[b.mo]
  match b.form with
  | .pblk => false
  | .run => s.switching n && decide (b.offAt ≤ s.pwm[n].gates.asOf) && s.pwm[n].gates.level (t16 ns) o
  | .asc => !off && decide (b.onAt ≤ ns) && (match b.side with
    | .upper => shortLevel b.npc true o
    | .lower => shortLevel b.npc false o
    | _ => false)
  | .short => !off && !b.latch && decide (b.offAt ≤ s.pwm[n].gates.asOf) && s.pwm[n].gates.level (t16 ns) o

/-- The command level of each gate channel of a bridge at a time, in bits 11:0. -/
def State.gateLevels (s : State) (n : Fin 8) (ns : Nat) : Word := word ((List.finRange 12).map fun o => bit o.1 (s.gateAt n ns o))

end Sys2Proof.Machine
end

