-- ==== Sys2Proof/Machine/Predict.lean ====
section
/-! DEFINITION. The predictive current controller (R82): matrices of two rows, the gain matrix at a speed and its interpolation
over the 33 speeds, and one instant of the controller. What the spec leaves open of the model and of the estimator is free (log 124). -/

namespace Sys2Proof.Machine

/-- A matrix of two rows and two columns, row by row. -/
structure Mat2 where
  a : Rat
  b : Rat
  c : Rat
  d : Rat

def mat2Of (x : Rat × Rat × Rat × Rat) : Mat2 := ⟨x.1, x.2.1, x.2.2.1, x.2.2.2⟩
def mat2One : Mat2 := ⟨1, 0, 0, 1⟩
def mat2Zero : Mat2 := ⟨0, 0, 0, 0⟩
def mat2Mul (x y : Mat2) : Mat2 := ⟨x.a * y.a + x.b * y.c, x.a * y.b + x.b * y.d, x.c * y.a + x.d * y.c, x.c * y.b + x.d * y.d⟩
def mat2Add (x y : Mat2) : Mat2 := ⟨x.a + y.a, x.b + y.b, x.c + y.c, x.d + y.d⟩
def mat2Scale (k : Rat) (x : Mat2) : Mat2 := ⟨k * x.a, k * x.b, k * x.c, k * x.d⟩
def mat2T (x : Mat2) : Mat2 := ⟨x.a, x.c, x.b, x.d⟩
def mat2Inv (x : Mat2) : Mat2 :=
  let det := x.a * x.d - x.b * x.c
  ⟨qdiv x.d det, qdiv (-x.b) det, qdiv (-x.c) det, qdiv x.a det⟩
def mat2App (x : Mat2) (v : Rat × Rat) : Rat × Rat := (x.a * v.1 + x.b * v.2, x.c * v.1 + x.d * v.2)

/-- A matrix of the speed with the other sign: the q axis turns round. -/
def mat2Mirror (x : Mat2) : Mat2 := ⟨x.a, -x.b, -x.c, x.d⟩

/-- The gain matrix of a speed: what the change of voltage takes from the reference, from the currents and from the voltage of the
present period. -/
structure MpcGain where
  ref  : Mat2
  cur  : Mat2
  volt : Mat2

/-- Over the horizon: the powers of A and the sums that carry a constant voltage, step by step. -/
def mpcSteps (a b : Mat2) : Nat → Mat2 → Mat2 → List (Mat2 × Mat2)
  | 0, _, _ => []
  | h + 1, pa, sum =>
    let pa2 := mat2Mul a pa
    let g := mat2Add (mat2Mul a sum) b
    (pa2, g) :: mpcSteps a b h pa2 g

/-- The gain that minimises the cost of R82 over one constant voltage: with i(h) = Aʰ·i + G_h·(v + Δv), the sum of |i_ref − i(h)|² and
μ·|Δv|² is least at Δv = (ΣG_hᵀG_h + μ)⁻¹·ΣG_hᵀ·(i_ref − Aʰ·i − G_h·v). -/
def mpcGain (a b : Mat2) (h : Nat) (mu : Rat) : MpcGain :=
  let l := mpcSteps a b h mat2One mat2Zero
  let sum (f : Mat2 × Mat2 → Mat2) : Mat2 := l.foldl (fun t x => mat2Add t (mat2Mul (mat2T x.2) (f x))) mat2Zero
  let inv := mat2Inv (mat2Add (sum Prod.snd) (mat2Scale mu mat2One))
  ⟨mat2Mul inv (sum fun _ => mat2One), mat2Mul inv (sum Prod.fst), mat2Mul inv (sum Prod.snd)⟩

/-- The parameters that one bridge of `cnt` sees: N·R_s, N·L_d and N·L_q in ohms and henries (R76). -/
def State.mpcParams (s : State) (m : Fin 4) (cnt : Nat) : Rat × Rat × Rat :=
  (cnt * s.q Fld.MOTOR_RS m / 1000, cnt * s.q Fld.MOTOR_LD m / 1000, cnt * s.q Fld.MOTOR_LQ m / 1000)

/-- The model of a motor object at an electrical speed in rad/s: the state matrix and the input matrix. -/
def State.mpcModel (s : State) (m : Fin 4) (cnt : Nat) (tl w : Rat) : Mat2 × Mat2 :=
  let (rs, ld, lq) := s.mpcParams m cnt
  (mat2Of (Config.mpcA tl rs ld lq w), mat2Of (Config.mpcB tl rs ld lq w))

/-- The gain matrix in use at a speed: between the two of the 33 speeds that enclose it; beyond the last, the last. -/
def State.mpcGainAt (s : State) (m : Fin 4) (cnt : Nat) (tl w : Rat) : MpcGain :=
  let h := s.n Fld.LOOP_HORIZON m
  let rsI := (s.mpcParams m cnt).1 * s.q Fld.MOTOR_IMAX m
  let mu := s.q Fld.LOOP_LAMBDA m * (rsI * rsI)
  let step := s.loops[m].mpcTop * 5 / 4 / 32
  let x := clampQ 0 32 (qdiv (absQ w) step)
  let j := min 31 (natQ x)
  let one (k : Nat) : MpcGain :=
    let (a, b) := s.mpcModel m cnt tl (step * k)
    mpcGain a b h mu
  let lo := one j
  let hi := one (j + 1)
  let mix (f : MpcGain → Mat2) : Mat2 :=
    let y := mat2Add (mat2Scale (1 - (x - j)) (f lo)) (mat2Scale (x - j) (f hi))
    if w < 0 then mat2Mirror y else y
  ⟨mix (·.ref), mix (·.cur), mix (·.volt)⟩

/-- One instant of the predictive controller of a bridge: the voltages, the prediction for the next instant and the disturbance. The
model is advanced one period with the voltage in force; the back-EMF and the disturbance add to the voltage. -/
def State.mpcStep (s : State) (m : Fin 4) (n : Fin 8) (cnt : Nat) (id iq w th tl : Rat) : (Rat × Rat) × Vector Rat 2 × Vector Rat 2 :=
  let p := s.pwm[n]
  let cbw := s.q Fld.LOOP_CBW m
  let dh : Vector Rat 2 := #v[Config.mpcEstimate cbw tl p.dhat[0] (id - p.ipred[0]), Config.mpcEstimate cbw tl p.dhat[1] (iq - p.ipred[1])]
  let mid := 2 * Config.pi * th + w * tl / 2
  let c := Config.cos mid
  let sn := Config.sin mid
  let v0 := (p.active.vab[0] * c + p.active.vab[1] * sn, p.active.vab[1] * c - p.active.vab[0] * sn)
  let e := (dh[0], dh[1] - w * s.q Fld.MOTOR_PSI m)
  let u := (v0.1 + e.1, v0.2 + e.2)
  let (a, b) := s.mpcModel m cnt tl w
  let x := mat2App a (id, iq)
  let y := mat2App b u
  let i1 := (x.1 + y.1, x.2 + y.2)
  let k := s.mpcGainAt m cnt tl w
  let r := mat2App k.ref (qdiv s.loops[m].idRef cnt, qdiv s.loops[m].iqRef cnt)
  let g := mat2App k.cur i1
  let h := mat2App k.volt u
  ((v0.1 + r.1 - g.1 - h.1, v0.2 + r.2 - g.2 - h.2), #v[i1.1, i1.2], dh)

/-- The gain matrices are computed at S6 or at the taking effect of a delta (R82): the speed at which they end is fixed. -/
def State.mpcTables (s : State) (m : Fin 4) : State :=
  match s.rank0 m with
  | some n => s.onLoop m fun l => { l with
      mpcTop := Config.mpcTop (s.vdc n / Config.sqrt 3) (s.q Fld.MOTOR_PSI m) (s.q Fld.MOTOR_LD m / 1000) (s.q Fld.MOTOR_LQ m / 1000)
        (s.q Fld.MOTOR_IMAX m) }
  | none => s

end Sys2Proof.Machine
end

