-- ==== Sys2Proof/Machine/Loop.lean ====
section
/-! DEFINITION. The current loop and the modulator (chapter 03): angle and observers (R80, R101 to R103, R108, R109), references (R86
to R88), the controllers (R76, R77, R81 to R84), modulation (R69, R72 to R75) and deadlines (R68, R92). -/

namespace Sys2Proof.Machine

/-! ## Angle and speed (R101 to R103) -/

/-- cos and sin of an angle in turns. -/
def cosT (x : Rat) : Rat := Config.cos (2 * Config.pi * x)
def sinT (x : Rat) : Rat := Config.sin (2 * Config.pi * x)

/-- √3. -/
def root3 : Rat := Config.sqrt 3

/-- The direction of the command, +1 or −1. -/
def State.cmdSign (s : State) (m : Fin 4) : Rat := if s.cmd[m].target < 0 then -1 else 1

/-- Electrical turns per second at a speed in rpm, and the speed in rpm at electrical radians per second. -/
def State.elecHz (s : State) (m : Fin 4) (rpm : Rat) : Rat := rpm / 60 * s.n Fld.MOTOR_POLEPAIRS m
def State.rpmOf (s : State) (m : Fin 4) (w : Rat) : Rat := qdiv (w * 60 / (2 * Config.pi)) (s.n Fld.MOTOR_POLEPAIRS m)

/-- Rated speed in electrical radians per second. -/
def State.ratedElec (s : State) (m : Fin 4) : Rat := s.omegaRated m * s.n Fld.MOTOR_POLEPAIRS m

/-- The rotor flux of an induction motor under field weakening (R86, R88). -/
def State.rotorFlux (s : State) (m : Fin 4) : Rat :=
  s.q Fld.MOTOR_PSIR m + s.loops[m].dfw * s.q Fld.MOTOR_LM m / 1000

/-- The slip of an induction motor in electrical radians per second (R86). -/
def State.slipW (s : State) (m : Fin 4) : Rat :=
  qdiv (s.q Fld.MOTOR_RR m / 1000 * s.q Fld.MOTOR_LM m * s.loops[m].iq) (s.q Fld.MOTOR_LR m * s.rotorFlux m)

/-- The time in the present start state, in seconds. -/
def State.inState (s : State) (m : Fin 4) : Rat := ((s.up : Rat) - s.start[m].since) / sec

/-- The stator frequency of the speed search: from 1.1 times rated down to 0 in the commanded direction, then in the other (R109). -/
def State.searchHz (s : State) (m : Fin 4) : Rat :=
  let half := s.q Fld.MOTOR_SRCHT m / 1000
  let t := s.inState m
  let f := 11 / 10 * s.elecHz m (s.q Fld.MOTOR_NRATED m)
  if t ≤ half then s.cmdSign m * f * (1 - qdiv t half) else -(s.cmdSign m) * f * (1 - qdiv (t - half) half)

/-- The change of speed that the reference may make, in rpm a second: RAMPDN of REFSCALE in SPEED, of rated speed in a mode whose
REFSCALE is no speed (log 123). -/
def State.refSlope (s : State) (m : Fin 4) : Rat :=
  s.q Fld.LOOP_RAMPDN m / 100 * (if s.outer[m].mode = .speed then s.q Fld.LOOP_REFSCALE m else s.q Fld.MOTOR_NRATED m)

/-- The frequency of the forced angle in RUN: from the observer's speed where the observer was in control, it follows the speed
reference at the slope of the reference (R103, R110). -/
def State.followHz (s : State) (m : Fin 4) (tl : Rat) : Rat :=
  let x := s.start[m]
  let f0 := if x.asrc = .forced then x.fHz else x.wPll / (2 * Config.pi)
  let goal := s.elecHz m s.cmd[m].refSpd
  let step := s.elecHz m (s.refSlope m) * tl
  if absQ (goal - f0) ≤ step then goal else if f0 < goal then f0 + step else f0 - step

/-- The stator frequency that the start machine forces, in electrical turns per second (R103, R109, R113). -/
def State.forcedHz (s : State) (m : Fin 4) (tl : Rat) : Rat :=
  match s.start[m].state with
  | .iframp => s.cmdSign m * s.q Fld.MOTOR_IFACC m * s.inState m
  | .search => s.searchHz m
  | .run => s.followHz m tl
  | .flux | .sync => s.elecHz m s.start[m].spd
  | _ => 0

/-- The inductances that the observer uses, L_d and L_q in henries; for IM the latter is σ·L_s (R102). -/
def State.obsInd (s : State) (m : Fin 4) : Rat × Rat :=
  (s.q Fld.MOTOR_LD m / 1000, if s.induction m then s.q Fld.MOTOR_LD m / 1000
      - qdiv (s.q Fld.MOTOR_LM m * s.q Fld.MOTOR_LM m) (s.q Fld.MOTOR_LR m) / 1000 else s.q Fld.MOTOR_LQ m / 1000)

/-- The active flux that the observer expects at a d-axis current (R102). -/
def State.activeFlux (s : State) (m : Fin 4) (id : Rat) : Rat :=
  let (ld, lq) := s.obsInd m
  if s.induction m then qdiv (s.q Fld.MOTOR_LM m) (s.q Fld.MOTOR_LR m) * s.rotorFlux m else s.q Fld.MOTOR_PSI m + (ld - lq) * id

/-- The observer placed on an angle in turns and an electrical speed, its flux linkage as it is there (log 123). -/
def State.obsPlace (s : State) (m : Fin 4) (th w iA iB : Rat) : State :=
  let act := s.activeFlux m (iA * cosT th + iB * sinT th)
  let lq := (s.obsInd m).2
  s.onStart m fun x => { x with
    obsAng := th, wPll := w, lamA := lq * iA + act * cosT th, lamB := lq * iB + act * sinT th, obsErr := 0, lockCnt := 0, locked := false }

/-- One step of the back-EMF observer from the motor currents and the voltage applied at the previous instant (R102). While HFI drives
the loop of the angle, only the flux linkage and the error follow (log 123). -/
def State.observe (s : State) (m : Fin 4) (iA iB vA vB tl : Rat) : State :=
  let x := s.start[m]
  let lq := (s.obsInd m).2
  let rs := s.q Fld.MOTOR_RS m / 1000
  let c := cosT x.obsAng
  let sn := sinT x.obsAng
  let act := s.activeFlux m (iA * c + iB * sn)
  let wo := 2 * Config.pi * s.q Fld.MOTOR_OBSBW m
  let wn := 2 * Config.pi * s.q Fld.MOTOR_PLLBW m
  let refA := lq * iA + act * c
  let refB := lq * iB + act * sn
  let lamA := x.lamA + tl * (vA - rs * iA) - wo * tl * (x.lamA - refA)
  let lamB := x.lamB + tl * (vB - rs * iB) - wo * tl * (x.lamB - refB)
  let pA := lamA - lq * iA
  let pB := lamB - lq * iB
  let err := qdiv (pB * c - pA * sn) (Config.sqrt (pA * pA + pB * pB))
  let hfi := x.asrc == .hfi
  let w := if hfi then x.wPll else x.wPll + wn * wn * tl * err
  let th2 := if hfi then x.obsAng else wrapQ 1 (x.obsAng + tl * (w + 2 * wn * err) / (2 * Config.pi))
  let ok := decide (absQ err < 174 / 1000) && decide (5 / 100 * s.ratedElec m ≤ absQ w)
  s.onStart m fun y => { y with
    lamA := lamA, lamB := lamB, wPll := w, obsAng := th2, obsErr := if y.state = .hfi then y.obsErr else err
    lockCnt := if y.state = .hfi then y.lockCnt else if ok then min 16 (y.lockCnt + 1) else 0
    locked := y.state != .hfi && ok && decide (16 ≤ y.lockCnt + 1) }

/-- The observer at an instant: in IFRAMP it runs from 3 % of rated speed and is held on the forced angle below (R113). -/
def State.backEmfStep (s : State) (m : Fin 4) (iA iB vA vB tl : Rat) : State :=
  let x := s.start[m]
  if s.n Fld.MOTOR_POSMODE m = 0 then s
  else if x.state = .iframp ∧ s.slower m (3 / 100) then s.obsPlace m x.ang (2 * Config.pi * s.forcedHz m tl) iA iB
  else s.observe m iA iB vA vB tl

/-- One step of the HFI tracking loop (R103): the change of the q-axis current since the last instant, in the sign of the voltage
injected then, drives the loop of R102 at PLLBW/2. Once its error has stayed small for 16 instants the polarity test of R112 begins. -/
def State.hfiStep (s : State) (m : Fin 4) (iA iB vdc tl : Rat) : State :=
  s.onStart m fun x =>
    let iq := iB * cosT x.obsAng - iA * sinT x.obsAng
    let v := s.q Fld.MOTOR_HFIV m / 100 * vdc / root3
    let err := Config.hfiError ((iq - x.hfiIq) * (if x.hfiPos then 1 else -1)) (v * tl)
    let wn := Config.pi * s.q Fld.MOTOR_PLLBW m
    let w := x.wPll + wn * wn * tl * err
    let th := wrapQ 1 (x.obsAng + tl * (w + 2 * wn * err) / (2 * Config.pi))
    let cnt := if absQ err < 174 / 1000 then min 16 (x.lockCnt + 1) else 0
    if x.state = .hfi then
      { x with wPll := w, obsAng := th, ang := th, obsErr := err, lockCnt := cnt, hfiIq := iq, hfiPos := !x.hfiPos
               polN := if 0 < x.polN then min 17 (x.polN + 1) else if cnt = 16 then 1 else 0 }
    else { x with wPll := w, obsAng := th, ang := th, hfiIq := iq, hfiPos := !x.hfiPos }

/-- One step of the loop that follows the terminal voltages in MEASURE: the loop of R102 on the angle of the voltage vector (R108). -/
def State.emfStep (s : State) (m : Fin 4) (vA vB tl : Rat) : State :=
  s.onStart m fun x =>
    let wn := 2 * Config.pi * s.q Fld.MOTOR_PLLBW m
    let mag := Config.sqrt (vA * vA + vB * vB)
    let err := qdiv (vB * cosT x.emfAng - vA * sinT x.emfAng) mag
    let w := x.emfW + wn * wn * tl * err
    { x with emfW := w, emfMag := mag, emfAng := wrapQ 1 (x.emfAng + tl * (w + 2 * wn * err) / (2 * Config.pi)) }

/-- The voltage at which a motor of this flux turns at rated speed. -/
def State.ratedEmf (s : State) (m : Fin 4) : Rat :=
  (if s.induction m then s.q Fld.MOTOR_PSIR m else s.q Fld.MOTOR_PSI m) * s.ratedElec m

/-- What the terminal voltages tell of the electrical speed: nothing below the floor of 1 % (R108). -/
def State.emfSpeed (s : State) (m : Fin 4) : Rat := if s.start[m].emfMag < s.ratedEmf m / 100 then 0 else s.start[m].emfW

/-- The angle of the flux behind the terminal voltages: a quarter of a turn behind the voltage in the direction of turning. -/
def State.emfTheta (s : State) (m : Fin 4) : Rat := wrapQ 1 (s.start[m].emfAng - (signQ s.start[m].emfW : Rat) / 4)

/-- A remanent voltage of 2 % of the voltage at rated flux and speed is usable (R109, log 123). -/
def State.residual (s : State) (m : Fin 4) : Bool := decide (s.ratedEmf m * 2 / 100 ≤ s.start[m].emfMag)

/-- The observer's own speed is below a share of rated speed. -/
def State.obsSlower (s : State) (m : Fin 4) (share : Rat) : Bool := decide (absQ s.start[m].wPll < share * s.ratedElec m)

/-- The source of the angle in the present state: what is forced, injected, observed or sensed (R101, R103, R106). -/
def State.angleSource (s : State) (m : Fin 4) : AngleSrc :=
  let x := s.start[m]
  let sensed := s.n Fld.MOTOR_POSMODE m != 1 && !x.fallback
  let low : AngleSrc := if s.n Fld.MOTOR_TYPE m = 1 then .hfi else .forced
  match x.state with
  | .hfi => .hfi
  | .align | .iframp | .search => .forced
  | .run =>
    if sensed then .sensor
    else match x.asrc with
      | .observer => if s.obsSlower m (4 / 100) then low else .observer
      | _ => if x.locked then .observer else low
  | .sync | .flux =>
    if sensed && s.sourceValid m then .sensor else if s.induction m then .forced else .observer
  | _ => if sensed && s.sourceValid m then .sensor else .observer

/-- The decoupling terms of R81 for one bridge of `cnt`: what they add to v_d and to v_q. -/
def State.decouple (s : State) (m : Fin 4) (cnt : Nat) (id iq w : Rat) : Rat × Rat :=
  (-(w * (cnt * s.q Fld.MOTOR_LQ m / 1000) * iq), w * (cnt * s.q Fld.MOTOR_LD m / 1000 * id + s.q Fld.MOTOR_PSI m))

/-- The integrators of the bridges that switch are preset so that their voltages stand as they are when the frame turns to an angle, `d` on
from the one in use (R113). -/
def State.keepVoltage (s : State) (m : Fin 4) (to_ d : Rat) : State :=
  let cnt := (s.feeding m).length
  let w := 2 * Config.pi * s.elecHz m (s.rpm m)
  ((s.feeding m).filter fun n => s.switching n).foldl (fun s n => s.onPwm n fun p =>
    let id := p.iab[0] * cosT to_ + p.iab[1] * sinT to_
    let iq := p.iab[1] * cosT to_ - p.iab[0] * sinT to_
    let dec := if s.yes Fld.LOOP_DECOUPLE m then s.decouple m cnt id iq w else (0, 0)
    { p with xd := p.vd * cosT d + p.vq * sinT d - dec.1, xq := p.vq * cosT d - p.vd * sinT d - dec.2 }) s

/-- A change of source in RUN keeps the current vector: the references start from it, turned into the new frame, and reach those of the
new source in 20 ms (R103, R113, log 123). -/
def State.sourceChange (s : State) (m : Fin 4) (src : AngleSrc) (to_ : Rat) : State :=
  let x := s.start[m]
  let l := s.loops[m]
  let d := to_ - x.ang
  if x.state = .run ∧ x.asrc ≠ src ∧ (src = .forced ∨ x.asrc = .forced) then
    (if x.asrc = .forced then s.keepVoltage m to_ d else s).onStart m fun y => { y with
      ramp := some (s.up, l.idRef * cosT d + l.iqRef * sinT d, l.iqRef * cosT d - l.idRef * sinT d) }
  else s

/-- Angle and speed in use are brought to this instant, on the rank-0 bridge (R80, R86, R101). The angle of an induction motor is that
of the rotor flux: with a sensor it advances by rotor speed and slip; a forced or observed angle is itself that of the flux, and the
observed speed is less the slip (log 123). -/
def State.angleStep (s : State) (m : Fin 4) (n : Fin 8) (iA iB tl : Rat) : State :=
  let src := s.angleSource m
  let x := s.start[m]
  let st : StartState := x.state
  let from_ := if x.asrc = .observer then x.obsAng else x.ang
  let f := s.forcedHz m tl
  let s0 := s.sourceChange m src (match src with | .forced => from_ | _ => x.obsAng)
  let s1 : State := match src with
    | .sensor => s0.onStart m fun y => { y with ang := s.pwm[n].th, spd := s.sourceRpm m }
    | .observer =>
      if st = .measure then
        (s0.onStart m fun y => { y with ang := s.emfTheta m, spd := s.rpmOf m (s.emfSpeed m) })
      else s0.onStart m fun y => { y with
        ang := y.obsAng, spd := s.rpmOf m (y.wPll - (if s.induction m then s.slipW m else 0)) }
    | .hfi => (s0.hfiStep m iA iB (s.vlink n) tl).onStart m fun y => { y with spd := s.rpmOf m y.wPll }
    | .forced => s0.onStart m fun y => { y with
        fHz := f
        ang := if st = .align then 0 else wrapQ 1 (from_ + tl * f)
        spd := if st = .run ∨ st = .iframp then s.rpmOf m (2 * Config.pi * f) else y.spd }
  let s2 := s1.onStart m fun y => { y with asrc := src, angAt := s.pwm[n].instAt }
  if s.induction m then
    let a := if src = .sensor then
        wrapQ 1 (s.loops[m].fluxAng + tl * (s.elecHz m s2.start[m].spd + s.slipW m / (2 * Config.pi)))
      else s2.start[m].ang
    (s2.onLoop m fun l => { l with fluxAng := a }).onStart m fun y => { y with ang := a }
  else s2

/-- The angle of a bridge at its own instant: what the sensor latched there, else that of the motor object carried to it (R80). -/
def State.bridgeAngle (s : State) (m : Fin 4) (n : Fin 8) : Rat :=
  let x := s.start[m]
  if s.rank0 m = some n then x.ang
  else if x.asrc = .sensor ∧ !s.induction m then s.pwm[n].th
  else wrapQ 1 (x.ang + s.elecHz m (s.rpm m) * (((s.pwm[n].instAt : Rat) - x.angAt) / sec))

/-! ## From torque to references (R86 to R88) -/

/-- The d-axis current of MTPA at a current, and the torque over 1.5·p that both give. -/
def State.mtpaId (s : State) (m : Fin 4) (i : Rat) : Rat :=
  let psi := s.q Fld.MOTOR_PSI m
  let dl := (s.q Fld.MOTOR_LQ m - s.q Fld.MOTOR_LD m) / 1000
  qdiv (psi - Config.sqrt (psi * psi + 8 * dl * dl * i * i)) (4 * dl)
def State.mtpaTorque (s : State) (m : Fin 4) (i : Rat) : Rat :=
  let id := s.mtpaId m i
  (s.q Fld.MOTOR_PSI m + (s.q Fld.MOTOR_LD m - s.q Fld.MOTOR_LQ m) / 1000 * id) * Config.sqrt (i * i - id * id)

/-- The torque over 1.5·p at IMAX, where the table ends. -/
def State.mtpaEnd (s : State) (m : Fin 4) : Rat := s.mtpaTorque m (s.q Fld.MOTOR_IMAX m)

/-- Where a rising function reaches a value, by halving a stretch. -/
def halving (f : Rat → Rat) (goal : Rat) : Nat → Rat → Rat → Rat
  | 0, lo, hi => (lo + hi) / 2
  | k + 1, lo, hi => let mid := (lo + hi) / 2; if f mid < goal then halving f goal k mid hi else halving f goal k lo mid

/-- The MTPA currents at a torque over 1.5·p: the current is the one whose torque it is (log 125). -/
def State.mtpaPoint (s : State) (m : Fin 4) (tp : Rat) : Rat × Rat :=
  let i := halving (s.mtpaTorque m) tp 40 0 (s.q Fld.MOTOR_IMAX m)
  let id := s.mtpaId m i
  (id, Config.sqrt (i * i - id * id))

/-- The table of 65 points, interpolated linearly in |T|; beyond its end the last point. -/
def State.mtpa (s : State) (m : Fin 4) (tp : Rat) : Rat × Rat :=
  let top := s.mtpaEnd m
  let x := clampQ 0 64 (qdiv (absQ tp) top * 64)
  let j := min 63 (natQ x)
  let a := s.mtpaPoint m (top * j / 64)
  let b := s.mtpaPoint m (top * (j + 1) / 64)
  let r := x - j
  let iq := a.2 + (b.2 - a.2) * r
  (a.1 + (b.1 - a.1) * r, if tp < 0 then -iq else iq)

/-- Field weakening at an instant of the rank-0 bridge (R88). It runs before the controller, on the voltages of the instant before: the
rule gives no order of the two (DESIGN CHOICE, log 125). -/
def State.weaken (s : State) (m : Fin 4) (vdc tl idTab : Rat) : State :=
  let l := s.loops[m]
  let vm := s.q Fld.LOOP_VMARGIN m * vdc / root3
  let v := Config.sqrt (l.vd * l.vd + l.vq * l.vq)
  let raw := minQ 0 (l.dfw + s.q Fld.LOOP_KFW m * tl * (vm - v))
  let bound := if s.induction m then (s.q Fld.MOTOR_FLXMIN m - 1) * qdiv (s.q Fld.MOTOR_PSIR m) (s.q Fld.MOTOR_LM m / 1000)
    else s.q Fld.MOTOR_IDMIN m - idTab
  let dfw := maxQ raw bound
  let lim := decide (raw < bound) && decide (vm < v)
  (s.onLoop m fun x => { x with dfw := dfw, vm := v, fwAct := decide (dfw < 0), fwLim := lim }).raiseIf (lim && !l.fwLim) .FW_LIMIT m

/-- The current references of a motor object before the limit, by the state of its start machine (R86, R88, R106, R108, R109, R112,
R113). On an induction motor the current IFI and the flux current add on the d axis of the forced angle: R103 applies both and names no
axis (DESIGN CHOICE, log 123). -/
def State.rawRefs (s : State) (m : Fin 4) : Rat × Rat :=
  let p := s.n Fld.MOTOR_POLEPAIRS m
  let t := s.loops[m].tref
  let imax := s.q Fld.MOTOR_IMAX m
  let flux := qdiv (s.rotorFlux m) (s.q Fld.MOTOR_LM m / 1000)
  let ifi := s.q Fld.MOTOR_IFI m / 100 * imax
  let im := if s.induction m then flux else 0
  match s.start[m].state with
  | .run =>
    if s.start[m].asrc = .forced then (ifi + im, 0)
    else match s.n Fld.MOTOR_TYPE m with
    | 0 => (s.loops[m].dfw, qdiv t (3 / 2 * p * s.q Fld.MOTOR_PSI m))
    | 1 =>
      let r := s.mtpa m (qdiv t (3 / 2 * p))
      (r.1 + s.loops[m].dfw, r.2)
    | _ =>
      let iq := qdiv (t * s.q Fld.MOTOR_LR m) (3 / 2 * p * s.q Fld.MOTOR_LM m * s.rotorFlux m)
      (flux, iq)
  | .align => (ifi * minQ 1 (qdiv (s.inState m) (s.q Fld.MOTOR_IFALIGN m / 4000)) + im, 0)
  | .iframp => (ifi + im, 0)
  | .hfi =>
    let pulse := s.q Fld.MOTOR_HFIPOL m / 100 * imax
    let k := s.start[m].polN
    (if 1 ≤ k ∧ k ≤ 8 then pulse else if 9 ≤ k ∧ k ≤ 16 then -pulse else 0, 0)
  | .search => (s.q Fld.MOTOR_SRCHI m / 100 * imax, 0)
  | .flux => (flux, 0)
  | _ => (0, 0)

/-- The references within the 20 ms ramp that follows a lock in IFRAMP or a change of source (R103, R113 step 4). -/
def State.rampedRefs (s : State) (m : Fin 4) : Rat × Rat :=
  let (d, q) := s.rawRefs m
  match s.start[m].ramp with
  | some (t, d0, q0) =>
    if s.start[m].state = .run ∧ s.up < t + 20 * ms then
      let r : Rat := ((s.up : Rat) - t) / (20 * ms)
      (d0 + (d - d0) * r, q0 + (q - q0) * r)
    else (d, q)
  | none => (d, q)

/-- The references under the current limit, d axis first (R87). -/
def State.refStep (s : State) (m : Fin 4) : State :=
  let (d0, q0) := s.rampedRefs m
  let im := s.imaxEff m
  let d := clampQ (-im) im d0
  let cut := decide (im * im - d * d < q0 * q0)
  let q := if cut then (signQ q0 : Rat) * Config.sqrt (im * im - d * d) else q0
  let was := s.loops[m].iLim
  (s.onLoop m fun l => { l with idRef := d, iqRef := q, iLim := cut, imax := im }).raiseIf (cut && !was) .CUR_LIMIT m

/-! ## The controller of one bridge (R76, R81, R82) -/

/-- Gains of R81, computed where the field is 0, with CBW at most f_L/10. -/
def State.gainOf (s : State) (m : Fin 4) (f : Field) (tl base : Rat) : Rat :=
  let g := s.q f m
  if g = 0 then base * (2 * Config.pi * minQ (s.q Fld.LOOP_CBW m) (qdiv 1 (10 * tl))) else g

/-- One instant of the PI controller: the voltages before the limit, and the integrators (R81). -/
def State.piStep (s : State) (m : Fin 4) (p : Pwm) (n : Nat) (id iq w tl : Rat) : Rat × Rat × Rat × Rat :=
  let ld := n * s.q Fld.MOTOR_LD m / 1000
  let lq := n * s.q Fld.MOTOR_LQ m / 1000
  let rs := n * s.q Fld.MOTOR_RS m / 1000
  let ed := qdiv s.loops[m].idRef n - id
  let eq := qdiv s.loops[m].iqRef n - iq
  let held (e x : Rat) : Bool := p.vsat && decide (0 < e * x)
  let xd := if held ed p.xd then p.xd else p.xd + s.gainOf m Fld.LOOP_KID tl rs * tl * ed
  let xq := if held eq p.xq then p.xq else p.xq + s.gainOf m Fld.LOOP_KIQ tl rs * tl * eq
  let dec := if s.yes Fld.LOOP_DECOUPLE m then s.decouple m n id iq w else (0, 0)
  let vd := s.gainOf m Fld.LOOP_KPD tl ld * ed + xd + dec.1
  let vq := s.gainOf m Fld.LOOP_KPQ tl lq * eq + xq + dec.2
  (vd, vq, xd, xq)

/-- The circulating-current controller of a bridge on its three axes (R77): the integrators, the currents and the corrections. -/
def State.circStep (s : State) (m : Fin 4) (n : Fin 8) (tl : Rat) : Vector Rat 3 × Vector Rat 3 × Vector Rat 3 :=
  let fs := s.feeding m
  let ic := vgen 3 fun a => s.pwm[n].iab[a] - qdiv (fs.foldl (fun t j => t + (s.pwm[j].iab)[a]) 0) fs.length
  let xc := vgen 3 fun a => s.pwm[n].xc[a] + s.q Fld.MOTOR_CIRCKI m * tl * ic[a]
  let dv := vgen 3 fun a => -(s.q Fld.MOTOR_CIRCKP m * ic[a] + xc[a])
  (xc, ic, dv)

/-! ## Modulation (R69, R72 to R75) -/

/-- The dead-time compensation of a phase (R84). -/
def State.deadComp (s : State) (n : Fin 8) (vdc i : Rat) : Rat :=
  let b := s.recOf n
  if s.yes Fld.BRIDGE_DTCOMP b then
    let fc := qdiv 200000000 s.pwm[n].chalf
    let step := if s.br[n].npc then vdc / 2 else vdc
    let dv := s.q Fld.BRIDGE_TDEAD b / 1000000 * fc * step + s.q Fld.BRIDGE_VFD b
    let band := s.q Fld.BRIDGE_DTBAND b / 100 * s.q Fld.BRIDGE_IMAX b
    dv * clampQ (-1) 1 (qdiv i band)
  else 0

/-- The law in force at an instant (R74): DPWM_AUTO decides for compare values that become active at a valley. -/
def State.lawNow (s : State) (n : Fin 8) (mi : Rat) : Bool × Nat :=
  let p := s.pwm[n]
  match s.n Fld.BRIDGE_MOD (s.recOf n) with
  | 1 => (true, 1)
  | 2 =>
    let on := s.q Fld.BRIDGE_DPWMON (s.recOf n)
    let d := if !p.atPeak && !p.single then p.dpwm1 else if on ≤ mi then true else if mi < on - 5 / 100 then false else p.dpwm1
    (d, if d then 1 else 0)
  | 3 => (false, 2)
  | _ => (false, 0)

/-- The neutral-point part of the zero sequence (R75). -/
def State.npPart (s : State) (n : Fin 8) (vdc vA vB iA iB dv : Rat) : Rat :=
  let b := s.recOf n
  if s.br[n].npc then
    let p := vA * iA + vB * iB
    let rated := 3 / 2 * s.q Fld.BRIDGE_IMAX b * vdc / root3
    let sg := clampQ (-1) 1 (qdiv p (2 / 100 * rated))
    clampQ (-(s.q Fld.BRIDGE_NPLIM b) * vdc / 2) (s.q Fld.BRIDGE_NPLIM b * vdc / 2)
      (s.q Fld.BRIDGE_NPKP b * qdiv dv vdc * sg * (vdc / 2))
  else 0

/-- An interval of one half period under TMIN, in counts (R72): the interval and how many were altered. -/
def minPulse (chalf tmin t : Rat) : Rat × Nat :=
  let up (t : Rat) : Rat × Nat := if 0 < t ∧ t < tmin / 2 then (0, 1) else if tmin / 2 ≤ t ∧ t < tmin then (tmin, 1) else (t, 0)
  let a := up t
  let b := up (chalf - a.1)
  (chalf - b.1, a.2 + b.2)

/-- The compare set of a bridge from its three phase numbers and the voltage vector they give (R69, R72). -/
def compareSet (npc : Bool) (chalf tmin : Rat) (law : Nat) (d : Vector Rat 3) (vab : Vector Rat 2) : CmpSet :=
  let one (x : Rat) : Nat × Nat :=
    let r := minPulse chalf tmin (absQ x * chalf)
    ((roundQ ((chalf - r.1) * 16)).toNat, r.2)
  let r := vgen 3 fun p => one d[p]
  { thr := vgen 12 fun o => (vat r (0, 0) (if npc then o.1 / 4 else o.1 / 2)).1
    law := law, alt := r[0].2 + r[1].2 + r[2].2, neg := vgen 3 fun p => decide (d[p] < 0), vab := vab }

/-- α and β of three phase quantities, and what is common to them. -/
def clarke (a b c : Rat) : Rat × Rat × Rat := ((2 * a - b - c) / 3, qdiv (b - c) root3, (a + b + c) / 3)

/-- A part of the zero sequence that gives way: it is cut back towards 0 by what the sum exceeds an end by (R74). -/
def giveWay (lo hi part rest : Rat) : Rat :=
  if hi < part + rest then (if 0 < part then maxQ 0 (hi - rest) else part)
  else if part + rest < lo then (if part < 0 then minQ 0 (lo - rest) else part)
  else part

/-- The midpoint error ΔV_np of a bridge (R75). -/
def State.npError (s : State) (n : Fin 8) : Rat := if s.br[n].npc then s.vlink n - 2 * s.vLower n else 0

/-- A voltage vector of a bridge becomes compare values (R73, R74, R75, R84): the changed PWM state, and the values. The dead-time
compensation comes before the limit and the zero sequence; what it adds in common to the three phases is no part of the vector that the
limit scales. -/
def State.modulate (s : State) (n : Fin 8) (vA0 vB0 v0circ : Rat) : Pwm × CmpSet :=
  let p := s.pwm[n]
  let b := s.recOf n
  let npc := s.br[n].npc
  let vdc := s.vlink n
  let (vA1, vB1, z) := clarke (vA0 + s.deadComp n vdc (s.phaseI n 0)) (-vA0 / 2 + root3 / 2 * vB0 + s.deadComp n vdc (s.phaseI n 1))
    (-vA0 / 2 - root3 / 2 * vB0 + s.deadComp n vdc (s.phaseI n 2))
  let len2 := vA1 * vA1 + vB1 * vB1
  let sat := decide (vdc * vdc < 3 * len2)
  let k := if sat then qdiv (qdiv vdc root3) (Config.sqrt len2) else 1
  let vA := vA1 * k
  let vB := vB1 * k
  let mi := qdiv (Config.sqrt (vA * vA + vB * vB)) (qdiv vdc root3)
  let v : Vector Rat 3 := #v[vA + z, -vA / 2 + root3 / 2 * vB + z, -vA / 2 - root3 / 2 * vB + z]
  let vmax := maxQ (maxQ v[0] v[1]) v[2]
  let vmin := minQ (minQ v[0] v[1]) v[2]
  let (dp, law) := s.lawNow n mi
  let v0mod := if law = 1 then (if -vmin ≤ vmax then vdc / 2 - vmax else -vdc / 2 - vmin) else -(vmax + vmin) / 2
  let dv := s.npError n
  let lo := -vdc / 2 - vmin
  let hi := vdc / 2 - vmax
  let np := giveWay lo hi (s.npPart n vdc vA vB p.iab[0] p.iab[1] dv) (v0mod + v0circ)
  let v0 := v0mod + np + giveWay lo hi v0circ (v0mod + np)
  let d := vgen 3 fun x => if npc then clampQ (-1) 1 (qdiv (v[x] + v0) (vdc / 2)) else clampQ 0 1 (1 / 2 + qdiv (v[x] + v0) vdc)
  ({ p with vsat := sat, vsatCnt := if sat then bump p.vsatCnt else p.vsatCnt, dpwm1 := dp },
   compareSet npc p.chalf (s.q Fld.BRIDGE_TMIN b * 400) law d #v[vA, vB])

/-- What the neutral point and the circulating currents show at an instant ends their latched conditions (R75, R77). -/
def State.balanceBack (s : State) (n : Fin 8) (m : Fin 4) : State :=
  let lim := s.q Fld.BRIDGE_NPTRIP (s.recOf n) / 100 * s.vlink n
  let s1 := if s.pwm[n].npUnbal ∧ absQ s.pwm[n].npdv ≤ lim then
      (s.onPwm n fun p => { p with npUnbal := false }).causeGone m .NP_UNBAL n else s
  let quiet := (s.feeding m).all fun j =>
    let x := s.q Fld.MOTOR_CIRCMAX m / 100 * s.q Fld.BRIDGE_IMAX (s.recOf j)
    let y := s.pwm[j].ic
    decide (y[0] * y[0] + y[1] * y[1] + y[2] * y[2] ≤ x * x)
  if s1.loops[m].circHi ∧ quiet then (s1.onLoop m fun l => { l with circHi := false }).causeGone m .CIRC_HIGH m else s1

/-! ## The task -/

/-- The newest current reference of an instant: the last item of the reference flow, as a single-precision torque (R79). -/
def torqueOf (it : Item) : Option Rat := match ofF32 (wordAt it.payload 0) with | .num q => some q | _ => none

/-- Flow QF[8·j + n] of a bridge (R89). -/
def bridgeFlow (j : Nat) (n : Fin 8) : Fin 256 := ⟨(8 * j + n.1) % 256, Nat.mod_lt _ (by decide)⟩

/-- The flows of the task are popped until EMPTY: the stamps of the measurement items, of which a poisoned one counts as never arrived
(R295), and the newest reference (R79). -/
def State.popLoopFlows (s : State) (n : Fin 8) : List Nat × State :=
  let port := s.taskPort n
  let (items, s1) := s.popAll port (bridgeFlow 0 n)
  let (refs, s2) := s1.popAll port (bridgeFlow 1 n)
  ((items.filter fun it => !it.poison).map fun it => ofBytesLE (it.payload.take 8), match (refs.getLast?).bind torqueOf with
    | some t => s2.onLoop s.br[n].mo fun l => { l with tref := t }
    | none => s2)

/-- The code of an input from the items of the instant: the result of the sequence that reads it, where an item of that sequence
carries its stamp and no older one than the instant's; else the code in use stays (R79). -/
def State.newCode (s : State) (n : Fin 8) (stamps : List Nat) (j : Nat) : Int :=
  match ainOf (s.inputCode n j) with
  | none => 0
  | some i => match s.readerOf i with
    | some x =>
      let q := vat (vat s.cells .reset (i / 12)).sq .reset (x / 16)
      if stamps.contains q.stamp ∧ s.pwm[n].stamp.toNat ≤ q.stamp then (vat q.res .reset (x % 16)).value else s.smpOf n j
    | none => s.smpOf n j

/-- The samples of the instant: codes in use and the currents in stator coordinates. -/
def State.sampleBridge (s : State) (n : Fin 8) (stamps : List Nat) : State :=
  let s1 := s.onPwm n fun p => { p with smp := vgen 8 fun j => s.newCode n stamps j }
  let (a, b, z) := clarke (s1.phaseI n 0) (s1.phaseI n 1) (s1.phaseI n 2)
  s1.onPwm n fun p => { p with iab := #v[a, b, z], npdv := s1.npError n }

/-- The motor currents: the sums over the feeding bridges. -/
def State.motorAB (s : State) (m : Fin 4) : Rat × Rat :=
  (s.feeding m).foldl (fun t j => (t.1 + (s.pwm[j].iab)[0], t.2 + (s.pwm[j].iab)[1])) (0, 0)

/-- The sign of the active power in the speed search: its first change gives the frequency of the crossing (R109). -/
def State.searchStep (s : State) (m : Fin 4) (p : Rat) : State :=
  s.onStart m fun x =>
    if x.state = .search then
      { x with pPos := if p = 0 then x.pPos else decide (0 < p)
               cross := if x.cross = none ∧ x.pPos ∧ p < 0 then some (s.searchHz m) else x.cross }
    else x

/-- What the rank-0 bridge does for the whole motor object at an instant: observers, angle, totals, weakening, references. Field
weakening is held at 0 while no bridge switches (R79). -/
def State.rank0Step (s : State) (m : Fin 4) (n : Fin 8) (tl : Rat) : State :=
  let (iA, iB) := s.motorAB m
  let v := s.pwm[n].vab
  let s0 := if s.start[m].state = .measure then s.emfStep m v[0] v[1] tl else s.searchStep m (v[0] * iA + v[1] * iB)
  let s2 := (s0.backEmfStep m iA iB v[0] v[1] tl).angleStep m n iA iB tl
  let th := s2.start[m].ang
  let id := iA * cosT th + iB * sinT th
  let iq := iB * cosT th - iA * sinT th
  let s3 := (s2.onLoop m fun l => { l with id := id, iq := iq, nbr := (s.feeding m).length }).onStart m fun x =>
    if x.state = .sync then { x with peak2 := maxQ x.peak2 (id * id + iq * iq) } else x
  let tab := if s.n Fld.MOTOR_TYPE m = 1 then (s.mtpa m (qdiv s.loops[m].tref (3 / 2 * s.n Fld.MOTOR_POLEPAIRS m))).1 else 0
  let s4 := if (s.feeding m).any fun j => s.switching j then s3.weaken m (s.vlink n) tl tab
    else s3.onLoop m fun l => { l with dfw := 0, fwAct := false, fwLim := false }
  s4.refStep m

/-- The voltage that HFI injects on the estimated d axis (R103). -/
def State.hfiVolt (s : State) (m : Fin 4) (vdc : Rat) : Rat :=
  if s.start[m].asrc = .hfi then
    (if s.start[m].hfiPos then 1 else -1) * (s.q Fld.MOTOR_HFIV m / 100) * vdc / root3
  else 0

/-- The controller of a bridge and its modulator: the values to post (R81 to R84, R73). VOLT_SAT is raised when the first bridge of the
motor object saturates after an instant at which none did: R73 does not say whether bridge or motor object is meant (DESIGN CHOICE, log
125). -/
def State.controlBridge (s : State) (m : Fin 4) (n : Fin 8) (tl : Rat) : State × CmpSet :=
  let cnt := (s.feeding m).length
  let th := s.bridgeAngle m n
  let hz := s.elecHz m (s.rpm m)
  let w := 2 * Config.pi * hz
  let i := s.pwm[n].iab
  let id := i[0] * cosT th + i[1] * sinT th
  let iq := i[1] * cosT th - i[0] * sinT th
  let (vd, vq, s1) := if s.loops[m].mpc then
      let (v, pred, dh) := s.mpcStep m n cnt id iq w th tl
      (v.1, v.2, s.onPwm n fun p => { p with ipred := pred, dhat := dh })
    else
      let (vd, vq, xd, xq) := s.piStep m s.pwm[n] cnt id iq w tl
      (vd, vq, s.onPwm n fun p => { p with xd := xd, xq := xq })
  let out := th + hz * 3 / 2 * tl
  let inj := vd + s.hfiVolt m (s.vlink n)
  let vA := inj * cosT out - vq * sinT out
  let vB := inj * sinT out + vq * cosT out
  let inter := s.n Fld.MOTOR_BRMODE m = 0 ∧ 2 ≤ cnt
  let (xc, ic, dv) := if inter then s1.circStep m n tl else (s.pwm[n].xc, tbl 3 0, tbl 3 0)
  let s2 := s1.onPwm n fun p => { p with xc := xc, ic := ic, vd := vd, vq := vq }
  let (p, set) := s2.modulate n (vA + dv[0]) (vB + dv[1]) dv[2]
  let was := s.loops[m].vsat
  let s3 := s2.onPwm n fun _ => p
  let any := (s.feeding m).any fun j => (s3.pwm[j]).vsat
  let s4 := (s3.onLoop m fun l => { l with
    vsat := any, run := true
    vd := if s.rank0 m = some n then vd else l.vd
    vq := if s.rank0 m = some n then vq else l.vq
    circ := vmodN l.circ (s.rankOf n) fun _ => Config.sqrt (ic[0] * ic[0] + ic[1] * ic[1] + ic[2] * ic[2]) }).raiseIf
    (any && !was) .VOLT_SAT m
  (s4, set)

/-- The integrators of a bridge that does not switch are held at their presets (R79), the terminal voltages are those sampled, and what
was observed of switching ends. -/
def State.idleBridge (s : State) (m : Fin 4) (n : Fin 8) : State :=
  let (vA, vB, _) := clarke (s.phaseV n 0) (s.phaseV n 1) (s.phaseV n 2)
  let s1 := s.onPwm n fun p => { p with
    xd := 0, xq := 0, xc := tbl 3 0, ic := tbl 3 0, dhat := tbl 2 0, ipred := tbl 2 0, dpwm1 := false, vsat := false, misses := 0
    vab := #v[vA, vB] }
  s1.onLoop m fun l => { l with vsat := (s1.feeding m).any fun j => s1.pwm[j].vsat }

/-- New values posted for a bridge reflect every setpoint whose reference the loops have (R33). -/
def LatRun.posts (r : LatRun) (n : Fin 8) : LatRun :=
  if r.stage = .posted ∧ r.bridge[n] = 0 then { r with bridge := r.bridge.set n 1 } else r

/-- The bytes of a compare item. -/
def cmpBytes (c : CmpSet) : List Byte := c.thr.toList.flatMap fun t => bytesLE 4 t

/-- CURRENT_LOOP_TASK_START (R79): the task pops its flows and follows angle and speed at every instant; while its bridge
switches it posts compare values, which are late and discarded once the deadline has passed (R68, R92). -/
def State.currentLoop (s : State) (n : Fin 8) : State :=
  if !s.conf n ∨ !s.pwm[n].run then s
  else
    let m := s.br[n].mo
    let tl := s.pwm[n].tl
    let (stamps, s0) := s.popLoopFlows n
    let s1 := s0.sampleBridge n stamps
    let s2 := if s.switching n then s1 else s1.idleBridge m n
    let s3 := if s.rank0 m = some n then s2.rank0Step m n tl else s2
    if s3.switching n then
      let (s4, set) := s3.controlBridge m n tl
      let s5 := s4.balanceBack n m
      if s.pwm[n].missed then s5.onLoop m fun l => { l with stale := bump l.stale }
      else
        let s6 := (s5.onPwm n fun p => { p with posted := some set }).onCmd m fun c => { c with latRuns := c.latRuns.map fun r => r.posts n }
        s6.post (s.taskPort n) (bridgeFlow 2 n) (itemOf 0 false (s.taskEpoch n) (cmpBytes set))
    else
      let busy := (s.feeding m).any fun j => s3.switching j
      (s3.onLoop m fun l => { l with run := busy }).balanceBack n m

/-- COMPARE_DEADLINE (R68, R92): nothing posted for a bridge that switches is a miss; three in a row are a fault. -/
def State.deadline (s : State) (n : Fin 8) : State :=
  if !s.conf n ∨ !s.pwm[n].run ∨ !s.switching n then s
  else
    let m := s.br[n].mo
    if s.pwm[n].posted.isSome then s.onPwm n fun p => { p with misses := 0 }
    else
      let k := s.pwm[n].misses + 1
      let s1 := s.onPwm n fun p => { p with misses := min 3 k, missed := true }
      let s2 := (s1.onLoop m fun l => { l with ovr := bump l.ovr, ovrSeen := true }).raiseIf (!s.loops[m].ovrSeen) .LOOP_OVERRUN m
      if k = 3 then
        ((s2.onLoop m fun l => { l with ovr3 := true }).raise .LOOP_DEADLINE m n).reactEv m .LOOP_DEADLINE m
          (s.rc Fld.LOOP_OVRREACT m) false
      else s2

/-- NP_UNBAL (R75): the midpoint has been outside NPTRIP for 10 ms. -/
def State.npUnbalance (s : State) (n : Fin 8) : State :=
  if s.conf n ∧ s.br[n].npc ∧ !s.pwm[n].npUnbal then
    ((s.onPwm n fun p => { p with npUnbal := true }).raise .NP_UNBAL n).reactEv s.br[n].mo .NP_UNBAL n
      (s.rc Fld.BRIDGE_NPREACT (s.recOf n))
  else s

/-- CIRC_HIGH (R77): a circulating current has been above CIRCMAX for 1 ms. -/
def State.circHigh (s : State) (m : Fin 4) : State :=
  if s.loops[m].circHi ∨ s.n Fld.MOTOR_BRMODE m ≠ 0 ∨ (s.feeding m).length < 2 then s
  else ((s.onLoop m fun l => { l with circHi := true }).raise .CIRC_HIGH m).reactEv m .CIRC_HIGH m (s.rc Fld.MOTOR_CIRCREACT m)

/-- LOOP_COUNTERS_CLEAR: `LPCTL.CNTCLR`. -/
def State.loopClear (s : State) (m : Fin 4) : State :=
  { s.onLoop m fun l => { l with ovr := .zero, stale := .zero, ovrSeen := false } with
    pwm := vgen 8 fun n => if s.conf n && s.br[n].mo == m then { s.pwm[n] with minpCnt := .zero, vsatCnt := .zero } else s.pwm[n] }

/-- NP_UNBAL (R75): see `State.npUnbalance`. -/
def execNpUnbal (n : Fin 8) (s : State) : Host.Outcome State Fault Refusal := .next (s.npUnbalance n)
/-- CIRC_HIGH (R77): see `State.circHigh`. -/
def execCircHigh (m : Fin 4) (s : State) : Host.Outcome State Fault Refusal := .next (s.circHigh m)
/-- LOOP_COUNTERS_CLEAR (R92): see `State.loopClear`. -/
def execLoopCountersClear (m : Fin 4) (s : State) : Host.Outcome State Fault Refusal := .next (s.loopClear m)

end Sys2Proof.Machine
end

