-- ==== Sys2Proof/Machine/Generator.lean ====
section
/-! DEFINITION. The trajectory generator (R139 to R147): speed changes, position plans, replanning under changed limits, and the
advance along a plan. Positions, speeds and accelerations are in the units of R140. -/

namespace Sys2Proof.Machine

/-- The limits of a PROFILE record (R140). -/
def State.limitsOf (s : State) (p : Nat) : Limits :=
  ⟨s.q Fld.PROFILE_VMAX p, s.q Fld.PROFILE_AMAX p, s.q Fld.PROFILE_DMAX p, s.q Fld.PROFILE_JMAX p, s.yes Fld.PROFILE_NOOVER p⟩

/-! ## Segments -/

/-- A point of motion: position, speed, acceleration. -/
structure Pt where
  x : Rat
  v : Rat
  a : Rat
deriving DecidableEq, Repr

/-- The motion along a segment of constant jerk for `t` seconds. -/
def Pt.after (p : Pt) (j t : Rat) : Pt :=
  ⟨p.x + p.v * t + p.a * t * t / 2 + j * t * t * t / 6, p.v + p.a * t + j * t * t / 2, p.a + j * t⟩

/-- The end of a list of segments. -/
def Pt.along (p : Pt) (l : List Seg) : Pt := l.foldl (fun q g => q.after g.jerk g.dur) p

/-- The segments of a speed change of R143, motion taken as positive. -/
def speedChange (k : Limits) (v0 a0 v1 : Rat) : List Seg :=
  let j := k.jmax
  let vr := v0 + a0 * absQ a0 / (2 * j)
  let sg : Rat := if vr ≤ v1 then 1 else -1
  let top := if vr ≤ v1 then k.amax else k.dmax
  let dv := absQ (v1 - v0)
  let b := sg * a0
  let tri := decide (dv + (b * absQ b - b * b) / (2 * j) < (absQ (top * top - b * b) + top * top) / (2 * j)) && decide (b ≤ top)
  let ap := if tri then Config.sqrt ((2 * j * dv + b * b) / 2) else top
  let up := if b ≤ ap then (ap * ap - b * b) / (2 * j) else (b * b - ap * ap) / (2 * j)
  let hold := if tri then 0 else maxQ 0 (qdiv (sg * (v1 - v0) - up - ap * ap / (2 * j)) ap)
  [{ dur := absQ (ap - b) / j, jerk := (if b ≤ ap then sg else -sg) * j }, { dur := hold, jerk := 0 }, { dur := ap / j, jerk := -(sg * j) }]

/-- The distance of a speed change. -/
def changeDist (k : Limits) (v0 a0 v1 : Rat) : Rat := ((Pt.mk 0 v0 a0).along (speedChange k v0 a0 v1)).x

/-- A plan mirrored into the negative direction. -/
def mirror (sg : Rat) (l : List Seg) : List Seg := l.map fun g => { g with jerk := sg * g.jerk }

/-- The 40 bisection steps of R144: the largest peak speed whose rise and stop travel no more than `d`. -/
def peakSpeed (k : Limits) (v a d : Rat) : Nat → Rat → Rat → Rat
  | 0, lo, _ => lo
  | n + 1, lo, hi =>
    let mid := (lo + hi) / 2
    if changeDist k v a mid + changeDist k mid 0 0 ≤ d then peakSpeed k v a d n mid hi else peakSpeed k v a d n lo mid

/-- A position plan that does not pass its target, motion taken as positive (R144). -/
def directPlan (k : Limits) (v a d : Rat) : List Seg :=
  let vp := peakSpeed k v a d 40 0 k.vmax
  let rest := d - changeDist k v a vp - changeDist k vp 0 0
  speedChange k v a vp ++ [{ dur := if vp = 0 then 0 else maxQ 0 (rest / vp), jerk := 0 }] ++ speedChange k vp 0 0

/-- The direction of a motion: of its speed, else its acceleration, else where it is to go. -/
def dirOf (v a d : Rat) : Rat :=
  if v ≠ 0 then signQ v else if a ≠ 0 then signQ a else if d < 0 then -1 else 1

/-- The stop of a motion would pass a target at distance `d` ahead of it. -/
def passes (k : Limits) (v a d : Rat) : Bool :=
  let sg := dirOf v a d
  decide (0 ≤ sg * d) && decide (sg * d < changeDist k (sg * v) (sg * a) 0)

/-- The rest before a motion in a direction: a dwell where the direction changes, else what is left of one under way (R142, R149). -/
def dwellTo (dwell wait : Rat) (dir to_ : Int) : List Seg :=
  if dir ≠ to_ then [{ dur := dwell, jerk := 0, turn := to_ }]
  else if 0 < wait then [{ dur := wait, jerk := 0, turn := to_ }] else []

/-- The direction of a sign. -/
def dirOfSign (sg : Rat) : Int := if sg < 0 then -1 else 1

/-- A position plan from a state to a target (R142, R144): the segments, whether it passes the target and returns, and whether it
passes through rest. -/
def positionPlan (k : Limits) (dwell wait : Rat) (dir : Int) (p : Pt) (target : Rat) : List Seg × Bool × Bool :=
  let d := target - p.x
  let sg := dirOf p.v p.a d
  let past := passes k p.v p.a d
  if past ∨ sg * d < 0 then
    let stop := speedChange k (sg * p.v) (sg * p.a) 0
    let left := d - sg * changeDist k (sg * p.v) (sg * p.a) 0
    let back := dirOf 0 0 left
    (mirror sg stop ++ (if left = 0 then [] else dwellTo dwell 0 (dirOfSign sg) (dirOfSign back)) ++ mirror back (directPlan k 0 0 (absQ left)),
      past, decide (left ≠ 0))
  else
    let first := if p.v = 0 ∧ p.a = 0 ∧ d ≠ 0 then dwellTo dwell wait dir (dirOfSign sg) else []
    (first ++ mirror sg (directPlan k (sg * p.v) (sg * p.a) (sg * d)), false, false)

/-- A speed plan (R143): one speed change, or a stop, a dwell and a speed change from rest. -/
def speedPlan (k : Limits) (dwell wait : Rat) (dir : Int) (p : Pt) (target : Rat) : List Seg × Bool :=
  let sg := dirOf p.v p.a target
  if sg * target < 0 then
    (mirror sg (speedChange k (sg * p.v) (sg * p.a) 0) ++ dwellTo dwell 0 (dirOfSign sg) (dirOfSign (-sg))
      ++ mirror (-sg) (speedChange k 0 0 (absQ target)), true)
  else
    let first := if p.v = 0 ∧ p.a = 0 ∧ target ≠ 0 then dwellTo dwell wait dir (dirOfSign sg) else []
    (first ++ mirror sg (speedChange k (sg * p.v) (sg * p.a) (sg * target)), false)

/-! ## The generator -/

/-- Where a generator stands. -/
def Gen.pt (g : Gen) : Pt := ⟨g.x, g.v, g.a⟩

/-- A generator set to a state with a = 0 (R147). -/
def Gen.setTo (g : Gen) (x v : Rat) : Gen :=
  { g with x := x, v := v, a := 0, plan := [], planned := false, kind := .none_, defer := false, overshoot := false,
           reversal := false, done := false }

/-- A new target (R141): one that equals the target in force changes nothing. -/
def Gen.aim (g : Gen) (kind : TargetKind) (t : Rat) : Gen :=
  if g.kind = kind ∧ g.raw = t then g
  else { g with kind := kind, raw := t, target := t, replan := true, done := false }

/-- Limits of which none is below those of `a` (R145: NOOVER never holds back a raised limit). -/
def Limits.raisedBy (a b : Limits) : Limits :=
  ⟨maxQ a.vmax b.vmax, maxQ a.amax b.amax, maxQ a.dmax b.dmax, maxQ a.jmax b.jmax, b.noover⟩

/-- A plan made from the present state with the limits that the generator holds; a speed target is limited by VMAX (R146). -/
def Gen.makePlan (g : Gen) (dwell : Rat) : Gen :=
  match g.kind with
  | .none_ => { g with planned := true, replan := false, plan := [] }
  | .speed =>
    let t := clampQ (-g.lims.vmax) g.lims.vmax g.raw
    let (l, rev) := speedPlan g.lims dwell g.wait g.dir g.pt t
    { g with target := t, plan := l, planned := true, replan := false, overshoot := false, reversal := rev, done := false }
  | .position =>
    let (l, past, rev) := positionPlan g.lims dwell g.wait g.dir g.pt g.target
    { g with plan := l, planned := true, replan := false, overshoot := past, reversal := rev, done := false }

/-- The limits that a plan is to use when those of the profile are `k` (R145): the generator with its limits and whether a
change is deferred. -/
def Gen.takeLimits (g : Gen) (k : Limits) : Gen × Bool :=
  if k = g.want ∧ (g.defer ∨ g.lims = k) then (g, false)
  else
    let d := g.target - g.x
    let moving := g.v ≠ 0 ∨ g.a ≠ 0
    let spoils := g.kind = .position ∧ moving ∧ passes k g.v g.a d ∧ !passes g.lims g.v g.a d
    if spoils ∧ k.noover then ({ g with want := k, lims := g.lims.raisedBy k, defer := true, replan := true }, true)
    else ({ g with want := k, lims := k, defer := false, replan := true }, false)

/-- What a period notes: a plan that passes its target (R144), a limit change that is deferred (R145), a speed target above VMAX (R146). -/
structure GenNotes where
  past  : Bool
  dfr   : Bool
  cut   : Bool
deriving DecidableEq, Repr

/-- Replanning where the target, the limits or the kind of target has changed (R141, R145). -/
def Gen.planStep (g : Gen) (k : Limits) (dwell : Rat) : Gen × GenNotes :=
  let (g1, dfr) := g.takeLimits k
  if g1.replan ∨ !g1.planned then
    let g2 := g1.makePlan dwell
    (g2, ⟨g2.overshoot, dfr, decide (g2.kind = .speed ∧ g2.target ≠ g2.raw)⟩)
  else (g1, ⟨false, dfr, false⟩)

/-- The advance along the plan by `t` seconds: the generator and the time left over. A dwell begins at rest and sets the direction. -/
def Gen.run (g : Gen) (t : Rat) : List Seg → Gen × Rat
  | [] => ({ g with plan := [] }, t)
  | x :: l =>
    let p : Pt := if x.turn = 0 then g.pt else ⟨g.x, 0, 0⟩
    let q := p.after x.jerk (minQ x.dur t)
    let g1 := { g with
      x := q.x, v := q.v, a := q.a, dir := if x.turn = 0 then g.dir else x.turn
      wait := if x.turn = 0 then g.wait else x.dur - minQ x.dur t }
    if x.dur ≤ t then g1.run (t - x.dur) l else ({ g1 with plan := { x with dur := x.dur - t } :: l }, 0)

/-- The end of a plan: a position target is met exactly, a speed target is held (R144). -/
def Gen.finish (g : Gen) (rest : Rat) : Gen :=
  match g.kind with
  | .position => { g with x := g.target, v := 0, a := 0, done := true, overshoot := false, reversal := false }
  | .speed => { g with x := g.x + g.target * rest, v := g.target, a := 0, reversal := false }
  | .none_ => { g with x := g.x + g.v * rest, a := 0 }

/-- The advance by `t` seconds with the end of the plan. -/
def Gen.runOut (g : Gen) (t : Rat) : Gen :=
  let (h, rest) := g.run t g.plan
  if h.plan = [] ∧ !(h.kind = .position ∧ h.done) then h.finish rest else h

/-- Seconds to the first rest of a plan: to its first dwell, or to its end where that is a rest. -/
def Gen.restIn (g : Gen) : Option Rat :=
  let head := g.plan.takeWhile fun x => x.turn == 0
  if head.length < g.plan.length ∨ g.kind = .position ∨ g.target = 0 then some ((head.map Seg.dur).sum) else none

/-- The limits that were deferred until rest (R145). -/
def Gen.takeDeferred (g : Gen) : Gen := { g with lims := g.want, defer := false, v := 0, a := 0, replan := !g.done }

/-- An advance in which limits deferred until rest are taken at the moment of rest, with a plan from there (R145). -/
def Gen.advance (g : Gen) (dwell dt : Rat) : Gen :=
  match g.restIn with
  | some t =>
    if g.defer ∧ t ≤ dt then
      let h := (g.runOut t).takeDeferred
      if h.replan then (h.makePlan dwell).runOut (dt - t) else h
    else g.runOut dt
  | none => g.runOut dt

/-- One period of the generator of a motor object: replanned where something has changed, then advanced by `dt` seconds. -/
def Gen.period (g : Gen) (k : Limits) (dwell dt : Rat) : Gen × GenNotes :=
  let (h, n) := g.planStep k dwell
  (h.advance dwell dt, n)

/-- One period of the generator of an axis: a new plan acts on the period after the one in which it is made (R148). -/
def Gen.periodLate (g : Gen) (k : Limits) (dwell dt : Rat) : Gen × GenNotes := (g.advance dwell dt).planStep k dwell

/-- The events of a generator's period for a motor object or an axis (R144 to R146). -/
def State.genEvents (s : State) (unit : Nat) (n : GenNotes) : State :=
  ((s.raiseIf n.cut .PROF_TARGET_CLAMPED unit).raiseIf n.dfr .PROF_LIMIT_DEFERRED unit).raiseIf n.past .PROF_OVERSHOOT unit

end Sys2Proof.Machine
end

