-- ==== Sys2Proof/Machine/Drum.lean ====
section
/-! DEFINITION. The drum behind a motor object: the spooling law (R130), the sign of motion and
the line tension (R129), and the torque that the motor makes. -/

namespace Sys2Proof.Machine

/-! ## The drive of an outer loop -/

/-- The start machine of a motor object as its outer loop sees it: the group of a lead runs on with the members that are left while the
lead's own member is out of it (R196, log 21). -/
def State.runState (s : State) (m : Fin 4) : StartState :=
  if s.inGroup m && s.runsHere m && s.ring.mbr[m].state != .share && s.ring.group != .stopped && s.othersShare m then .run
  else s.start[m].state

/-- The outer loop has a drive to run. -/
def State.live (s : State) (m : Fin 4) : Bool := s.runState m == .run

/-- The outer-loop period in seconds (R31). -/
def State.tOuter (s : State) (m : Fin 4) : Rat := s.q Fld.LOOP_TOPER m / 1000000

/-! ## The spooling law (R130) -/

/-- The layer of a number of wound turns. -/
def State.layerOf (s : State) (m : Fin 4) (nw : Rat) : Nat := min (natQ (nw / s.q Fld.LOOP_WRAPS m)) (s.n Fld.LOOP_LAYERS m - 1)

/-- Metres that a layer rises. -/
def State.layerRise (s : State) (m : Fin 4) : Rat := s.q Fld.LOOP_LAYK m * s.q Fld.LOOP_DROPE m / 1000

/-- The radius of a layer. -/
def State.layerRadius (s : State) (m : Fin 4) (j : Nat) : Rat :=
  s.q Fld.LOOP_RCORE m + s.q Fld.LOOP_DROPE m / 2000 + j * s.layerRise m

/-- The effective radius at a number of wound turns. -/
def State.radiusOf (s : State) (m : Fin 4) (nw : Rat) : Rat :=
  let j := s.layerOf m nw
  let u := nw - j * s.q Fld.LOOP_WRAPS m
  let tr := s.q Fld.LOOP_LAYTRANS m
  let into := u - (s.q Fld.LOOP_WRAPS m - tr)
  if 0 < into ∧ j + 1 < s.n Fld.LOOP_LAYERS m then s.layerRadius m j + s.layerRise m * into / tr else s.layerRadius m j

/-- Metres of line on the first `u` turns of a layer, by the same radius law. -/
def State.layerLength (s : State) (m : Fin 4) (j : Nat) (u : Rat) : Rat :=
  let tr := s.q Fld.LOOP_LAYTRANS m
  let w := s.q Fld.LOOP_WRAPS m
  let t1 := maxQ 0 (u - (w - tr))
  let t0 := maxQ 0 (tr - w)
  let rise := if j + 1 < s.n Fld.LOOP_LAYERS m then s.layerRise m * (t1 * t1 - t0 * t0) / (2 * tr) else 0
  2 * Config.pi * (u * s.layerRadius m j + rise)

/-- Metres of line on a number of wound turns. -/
def State.woundLength (s : State) (m : Fin 4) (nw : Rat) : Rat :=
  let j := s.layerOf m nw
  ((List.range j).foldl (fun x i => x + s.layerLength m i (s.q Fld.LOOP_WRAPS m)) 0)
    + s.layerLength m j (nw - j * s.q Fld.LOOP_WRAPS m)

/-- Wound turns lie on the drum. -/
def State.turnsOk (s : State) (m : Fin 4) (nw : Rat) : Bool :=
  decide (0 ≤ nw) && decide (nw ≤ s.q Fld.LOOP_WRAPS m * s.n Fld.LOOP_LAYERS m)

/-- The model set to a number of wound turns (R130). -/
def State.spoolTo (s : State) (m : Fin 4) (nw : Rat) : State :=
  s.onOuter m fun o => { o with
    wound := nw, layer := s.layerOf m nw, rEff := s.radiusOf m nw, pay := s.q Fld.LOOP_LTOTAL m - s.woundLength m nw
    spoolOk := true }

/-- r_eff in use; before the first SPOOLSET it is the radius of the bare core's first layer. -/
def State.rEff (s : State) (m : Fin 4) : Rat := if s.outer[m].rEff = 0 then s.radiusOf m s.outer[m].wound else s.outer[m].rEff

/-- The payout speed in m/s: positive rotation hauls. -/
def State.paySpeed (s : State) (m : Fin 4) : Rat := -(s.omega m) * s.rEff m / s.q Fld.LOOP_GEAR m

/-- The generator of a motor object is set to the measured state, with a = 0 (R147). -/
def State.genMeasured (s : State) (m : Fin 4) : State :=
  s.onGen m fun g => if s.outer[m].mode = .position then g.setTo s.outer[m].pay (s.paySpeed m) else g.setTo g.x (s.rpm m)

/-! ## Tension and torque (R129) -/

/-- The sign of motion of R129. -/
def State.motionSign (s : State) (m : Fin 4) : Int :=
  if s.omegaRated m / 100 < s.omega m then 1 else if s.omega m < -(s.omegaRated m / 100) then -1 else 0

/-- ETA^s. -/
def State.etaS (s : State) (m : Fin 4) : Rat :=
  match s.motionSign m with
  | 0 => 1
  | 1 => s.q Fld.LOOP_ETA m
  | _ => qdiv 1 (s.q Fld.LOOP_ETA m)

/-- Torque at the motor shaft of a line tension in kN. -/
def State.torqueOfTension (s : State) (m : Fin 4) (f : Rat) : Rat := f * 1000 * s.rEff m / (s.q Fld.LOOP_GEAR m * s.etaS m)

/-- The tension that a torque and an acceleration tell (R129, TSRC = EST). -/
def State.tensionEst (s : State) (m : Fin 4) (t dw : Rat) : Rat :=
  qdiv (s.q Fld.LOOP_GEAR m * (t - s.q Fld.LOOP_JTOT m * dw) * s.etaS m) (s.rEff m) / 1000

/-- The value of a load pin in kN. -/
def State.pinOf (s : State) (code : Nat) : Rat := match ainOf code with | some i => s.inputValue i | none => 0

/-- The torque of a motor object from its currents (R86). -/
def State.currentTorque (s : State) (m : Fin 4) : Rat :=
  let l := s.loops[m]
  let p := s.n Fld.MOTOR_POLEPAIRS m
  if s.induction m then 3 / 2 * p * qdiv (s.q Fld.MOTOR_LM m) (s.q Fld.MOTOR_LR m) * s.rotorFlux m * l.iq
  else 3 / 2 * p * (s.q Fld.MOTOR_PSI m * l.iq + (s.q Fld.MOTOR_LD m - s.q Fld.MOTOR_LQ m) / 1000 * l.id * l.iq)

/-- The torque that the current limit of R87 allows: the d axis has priority, with the current of the table at the limit and of field
weakening. -/
def State.currentCap (s : State) (m : Fin 4) : Rat :=
  let im := s.imaxEff m
  let p := s.n Fld.MOTOR_POLEPAIRS m
  let psi := s.q Fld.MOTOR_PSI m
  let dfw := s.loops[m].dfw
  let left (d : Rat) : Rat := Config.sqrt (im * im - d * d)
  match s.n Fld.MOTOR_TYPE m with
  | 0 => 3 / 2 * p * psi * left (clampQ (-im) im dfw)
  | 1 =>
    let ld := s.q Fld.MOTOR_LD m / 1000
    let lq := s.q Fld.MOTOR_LQ m / 1000
    let table := qdiv (psi - Config.sqrt (psi * psi + 8 * (lq - ld) * (lq - ld) * im * im)) (4 * (lq - ld))
    let d := clampQ (-im) im (table + dfw)
    3 / 2 * p * (psi + (ld - lq) * d) * left d
  | _ =>
    let d := clampQ (-im) im (qdiv (s.rotorFlux m) (s.q Fld.MOTOR_LM m / 1000))
    3 / 2 * p * qdiv (s.q Fld.MOTOR_LM m) (s.q Fld.MOTOR_LR m) * s.rotorFlux m * left d

/-- The quantum of torque of the ring (R187). -/
def State.quantum (s : State) : Rat := s.q Fld.RING_GTRATED 0 / 1048576

/-! ## Limits of torque (R125, R189, R232, R266) -/

/-- The lowest k_ov of a motor object since the start of the previous outer-loop period (R232). -/
def State.kovLow (s : State) (m : Fin 4) : Rat := (s.bridges m).foldl (fun k n => minQ k (minQ s.br[n].kovMin s.br[n].kovPrev)) 1

/-- A thermal factor derates the motor object (R241, R242). -/
def State.hotDerate (s : State) (m : Fin 4) : Bool :=
  decide (s.etBlend m s.wind[m].kmot < 1) || (s.feeding m).any fun n => decide (s.etBlend m s.br[n].kb < 1)

/-- The torque limits of a motor object by R125 and protection, the lower and the upper one; a thermal derate limits torque to what the
current limit of R87 leaves. -/
def State.ownLimits (s : State) (m : Fin 4) : Rat × Rat :=
  let f := s.outer[m].derate * s.q Fld.LOOP_TRATED m / 100
  let hot (t : Rat) : Rat := if s.hotDerate m then minQ t (s.currentCap m) else t
  let mot := hot (f * s.q Fld.LOOP_TMOT m)
  let reg := hot (f * s.q Fld.LOOP_TREG m * s.kovLow m)
  let both := minQ mot reg
  let (up, dn) := if s.slower m (1 / 100) then (both, both) else if 0 < s.omega m then (mot, reg) else (reg, mot)
  let up1 := if s.garnet.mo[m].slt1 then minQ up (s.q Fld.SAFETY_MO_SLTTQ 0 m) else up
  (-dn, up1)

/-- The torque limits in force: on the lead, also the capacity of its group. -/
def State.torqueLimits (s : State) (m : Fin 4) : Rat × Rat :=
  let (lo, hi) := s.ownLimits m
  if s.inGroup m then (maxQ lo (-(s.ring.sumNeg * s.quantum)), minQ hi (s.ring.sumPos * s.quantum)) else (lo, hi)

/-- SPOOLREACT applies to a POSITION loop or an EST tension loop in force (R130). -/
def State.usesSpool (s : State) (m : Fin 4) : Bool :=
  s.runsHere m && s.live m &&
    (s.outer[m].mode == .position || (s.outer[m].mode == .tension && s.n Fld.LOOP_TSRC m == 1))

/-- The spooling model becomes invalid (R130, R172): a render ends, and the reaction of a loop in force applies. -/
def State.spoolLost (s : State) (m : Fin 4) : State :=
  let s1 := ((s.onOuter m fun o => { o with spoolOk := false }).raise .SPOOL_INVALID m)
  if s.usesSpool m ∨ s.shock[m].render then
    (s1.endRender m).reactEv m .SPOOL_INVALID m (s.rc Fld.LOOP_SPOOLREACT m)
  else s1

end Sys2Proof.Machine
end

