-- ==== Sys2Proof/Machine/StartMachine.lean ====
section
/-! DEFINITION. The start machine (R105 to R114): acceptance, the measurement and the catch, standstill starts, failed attempts. -/

namespace Sys2Proof.Machine

/-- The motor object has a brake (R132). -/
def State.braked (s : State) (m : Fin 4) : Bool := s.n Fld.MOTOR_BRAKE0 m != 0 || s.n Fld.MOTOR_BRAKE1 m != 0

/-- Gates go on: the modulator drives every feeding bridge that is enabled. -/
def State.gatesOn (s : State) (m : Fin 4) : State :=
  (s.feeding m).foldl (fun s n => s.onBr n fun b => if b.enabled && decide (b.exec_.rank < 4) then { b with form := .run } else b) s

/-- Gates go off without a fault reaction: the bridges that switch or hold the zero vector go to PULSE_BLOCK. -/
def State.gatesIdle (s : State) (m : Fin 4) : State :=
  let s1 := (s.feeding m).foldl (fun s n => if s.br[n].form = .run ∨ s.br[n].form = .short then s.offBridge n id else s) s
  s1.onLoop m fun l => { l with run := false }

/-- The start machine enters a state. -/
def State.toStart (s : State) (m : Fin 4) (st : StartState) : State :=
  s.onStart m fun x => { x with state := st, since := s.up }

/-- The start machine enters MEASURE: the tracking of the terminal voltages begins (R108). -/
def State.toMeasure (s : State) (m : Fin 4) : State :=
  (s.toStart m .measure).onStart m fun x => { x with emfAng := 0, emfW := 0, emfMag := 0 }

/-- The start machine enters RUN: the outer loop takes over at the measured speed, a turning motor has been caught, and a set
brake is proved, where the brake sequence runs (R108, R132, R134, R147). -/
def State.enterRun (s : State) (m : Fin 4) : State :=
  let turning := s.start[m].turning
  let s1 := (s.toStart m .run).onStart m fun x => { x with
    turning := false, caught := x.caught || turning, fHz := s.elecHz m x.spd }
  let s2 := s1.onCmd m fun c => { c with latRuns := [], refSpd := s.rpm m, ref := if s.outer[m].mode = .speed then s.rpm m else c.ref }
  let s3 := s2.onOuter m fun o => { o with wRefPrev := s.omega m, wPrev := s.omega m, wHat := s.omega m, tLoad := o.tPrev }
  let s4 := s3.raiseIf turning .CATCH_DONE m
  let s5 := s4.genMeasured m
  if s.braked m ∧ s.runsHere m ∧ s.brake[m].state = .closed then
    s5.onBrake m fun b => { b with state := .proving, since := s.up, proved := false, start := s.shaft m }
  else s5

/-- An attempt fails (R107, R111): gates off at once, a pause and another attempt, or FAILED. -/
def State.attemptFails (s : State) (m : Fin 4) (reason : Nat) : State :=
  let x := s.start[m]
  let s1 := ((s.gatesIdle m).onStart m fun y => { y with reason := reason, fail := bump y.fail, turning := false }).raise
    .START_ATTEMPT_FAILED m reason
  if x.retry < s.n Fld.MOTOR_STARTRETRY m then (s1.onStart m fun y => { y with retry := y.retry + 1 }).toStart m .pause
  else (s1.toStart m .failed).raise .START_FAILED m

/-- Why a start is refused (R105, R107): its REASON, or 0. -/
def State.startRefusal (s : State) (m : Fin 4) : Nat :=
  if !s.armed[m] then 9
  else if s.yes Fld.MOTOR_HOIST m then
    if !s.sourceValid m then 1
    else if !s.induction m ∧ !s.sourceAbs m then 2 else 0
  else 0

/-- The gates of every feeding bridge are enabled and no reaction of PULSE_BLOCK or harder is in force. -/
def State.gatesReady (s : State) (m : Fin 4) : Bool :=
  s.feeding m != [] && (s.feeding m).all (fun n => s.br[n].enabled && decide (s.br[n].exec_.rank < 4)) && !s.blocked m &&
    !(s.em[m].mode.isStop && s.em[m].stopped && s.em[m].stopBy == .reaction)

/-- A start command in IDLE (R107): accepted into MEASURE, refused with its reason, or not accepted while gates are not
enabled. -/
def State.startCommand (s : State) (m : Fin 4) : State :=
  let r := s.startRefusal m
  if r ≠ 0 then (s.onStart m fun x => { x with reason := r }).raise .START_REFUSED m r
  else if s.gatesReady m then
    (s.onStart m fun x => { x with
      retry := 0, reason := 0, reverse := false, caught := false, extended := false, fallback := false, turning := false
      ramp := none }).toMeasure m
  else s

/-- The count offset of the interface is set so that the sensor reads an electrical angle, in turns (R99). -/
def State.setOffset (s : State) (m : Fin 4) (ang : Rat) : State :=
  match s.piOf m with
  | some k => s.onPi k fun p => { p with
      found := true
      zOfs := turnsOf p.pos - qdiv (ang - s.q Fld.MOTOR_POSOFS m / 360) (s.n Fld.MOTOR_POLEPAIRS m * s.q Fld.MOTOR_PIRATIO m) }
  | none => s

/-- The tracking of saliency begins (R103, R112). -/
def State.toHfi (s : State) (m : Fin 4) : State :=
  ((s.obsPlace m s.start[m].ang 0 0 0).onStart m fun x => { x with polN := 0, hfiIq := 0, hfiPos := false }).toStart m .hfi

/-- MEASURE_DECISION (R107 to R110): speed, direction and angle from the source, else from the terminal voltages; then the next state. A
motor object with HOIST = 1 is never taken over without its source: without it the machine stays in MEASURE (R114, log 123). -/
def State.measure (s : State) (m : Fin 4) : State :=
  let src := s.hasSpeedSource m
  if s.start[m].state ≠ .measure ∨ (s.yes Fld.MOTOR_HOIST m ∧ !src) then s
  else
    let w := if src then s.sourceRpm m else s.rpmOf m (s.emfSpeed m)
    let turning := decide (3 / 100 * s.q Fld.MOTOR_NRATED m ≤ absQ w)
    let rev := turning && decide (w * s.cmdSign m < 0)
    let im := s.induction m
    let known := !im || src || s.residual m
    let ang := if src ∧ (im ∨ s.sourceAbs m) then wrapQ 1 (s.sensorAngle m) else s.emfTheta m
    let s0 := (s.onStart m fun x => { x with
      spd := if known then w else 0, ang := ang, catchSpd := if turning && known then w else x.catchSpd, reverse := rev && known, peak2 := 0
      extended := false, turning := turning && known }).raiseIf (rev && known) .CATCH_REVERSE m
    let s1 := s0.obsPlace m ang (2 * Config.pi * s.elecHz m (if known then w else 0)) 0 0
    if im then
      if src then if turning then s1.toStart m .sync else (s1.gatesOn m).toStart m .flux
      else if known then s1.toStart m .sync
      else ((s1.gatesOn m).onStart m fun x => { x with pPos := false, cross := none }).toStart m .search
    else if turning then (if src ∧ !s.sourceAbs m then s1.setOffset m ang else s1).toStart m .sync
    else if src ∧ s.sourceAbs m then (s1.gatesOn m).enterRun m
    else if s.n Fld.MOTOR_TYPE m = 1 then (s1.gatesOn m).toHfi m
    else (s1.gatesOn m).toStart m .align

/-- SYNC_GATE_ENABLE (R108 step 4): at its own valley a bridge gets its integrators preset and its gates enabled. -/
def State.syncGates (s : State) (n : Fin 8) : State :=
  let m := s.br[n].mo
  if s.start[m].state ≠ .sync ∨ !(s.feeding m).contains n then s
  else
    let dec := if s.yes Fld.LOOP_DECOUPLE m ∨ s.induction m then (0, 0)
      else s.decouple m (s.feeding m).length 0 0 (2 * Config.pi * s.elecHz m (s.rpm m))
    let b := s.br[n]
    let s1 := if (s.feeding m).any fun j => s.br[j].form == .run then s else s.onStart m fun x => { x with peak2 := 0 }
    if b.enabled ∧ b.exec_.rank < 4 then
      (s1.onBr n fun b => { b with form := .run }).onPwm n fun p => { p with xd := dec.1, xq := dec.2 }
    else s1

/-- CATCH_SETTLE_CHECK (R108 steps 5 and 6): the current has stayed within 5 %, or the settling is extended once, or the attempt
fails. -/
def State.settleCheck (s : State) (m : Fin 4) : State :=
  let x := s.start[m]
  if x.state ≠ .sync then s
  else
    let im := s.imaxEff m
    if x.peak2 ≤ 25 / 10000 * im * im then
      if s.induction m then s.toStart m .flux else s.enterRun m
    else if !x.extended ∧ x.peak2 ≤ 1 / 100 * im * im then s.onStart m fun y => { y with extended := true, peak2 := 0 }
    else s.attemptFails m 6

/-- HFI_POLARITY_DONE (R111, R112): after both pulses the two responses differ by 10 % or the attempt fails; the larger one lies on +d.
The 10 % are taken of the larger response: R111 does not say of which (DESIGN CHOICE, log 123). -/
def State.polarity (s : State) (m : Fin 4) (plus minus : Rat) : State :=
  if s.start[m].state ≠ .hfi ∨ s.start[m].polN < 17 then s
  else if absQ (plus - minus) < 1 / 10 * maxQ (absQ plus) (absQ minus) then s.attemptFails m 4
  else
    let a := if plus < minus then wrapQ 1 (s.start[m].ang + 1 / 2) else s.start[m].ang
    let s1 := (s.onStart m fun x => { x with ang := a }).obsPlace m a s.start[m].wPll 0 0
    ((if s.hasSpeedSource m then s1.setOffset m a else s1).enterRun m)

/-- OBSERVER_LOCK (R102, R113): in IFRAMP, with the observer locked, the machine enters RUN with the current vector kept and re-expressed
in the observer's frame, and the integrators preset. -/
def State.observerLock (s : State) (m : Fin 4) : State :=
  let x := s.start[m]
  if x.state = .iframp ∧ x.locked ∧ s.n Fld.MOTOR_POSMODE m ≠ 0 then
    let l := s.loops[m]
    let d := x.obsAng - x.ang
    ((s.keepVoltage m x.obsAng d).onStart m fun y => { y with
      asrc := .observer, ang := y.obsAng
      ramp := some (s.up, l.id * cosT d + l.iq * sinT d, l.iq * cosT d - l.id * sinT d) }).enterRun m
  else s

/-- ALIGN_ELAPSED (R107): SPM goes to IFRAMP, or to RUN with the offset set from the aligned angle; IM goes to FLUX. -/
def State.alignElapsed (s : State) (m : Fin 4) : State :=
  if s.start[m].state ≠ .align then s
  else if s.induction m then s.toStart m .flux
  else if s.hasSpeedSource m then (s.setOffset m 0).enterRun m
  else ((s.onStart m fun x => { x with ang := 0 }).obsPlace m 0 0 0 0).toStart m .iframp

/-- SEARCH_END (R109): the stator frequency at the crossing is the speed; without a crossing the rotor is at rest. -/
def State.searchEnd (s : State) (m : Fin 4) : State :=
  let x := s.start[m]
  if x.state ≠ .search then s
  else
    let f := x.cross.getD 0
    let w := s.rpmOf m (2 * Config.pi * f)
    let rev := decide (w * s.cmdSign m < 0)
    ((((s.onStart m fun x => { x with
      spd := w, reverse := rev, turning := x.cross.isSome, catchSpd := if x.cross.isSome then w else x.catchSpd }).obsPlace m x.ang
        (2 * Config.pi * f) 0 0).raiseIf rev .CATCH_REVERSE m).toStart m .flux)

/-- FLUX_BUILT (R107, R109): RUN, or IFRAMP on a sensorless motor below 5 %. -/
def State.fluxBuilt (s : State) (m : Fin 4) : State :=
  if s.start[m].state ≠ .flux then s
  else if s.hasSpeedSource m ∨ !s.slower m (5 / 100) then s.enterRun m
  else (s.obsPlace m s.start[m].ang 0 0 0).toStart m .iframp

/-- START_PAUSE_END (R107). -/
def State.pauseEnd (s : State) (m : Fin 4) : State :=
  if s.start[m].state = .pause then s.toMeasure m else s

/-! ## Commands -/

/-- OBSERVER_LOCK (R102): see `State.observerLock`. -/
def execObserverLock (m : Fin 4) (s : State) : Host.Outcome State Fault Refusal := .next (s.observerLock m)
/-- MEASURE_DECISION (R108): see `State.measure`. -/
def execMeasureDecision (m : Fin 4) (s : State) : Host.Outcome State Fault Refusal := .next (s.measure m)
/-- SYNC_GATE_ENABLE (R108): see `State.syncGates`. -/
def execSyncGateEnable (n : Fin 8) (s : State) : Host.Outcome State Fault Refusal := .next (s.syncGates n)
/-- CATCH_SETTLE_CHECK (R108): see `State.settleCheck`. -/
def execCatchSettleCheck (m : Fin 4) (s : State) : Host.Outcome State Fault Refusal := .next (s.settleCheck m)
/-- HFI_POLARITY_DONE (R112): see `State.polarity`. -/
def execHfiPolarityDone (m : Fin 4) (plus minus : Rat) (s : State) : Host.Outcome State Fault Refusal :=
  .next (s.polarity m plus minus)
/-- HFI_NOCONV_TIMEOUT (R111): 100 ms in HFI, and the error has not stayed small for 16 instants. -/
def execHfiNoconvTimeout (m : Fin 4) (s : State) : Host.Outcome State Fault Refusal :=
  .next (if s.start[m].state = .hfi ∧ s.start[m].polN = 0 then s.attemptFails m 3 else s)
/-- ALIGN_ELAPSED (R113): see `State.alignElapsed`. -/
def execAlignElapsed (m : Fin 4) (s : State) : Host.Outcome State Fault Refusal := .next (s.alignElapsed m)
/-- OBS_NOLOCK_TIMEOUT (R111): IFTMAX in IFRAMP without a lock. -/
def execObsNolockTimeout (m : Fin 4) (s : State) : Host.Outcome State Fault Refusal :=
  .next (if s.start[m].state = .iframp then s.attemptFails m 5 else s)
/-- SEARCH_END (R109): see `State.searchEnd`. -/
def execSearchEnd (m : Fin 4) (s : State) : Host.Outcome State Fault Refusal := .next (s.searchEnd m)
/-- FLUX_BUILT (R109): see `State.fluxBuilt`. -/
def execFluxBuilt (m : Fin 4) (s : State) : Host.Outcome State Fault Refusal := .next (s.fluxBuilt m)
/-- SEARCH_LOST (R111): VSAT has kept the flux current from being reached for 20 ms in FLUX. -/
def execSearchLost (m : Fin 4) (s : State) : Host.Outcome State Fault Refusal :=
  .next (if s.start[m].state = .flux then s.attemptFails m 7 else s)
/-- START_PAUSE_END (R107): see `State.pauseEnd`. -/
def execStartPauseEnd (m : Fin 4) (s : State) : Host.Outcome State Fault Refusal := .next (s.pauseEnd m)

end Sys2Proof.Machine
end

