-- ==== Sys2Proof/Machine/Commands.lean ====
section
/-! DEFINITION. Command sources and curves (R116 to R123), mode and spooling commands (R124, R130), run, stop and the brake
sequence (R133 to R136), and the clearing of reactions (R137). -/

namespace Sys2Proof.Machine

/-! ## Sources (R116) -/

/-- The number of a source now and when it was last refreshed; none for NONE. -/
def State.source (s : State) (m : Fin 4) (j : Nat) : Option (Rat × Option Nat) :=
  let c := s.n Fld.LOOP_SRC m j
  if c = 0 then none
  else if h : c - 1 < 32 then some (s.spc[c - 1].value, s.spc[c - 1].at_)
  else some (s.cmd[m].setpt, s.cmd[m].setptAt)

/-- A time of refresh lies within a timeout in milliseconds. -/
def State.within (s : State) (t : Option Nat) (timeout : Nat) : Bool :=
  match t with | some t => decide (s.up ≤ t + timeout * ms) | none => false

/-- A source is valid (R116). -/
def State.sourceFresh (s : State) (m : Fin 4) (j : Nat) : Bool :=
  match s.source m j with
  | some (_, t) => s.within t (s.n Fld.LOOP_CMDTO m)
  | none => false

/-! ## The curve (R119) -/

/-- Y at a magnitude on the points of a curve: the segment that holds it, else the last point. -/
def State.curveAt (s : State) (c : Nat) (a : Rat) : Rat :=
  let npt := s.n Fld.CURVE_NPT c
  let px (i : Nat) := s.q Fld.CURVE_X c i
  let py (i : Nat) := s.q Fld.CURVE_Y c i
  let a := clampQ (px 0) (px (npt - 1)) a
  match (List.range (npt - 1)).find? fun i => decide (px i ≤ a) && decide (a ≤ px (i + 1)) with
  | some i => py i + (py (i + 1) - py i) * qdiv (a - px i) (px (i + 1) - px i)
  | none => py (npt - 1)

/-- The curve of a motor object on a value: the output, the on-state and its sign. -/
def State.curve (s : State) (m : Fin 4) (x : Rat) : Rat × Bool × Int :=
  let c := s.n Fld.LOOP_CURVE m
  let a := absQ x
  let k := s.cmd[m]
  if k.curveOn ∧ (a < s.q Fld.CURVE_XOFF c ∨ signQ x ≠ k.onSign) then (0, false, k.onSign)
  else
    let on1 := k.curveOn || decide (s.q Fld.CURVE_XON c < a)
    let sg := if on1 && !k.curveOn then signQ x else k.onSign
    if on1 then
      let y := s.curveAt c a
      (if x < 0 then -(s.q Fld.CURVE_NEGSCALE c) * y else y, true, sg)
    else (0, false, sg)

/-- A value of the active source is followed: its curve output becomes the reference of the mode (R121). -/
def State.follow (s : State) (m : Fin 4) (x : Rat) : State :=
  let (y, on1, sg) := s.curve m x
  s.onCmd m fun c => { c with curveOn := on1, onSign := sg, y := y, target := y * s.q Fld.LOOP_REFSCALE m }

/-- The measurement of a setpoint that is followed begins (R33); one before it that no outer-loop period has taken is not reflected any
more. A motor object that does not run has no edge to measure to (log 126). -/
def State.latBegin (s : State) (m : Fin 4) : State :=
  if s.start[m].state = .run then
    s.onCmd m fun k => { k with latRuns := (k.latRuns.filter fun r => r.stage != .new) ++ [⟨s.up, .new, tbl 8 0⟩] }
  else s

/-- A source has a new value (R117, R119, R123): a transfer to it may take place, and the active source is followed. While the source
is lost, a value outside the window still moves the on-state of the curve and y (DESIGN CHOICE, log 131). -/
def State.newValue (s : State) (m : Fin 4) (j : Fin 4) (x : Rat) : State :=
  let c := s.cmd[m]
  let win := s.q Fld.LOOP_XFERWIN m
  let (y, on1, sg) := s.curve m x
  let go := match c.xfer with
    | some (i, _) => decide (i = j) && (c.xferOk || decide (absQ (y - c.y) ≤ win))
    | none => false
  let s1 := if go then
      (s.onCmd m fun k => { k with actSrc := j, xfer := none, xferOk := false, lost := false }).raise .CMD_XFER m
    else s
  if s1.cmd[m].actSrc ≠ j then s1
  else
    if s1.cmd[m].lost then
      if absQ (y - qdiv s1.cmd[m].ref (s.q Fld.LOOP_REFSCALE m)) ≤ win then
        (((s1.onCmd m fun k => { k with lost := false }).raise .CMD_RESTORED m).follow m x).latBegin m
      else s1.onCmd m fun k => { k with curveOn := on1, onSign := sg, y := y }
    else (s1.follow m x).latBegin m

/-- A setpoint channel has been refreshed: every motor object that lists it has a new value. -/
def State.spcValue (s : State) (ch : Fin 32) : State :=
  forFin 4 (fun m s => forFin 4 (fun j s =>
    if s.n Fld.LOOP_SRC m j = ch.1 + 1 then s.newValue m j s.spc[ch].value else s) s) s

/-- SETPOINT_WRITE (R118): a write to `SETPT`; a NaN or an infinity is no setpoint that the spec gives, so its number is free
(log 22). -/
def State.setpoint (s : State) (m : Fin 4) (v : Word) : State :=
  let (x, s1) := match ofF32 v with
    | .num q => (q, s)
    | _ => s.takeRat
  let s2 := s1.onCmd m fun c => { c with setpt := x, setptReg := v, setptAt := some s.up }
  forFin 4 (fun j s => if s.n Fld.LOOP_SRC m j = 33 then s.newValue m j x else s) s2

/-- SOURCE_TRANSFER_REQUEST (R117). A refused request leaves an older one pending (DESIGN CHOICE, log 131). -/
def State.xferRequest (s : State) (m : Fin 4) (j : Fin 4) : State :=
  match s.source m j with
  | none => s.raise .CMD_XFER_REFUSED m j
  | some (x, _) =>
    if !s.sourceFresh m j then s.raise .CMD_XFER_REFUSED m j
    else
      let inside := decide (absQ ((s.curve m x).1 - s.cmd[m].y) ≤ s.q Fld.LOOP_XFERWIN m)
      s.onCmd m fun c => { c with xfer := some (j, s.up), xferOk := inside }

/-- TRANSFER_TIMEOUT (R117): a request that is still pending 10 s after it was made is refused. -/
def State.xferTimeout (s : State) (m : Fin 4) : State :=
  match s.cmd[m].xfer with
  | some (j, _) => (s.onCmd m fun c => { c with xfer := none, xferOk := false }).raise .CMD_XFER_REFUSED m j
  | none => s

/-- What LOSSACT does to the reference of the mode in force (R122). RAMP_ZERO in POSITION brings the payout speed to 0; its rate in m/s²
is the number that RAMPDN gives in m/s (DESIGN CHOICE, log 131). -/
def State.lossAct (s : State) (m : Fin 4) : State :=
  s.onCmd m fun c =>
    match s.n Fld.LOOP_LOSSACT m with
    | 0 => { c with target := c.ref, lossRamp := false }
    | 1 => match s.outer[m].mode with
      | .tension => { c with target := c.ref, lossRamp := false }
      | .position => { c with lossRamp := true }
      | _ => { c with target := 0, lossRamp := false }
    | _ =>
      let p := s.q Fld.LOOP_LOSSPRESET m * s.q Fld.LOOP_REFSCALE m
      { c with target := if s.outer[m].mode = .tension then maxQ 0 p else p, lossRamp := false }

/-- The modes during which the command is not used (R211). -/
def EMode.ownsReference : EMode → Bool
  | .modeLaw | .cat0 => false
  | _ => true

/-- CMD_LOSS (R122, R211): a period starts at which the active source, once refreshed, is not valid any more; LOSSACT waits for the end
of an emergency mode. -/
def State.cmdLoss (s : State) (m : Fin 4) : State :=
  match s.source m s.cmd[m].actSrc with
  | some (_, some _) =>
    if s.cmd[m].lost ∨ s.sourceFresh m s.cmd[m].actSrc then s
    else
      let s1 := (s.onCmd m fun c => { c with lost := true, valid := c.valid.set c.actSrc.1 false c.actSrc.2 }).raise .CMD_LOSS m
      let s2 := s1.onEm m fun e => { e with lossDue := e.mode.ownsReference, lossAt := s.up, escDone := false }
      if s.em[m].mode.ownsReference then s2 else s2.lossAct m
  | _ => s

/-! ## Mode and spooling commands -/

/-- MODE_CHANGE_COMMAND (R124, R172, R177): taken at the next outer-loop period, or refused. -/
def State.modeChange (s : State) (m : Fin 4) (mode : BitVec 2) : State :=
  let md := OlMode.ofCode mode.toNat
  let needs := (md = .tension ∧ s.n Fld.LOOP_TSRC m = 1) ∨ md = .position
  if s.shock[m].render then s.raise .RENDER_BUSY m
  else if 0 < s.heave[m].g ∨ s.heave[m].ofs ≠ 0 then s.raise .AHC_REFUSED m
  else if needs ∧ !s.outer[m].spoolOk then s.raise .SPOOL_INVALID m
  else match s.brake[m].state with
    | .proving | .opening | .closing | .slipTest => s.raise .SPOOL_INVALID m
    | _ => s.onOuter m fun o => { o with modePend := some md }

/-- SPOOLSET_COMMAND (R130, R172): N_w is set from `SPOOLSETV`; one that is no number gives a free number of turns (log 22). -/
def State.spoolSet (s : State) (m : Fin 4) : State :=
  if s.shock[m].render then s.raise .RENDER_BUSY m
  else if !s.runsHere m then s
  else match ofF32 s.outer[m].spoolSet with
    | .num q => (s.spoolTo m q).causeGone m .SPOOL_INVALID m
    | _ =>
      let (q, s1) := s.takeRat
      (s1.spoolTo m q).causeGone m .SPOOL_INVALID m

/-! ## The end of a stop (R136, R205) -/

/-- The zero vector of the SHORT standstill, or the off level (R136). -/
def State.standstill (s : State) (m : Fin 4) : State :=
  let s1 := s.gatesIdle m
  if s.n Fld.MOTOR_STANDSTILL m = 1 then
    ((s.feeding m).foldl (fun (s : State) (n : Fin 8) => if s.br[n].enabled ∧ s.br[n].exec_.rank < 4 ∧ s.armed[m] then s.shortNow n else s) s1).onOuter m fun o => { o with short := true }
  else s1

/-- A motor object comes to its standstill: IDLE, and the stop of its entry is done (R136, R204, R205). A stop that met a proof ends in
PULSE_BLOCK instead (R135). -/
def State.stopDone (s : State) (m : Fin 4) (block : Bool := false) : State :=
  let e := s.em[m]
  let idle := (s.onStart m fun x => { x with state := .idle, since := s.up }).onOuter m fun o => { o with hold := none }
  let s1 := idle.onMbr m fun x => match x.state with
    | .joining | .share => { x with state := .idle, cpos := 0, cneg := 0, factor := 0, ramp := false }
    | _ => x
  if e.mode.isStop ∧ e.stopBy = .reaction then (s1.gatesIdle m).onEm m fun e => { e with stopped := true }
  else
    let s2 := if block then s1.gatesIdle m else s1.standstill m
    if e.mode.isStop then s2.resumePending m else s2

/-- The group stops with its lead (R206): its local members come to their standstill too. -/
def State.stopDoneAll (s : State) (m : Fin 4) (block : Bool := false) : State :=
  let s1 := if s.inGroup m then s.onRing fun r => { r with group := .stopped } else s
  ((s.followers m).filter fun j => j != m).foldl (fun s j => s.stopDone j block) (s1.stopDone m block)

/-! ## The brake sequence (R133 to R135) -/

/-- A safety input pair that a field names reads 1: channel A high, and channel B at its healthy level (R255). -/
def State.pairReads (s : State) (code : Nat) : Bool :=
  if code = 0 then false
  else
    let k := code - 1
    let a := (vat s.garnet.si .reset (2 * k)).level
    let b := (vat s.garnet.si .reset (2 * k + 1)).level
    a && (if s.n Fld.SAFETY_SIP_TYPE 0 k = 1 then !b else b)

/-- The brake is asked to set, and the payout is held (R134). -/
def State.brakeClose (s : State) (m : Fin 4) : State :=
  (s.onBrake m fun b => { b with state := .closing, since := s.up, release := false }).onOuter m fun o => { o with hold := some o.pay }

/-- The brake leaves CLOSED for its proof (R134). -/
def State.brakeProve (s : State) (m : Fin 4) : State :=
  s.onBrake m fun b => { b with
    state := .proving, since := s.up, proved := false, runNext := false, abort := false, start := s.shaft m }

/-- T_prove of R134. -/
def State.tProve (s : State) (m : Fin 4) : Rat :=
  let b := s.brake[m]
  let t := maxQ (s.q Fld.LOOP_TPROVE m / 100 * s.q Fld.LOOP_TRATED m) (11 / 10 * absQ b.hold)
  if b.holdSet ∧ b.hold < 0 then -t else t

/-- The share of T_prove that a follower of the motor object is to hold: all of it, or its share of the ring. -/
def State.proveShare (s : State) (m j : Fin 4) : Rat :=
  if s.inGroup m then s.ring.mbr[j].held * s.quantum else s.tProve m

/-- Every motor object of the group holds 95 % of its share of T_prove (R134): the local ones as their currents tell, those of other
modules as the HELD of their latest frames tells, which is all that a frame carries (log 132). -/
def State.proveHeld (s : State) (m : Fin 4) : Bool :=
  (s.followers m).all (fun j => decide (95 / 100 * absQ (s.proveShare m j) ≤ absQ (s.currentTorque j))) &&
    (!s.inGroup m || (List.finRange 32).all fun i =>
      decide (i.1 / 4 = s.n Fld.RING_POS 0) || !s.ring.alloc.elig[i] ||
        (match s.ring.pos[i.1 / 4]?.bind (fun p => p.recent.head?) with
          | some (_, f) => decide (95 * s.ring.alloc.share[i].natAbs ≤ 100 * (vat f.mbr .reset (i.1 % 4)).held.natAbs)
          | none => false))

/-- The shaft has moved PROVEMOV or more since the test began. -/
def State.proveMoved (s : State) (m : Fin 4) : Bool :=
  decide (s.q Fld.MOTOR_PROVEMOV m / 360 ≤ absQ (s.shaft m - s.brake[m].start))

/-- Torque proving fails (R134): the brake stays set, and the gates go off. -/
def State.proveFail (s : State) (m : Fin 4) : State :=
  ((s.onBrake m fun b => { b with fail := bump b.fail }).raise .BRK_PROVE_FAIL m).reactEv m .BRK_PROVE_FAIL m .pulseBlock false

/-- A stop meets the proof (R135): T* is to ramp to 0 from where it stands. -/
def State.proveAbort (s : State) (m : Fin 4) : State :=
  if s.brake[m].abort then s else s.onBrake m fun b => { b with abort := true, since := s.up, from_ := s.outer[m].tPrev }

/-- PROVING_END (R134): 150 ms in PROVING; where a stop met it, PULSE_BLOCK and CLOSED follow instead (R135). -/
def State.provingEnd (s : State) (m : Fin 4) : State :=
  if s.brake[m].state ≠ .proving then s
  else if s.brake[m].abort then (s.brakeToClosed m).stopDoneAll m true
  else if s.proveMoved m ∨ !s.proveHeld m then s.proveFail m
  else (s.onBrake m fun b => { b with state := .opening, since := s.up, proved := true, release := true }).onOuter m fun o =>
    { o with hold := some o.pay }

/-- The brake is open (R134). -/
def State.brakeOpened (s : State) (m : Fin 4) : State :=
  (s.onBrake m fun b => { b with state := .open_, since := s.up }).onOuter m fun o => { o with hold := none }

/-- BRAKE_FEEDBACK_OPEN (R134). -/
def State.brakeFeedback (s : State) (m : Fin 4) : State :=
  if s.brake[m].state = .opening ∧ s.pairReads (s.n Fld.MOTOR_BRKFB m) then s.brakeOpened m else s

/-- BRAKE_OPEN_TIMEOUT (R134): BRKOPENT has elapsed in OPENING. -/
def State.brakeOpenTimeout (s : State) (m : Fin 4) : State :=
  if s.brake[m].state ≠ .opening then s
  else if s.n Fld.MOTOR_BRKFB m = 0 then s.brakeOpened m
  else (s.brakeClose m).raise .BRK_OPEN_FAIL m

/-- BRAKE_CLOSING_DONE (R134): the brake reads closed, or BRKCLOSET has elapsed; the slip test starts. -/
def State.brakeClosed (s : State) (m : Fin 4) : State :=
  if s.brake[m].state ≠ .closing then s
  else s.onBrake m fun b => { b with
    state := .slipTest, since := s.up, hold := s.outer[m].tPrev, holdSet := true, proved := false, start := s.shaft m }

/-- The brake slips in its test (R134): T* returns to BRKHOLD, from which the motor holds again at the payout before the test. -/
def State.brakeSlipped (s : State) (m : Fin 4) : State :=
  ((s.onBrake m fun b => { b with state := .holdFault, since := s.up, slip := true, runNext := false }).onOuter m fun o =>
    { o with tPrev := s.brake[m].hold }).raise .BRK_SLIP m

/-- SLIPTEST_END (R134, R135): 200 ms in SLIPTEST. -/
def State.slipTestEnd (s : State) (m : Fin 4) : State :=
  if s.brake[m].state ≠ .slipTest then s
  else if s.proveMoved m then s.brakeSlipped m
  else
    let again := s.brake[m].runNext
    let s1 := s.onBrake m fun b => { b with state := .closed, since := s.up, slip := false, release := false, runNext := false }
    if again then (if s1.em[m].mode.isStop then s1.resumePending m else s1).brakeProve m else s1.stopDoneAll m

/-! ## Stops and runs -/

/-- A stop of a motor object that has failed: its start machine is IDLE, and its member too (R107, R194). -/
def State.leaveFailed (s : State) (m : Fin 4) : State :=
  if s.start[m].state ≠ .failed then s
  else ((s.gatesIdle m).onStart m fun x => { x with state := .idle, since := s.up }).onMbr m fun x =>
    if x.state = .out ∧ x.outCause = .failed then { x with state := .idle } else x

/-- A stop of a motor object that is starting: it is IDLE at once with its gates off, and so is its group (R107, R194). -/
def State.stopStart (s : State) (m : Fin 4) : State :=
  let s1 := ((s.gatesIdle m).onStart m fun x => { x with state := .idle, since := s.up }).onMbr m fun x =>
    if x.state = .joining then { x with state := .idle } else x
  if s.inGroup m then s1.onRing fun r => { r with group := .stopped } else s1

/-- Commanded to run, or stopped by the owner (R365). -/
def State.commanded (s : State) (m : Fin 4) (run : Bool) : State :=
  { s with av := { s.av with
      cmdRun := if run then s.av.cmdRun.set m.1 true m.2 else s.av.cmdRun
      owner := s.av.owner.set m.1 (!run) m.2 } }

/-- The release of EQR ends: the payout speed ramps to 0 (R207). -/
def State.eqrEnds (s : State) (m : Fin 4) : State :=
  if s.em[m].mode = .eqr then s.onEm m fun e => { e with eqrEnding := true }
  else if s.em[m].free then
    ((s.onEm m fun e => { e with free := false }).onBrake m fun b => { b with state := .closed, release := false, since := s.up }).raise
      .EQR_END m
  else s

/-- A stop command of a category (R203 to R206, R135): carried out as the state of the motor object asks. One to a member whose group
is led elsewhere is refused, but for the one that ends FAILED (R194). -/
def State.stopCommand (s : State) (m : Fin 4) (e : EMode) : State :=
  if !s.runsHere m then (if s.start[m].state = .failed then (s.commanded m false).leaveFailed m else s.raise .EM_REFUSED m)
  else
  let s := (s.commanded m false).leaveFailed m
  match s.runState m with
  | .idle | .failed => s.eqrEnds m
  | .run =>
    if s.em[m].mode = .eqr then s.eqrEnds m
    else match s.brake[m].state with
      | .proving => s.proveAbort m
      | .opening => s.brakeClose m
      | .closing | .slipTest => s.onBrake m fun b => { b with runNext := false }
      | .holdFault => s
      | _ =>
        if s.braked m ∧ s.brake[m].state = .closed then s
        else
          let s1 := if s.inGroup m then s.onRing fun r => { r with group := .stopping } else s
          s1.requestStop m e .command
  | _ => (s.stopStart m).eqrEnds m

/-- `CMDCTL.STOP` executes the category of STOPCAT. -/
def State.stopByCat (s : State) (m : Fin 4) : State :=
  s.stopCommand m (if s.n Fld.EMERGENCY_STOPCAT m = 2 then .cat2 else .cat1)

/-- Since when a condition has held at every period start (R467). -/
def heldSince (old : Option Nat) (now : Nat) (holds : Bool) : Option Nat := if holds then some (old.getD now) else none

/-- A condition has held for a time in nanoseconds. -/
def heldFor (since : Option Nat) (now t : Nat) : Bool := match since with | some a => decide (a + t ≤ now) | none => false

/-- |ω| has been below 1 % of rated speed at every period start of the last 100 ms (R467). -/
def State.slowLong (s : State) (m : Fin 4) : Bool := heldFor s.outer[m].slow s.up (100 * ms)

/-- STOP_COMPLETE (R205): the speed has stayed below 1 % for 100 ms; the end of R204 is applied. -/
def State.stopComplete (s : State) (m : Fin 4) : State :=
  let e := s.em[m]
  if !s.slowLong m then s
  else if e.mode = .eqr ∧ e.eqrEnding then
    let s1 := (s.onEm m fun x => { x with mode := .cat1, stopBy := .command, eqrEnding := false, stopped := false }).raise .EQR_END m
    if s.braked m then s1.brakeClose m else s1.stopDoneAll m
  else if !e.mode.isStop ∨ e.stopped then s
  else if !s.live m then s.stopDoneAll m
  else if e.mode = .cat2 then (s.onEm m fun x => { x with stopped := true }).onOuter m fun o =>
    if o.mode = .position then { o with hold := some e.payAt } else o
  else if s.braked m then
    if s.brake[m].state = .open_ then s.brakeClose m else s
  else if s.yes Fld.MOTOR_HOIST m then
    (s.onEm m fun x => { x with stopped := true }).onOuter m fun o => { o with hold := some o.pay }
  else s.stopDoneAll m

/-! ## A member joins its group (R186, R194) -/

/-- The group carrier of this module (R186). -/
def State.groupCarrier (s : State) : Nat :=
  if !s.yes Fld.RING_CARRALIGN 0 then 0
  else match s.leadMo with
    | some m => match s.bridges m with
      | n :: _ => s.n Fld.BRIDGE_FCARR (s.recOf n)
      | [] => 0
    | none => 0

/-- CFGID (R184). -/
def State.cfgId (s : State) : Word :=
  crc32 (bytesLE 2 (s.n Fld.RING_GID 0) ++ bytesLE 1 (s.n Fld.RING_NMOD 0) ++ bytesLE 4 (s.n Fld.RING_GTRATED 0)
    ++ bytesLE 4 (s.n Fld.RING_PBRATED 0) ++ bytesLE 4 s.groupCarrier)

/-- The carrier of a member is that of its module's group (R186). -/
def State.carrierOk (s : State) (m : Fin 4) : Bool :=
  !s.yes Fld.RING_CARRALIGN 0 || (s.bridges m).all fun n => s.n Fld.BRIDGE_FCARR (s.recOf n) == s.groupCarrier

/-- The lead's identity is this module's. -/
def State.cfgAgrees (s : State) : Bool :=
  s.isLead || (match s.ring.leadFrame with | some f => f.cfgid == s.cfgId | none => false)

/-- A start is issued to a member that joins; the member joins where its start machine takes it. Its capacity is full at once where
the group is starting (R194). -/
def State.startMember (s : State) (m : Fin 4) : State :=
  if s.start[m].state ≠ .idle then s
  else
    let s0 := if s.outer[m].short then (s.gatesIdle m).onOuter m fun o => { o with short := false } else s
    let s1 := s0.startCommand m
    if s1.start[m].state = .measure then
      s1.onMbr m fun x => { x with
        state := .joining, fullAtOnce := s.ring.group == .starting, ramp := false, factor := 0, dhold := false }
    else s1

/-- RING_MEMBER_JOIN: an IDLE member whose conditions hold (R186, R194). -/
def State.memberJoin (s : State) (m : Fin 4) : State :=
  let running := s.ring.group == .starting || s.ring.group == .running
  let gates := (s.feeding m).all fun n => s.br[n].enabled
  if !s.ring.on ∨ s.ring.mbr[m].state ≠ .idle ∨ !running ∨ !s.armed[m] ∨ !gates ∨ !s.ring.tlock ∨ s.ring.conflict then s
  else if !s.cfgAgrees ∨ !s.carrierOk m then s.raise .RING_CONFIG m
  else s.startMember m

/-- RUN_COMMAND (R107, R134 to R136, R205): a start, or the end of a hold. On the lead of a group it starts the group, which its own
member joins under the conditions of R194; a start that R107 refuses starts no group. -/
def State.runCommand (s : State) (m : Fin 4) : State :=
  let s := s.commanded m true
  match s.runState m with
  | .idle =>
    if !s.inGroup m then
      (if s.outer[m].short then (s.gatesIdle m).onOuter m fun o => { o with short := false } else s).startCommand m
    else if !s.runsHere m then s
    else if s.ring.mbr[m].state = .idle ∧ (s.startRefusal m ≠ 0 ∨ !s.gatesReady m) then s.startCommand m
    else (s.onRing fun r => { r with group := .starting }).memberJoin m
  | .run =>
    match s.brake[m].state with
    | .closing | .slipTest => s.onBrake m fun b => { b with runNext := true }
    | .holdFault =>
      let s1 := (s.onBrake m fun b => { b with state := .open_, since := s.up, release := true }).onOuter m fun o => { o with hold := none }
      if s1.em[m].mode.isStop then s1.resumePending m else s1
    | _ =>
      if s.em[m].mode = .cat2 ∨ (s.em[m].mode.isStop ∧ s.em[m].stopped ∧ s.em[m].stopBy = .command) then
        (s.resumePending m).onOuter m fun o => { o with hold := none }
      else s
  | _ => s

/-! ## Clearing reactions (R137) -/

/-- FAULT_CLEAR_COMMAND: the reactions of a motor object and its bridges, harder than DERATE, whose causes have cleared are removed;
the others of that kind are named. -/
def State.faultClear (s : State) (m : Fin 4) : State :=
  let old := s.moHard m
  let stay (r : React) : Bool := r.present || decide (r.sev.rank ≤ 1) || r.selfEnd
  let mine (n : Fin 8) : Bool := s.conf n && s.br[n].mo == m
  let all := s.reacts[m] ++ (s.bridges m).flatMap fun n => s.br[n].reacts
  let gone := (all.filter fun r => !stay r).length
  let left := (all.filter fun r => stay r && decide (1 < r.sev.rank)).filterMap fun r => r.cause.map Ev.code
  let s1 := { s with
    reacts := vmod s.reacts m fun l => l.filter stay
    br := vgen 8 fun n => if mine n then { s.br[n] with reacts := s.br[n].reacts.filter stay } else s.br[n] }
  let s2 := ((s1.settle m old).bridgesExec m).raise .REACT_CLEARED m gone ((left.take 6).flatMap fun c => bytesLE 2 c)
  let s3 := s2.dropMarks
  if s3.blocked m then s3
  else s3.onMbr m fun x => if x.state = .out ∧ x.outCause = .reaction then { x with state := .idle } else x

/-- CMDLAT_CLEAR (R33). -/
def State.latClear (s : State) (m : Fin 4) : State := s.onCmd m fun c => { c with latLast := 0, latMax := 0 }

/-- SETPOINT_WRITE (R118): see `State.setpoint`. -/
def execSetpointWrite (m : Fin 4) (v : Word) (s : State) : Host.Outcome State Fault Refusal := .next (s.setpoint m v)
/-- SOURCE_TRANSFER_REQUEST (R117): see `State.xferRequest`. -/
def execSourceTransferRequest (m src : Fin 4) (s : State) : Host.Outcome State Fault Refusal := .next (s.xferRequest m src)
/-- TRANSFER_TIMEOUT (R117): see `State.xferTimeout`. -/
def execTransferTimeout (m : Fin 4) (s : State) : Host.Outcome State Fault Refusal := .next (s.xferTimeout m)
/-- CMD_LOSS (R122): see `State.cmdLoss`. -/
def execCmdLoss (m : Fin 4) (s : State) : Host.Outcome State Fault Refusal := .next (s.cmdLoss m)
/-- MODE_CHANGE_COMMAND (R124): see `State.modeChange`. -/
def execModeChangeCommand (m : Fin 4) (mode : BitVec 2) (s : State) : Host.Outcome State Fault Refusal := .next (s.modeChange m mode)
/-- SPOOLSET_COMMAND (R130): see `State.spoolSet`. -/
def execSpoolsetCommand (m : Fin 4) (s : State) : Host.Outcome State Fault Refusal := .next (s.spoolSet m)
/-- FAULT_CLEAR_COMMAND (R137): see `State.faultClear`. -/
def execFaultClearCommand (m : Fin 4) (s : State) : Host.Outcome State Fault Refusal := .next (s.faultClear m)
/-- RUN_COMMAND (R107): see `State.runCommand`. -/
def execRunCommand (m : Fin 4) (s : State) : Host.Outcome State Fault Refusal := .next (s.runCommand m)
/-- STOP_COMMAND (R204): see `State.stopByCat`. -/
def execStopCommand (m : Fin 4) (s : State) : Host.Outcome State Fault Refusal := .next (s.stopByCat m)
/-- CMDLAT_CLEAR (R33): see `State.latClear`. -/
def execCmdlatClear (m : Fin 4) (s : State) : Host.Outcome State Fault Refusal := .next (s.latClear m)
/-- PROVING_END (R134): see `State.provingEnd`. -/
def execProvingEnd (m : Fin 4) (s : State) : Host.Outcome State Fault Refusal := .next (s.provingEnd m)
/-- BRAKE_FEEDBACK_OPEN (R134): see `State.brakeFeedback`. -/
def execBrakeFeedbackOpen (m : Fin 4) (s : State) : Host.Outcome State Fault Refusal := .next (s.brakeFeedback m)
/-- BRAKE_OPEN_TIMEOUT (R134): see `State.brakeOpenTimeout`. -/
def execBrakeOpenTimeout (m : Fin 4) (s : State) : Host.Outcome State Fault Refusal := .next (s.brakeOpenTimeout m)
/-- BRAKE_CLOSING_DONE (R134): see `State.brakeClosed`. -/
def execBrakeClosingDone (m : Fin 4) (s : State) : Host.Outcome State Fault Refusal := .next (s.brakeClosed m)
/-- SLIPTEST_END (R134): see `State.slipTestEnd`. -/
def execSliptestEnd (m : Fin 4) (s : State) : Host.Outcome State Fault Refusal := .next (s.slipTestEnd m)
/-- STOP_COMPLETE (R205): see `State.stopComplete`. -/
def execStopComplete (m : Fin 4) (s : State) : Host.Outcome State Fault Refusal := .next (s.stopComplete m)

end Sys2Proof.Machine
end

