-- ==== Sys2Proof/Machine/Emergency.lean ====
section
/-! DEFINITION. The emergency modes (chapter 09): stops by `EMCTL` (R204 to R206), EQR (R207), CRO (R208), SLA (R209), emergency
thrust (R210), command loss (R211), blackout restart (R212) and degraded operation (R213, R214). -/

namespace Sys2Proof.Machine

/-! ## Shared -/

/-- The tension of the source of R163. -/
def State.drumF (s : State) (m : Fin 4) : Rat :=
  if s.n Fld.LOOP_SHKSRC m = 0 ∧ !s.shock[m].srcfb then s.pinOf (s.n Fld.LOOP_SHKPIN m) else s.outer[m].est

/-- A motor object in RUN with its brake open, or without one, where its outer loop runs. -/
def State.drumLive (s : State) (m : Fin 4) : Bool :=
  s.runsHere m && s.live m && (!s.braked m || s.brake[m].state == .open_)

/-- The path is re-based to the present payout, so that line given is not hauled back (R208, R209). -/
def State.rebase (s : State) (m : Fin 4) : State :=
  if s.outer[m].mode = .position then
    (s.onCmd m fun c => { c with ref := s.outer[m].pay, target := s.outer[m].pay }).onGen m fun g => g.setTo s.outer[m].pay (s.paySpeed m)
  else s

/-- An entry of EQR, CRO or SLA (R203, R208): it replaces a lower one, and heave compensation and render end. -/
def State.enterDrum (s : State) (m : Fin 4) (e : EMode) : State :=
  ((s.endRender m).dropHeave m).onEm m fun x => { x.displace with mode := e, stopped := false, empay := 0, payAt := s.outer[m].pay, wRef := s.omega m }

/-- The render ceiling in force: RNDCEIL, or 90 % of the safely limited tension (R169). -/
def State.renderCeil (s : State) (m : Fin 4) : Rat :=
  let c := s.q Fld.LOOP_RNDCEIL m
  if c = 0 then 9 / 10 * s.q Fld.SAFETY_MO_SLTF 0 m else c

/-- The tension ceiling of CRO (R208). -/
def State.croF (s : State) (m : Fin 4) : Rat :=
  let f := s.q Fld.EMERGENCY_CROF m
  if f = 0 then s.renderCeil m else f

/-- A render cannot hold the line inside its limits (R170). -/
def State.renderSpent (s : State) (m : Fin 4) : Bool :=
  s.shock[m].render && (heldFor s.shock[m].hot s.up (100 * ms) || decide (s.q Fld.LOOP_RNDLMAX m < s.shock[m].x))

/-- The tension of R163 is judged at the start of a period: since when it has exceeded CROF, has been below CROEXIT of it, and has been
below SLKF (R208, R209, R467). -/
def State.tensionJudge (s : State) (m : Fin 4) : State :=
  let f := s.drumF m
  let low := s.drumLive m && decide (f < s.q Fld.EMERGENCY_SLKF m)
  s.onEm m fun e => { e with
    over_ := heldSince e.over_ s.up (decide (s.croF m < f))
    under := heldSince e.under s.up (decide (f < s.q Fld.EMERGENCY_CROEXIT m / 100 * s.croF m))
    slack := heldSince e.slack s.up low, slackTold := e.slackTold && low }

/-! ## Stops by command (R204) -/

/-- `EMCTL.STOP0`: PULSE_BLOCK until it is cleared. -/
def State.stop0 (s : State) (m : Fin 4) : State := (s.commanded m false).react m ⟨none, m, .pulseBlock, false, false⟩

/-- A stop has lasted 1.5 · t_s + 1 s, with t_s = STOPT · |ω0| / ω_rated (R205). -/
def State.stopLate (s : State) (m : Fin 4) : Bool :=
  let e := s.em[m]
  let t := s.q (if e.mode = .quick then Fld.EMERGENCY_QSTOPT else Fld.EMERGENCY_STOPT) m
  decide (3 / 2 * qdiv (t * absQ e.w0) (s.omegaRated m) + 1 ≤ ((s.up : Rat) - e.since) / sec)

/-- STOP_TIMEOUT (R205): the stop is not complete in time and becomes PULSE_BLOCK. -/
def State.stopTimeout (s : State) (m : Fin 4) : State :=
  if s.em[m].mode.isStop ∧ !s.em[m].stopped ∧ s.start[m].state ≠ .idle ∧ s.stopLate m then
    (s.raise .STOP_TIMEOUT m).reactEv m .STOP_TIMEOUT m .pulseBlock false
  else s

/-! ## EQR (R207) -/

/-- A request for EQR, by command or by its input pair. -/
def State.eqrRequest (s : State) (m : Fin 4) (pin : Bool) : State :=
  if !s.runsHere m ∨ !s.yes Fld.EMERGENCY_EQREN m ∨ s.em[m].mode = .cat0 ∨ s.blocked m then s.raise .EM_REFUSED m
  else if !s.yes Fld.SAFETY_MO_EQRHOLD 0 m then s.raise .EQR_REFUSED m
  else if s.em[m].mode = .eqr then s
  else
    let s1 := (s.raise .EQR_ON m).enterDrum m .eqr
    let s2 := s1.onEm m fun e => { e with
      eqrPin := pin, eqrEnding := false, eqrV := s.paySpeed m, noSpool := !s.outer[m].spoolOk }
    let s3 := s2.raiseIf (!s.outer[m].spoolOk) .EQR_NOSPOOL m
    let s4 := if s.braked m then s3.onBrake m fun b => { b with state := .open_, since := s.up, release := true } else s3
    if s.start[m].state = .idle then s4.startCommand m else s4

/-! ## CRO (R208) and SLA (R209) -/

/-- The present entry lets a lower-ranked one of the given rank take over. -/
def State.below (s : State) (m : Fin 4) (e : EMode) : Bool := decide (e.prio < s.em[m].mode.prio) && !s.blocked m

/-- CRO starts from the present state. -/
def State.croStart (s : State) (m : Fin 4) : State :=
  (s.raise .CRO_ON m).enterDrum m .cro |>.onEm m fun e => { e with lineEnd := false }

/-- CRO_ENTRY (R208): the tension has stayed above CROF for CRODLY. -/
def State.croEntry (s : State) (m : Fin 4) : State :=
  if s.yes Fld.EMERGENCY_CROEN m ∧ s.drumLive m ∧ s.outer[m].mode ≠ .torque ∧ s.below m .cro
      ∧ heldFor s.em[m].over_ s.up (s.n Fld.EMERGENCY_CRODLY m * ms) then s.croStart m else s

/-- RENDER_OVERLOAD (R170): a render that cannot hold the line is handed over to CRO. -/
def State.renderOverload (s : State) (m : Fin 4) : State :=
  if s.renderSpent m then
    ((s.onShock m fun h => { h with ovld := true, render := false, n := 0, base := h.f, baseSet := true }).raise .RENDER_OVERLOAD m).croStart m
  else s

/-- CRO_EXIT (R208): the tension has stayed below CROEXIT for CROHOLD. -/
def State.croExit (s : State) (m : Fin 4) : State :=
  if s.em[m].mode = .cro ∧ heldFor s.em[m].under s.up (natQ (s.q Fld.EMERGENCY_CROHOLD m * sec)) then
    (((s.resumePending m).rebase m).onShock m fun h => { h with ovld := false }).raise .CRO_END m
  else s

/-- The line is slack: the tension has stayed below SLKF for SLKDLY, or SLKIN reads slack (R209). -/
def State.slackNow (s : State) (m : Fin 4) : Bool :=
  heldFor s.em[m].slack s.up (s.n Fld.EMERGENCY_SLKDLY m * ms) || s.pairReads (s.n Fld.EMERGENCY_SLKIN m)

/-- SLA_ENTRY (R209): slack line; during EQR only the drop is journaled, once for each. -/
def State.slaEntry (s : State) (m : Fin 4) : State :=
  if !s.yes Fld.EMERGENCY_SLKEN m ∨ !s.drumLive m ∨ !s.slackNow m then s
  else if s.em[m].mode = .eqr then
    (s.onEm m fun e => { e with slackTold := true }).raiseIf (!s.em[m].slackTold) .TENS_DROP m
  else if s.below m .sla then
    (s.raise .SLACK_ARREST m).enterDrum m .sla |>.onEm m fun e => { e with slaRest := false }
  else s

/-- SLACK_CLEAR_COMMAND (R209): `EMCTL.SLKCLR`. -/
def State.slackClear (s : State) (m : Fin 4) : State :=
  if s.em[m].mode = .sla ∧ s.q Fld.EMERGENCY_SLKF m ≤ s.drumF m ∧ !s.pairReads (s.n Fld.EMERGENCY_SLKIN m) then
    (s.resumePending m).rebase m
  else s.raise .EM_REFUSED m

/-! ## Emergency thrust (R210) -/

/-- Milliseconds of override in the window of the last 3,600 s of device time. -/
def State.etUsedMs (s : State) (m : Fin 4) : Nat :=
  let now := s.dev.toNat / sec
  let inWin (t : Nat) : Bool := decide (t ≤ now) && decide (now < t + 3600)
  let bins := (s.em[m].etBins.filter fun b => inWin b.1).foldl (fun x b => x + b.2) 0
  let full := (s.em[m].etFull.filter inWin).length * s.n Fld.EMERGENCY_ETBUD m * 1000
  let run := if s.em[m].etAct then (s.dev.toNat - s.em[m].etDevAt) / ms else 0
  bins + full + run

/-- The time available in milliseconds, 0 where the window is spent. -/
def State.etAvailMs (s : State) (m : Fin 4) : Nat := s.n Fld.EMERGENCY_ETBUD m * 1000 - s.etUsedMs m

/-- The override time of a stretch of device time, by the second it falls in. -/
def etBinsOf (t0 t1 : Nat) : List (Nat × Nat) :=
  (List.range (t1 / sec - t0 / sec + 1)).filterMap fun i =>
    let b := t0 / sec + i
    let lo := max t0 (b * sec)
    let hi := min t1 ((b + 1) * sec)
    if lo < hi then some (b, (hi - lo) / ms) else none

/-- ET_ON_COMMAND (R210). -/
def State.etOn (s : State) (m : Fin 4) : State :=
  if s.em[m].etAct then s
  else if !s.yes Fld.EMERGENCY_ETEN m ∨ s.etAvailMs m < 1000 then s.raise .ET_REFUSED m
  else
    let tsw := (s.feeding m).foldl (fun t n => (List.range (s.gateCount n)).foldl (fun t o =>
      maxQ t (vat s.chan .reset (gateBase n + o)).tj) t) 0
    (s.onEm m fun e => { e with
      etAct := true, etFade := false, etAt := s.up, etDevAt := s.dev.toNat, etCnt := bump e.etCnt, etTsw := tsw, etTw := s.wind[m].tw }).raise
      .ET_ON m 0 (bytesLE 4 (s.etAvailMs m))

/-- The override ends: its time goes into the window, and the factors fade back (R210). -/
def State.etEnd (s : State) (m : Fin 4) : State :=
  let e := s.em[m]
  if e.etAct then
    (s.onEm m fun x => { x with
      etAct := false, etFade := true, etAt := s.up, etBins := etBinsOf e.etDevAt s.dev.toNat ++ x.etBins }).raise
      .ET_OFF m 0 (bytesLE 4 ((s.dev.toNat - e.etDevAt) / ms) ++ bytesLE 4 (toF32 e.etTsw).toNat ++ bytesLE 4 (toF32 e.etTw).toNat)
  else s

/-! ## Command loss during emergency modes (R211) -/

/-- The override ends when its time is spent, and its fade ends after ETFADE (R210). -/
def State.etPeriod (s : State) (m : Fin 4) : State :=
  let s1 := if s.em[m].etAct ∧ s.etAvailMs m = 0 then s.etEnd m else s
  s1.onEm m fun e => if e.etFade ∧ e.etAt + natQ (s.q Fld.EMERGENCY_ETFADE m * sec) ≤ s.up then { e with etFade := false } else e

/-- CMD_LOSS_ESCALATION: the loss has lasted LOSSTMAX. -/
def State.lossEsc (s : State) (m : Fin 4) : State :=
  if s.cmd[m].lost ∧ !s.em[m].escDone ∧ s.em[m].lossAt + s.n Fld.EMERGENCY_LOSSTMAX m * sec ≤ s.up then
    let s1 := (s.onEm m fun e => { e with escDone := true })
    match s.n Fld.EMERGENCY_LOSSESC m with
    | 0 => s1.raise .CMD_LOSS_ESC m
    | 1 => (s1.raise .CMD_LOSS_ESC m).reactEv m .CMD_LOSS_ESC m .rampStop false
    | _ => (s1.raise .CMD_LOSS_ESC m).reactEv m .CMD_LOSS_ESC m .quickStop false
  else s

/-! ## Blackout restart (R212) -/

/-- The BLACKOUT reaction is in force. -/
def State.inBlackout (s : State) (m : Fin 4) : Bool := s.reacts[m].any fun r => r.cause == some Ev.BLACKOUT

/-- The link of the rank-0 bridge lies below a percentage of VDCNOM. -/
def State.linkBelow (s : State) (m : Fin 4) (pct : Rat) : Bool :=
  match s.rank0 m with
  | some n => decide (s.vdc n < pct / 100 * s.q Fld.EMERGENCY_VDCNOM m)
  | none => false

/-- BLACKOUT_DETECT: the link has been below BOUV for 10 ms, and is so now. -/
def State.blackout (s : State) (m : Fin 4) : State :=
  if s.inBlackout m ∨ !s.linkBelow m (s.q Fld.EMERGENCY_BOUV m) then s
  else
    let was := s.start[m].state = .run ∧ s.yes Fld.EMERGENCY_BOAUTO m
    ((s.onEm m fun e => { e with
      boWait := decide was, boAt := s.up, boGoodAt := none }).raise .BLACKOUT m).reactEv m .BLACKOUT m .pulseBlock

/-- BLACKOUT_RECOVERY_QUALIFIED: the link has stayed above BORECOV for BOSTAB, and is so now. -/
def State.blackoutGood (s : State) (m : Fin 4) : State :=
  if s.inBlackout m ∧ !s.linkBelow m (s.q Fld.EMERGENCY_BORECOV m) then
    (s.onEm m fun e => { e with boGoodAt := some s.up }).causeGone m .BLACKOUT m
  else s

/-- A dip below BORECOV restarts the qualification (R212). -/
def State.blackoutDip (s : State) (m : Fin 4) : State :=
  if s.em[m].boGoodAt.isSome ∧ s.linkBelow m (s.q Fld.EMERGENCY_BORECOV m) then
    { s.onEm m fun e => { e with boGoodAt := none } with
      reacts := vmod s.reacts m fun l => l.map fun r => if r.cause = some .BLACKOUT then { r with present := true } else r }
  else s

/-- t_r of R212 in nanoseconds; a module outside a ring takes position 0. -/
def State.restartDelay (s : State) (m : Fin 4) : Nat :=
  let p := if s.ring.on then s.n Fld.RING_POS 0 else 0
  natQ ((s.q Fld.EMERGENCY_BODLY m + (4 * p + m.1) * s.q Fld.EMERGENCY_BOSTAG m) * sec)

/-- BLACKOUT_RESTART: the staggered time t_r has come for a motor object that is still remembered. -/
def State.blackoutRestart (s : State) (m : Fin 4) : State :=
  if s.em[m].boWait ∧ heldFor s.em[m].boGoodAt s.up (s.restartDelay m) then
    let s1 := ((s.onEm m fun e => { e with boWait := false, boGoodAt := none }).endReact m .BLACKOUT m).raise .BO_RESTART m
    if s1.inGroup m then
      let s2 := s1.onMbr m fun x => if x.state = .out ∧ !s1.blocked m then { x with state := .idle } else x
      if s1.runsHere m then s2.onRing fun r => { r with group := .starting } else s2
    else if s1.sourceFresh m s1.cmd[m].actSrc then s1.startCommand m else s1
  else s

/-- BLACKOUT_MEMORY_EXPIRY: BOMEM has passed; the reaction now waits for its clear. -/
def State.blackoutForget (s : State) (m : Fin 4) : State :=
  s.onEm m fun e => if e.boAt + s.n Fld.EMERGENCY_BOMEM m * sec ≤ s.up then { e with boWait := false } else e

/-! ## Degraded operation (R214) -/

/-- DEGRADE_COMMAND: accepted while the motor object is IDLE or its member is DRAINED. -/
def State.degradeCommand (s : State) (m rank : Fin 4) : State :=
  let ok := s.yes Fld.EMERGENCY_DEGRADE m && decide (2 ≤ (s.feeding m).length) && decide (s.em[m].degr = .none_ ∨ s.em[m].degr = .on) &&
    (s.start[m].state == .idle || s.ring.mbr[m].state == .drained)
  match (s.feeding m)[rank.1]? with
  | some n => if ok then s.degradeStart m n false else s.raise .EM_REFUSED m
  | none => s.raise .EM_REFUSED m

/-- ISOLATOR_OPEN: ISOIN reads open in time; the motor object runs on with the bridges that are left (R214 steps 3 and 4). -/
def State.isolatorOpen (s : State) (m : Fin 4) : State :=
  let e := s.em[m]
  if e.degr ≠ .waiting then s
  else match (s.feeding m)[e.degrRank]? with
  | none => s
  | some n =>
    if !s.pairReads (s.n Fld.BRIDGE_ISOIN (s.recOf n)) then s else
    let s1 := ((s.onBr n fun b => { b with taken := true }).onEm m fun e => { e with degr := .on }).raise .DEGRADED_ON m e.degrRank
    let s2 := s1.endReact m .DEGRADED_ON m
    let s3 := s2.onMbr m fun x => if x.state = .out ∧ x.outCause = .degradeHold then { x with state := .idle } else x
    if e.degrAuto ∧ e.degrRun ∧ !s3.inGroup m then s3.startCommand m else s3

/-- ISOLATOR_TIMEOUT: ISOIN has not read open within ISOT; PULSE_BLOCK is held until it is cleared. -/
def State.isolatorLate (s : State) (m : Fin 4) : State :=
  if s.em[m].degr = .waiting then
    let s1 := (s.onEm m fun e => { e with degr := .failed }).onMbr m fun x =>
      if x.state = .out ∧ x.outCause = .degradeHold then { x with outCause := .reaction } else x
    ((s1.raise .DEGRADE_FAIL m).reactEv m .DEGRADE_FAIL m .pulseBlock false).endReact m .DEGRADED_ON m
  else s

/-- RESTORE_COMMAND: accepted while the motor object is IDLE. -/
def State.restore (s : State) (m : Fin 4) : State :=
  if s.start[m].state = .idle ∧ (s.em[m].degr = .on ∨ s.em[m].degr = .failed) then
    { s.onEm m fun e => { e with degr := .none_ } with
      br := vgen 8 fun n => if s.conf n && s.br[n].mo == m then { s.br[n] with taken := false, isoReq := true } else s.br[n] }
  else s.raise .EM_REFUSED m

/-- STOP0_COMMAND (R204): see `State.stop0`. -/
def execStop0Command (m : Fin 4) (s : State) : Host.Outcome State Fault Refusal := .next (s.stop0 m)
/-- STOP1_COMMAND (R204): a category 1 stop. -/
def execStop1Command (m : Fin 4) (s : State) : Host.Outcome State Fault Refusal := .next (s.stopCommand m .cat1)
/-- QUICK_STOP_COMMAND (R204): the fastest category 1 stop. -/
def execQuickStopCommand (m : Fin 4) (s : State) : Host.Outcome State Fault Refusal := .next (s.stopCommand m .quick)
/-- STOP2_COMMAND (R204): a category 2 stop. -/
def execStop2Command (m : Fin 4) (s : State) : Host.Outcome State Fault Refusal := .next (s.stopCommand m .cat2)
/-- STOP_TIMEOUT (R205): see `State.stopTimeout`. -/
def execStopTimeout (m : Fin 4) (s : State) : Host.Outcome State Fault Refusal := .next (s.stopTimeout m)
/-- EQR_REQUEST (R207): `EMCTL.EQR`. -/
def execEqrRequest (m : Fin 4) (s : State) : Host.Outcome State Fault Refusal := .next (s.eqrRequest m false)
/-- EQR_INPUT_REQUEST (R207): the pair EQRIN reads active. -/
def execEqrInputRequest (m : Fin 4) (s : State) : Host.Outcome State Fault Refusal :=
  .next (if s.pairReads (s.n Fld.EMERGENCY_EQRIN m) then s.eqrRequest m true else s)
/-- EQR_OFF_COMMAND (R207): `EMCTL.EQROFF`. -/
def execEqrOffCommand (m : Fin 4) (s : State) : Host.Outcome State Fault Refusal := .next (s.eqrEnds m)
/-- CRO_ENTRY (R208): see `State.croEntry`. -/
def execCroEntry (m : Fin 4) (s : State) : Host.Outcome State Fault Refusal := .next (s.croEntry m)
/-- CRO_EXIT (R208): see `State.croExit`. -/
def execCroExit (m : Fin 4) (s : State) : Host.Outcome State Fault Refusal := .next (s.croExit m)
/-- SLA_ENTRY (R209): see `State.slaEntry`. -/
def execSlaEntry (m : Fin 4) (s : State) : Host.Outcome State Fault Refusal := .next (s.slaEntry m)
/-- SLACK_CLEAR_COMMAND (R209): see `State.slackClear`. -/
def execSlackClearCommand (m : Fin 4) (s : State) : Host.Outcome State Fault Refusal := .next (s.slackClear m)
/-- ET_ON_COMMAND (R210): see `State.etOn`. -/
def execEtOnCommand (m : Fin 4) (s : State) : Host.Outcome State Fault Refusal := .next (s.etOn m)
/-- ET_OFF_COMMAND (R210): the override ends by command. -/
def execEtOffCommand (m : Fin 4) (s : State) : Host.Outcome State Fault Refusal := .next (s.etEnd m)
/-- ET_BUDGET_EXHAUSTED (R210): ETAVAIL has reached 0. -/
def execEtBudgetExhausted (m : Fin 4) (s : State) : Host.Outcome State Fault Refusal := .next (s.etPeriod m)
/-- ET_FADE_END (R210): the factors have reached their computed values. -/
def execEtFadeEnd (m : Fin 4) (s : State) : Host.Outcome State Fault Refusal :=
  .next (s.etPeriod m)
/-- CMD_LOSS_ESCALATION (R211): see `State.lossEsc`. -/
def execCmdLossEscalation (m : Fin 4) (s : State) : Host.Outcome State Fault Refusal := .next (s.lossEsc m)
/-- BLACKOUT_DETECT (R212): see `State.blackout`. -/
def execBlackoutDetect (m : Fin 4) (s : State) : Host.Outcome State Fault Refusal := .next (s.blackout m)
/-- BLACKOUT_RECOVERY_QUALIFIED (R212): see `State.blackoutGood`. -/
def execBlackoutRecoveryQualified (m : Fin 4) (s : State) : Host.Outcome State Fault Refusal := .next (s.blackoutGood m)
/-- BLACKOUT_RESTART (R212): see `State.blackoutRestart`. -/
def execBlackoutRestart (m : Fin 4) (s : State) : Host.Outcome State Fault Refusal := .next (s.blackoutRestart m)
/-- BLACKOUT_MEMORY_EXPIRY (R212): see `State.blackoutForget`. -/
def execBlackoutMemoryExpiry (m : Fin 4) (s : State) : Host.Outcome State Fault Refusal := .next (s.blackoutForget m)
/-- DEGRADE_COMMAND (R214): see `State.degradeCommand`. -/
def execDegradeCommand (m rank : Fin 4) (s : State) : Host.Outcome State Fault Refusal := .next (s.degradeCommand m rank)
/-- ISOLATOR_OPEN (R214): see `State.isolatorOpen`. -/
def execIsolatorOpen (m : Fin 4) (s : State) : Host.Outcome State Fault Refusal := .next (s.isolatorOpen m)
/-- ISOLATOR_TIMEOUT (R214): see `State.isolatorLate`. -/
def execIsolatorTimeout (m : Fin 4) (s : State) : Host.Outcome State Fault Refusal := .next (s.isolatorLate m)
/-- RESTORE_COMMAND (R214): see `State.restore`. -/
def execRestoreCommand (m : Fin 4) (s : State) : Host.Outcome State Fault Refusal := .next (s.restore m)
/-- RENDER_OVERLOAD (R170): see `State.renderOverload`. -/
def execRenderOverload (m : Fin 4) (s : State) : Host.Outcome State Fault Refusal := .next (s.renderOverload m)

end Sys2Proof.Machine
end

