-- ==== Sys2Proof/Machine/Tokens.lean ====
section
/-! DEFINITION. The token allocation of R189 in whole numbers, and the posting of torque references to the current loops. -/

namespace Sys2Proof.Machine

/-- A member in the allocation: its place in key order, its capacity in the sign of the demand, and its weight. -/
structure Claim where
  key    : Nat
  cap    : Nat
  weight : Nat
deriving DecidableEq, Repr

/-- The whole part of a claim's share of what is left. -/
def Claim.part (c : Claim) (rest w : Nat) : Nat := rest * c.weight / w

/-- The sum of the weights. -/
def weights (l : List Claim) : Nat := (l.map Claim.weight).sum

/-- The loop of R189: claims whose part would reach their capacity get it and leave, until none does. The claims left, what is
left for them, and the shares given. -/
def capLoop : Nat → List Claim → Nat → List (Nat × Nat) → List Claim × Nat × List (Nat × Nat)
  | 0, l, rest, out => (l, rest, out)
  | n + 1, l, rest, out =>
    let w := weights l
    let full := l.filter fun c => decide (c.cap ≤ c.part rest w)
    if full = [] then (l, rest, out)
    else capLoop n (l.filter fun c => !decide (c.cap ≤ c.part rest w)) (rest - (full.map Claim.cap).sum)
      (out ++ full.map fun c => (c.key, c.cap))

/-- The parts of the claims left, one more quantum for each of the first `e`. -/
def spread (rest w : Nat) : List Claim → Nat → List (Nat × Nat)
  | [], _ => []
  | c :: l, 0 => (c.key, c.part rest w) :: spread rest w l 0
  | c :: l, e + 1 => (c.key, c.part rest w + 1) :: spread rest w l e

/-- The magnitudes of R189 for a demand magnitude: the total allocated, and the shares by key. -/
def allocate (d : Nat) (claims : List Claim) : Nat × List (Nat × Nat) :=
  let live := claims.filter fun c => 0 < c.cap
  let m := min d (live.map Claim.cap).sum
  let (l, rest, out) := capLoop (live.length + 1) live m []
  let w := weights l
  let base := (l.map fun c => c.part rest w).sum
  (m, out ++ spread rest w l (rest - base))

/-- The share of a key. -/
def shareOf (l : List (Nat × Nat)) (key : Nat) : Nat := ((l.find? fun x => x.1 == key).map Prod.snd).getD 0

/-- A torque reference is posted by a port to every bridge that feeds a motor object. -/
def State.postRef (s : State) (m : Fin 4) (port : Nat) (t : Rat) : State :=
  let bytes := bytesLE 4 (toF32 t).toNat
  (s.feeding m).foldl (fun s n => s.post port (bridgeFlow 1 n) (itemOf 0 false s.fab.flows[bridgeFlow 1 n].epoch bytes)) s

/-- The setpoints under measurement that have come to one stage come to the next (R33). -/
def State.latMove (s : State) (m : Fin 4) (from_ to_ : LatStage) : State :=
  s.onCmd m fun c => { c with latRuns := c.latRuns.map fun r => if r.stage = from_ then { r with stage := to_ } else r }

/-- The outer-loop task posts a torque reference (R30 step 6, R89). -/
def State.postTorque (s : State) (m : Fin 4) (t : Rat) : State := s.postRef m (s.taskPort (8 + m)) t

/-- The torque reference of a share in quanta: the member's own limits still apply (R187). -/
def State.shareTorque (s : State) (m : Fin 4) (q : Int) : Rat :=
  let (lo, hi) := s.ownLimits m
  clampQ lo hi (q * s.quantum)

/-- The ring island posts a share in quanta to the current loops of a member (R187). -/
def State.postShare (s : State) (m : Fin 4) (q : Int) : State :=
  (s.postRef m 19 (s.shareTorque m q)).onMbr m fun x => { x with written := q }

/-- D of a torque (R187). -/
def State.demandOf (s : State) (t : Rat) : Int :=
  clampI (-3145728) 3145728 (roundQ (qdiv t s.quantum))

end Sys2Proof.Machine
end

