-- ==== Sys2Proof/Machine/Shock.lean ====
section
/-! DEFINITION. Shock detection and render (R162 to R173). -/

namespace Sys2Proof.Machine

/-- The tension reference of R129. -/
def State.tensionRef (s : State) (m : Fin 4) : Rat := minQ s.cmd[m].ref (s.q Fld.LOOP_TMAXREF m)

/-- The payout reference of the mode in force, as it would be without a render or the heave offset (R168). -/
def State.pathRef (s : State) (m : Fin 4) : Rat :=
  if s.outer[m].mode = .position then (if s.yes Fld.LOOP_PROFILE m then s.moGen[m].x else s.cmd[m].ref) else s.shock[m].lPath

/-- The speed of that path (R168). -/
def State.pathSpeed (s : State) (m : Fin 4) : Rat :=
  match s.outer[m].mode with
  | .position => if s.yes Fld.LOOP_PROFILE m then s.moGen[m].v else s.outer[m].refVel
  | .speed => -(radPerSec s.cmd[m].refSpd) * s.rEff m / s.q Fld.LOOP_GEAR m
  | _ => 0

/-- F_cmd of R168 at a line given and its speed, before the ceiling and the floor, and whether the payout is above RNDVMAX. -/
def State.renderForce (s : State) (m : Fin 4) (x xd : Rat) : Rat × Bool :=
  let h := s.shock[m]
  let v := s.paySpeed m
  let fast := decide (s.q Fld.LOOP_RNDVMAX m < v)
  (h.fSet + s.q Fld.LOOP_RNDK m * x + h.dr * xd + (if fast then 10 * h.dr * (v - s.q Fld.LOOP_RNDVMAX m) else 0), fast)

/-- F_cmd limited by the floor and the ceiling, with the torque that it asks for. -/
def State.renderAt (s : State) (m : Fin 4) (x xd : Rat) : State × Rat :=
  let (f0, fast) := s.renderForce m x xd
  let top := s.renderCeil m
  let f := clampQ (s.q Fld.LOOP_RNDFLOOR m) top f0
  (s.onShock m fun k => { k with x := x, fCmd := f, ceil := decide (top ≤ f0), vcap := fast }, s.torqueOfTension m f)

/-- The conditions that end a render, judged in a period: those of R170 and R171. -/
def State.renderJudge (s : State) (m : Fin 4) : State :=
  let hot := s.shock[m].ceil && decide (11 / 10 * s.q Fld.LOOP_RNDVMAX m < s.paySpeed m)
  let calm := decide (absQ (s.shock[m].f - s.shock[m].fSet) ≤ s.q Fld.LOOP_RNDEXIT m / 100 * s.shock[m].fSet)
  s.onShock m fun h => { h with hot := heldSince h.hot s.up hot, calm := heldSince h.calm s.up calm }

/-- One evaluation of the render law in a period (R168): the torque, with x, F_cmd, the trace bits and the conditions of its end. -/
def State.renderLaw (s : State) (m : Fin 4) : State × Rat :=
  let x := s.outer[m].pay - (s.pathRef m + s.heave[m].ofs)
  let (s1, t) := s.renderAt m x (s.paySpeed m - (s.pathSpeed m + s.heave[m].vofs))
  (s1.renderJudge m, t)

/-- The tension has stayed near F_set for RNDHOLD (R171). -/
def State.renderCalm (s : State) (m : Fin 4) : Bool :=
  s.shock[m].render && heldFor s.shock[m].calm s.up (natQ (s.q Fld.LOOP_RNDHOLD m * sec))

/-- The largest wave frequency that counts for R173: of the components with at least a tenth of the largest amplitude, squares
compared. -/
def Heave.topFreq (h : Heave) : Rat :=
  let l := h.comps.toList.take h.nComp
  let amp2 (c : WaveComp) := c.p * c.p + c.q * c.q
  let big := l.foldl (fun a c => maxQ a (amp2 c)) 0
  (l.filter fun c => decide (big ≤ 100 * amp2 c)).foldl (fun w c => maxQ w c.w) 0

/-- The cycle at whose boundary a demand posted now becomes held: the one after that of the next latch (R190). -/
def State.heldFrom (s : State) : Nat := (s.dev.toNat + 19400) / 20000 + 1

/-- The torque of a render, limited under R125, is T* and is written to the current loops at once: by the token rule of the new demand
in a group (R167, R168). -/
def State.renderPost (s0 : State) (m : Fin 4) (t0 : Rat) : State :=
  let (lo, hi) := s0.torqueLimits m
  let t := clampQ lo hi t0
  let s := s0.onOuter m fun o => { o with tPrev := t, tRaw := t0 }
  if s.inGroup m then
    let d := s.demandOf t
    let mine (key : Nat) : Option (Fin 4) :=
      if key / 4 = s.n Fld.RING_POS 0 then some ⟨key % 4, Nat.mod_lt _ (by decide)⟩ else none
    let claims := (List.range 32).filterMap fun key =>
      if vat s.ring.alloc.elig false key then
        let e := match mine key with
          | some j => (s.ring.mbr[j].cpos, s.ring.mbr[j].cneg, s.n Fld.RING_WEIGHT 0 j)
          | none => match ((vat s.ring.pos .reset (key / 4)).recent.head?) with
            | some (_, f) => let b := vat f.mbr .reset (key % 4); (b.cpos, b.cneg, b.weight)
            | none => (0, 0, 1)
        some (Claim.mk key (if 0 ≤ d then e.1 else e.2.1) e.2.2)
      else none
    let out := (allocate d.natAbs claims).2
    (List.finRange 4).foldl (fun (s : State) (j : Fin 4) =>
      let key := 4 * s.n Fld.RING_POS 0 + j.1
      if vat s.ring.alloc.elig false key then
        let q : Int := if 0 ≤ d then shareOf out key else -(shareOf out key : Int)
        (s.postShare j q).onMbr j fun x => { x with owed := some s.heldFrom }
      else s) s
  else s.postTorque m t

/-- A render starts (R167, R168, R173): its constants are fixed, its first torque is written. -/
def State.renderStart (s : State) (m : Fin 4) : State :=
  let fSet := if s.outer[m].mode = .tension then s.tensionRef m else s.shock[m].base
  let r := s.rEff m
  let ratio := qdiv (s.q Fld.LOOP_GEAR m) r
  let mass := s.q Fld.LOOP_JTOT m * ratio * ratio + fSet * 1000 / (980665 / 100000)
  let k := s.q Fld.LOOP_RNDK m
  let dr := 2 * s.q Fld.LOOP_RNDZETA m * Config.sqrt (k * 1000 * mass) / 1000
  let wMax := 2 * s.heave[m].topFreq
  let soft := s.heave[m].ready && decide (qdiv (k * 1000) mass < wMax * wMax)
  let s1 := s.onShock m fun h => { h with
    render := true, rndCnt := bump h.rndCnt, fSet := fSet, dr := dr, x := 0, peak := h.f, soft := soft, xr := 0
    recov := false, lPath := s.outer[m].pay, hot := none, calm := none, restore := false }
  let (s2, t) := (s1.raiseIf soft .RENDER_SOFT m).renderAt m 0 0
  s2.renderPost m t

/-- The detector is armed (R164). -/
def State.shockArmed (s : State) (m : Fin 4) : Bool := s.drumLive m && !s.shock[m].render

/-- A detection (R164): counted and stamped; a render where it may start. -/
def State.shockDetect (s : State) (m : Fin 4) : State :=
  let s1 := (s.onShock m fun h => { h with cnt := bump h.cnt, t := s.dev }).raise .SHOCK m
  if s.yes Fld.LOOP_RNDEN m ∧ !s.shock[m].rndInh ∧ s.outer[m].mode ≠ .torque ∧ s.em[m].mode = .modeLaw then s1.renderStart m else s1

/-- SHOCK_SRC_FAULT (R166): EST takes over from the pin. -/
def State.shockSrcFault (s : State) (m : Fin 4) : State :=
  if s.n Fld.LOOP_SHKSRC m = 0 ∧ !s.shock[m].srcfb ∧ s.yes Fld.LOOP_SHKEN m then
    (s.onShock m fun h => { h with srcfb := true, n := 0, ovrRun := 0 }).raise .SHOCK_SRC_FAULT m
  else s

/-- A load pin stands alone in a continuous sequence of its cell (R163). -/
def State.pinSeq (s : State) (i : Nat) : Option Nat :=
  (List.range 4).find? fun k => s.n Fld.CELL_SQ_MODE (i / 12) k == 1 && s.n Fld.CELL_SQ_LEN (i / 12) k == 1
    && s.n Fld.CELL_SQ_E_IN (i / 12) k 0 == i % 12

/-- The latest item of a load pin: the result of its continuous sequence (R163). -/
def State.pinItem (s : State) (m : Fin 4) : Option (Nat × AdcRes) :=
  match ainOf (s.n Fld.LOOP_SHKPIN m) with
  | some i => (s.pinSeq i).map fun k => (i, vat (vat (vat s.cells .reset (i / 12)).sq .reset k).res .reset 0)
  | none => none

/-- The detector reads its load pin (R163, R166). -/
def State.onPin (s : State) (m : Fin 4) : Bool := s.n Fld.LOOP_SHKSRC m == 0 && !s.shock[m].srcfb

/-- The sample of F at this moment (R163): the scaled item of the pin, or the estimate from T* and the acceleration of the drum. -/
def State.shockF (s : State) (m : Fin 4) : Rat :=
  if s.onPin m then
    match s.pinItem m with
    | some (i, r) => s.q Fld.CELL_GAIN (i / 12) (i % 12) * r.value + s.q Fld.CELL_OFS (i / 12) (i % 12)
    | none => 0
  else
    let dt : Rat := ((s.up : Rat) - s.shock[m].lastAt) / sec
    s.tensionEst m s.outer[m].tPrev (if dt = 0 then 0 else (s.omega m - s.shock[m].wLast) / dt)

/-- The pin's item carries OVR, or SUSPECT (R164, R166). -/
def State.pinFlags (s : State) (m : Fin 4) : Bool × Bool :=
  if s.onPin m then (match s.pinItem m with | some (_, r) => (r.ovr, r.suspect) | none => (false, false)) else (false, false)

/-- A tension sample that is not skipped (R164). -/
def State.shockClean (s : State) (m : Fin 4) (f : Rat) : State :=
  let h := s.shock[m]
  let run := s.live m
  let dt : Rat := ((s.up : Rat) - h.lastAt) / sec
  let base := if run ∧ !h.baseSet then f else h.base
  let r := f - base
  let df := s.q Fld.LOOP_SHKDF m
  let n := if df < r then h.n + 1 else 0
  let low := decide (r < -df)
  let hit := decide (n = s.n Fld.LOOP_SHKN m)
  let base2 := if n = 0 ∧ !h.render then base + (1 - Config.exp (-2 * Config.pi * s.q Fld.LOOP_SHKBW m * dt)) * (f - base) else base
  let s1 := s.onShock m fun k => { k with
    f := f, n := n, base := base2, baseSet := decide run, below := low, ovrRun := 0, lastAt := s.up, wLast := s.omega m
    peak := if k.render then maxQ k.peak f else k.peak }
  let s2 := s1.raiseIf (low && !h.below) .TENS_DROP m
  if hit ∧ h.render then s2.onShock m fun k => { k with cnt := bump k.cnt }
  else if hit ∧ s.shockArmed m then s2.shockDetect m
  else s2

/-- SHOCK_SAMPLE (R163, R164): the source has a new sample of F. -/
def State.shockSample (s : State) (m : Fin 4) : State :=
  if !s.yes Fld.LOOP_SHKEN m ∨ !s.runsHere m then s
  else
    let (ovr, sus) := s.pinFlags m
    if ovr || sus then
      let k := if ovr then s.shock[m].ovrRun + 1 else 0
      let s1 := s.onShock m fun h => { h with n := 0, ovrRun := min 3 k, lastAt := s.up, wLast := s.omega m }
      if 3 ≤ k then s1.shockSrcFault m else s1
    else s.shockClean m (s.shockF m)

/-- SHOCK_PIN_RESTORE (R166): after 1 s of clean items, never during a render. -/
def State.shockPinBack (s : State) (m : Fin 4) : State :=
  s.onShock m fun h => if h.render then h else { h with srcfb := false }

/-- RENDER_EXIT (R171): a period starts at which the tension has stayed near F_set for RNDHOLD; the mode law resumes where the render
leaves the drum. -/
def State.renderExit (s : State) (m : Fin 4) : State :=
  if !s.renderCalm m then s
  else
    let x := s.shock[m].x
    let s1 := s.endRender m
    match s.outer[m].mode with
    | .position => s1.onShock m fun h => { h with xr := x, recov := decide (x ≠ 0) }
    | .speed => (s1.onCmd m fun c => { c with ref := s.rpm m, refSpd := s.rpm m }).onGen m fun g => g.setTo g.x (s.rpm m)
    | .tension => (s1.onCmd m fun c => { c with ref := s.shock[m].fCmd }).onShock m fun h => { h with restore := true }
    | .torque => s1

/-- SHOCK_SAMPLE (R164): see `State.shockSample`. -/
def execShockSample (m : Fin 4) (s : State) : Host.Outcome State Fault Refusal :=
  .next ((s.shockSample m).shadowMove (12 + m))
/-- SHOCK_SRC_FAULT (R166): see `State.shockSrcFault`. -/
def execShockSrcFault (m : Fin 4) (s : State) : Host.Outcome State Fault Refusal := .next (s.shockSrcFault m)
/-- SHOCK_PIN_RESTORE (R166): see `State.shockPinBack`. -/
def execShockPinRestore (m : Fin 4) (s : State) : Host.Outcome State Fault Refusal := .next (s.shockPinBack m)
/-- RENDER_EXIT (R171): see `State.renderExit`. -/
def execRenderExit (m : Fin 4) (s : State) : Host.Outcome State Fault Refusal := .next (s.renderExit m)
/-- SHOCK_COUNTERS_CLEAR: `SHKCTL.CNTCLR`. -/
def execShockCountersClear (m : Fin 4) (s : State) : Host.Outcome State Fault Refusal :=
  .next (s.onShock m fun h => { h with cnt := .zero, rndCnt := .zero })

end Sys2Proof.Machine
end

