-- ==== Sys2Proof/Machine/HeaveComp.lean ====
section
/-! DEFINITION. Heave prediction and compensation (R174 to R179). -/

namespace Sys2Proof.Machine

/-- The model as it is initialised (R175). -/
def Heave.init (h : Heave) (n : Nat) : Heave :=
  { h with
    nComp := n, bias := 0, ready := false, fitFrom := none, preds := [], errs := [], lastAt := none
    comps := vgen 8 fun i => ⟨0, 0, 2 * Config.pi * (4 / 100 + 36 / 100 * (i.1 + 1 / 2) / n)⟩ }

/-- A component turned on by `t` seconds. -/
def WaveComp.turn (c : WaveComp) (t : Rat) : WaveComp :=
  let cs := Config.cos (c.w * t)
  let sn := Config.sin (c.w * t)
  { c with p := c.p * cs - c.q * sn, q := c.p * sn + c.q * cs }

/-- The components in use. -/
def Heave.live (h : Heave) : List WaveComp := h.comps.toList.take h.nComp

/-- The model turned on without a correction (R175, R178). -/
def Heave.turn (h : Heave) (t : Rat) : Heave :=
  { h with comps := vgen 8 fun i => if i.1 < h.nComp then h.comps[i].turn t else h.comps[i] }

/-- The prediction τ ahead (R176). -/
def Heave.predict (h : Heave) (tau : Rat) : Heave :=
  let z := h.live.foldl (fun x c => x + (c.p * Config.cos (c.w * tau) - c.q * Config.sin (c.w * tau))) h.bias
  let zd := h.live.foldl (fun x c => x - c.w * (c.p * Config.sin (c.w * tau) + c.q * Config.cos (c.w * tau))) 0
  { h with zp := z, zdp := zd }

/-- The correction of a component by the error (R175). -/
def WaveComp.correct (c : WaveComp) (k gw e : Rat) : WaveComp :=
  let p := c.p + k * e
  let w := c.w - gw * e * c.q / maxQ (p * p + c.q * c.q) (1 / 10000)
  { c with p := p, w := clampQ (2 * Config.pi * (3 / 100)) (2 * Config.pi * (6 / 10)) w }

/-- Predictions whose time has come are compared with the nearer of the last two samples (R176). -/
def Heave.judge (h : Heave) (now : Nat) (z : Rat) : Heave :=
  let last := h.lastAt.getD now
  let due := h.preds.filter fun p => decide (p.1 ≤ now)
  let new := due.map fun p =>
    let zt := if now + last < 2 * p.1 then z else h.z
    (p.1, (p.2 - zt) * (p.2 - zt), (zt - h.bias) * (zt - h.bias))
  let errs := (h.errs ++ new).filter fun x => decide (now ≤ x.1 + 60 * sec)
  let e2 := errs.foldl (fun a x => a + x.2.1) 0
  let d2 := errs.foldl (fun a x => a + x.2.2) 0
  { h with
    preds := h.preds.filter fun p => !decide (p.1 ≤ now)
    errs := errs
    perr := if errs = [] then h.perr else Config.sqrt (qdiv e2 d2) }

/-- The value of the setpoint channel that a field names, 0 for NONE. -/
def State.mruValue (s : State) (code : Nat) : Rat := if code = 0 then 0 else (vat s.spc .reset (code - 1)).value

/-- The heave at the sheave (R174). -/
def State.tipHeave (s : State) (m : Fin 4) (z : Rat) : Rat :=
  let rad (deg : Rat) : Rat := deg * Config.pi / 180
  let phi := rad (s.mruValue (s.n Fld.LOOP_HVMRUR m) * s.q Fld.LOOP_HVAFS m)
  let theta := rad (s.mruValue (s.n Fld.LOOP_HVMRUP m) * s.q Fld.LOOP_HVAFS m)
  z + s.q Fld.LOOP_HVARMX m * Config.sin theta - s.q Fld.LOOP_HVARMY m * Config.sin phi

/-- When the heave channel was last refreshed; none for no channel. -/
def State.mruAt (s : State) (m : Fin 4) : Option Nat :=
  let c := s.n Fld.LOOP_HVMRUZ m
  if c = 0 then none else (vat s.spc .reset (c - 1)).at_

/-- The MRU is valid (R174). -/
def State.mruFresh (s : State) (m : Fin 4) : Bool := s.within (s.mruAt m) (s.n Fld.LOOP_HVMRUTO m)

/-- The refresh that the estimator takes as its next sample: one less than 5 ms after the last one used is thinned (R174). -/
def State.mruNext (s : State) (m : Fin 4) : Option Nat :=
  match s.mruAt m, s.heave[m].lastAt with
  | some t, some a => if a + 5 * ms ≤ t then some t else none
  | t, _ => t

/-- HEAVE_SAMPLE (R174 to R176): the heave channel has been refreshed, and the thinning lets it through. -/
def State.heaveSample (s : State) (m : Fin 4) : State :=
  match s.mruNext m with
  | none => s
  | some at_ =>
  if !s.runsHere m then s
  else
    let z := s.mruValue (s.n Fld.LOOP_HVMRUZ m) * s.q Fld.LOOP_HVZFS m
    let nw := s.n Fld.LOOP_HVNWAVE m
    let h0 := if s.heave[m].nComp = nw ∨ 0 < s.heave[m].g ∨ s.heave[m].ofs ≠ 0 then s.heave[m] else s.heave[m].init nw
    let zt := s.tipHeave m z
    let ts : Rat := match h0.lastAt with | some t => ((at_ : Rat) - t) / sec | none => 0
    let bw := 2 * Config.pi * s.q Fld.LOOP_HVOBSBW m
    let h1 := (h0.judge at_ zt).turn ts
    let e := zt - h1.bias - h1.live.foldl (fun x c => x + c.p) 0
    let k := qdiv (bw * ts) h1.nComp
    let gw := bw * bw * ts / 10
    let h2 := { h1 with
      comps := vgen 8 fun i => if i.1 < h1.nComp then h1.comps[i].correct k gw e else h1.comps[i]
      bias := h1.bias + ts / 200 * e, z := zt, lastAt := some at_, mruOk := true, coast := false
      fitFrom := some (h1.fitFrom.getD at_), ready := h1.ready || heldFor h1.fitFrom at_ (120 * sec), accSum := h1.accSum + zt, accN := h1.accN + 1 }
    let h3 := h2.predict (s.q Fld.LOOP_HVTAU m)
    let h4 := { h3 with preds := h3.preds ++ [(at_ + natQ (s.q Fld.LOOP_HVTAU m * sec), h3.zp)] }
    let poor := h4.ready && decide (s.q Fld.LOOP_HVERRMAX m / 100 < h4.perr)
    (s.onHeave m fun _ => { h4 with poor := poor }).raiseIf (poor && !s.heave[m].poor) .HEAVE_POOR m

/-- HEAVE_FIT_READY (R175): 120 s of valid samples without a break. -/
def State.heaveReady (s : State) (m : Fin 4) : State :=
  s.onHeave m fun h => if h.mruOk ∧ heldFor h.fitFrom s.up (120 * sec) then { h with ready := true } else h

/-- AHCON_WRITE (R177). -/
def State.ahcWrite (s : State) (m : Fin 4) (on1 : Bool) : State :=
  if !on1 then s.onHeave m fun h => { h with ahcOn := false }
  else if s.runsHere m ∧ s.outer[m].mode = .position ∧ s.outer[m].spoolOk ∧ (!s.braked m ∨ s.brake[m].state = .open_)
      ∧ s.heave[m].mruOk ∧ s.heave[m].ready then s.onHeave m fun h => { h with ahcOn := true }
  else (s.onHeave m fun h => { h with ahcOn := false }).raise .AHC_REFUSED m

/-- HEAVE_MRU_LOSS (R178): the MRU stops being valid; the model runs on and the gain falls from where it is. -/
def State.mruLoss (s : State) (m : Fin 4) : State :=
  if s.heave[m].mruOk ∧ !s.mruFresh m then
    (s.onHeave m fun h => { h with
      mruOk := false, coast := true, gFrom := h.g, gTo := 0, fitFrom := none, accBad := true }).raise .HEAVE_MRU_LOSS m
  else s

/-- HEAVE_COAST_END (R178): the MRU has not come back before the gain reached 0. -/
def State.coastEnd (s : State) (m : Fin 4) : State :=
  if s.heave[m].coast ∧ s.heave[m].g = 0 then s.onHeave m fun h => { h.init h.nComp with ahcOn := false, coast := false, g := 0, poor := false } else s

/-- A value moved towards a target by at most a step. -/
def towards (x target step : Rat) : Rat := clampQ (x - step) (x + step) target

/-- The gain moved on by a period: up at HVGAIN over HVRAMP, down from where the fall began over HVRAMP, or over HVCOAST in a coast
(R177, R178). -/
def State.gainStep (s : State) (m : Fin 4) (h : Heave) : Heave :=
  let t := s.tOuter m
  let gain := s.q Fld.LOOP_HVGAIN m
  let to_ := if h.ahcOn && !h.coast then gain else 0
  let from_ := if h.gTo = to_ then h.gFrom else h.g
  let span := if h.coast then s.q Fld.LOOP_HVCOAST m else s.q Fld.LOOP_HVRAMP m
  let g := if span = 0 then to_
    else if h.g ≤ to_ then minQ to_ (h.g + gain * t / span) else maxQ to_ (h.g - (from_ - to_) * t / span)
  { h with g := g, gTo := to_, gFrom := from_ }

/-- The model as it stands for the prediction of a period: while the MRU is lost it has run on since the last sample (R178). -/
def State.coastModel (s : State) (m : Fin 4) (h : Heave) : Heave :=
  if h.coast then
    let gone : Rat := match h.lastAt with | some a => ((s.up : Rat) - a) / sec | none => 0
    h.predict (s.q Fld.LOOP_HVTAU m + gone)
  else h

/-- The heave offset of one outer-loop period (R177, R178). -/
def State.heaveStep (s0 : State) (m : Fin 4) : State :=
  let s := s0.mruLoss m
  let t := s.tOuter m
  let h0 := s.gainStep m (s.coastModel m s.heave[m])
  let g := h0.g
  let falls := g * s.q Fld.LOOP_HVFALLS m
  let stroke := s.q Fld.LOOP_HVSTROKE m
  let lt0 := falls * h0.zp
  let lt := clampQ (-stroke) stroke lt0
  let want := falls * h0.zdp + 5 * (lt - h0.ofs)
  let acc := s.q Fld.LOOP_HVAMAX m * t
  let v1 := clampQ (h0.vofs - acc) (h0.vofs + acc) want
  let vm := s.q Fld.LOOP_HVVMAX m
  let v := clampQ (-vm) vm v1
  let lim := decide (lt ≠ lt0) || decide (v1 ≠ want) || decide (v ≠ v1)
  ((s.onHeave m fun _ => { h0 with vofs := v, ofs := h0.ofs + v * t, limit := lim }).raiseIf (lim && !h0.limit) .HEAVE_LIMIT m).coastEnd m

/-- HEAVE_HISTORY_POST (R179): the average of the last 0.5 s goes into the ring of 7,200 samples. -/
def State.heavePost (s : State) (m : Fin 4) : State :=
  let h := s.heave[m]
  if s.n Fld.LOOP_HVMRUZ m = 0 ∨ !s.runsHere m then s
  else
    let bad := h.accBad || !h.mruOk || decide (h.accN = 0)
    let x := HeaveSample.mk ((s.dev.toNat / (500 * ms) + 7199) % 7200) (if h.accN = 0 then h.z else h.accSum / h.accN) bad
    let old := s.hist[m].filter fun y => y.index != x.index
    { s.onHeave m fun h => { h with accSum := 0, accN := 0, accBad := !h.mruOk } with hist := s.hist.set m.1 (x :: old) m.2 }

/-- The Hann window on 200 samples. -/
def hann (i : Nat) : Rat := (1 - Config.cos (2 * Config.pi * i / 200)) / 2

/-- The density of a segment of 200 samples, mean removed, at 0.02 + 0.01·k Hz (R179). -/
def segDensity (x : List Rat) (k : Nat) : Rat :=
  let mean := x.foldl (· + ·) 0 / 200
  let y := (List.range 200).zip x
  let ph (i : Nat) : Rat := 2 * Config.pi * (k + 2) * i / 200
  let re := y.foldl (fun a p => a + hann p.1 * (p.2 - mean) * Config.cos (ph p.1)) 0
  let im := y.foldl (fun a p => a + hann p.1 * (p.2 - mean) * Config.sin (ph p.1)) 0
  let w2 := (List.range 200).foldl (fun a i => a + hann i * hann i) 0
  qdiv (2 * (re * re + im * im)) (2 * w2)

/-- The place of the largest of a list, the first on ties. -/
def argMax : List Rat → Nat → Nat → Rat → Nat
  | [], _, best, _ => best
  | x :: l, i, best, top => if top < x then argMax l (i + 1) i x else argMax l (i + 1) best top

/-- HEAVE_STATISTICS (R179): the spectrum, the height and the period over the last HVSTATWIN. -/
def State.heaveStats (s : State) (m : Fin 4) : State :=
  if s.n Fld.LOOP_HVMRUZ m = 0 ∨ !s.runsHere m ∨ !s.rst.mgmtRun then s
  else
    let n := 2 * s.n Fld.LOOP_HVSTATWIN m
    let win := s.hist[m].take n
    let bad := (win.filter fun x => x.invalid).length + (n - win.length)
    if n < 10 * bad then s.onHeave m fun h => { h with statInv := true }
    else
      let z := (win.map HeaveSample.z).reverse
      let segs := (List.range ((z.length - 200) / 100 + 1)).map fun i => (z.drop (100 * i)).take 200
      let dens := vgen 64 fun k => qdiv (segs.foldl (fun a x => a + segDensity x k) 0) segs.length
      let m0 := dens.toList.foldl (fun a x => a + x / 100) 0
      let k := argMax dens.toList 0 0 (-1)
      s.onHeave m fun h => { h with
        statInv := false, spec := dens, hs := 4 * Config.sqrt m0, tp := 1 / (2 / 100 + k / 100), stamp := s.dev.toNat }

/-- HEAVE_SAMPLE (R175): see `State.heaveSample`. -/
def execHeaveSample (m : Fin 4) (s : State) : Host.Outcome State Fault Refusal :=
  .next ((s.heaveSample m).shadowMove (16 + m))
/-- HEAVE_FIT_READY (R175): see `State.heaveReady`. -/
def execHeaveFitReady (m : Fin 4) (s : State) : Host.Outcome State Fault Refusal := .next (s.heaveReady m)
/-- AHCON_WRITE (R177): see `State.ahcWrite`. -/
def execAhconWrite (m : Fin 4) (on : Bool) (s : State) : Host.Outcome State Fault Refusal := .next (s.ahcWrite m on)
/-- HEAVE_MRU_LOSS (R178): see `State.mruLoss`. -/
def execHeaveMruLoss (m : Fin 4) (s : State) : Host.Outcome State Fault Refusal := .next (s.mruLoss m)
/-- HEAVE_COAST_END (R178): see `State.coastEnd`. -/
def execHeaveCoastEnd (m : Fin 4) (s : State) : Host.Outcome State Fault Refusal := .next (s.coastEnd m)
/-- HEAVE_HISTORY_POST (R179): see `State.heavePost`. -/
def execHeaveHistoryPost (m : Fin 4) (s : State) : Host.Outcome State Fault Refusal := .next (s.heavePost m)
/-- HEAVE_STATISTICS (R179): see `State.heaveStats`. -/
def execHeaveStatistics (m : Fin 4) (s : State) : Host.Outcome State Fault Refusal := .next (s.heaveStats m)

end Sys2Proof.Machine
end

