-- ==== Sys2Proof/Machine/Axes.lean ====
section
/-! DEFINITION. Auxiliary axes (R148 to R160): states, targets, inputs, homing and level-wind synchronisation. The reasons in
AX_REFUSED are the model's (log 30): 1 state, 2 position uncertain, 3 limit, 4 not enabled or AXFLT, 5 mode or spooling model. What the
spec leaves open in homing and in the latch is settled as log 133 says. -/

namespace Sys2Proof.Machine

/-- A refused request. -/
def State.axRefuse (s : State) (k : Fin 8) (why : Nat) : State := s.raise .AX_REFUSED k why

/-- The step-rate ceiling of an axis in steps/s (R149). -/
def State.axCeil (s : State) (k : Fin 8) : Rat := minQ 4000000 (1000000000 / (2 * s.q Fld.AXIS_STEPW k))

/-- The limits of an axis. -/
def State.axLimits (s : State) (k : Fin 8) : Limits :=
  let l := s.limitsOf (s.n Fld.AXIS_PROFSEL k)
  { l with vmax := minQ l.vmax (s.axCeil k) }

/-- The dwell of an axis in seconds (R142). -/
def State.axDwell (s : State) (k : Fin 8) : Rat := maxQ (s.q Fld.AXIS_DIRSU k) 50 / 1000000

/-- The motor object that an axis is linked to. -/
def State.axLink (s : State) (k : Fin 8) : Option (Fin 4) :=
  let c := s.n Fld.AXIS_LINKMO k
  if h : 1 ≤ c ∧ c ≤ 4 then some ⟨c - 1, by omega⟩ else none

/-- The level-wind conditions of SYNC (R152). -/
def State.axMaySync (s : State) (k : Fin 8) : Bool :=
  s.n Fld.AXIS_MODE k == 2 && (match s.axLink k with | some m => s.outer[m].spoolOk | none => false)

/-- An input of an axis is at its active level (R155). -/
def State.axActive (s : State) (k : Fin 8) (i : Fin 4) : Bool := s.axes[k].inputs[i].ball != (s.n Fld.AXIS_INPOL k).testBit i

/-! ## States and outputs (R148, R151, R152, R154) -/

/-- The level of AXDIR (R148). -/
def State.axDirLevel (s : State) (k : Fin 8) : Bool := s.axes[k].dir != s.yes Fld.AXIS_DIRINV k

/-- STANDSTILL is entered (R154). -/
def State.axStandstill (s : State) (k : Fin 8) : State :=
  let s1 := s.onAxis k fun a => { a with
    state := .standstill, axen := false, shrt := s.n Fld.AXIS_STANDSTILL k == 1, pend := none, halting := false, limHalt := none
    thenStandstill := false, homeStep := .none_, since := s.up, gen := a.gen.restAt a.pos.toInt }
  if s.yes Fld.AXIS_ENOFFUNC k then s1.axisUncertain k else s1

/-- READY is entered at rest. A halt by a limit whose window is still open may yet turn out to be chatter (R156). -/
def State.axReady (s : State) (k : Fin 8) : State :=
  s.onAxis k fun a => { a with
    state := .ready, halting := false, homeStep := .none_, since := s.up, gen := a.gen.restAt a.pos.toInt }

/-- A halt under DMAX and JMAX (R152). -/
def State.axHaltNow (s : State) (k : Fin 8) (then_ : Bool) : State :=
  s.onAxis k fun a => { a with
    halting := true, limHalt := none, thenStandstill := a.thenStandstill || then_, homeStep := .none_, gen := a.gen.aim .speed 0 }

/-- A request in STANDSTILL: AXEN is asserted, and the request waits for ENONDLY. -/
def State.axWake (s : State) (k : Fin 8) (r : AxReq) : State :=
  if s.axes[k].en ∧ !s.axActive k 3 then
    s.onAxis k fun a => { a with axen := true, shrt := false, pend := some r, since := s.up }
  else s.axRefuse k 4

/-! ## Requests (R150, R152) -/

/-- A position target within the soft limits, and not beyond the present position towards a qualified limit (R146, R156). -/
def State.axClamp (s : State) (k : Fin 8) (t : Int) : State × Int :=
  let t1 := clampI (s.z Fld.AXIS_SWLIMN k) (s.z Fld.AXIS_SWLIMP k) t
  let s1 := s.raiseIf (decide (t1 ≠ t)) .PROF_TARGET_CLAMPED k
  let here := s.axes[k].pos.toInt
  let stop := (s.axes[k].inputs[1].qualified && decide (here < t1)) || (s.axes[k].inputs[2].qualified && decide (t1 < here))
  if stop then (s1.axRefuse k 3, here) else (s1, t1)

/-- The target in `AXTGT` is carried out from READY or MOVING. -/
def State.axGo (s : State) (k : Fin 8) : State :=
  let (s1, t) := s.axClamp k s.axes[k].tgt.toInt
  s1.onAxis k fun a =>
    let b := { a with tgt := BitVec.ofInt 64 t }
    if a.state = .ready ∧ t = a.pos.toInt then b
    else { b with state := .moving, halting := false, limHalt := none, gen := a.gen.aim .position t }

/-- AXIS_TARGET_COMMIT (R150): the high word commits. -/
def State.axTarget (s : State) (k : Fin 8) (hi : Word) : State :=
  let a := s.axes[k]
  let s1 := s.onAxis k fun a => { a with tgt := hi ++ a.tgtLow }
  if a.uncert then s.axRefuse k 2
  else match a.state with
    | .ready => s1.axGo k
    | .moving => if a.thenStandstill then s.axRefuse k 1 else s1.axGo k
    | .standstill => s1.axWake k .target
    | _ => s.axRefuse k 1

/-- The direction of the search in a homing, in steps. -/
def State.homeDir (s : State) (k : Fin 8) (rev : Bool) : Rat :=
  let neg := s.n Fld.AXIS_HOMEDIR k = 1
  if (decide neg) != rev then -(s.q Fld.AXIS_HOMEV k) else s.q Fld.AXIS_HOMEV k

/-- The number of the input that is the home switch. -/
def State.homeInput (s : State) (k : Fin 8) : Nat := s.n Fld.AXIS_HOMESRC k

/-- The search towards HOMEDIR begins, or goes on from the present state (R157 step 2). -/
def State.homeSearch (s : State) (k : Fin 8) : State :=
  s.onAxis k fun a => { a with homeStep := .search, gen := a.gen.aim .speed (s.homeDir k a.homeRev) }

/-- The home switch is left against HOMEDIR where it is qualified; else the search begins (R157 steps 1 and 2). -/
def State.homeLeave (s : State) (k : Fin 8) : State :=
  if (vat s.axes[k].inputs .reset (s.homeInput k)).qualified then
    s.onAxis k fun a => { a with homeStep := .leave, gen := a.gen.aim .speed (-(s.homeDir k a.homeRev)) }
  else s.homeSearch k

/-- Homing starts (R157 step 1). -/
def State.homeStart (s : State) (k : Fin 8) : State :=
  (s.onAxis k fun a => { a with
    state := .homing, homeRev := false, latched := false, since := s.up, halting := false, limHalt := none }).homeLeave k

/-- SYNC is entered (R152, R160). -/
def State.axSync (s : State) (k : Fin 8) : State :=
  s.onAxis k fun a => { a with state := .sync, axen := true, shrt := false, halting := false, limHalt := none, since := s.up }

/-- AXIS_HOME. -/
def State.axHome (s : State) (k : Fin 8) : State :=
  match s.axes[k].state with
  | .ready => s.homeStart k
  | .standstill => s.axWake k .home
  | _ => s.axRefuse k 1

/-- AXIS_SYNCON. -/
def State.axSyncOn (s : State) (k : Fin 8) : State :=
  if s.axes[k].uncert then s.axRefuse k 2
  else if !s.axMaySync k then s.axRefuse k 5
  else match s.axes[k].state with
    | .ready => s.axSync k
    | .standstill => s.axWake k .syncOn
    | _ => s.axRefuse k 1

/-- AXIS_SYNCOFF, and HALT in SYNC: the axis halts under its profile. -/
def State.axSyncOff (s : State) (k : Fin 8) : State :=
  if s.axes[k].state = .sync then s.axHaltNow k false else s.axRefuse k 1

/-- AXIS_HALT. -/
def State.axHalt (s : State) (k : Fin 8) : State :=
  match s.axes[k].state with
  | .moving | .sync => s.axHaltNow k false
  | _ => s.axRefuse k 1

/-- AXIS_STOP (R153). -/
def State.axStop (s : State) (k : Fin 8) : State :=
  match s.axes[k].state with
  | .moving | .homing | .sync => s.axisImmediate k false
  | _ => s.axRefuse k 1

/-- AXIS_ENABLE_WRITE (R152). -/
def State.axEnable (s : State) (k : Fin 8) (en : Bool) : State :=
  let s1 := s.onAxis k fun a => { a with en := en }
  if en then s1
  else match s.axes[k].state with
    | .ready => s1.axStandstill k
    | .standstill => if s.axes[k].pend.isSome then s1.axStandstill k else s1
    | .moving | .homing | .sync => s1.axHaltNow k true
    | _ => s1

/-- AXIS_CLEAR (R152): the chatter counter clears, and FAULT is left with every cause gone. -/
def State.axClear (s : State) (k : Fin 8) : State :=
  let s1 := s.onAxis k fun a => { a with chat := .zero }
  let held := s.axActive k 3 || (match s.axLink k with | some m => s.blocked m | none => false)
  if s.axes[k].state ≠ .fault then s1
  else if held then s1.axRefuse k 1
  else s1.axStandstill k

/-- AXIS_ENABLE_DELAY_END (R152): ENONDLY has elapsed, and the pending request proceeds. -/
def State.axEnabled (s : State) (k : Fin 8) : State :=
  match s.axes[k].state, s.axes[k].pend with
  | .standstill, some r =>
    let s1 := s.onAxis k fun a => { a with state := .ready, pend := none, since := s.up }
    match r with
    | .target => if s.axes[k].uncert then s1.axRefuse k 2 else s1.axGo k
    | .home => s1.homeStart k
    | .syncOn => s1.axSyncOn k
  | _, _ => s

/-- AXIS_STANDSTILL_DELAY_END (R152): at rest for ENOFFDLY. -/
def State.axIdle (s : State) (k : Fin 8) : State := if s.axes[k].state = .ready then s.axStandstill k else s

/-- AX_DRV_FAULT (R153): AXFLT has been active for 10 µs. -/
def State.axDrvFault (s : State) (k : Fin 8) : State :=
  let s1 := s.onAxis k fun a => { a with inputs := vmodN a.inputs 3 fun i => { i with ball := !(s.n Fld.AXIS_INPOL k).testBit 3 } }
  match s.axes[k].state with
  | .off => s
  | .fault => s1
  | _ => (s1.raise .AX_DRV_FAULT k).axisImmediate k true

/-- Homing has failed (R158): FAULT with the position uncertain. -/
def State.homeFailed (s : State) (k : Fin 8) : State := (s.raise .HOME_FAILED k).axisImmediate k true

/-- HOME_TIMEOUT (R158). -/
def State.homeTimeout (s : State) (k : Fin 8) : State := if s.axes[k].state = .homing then s.homeFailed k else s

/-! ## Inputs (R155, R156, R158) -/

/-- The motion, or the search, runs towards a limit: input 1 is the positive one. -/
def Axis.towardsLimit (a : Axis) (i : Nat) : Bool :=
  let v := if a.gen.v ≠ 0 then a.gen.v else if a.gen.kind = .speed then a.gen.target else a.gen.target - a.gen.x
  if i = 1 then decide (0 < v) else decide (v < 0)

/-- A limit edge outside homing (R156). -/
def State.limitEdge (s : State) (k : Fin 8) (i : Nat) : State :=
  match s.axes[k].state with
  | .moving | .sync =>
    if s.axes[k].towardsLimit i then
      let s1 := s.raise .AX_LIMIT k i
      match s.n Fld.AXIS_LIMACT k with
      | 0 => s1.axisImmediate k false
      | 1 => (s1.axHaltNow k false).onAxis k fun a => { a with limHalt := some (i, a.state == .sync) }
      | _ => s1.axisImmediate k true
    else s
  | _ => s

/-- The limit in the direction of the search: input 1 is the positive one. -/
def State.searchLimit (s : State) (k : Fin 8) : Nat := if 0 < s.homeDir k s.axes[k].homeRev then 1 else 2

/-- A limit that is not the home switch, met in the direction of the search (R158): the search turns round once. Where the home edge has
been seen, the axis halts for it already, and only a search that resumes goes the other way. -/
def State.homeLimit (s : State) (k : Fin 8) (i : Nat) : State :=
  let a := s.axes[k]
  let turn := s.onAxis k fun a => { a with homeRev := true }
  let fails := s.n Fld.AXIS_HOMELIM k = 1 ∨ a.homeRev
  if i ≠ s.searchLimit k then s
  else match a.homeStep with
    | .search => if fails then s.homeFailed k else turn.homeSearch k
    | .debounce | .settle => if fails then s.homeFailed k else turn
    | _ => s

/-- The input whose latch is the home latch: the home switch in a homing, else AXHOM. -/
def State.homeLatch (s : State) (k : Fin 8) : Nat := if s.axes[k].state = .homing then s.homeInput k else 0

/-- The first edge of an input into its active level. -/
def State.activeEdge (s : State) (k : Fin 8) (i : Fin 4) : State :=
  let a := s.axes[k]
  let takes := i.1 = 0 ∨ !a.latched
  let s1 := s.onAxis k fun a => { a with
    latch := if takes then a.pos else a.latch, latchT := if takes then s.dev.toNat else a.latchT
    latched := a.latched || decide (i.1 = s.homeLatch k)
    inputs := vmod a.inputs i fun x => { x with window := some s.up } }
  if a.state = .homing then
    if i.1 = s.homeInput k then
      if a.homeStep = .search then
        s1.onAxis k fun a => { a with homeStep := .debounce, gen := a.gen.aim .speed 0, latch := a.pos, latchT := s.dev.toNat, latched := true }
      else s1
    else if i.1 = 0 then s1 else s1.homeLimit k i
  else if i.1 = 0 then s1 else s1.limitEdge k i

/-- AXIS_INPUT_EDGE (R155): the electrical level of an input changes; within a window only its level is kept. -/
def State.axEdge (s : State) (k : Fin 8) (i : Fin 4) (level : Bool) : State :=
  let act := level != (s.n Fld.AXIS_INPOL k).testBit i
  let a := s.axes[k]
  let s1 := s.onAxis k fun a => { a with inputs := vmod a.inputs i fun x => { x with ball := level } }
  if a.state = .off ∨ i.1 = 3 ∨ a.inputs[i].window.isSome ∨ a.inputs[i].ball = level then s1
  else if act ∧ !a.inputs[i].qualified then s1.activeEdge k i
  else if !act ∧ a.inputs[i].qualified then
    s1.onAxis k fun a => { a with inputs := vmod a.inputs i fun x => { x with window := some s.up } }
  else s1

/-- The motion that a limit has halted resumes from the present state, also where it has come to rest (R156). -/
def State.limitResume (s : State) (k : Fin 8) (sync : Bool) : State :=
  s.onAxis k fun a =>
    let b := { a with halting := false, limHalt := none }
    match a.state with
    | .moving | .ready => if sync then { b with state := .sync } else { b with state := .moving, gen := a.gen.aim .position a.tgt.toInt }
    | _ => b

/-- An input that ends its window inactive (R155 to R157): chatter, and the latch is discarded. -/
def State.axChatter (s : State) (k : Fin 8) (i : Fin 4) : State :=
  let a := s.axes[k]
  let s1 := (s.onAxis k fun a => { a with
    chat := bump a.chat, latched := if i.1 = s.homeLatch k then false else a.latched }).raise .AX_CHATTER k i
  if a.state = .homing ∧ a.homeStep = .debounce ∧ i.1 = s.homeInput k then s1.homeSearch k
  else match a.limHalt with
    | some (j, sync) => if j = i.1 then s1.limitResume k sync else s1
    | none => s1

/-- AXIS_DEBOUNCE_END (R155): the window of an input ends. -/
def State.axDebounce (s : State) (k : Fin 8) (i : Fin 4) : State :=
  let a := s.axes[k]
  let x := a.inputs[i]
  if x.window.isNone then s
  else
    let act := s.axActive k i
    let s1 := s.onAxis k fun a => { a with inputs := vmod a.inputs i fun x => { x with window := none, qualified := act } }
    let home := decide (a.state = .homing) && decide (i.1 = s.homeInput k)
    if act then
      if home ∧ a.homeStep = .debounce then s1.onAxis k fun a => { a with homeStep := .settle }
      else s1.onAxis k fun a => { a with
        latched := a.latched && !(a.state != .homing && i.1 == 0)
        limHalt := match a.limHalt with | some (j, y) => if j = i.1 then none else some (j, y) | none => none }
    else if x.qualified then
      if home ∧ a.homeStep = .leave then s1.onAxis k fun a => { a with gen := a.gen.aim .speed 0, homeStep := .stop } else s1
    else s1.axChatter k i

/-! ## The generator period (R139, R148, R157) -/

/-- The generator is at rest with its plan run out. -/
def Gen.still (g : Gen) : Bool := g.plan == [] && decide (g.v = 0) && decide (g.a = 0)

/-- What rest means in the present state: a plan complete, a halt done, a step of homing done. -/
def State.axRest (s : State) (k : Fin 8) : State :=
  let a := s.axes[k]
  if a.halting then
    match a.state with
    | .moving | .homing | .sync => if a.thenStandstill then s.axStandstill k else s.axReady k
    | _ => s
  else match a.state with
    | .moving => if a.gen.kind = .position ∧ a.gen.done then s.axReady k else s
    | .homing =>
      match a.homeStep with
      | .settle =>
        let pos := a.pos.toInt - a.latch.toInt + s.z Fld.AXIS_HOMEPOS k
        let s1 := (s.onAxis k fun a => { a with
          pos := BitVec.ofInt 64 pos, uncert := false, homed := true, latched := false, homeStep := .park
          gen := a.gen.setTo pos 0 }).raise .AX_HOMED k
        let (s2, t) := s1.axClamp k (s.z Fld.AXIS_HOMEPARK k)
        s2.onAxis k fun a => { a with gen := a.gen.aim .position t }
      | .stop => if (vat a.inputs .reset (s.homeInput k)).window.isSome then s else s.homeLeave k
      | .park => if a.gen.kind = .position ∧ a.gen.done then s.axReady k else s
      | _ => s
    | _ => s

/-- AXIS_GENERATOR_PERIOD: every 50 µs. -/
def State.axPeriod (s : State) (k : Fin 8) : State :=
  match s.axes[k].state with
  | .off => s
  | _ =>
    let (g, notes) := s.axes[k].gen.periodLate (s.axLimits k) (s.axDwell k) (5 / 100000)
    let s1 := (s.onAxis k fun a => { a with
      gen := g, pos := BitVec.ofInt 64 (gridDown (1 / 4294967296) g.x + 1 / 2).floor, dir := decide (0 < g.dir) }).genEvents k notes
    if g.still then s1.axRest k else s1

/-! ## Level-wind (R159, R160) -/

/-- The carriage reference in mm and its speed in mm/s. -/
def State.lwRef (s : State) (m : Fin 4) (k : Fin 8) : Rat × Rat :=
  let w := s.q Fld.LOOP_WRAPS m
  let u := s.outer[m].wound - s.outer[m].layer * w
  let d := s.q Fld.LOOP_DROPE m
  let uc := clampQ 0 w u
  let even := s.outer[m].layer % 2 = 0
  let turns := s.omega m / (2 * Config.pi * s.q Fld.LOOP_GEAR m)
  let v := if u < 0 ∨ w < u then 0 else if even then d * turns else -(d * turns)
  (s.q Fld.AXIS_LWX0 k + d * (if even then uc else w - uc), v)

/-- LW_FOLLOW (R160): the following error has been above LWERRMAX for 100 ms. -/
def State.lwFollow (s : State) (k : Fin 8) : State :=
  match s.axLink k with
  | some m =>
    if s.axes[k].state = .sync ∧ !s.axes[k].lwErr ∧ heldFor s.axes[k].lwOver s.up (100 * ms) then
      ((s.onAxis k fun a => { a with lwErr := true }).raise .LW_FOLLOW k).reactEv m .LW_FOLLOW k (s.rc Fld.AXIS_LWREACT k)
    else s
  | none => s

/-- The level-wind axes of a motor object in one of its outer-loop periods. -/
def State.lwPeriod (s : State) (m : Fin 4) : State :=
  forFin 8 (fun k s =>
    if s.axLink k ≠ some m ∨ s.n Fld.AXIS_MODE k ≠ 2 ∨ s.axes[k].state = .off then s
    else
      let (x, vx) := s.lwRef m k
      let spmm := s.q Fld.AXIS_SPMM k
      let err := x - s.axes[k].gen.x / spmm
      let wide := decide (s.q Fld.AXIS_LWERRMAX k < absQ err)
      let s1 := (s.onAxis k fun a => { a with
        lwErrMm := err, lwOver := heldSince a.lwOver s.up (a.state == .sync && wide) }).lwFollow k
      let s2 := if s.axes[k].lwErr ∧ !wide then
          (s1.onAxis k fun a => { a with lwErr := false }).causeGone m .LW_FOLLOW k else s1
      if s.axes[k].state = .sync ∧ !s.axes[k].halting then
        if !s.outer[m].spoolOk then (s2.raise .AX_SYNC_LOST k).axHaltNow k false
        else s2.onAxis k fun a => { a with gen := a.gen.aim .speed (spmm * (vx + s.q Fld.AXIS_LWKP k * err)) }
      else s2) s

/-- AXIS_GENERATOR_PERIOD (R139): see `State.axPeriod`. -/
def execAxisGeneratorPeriod (k : Fin 8) (s : State) : Host.Outcome State Fault Refusal :=
  .next ((s.axPeriod k).shadowMove (20 + k))
/-- AXIS_TARGET_COMMIT (R150): see `State.axTarget`. -/
def execAxisTargetCommit (k : Fin 8) (hi : Word) (s : State) : Host.Outcome State Fault Refusal := .next (s.axTarget k hi)
/-- AXIS_ENABLE_WRITE (R152): see `State.axEnable`. -/
def execAxisEnableWrite (k : Fin 8) (en : Bool) (s : State) : Host.Outcome State Fault Refusal := .next (s.axEnable k en)
/-- AXIS_STOP (R153): see `State.axStop`. -/
def execAxisStop (k : Fin 8) (s : State) : Host.Outcome State Fault Refusal := .next (s.axStop k)
/-- AXIS_HALT (R152): see `State.axHalt`. -/
def execAxisHalt (k : Fin 8) (s : State) : Host.Outcome State Fault Refusal := .next (s.axHalt k)
/-- AXIS_HOME (R157): see `State.axHome`. -/
def execAxisHome (k : Fin 8) (s : State) : Host.Outcome State Fault Refusal := .next (s.axHome k)
/-- AXIS_SYNCON (R152): see `State.axSyncOn`. -/
def execAxisSyncon (k : Fin 8) (s : State) : Host.Outcome State Fault Refusal := .next (s.axSyncOn k)
/-- AXIS_SYNCOFF (R152): see `State.axSyncOff`. -/
def execAxisSyncoff (k : Fin 8) (s : State) : Host.Outcome State Fault Refusal := .next (s.axSyncOff k)
/-- AXIS_CLEAR (R152): see `State.axClear`. -/
def execAxisClear (k : Fin 8) (s : State) : Host.Outcome State Fault Refusal := .next (s.axClear k)
/-- AXIS_ENABLE_DELAY_END (R152): see `State.axEnabled`. -/
def execAxisEnableDelayEnd (k : Fin 8) (s : State) : Host.Outcome State Fault Refusal := .next (s.axEnabled k)
/-- AXIS_STANDSTILL_DELAY_END (R152): see `State.axIdle`. -/
def execAxisStandstillDelayEnd (k : Fin 8) (s : State) : Host.Outcome State Fault Refusal := .next (s.axIdle k)
/-- AX_DRV_FAULT (R153): see `State.axDrvFault`. -/
def execAxDrvFault (k : Fin 8) (s : State) : Host.Outcome State Fault Refusal := .next (s.axDrvFault k)
/-- AXIS_INPUT_EDGE (R155): see `State.axEdge`. -/
def execAxisInputEdge (k : Fin 8) (inp : Fin 4) (level : Bool) (s : State) : Host.Outcome State Fault Refusal :=
  .next (s.axEdge k inp level)
/-- AXIS_DEBOUNCE_END (R155): see `State.axDebounce`. -/
def execAxisDebounceEnd (k : Fin 8) (inp : Fin 4) (s : State) : Host.Outcome State Fault Refusal := .next (s.axDebounce k inp)
/-- HOME_TIMEOUT (R158): see `State.homeTimeout`. -/
def execHomeTimeout (k : Fin 8) (s : State) : Host.Outcome State Fault Refusal := .next (s.homeTimeout k)
/-- LW_FOLLOW (R160): see `State.lwFollow`. -/
def execLwFollow (k : Fin 8) (s : State) : Host.Outcome State Fault Refusal := .next (s.lwFollow k)

end Sys2Proof.Machine
end

