-- ==== Sys2Proof/Machine/Outer.lean ====
section
/-! DEFINITION. The period of the outer loop (R31, R124 to R131, R467): limits, laws of the modes, of the brake sequence and of the
emergency modes, the observer, and the spooling model. -/

namespace Sys2Proof.Machine

/-! ## Limits (R125, R126, R189, R232, R266) -/

/-- A request for DERATE that uses DERATEK: not one that carries a factor of its own. -/
def React.usesK (r : React) : Bool :=
  r.sev == .derate && !(r.cause == some .OV1_LIMIT || r.cause == some .THERM_WARN || r.cause == some .MOT_WARN || r.cause == some .SF_SLT_LIMIT)

/-- The DERATE factor moved on by a period: to DERATEK within 100 ms, back to 1 within 1 s. Under a harder reaction a DERATE is pending and
not executed (R15). -/
def State.derateStep (s : State) (m : Fin 4) : State :=
  let k := s.q Fld.LOOP_DERATEK m
  let want := s.reacts[m].any React.usesK && s.moHard m == .derate
  let t := s.tOuter m
  s.onOuter m fun o => { o with
    derate := if want then maxQ k (o.derate - 10 * (1 - k) * t) else minQ 1 (o.derate + (1 - k) * t) }

/-- The window of k_ov moves on by a period (R232), and the DERATE of OV1 has no cause where it holds nothing below 1. -/
def State.kovStep (s : State) (m : Fin 4) : State :=
  let s1 := (s.bridges m).foldl (fun (s : State) (n : Fin 8) => s.onBr n fun b => { b with kovPrev := b.kovMin, kovMin := b.kov }) s
  (s.bridges m).foldl (fun (s : State) (n : Fin 8) =>
    if s1.br[n].kovPrev = 1 ∧ s1.br[n].kovMin = 1 then s.causeGone m .OV1_LIMIT n else s) s1

/-! ## The speed law (R127) -/

/-- KPS and KIS, computed where one of them is 0. -/
def State.speedGains (s : State) (m : Fin 4) : Rat × Rat :=
  let kp := s.q Fld.LOOP_KPS m
  let ki := s.q Fld.LOOP_KIS m
  let bw := 2 * Config.pi * minQ (s.q Fld.LOOP_SPDBW m) (1 / (20 * s.tOuter m))
  if kp = 0 ∨ ki = 0 then (s.q Fld.LOOP_JTOT m * bw, s.q Fld.LOOP_JTOT m * bw * bw / 4) else (kp, ki)

/-- An integrator that an error moves, held while the output is limited and the error points further into the limit. -/
def heldIf (lim : Rat × Rat) (out err old new : Rat) : Rat :=
  if (lim.2 < out ∧ 0 < err) ∨ (out < lim.1 ∧ err < 0) then old else new

/-- The speed law in rad/s: its torque before the limiter and its integrator, preset where the law is fresh (R124). -/
def State.speedLaw (s : State) (m : Fin 4) (fresh : Bool) (lim : Rat × Rat) (w dw : Rat) : Rat × Rat :=
  let (kp, ki) := s.speedGains m
  let o := s.outer[m]
  let e := w - s.omega m
  let p := kp * e + s.q Fld.LOOP_LTOFF m * o.tLoad + s.q Fld.LOOP_JTOT m * dw
  let x := if fresh then o.tPrev - p else o.xs + ki * s.tOuter m * e
  (p + x, if fresh then x else heldIf lim (p + x) e o.xs x)

/-- The speed law run for a period. -/
def State.runSpeed (s : State) (m : Fin 4) (fresh : Bool) (lim : Rat × Rat) (w dw : Rat) : State × Rat :=
  let (t, x) := s.speedLaw m fresh lim w dw
  (s.onOuter m fun o => { o with xs := x, wRefPrev := w }, t)

/-- The position law (R131): the payout and its speed become a speed reference. -/
def State.runPosition (s : State) (m : Fin 4) (fresh : Bool) (lim : Rat × Rat) (l v : Rat) : State × Rat :=
  let w := -(s.q Fld.LOOP_GEAR m) * (v + s.q Fld.LOOP_KPP m * (l - s.outer[m].pay)) / s.rEff m
  let dw := if fresh then 0 else (w - s.outer[m].wRefPrev) / s.tOuter m
  s.runSpeed m fresh lim w dw

/-- The tension law (R129) for a reference in kN, with the speed limits of hauling and of paying out in rad/s. -/
def State.runTension (s : State) (m : Fin 4) (fresh : Bool) (lim : Rat × Rat) (fRef haul pay : Rat) : State × Rat :=
  let o := s.outer[m]
  let e := fRef - o.tens
  let ff := s.torqueOfTension m fRef + s.q Fld.LOOP_KPF m * e
  let xf := if fresh then o.tPrev - ff else o.xf + s.q Fld.LOOP_KIF m * s.tOuter m * e
  let tt := ff + xf
  let w := s.omega m
  let top := if 0 < w then haul else pay
  let over_ := decide (top < absQ w)
  let (ts, xs) := s.speedLaw m (fresh || !o.tSpd) lim (signQ w * top) 0
  let cut := over_ && decide (absQ ts < absQ tt)
  let s1 := s.onOuter m fun o => { o with
    tSpd := over_, xs := if over_ then xs else o.xs
    xf := if over_ && !fresh then o.xf else if fresh then xf else heldIf lim tt e o.xf xf }
  (s1.raiseIf (over_ && !o.tSpd) .TENS_SPDLIM m, if cut then ts else tt)

/-! ## The reference of the mode in force (R121, R124, R129, R139, R171, R177) -/

/-- A reference moved one period towards its target: rises and falls have their own limits, and a fall is a change towards zero. -/
def rampRef (x target up dn : Rat) : Rat :=
  if x * target < 0 then towards x 0 dn
  else if absQ target < absQ x then towards x target dn else towards x target up

/-- The measured quantity of a mode (R124). -/
def State.measured (s : State) (m : Fin 4) : Rat :=
  match s.outer[m].mode with
  | .torque => s.outer[m].tPrev
  | .speed => s.rpm m
  | .tension => s.outer[m].tens
  | .position => s.outer[m].pay

/-- The reference starts at the measured quantity, and the generator at the measured state (R124, R147). -/
def State.startRef (s : State) (m : Fin 4) : State := (s.onCmd m fun c => { c with ref := s.measured m }).genMeasured m

/-- The generator takes the target of the command and runs for a period (R139, R141, R146). -/
def State.genPeriod (s : State) (m : Fin 4) : State :=
  let kind := if s.outer[m].mode = .speed then TargetKind.speed else .position
  let (g, notes) := (s.moGen[m].aim kind s.cmd[m].target).period (s.limitsOf (s.n Fld.LOOP_PROFSEL m)) 0 (s.tOuter m)
  (s.onGen m fun _ => { g with active := true }).genEvents m notes

/-- A lost command brings a POSITION reference to rest: its speed falls to 0 at RAMPDN, and the payout reached then is held (R122). -/
def State.lossPeriod (s : State) (m : Fin 4) : State :=
  let t := s.tOuter m
  let v := towards s.outer[m].refVel 0 (s.q Fld.LOOP_REFSCALE m / 100 * s.q Fld.LOOP_RAMPDN m * t)
  let x := s.cmd[m].ref + v * t
  ((s.onCmd m fun c => { c with ref := x, target := x, lossRamp := decide (v ≠ 0) }).onOuter m fun o => { o with refVel := v }).onGen m
    fun g => g.setTo x v

/-- The reference moves on: along the generator, or along the ramp. -/
def State.refPeriod (s : State) (m : Fin 4) : State :=
  let md := s.outer[m].mode
  let prof := s.yes Fld.LOOP_PROFILE m && (md == .speed || md == .position)
  let s0 := if prof ∧ !s.moGen[m].active then s.startRef m else s
  if s.cmd[m].lost ∧ s.cmd[m].lossRamp ∧ md = .position then s.lossPeriod m
  else if prof then
    let s1 := s0.genPeriod m
    let g := s1.moGen[m]
    (s1.onCmd m fun c => { c with ref := if md = .speed then g.v else g.x }).onOuter m fun o => { o with refVel := if md = .speed then g.a else g.v }
  else
    let t := s.tOuter m
    let unit := s.q Fld.LOOP_REFSCALE m / 100 * t
    let c := s.cmd[m]
    let up := unit * s.q Fld.LOOP_RAMPUP m
    let back := s.shock[m].restore && md == .tension
    let x := if back then towards c.ref c.target up else rampRef c.ref c.target up (unit * s.q Fld.LOOP_RAMPDN m)
    (((s.onCmd m fun c => { c with ref := x }).onOuter m fun o => { o with refVel := (x - c.ref) / t }).onGen m
      fun g => { g with active := false }).onShock m fun h => { h with restore := back && decide (x ≠ c.target) }

/-- A speed reference within 95 % of the lowest selected safe speed limit (R260). -/
def State.slsClamp (s : State) (m : Fin 4) (w : Rat) : Rat :=
  if s.garnet.mo[m].sls then
    let mask := BitVec.ofNat 4 s.garnet.mo[m].slsSet
    let low := (List.range 4).foldl (fun x j => if mask.getLsbD j then minQ x (s.q Fld.SAFETY_MO_SLS 0 m j) else x) 1000
    let top := 95 / 100 * low / 100 * s.omegaRated m
    clampQ (-top) top w
  else w

/-- A render or the law of the mode in force. -/
def State.modeLaw (s : State) (m : Fin 4) (fresh : Bool) (lim : Rat × Rat) : State × Rat :=
  let s1 := s.refPeriod m
  let o := s1.outer[m]
  if s.shock[m].render then
    let v := s1.pathSpeed m
    let s2 := if o.mode = .speed then s1.onShock m fun h => { h with lPath := h.lPath + v * s.tOuter m } else s1
    s2.renderLaw m
  else match o.mode with
    | .torque => (s1, s1.cmd[m].ref)
    | .speed =>
      let w := radPerSec s1.cmd[m].ref
      let wc := s.slsClamp m w
      s1.runSpeed m fresh lim wc (if wc = w then radPerSec o.refVel else 0)
    | .tension => 
      let top := radPerSec (s.q Fld.LOOP_TSPDLIM m)
      s1.runTension m fresh lim (s1.tensionRef m) top top
    | .position =>
      let xr := s.shock[m].xr
      let s2 := if s.shock[m].recov then s1.onShock m fun h =>
          let x := towards xr 0 (s.q Fld.LOOP_RNDRECV m * s.tOuter m)
          { h with xr := x, recov := decide (x ≠ 0) } else s1
      s2.runPosition m fresh lim (s2.pathRef m + s2.heave[m].ofs + s2.shock[m].xr) (s2.pathSpeed m + s2.heave[m].vofs)

/-! ## The laws of the emergency modes (R205, R207 to R209) -/

/-- A speed reference that falls to 0 at a rate, by the speed law. -/
def State.runDown (s : State) (m : Fin 4) (fresh : Bool) (lim : Rat × Rat) (rate : Rat) : State × Rat :=
  let w0 := s.em[m].wRef
  let w := towards w0 0 (rate * s.tOuter m)
  let s1 := s.onEm m fun e => { e with wRef := w, payAt := if w0 = 0 then e.payAt else s.outer[m].pay }
  s1.runSpeed m fresh lim w (if w0 = 0 then 0 else -(signQ w0) * rate)

/-- The position hold in force, at the payout where it began. -/
def State.runHold (s : State) (m : Fin 4) (fresh : Bool) (lim : Rat × Rat) : State × Rat :=
  let l := s.outer[m].hold.getD s.outer[m].pay
  (s.onOuter m fun o => { o with hold := some l }).runPosition m fresh lim l 0

/-- A stop (R205). -/
def State.stopLaw (s : State) (m : Fin 4) (fresh : Bool) (lim : Rat × Rat) : State × Rat :=
  if s.em[m].stopped ∧ s.outer[m].hold.isSome then s.runHold m fresh lim
  else
    let t := s.q (if s.em[m].mode = .quick then Fld.EMERGENCY_QSTOPT else Fld.EMERGENCY_STOPT) m
    s.runDown m fresh lim (s.omegaRated m / t)

/-- EQR ends by itself (R207). -/
def State.eqrOver (s : State) (m : Fin 4) : Bool :=
  let e := s.em[m]
  decide (s.q Fld.EMERGENCY_EQRLEN m ≤ e.empay) || (!e.noSpool && decide (s.outer[m].wound ≤ s.q Fld.EMERGENCY_MINWRAP m)) ||
    (e.eqrPin && !s.pairReads (s.n Fld.EMERGENCY_EQRIN m))

/-- EQR: line paid out at a set speed (R207). -/
def State.eqrLaw (s : State) (m : Fin 4) (fresh : Bool) (lim : Rat × Rat) : State × Rat :=
  let e := s.em[m]
  if e.eqrEnding ∧ e.eqrV = 0 then s.runHold m fresh lim
  else
    let v := towards e.eqrV (if e.eqrEnding then 0 else s.q Fld.EMERGENCY_EQRV m) (s.q Fld.EMERGENCY_EQRACC m * s.tOuter m)
    let w := -(s.q Fld.LOOP_GEAR m) * v / s.rEff m
    (s.onEm m fun x => { x with eqrV := v }).runSpeed m fresh lim w (if fresh then 0 else (w - s.outer[m].wRefPrev) / s.tOuter m)

/-- CRO: the line is held at a ceiling and given while the load exceeds it (R208). -/
def State.croLaw (s : State) (m : Fin 4) (fresh : Bool) (lim : Rat × Rat) : State × Rat :=
  if s.em[m].lineEnd then
    if s.em[m].wRef = 0 then s.runHold m fresh lim
    else s.runDown m fresh lim (s.omegaRated m / s.q Fld.EMERGENCY_QSTOPT m)
  else s.runTension m fresh lim (s.croF m) 0 (s.q Fld.LOOP_GEAR m * s.q Fld.EMERGENCY_CROVMAX m / s.rEff m)

/-- SLA: the drum stops, and takes up the slack where configured (R209). -/
def State.slaLaw (s : State) (m : Fin 4) (fresh : Bool) (lim : Rat × Rat) : State × Rat :=
  if s.em[m].wRef ≠ 0 ∧ !s.em[m].slaRest then
    s.runDown m fresh lim (s.q Fld.LOOP_GEAR m * s.q Fld.EMERGENCY_SLKDEC m / s.rEff m)
  else
    let slack := !(decide (2 * s.q Fld.EMERGENCY_SLKF m ≤ s.drumF m) && !s.pairReads (s.n Fld.EMERGENCY_SLKIN m))
    let s1 := s.onEm m fun e => { e with slaRest := true }
    if s.yes Fld.EMERGENCY_SLKTAKEUP m ∧ slack ∧ s.outer[m].hold.isNone then
      s1.runSpeed m fresh lim (s.q Fld.LOOP_GEAR m * s.q Fld.EMERGENCY_SLKVUP m / s.rEff m) 0
    else s1.runHold m fresh lim

/-! ## The brake sequence (R134, R135) -/

/-- Seconds since the brake entered its state. -/
def State.brakeTime (s : State) (m : Fin 4) : Rat := ((s.up : Rat) - s.brake[m].since) / sec

/-- PROVING: T* ramps to T_prove over 50 ms, or to 0 over 50 ms where a stop has met it, which then ends the proof; both checks run in
every period. -/
def State.proveLaw (s : State) (m : Fin 4) : State × Rat :=
  let t := s.tProve m
  if s.brake[m].abort then
    if 5 / 100 ≤ s.brakeTime m then (s.provingEnd m, 0) else (s, s.brake[m].from_ * (1 - 20 * s.brakeTime m))
  else if s.proveMoved m ∨ (5 / 100 ≤ s.brakeTime m ∧ !s.proveHeld m) then (s.proveFail m, 0)
  else (s, t * minQ 1 (20 * s.brakeTime m))

/-- SLIPTEST: T* ramps to 0 over 100 ms; a movement is a slip, and the motor holds again with BRKHOLD. -/
def State.slipLaw (s : State) (m : Fin 4) : State × Rat :=
  if s.proveMoved m then (s.brakeSlipped m, s.brake[m].hold)
  else (s, s.brake[m].hold * maxQ 0 (1 - 10 * s.brakeTime m))

/-! ## The law of a period -/

/-- Which law a period runs: a code that differs where the integrators are to be preset. -/
def State.lawCode (s : State) (m : Fin 4) : Nat :=
  let e := s.em[m]
  if !s.live m then 0
  else if e.mode = .eqr then (if e.eqrEnding ∧ e.eqrV = 0 then 3 else 2)
  else if s.braked m ∧ s.brake[m].state ≠ .open_ then 4 + s.brake[m].state.code
  else match e.mode with
    | .modeLaw | .cat0 => if s.shock[m].render then 12 else 13 + s.outer[m].mode.code
    | .cro => if e.lineEnd then (if e.wRef = 0 then 21 else 20) else 22
    | .sla => if e.wRef = 0 ∨ e.slaRest then (if s.outer[m].hold.isSome then 24 else 25) else 23
    | md => 30 + 2 * md.code + (if e.stopped ∧ s.outer[m].hold.isSome then 1 else 0)
    
/-- The torque of the law in force, before the limiter. -/
def State.lawOf (s : State) (m : Fin 4) (fresh : Bool) (lim : Rat × Rat) : State × Rat :=
  if s.em[m].mode = .eqr then s.eqrLaw m fresh lim
  else
    let run (s : State) : State × Rat := match s.em[m].mode with
      | .modeLaw | .cat0 => s.modeLaw m fresh lim
      | .cro => s.croLaw m fresh lim
      | .sla => s.slaLaw m fresh lim
      | _ => s.stopLaw m fresh lim
    if s.braked m then
      match s.brake[m].state with
      | .closed => (s, 0)
      | .proving => s.proveLaw m
      | .opening | .closing | .holdFault => s.runHold m fresh lim
      | .slipTest => s.slipLaw m
      | .open_ => run s
    else run s

/-- A stop that is in force where the brake has not opened yet: a proof is broken off, and a brake that opens is set again (R135). -/
def State.stopMeetsBrake (s : State) (m : Fin 4) : State :=
  if s.em[m].mode.isStop ∧ !s.em[m].stopped ∧ s.live m then
    match s.brake[m].state with
    | .proving => s.proveAbort m
    | .opening => s.brakeClose m
    | _ => s
  else s

/-- What ends or changes by itself at the start of a period: EQR, the end of the line, a loss that waited (R207, R208, R211). -/
def State.emPeriod (s : State) (m : Fin 4) : State :=
  let e := s.em[m]
  let s1 := if (e.mode = .eqr ∧ !e.eqrEnding ∨ e.free) ∧ s.eqrOver m then s.eqrEnds m else s
  let s2 := if e.mode = .cro ∧ !e.lineEnd ∧ s.outer[m].spoolOk ∧ s.outer[m].wound ≤ s.q Fld.EMERGENCY_MINWRAP m then
      (s1.onEm m fun x => { x with lineEnd := true, wRef := s.omega m }).raise .CRO_LINEEND m else s1
  let s3 := if e.lossDue ∧ !s2.em[m].mode.ownsReference then
      let t := s2.onEm m fun x => { x with lossDue := false }
      if t.cmd[m].lost then t.lossAct m else t
    else s2
  let s4 := if s3.braked m ∧ s3.brake[m].state ≠ .open_ then
      let t := if s3.heave[m].ahcOn ∨ s3.heave[m].ofs ≠ 0 ∨ 0 < s3.heave[m].g then s3.dropHeave m else s3
      t.endRender m
    else s3
  if s4.em[m].mode = .modeLaw ∧ s4.outer[m].hold.isSome ∧ (!s4.braked m ∨ s4.brake[m].state = .open_) then
    s4.onOuter m fun o => { o with hold := none } else s4

/-! ## The drum (R129, R130) and the observer (R128) -/

/-- The drum angle moves the spooling model and the payout; F and the speeds are brought up to date. -/
def State.drumPeriod (s : State) (m : Fin 4) : State :=
  let o := s.outer[m]
  let t := s.tOuter m
  let live := s.piOf m ≠ none ∧ s.n Fld.MOTOR_POSMODE m ≠ 1
  let now := if live then s.shaft m else o.angPrev + s.rpm m / 60 * t
  let dth := 2 * Config.pi * (now - o.angPrev) / s.q Fld.LOOP_GEAR m
  let nw := o.wound + dth / (2 * Config.pi)
  let r := if o.spoolOk then s.radiusOf m nw else s.rEff m
  let w := s.omega m
  let dw := (w - o.wPrev) / t
  let est := s.tensionEst m o.tPrev dw
  let count := s.em[m].mode = .eqr ∨ s.em[m].free ∨ s.em[m].mode = .cro
  let s1 := s.onOuter m fun o => { o with
    wound := nw, layer := if o.spoolOk then s.layerOf m nw else o.layer
    rEff := if o.spoolOk then r else o.rEff
    pay := o.pay - r * dth, angPrev := now, wPrev := w, est := est
    tens := if s.n Fld.LOOP_TSRC m = 0 then s.pinOf (s.n Fld.LOOP_TPIN m) else est }
  let s2 := s1.onEm m fun e => if count then { e with empay := e.empay - r * dth } else e
  if o.spoolOk ∧ (!s.turnsOk m nw ∨ (live ∧ !s.sourceValid m)) then s2.spoolLost m else s2

/-- The load-torque observer (R128). -/
def State.observerStep (s : State) (m : Fin 4) : State :=
  let t := s.tOuter m
  let j := s.q Fld.LOOP_JTOT m
  let wo := 2 * Config.pi * s.q Fld.LOOP_LTOBW m
  s.onOuter m fun o =>
    let eps := s.omega m - o.wHat
    { o with wHat := o.wHat + t * ((o.tPrev - o.tLoad) / j + 2 * wo * eps), tLoad := o.tLoad - t * j * wo * wo * eps }

/-! ## The period -/

/-- The pending mode is taken, and the generator is set to the measured state (R124, R147). -/
def State.takeMode (s : State) (m : Fin 4) : State :=
  match s.outer[m].modePend with
  | some md =>
    let s1 := s.onOuter m fun o => { o with mode := md, modePend := none }
    if s.outer[m].mode = md then s1 else s1.genMeasured m
  | none => s

/-- The law of the period, limited, becomes T* (R125). -/
def State.torquePeriod (s : State) (m : Fin 4) : State :=
  let code := s.lawCode m
  if code = 0 then
    (s.onOuter m fun o => { o with law := 0, tPrev := 0, tSpd := false }).onLoop m fun l => { l with tLim := false }
  else
    let old := s.outer[m].law
    let fresh := decide (code ≠ old)
    let lim := s.torqueLimits m
    let s1 := if fresh ∧ 13 ≤ code ∧ code ≤ 16 ∧ old ≠ 12 then s.startRef m else s
    let (s2, t) := s1.lawOf m fresh lim
    let tOut := if s2.live m then clampQ lim.1 lim.2 t else 0
    let s3 := (s2.onOuter m fun o => { o with
      law := code, tPrev := tOut, tRaw := t, tSpd := o.tSpd && (decide (code = 15) || decide (code = 22)) }).onLoop m fun l => { l with tLim := decide (tOut ≠ t) }
    let w := if s3.em[m].mode = .modeLaw ∧ s3.outer[m].mode = .speed then s3.cmd[m].ref else s3.outer[m].wRefPrev * 60 / (2 * Config.pi)
    (if 13 ≤ code ∧ code ≤ 16 then s3.latMove m .new .taken else s3).onCmd m fun c => { c with refSpd := w }

/-- What the outer-loop task computes in a period, to its T*. -/
def State.outerTask (s : State) (m : Fin 4) : State :=
  let s1 := (s.takeMode m).drumPeriod m
  let s2 := (s1.observerStep m).emPeriod m
  let s3 := if s.n Fld.LOOP_HVMRUZ m = 0 then s2 else s2.heaveStep m
  s3.torquePeriod m

/-- The conditions that every motor object judges at the start of a period: the validity of its sources, the speed near standstill, k_ov,
and the DERATEs whose cause has cleared (R467). -/
def State.periodStart (s : State) (m : Fin 4) : State :=
  let s1 := (s.onCmd m fun c => { c with valid := vgen 4 fun j => s.sourceFresh m j }).onOuter m fun o =>
    { o with slow := heldSince o.slow s.up (s.slower m (1 / 100)) }
  (((s1.kovStep m).derateEnds m).derateStep m).etPeriod m

/-- The conditions that only the motor object that runs the outer loop judges: the loss of the command, the end of a stop and its time,
the tension modes, the end of a render (R467). -/
def State.periodJudge (s : State) (m : Fin 4) : State :=
  let s1 := ((s.cmdLoss m).lossEsc m).tensionJudge m
  let s2 := ((s1.stopComplete m).stopTimeout m).stopMeetsBrake m
  let s3 := (s2.renderOverload m).renderExit m
  (((s3.croExit m).croEntry m).slaEntry m).blackoutDip m

/-- OUTER_LOOP_PERIOD (R31, R467). -/
def State.outerPeriod (s : State) (m : Fin 4) : State :=
  if s.bridges m = [] ∨ (vat s.fab.tasks .reset (8 + m.1)).engine.isNone then s
  else
    let s1 := s.periodStart m
    if !s.runsHere m then s1
    else
      let s5 := (s1.periodJudge m).outerTask m
      let s6 := if s5.start[m].state = .run ∧ !s5.inGroup m then (s5.postTorque m s5.outer[m].tPrev).latMove m .taken .posted else s5
      s6.lwPeriod m

end Sys2Proof.Machine
end

