-- ==== Sys2Proof/Machine/Protect.lean ====
section
/-! DEFINITION. Gate links, comparators, collection windows, active shorts, choppers and the self-test (chapter 10). -/

namespace Sys2Proof.Machine

/-! ## Thresholds (R223) -/

/-- Codes of an input's ends. -/
def State.codeEnds (s : State) (i : Nat) : Int × Int :=
  if s.n Fld.CELL_INMODE (i / 12) (i % 12) = 1 then (-8192, 8191) else (0, 16383)

/-- A role in which a bridge names an input. -/
def State.isPhase (s : State) (n : Fin 8) (i : Nat) : Bool :=
  let b := s.recOf n
  (List.range 3).any fun p => ainOf (s.n Fld.BRIDGE_IIN b p) == some i
def State.isLink (s : State) (n : Fin 8) (i : Nat) : Bool := ainOf (s.n Fld.BRIDGE_VDCIN (s.recOf n)) == some i

/-- Codes rounded towards the inside of the window, in steps of 16, and kept in the code range. -/
def roundIn (ends : Int × Int) (hi : Bool) (x : Rat) : Int :=
  clampI ends.1 ends.2 (if hi then (x / 16).floor * 16 else -((-x / 16).floor * 16))

/-- The code of a phase current of ± `pct` percent of IMAX of a bridge, on one side of the window. -/
def State.overCode (s : State) (n : Fin 8) (i : Nat) (hi : Bool) (pct : Rat) : Int :=
  let b := s.recOf n
  let top := pct / 100 * s.q Fld.BRIDGE_IMAX b
  let g := s.q Fld.BRIDGE_IGAIN b
  let amps := if hi = decide (0 < g) then top else -top
  roundIn (s.codeEnds i) hi (qdiv (amps - s.q Fld.BRIDGE_IOFS b) g)

/-- The level-2 threshold that a bridge gives for an input, on one side: none where its role leaves it to `PROTECT.CMP`. -/
def State.bridgeLevel (s : State) (n : Fin 8) (i : Nat) (hi : Bool) : Option Int :=
  let b := s.recOf n
  let ends := s.codeEnds i
  if s.isPhase n i then some (s.overCode n i hi (s.q Fld.PROTECT_BR_OC2 0 b))
  else if s.isLink n i then
    some (if hi then roundIn ends true (qdiv (s.q Fld.PROTECT_BR_OV3 0 b - s.q Fld.BRIDGE_VDCOFS b) (s.q Fld.BRIDGE_VDCGAIN b)) else ends.1)
  else none

/-- The threshold that lies furthest inside the window among those the bridges give, else the one of `PROTECT.CMP`. -/
def State.tightest (s : State) (i : Nat) (hi : Bool) (own : Field) (l : List Int) : Int :=
  match l with
  | [] => roundIn (s.codeEnds i) hi (s.q own 0 i)
  | x :: rest => rest.foldl (fun a y => if hi then min a y else max a y) x

/-- The level-1 threshold in force on one side: ±OC1 of the bridges whose phase current it is. -/
def State.level1 (s : State) (i : Nat) (hi : Bool) : Int :=
  s.tightest i hi (if hi then Fld.PROTECT_CMP_L1HI else Fld.PROTECT_CMP_L1LO)
    (((s.naming i).filter fun n => s.isPhase n i).map fun n => s.overCode n i hi (s.q Fld.PROTECT_BR_OC1 0 (s.recOf n)))

/-- The level-2 threshold in force on one side. -/
def State.level2 (s : State) (i : Nat) (hi : Bool) : Int :=
  s.tightest i hi (if hi then Fld.PROTECT_CMP_L2HI else Fld.PROTECT_CMP_L2LO) ((s.naming i).filterMap fun n => s.bridgeLevel n i hi)

/-- A threshold at an end of the code range of its input disables its side. -/
def State.atEnd (s : State) (i : Nat) (hi : Bool) (level : Int) : Bool :=
  level == (if hi then (s.codeEnds i).2 else (s.codeEnds i).1)

/-- A level-2 threshold at an end of the code range never trips. -/
def State.sideOff (s : State) (i : Nat) (hi : Bool) : Bool := s.atEnd i hi (s.level2 i hi)

/-- A self-test runs on a bridge that names the input: what trips there is the test's own (R239, log 134). -/
def State.inputInTest (s : State) (i : Nat) : Bool :=
  (s.naming i).any fun n => s.stest.busy == some n.1

/-- A self-test runs on the target that a channel belongs to (R239, log 134). -/
def State.channelInTest (s : State) (g : Nat) : Bool :=
  match s.stest.busy with
  | none => false
  | some t => if t < 8 then s.conf (s.bridgeOfGate g) && (s.bridgeOfGate g).1 == t && g < 48 else g == 40 + t

/-! ## Gate-offs and the collection window (R35, R226) -/

/-- The gates of a bridge go off through its latch. -/
def State.latchOff (s : State) (n : Fin 8) : State := s.offBridge n fun b => { b with latch := true }

/-- A gate-off that a comparator, a status fault or the interlock asked for (R226): the bridge is blocked at once, and the
reaction asked for waits for the end of the window. -/
def State.gateFault (s : State) (n : Fin 8) (ev : Ev) (unit : Nat) (sev : Reaction) (present : Bool := true) : State :=
  let s1 := (s.latchOff n).onBr n fun b => { b with window := some (b.window.getD s.up), gather := b.gather ++ [(ev, unit, sev)] }
  if 4 ≤ sev.rank then s1.reactBridge n ev unit .pulseBlock present else s1

/-- A bridge that stays unblocked switches again where its motor object runs. -/
def State.runAgain (s : State) (n : Fin 8) : State :=
  if s.loops[s.br[n].mo].run ∧ s.br[n].enabled ∧ s.br[n].exec_.rank < 4 ∧ !s.br[n].taken then s.onBr n fun b => { b with form := .run } else s

/-- What asked for a gate-off still persists at the end of the window: a trip until its input is back inside, a status fault until a train
is there again; a rejected pattern is over at once. -/
def State.gatePersists (s : State) (n : Fin 8) (ev : Ev) (unit : Nat) : Bool :=
  match ev with
  | .CMP_TRIP => !(vat s.cmp .reset unit).back
  | .OV3 => match ainOf (s.n Fld.BRIDGE_VDCIN (s.recOf n)) with
    | some i => !(vat s.cmp .reset i).back
    | none => false
  | .GD_DESAT | .GD_UV => !(vat s.chan .reset unit).ready
  | _ => false

/-- FAULT_WINDOW_END (R226): the reaction is decided. -/
def State.windowEnd (s : State) (n : Fin 8) : State :=
  if s.br[n].window.isNone then s
  else
    let gat := s.br[n].gather
    let f := s.faultSet n
    let sw := s.rc Fld.PROTECT_BR_SWREACT 0 (s.recOf n)
    let s1 := s.onBr n fun b => { b with window := none, gather := [] }
    let ask := if f = [] then gat else
      f.map (fun o => let g := gateBase n + o
        (if (vat s.chan .reset g).uv then Ev.GD_UV else Ev.GD_DESAT, g, sw)) ++ gat.filter fun x => x.1 == .OV3
    let s2 := ask.foldl (fun s x => s.reactBridge n x.1 x.2.1 x.2.2 (s.gatePersists n x.1 x.2.1)) s1
    let s3 := (s2.bridgesExec s.br[n].mo)
    if s3.br[n].exec_.rank < 4 then s3.runAgain n else s3

/-! ## Comparators (R223, R224) -/

/-- A level-2 trip acts on a bridge that names the input. An active short goes on through a trip of a phase-current or link input (R229),
of which that of the link still asks for its ASC (R233);
one of another input takes its gates off like any other gate (R35, log 127). -/
def State.tripBridge (s : State) (n : Fin 8) (i : Nat) (hi : Bool) (stamp : BitVec 64) : State :=
  if s.br[n].form = .asc ∧ s.isPhase n i then s
  else if s.br[n].form = .asc ∧ s.isLink n i then
    if hi then (s.raiseAt stamp .OV3 n).reactBridge n .OV3 n .asc else s
  else if s.isPhase n i then s.gateFault n .CMP_TRIP i (s.rc Fld.PROTECT_BR_OC2REACT 0 (s.recOf n))
  else if s.isLink n i ∧ hi then (s.raiseAt stamp .OV3 n).gateFault n .OV3 n .asc
  else s.gateFault n .CMP_TRIP i (s.rc Fld.PROTECT_CMP_REACT 0 i)

/-- COMPARATOR_LEVEL2_TRIP (R35, R224): the input crosses a level-2 threshold that acts. -/
def State.cmpTrip (s : State) (i : Fin 96) (hi : Bool) (stamp : BitVec 64) : State :=
  if s.sideOff i hi ∨ s.inputInTest i then s
  else
    let s1 := s.onCmp i fun c => { c with
      l2hi := c.l2hi || hi, l2lo := c.l2lo || !hi, back := false, trips := bump c.trips }
    (s.naming i).foldl (fun s n => s.tripBridge n i hi stamp) (s1.raiseAt stamp .CMP_TRIP i)

/-- COMPARATOR_LEVEL1_CROSSING (R223). -/
def State.cmpLevel1 (s : State) (i : Fin 96) (hi : Bool) : State :=
  if s.atEnd i hi (s.level1 i hi) ∨ s.inputInTest i then s
  else (s.onCmp i fun c => { c with l1hi := c.l1hi || hi, l1lo := c.l1lo || !hi }).cmpTrigger i

/-- COMPARATOR_RETURN (R224): the input is back inside its windows by 32 codes. -/
def State.cmpReturn (s : State) (i : Fin 96) : State :=
  let s1 := (s.onCmp i fun c => { c with l1hi := false, l1lo := false, back := true }).causeGoneAll .CMP_TRIP i
  ((s.naming i).foldl (fun s n => if s.isLink n i then s.causeGoneAll .OV3 n else s) s1).dropMarks

/-- The input holds a disable latch (`CMPSTAT.LATCH`). -/
def State.cmpHolds (s : State) (i : Nat) : Bool :=
  let c := vat s.cmp .reset i
  (c.l2hi || c.l2lo) && (s.naming i).any fun n => s.br[n].latch && s.br[n].form != .asc

/-! ## Gate status (R218, R229) -/

/-- The configured bridge of a gate channel. -/
def State.bridgeWith (s : State) (g : Nat) : Option (Fin 8) :=
  let n := s.bridgeOfGate g
  if g < 48 ∧ s.conf n ∧ gateBase n ≤ g ∧ g < gateBase n + s.gateCount n then some n else none

/-- A chopper leaves service (R236). -/
def State.chopFault (s : State) (c : Fin 4) : State :=
  if s.chop[c].config ∧ !s.chop[c].fault then
    (s.onChop c fun x => { x with fault := true, stok := false, on := false, forced := false }).raise .CHOP_FAULT c
  else s

/-- A switch fault during an active short (R229). -/
def State.ascFault (s : State) (n : Fin 8) (ev : Ev) (g : Nat) : State :=
  let s1 := s.reactBridge n ev g .asc
  let sd := s.br[n].side
  match s1.ascSide n with
  | .noFree => ((s1.onBr n fun b => { b with side := .noFree }).bridgeTrip n).raise .ASC_NOSIDE n
  | other =>
    if s1.against n (sd == .upper) then
      (s1.onBr n fun b => { b with side := other, offAt := s.up, onAt := s.up + s.deadNs n }).raise .ASC_SIDE_CHANGE n
    else s1

/-- A status fault of a channel: DESAT or UV (R218). -/
def State.statusFault (s : State) (g : Fin 52) (ev : Ev) (mark : Chan → Chan) : State :=
  let s1 := s.onChan g fun c => { mark c with ready := false }
  if s.channelInTest g then s
  else if h : 48 ≤ g.1 then s1.chopFault ⟨g.1 - 48, by omega⟩
  else match s.bridgeWith g with
    | none => s1
    | some n =>
      let s2 := (s1.onChan g fun c => { c with faulted := true }).raise ev g
      if s.br[n].form = .asc then s2.ascFault n ev g
      else s2.gateFault n ev g (s.rc Fld.PROTECT_BR_SWREACT 0 (s.recOf n))

/-- GATE_STATUS_UV (R218): only after READY. -/
def State.gateUv (s : State) (g : Fin 52) : State :=
  if s.chan[g].ready then s.statusFault g .GD_UV fun c => { c with uv := true } else s

/-- GATE_TRAIN_READY (R217, R218): eight valid pulses of a train of the given mean frequency in Hz, its period within 32 to 111 µs. -/
def State.trainReady (s : State) (g : Fin 52) (freq : Rat) : State :=
  if freq * 111 < 1000000 ∨ 1000000 < freq * 32 then s
  else
  let t : Int := ((freq - 10000) / 100 * 16).floor - 640
  let s1 := s.onChan g fun c => { c with ready := true, desat := false, uv := false, trainInv := false, temp := t }
  (s1.causeGoneAll .GD_DESAT g).causeGoneAll .GD_UV g

/-- GATE_TRAIN_INVALID (R218): the last valid temperature is kept. -/
def State.trainInvalid (s : State) (g : Fin 52) : State :=
  (s.onChan g fun c => { c with trainInv := true }).raise .GD_TEMPINV g

/-! ## Enables (R219) -/

/-- The first channel of a bridge that fails, or none: a train that is missing, else a self-test not passed. -/
def State.enableFails (s : State) (n : Fin 8) : Option Nat :=
  if s.rst.stage ≠ 9 ∨ !s.conf n ∨ !s.armed[s.br[n].mo] then some 0xFF
  else match (List.range (s.gateCount n)).find? fun o => !(vat s.chan .reset (gateBase n + o)).ready with
    | some o => some (gateBase n + o)
    | none => if s.br[n].passed then none else some (gateBase n)

/-- The unit under which a write of 0 to `GATEEN` stands in the list of requests. -/
def disableUnit (n : Fin 8) : Nat := 16 + n.1

/-- Fast-plane debug is unlocked: writes to `GATEEN` are refused (R411). -/
def State.debugFast (s : State) : Bool := match s.onyx.dbg with
  | some (_, fast, _) => fast
  | none => false

/-- GATE_ENABLE_WRITE. -/
def State.gateEnable (s : State) (n : Fin 8) (en : Bool) : State :=
  if s.debugFast then s.raise .GD_NOTREADY n (gateBase n)
  else if en then
    if s.br[n].enabled then s
    else match s.enableFails n with
      | some x => s.raise .GD_NOTREADY n x
      | none => (s.onBr n fun b => { b with enabled := true }).dropOwn s.br[n].mo (disableUnit n)
  else if s.br[n].enabled then
    (s.latchOff n).onBr n (fun b => { b with enabled := false }) |>.react s.br[n].mo
      ⟨none, disableUnit n, .pulseBlock, true, true⟩
  else s

/-- CHOPPER_ENABLE_WRITE: a configured chopper, from S9, that has passed its self-test (R236, R325, R328). -/
def State.chopEnable (s : State) (c : Fin 4) (en : Bool) : State :=
  if s.debugFast then s.raise .GD_NOTREADY (48 + c) (48 + c)
  else if !en then s.onChop c fun x => { x with enabled := false, on := false, forced := false }
  else if s.chop[c].config ∧ s.chop[c].stok ∧ s.rst.stage = 9 then s.onChop c fun x => { x with enabled := true }
  else s.raise .GD_NOTREADY (48 + c) (48 + c)

/-! ## The interlock (R221, R222) -/

/-- SHOOT: a rejected pattern or a gap below TILOCK. -/
def State.shoot (s : State) (n : Fin 8) (phase a b : Nat) (pattern : BitVec 12) (gap : Bool) : State :=
  if !s.conf n then s
  else (s.raise .SHOOT n phase (bytesLE 1 a ++ bytesLE 1 b ++ bytesLE 2 pattern.toNat ++ bytesLE 1 (bit 0 gap))).gateFault n .SHOOT n
    .pulseBlock false

/-! ## Contactors (R231) -/

/-- CONTACTOR_TIMEOUT: the contactor has not read open within CONT. Without a feedback input nothing is supervised (log 134). -/
def State.contactorLate (s : State) (n : Fin 8) : State :=
  let fb := s.n Fld.BRIDGE_DCFB (s.recOf n)
  if s.br[n].dcopen ∧ !s.br[n].conFail ∧ fb ≠ 0 ∧ !s.pairReads fb then (s.onBr n fun b => { b with conFail := true }).raise .CON_FAIL n else s

/-! ## Choppers (R234 to R236, R243) -/

/-- A chopper out of service. -/
def Chopper.removed (c : Chopper) : Bool := c.fault || c.short || c.hot

/-- The link voltage of a chopper: scaled as the bridge that names its input, else as the cell (log 60). -/
def State.chopVolts (s : State) (c : Fin 4) : Rat :=
  match ainOf (s.n Fld.PROTECT_CH_VIN 0 c) with
  | none => 0
  | some i => match (List.finRange 8).find? fun n => s.conf n && s.isLink n i with
    | some n => s.vdc n
    | none => s.inputValue i

/-- The share of the braking power by the law of R234 between two levels. -/
def shareBetween (v lo hi : Rat) : Rat := clampQ 0 1 (qdiv (v - lo) (hi - lo))

/-- The duty of the next period (R234, R199). -/
def State.chopDuty (s : State) (c : Fin 4) : Rat :=
  let v := s.chopVolts c
  if s.ring.on ∧ s.yes Fld.RING_BRSHARE 0 then
    let watts := s.chop[c].share * s.q Fld.RING_PBRATED 0 * 1000 / 1048576
    clampQ 0 1 (qdiv (watts * s.q Fld.PROTECT_CH_RCH 0 c) (v * v))
  else shareBetween v (s.q Fld.PROTECT_CH_CHON 0 c) (s.q Fld.PROTECT_CH_OV2 0 c)

/-- The resistor model over the period that ends, and its power cap. -/
def State.chopThermal (s : State) (c : Fin 4) : State :=
  let x := s.chop[c]
  let v := s.chopVolts c
  let on1 : Rat := if x.removed ∨ !x.enabled then 0 else if x.forced then 1 else x.duty
  let p := on1 * v * v / s.q Fld.PROTECT_CH_RCH 0 c
  let rth := s.q Fld.THERMAL_CH_RTH 0 c
  let cth := s.q Fld.THERMAL_CH_CTH 0 c
  let amb := s.q Fld.THERMAL_CH_TAMB 0 c
  let t := x.tres + (p - (x.tres - amb) / rth) / (cth * s.q Fld.PROTECT_CH_FSW 0 c)
  let top := s.q Fld.THERMAL_CH_TRMAX 0 c
  let cap := clampQ 0 (s.q Fld.THERMAL_CH_PMAX 0 c * 1000) ((top - t) * cth + (t - amb) / rth)
  let hot := if top ≤ t then true else if t ≤ top - 20 then false else x.hot
  (s.onChop c fun y => { y with tres := t, capw := cap, hot := hot }).raiseIf (hot && !x.hot) .CHOP_HOT c

/-- The current readback of the period that ends (R236): of an on-time of at least 10 µs, or of a period without one. -/
def State.chopWatch (s : State) (c : Fin 4) : State :=
  match ainOf (s.n Fld.PROTECT_CH_IIN 0 c) with
  | none => s
  | some i =>
    let x := s.chop[c]
    let amps := s.inputValue i
    let want := s.chopVolts c / s.q Fld.PROTECT_CH_RCH 0 c
    let on1 := x.on && x.enabled && !x.removed
    let settled := x.forced || decide (10 * s.q Fld.PROTECT_CH_FSW 0 c ≤ x.duty * 1000000)
    let bad := on1 && settled && decide (amps < 60 / 100 * want ∨ 140 / 100 * want < amps)
    let leak := !on1 && decide (10 / 100 * want < amps)
    let s1 := s.onChop c fun y => { y with
      imeas := amps, badN := if bad then min 3 (y.badN + 1) else 0, offN := if leak then min 3 (y.offN + 1) else 0 }
    let s2 := if s1.chop[c].badN = 3 then s1.chopFault c else s1
    if s2.chop[c].offN = 3 ∧ !x.short then
      let s3 := (s2.onChop c fun y => { y with short := true, stok := false, on := false, forced := false }).raise .CHOP_SHORT c
      ((List.finRange 8).filter fun n => s.conf n && s.n Fld.BRIDGE_VDCIN (s.recOf n) == s.n Fld.PROTECT_CH_VIN 0 c).foldl
        (fun s n => s.reactBridge n .CHOP_SHORT c (s.rc Fld.PROTECT_CH_SHREACT 0 c)) s3
    else s2

/-- CHOPPER_PERIOD: the last period is judged, and the next one gets its duty. -/
def State.chopPeriod (s : State) (c : Fin 4) : State :=
  if !s.chop[c].config then s
  else
    let s1 := (s.chopWatch c).chopThermal c
    let d := s1.chopDuty c
    s1.onChop c fun y => { y with
      duty := d, on := y.enabled && !y.removed && (y.forced || decide (0 < d)), forced := y.forced && !y.removed }

/-- CHOPPER_FORCE_ON (R235): masked for a chopper out of service or not enabled. -/
def State.chopForce (s : State) (c : Fin 4) : State :=
  let x := s.chop[c]
  if x.config ∧ x.enabled ∧ !x.removed ∧ !x.forced then
    (s.onChop c fun y => { y with forced := true, on := true }).raise .OV2_FORCED c
  else s

/-- CHOPPER_FORCE_RELEASE (R235). -/
def State.chopRelease (s : State) (c : Fin 4) : State :=
  s.onChop c fun y => if y.forced then { y with forced := false, on := decide (0 < y.duty) } else y

/-- CHCAP of a chopper in quanta (R199, R243). -/
def State.chcap (s : State) (c : Fin 4) : Nat :=
  if s.chop[c].config ∧ !s.chop[c].removed then natQ (s.chop[c].capw * 1048576 / (s.q Fld.RING_PBRATED 0 * 1000)) else 0

/-! ## Self-test (R238, R239) -/

/-- A bridge that names an input of another one. -/
def State.sharesInput (s : State) (n j : Fin 8) : Bool := (s.inputsOf n).any fun i => (s.inputsOf j).contains i

/-- A target may be tested now. -/
def State.testable (s : State) (t : Nat) : Bool :=
  s.stest.busy.isNone && (
    if h : t < 8 then
      let n : Fin 8 := ⟨t, h⟩
      s.conf n && (List.finRange 8).all fun j => !s.conf j || !(j == n || s.sharesInput n j) || s.br[j].form == .pblk
    else if h : t < 12 then
      let c : Fin 4 := ⟨t - 8, by omega⟩
      s.chop[c].config && !s.chop[c].enabled && decide (s.chopVolts c < s.q Fld.PROTECT_CH_CHON 0 c)
    else false)

/-- SELF_TEST_COMMAND (R238). -/
def State.testStart (s : State) (t : Nat) : State :=
  if s.testable t then { s with stest := { s.stest with busy := some t } }
  else { s with stest := { s.stest with last := 3 } }.raise .ST_REFUSED t

/-- SELF_TEST_DONE (R239): passed, or the first failed item. -/
def State.testDone (s : State) (fail : Option (BitVec 16)) : State :=
  match s.stest.busy with
  | none => s
  | some t =>
    let ok := fail.isNone
    let s1 := { s with stest := ⟨none, if ok then 1 else 2, (fail.map BitVec.toNat).getD 0⟩ }
    let s2 := if h : t < 8 then s1.onBr ⟨t, h⟩ fun b => { b with passed := ok }
      else if h : t < 12 then
        let c : Fin 4 := ⟨t - 8, by omega⟩
        let s3 := s1.onChop c fun x => { x with stok := ok, fault := x.fault && !ok, badN := 0, offN := if ok then 0 else x.offN }
        if ok then (s3.causeGoneAll .CHOP_SHORT c).dropMarks else s3
      else s1
    s2.raise (if ok then .ST_DONE else .ST_FAIL) t 0 (match fail with | some i => bytesLE 2 i.toNat | none => [])

/-! ## Commands -/

def execComparatorLevel2Trip (i : Fin 96) (high : Bool) (stamp : BitVec 64) (s : State) : Host.Outcome State Fault Refusal :=
  .next (s.cmpTrip i high stamp)
def execComparatorLevel1Crossing (i : Fin 96) (high : Bool) (s : State) : Host.Outcome State Fault Refusal :=
  .next (s.cmpLevel1 i high)
def execComparatorReturn (i : Fin 96) (s : State) : Host.Outcome State Fault Refusal := .next (s.cmpReturn i)
/-- GATE_STATUS_DESAT (R218): low for 2 µs outside blanking, or an open or shorted status pair. -/
def execGateStatusDesat (g : Fin 52) (s : State) : Host.Outcome State Fault Refusal :=
  .next (s.statusFault g .GD_DESAT fun c => { c with desat := true })
def execGateStatusUv (g : Fin 52) (s : State) : Host.Outcome State Fault Refusal := .next (s.gateUv g)
def execGateTrainReady (g : Fin 52) (freq : Rat) (s : State) : Host.Outcome State Fault Refusal := .next (s.trainReady g freq)
def execGateTrainInvalid (g : Fin 52) (s : State) : Host.Outcome State Fault Refusal := .next (s.trainInvalid g)
def execGateEnableWrite (n : Fin 8) (en : Bool) (s : State) : Host.Outcome State Fault Refusal := .next (s.gateEnable n en)
def execChopperEnableWrite (c : Fin 4) (en : Bool) (s : State) : Host.Outcome State Fault Refusal := .next (s.chopEnable c en)
/-- SHOOT (R221, R222): see `State.shoot`. -/
def execShoot (n : Fin 8) (phase : Fin 3) (a b : Fin 12) (pattern : BitVec 12) (gap : Bool) (s : State) :
    Host.Outcome State Fault Refusal := .next (s.shoot n phase a b pattern gap)
def execFaultWindowEnd (n : Fin 8) (s : State) : Host.Outcome State Fault Refusal := .next (s.windowEnd n)
def execContactorTimeout (n : Fin 8) (s : State) : Host.Outcome State Fault Refusal := .next (s.contactorLate n)
def execChopperPeriod (c : Fin 4) (s : State) : Host.Outcome State Fault Refusal := .next (s.chopPeriod c)
def execChopperForceOn (c : Fin 4) (s : State) : Host.Outcome State Fault Refusal := .next (s.chopForce c)
def execChopperForceRelease (c : Fin 4) (s : State) : Host.Outcome State Fault Refusal := .next (s.chopRelease c)
def execSelfTestCommand (target : BitVec 4) (s : State) : Host.Outcome State Fault Refusal := .next (s.testStart target.toNat)
def execSelfTestDone (fail : Option (BitVec 16)) (s : State) : Host.Outcome State Fault Refusal := .next (s.testDone fail)
/-- PROTECTION_COUNTERS_CLEAR (R224): `PRCTL.CNTCLR`. -/
def execProtectionCountersClear (s : State) : Host.Outcome State Fault Refusal :=
  .next { s with cmp := s.cmp.map fun c => { c with trips := .zero } }

end Sys2Proof.Machine
end

