-- ==== Sys2Proof/Machine/Ring.lean ====
section
/-! DEFINITION. The Mladin ring (chapter 08): frames, allocation, the conservation law, members, quorum, the lead, ring time. -/

namespace Sys2Proof.Machine

/-! ## Positions and keys -/

/-- The cycle number k (R182). -/
def State.cycleNo (s : State) : Nat := s.dev.toNat / 20000

/-- The positions of the ring, and this module's own. -/
def State.positions (s : State) : List (Fin 8) := (List.finRange 8).filter fun p => decide (p.1 < s.n Fld.RING_NMOD 0)
def State.ownPos (s : State) : Fin 8 := ⟨s.n Fld.RING_POS 0 % 8, Nat.mod_lt _ (by decide)⟩

/-- The usable frame of a position in a cycle. -/
def State.frameAt (s : State) (p : Fin 8) (k : Nat) : Option RingFrame :=
  (s.ring.pos[p].recent.find? fun x => x.1 == k).map Prod.snd

/-- A position is in the visible set V after cycle k (R196). -/
def State.sees (s : State) (p : Fin 8) (k : Nat) : Bool :=
  p == s.ownPos || s.ring.pos[p].recent.any fun x => decide (k ≤ x.1 + 2)

/-- The key of a member: position first, then motor object (R189). -/
def keyOf (p : Fin 8) (m : Fin 4) : Fin 32 := ⟨4 * p.1 + m.1, by omega⟩

/-- The key of a local member. -/
def State.ownKey (s : State) (m : Fin 4) : Fin 32 := keyOf s.ownPos m

/-- Every member of this module is at rest. -/
def State.membersIdle (s : State) : Bool :=
  s.ring.mbr.toList.all fun x => x.state == .none_ || x.state == .idle

/-! ## Capacities (R188, R195, R201) -/

/-- Full capacities in quanta, positive and negative. -/
def State.fullCaps (s : State) (m : Fin 4) : Nat × Nat :=
  let (lo, hi) := s.ownLimits m
  let top := s.currentCap m
  (natQ (qdiv (minQ hi top) s.quantum), natQ (qdiv (minQ (-lo) top) s.quantum))

/-- The others can carry the demand without a draining member (R197). -/
def State.othersCarry (s : State) (m : Fin 4) : Bool :=
  let a := s.ring.alloc
  let sum := (List.finRange 32).foldl (fun t (key : Fin 32) =>
    if key = s.ownKey m ∨ !a.elig[key] then t
    else match s.ring.pos[key.1 / 4]?.bind (fun p => p.recent.head?) with
      | some (_, f) => let b := vat f.mbr .reset (key.1 % 4); t + (if 0 ≤ a.dinf then b.cpos else b.cneg)
      | none => t) 0
  decide (a.dinf.natAbs ≤ sum)

/-- How far the join ramp of a member has come (R195). -/
def State.joinFactor (s : State) (m : Fin 4) : Rat :=
  let x := s.ring.mbr[m]
  minQ 1 (x.factor + ((s.up : Rat) - x.rampAt) / ms / s.q Fld.RING_JOINRAMP 0)

/-- RING_JOINED (R195): the join ramp has ended. -/
def State.ringJoined (s : State) (m : Fin 4) : State :=
  if s.ring.mbr[m].state = .share ∧ s.ring.mbr[m].ramp ∧ s.joinFactor m = 1 then
    (s.onMbr m fun x => { x with ramp := false, factor := 1 }).raise .RING_JOINED m
  else s

/-- RING_DRAIN_REFUSED (R197, R206): a drain held for DRAINMAX goes back to SHARE; a reaction that asked for it becomes PULSE_BLOCK. -/
def State.drainRefused (s : State) (m : Fin 4) : State :=
  let x := s.ring.mbr[m]
  if x.state = .draining ∧ x.dhold ∧ heldFor x.holdAt s.up (s.n Fld.RING_DRAINMAX 0 * sec) then
    let s1 := (s.onMbr m fun y => { y with state := .share, ramp := true, rampAt := s.up, dhold := false, holdAt := none }).raise
      .RING_DRAIN_REFUSED m
    (s.reacts[m].filter fun r => r.sev == .rampStop || r.sev == .quickStop).foldl (fun s r =>
      s.react m { r with sev := .pulseBlock }) s1
  else s

/-- The ramp of a member before a latch: up over JOINRAMP in SHARE, down over DRAINT in DRAINING unless it is held. -/
def State.rampStep (s : State) (m : Fin 4) : State :=
  let x := s.ring.mbr[m]
  let dt : Rat := ((s.up : Rat) - x.rampAt) / ms
  match x.state with
  | .share =>
    if x.ramp then (s.ringJoined m).onMbr m fun y => { y with factor := s.joinFactor m, rampAt := s.up }
    else s.onMbr m fun y => { y with factor := 1, rampAt := s.up }
  | .draining =>
    if s.othersCarry m then
      s.onMbr m fun y => { y with
        factor := maxQ 0 (y.factor - y.from_ * dt / s.q Fld.RING_DRAINT 0), rampAt := s.up, dhold := false, holdAt := none }
    else
      ((s.onMbr m fun y => { y with dhold := true, holdAt := some (y.holdAt.getD s.up), rampAt := s.up }).raiseIf (!x.dhold)
        .RING_DRAIN_HELD m).drainRefused m
  | _ => s.onMbr m fun y => { y with factor := 0, rampAt := s.up }

/-- What a member declares (R188, R191). -/
def State.declare (s : State) (m : Fin 4) : State :=
  let (p, n) := s.fullCaps m
  let key := s.ownKey m
  let share := s.ring.alloc.share[key]
  s.onMbr m fun y =>
    let live := y.state == .share || y.state == .draining
    { y with
      cpos := if live then natQ (y.factor * p) else 0, cneg := if live then natQ (y.factor * n) else 0
      held := if live then share else 0
      rel := if !live && s.ring.alloc.elig[key] then share else 0 }

/-! ## The latch (R182, R184, R187) -/

/-- The lead's demand: its limited T* in quanta, or DINF while it is frozen (R187, R192). -/
def State.leadDemand (s : State) (m : Fin 4) : Int :=
  if s.ring.frozen then s.ring.alloc.dinf else if s.ring.group = .stopped then 0 else s.demandOf s.outer[m].tPrev

/-- The braking demand of the lead (R199, R234). -/
def State.brakeDemand (s : State) (m : Fin 4) : Nat :=
  match s.rank0 m with
  | some n => if s.yes Fld.RING_BRSHARE 0 then natQ (1048576 * shareBetween (s.vdc n) (s.q Fld.PROTECT_GCHON 0) (s.q Fld.PROTECT_GOV2 0)) else 0
  | none => 0

/-- The group state as the lead holds it: running once the drum is live, stopped once no member carries torque any more (log 71). -/
def State.groupStep (s : State) (m : Fin 4) : State :=
  s.onRing fun r => { r with group := match r.group with
    | .starting => if s.drumLive m then .running else .starting
    | .running => if s.live m then .running else .stopped
    | g => g }

/-- SEEN: the positions with a usable frame in the last cycle. -/
def State.seenMask (s : State) (k : Nat) : BitVec 8 :=
  BitVec.ofNat 8 ((List.finRange 8).foldl (fun w p => w + bit p.1 ((s.frameAt p (k - 1)).isSome)) 0)

/-- This module cannot serve as the time reference (R185). -/
def State.noReference (s : State) : Bool := s.clk.src != .xin && !s.time.asLock

/-- A quantity that travels as a float. -/
def asF32 (x : Rat) : Rat := match ofF32 (toF32 x) with | .num q => q | _ => x

/-- The frame of this cycle. -/
def State.ownFrame (s : State) (k : Nat) : RingFrame :=
  let r := s.ring
  let lead := s.isLead
  let m := s.leadMo.getD 0
  { RingFrame.reset with
    pos := s.ownPos, noRef := s.noReference, lead := lead, cycle := BitVec.ofNat 16 k, seen := s.seenMask k, leadPos := r.leadPos
    time := s.dev, cfgid := s.cfgId, dinf := r.alloc.dinf
    group := if lead then r.group else .stopped
    brkSt := if lead then s.brake[m].state.code else 0
    mode := if lead then s.outer[m].mode.code else 0
    demand := if lead then r.demand else 0
    speed := if lead then asF32 (s.rpm m) else 0
    brdem := if lead then r.brdem else 0
    tprev := if lead then asF32 s.outer[m].tPrev else 0
    nwound := if lead ∧ s.outer[m].spoolOk then (s.outer[m].wound * 4294967296).floor else 0
    mbr := vgen 4 fun j => let x := r.mbr[j]
      ⟨x.state, s.n Fld.RING_WEIGHT 0 j, x.held, x.rel, x.cpos, x.cneg⟩
    chcap := vgen 4 fun c => s.chcap c }

/-- A position's usable frame of a cycle is noted. -/
def RingPos.note (p : RingPos) (k : Nat) (f : RingFrame) : RingPos :=
  { p with recent := (k, f) :: p.recent.take 4, lastCyc := BitVec.ofNat 16 k, miss := 0, visible := true }

/-- RING_LATCH: at L_k the module latches and sends its frame on both rings. -/
def State.ringLatch (s : State) : State :=
  if !s.ring.on then s
  else
    let k := s.cycleNo
    let s1 := forFin 4 (fun m s => if s.ring.mbr[m].state = .none_ then s else (s.rampStep m).declare m) s
    let s2 := match s1.leadMo with
      | some m => if s1.isLead then
          let t := (s1.groupStep m).latMove m .taken .latched
          t.onRing fun r => { r with demand := t.leadDemand m, brdem := t.brakeDemand m }
        else s1
      | none => s1
    let f := s2.ownFrame k
    s2.onRing fun r => { r with
      k := k, own := f, sentA := f :: r.sentA, sentB := f :: r.sentB, pos := vmod r.pos s.ownPos fun p => p.note k f }

/-! ## Arrivals and ring time (R183, R185) -/

/-- The position that serves as time reference (R185). -/
def State.refPos (s : State) (k : Nat) : Option (Fin 8) :=
  let l := s.positions.filter fun p => (s.frameAt p (k - 1)).isSome
  match l.find? fun p => match s.frameAt p (k - 1) with | some f => !f.noRef | none => false with
  | some p => some p
  | none => l.head?

/-- No motor object is outside IDLE and no axis outside OFF and STANDSTILL: device time may be stepped (R382). -/
def State.atRest (s : State) : Bool :=
  s.start.toList.all (fun x => x.state == .idle) && s.axes.toList.all fun a => a.state == .off || a.state == .standstill

/-- A check that fails. -/
def State.lawFails (s : State) : State :=
  let n := min 3 (s.ring.consFail + 1)
  let s1 := (s.onRing fun r => { r with consCnt := bump r.consCnt, frozen := true, consFail := n }).raise .RING_CONSERVATION
  if n = 3 ∧ s.ring.consFail < 3 then
    (List.finRange 4).foldl (fun (s : State) (m : Fin 4) =>
      if s.ring.mbr[m].state ≠ .none_ then s.reactEv m .RING_CONSERVATION 0xFF (s.rc Fld.RING_CONSREACT 0) else s) s1
  else s1

/-- JASPER_AUDIT_ROUND (R192, R293): the flows and the tracker, and each local share that was written against HELD of the latest frame, once that of the
present cycle is sent. -/
def State.jasper (s : State) (u : Option FlowUpset) : State :=
  let s1 := s.audit u
  let differs := (List.finRange 4).any fun m =>
    let x := s.ring.mbr[m]
    x.state.carries && x.owed.isNone && x.written != s.ring.own.mbr[m].held
  if s.ring.on ∧ differs ∧ s.ring.own.cycle = BitVec.ofNat 16 s.ring.k then s1.lawFails else s1

/-- Device time is stepped to its source, coded as `TIMESTAT.SRC` (R382); a step over a whole millisecond starts an audit round (R293). -/
def State.timeStep (s : State) (ofs : Int) (src : Nat) : State :=
  let s1 := (s.stepDev (BitVec.ofInt 64 (s.dev.toNat + ofs))).raise .TIME_STEP 0xFF 0
    (bytesLE 8 (BitVec.ofInt 64 ofs).toNat ++ bytesLE 1 src)
  let s2 := { s1 with eth := { s1.eth with port := s1.eth.port.map fun p => { p with gclAt := gclIdle } } }
  if s2.dev.toNat / ms = s.dev.toNat / ms then s2 else s2.jasper none

/-- The source that steers device time (R379). -/
def State.timeSource (s : State) : TimeSrc :=
  if s.ring.on ∧ s.refPos s.cycleNo ≠ some s.ownPos then .ring
  else if s.yes Fld.NET_ASEN 0 ∧ s.time.gm.isSome then .as_
  else .free

/-- The error of ring time is judged, and device time follows: beyond 1 µs by one step while every member is IDLE and the module
is at rest, else by a slew of 2 ns in a cycle (R185, R382). -/
def State.timeError (s : State) (err : Int) : State :=
  let small := decide (err.natAbs ≤ 20)
  let n := if small then min 50 (s.ring.lockN + 1) else 0
  let lost := s.ring.tlock && decide (100 < err.natAbs)
  let step := !s.ring.stepped && s.membersIdle && s.atRest && decide (1000 < err.natAbs)
  let slew : Int := clampI (-2) 2 err
  let s1 := s.onRing fun r => { r with
    terr := err, lockN := n, stepped := r.stepped || step, tlock := if lost then false else r.tlock || decide (n = 50) }
  let s2 : State := if step then s1.timeStep err 0 else { s1 with dev := BitVec.ofInt 64 (s.dev.toNat + slew) }
  s2.raiseIf lost .RING_TIMELOSS

/-- A copy is discarded. -/
def State.ringDiscard (s : State) (n : Nat) : State :=
  let seen := s.ring.crcSeen
  (s.onRing fun r => { r with crcCnt := bumpBy r.crcCnt n, crcSeen := true }).raiseIf (!seen) .RING_CRC

/-- A valid frame of another position goes on to the out-port of its ring (R182). -/
def State.ringForward (s : State) (portB : Bool) (f : RingFrame) : State :=
  s.onRing fun r => if portB then { r with sentB := r.sentB ++ [f] } else { r with sentA := r.sentA ++ [f] }

/-- RING_FRAME_ARRIVAL: a copy on an in-port, with the delay in nanoseconds of the links before the one that ends at that port; that
link's own delay is the one measured last (R185). -/
def State.ringArrive (s : State) (portB crcOk typeOk : Bool) (f : RingFrame) (delay : Nat) : State :=
  if !s.ring.on then s
  else
    let k := s.cycleNo
    let mark (s : State) : State := s.onRing fun r => if portB then { r with bSeen := true } else { r with aSeen := true }
    if !crcOk ∨ !typeOk ∨ f.cycle ≠ BitVec.ofNat 16 k ∨ 8 ≤ f.pos then s.ringDiscard 1
    else if f.pos = s.ownPos.1 then
      if f = s.ring.own then mark s
      else if s.ring.conflict then (mark s).ringForward portB f
      else (((mark s).onRing fun r => { r with conflict := true }).raise .RING_CONFIG).ringForward portB f
    else if !s.ring.rx then (s.ringForward portB f).ringDiscard 1
    else
      let path := delay + (if portB then s.ring.delayB else s.ring.delayA)
      let first : Bool := match s.ring.pos[f.pos]? with | some p => p.copyA.isNone && p.copyB.isNone | none => false
      let s1 := ((mark s).ringForward portB f).onRing fun r => { r with pos := vmodN r.pos f.pos fun p =>
        if portB then { p with copyB := some f } else { p with copyA := some f } }
      match s.refPos k with
      | some p => if p.1 = f.pos ∧ first then s1.timeError (f.time.toNat + path - s.dev.toNat) else s1
      | none => s1

/-- RING_DELAY_MEASURE (R185). -/
def State.ringDelays (s : State) (a b : Nat) : State :=
  if s.ring.on then s.onRing fun r => { r with delayA := a, delayB := b } else s

/-! ## The deadline: positions, ports, quorum (R183, R196) -/

/-- The lead's own motor object takes a reaction that concerns the group; from PULSE_BLOCK on every local member does, and the group
stops (R196). -/
def State.groupReact (s : State) (ev : Ev) (unit : Nat) (sev : Reaction) : State :=
  let s1 := (List.finRange 4).foldl (fun (s : State) (m : Fin 4) =>
    if s.ring.mbr[m].state ≠ .none_ ∧ (s.leadMo = some m ∨ 4 ≤ sev.rank) then s.reactEv m ev unit sev else s) s
  match s.leadMo with
  | some m => if 4 ≤ sev.rank then (s1.onRing fun r => { r with group := .stopped }).drumOff m else s1
  | none => s1

/-- A position is judged at the deadline. -/
def State.judgePos (s : State) (k : Nat) (p : Fin 8) : State :=
  let x := s.ring.pos[p]
  let two := x.copyA.isSome && x.copyB.isSome && decide (x.copyA ≠ x.copyB)
  let use_ := if two then none else x.copyA.or x.copyB
  let s1 := s.onRing fun r => { r with pos := vmod r.pos p fun y => { y with ause := y.copyA.isSome, buse := y.copyB.isSome } }
  let s2 := if two then s1.ringDiscard 2 else s1
  match use_ with
  | some f =>
    let s3 := s2.onRing fun r => { r with pos := vmod r.pos p fun y => y.note k f }
    if x.miss = 3 then s3.causeGoneAll .RING_MEMBER_LOST p else s3
  | none =>
    let lost := decide (x.miss = 2)
    let s3 := s2.onRing fun r => { r with
      missCnt := bump r.missCnt
      pos := vmod r.pos p fun y => { y with miss := min 3 (y.miss + 1), visible := y.recent.any fun z => decide (k ≤ z.1 + 2) } }
    if lost then
      let s4 := s3.raise .RING_MEMBER_LOST p
      if s.isLead then s4.groupReact .RING_MEMBER_LOST p (s.rc Fld.RING_LOSSREACT 0) else s4
    else s3

/-- ADEG and BDEG (R183). -/
def State.portStep (s : State) : State :=
  let r := s.ring
  let bad (seen : Bool) (n : Nat) : Nat := if seen then 0 else min 3 (n + 1)
  let good (seen : Bool) (n : Nat) : Nat := if seen then min 100 (n + 1) else 0
  let aB := bad r.aSeen r.adegN
  let bB := bad r.bSeen r.bdegN
  let aG := good r.aSeen r.agoodN
  let bG := good r.bSeen r.bgoodN
  let aD := if aB = 3 then true else if aG = 100 then false else r.adeg
  let bD := if bB = 3 then true else if bG = 100 then false else r.bdeg
  ((s.onRing fun r => { r with
    adegN := aB, bdegN := bB, agoodN := aG, bgoodN := bG, adeg := aD, bdeg := bD }).raiseIf (aD && !r.adeg) .RING_DEGRADED).raiseIf
    (bD && !r.bdeg) .RING_DEGRADED 0xFF 1

/-- Quorum (R196): a loss takes effect at the next boundary. -/
def State.quorumStep (s : State) (k : Nat) : State :=
  let v := (s.positions.filter fun p => s.sees p k).length
  let nmod := s.n Fld.RING_NMOD 0
  let ok := decide (nmod < 2 * v) || (decide (2 * v = nmod) && s.sees 0 k)
  s.onRing fun r =>
    if ok then { r with quorum := true, quorumN := min 100 (r.quorumN + 1), loseQuorum := false }
    else { r with quorumN := 0, loseQuorum := true }

/-! ## The lead (R198) -/

/-- The lowest visible position whose frame of this cycle says that it leads. -/
def State.claimant (s : State) (k : Nat) : Option (Fin 8) :=
  s.positions.find? fun p => match s.frameAt p k with | some f => f.lead | none => false

/-- The lead in force is lost: missed for three cycles, or it no longer leads. -/
def State.leadLost (s : State) (k : Nat) : Bool :=
  match s.ring.leadPos with
  | none => true
  | some p =>
    if p = s.ownPos.1 then false
    else (vat s.ring.pos .reset p).miss == 3 ||
      (match s.ring.pos[p]?.bind (fun x => x.recent.find? fun y => y.1 == k) with | some (_, f) => !f.lead | none => false)

/-- The choice of a lead at a deadline (R198): a position that already leads is followed; else a module with LEADOK takes the
lead; else there is none (log 72). -/
def State.leadStep (s : State) (k : Nat) : State :=
  let own := s.ownPos
  if !s.ring.quorum ∨ s.ring.loseQuorum then s
  else match s.claimant k with
    | some p =>
      if s.ring.leadPos = some p.1 then s
      else if s.leadLost k ∨ (s.isLead ∧ p.1 < own.1) then s.onRing fun r => { r with nextLead := some (some p) } else s
    | none =>
      if !s.leadLost k then s
      else if s.yes Fld.RING_LEADOK 0 then s.onRing fun r => { r with nextLead := some (some own) }
      else if s.ring.leadPos.isSome then s.onRing fun r => { r with nextLead := some none }
      else if s.ring.noLead then s
      else
        let s1 := (s.onRing fun r => { r with noLead := true }).raise .RING_NOLEAD
        (List.finRange 4).foldl (fun (s : State) (m : Fin 4) =>
          if s.ring.mbr[m].state ≠ .none_ then s.reactEv m .RING_NOLEAD 0xFF (s.rc Fld.RING_NOLEADREACT 0) else s) s1

/-- The lead's frame of this cycle: from the wire, or this module's own. -/
def State.leadFrameAt (s : State) (k : Nat) : Option RingFrame :=
  match s.ring.leadPos with
  | some p => if h : p < 8 then s.frameAt ⟨p, h⟩ k else none
  | none => none

/-! ## The conservation law (R191, R192) -/

/-- A position had a member in the allocation in force. -/
def Alloc.has (a : Alloc) (p : Fin 8) : Bool := (List.finRange 4).any fun m => a.elig[keyOf p m]

/-- A frame agrees with the allocation in force: DINF, and HELD + REL of every entry. -/
def Alloc.agrees (a : Alloc) (p : Fin 8) (f : RingFrame) : Bool :=
  f.dinf == a.dinf && (List.finRange 4).all fun m => f.mbr[m].held + f.mbr[m].rel == a.share[keyOf p m]

/-- The outcome of the check in a cycle: none where a frame is missing. -/
def State.lawHolds (s : State) (k : Nat) : Option Bool :=
  let a := s.ring.alloc
  let l := s.positions.filter fun p => a.has p
  if l.all fun p => (s.frameAt p k).isSome then
    some (l.all fun p => match s.frameAt p k with | some f => a.agrees p f | none => true)
  else none

/-- A check that passes. -/
def State.lawPasses (s : State) : State :=
  let was := s.ring.frozen
  let s1 := s.onRing fun r => { r with frozen := false, consFail := 0 }
  if was then s1.causeGoneAll .RING_CONSERVATION 0xFF else s1

/-! ## The allocation (R188, R189, R199) -/

/-- The frame from which a position takes part in the allocation of cycle k. -/
def State.eligFrame (s : State) (p : Fin 8) (k : Nat) : Option RingFrame :=
  (s.ring.pos[p].recent.find? fun x => decide (x.1 + 2 ≤ k) && decide (k ≤ x.1 + 4)).map Prod.snd

/-- The claims of the eligible members on a demand. -/
def State.claims (s : State) (k : Nat) (pos : Bool) : List Claim :=
  s.positions.flatMap fun p => match s.eligFrame p k with
    | some f => (List.finRange 4).filterMap fun m =>
        let e := f.mbr[m]
        if e.mstate = .share ∨ e.mstate = .draining then some ⟨keyOf p m, if pos then e.cpos else e.cneg, e.weight⟩ else none
    | none => []

/-- The claims of the choppers on the braking demand. -/
def State.brakeClaims (s : State) (k : Nat) : List Claim :=
  s.positions.flatMap fun p => match s.eligFrame p k with
    | some f => (List.finRange 4).map fun c => ⟨keyOf p c, f.chcap[c], 1⟩
    | none => []

/-- The allocation of a demand in cycle k. -/
def State.allocation (s : State) (k : Nat) (d : Int) (br : Nat) : Alloc :=
  let cl := s.claims k (decide (0 ≤ d))
  let (m, out) := allocate d.natAbs cl
  let sg : Int := if 0 ≤ d then 1 else -1
  let bs := (allocate br (s.brakeClaims k)).2
  { dinf := sg * m
    share := vgen 32 fun i => sg * shareOf out i
    elig := vgen 32 fun i => cl.any fun c => c.key == i.1
    capped := vgen 32 fun i => cl.any fun c => c.key == i.1 && shareOf out i == c.cap
    brShare := vgen 32 fun i => shareOf bs i }

/-- The state that a member last showed. -/
def State.lastState (s : State) (i : Fin 32) : MemberState :=
  match s.ring.pos[i.1 / 4]?.bind (fun p => p.recent.head?) with
  | some (_, f) => (vat f.mbr .reset (i.1 % 4)).mstate
  | none => .none_

/-- A member left the group with it: its stop is complete (R194, log 71). -/
def State.stoppedWith (s : State) (i : Fin 32) : Bool := s.ring.group == .stopped && s.lastState i == .idle

/-- Members that leave eligibility other than by a drain, on the lead (R196); one that is eligible again ends its cause. -/
def State.leavers (s : State) (old new : Alloc) : State :=
  if !s.isLead then s
  else (List.finRange 32).foldl (fun (s : State) (i : Fin 32) =>
    if old.elig[i] && !new.elig[i] && s.lastState i != .drained && s.lastState i != .service && !s.stoppedWith i then
      (s.raise .RING_MEMBER_OUT i).groupReact .RING_MEMBER_OUT i (s.rc Fld.RING_LOSSREACT 0)
    else if !old.elig[i] && new.elig[i] then s.causeGoneAll .RING_MEMBER_OUT i
    else s) s

/-- The demand of the cycle is allocated, for the next boundary. -/
def State.allocStep (s : State) (k : Nat) : State :=
  if s.ring.frozen then s.onRing fun r => { r with nextAlloc := none }
  else
    let (d, br) := match s.leadFrameAt k with
      | some f => (f.demand, f.brdem)
      | none => (s.ring.demand, s.ring.brdem)
    let a := s.allocation k d br
    let sum (pos : Bool) : Nat := ((s.claims k pos).map Claim.cap).sum
    let cut := decide (a.dinf ≠ d)
    let s1 := (s.onRing fun r => { r with
      nextAlloc := some a, sumPos := sum true, sumNeg := sum false, demand := d, brdem := br, cut := cut }).raiseIf (cut && !s.ring.cut)
        .RING_CAP
    s1.leavers s.ring.alloc a

/-- RING_ARRIVAL_DEADLINE (R183, R189, R192, R196, R198). -/
def State.ringDeadline (s : State) : State :=
  if !s.ring.on then s
  else
    let k := s.cycleNo
    let s1 := (s.positions.filter fun p => p != s.ownPos).foldl (fun s p => s.judgePos k p) (s.onRing fun r => { r with rx := false })
    let s2 := ((s1.portStep).quorumStep k).leadStep k
    let s3 := match s2.leadFrameAt k with
      | some f => if s2.isLead then s2 else s2.onRing fun r => { r with group := f.group }
      | none => s2
    let s4 := match s3.lawHolds k with
      | some true => s3.lawPasses
      | some false => s3.lawFails
      | none => s3
    s4.allocStep k

/-! ## The boundary (R190, R194, R196, R198) -/

/-- Quorum is lost: every local member is ISOLATED and in PULSE_BLOCK. -/
def State.isolate (s : State) : State :=
  let s1 := (s.onRing fun r => { r with
    quorum := false, loseQuorum := false, leadPos := none, nextLead := none
    mbr := r.mbr.map fun x => if x.state = .none_ then x else
      { x with state := .isolated, dhold := false, ramp := false, cpos := 0, cneg := 0, factor := 0 } }).raise .RING_ISOLATED
  (List.finRange 4).foldl (fun (s : State) (m : Fin 4) =>
    if s.ring.mbr[m].state ≠ .none_ then s.reactEv m .RING_ISOLATED 0xFF .pulseBlock else s) s1

/-- This module takes the lead over from the last lead's frame (R198). -/
def State.takeLead (s : State) (old : Option Nat) : State :=
  match old.bind (fun p => s.ring.pos[p]?.bind fun x => x.recent.head?), s.leadMo with
  | some (_, f), some m =>
    let s1 := (s.onRing fun r => { r with group := f.group }).raise .RING_LEADCHANGE
    let s2 := s1.onOuter m fun o => { o with mode := OlMode.ofCode f.mode, tPrev := f.tprev, modePend := none, law := 0 }
    let s3 := if f.nwound = 0 then s2 else s2.spoolTo m (f.nwound / 4294967296)
    let st : BrakeState := match f.brkSt with
      | 0 => .closed | 1 => .proving | 2 => .opening | 3 => .open_ | 4 => .closing | 5 => .slipTest | _ => .holdFault
    s3.onBrake m fun b => { b with state := st, release := decide (2 ≤ f.brkSt ∧ f.brkSt ≤ 3), since := s.up }
  | _, _ => s

/-- A change of the lead takes effect. -/
def State.leadTakes (s : State) : State :=
  match s.ring.nextLead with
  | none => s
  | some l =>
    let old := s.ring.leadPos
    let s1 := s.onRing fun r => { r with leadPos := l, nextLead := none, noLead := r.noLead && l.isNone }
    let s2 := if l.isSome ∧ s.ring.noLead then s1.causeGoneAll .RING_NOLEAD 0xFF else s1
    if l = some s.ownPos.1 then s2.takeLead old else s2

/-- A member of the group follows its start machine and its share at a boundary (R194, R195). -/
def State.memberStep (s : State) (m : Fin 4) : State :=
  let x := s.ring.mbr[m]
  match x.state with
  | .joining =>
    match s.start[m].state with
    | .run =>
      let t := s.onMbr m fun y => { y with
        state := .share, ramp := !y.fullAtOnce, factor := if y.fullAtOnce then 1 else 0, rampAt := s.up }
      if s.followsLead m ∧ s.reacts[m].any (fun r => r.sev == .rampStop || r.sev == .quickStop) then t.drainMember m else t
    | .failed => s.onMbr m fun y => { y with state := .out, outCause := .failed }
    | _ => if s.ring.group = .stopped then s.stopDone m else s
  | .share => if s.ring.group = .stopped then s.stopDone m else s
  | .draining =>
    if x.cpos = 0 ∧ x.cneg = 0 ∧ s.ring.alloc.share[s.ownKey m] = 0 then
      let s1 := ((s.gatesIdle m).onStart m fun y => { y with state := .idle, since := s.up }).onMbr m fun y =>
        { y with state := .drained, dhold := false, ramp := false, factor := 0 }
      let s2 := (s.bridges m).foldl (fun s n => s.onBr n fun b => { b with passed := false }) s1
      let stop := s.reacts[m].any fun r => r.sev == .rampStop || r.sev == .quickStop
      (if stop then s2.onEm m fun e => { e with mode := .cat1, stopBy := .reaction, stopped := true } else s2).raise .RING_DRAINED m
    else s
  | _ => s

/-- A share that a render has written is ahead of the one now held (R190). -/
def State.writtenAhead (s : State) (m : Fin 4) : Bool := match s.ring.mbr[m].owed with | some j => decide (s.cycleNo < j) | none => false

/-- The new share of a member is held and written; what a render has written ahead of it stays. -/
def State.holdShare (s : State) (m : Fin 4) : State :=
  if s.ring.mbr[m].state = .none_ then s
  else
    let s1 := s.declare m
    if s1.writtenAhead m then s1
    else
      let s2 := s1.onMbr m fun x => { x with owed := none }
      if s2.ring.mbr[m].state.carries then
        (if s2.leadMo = some m then s2.latMove m .latched .posted else s2).postShare m s2.ring.mbr[m].held
      else s2.onMbr m fun x => { x with written := 0 }

/-- The new shares are held and written (R190 steps 4 and 5, R199). -/
def State.holdShares (s : State) : State :=
  forFin 4 (fun m s => s.holdShare m)
    { s with chop := vgen 4 fun c => { s.chop[c] with share := s.ring.alloc.brShare[keyOf s.ownPos c] } }

/-- QUORUM_RESTORED: quorum has held for 100 cycles in a row. -/
def State.quorumBack (s : State) : State :=
  if s.ring.on ∧ s.ring.quorum ∧ !s.ring.loseQuorum ∧ 100 ≤ s.ring.quorumN then
    (s.onRing fun r => { r with mbr := r.mbr.map fun x => if x.state = .isolated then { x with state := .idle } else x }).causeGoneAll
      .RING_ISOLATED 0xFF
  else s

/-- RING_CYCLE_BOUNDARY: B_k. -/
def State.ringBoundary (s : State) : State :=
  if !s.ring.on then s
  else
    let s1 := s.onRing fun r => { r with
      k := s.cycleNo, rx := true, aSeen := false, bSeen := false, alloc := r.nextAlloc.getD r.alloc, nextAlloc := none
      sentA := [], sentB := []
      pos := r.pos.map fun p => { p with copyA := none, copyB := none } }
    let s2 := if s1.ring.loseQuorum ∧ s1.ring.quorum then s1.isolate else s1.leadTakes
    let s3 := if s2.refPos s2.cycleNo = some s2.ownPos then s2.timeError 0 else s2
    (forFin 4 (fun m s => s.memberStep m) s3.quorumBack).holdShares

/-! ## Members by command (R194, R197) -/

/-- RING_DRAIN_COMMAND. -/
def State.drainCmd (s : State) (m : Fin 4) : State :=
  if s.ring.mbr[m].state = .share then s.drainMember m else s.raise .RING_REFUSED m

/-- RING_JOIN_COMMAND. A module whose identity or carrier differs from the group's does not join (R186). -/
def State.joinCmd (s : State) (m : Fin 4) : State :=
  match s.ring.mbr[m].state with
  | .draining => s.onMbr m fun x => { x with state := .share, ramp := true, rampAt := s.up, dhold := false, holdAt := none }
  | .drained | .service =>
    if (s.bridges m).all (fun n => s.br[n].passed) ∧ s.ring.tlock ∧ s.startRefusal m = 0 ∧ s.gatesReady m ∧ s.start[m].state = .idle
        ∧ !s.ring.conflict then
      if !s.cfgAgrees ∨ !s.carrierOk m then s.raise .RING_CONFIG m else s.startMember m
    else s.raise .RING_REFUSED m
  | _ => s.raise .RING_REFUSED m

/-- RING_SERVICE_COMMAND. -/
def State.serviceCmd (s : State) (m : Fin 4) : State :=
  if s.ring.mbr[m].state = .drained then s.onMbr m fun x => { x with state := .service } else s.raise .RING_REFUSED m

/-! ## Counters -/

/-- RING_COUNTERS_CLEAR: `RINGCTL.CNTCLR`. -/
def State.ringClear (s : State) : State :=
  s.onRing fun r => { r with missCnt := .zero, crcCnt := .zero, consCnt := .zero, crcSeen := false }

/-! ## Commands -/

def execRingLatch (s : State) : Host.Outcome State Fault Refusal := .next s.ringLatch
def execRingFrameArrival (portB crcOk typeOk : Bool) (f : RingFrame) (delay : Nat) (s : State) :
    Host.Outcome State Fault Refusal := .next (s.ringArrive portB crcOk typeOk f delay)
def execRingArrivalDeadline (s : State) : Host.Outcome State Fault Refusal := .next s.ringDeadline
def execRingCycleBoundary (s : State) : Host.Outcome State Fault Refusal := .next s.ringBoundary
def execQuorumRestored (s : State) : Host.Outcome State Fault Refusal := .next s.quorumBack
def execRingDelayMeasure (a b : Nat) (s : State) : Host.Outcome State Fault Refusal := .next (s.ringDelays a b)
def execRingMemberJoin (m : Fin 4) (s : State) : Host.Outcome State Fault Refusal := .next (s.memberJoin m)
def execRingDrainCommand (m : Fin 4) (s : State) : Host.Outcome State Fault Refusal := .next (s.drainCmd m)
def execRingJoinCommand (m : Fin 4) (s : State) : Host.Outcome State Fault Refusal := .next (s.joinCmd m)
def execRingServiceCommand (m : Fin 4) (s : State) : Host.Outcome State Fault Refusal := .next (s.serviceCmd m)
/-- RING_COUNTERS_CLEAR: see `State.ringClear`. -/
def execRingCountersClear (s : State) : Host.Outcome State Fault Refusal := .next s.ringClear
def execRingJoined (m : Fin 4) (s : State) : Host.Outcome State Fault Refusal := .next (s.ringJoined m)
def execRingDrainRefused (m : Fin 4) (s : State) : Host.Outcome State Fault Refusal := .next (s.drainRefused m)
/-- JASPER_AUDIT_ROUND (R293): see `State.jasper`. -/
def execJasperAuditRound (upset : Option FlowUpset) (s : State) : Host.Outcome State Fault Refusal := .next (s.jasper upset)

end Sys2Proof.Machine
end

