-- ==== Sys2Proof/Machine/Garnet.lean ====
section
/-! DEFINITION. Garnet (chapter 11): inputs and test pulses (R253 to R255), outputs (R256, R257), the safe functions (R258 to
R262), the brakes (R263 to R265), safely limited tension (R266), safe frames (R269, R270) and the password (R272). -/

namespace Sys2Proof.Machine

/-! ## Inputs (R253 to R255) -/

def State.onSi (s : State) (i : Fin 24) (f : SafeIn → SafeIn) : State :=
  { s with garnet := { s.garnet with si := vmod s.garnet.si i f } }
def State.onPair (s : State) (k : Fin 12) (f : SafePair → SafePair) : State :=
  { s with garnet := { s.garnet with pair := vmod s.garnet.pair k f } }
def State.onSo (s : State) (j : Fin 8) (f : SafeOut → SafeOut) : State :=
  { s with garnet := { s.garnet with so := vmod s.garnet.so j f } }
def State.onConn (s : State) (c : Fin 4) (f : SafeConn → SafeConn) : State :=
  { s with garnet := { s.garnet with conn := vmod s.garnet.conn c f } }

/-- The test-pulse source of an input, by its code (0 for NONE). -/
def State.tpOf (s : State) (i : Nat) : Nat := s.n Fld.SAFETY_SI_TP 0 i

/-- A pair is configured: its channels name two different sources (R255). -/
def State.pairConf (s : State) (k : Nat) : Bool :=
  s.tpOf (2 * k) != 0 && s.tpOf (2 * k + 1) != 0 && s.tpOf (2 * k) != s.tpOf (2 * k + 1)

/-- An input counts as demanding whatever its level (R253, R254). -/
def State.inputFaulted (s : State) (i : Nat) : Bool :=
  let x := vat s.garnet.si .reset i
  x.miss || x.cross || (s.tpOf i != 0 && (vat s.garnet.tp .reset (s.tpOf i - 1)).fault)

/-- A channel of a pair shows its demand level at the last sample (R255). -/
def State.chanShows (s : State) (k : Nat) (b : Bool) : Bool :=
  let low := !(vat s.garnet.si .reset (2 * k + (if b then 1 else 0))).level
  if b && s.n Fld.SAFETY_SIP_TYPE 0 k == 1 then !low else low

/-- A channel of a pair shows its demand level, or counts as demanding (R254, R255). -/
def State.chanDemand (s : State) (k : Nat) (b : Bool) : Bool :=
  s.chanShows k b || s.inputFaulted (2 * k + (if b then 1 else 0))

/-- A pair demands for a fault of an input or a discrepancy. -/
def State.pairFaulted (s : State) (k : Nat) : Bool :=
  (vat s.garnet.pair .reset k).disc || s.inputFaulted (2 * k) || s.inputFaulted (2 * k + 1)

/-- A pair demands (`SIPSTAT[k].DEMAND`). -/
def State.pairDemands (s : State) (k : Nat) : Bool := (vat s.garnet.pair .reset k).demand || s.pairFaulted k

/-- What a sample of both channels does to a pair: a discrepancy ends once both have shown demand together and then healthy
together, and a demand ends with both healthy (R255). -/
def State.pairSample (s : State) (k : Fin 12) : State :=
  let a := s.chanDemand k false
  let b := s.chanDemand k true
  s.onPair k fun p =>
    let seen := p.discDem || (p.disc && a && b)
    if !a && !b && (!p.disc || seen) then { p with disc := false, discDem := false, demand := false }
    else { p with discDem := seen }

/-- INPUT_PAIR_DEMAND (R255): a channel has shown its demand level for FILT. -/
def State.inputDemand (s : State) (k : Fin 12) : State :=
  if s.garnet.run then s.onPair k fun p => { p with demand := true } else s

/-- INPUT_PAIR_DISCREPANCY (R255): DISC has passed with the channels in a combination other than healthy or demand. -/
def State.inputDisc (s : State) (k : Fin 12) : State :=
  if s.garnet.run ∧ !s.garnet.pair[k].disc ∧ s.chanShows k false ≠ s.chanShows k true then
    (s.onPair k fun p => { p with disc := true, discDem := false, demand := true }).raise .SI_DISC k
  else s

/-- A test-pulse source after a frame (R253). -/
def tpFrame (x : TestPulse) (bad : Bool) : TestPulse :=
  if bad then { fault := x.fault || decide (2 ≤ x.badN + 1), badN := x.badN + 1, goodN := 0 }
  else { fault := x.fault && decide (x.goodN + 1 < 2), badN := 0, goodN := x.goodN + 1 }

/-- An input after a frame (R254): no low in its own window, or a low of a foreign source. -/
def siFrame (x : SafeIn) (own : Bool) (foreign : Bool) : SafeIn :=
  let mn := if own then 0 else x.missN + 1
  let cn := if foreign then x.crossN + 1 else 0
  { x with
    missN := mn, crossN := cn, miss := x.miss || decide (2 ≤ mn), cross := x.cross || decide (2 ≤ cn)
    goodN := if own && !foreign then x.goodN + 1 else 0 }

/-- TEST_PULSE_FRAME (R253, R254). An input without a source is not judged. -/
def State.testFrame (s : State) (tpBad : BitVec 8) (own : Vector Bool 24) (foreign : Vector (Option (Fin 8)) 24) : State :=
  if !s.garnet.run then s
  else
    let s1 := forFin 8 (fun t (s : State) =>
      let o := s.garnet.tp[t]
      let n := tpFrame o (tpBad.getLsbD t)
      { s with garnet := { s.garnet with tp := vmod s.garnet.tp t fun _ => n } }.raiseIf (n.fault && !o.fault) .TP_FAULT t) s
    forFin 24 (fun i (s : State) =>
      if s.tpOf i = 0 then s
      else
        let o := s.garnet.si[i]
        let n := siFrame o own[i] foreign[i].isSome
        let t := match foreign[i] with | some t => t.1 | none => 0
        ((s.onSi i fun _ => n).raiseIf (n.miss && !o.miss) .SI_TPMISS i).raiseIf (n.cross && !o.cross) .SI_CROSS i 0
          (bytesLE 1 (s.tpOf i - 1) ++ bytesLE 1 t)) s1

/-- SAFETY_INPUT_CLEAR (R254): faults clear where the pattern has been healthy for 2 frames. -/
def State.inputClear (s : State) : State :=
  { s with garnet := { s.garnet with
    si := s.garnet.si.map fun x => if 2 ≤ x.goodN then { x with miss := false, cross := false } else x } }

/-! ## Selections and what they end with (R259, R260, R262, R270) -/

/-- A connection is configured and its MOMASK includes the motor object. -/
def State.connOf (s : State) (m : Fin 4) (c : Fin 4) : Bool :=
  s.n Fld.SAFETY_CONN_NET 0 c != 0 && (BitVec.ofNat 4 (s.n Fld.SAFETY_CONN_MOMASK 0 c)).getLsbD m

/-- The connections of a motor object. -/
def State.connsOf (s : State) (m : Fin 4) : List (Fin 4) := (List.finRange 4).filter fun c => s.connOf m c

/-- A source code: NONE, ALWAYS, PAIR0 to PAIR11, FRAME0 to FRAME15. A FRAME source whose connection is not OK, or that has no
connection, counts as selecting (R259). -/
def State.selects (s : State) (m : Fin 4) (code : Nat) : Bool :=
  if code = 0 then false
  else if code = 1 then true
  else if code < 14 then s.pairDemands (code - 2)
  else
    let l := s.connsOf m
    l.isEmpty || l.any fun c => !s.garnet.conn[c].ok || s.garnet.conn[c].cmd.getLsbD (code - 14)

/-- The source of a safe function; SLS is selected through any of its limits. -/
def State.sourceOf (s : State) (m : Fin 4) : SafeFn → Nat
  | .sto => s.n Fld.SAFETY_MO_STOSEL 0 m
  | .ss1 => s.n Fld.SAFETY_MO_SS1SEL 0 m
  | .ss2 => s.n Fld.SAFETY_MO_SS2SEL 0 m
  | .sos => s.n Fld.SAFETY_MO_SOSSEL 0 m
  | .sdi => s.n Fld.SAFETY_MO_SDISEL 0 m
  | .slp => s.n Fld.SAFETY_MO_SLPSEL 0 m
  | _ => 0

/-- The SLS limits that are selected, as a mask. -/
def State.slsMask (s : State) (m : Fin 4) : Nat :=
  (List.range 4).foldl (fun w j => w + (if s.selects m (s.n Fld.SAFETY_MO_SLSSEL 0 m j) then 2 ^ j else 0)) 0

/-- A safe function is selected. -/
def State.fnSel (s : State) (m : Fin 4) (f : SafeFn) : Bool :=
  match f with
  | .sls => s.slsMask m != 0
  | .slt => s.n Fld.SAFETY_MO_SLTF 0 m != 0
  | f => s.selects m (s.sourceOf m f)

/-- The sources that a function may be selected by. -/
def State.fnSources (s : State) (m : Fin 4) (f : SafeFn) : List Nat :=
  match f with
  | .sls => (List.range 4).map fun j => s.n Fld.SAFETY_MO_SLSSEL 0 m j
  | f => [s.sourceOf m f]

/-- A source asks for an acknowledgement: a pair by its RESTART, FRAME bits by the RESTART of any connection of the motor
object; NONE and ALWAYS carry no restart setting, so the acknowledgement is always needed (R260, R262). -/
def State.manualSrc (s : State) (m : Fin 4) (code : Nat) : Bool :=
  if code < 2 then true
  else if code < 14 then s.n Fld.SAFETY_SIP_RESTART 0 (code - 2) == 1
  else (s.connsOf m).any (fun c => s.n Fld.SAFETY_CONN_RESTART 0 c == 1) || (s.connsOf m).isEmpty

/-- A function asks for an acknowledgement by any source that selects it, and always where none does. -/
def State.manualFn (s : State) (m : Fin 4) (f : SafeFn) : Bool :=
  let l := (s.fnSources m f).filter fun c => c != 0
  l.isEmpty || l.any fun c => s.manualSrc m c

/-- An entry of what an STO waits for asks for an acknowledgement. -/
def State.manualHold (s : State) (m : Fin 4) : StoHold → Bool
  | .sel f => s.manualFn m f
  | .viol f => s.manualFn m f
  | .conn c => s.n Fld.SAFETY_CONN_RESTART 0 c == 1
  | _ => true

/-- The two speeds differ beyond SPDTOL, or a channel has lost its signal (R258). -/
def State.speedsDiffer (s : State) (m : Fin 4) : Bool :=
  let x := s.garnet.mo[m]
  !x.sigOk || (s.n Fld.SAFETY_MO_POSA 0 m != 0 && s.n Fld.SAFETY_MO_POSB 0 m != 0 &&
    decide (s.q Fld.SAFETY_MO_SPDTOL 0 m / 100 * s.q Fld.MOTOR_NRATED m < absQ (x.wA - x.wB)))

/-- The two tensions differ beyond TENSTOL (R266). -/
def State.tensionsDiffer (s : State) (m : Fin 4) : Bool :=
  let x := s.garnet.mo[m]
  s.n Fld.SAFETY_MO_TENSB 0 m != 0 &&
    decide (s.q Fld.SAFETY_MO_TENSTOL 0 m / 100 * s.q Fld.SAFETY_MO_SLTF 0 m < absQ (x.tens - x.tensB))

/-- The stage-2 level of safely limited tension. -/
def State.sltLevel2 (s : State) (m : Fin 4) : Rat :=
  s.q Fld.SAFETY_MO_SLTF 0 m * (1 + s.q Fld.SAFETY_MO_SLTTOL 0 m / 100)

/-- The output pairs that a motor object names as brakes or as its STOSUP, as field codes that are not NONE. -/
def State.brakePairs (s : State) (m : Fin 4) : List Nat :=
  [s.n Fld.MOTOR_BRAKE0 m, s.n Fld.MOTOR_BRAKE1 m].filter fun c => c != 0

/-- An output pair by its field code. -/
def State.soOf (s : State) (code : Nat) : SafeOut := vat s.garnet.so .reset (code - 1)

/-- A pair has a fault. -/
def SafeOut.faulted (o : SafeOut) : Bool := o.hsFlt || o.lsFlt

/-- A faulted BRAKE or STOSUP pair that the motor object names (R257). -/
def State.outputBad (s : State) (m : Fin 4) : Bool :=
  (s.brakePairs m).any (fun c => (s.soOf c).faulted) ||
    (s.n Fld.SAFETY_MO_STOSO 0 m != 0 && (s.soOf (s.n Fld.SAFETY_MO_STOSO 0 m)).faulted)

/-! ## Unarmed functions (R255, R257, R275) -/

/-- A safety field of those named has been clamped. -/
def State.clamped (s : State) (fs : List Field) (i : Nat) : Bool :=
  fs.any fun f => (List.range (max 1 f.n2)).any fun j => s.unarmedF.contains (fieldKey f 0 i j)

/-- The fields that the motion functions share. -/
def motionFields : List Field :=
  [Fld.SAFETY_MO_POSA, Fld.SAFETY_MO_POSB, Fld.SAFETY_MO_RATIOA, Fld.SAFETY_MO_RATIOB, Fld.SAFETY_MO_SPDTOL,
   Fld.SAFETY_MO_POSDISC, Fld.SAFETY_MO_SPDFILT, Fld.SAFETY_MO_SSTOP, Fld.SAFETY_MO_VIOLREACT]

/-- The fields of an SS1. -/
def ss1Fields : List Field :=
  [Fld.SAFETY_MO_SS1MODE, Fld.SAFETY_MO_SS1REQ, Fld.SAFETY_MO_SS1T, Fld.SAFETY_MO_SS1DEC, Fld.SAFETY_MO_SS1TOL]

/-- The fields of a function beside those of R258. -/
def fnFields : SafeFn → List Field
  | .sto => [Fld.SAFETY_MO_STOSEL, Fld.SAFETY_MO_STOSO]
  | .ss1 => Fld.SAFETY_MO_SS1SEL :: ss1Fields
  | .ss2 => Fld.SAFETY_MO_SS2SEL :: Fld.SAFETY_MO_SOSWIN :: ss1Fields
  | .sos => [Fld.SAFETY_MO_SOSSEL, Fld.SAFETY_MO_SOSWIN]
  | .sdi => [Fld.SAFETY_MO_SDISEL, Fld.SAFETY_MO_SDIDIR, Fld.SAFETY_MO_SDITOL]
  | .slp => [Fld.SAFETY_MO_SLPSEL, Fld.SAFETY_MO_SLPMIN, Fld.SAFETY_MO_SLPMAX, Fld.SAFETY_MO_SLPDEC]
  | .sls => [Fld.SAFETY_MO_SLSSEL, Fld.SAFETY_MO_SLS, Fld.SAFETY_MO_SLSRAMPT, Fld.SAFETY_MO_SS1TOL]
  | .slt => [Fld.SAFETY_MO_SLTF, Fld.SAFETY_MO_SLTTOL, Fld.SAFETY_MO_SLTDLY, Fld.SAFETY_MO_SLTTQ, Fld.SAFETY_MO_TENSA,
      Fld.SAFETY_MO_TENSB, Fld.SAFETY_MO_TAGAIN, Fld.SAFETY_MO_TBGAIN, Fld.SAFETY_MO_TAOFS, Fld.SAFETY_MO_TBOFS,
      Fld.SAFETY_MO_TENSTOL, Fld.SAFETY_MO_POSDISC]
  | .sbc => [Fld.SAFETY_MO_PROVEI, Fld.SAFETY_MO_EQRHOLD, Fld.SAFETY_MO_EQRSEL, Fld.SAFETY_MO_EQRSLS, Fld.SAFETY_MO_EQRTMAX]
  | .conn => []

/-- A source cannot arm the function: its pair is not configured, or a field of the pair or of its connections is clamped. -/
def State.sourceBad (s : State) (m : Fin 4) (code : Nat) : Bool :=
  if code < 2 then false
  else if code < 14 then
    let k := code - 2
    !s.pairConf k || s.clamped [Fld.SAFETY_SIP_TYPE, Fld.SAFETY_SIP_FILT, Fld.SAFETY_SIP_DISC, Fld.SAFETY_SIP_RESTART] k
      || s.clamped [Fld.SAFETY_SI_TP] (2 * k) || s.clamped [Fld.SAFETY_SI_TP] (2 * k + 1)
  else (s.connsOf m).any fun c =>
    s.clamped [Fld.SAFETY_CONN_NET, Fld.SAFETY_CONN_PORTA, Fld.SAFETY_CONN_PORTB, Fld.SAFETY_CONN_CONNID, Fld.SAFETY_CONN_ETYPE,
      Fld.SAFETY_CONN_CANID, Fld.SAFETY_CONN_MOMASK, Fld.SAFETY_CONN_REACT, Fld.SAFETY_CONN_RESTART] c

/-- A motion function, which needs POSA (R275); an SS1 by time alone does not. -/
def State.isMotion (s : State) (m : Fin 4) : SafeFn → Bool
  | .ss1 => s.n Fld.SAFETY_MO_SS1MODE 0 m == 1
  | .ss2 | .sos | .sdi | .slp | .sls => true
  | _ => false

/-- POSA is an absolute sensor: SSI with at least one multi-turn bit (R260). -/
def State.posAbs (s : State) (m : Fin 4) : Bool :=
  let k := s.n Fld.SAFETY_MO_POSA 0 m
  k != 0 && s.n Fld.PI_MODE (8 + (k - 1)) == 4 && decide (1 ≤ s.n Fld.PI_SSITURN (8 + (k - 1)))

/-- A pair is named by a code and has another role (R257). -/
def State.roleBad (s : State) (code role : Nat) : Bool :=
  code != 0 && (s.n Fld.SAFETY_SO_ROLE 0 (code - 1) != role || s.clamped [Fld.SAFETY_SO_ROLE, Fld.SAFETY_SO_PULSE] (code - 1))

/-- A function is configured at all. -/
def State.fnAsked (s : State) (m : Fin 4) (f : SafeFn) : Bool :=
  match f with
  | .slt => s.n Fld.SAFETY_MO_SLTF 0 m != 0
  | .sbc => !(s.brakePairs m).isEmpty || (s.bridges m).any fun n =>
      s.n Fld.BRIDGE_DCOPEN (s.recOf n) != 0 || s.n Fld.BRIDGE_ISOOUT (s.recOf n) != 0
  | .conn => !(s.connsOf m).isEmpty
  | f => (s.fnSources m f).any fun c => c != 0

/-- A configured function that is unarmed (R275). -/
def State.fnUnarmed (s : State) (m : Fin 4) (f : SafeFn) : Bool :=
  s.fnAsked m f && (s.clamped (fnFields f) m || (s.fnSources m f).any (fun c => s.sourceBad m c)
    || (s.isMotion m f && (s.n Fld.SAFETY_MO_POSA 0 m == 0 || s.clamped motionFields m))
    || (match f with
      | .slp => !s.posAbs m
      | .slt => s.n Fld.SAFETY_MO_TENSA 0 m == 0
      | .sto => s.roleBad (s.n Fld.SAFETY_MO_STOSO 0 m) 2
      | .sbc => (s.yes Fld.SAFETY_MO_EQRHOLD 0 m && s.n Fld.SAFETY_MO_EQRSEL 0 m != 0 && s.sourceBad m (s.n Fld.SAFETY_MO_EQRSEL 0 m + 1))
          || (s.brakePairs m).any (fun c => s.roleBad c 1) || (s.bridges m).any fun n =>
          s.roleBad (s.n Fld.BRIDGE_DCOPEN (s.recOf n)) 3 || s.roleBad (s.n Fld.BRIDGE_ISOOUT (s.recOf n)) 3
      | .conn => (s.connsOf m).any fun c => s.sourceBad m 14 || s.clamped [Fld.SAFETY_CONN_NET] c
      | _ => false))

/-- Every function of R260 to R270. -/
def allFns : List SafeFn := [.sto, .ss1, .ss2, .sos, .sdi, .slp, .sls, .slt, .sbc, .conn]

/-- The number of a function in AUX of SF_VIOLATION and SF_UNARMED (log 74). -/
def SafeFn.code : SafeFn → Nat
  | .sto => 0 | .ss1 => 1 | .ss2 => 2 | .sos => 3 | .sdi => 4 | .slp => 5 | .sls => 6 | .slt => 7 | .sbc => 8 | .conn => 9

/-! ## Outputs (R256, R257, R263, R265) -/

/-- SBC is armed: the motor object names a pair with ROLE = BRAKE. -/
def State.sbcArmed (s : State) (m : Fin 4) : Bool :=
  (s.brakePairs m).any fun c => s.n Fld.SAFETY_SO_ROLE 0 (c - 1) == 1

/-- The brake pairs of a motor object are energised (R263, R265). -/
def State.brakeLive (s : State) (m : Fin 4) : Bool :=
  let x := s.garnet.mo[m]
  s.sbcArmed m && !s.outputBad m && (x.hold || (!x.holdOver && s.brake[m].release && !x.sto && x.proofOk))

/-- The fast plane requests a pair of ROLE = REQ: a contactor permissive or an isolator hold, from S9 (R213, R231). -/
def State.soRequested (s : State) (j : Nat) : Bool :=
  let l := (List.finRange 8).filter fun n => s.conf n
  let dc := l.filter fun n => s.n Fld.BRIDGE_DCOPEN (s.recOf n) == j + 1
  let iso := l.filter fun n => s.n Fld.BRIDGE_ISOOUT (s.recOf n) == j + 1
  s.rst.stage == 9 && !(dc ++ iso).isEmpty && dc.all (fun n => !s.br[n].dcopen) && iso.all fun n => s.br[n].isoReq

/-- A pair is energised by its role (R257). -/
def State.soWanted (s : State) (j : Fin 8) : Bool :=
  let mos := List.finRange 4
  let mine := match s.n Fld.SAFETY_SO_ROLE 0 j with
    | 1 =>
      let l := mos.filter fun m => (s.brakePairs m).contains (j.1 + 1)
      !l.isEmpty && l.all fun m => s.brakeLive m
    | 2 => mos.all fun m => s.n Fld.SAFETY_MO_STOSO 0 m != j.1 + 1 || !s.garnet.mo[m].sto
    | 3 => s.soRequested j
    | _ => false
  s.garnet.run && !s.garnet.safe && s.rst.stage == 9 && !s.garnet.so[j].faulted && mine

/-- Every pair and brake is switched as its role asks. -/
def State.switchOutputs (s : State) : State :=
  { s with garnet := { s.garnet with
    so := vgen 8 fun j =>
      let o := s.garnet.so[j]
      let w := s.soWanted j
      if w = o.on then o else { o with on := w, chgAt := s.up, hsN := 0, lsN := 0, okAt := none }
    mo := vgen 4 fun m =>
      let x := s.garnet.mo[m]
      let set := !(s.brakeLive m && s.garnet.run && !s.garnet.safe && s.rst.stage == 9)
      { x with brkSet := set, fbDue := x.fbDue || (set && !x.brkSet) } } }

/-- A fault of an output switch: both switches go off (R256). -/
def State.soFault (s : State) (j : Fin 8) (hs : Bool) : State :=
  ((s.onSo j fun o => if hs then { o with hsFlt := true } else { o with lsFlt := true }).raise .SO_FAULT j).switchOutputs

/-- The static check of an output with a sample of its nodes: three mismatches in a row, from 1 ms after a change (R256). -/
def State.soStatic (s : State) (j : Fin 8) (h l : Bool) : State :=
  let o := s.garnet.so[j]
  if s.n Fld.SAFETY_SO_ROLE 0 j = 0 then s.onSo j fun o => { o with sorh := h, sorl := l }
  else
    let late := decide (o.chgAt + ms ≤ s.up)
    let hn := if late && h != o.on then o.hsN + 1 else 0
    let ln := if late && l == o.on then o.lsN + 1 else 0
    let clear := !o.on && !h && l
    let s1 := s.onSo j fun o => { o with
      sorh := h, sorl := l, hsN := hn, lsN := ln
      okAt := if clear then (if o.okAt.isSome then o.okAt else some s.up) else none }
    let s2 := if 3 ≤ hn ∧ !o.hsFlt then s1.soFault j true else s1
    if 3 ≤ ln ∧ !o.lsFlt then s2.soFault j false else s2

/-- SO_OFF_PULSE (R256): the high-side switch in even frames, the low-side switch in odd ones. -/
def State.offPulse (s : State) (j : Fin 8) (ok : Bool) : State :=
  let o := s.garnet.so[j]
  let s1 := s.onSo j fun o => { o with evenN := !o.evenN }
  if s.garnet.run ∧ s.yes Fld.SAFETY_SO_PULSE 0 j ∧ o.on ∧ !ok then s1.soFault j o.evenN else s1

/-- SAFETY_OUTPUT_CLEAR (R256): faults clear after 1 s of consistent off-state readbacks. -/
def State.outputClear (s : State) : State :=
  { s with garnet := { s.garnet with
    so := s.garnet.so.map fun o =>
      let ok := match o.okAt with
        | some t => decide (t + sec ≤ s.up)
        | none => false
      if ok then { o with hsFlt := false, lsFlt := false } else o } }

/-! ## STO (R252, R260 to R262, R265) -/

/-- The unit under which the fast plane holds a stop that Garnet requests of it. -/
def stopUnit (m : Fin 4) : Nat := 16 + m.1

/-- An SS1 or SS2 in progress ends; the cause of the stop that was requested is gone (R261). -/
def State.ssEnd (s : State) (m : Fin 4) : State :=
  if s.garnet.mo[m].ss.isSome then (s.onSmo m fun x => { x with ss := none }).causeGone m .SF_STO (stopUnit m) else s

/-- What an STO waits for is noted. -/
def addHold (l : List StoHold) (h : StoHold) : List StoHold := if l.contains h then l else l ++ [h]

/-- Garnet's disable takes every bridge of a motor object off, whatever the ladder of reactions asks for (R17, R36). -/
def State.disableGates (s : State) (m : Fin 4) : State := (s.bridges m).foldl (fun s n => s.onBr n fun b => { b with gdis := true }) s

/-- STO is entered, or one in force waits for one thing more: gates off, the fast plane told, brakes and STOSUP off (R252,
R260, R265). -/
def State.stoEnter (s : State) (m : Fin 4) (c : StoCause) (h : StoHold) : State :=
  let x := s.garnet.mo[m]
  let s1 := s.onSmo m fun x => { x with holds := addHold x.holds h }
  if x.sto then s1
  else
    let s2 := ((s1.onSmo m fun x => { x with sto := true, cause := c.code }).disableGates m).raise .SF_STO m c.code
    ((s2.ssEnd m).react m ⟨some .SF_STO, m, .pulseBlock, true, true⟩).switchOutputs

/-- What an entry of an STO waits for still holds. -/
def State.holdPresent (s : State) (m : Fin 4) : StoHold → Bool
  | .sel f => s.fnSel m f
  | .viol f =>
    if f = .slt then decide (s.sltLevel2 m < s.garnet.mo[m].tens)
    else if (s.fnSources m f).contains 1 then s.garnet.mo[m].viol.contains f else s.fnSel m f
  | .conn c => !s.garnet.conn[c].ok
  | .output => s.outputBad m
  | .position => s.speedsDiffer m
  | .tension => s.tensionsDiffer m
  | .unarmed => allFns.any fun f => s.fnUnarmed m f
  | .safeState => true
  | .start => false

/-- The STO waits for nothing, or only for its acknowledgement. -/
def State.stoFree (s : State) (m : Fin 4) : Bool :=
  let x := s.garnet.mo[m]
  x.sto && !s.garnet.safe && x.holds.all fun h => !s.holdPresent m h

/-- `SFMSTAT[m].RSTWAIT` (R262). -/
def State.rstWait (s : State) (m : Fin 4) : Bool := s.stoFree m && s.garnet.mo[m].holds.any fun h => s.manualHold m h

/-- Garnet ends the STO, and the PULSE_BLOCK with it (R252). -/
def State.stoEnd (s : State) (m : Fin 4) : State :=
  ((s.onSmo m fun x => { x with sto := false, holds := [], posDisc := false, tensDisc := false }).endReact m .SF_STO m).switchOutputs

/-- An STO that needs no acknowledgement ends at once (R260, R262). -/
def State.stoRelease (s : State) (m : Fin 4) : State :=
  if s.stoFree m ∧ !s.rstWait m then s.stoEnd m else s

/-- SAFETY_ACK (R260, R262, R270): an acknowledgement ends what waits only for it, and is not stored. -/
def State.safetyAck (s : State) (m : Fin 4) : State :=
  if !s.garnet.run ∨ s.rst.stage ≠ 9 then s
  else
    let s1 := match s.garnet.mo[m].ss with
      | some r => (match r.by_ with
        | .conn c => if s.garnet.conn[c].ok then s.ssEnd m else s
        | _ => s)
      | none => s
    if s1.stoFree m then s1.stoEnd m else s1

/-- The cause of a selection: an input fault where the pair demands for one (R260). -/
def State.selCause (s : State) (m : Fin 4) (f : SafeFn) : StoCause :=
  let code := s.sourceOf m f
  if 2 ≤ code ∧ code < 14 ∧ s.pairFaulted (code - 2) then .inputFault else .selection

/-! ## Garnet's safe state (R251) -/

/-- The EQR hold ends and the brakes set (R265); the cause goes into AUX. -/
def State.holdEnd (s : State) (m : Fin 4) (aux : Nat) : State :=
  if s.garnet.mo[m].hold then
    ((s.onSmo m fun x => { x with hold := false, holdOver := true }).raise .SF_EQR_HOLD_END m aux).switchOutputs
  else s

/-- A self-diagnosis fails: every gate channel and every output off, SFAULTn low, until the module is reset (R251). -/
def State.garnetFault (s : State) : State :=
  if s.garnet.safe then s
  else
    let s1 := (s.onGarnet fun g => { g with safe := true, run := false }).raise .SF_GARNET_FAULT
    let s2 := forFin 4 (fun m (s : State) => (s.holdEnd m 4).stoEnter m .garnet .safeState) s1
    s2.switchOutputs

/-! ## Motion (R258 to R261) -/

/-- Cycles of 250 µs in SPDFILT. -/
def State.filtCycles (s : State) (m : Fin 4) : Nat := 4 * s.n Fld.SAFETY_MO_SPDFILT 0 m

/-- The speed in rpm of the motor shaft from the positions of the last cycles: the change over SPDFILT, or over the cycles
seen so far while there are fewer. -/
def State.spdOf (s : State) (m : Fin 4) (hist : List Rat) (ratio : Rat) : Rat :=
  let k := min (s.filtCycles m) (hist.length - 1)
  qdiv ((hist.headD 0 - hist.getD k 0) * ratio * 240000) k

/-- The summed peak current magnitude of the bridges of a motor object, by Garnet's analog port (R264). -/
def State.safeAmps (s : State) (m : Fin 4) : Rat :=
  let one (n : Fin 8) : Rat :=
    let b := s.recOf n
    let i (p : Nat) : Rat := s.q Fld.BRIDGE_IGAIN b * s.codeOf (s.n Fld.BRIDGE_IIN b p) + s.q Fld.BRIDGE_IOFS b
    Config.sqrt (2 / 3 * (i 0 * i 0 + i 1 * i 1 + i 2 * i 2))
  (s.bridges m).foldl (fun a n => a + one n) 0

/-- A cycle's captures of a motor object: positions, speeds and tensions (R258, R266). -/
def State.safeSample (s : State) (m : Fin 4) (g : GarnetMoIn) : State :=
  let x := s.garnet.mo[m]
  let a := s.n Fld.SAFETY_MO_POSA 0 m
  let b := s.n Fld.SAFETY_MO_POSB 0 m
  let pa := if g.sigA then g.posA else x.posA
  let pb := if g.sigB then g.posB else x.posB
  let ha := (pa :: x.histA).take 65
  let hb := (pb :: x.histB).take 65
  let ta := s.n Fld.SAFETY_MO_TENSA 0 m
  let tb := s.n Fld.SAFETY_MO_TENSB 0 m
  s.onSmo m fun x => { x with
    posA := pa, posB := pb, histA := ha, histB := hb
    sigOk := (a == 0 || g.sigA) && (b == 0 || b == 9 || g.sigB)
    wA := if a = 0 then s.rpm m else s.spdOf m ha (s.q Fld.SAFETY_MO_RATIOA 0 m)
    wB := if b = 0 ∨ b = 9 then s.rpm m else s.spdOf m hb (s.q Fld.SAFETY_MO_RATIOB 0 m)
    tens := if ta = 0 then 0 else s.codeOf ta * s.q Fld.SAFETY_MO_TAGAIN 0 m + s.q Fld.SAFETY_MO_TAOFS 0 m
    tensB := if tb = 0 then 0 else if tb = 97 then s.outer[m].tens
      else s.codeOf tb * s.q Fld.SAFETY_MO_TBGAIN 0 m + s.q Fld.SAFETY_MO_TBOFS 0 m }

/-- The larger of the speeds of the channels in use, in rpm. -/
def State.safeSpeed (s : State) (m : Fin 4) : Rat :=
  let x := s.garnet.mo[m]
  if s.n Fld.SAFETY_MO_POSB 0 m = 0 then absQ x.wA else maxQ (absQ x.wA) (absQ x.wB)

/-- Standstill on both channels (R260). -/
def State.safeStill (s : State) (m : Fin 4) : Bool :=
  decide (s.safeSpeed m < s.q Fld.SAFETY_MO_SSTOP 0 m / 100 * s.q Fld.MOTOR_NRATED m)

/-- A stop is requested of the fast plane and its SS1 or SS2 begins (R260). -/
def State.ssStart (s : State) (m : Fin 4) (ss2 : Bool) (by_ : StoHold) (ramp : Bool) : State :=
  let r : SsRun := ⟨ss2, by_, s.up, s.safeSpeed m, ramp⟩
  (s.onSmo m fun x => { x with ss := some r }).react m
    ⟨some .SF_STO, stopUnit m, s.rc Fld.SAFETY_MO_SS1REQ 0 m, true, false⟩

/-- A violation of a function (R259): SF_VIOLATION, and STO or an SS1 by the RAMP law; an SS1 already in progress goes to STO. -/
def State.violation (s : State) (m : Fin 4) (f : SafeFn) : State :=
  let s1 := s.raise .SF_VIOLATION m f.code
  let inSs1 : Bool := match s.garnet.mo[m].ss with
    | some r => !r.ss2
    | none => false
  if s.garnet.mo[m].sto || s.n Fld.SAFETY_MO_VIOLREACT 0 m == 0 || inSs1 then s1.stoEnter m .violation (.viol f)
  else s1.ssStart m false (.viol f) true

/-- The cause of the STO that ends an SS1. -/
def StoHold.causeOf : StoHold → StoCause
  | .viol _ => .violation
  | .conn _ => .connection
  | _ => .selection

/-- The envelope of an SS1 or SS2 at present, in rpm (R260). -/
def State.ssEnvelope (s : State) (m : Fin 4) (r : SsRun) : Rat :=
  let wr := s.q Fld.MOTOR_NRATED m
  let t : Rat := ((s.up - r.since : Nat) : Rat) / sec
  maxQ (r.w0 - qdiv (wr * t) (s.q Fld.SAFETY_MO_SS1DEC 0 m)) 0 + s.q Fld.SAFETY_MO_SS1TOL 0 m / 100 * wr

/-- A function that a cycle finds in violation, or not any more: the violation acts when it begins. -/
def State.judge (s : State) (m : Fin 4) (f : SafeFn) (bad : Bool) : State :=
  let was := s.garnet.mo[m].viol.contains f
  if bad ∧ !was then (s.onSmo m fun x => { x with viol := f :: x.viol }).violation m f
  else if !bad ∧ was then s.onSmo m fun x => { x with viol := x.viol.filter fun g => g != f }
  else s

/-- A connection that has failed and whose reaction is SS1 (R270). -/
def State.connStop (s : State) (m : Fin 4) : Option (Fin 4) :=
  (s.connsOf m).find? fun c => s.garnet.conn[c].fault && !s.garnet.conn[c].due && s.n Fld.SAFETY_CONN_REACT 0 c == 1

/-- SS1 and SS2 are selected, supervised and ended in a cycle (R260, R261). A connection's SS1 that another one covered goes on when that
one ends. -/
def State.ssCycle (s : State) (m : Fin 4) : State :=
  let ramp := s.n Fld.SAFETY_MO_SS1MODE 0 m = 1
  let x := s.garnet.mo[m]
  let s0 := if s.fnSel m .ss2 then s else s.onSmo m fun x => { x with ss2Done := false }
  let s1 : State := match x.ss with
    | some r =>
      let gone : Bool := match r.by_ with
        | .sel f => !s0.fnSel m f && !(r.ss2 && s0.fnSel m .ss1)
        | .conn c => s0.garnet.conn[c].ok && s0.n Fld.SAFETY_CONN_RESTART 0 c == 0
        | _ => false
      if gone then s0.ssEnd m
      else if r.ss2 ∧ s0.fnSel m .ss1 then s0.onSmo m fun x => { x with ss := some { r with ss2 := false, by_ := .sel .ss1 } }
      else s0
    | none =>
      if x.sto then s0
      else if s0.fnSel m .ss1 then s0.ssStart m false (.sel .ss1) ramp
      else match s0.connStop m with
        | some c => s0.ssStart m false (.conn c) ramp
        | none => if s0.fnSel m .ss2 ∧ !x.ss2Done then s0.ssStart m true (.sel .ss2) ramp else s0
  match s1.garnet.mo[m].ss with
  | none => s1.judge m .ss1 false |>.judge m .ss2 false
  | some r =>
    let f : SafeFn := if r.ss2 then .ss2 else .ss1
    let s2 := s1.judge m f (r.ramp && decide (s1.ssEnvelope m r < s1.safeSpeed m))
    if s2.garnet.mo[m].ss ≠ some r then s2
    else if r.ramp && s2.safeStill m then
      if r.ss2 then (s2.onSmo m fun x => { x with ss2Done := true }).ssEnd m
      else s2.stoEnter m (if r.by_ = .sel .ss1 then s2.selCause m .ss1 else r.by_.causeOf) r.by_
    else if r.ss2 && s2.safeStill m then (s2.onSmo m fun x => { x with ss2Done := true }).ssEnd m
    else s2

/-- SS1_TIME_END (R260): SS1T has elapsed. -/
def State.ssTimeEnd (s : State) (m : Fin 4) : State :=
  match s.garnet.mo[m].ss with
  | none => s
  | some r =>
    if !s.garnet.run ∨ (s.up : Rat) < r.since + s.q Fld.SAFETY_MO_SS1T 0 m * sec then s
    else if r.ss2 then (s.ssEnd m).violation m .ss2
    else s.stoEnter m (if r.by_ = .sel .ss1 then s.selCause m .ss1 else r.by_.causeOf) r.by_

/-- SOS, alone or after an SS2 (R260). -/
def State.sosCycle (s : State) (m : Fin 4) : State :=
  let x := s.garnet.mo[m]
  let on := s.fnSel m .sos || (s.fnSel m .ss2 && x.ss2Done)
  let s1 := s.onSmo m fun x => { x with sos := on, sosPos := if x.sos then x.sosPos else x.posA }
  let y := s1.garnet.mo[m]
  let turn := absQ (y.posA - y.sosPos) * s.q Fld.SAFETY_MO_RATIOA 0 m * 360
  s1.judge m .sos (on && (decide (s.q Fld.SAFETY_MO_SOSWIN 0 m < turn) || !s.safeStill m))

/-- The lowest of the selected limits, in rpm. -/
def State.slsLimit (s : State) (m : Fin 4) (mask : Nat) : Rat :=
  let w := BitVec.ofNat 4 mask
  ((List.range 4).foldl (fun l j => if w.getLsbD j then minQ l (s.q Fld.SAFETY_MO_SLS 0 m j) else l) 1000)
    / 100 * s.q Fld.MOTOR_NRATED m

/-- SLS (R260): a new set of limits begins its envelope at the present speed. -/
def State.slsCycle (s : State) (m : Fin 4) : State :=
  let mask := s.slsMask m
  let x := s.garnet.mo[m]
  let s1 := s.onSmo m fun x => { x with
    sls := decide (mask ≠ 0), slsSet := mask
    slsAt := if mask = x.slsSet then x.slsAt else s.up
    slsFrom := if mask = x.slsSet then x.slsFrom else s.safeSpeed m }
  let y := s1.garnet.mo[m]
  let lim := s.slsLimit m mask
  let t : Rat := ((s.up - y.slsAt : Nat) : Rat) / sec
  let T := s.q Fld.SAFETY_MO_SLSRAMPT 0 m
  let env := if lim < y.slsFrom ∧ t < T then
      y.slsFrom + (lim - y.slsFrom) * t / T + s.q Fld.SAFETY_MO_SS1TOL 0 m / 100 * s.q Fld.MOTOR_NRATED m
    else lim
  s1.judge m .sls (decide (mask ≠ 0) && decide (env < s.safeSpeed m))

/-- SDI (R260): the furthest position in the permitted direction is kept. -/
def State.sdiCycle (s : State) (m : Fin 4) : State :=
  let on := s.fnSel m .sdi
  let neg := s.n Fld.SAFETY_MO_SDIDIR 0 m = 1
  let s1 := s.onSmo m fun x => { x with
    sdi := on
    sdiRef := if !x.sdi then x.posA else if neg then minQ x.sdiRef x.posA else maxQ x.sdiRef x.posA }
  let y := s1.garnet.mo[m]
  let back := (if neg then y.posA - y.sdiRef else y.sdiRef - y.posA) * s.q Fld.SAFETY_MO_RATIOA 0 m * 360
  s1.judge m .sdi (on && decide (s.q Fld.SAFETY_MO_SDITOL 0 m < back))

/-- SLP (R260): where the axis could still stop, in sensor turns. -/
def State.slpCycle (s : State) (m : Fin 4) : State :=
  let on := s.fnSel m .slp
  let s1 := s.onSmo m fun x => { x with slp := on }
  let x := s.garnet.mo[m]
  let v := qdiv (x.wA / 60) (s.q Fld.SAFETY_MO_RATIOA 0 m)
  let at_ := x.posA + v * absQ v / (2 * s.q Fld.SAFETY_MO_SLPDEC 0 m)
  s1.judge m .slp (on && (decide (at_ < s.q Fld.SAFETY_MO_SLPMIN 0 m) || decide (s.q Fld.SAFETY_MO_SLPMAX 0 m < at_)))

/-! ## Brakes, proof and EQR hold (R263 to R265) -/

/-- The motor object whose brake sequence proves the torque of `m`: the lead's for its members on the lead module (R264). -/
def State.provedBy (s : State) (m : Fin 4) : Fin 4 := if s.inGroup m && s.isLead then s.leadMo.getD m else m

/-- Garnet gathers the proof of R264 during the last 100 ms of PROVING. -/
def State.proofCycle (s : State) (m : Fin 4) : State :=
  let d := s.provedBy m
  if s.brake[d].state ≠ .proving then s
  else if s.brakeTime d < 5 / 100 then s.onSmo m fun x => { x with proveMin := none, proveStill := true }
  else s.onSmo m fun x => { x with
    proveMin := some (match x.proveMin with | some a => minQ a (s.safeAmps m) | none => s.safeAmps m)
    proveStill := x.proveStill && s.safeStill m }

/-- The proof of a motor object passes (R264). -/
def State.proofGood (s : State) (m : Fin 4) : Bool :=
  let x := s.garnet.mo[m]
  x.proveStill && (match x.proveMin with
    | some a => decide (s.q Fld.SAFETY_MO_PROVEI 0 m ≤ a)
    | none => false)

/-- A release request is judged when it comes: one that follows PROVING by the gathered proof; any other has none (R263,
R264). -/
def State.releaseCycle (s : State) (m : Fin 4) : State :=
  let x := s.garnet.mo[m]
  let req := s.brake[m].release
  if !req then s.onSmo m fun x => { x with relSeen := false, proofOk := false }
  else if x.relSeen then s
  else
    let fresh := s.brake[m].state = .opening
    let ok := decide fresh && (s.followers m).all fun j => s.proofGood j
    (s.onSmo m fun x => { x with relSeen := true, proofOk := ok }).raiseIf (s.sbcArmed m && decide fresh && !ok) .SF_PROVE_REFUSED m

/-- The source that EQRSEL names also requests (R265): FAST always; a pair that demands; a bit at 1 of a connection that is OK. -/
def State.eqrSelected (s : State) (m : Fin 4) : Bool :=
  let code := s.n Fld.SAFETY_MO_EQRSEL 0 m
  if code = 0 then true
  else if code < 13 then s.pairDemands (code - 1)
  else (s.connsOf m).any fun c => s.garnet.conn[c].ok && s.garnet.conn[c].cmd.getLsbD (code - 13)

/-- The EQR hold of a motor object begins and ends with the fast plane's EQR, and ends at EQRSLS (R265). -/
def State.eqrHoldCycle (s : State) (m : Fin 4) : State :=
  let x := s.garnet.mo[m]
  let eqr := s.yes Fld.SAFETY_MO_EQRHOLD 0 m && (s.em[m].mode == .eqr || s.em[m].free)
  if !eqr then (s.holdEnd m 1).onSmo m fun x => { x with holdOver := false }
  else if x.hold then
    if s.q Fld.SAFETY_MO_EQRSLS 0 m / 100 * s.q Fld.MOTOR_NRATED m < absQ x.wA then s.holdEnd m 2 else s
  else if !x.holdOver ∧ s.eqrSelected m then s.onSmo m fun x => { x with hold := true, holdAt := s.up } else s

/-- EQR_HOLD_TIMEOUT (R265). -/
def State.eqrHoldTimeout (s : State) (m : Fin 4) : State :=
  if s.q Fld.SAFETY_MO_EQRTMAX 0 m * sec ≤ (s.up : Rat) - s.garnet.mo[m].holdAt then s.holdEnd m 3 else s

/-- BRAKE_FB_CHECK (R265): BRKCLOSET after de-energising. -/
def State.brakeFbCheck (s : State) (m : Fin 4) : State :=
  let x := s.garnet.mo[m]
  if x.brkSet ∧ x.fbDue then
    (s.onSmo m fun x => { x with fbDue := false }).raiseIf (s.pairReads (s.n Fld.MOTOR_BRKFB m)) .SF_BRAKE_FB m
  else s

/-! ## Discrepancies and safely limited tension (R258, R266) -/

/-- Garnet notes since when the conditions of R258 and R266 hold. -/
def State.timeHolds (s : State) (m : Fin 4) : State :=
  let slt := s.fnSel m .slt
  let f := s.q Fld.SAFETY_MO_SLTF 0 m
  s.onSmo m fun x => { x with
    posSince := heldSince x.posSince s.up (s.speedsDiffer m)
    tensSince := heldSince x.tensSince s.up (slt && s.tensionsDiffer m)
    over1 := heldSince x.over1 s.up (slt && decide (f < x.tens))
    over2 := heldSince x.over2 s.up (slt && decide (s.sltLevel2 m < x.tens))
    low1 := heldSince x.low1 s.up (x.slt1 && decide (x.tens ≤ 95 / 100 * f)) }

/-- A time of R258 or R266 in nanoseconds, from its field in milliseconds. -/
def State.heldMs (s : State) (since : Option Nat) (f : Field) (m : Fin 4) : Bool := heldFor since s.up (s.n f 0 m * ms)

/-- SF_POS_DISC (R258): the channels have differed for POSDISC. -/
def State.posDiscrepancy (s : State) (m : Fin 4) : State :=
  let x := s.garnet.mo[m]
  if s.garnet.run ∧ !x.posDisc ∧ s.heldMs x.posSince Fld.SAFETY_MO_POSDISC m then
    ((s.onSmo m fun x => { x with posDisc := true }).raise .SF_POS_DISC m).stoEnter m .discrepancy .position
  else s

/-- SF_TENS_DISC (R266): the tensions have differed for POSDISC. -/
def State.tensDiscrepancy (s : State) (m : Fin 4) : State :=
  let x := s.garnet.mo[m]
  if s.garnet.run ∧ !x.tensDisc ∧ s.heldMs x.tensSince Fld.SAFETY_MO_POSDISC m then
    ((s.onSmo m fun x => { x with tensDisc := true }).raise .SF_TENS_DISC m).stoEnter m .discrepancy .tension
  else s

/-- SLT_STAGE1 (R266): F has been above SLTF for SLTDLY. -/
def State.sltStage1 (s : State) (m : Fin 4) : State :=
  let x := s.garnet.mo[m]
  if s.garnet.run ∧ !x.slt1 ∧ s.heldMs x.over1 Fld.SAFETY_MO_SLTDLY m then
    (s.onSmo m fun x => { x with slt1 := true }).raise .SF_SLT_LIMIT m
  else s

/-- SLT_STAGE2 (R266): F has been above the stage-2 level for SLTDLY; in a ring group the members of this module go to STO together. -/
def State.sltStage2 (s : State) (m : Fin 4) : State :=
  let x := s.garnet.mo[m]
  if s.garnet.run ∧ !x.holds.contains (.viol .slt) ∧ s.heldMs x.over2 Fld.SAFETY_MO_SLTDLY m then
    (s.followers m).foldl (fun s j => s.stoEnter j .slt (.viol .slt)) ((s.raise .SF_VIOLATION m SafeFn.slt.code).stoEnter m .slt (.viol .slt))
  else s

/-- SLT_STAGE1_EXIT (R266): F has been at or below 95 % of SLTF for 500 ms. -/
def State.sltExit (s : State) (m : Fin 4) : State :=
  if heldFor s.garnet.mo[m].low1 s.up (500 * ms) then s.onSmo m fun x => { x with slt1 := false, low1 := none } else s

/-- Discrepancies and tension are judged in every cycle (R250). -/
def State.tensionCycle (s : State) (m : Fin 4) : State :=
  ((((s.posDiscrepancy m).tensDiscrepancy m).sltStage1 m).sltStage2 m).sltExit m

/-- A motor object in STO has passed through it (R268). -/
def State.stoNote (s : State) (m : Fin 4) : State :=
  s.onSmo m fun x => if x.sto then { x with stoAt := s.up, dueAt := none } else x

/-- STO has not been passed through in STOTEST hours, or, once that has been found, in 24 h more (R268). -/
def State.stoOverdue (s : State) (m : Fin 4) : Bool :=
  let x := s.garnet.mo[m]
  !x.sto && (match x.dueAt with
    | none => decide (x.stoAt + s.n Fld.SAFETY_STOTEST 0 * 3600 * sec ≤ s.up)
    | some t => decide (t + 24 * 3600 * sec ≤ s.up))

/-- SF_TEST_DUE (R268): a motor object with STO selectable is overdue. -/
def State.testDue (s : State) (m : Fin 4) : State :=
  if s.garnet.run ∧ s.n Fld.SAFETY_MO_STOSEL 0 m ≠ 0 ∧ s.stoOverdue m then
    (s.onSmo m fun x => { x with dueAt := some s.up }).raise .SF_TEST_DUE m
  else s

/-! ## The cycle (R250) -/

/-- A connection reaction that is due takes effect (R270). -/
def State.connCycle (s : State) (c : Fin 4) : State :=
  if !s.garnet.conn[c].due then s
  else forFin 4 (fun m (s : State) =>
    if !s.connOf m c then s
    else if s.n Fld.SAFETY_CONN_REACT 0 c = 0 then s.stoEnter m .connection (.conn c)
    else if s.garnet.mo[m].sto then s.stoEnter m .connection (.conn c)
    else match s.garnet.mo[m].ss with
      | some r => if r.ss2 then s.onSmo m fun x => { x with ss := some { r with ss2 := false, by_ := .conn c } } else s
      | none => s.ssStart m false (.conn c) (s.n Fld.SAFETY_MO_SS1MODE 0 m == 1))
    (s.onConn c fun x => { x with due := false })

/-- A function found unarmed holds the motor object in STO, and is named (R275). -/
def State.unarmedCycle (s : State) (m : Fin 4) : State :=
  let now := allFns.filter fun f => s.fnUnarmed m f
  let new := now.filter fun f => !s.garnet.mo[m].unarmed.contains f
  let s1 := new.foldl (fun (s : State) f => s.raise .SF_UNARMED m f.code) (s.onSmo m fun x => { x with unarmed := now })
  if now = [] then s1 else s1.stoEnter m .unarmed .unarmed

/-- The functions of a motor object in a cycle: STO outranks everything (R261). -/
def State.moCycle (s : State) (m : Fin 4) : State :=
  let s1 := ((s.unarmedCycle m).timeHolds m).tensionCycle m
  let s2 := if s1.fnSel m .sto then s1.stoEnter m (s1.selCause m .sto) (.sel .sto) else s1
  let s3 := if s2.outputBad m then s2.stoEnter m .outputFault .output else s2
  let s4 := (((s3.ssCycle m).sosCycle m).slsCycle m).sdiCycle m
  let s5 := ((s4.slpCycle m).proofCycle m).releaseCycle m
  ((s5.eqrHoldCycle m).stoRelease m).stoNote m

/-- What Garnet samples: inputs, output nodes, motion and tension. -/
def State.garnetSample (s : State) (g : GarnetIn) : State :=
  let s1 := { s with garnet := { s.garnet with
    si := vgen 24 fun i => { s.garnet.si[i] with level := g.si.getLsbD i } } }
  let s2 := forFin 12 (fun k (s : State) => s.pairSample k) s1
  let s3 := forFin 8 (fun j (s : State) => s.soStatic j (g.sorh.getLsbD j) (g.sorl.getLsbD j)) s2
  forFin 4 (fun m (s : State) => s.safeSample m g.mo[m]) s3

/-- GARNET_CYCLE (R250): before S9 Garnet only samples; from S9 its functions act. -/
def State.garnetCycle (s : State) (g : GarnetIn) : State :=
  if !s.garnet.run ∨ s.garnet.safe then s
  else
    let s1 := s.garnetSample g
    if s.rst.stage ≠ 9 then s1
    else
      let s2 := forFin 4 (fun c (s : State) => s.connCycle c) s1
      (forFin 4 (fun m (s : State) => s.moCycle m) s2).switchOutputs

/-! ## Safe frames (R269, R270) -/

/-- CRC-32C, bit by bit (reflected polynomial 82F63B78H). -/
def crcStep (c : Word) : Nat → Word
  | 0 => c
  | n + 1 => crcStep (if c.getLsbD 0 then (c >>> 1) ^^^ 0x82F63B78#32 else c >>> 1) n

def crc32c (b : List Byte) : Word := ~~~(b.foldl (fun c x => crcStep (c ^^^ BitVec.ofNat 32 x.toNat) 8) 0xFFFFFFFF#32)

/-- A 16-bit field of a PDU. -/
def pdu16 (b : List Byte) (off : Nat) : BitVec 16 := BitVec.ofNat 16 (ofBytesLE ((b.drop off).take 2))

/-- A copy passes the checks of R270 on its bytes. -/
def State.pduOk (s : State) (c : Fin 4) (b : List Byte) : Bool :=
  b.length == 20 && wordAt b 16 == crc32c (b.take 16) &&
    (pdu16 b 0).toNat == s.n Fld.SAFETY_CONN_CONNID 0 c && b.getD 7 0 == 1

/-- How far a sequence number is ahead of another, modulo 2¹⁶. -/
def seqAhead (a b : BitVec 16) : Nat := (a - b).toNat

/-- A connection fault: its reaction is due in the next Garnet cycle, and two accepted sequences must follow (R270). -/
def SafeConn.failed (x : SafeConn) : SafeConn := { x with ok := false, fault := true, due := true, accN := 0 }

/-- A sequence is accepted (R270): its command word is in force, and a FLAGS.ACK acknowledges for the motor objects of MOMASK. -/
def State.connAccept (s : State) (c : Fin 4) (q : BitVec 16) (b : List Byte) : State :=
  let x := s.garnet.conn[c]
  let back := !x.ok && decide (2 ≤ x.accN + 1)
  let s1 := s.onConn c fun x => { x with
    everAcc := true, lastSeq := q, watch := true, accN := x.accN + 1, cmd := pdu16 b 4
    waiting := x.waiting.filter fun w => w.seq != q && decide (seqAhead q w.seq = 0 ∨ 32768 ≤ seqAhead q w.seq)
    ok := x.ok || back, mism := x.mism && !back, timeout := x.timeout && !back, fault := x.fault && !back }
  let s2 := s1.raiseIf (back && x.fault) .SC_RESTORED c
  if (b.getD 6 0).getLsbD 0 then forFin 4 (fun m (s : State) => if s.connOf m c then s.safetyAck m else s) s2 else s2

/-- SAFE_FRAME_COPY (R270). -/
def State.safeCopy (s : State) (c : Fin 4) (portB : Bool) (b : List Byte) : State :=
  let x := s.garnet.conn[c]
  if !s.garnet.run ∨ s.n Fld.SAFETY_CONN_NET 0 c = 0 then s
  else
    let seq := pdu16 b 2
    let ahead := seqAhead seq x.lastSeq
    if !s.pduOk c b ∨ (x.everAcc ∧ (ahead < 1 ∨ 8 < ahead)) then s.onConn c fun x => { x with miss := bump x.miss }
    else match x.waiting.find? (fun w => w.seq == seq) with
    | none => s.onConn c fun x => { x with waiting := x.waiting ++ [⟨seq, b, portB⟩] }
    | some w =>
      if w.portB = portB then s.onConn c fun x => { x with miss := bump x.miss }
      else if w.bytes = b then s.connAccept c seq b
      else
        (s.onConn c fun x => { x.failed with
          mism := true, mismCnt := bump x.mismCnt, waiting := x.waiting.filter fun w => w.seq != seq }).raise .SC_MISMATCH c

/-- SAFE_FRAME_WINDOW_CLOSE (R270). -/
def State.safeWindow (s : State) (c : Fin 4) (q : BitVec 16) : State :=
  if s.garnet.conn[c].waiting.any (fun w => w.seq == q) then
    s.onConn c fun x => { x with waiting := x.waiting.filter (fun w => w.seq != q), miss := bump x.miss }
  else s

/-- SC_TIMEOUT (R270): the watchdog expires. -/
def State.connTimeout (s : State) (c : Fin 4) : State :=
  if s.garnet.run ∧ s.garnet.conn[c].watch then
    (s.onConn c fun x => { x.failed with timeout := true, watch := false }).raise .SC_TIMEOUT c
  else s

/-- SAFETY_COUNTERS_CLEAR (R270). -/
def State.safeCounters (s : State) : State :=
  { s with garnet := { s.garnet with conn := s.garnet.conn.map fun x => { x with miss := .zero, mismCnt := .zero } } }

/-- The PDU that Garnet sends on a connection (R269). -/
def State.pduOut (s : State) (c : Fin 4) (q : BitVec 16) : List Byte :=
  let g := s.garnet
  let cmd := flagBits 0 (g.mo.map fun x => x.sto) + flagBits 4 (g.mo.map fun x => x.sls) + flagBits 8 (g.mo.map fun x => x.brkSet) +
    bit 12 g.safe
  let b := bytesLE 2 (s.n Fld.SAFETY_CONN_CONNID 0 c) ++ bytesLE 2 q.toNat ++ bytesLE 2 cmd ++ bytesLE 1 0 ++ bytesLE 1 1 ++
    bytesLE 8 s.dev.toNat
  b ++ bytesLE 4 (crc32c b).toNat

/-- A connection's next PDU is made (R269). -/
def State.pduNext (s : State) (c : Fin 4) : State :=
  let q := s.garnet.conn[c].sendSeq + 1
  let b := s.pduOut c q
  s.onConn c fun x => { x with sendSeq := q, sent := b }

/-! ## The password (R272) -/

/-- An authenticated management session is open. -/
def State.session (s : State) (id : Nat) : Bool := s.onyx.sessions.any fun x => x.id == id

/-- A password matches PWHASH: 8 to 32 printable characters whose salted hash is the one held (R272). -/
def State.pwOk (s : State) (pw : List Byte) : Bool :=
  let h := s.str Fld.SAFETY_PWHASH 0
  h.length == 80 && decide (8 ≤ pw.length) && decide (pw.length ≤ 32) && pw.all (fun b => decide (0x20 ≤ b.toNat ∧ b.toNat ≤ 0x7E)) &&
    Config.sha384 (h.take 32 ++ pw) == h.drop 32

/-- SAFETY_PASSWORD (R272). -/
def State.password (s : State) (sess : Nat) (pw : List Byte) : State :=
  if !s.session sess ∨ s.garnet.pwLock then s
  else if s.pwOk pw then s.onGarnet fun g => { g with unlocked := some sess }
  else
    let w := s.up :: s.garnet.wrong.filter fun t => decide (s.up < t + 600 * sec)
    if 5 ≤ w.length then
      (s.onGarnet fun g => { g with wrong := [], pwLock := true }).raise .SAFE_PWD_FAIL
    else s.onGarnet fun g => { g with wrong := w }

/-- SAFETY_UNLOCK_EXPIRY (R272). -/
def State.unlockExpiry (s : State) : State := s.onGarnet fun g => { g with unlocked := none }

/-- PASSWORD_LOCKOUT_END (R272). -/
def State.pwLockEnd (s : State) : State := s.onGarnet fun g => { g with pwLock := false }

/-- A session ends, and with it an unlock made over it (R272). -/
def State.unlockEndWith (s : State) (sess : Nat) : State :=
  if s.garnet.unlocked = some sess then s.unlockExpiry else s

/-! ## The change log (R273, R274) -/

/-- Entries that the change log holds, and from how many it warns. -/
def slogMax : Nat := 4096
def slogWarn : Nat := 3900

/-- The 128 bytes of an entry (R273). -/
def SafeLogEntry.bytes (e : SafeLogEntry) : List Byte :=
  bytesLE 4 e.index ++ bytesLE 2 e.kind ++ bytesLE 2 e.nField ++ bytesLE 8 e.time.toNat ++ e.actor.take 16 ++ bytesLE 4 e.setCrc.toNat
    ++ e.deltaH.take 32 ++ bytesLE 12 0 ++ e.prev.take 48

/-- The fields of other records that name a safety input or output pair (R271). -/
def namingFields : List Field :=
  [Fld.MOTOR_BRAKE0, Fld.MOTOR_BRAKE1, Fld.MOTOR_BRKFB, Fld.EMERGENCY_EQRIN, Fld.EMERGENCY_SLKIN, Fld.BRIDGE_DCOPEN,
   Fld.BRIDGE_DCFB, Fld.BRIDGE_ISOOUT, Fld.BRIDGE_ISOIN]

/-- A record type and FID name a safety field (R271). -/
def isSafety (typ fid : Nat) : Bool :=
  typ == RecT.safety.code || namingFields.any fun f => f.rt.code == typ && f.fid == fid

/-- The safety field set in force, which SETCRC covers. -/
def State.safetySet (s : State) : List (Nat × CfgVal) :=
  s.given.filter fun x => isSafety (x.1 / 65536 / 65536 / 256) (x.1 / 65536 % 65536)

/-- The chain of the log is whole (R273). -/
def chainOk : List SafeLogEntry → Bool
  | a :: b :: l => a.prev == Config.sha384 b.bytes && chainOk (b :: l)
  | _ => true

/-- An entry appended to the change log (R273, R274); the first entry of all has no previous one, and its PREV is free. -/
def State.slogAppend (s : State) (kind nField : Nat) (actor deltaH : List Byte) : State :=
  let (prev, s1) := match s.slog.entries with
    | e :: _ => (Config.sha384 e.bytes, s)
    | [] => s.takeBytes
  let e : SafeLogEntry := ⟨s.slog.next, kind, nField, s.dev, actor.take 16, Config.safetySetCrc s.safetySet, deltaH, prev⟩
  let n := s.slog.entries.length + 1
  let s2 := { s1 with slog := { s1.slog with entries := e :: s1.slog.entries, next := s1.slog.next + 1 } }
  (s2.raiseIf (decide (slogWarn ≤ n)) .SAFELOG_WARN).raiseIf (decide (n = slogMax)) .SAFELOG_FULL

/-- The check of the log at S6 (R273): a broken chain refuses changes; a set that differs from the newest entry's is recorded by
an entry of KIND 4 where the log has room. -/
def State.slogCheck (s : State) : State :=
  let s1 := if chainOk s.slog.entries then s else { s with slog := { s.slog with broken := true } }.raise .SAFELOG_BROKEN
  match s1.slog.entries with
  | [] => s1
  | e :: _ =>
    if e.setCrc = Config.safetySetCrc s1.safetySet then s1
    else
      let s2 := s1.raise .SAFELOG_MISMATCH
      if s2.slog.entries.length < slogMax then s2.slogAppend 4 0 [] (bytesLE 32 0) else s2

/-! ## The commands -/

/-- GARNET_CYCLE (R250): see `State.garnetCycle`. -/
def execGarnetCycle (g : GarnetIn) (s : State) : Host.Outcome State Fault Refusal := .next (s.garnetCycle g)
/-- GARNET_SELF_FAULT (R251): see `State.garnetFault`. -/
def execGarnetSelfFault (s : State) : Host.Outcome State Fault Refusal := .next s.garnetFault
/-- GARNET_SRAM_SCRUB (R251): a scrub that finds an uncorrectable error is a self-fault. -/
def execGarnetSramScrub (bad : Bool) (s : State) : Host.Outcome State Fault Refusal := .next (if bad then s.garnetFault else s)
/-- TEST_PULSE_FRAME (R253, R254): see `State.testFrame`. -/
def execTestPulseFrame (tpBad : BitVec 8) (own : Vector Bool 24) (foreign : Vector (Option (Fin 8)) 24) (s : State) :
    Host.Outcome State Fault Refusal := .next (s.testFrame tpBad own foreign)
/-- INPUT_PAIR_DEMAND (R255): see `State.inputDemand`. -/
def execInputPairDemand (k : Fin 12) (s : State) : Host.Outcome State Fault Refusal := .next (s.inputDemand k)
/-- INPUT_PAIR_DISCREPANCY (R255): see `State.inputDisc`. -/
def execInputPairDiscrepancy (k : Fin 12) (s : State) : Host.Outcome State Fault Refusal := .next (s.inputDisc k)
/-- SO_OFF_PULSE (R256): see `State.offPulse`. -/
def execSoOffPulse (j : Fin 8) (ok : Bool) (s : State) : Host.Outcome State Fault Refusal := .next (s.offPulse j ok)
/-- SF_POS_DISC (R258): see `State.posDiscrepancy`. -/
def execSfPosDisc (m : Fin 4) (s : State) : Host.Outcome State Fault Refusal := .next (s.posDiscrepancy m)
/-- SF_TENS_DISC (R266): see `State.tensDiscrepancy`. -/
def execSfTensDisc (m : Fin 4) (s : State) : Host.Outcome State Fault Refusal := .next (s.tensDiscrepancy m)
/-- SS1_TIME_END (R260): see `State.ssTimeEnd`. -/
def execSs1TimeEnd (m : Fin 4) (s : State) : Host.Outcome State Fault Refusal := .next (s.ssTimeEnd m)
/-- SLT_STAGE1 (R266): see `State.sltStage1`. -/
def execSltStage1 (m : Fin 4) (s : State) : Host.Outcome State Fault Refusal := .next (s.sltStage1 m)
/-- SLT_STAGE2 (R266): see `State.sltStage2`. -/
def execSltStage2 (m : Fin 4) (s : State) : Host.Outcome State Fault Refusal := .next (s.sltStage2 m)
/-- SLT_STAGE1_EXIT (R266): stage 1 ends. -/
def execSltStage1Exit (m : Fin 4) (s : State) : Host.Outcome State Fault Refusal := .next (s.sltExit m)
/-- EQR_HOLD_TIMEOUT (R265): the hold has lasted EQRTMAX. -/
def execEqrHoldTimeout (m : Fin 4) (s : State) : Host.Outcome State Fault Refusal := .next (s.eqrHoldTimeout m)
/-- BRAKE_FB_CHECK (R265): see `State.brakeFbCheck`. -/
def execBrakeFbCheck (m : Fin 4) (s : State) : Host.Outcome State Fault Refusal := .next (s.brakeFbCheck m)
/-- SAFE_FRAME_COPY (R270): see `State.safeCopy`. -/
def execSafeFrameCopy (c : Fin 4) (portB : Bool) (bytes : List Byte) (s : State) : Host.Outcome State Fault Refusal :=
  .next (s.safeCopy c portB bytes)
/-- SAFE_FRAME_WINDOW_CLOSE (R270): see `State.safeWindow`. -/
def execSafeFrameWindowClose (c : Fin 4) (seq : BitVec 16) (s : State) : Host.Outcome State Fault Refusal := .next (s.safeWindow c seq)
/-- SC_TIMEOUT (R270): see `State.connTimeout`. -/
def execScTimeout (c : Fin 4) (s : State) : Host.Outcome State Fault Refusal := .next (s.connTimeout c)
/-- SAFETY_ACK (R260): see `State.safetyAck`. -/
def execSafetyAck (m : Fin 4) (s : State) : Host.Outcome State Fault Refusal := .next (s.safetyAck m)
/-- SAFETY_INPUT_CLEAR (R254): see `State.inputClear`. -/
def execSafetyInputClear (s : State) : Host.Outcome State Fault Refusal := .next s.inputClear
/-- SAFETY_OUTPUT_CLEAR (R256): see `State.outputClear`. -/
def execSafetyOutputClear (s : State) : Host.Outcome State Fault Refusal := .next s.outputClear
/-- SAFETY_COUNTERS_CLEAR (R270): see `State.safeCounters`. -/
def execSafetyCountersClear (s : State) : Host.Outcome State Fault Refusal := .next s.safeCounters
/-- SAFETY_PASSWORD (R272): see `State.password`. -/
def execSafetyPassword (sess : Nat) (pw : List Byte) (s : State) : Host.Outcome State Fault Refusal := .next (s.password sess pw)
/-- SAFETY_UNLOCK_EXPIRY (R272): the unlock ends after 15 min. -/
def execSafetyUnlockExpiry (s : State) : Host.Outcome State Fault Refusal := .next s.unlockExpiry
/-- PASSWORD_LOCKOUT_END (R272): submissions are taken again after 30 min. -/
def execPasswordLockoutEnd (s : State) : Host.Outcome State Fault Refusal := .next s.pwLockEnd
/-- SF_TEST_DUE (R268): see `State.testDue`. -/
def execSfTestDue (m : Fin 4) (s : State) : Host.Outcome State Fault Refusal := .next (s.testDue m)

end Sys2Proof.Machine
end

