-- ==== Sys2Proof/Machine/Record.lean ====
section
/-! DEFINITION. The checks of configuration fields: the structure of records (R339), the ranges (R340, R275), and the rules that
tie fields to one another, in chapter order. What they find goes into the load report (R341). -/

namespace Sys2Proof.Machine

/-! ## Findings -/

/-- What a check finds about a field (R341): the event, the place of the field, KIND, the raw value given and the one in force;
`unit` where the event names another unit than the record. -/
structure Note where
  ev    : Ev
  typ   : Nat
  inst  : Nat
  fid   : Nat
  i     : Nat
  j     : Nat
  kind  : Nat
  given : Word
  used  : Word
  unit  : Option Nat
deriving DecidableEq, Repr

/-- DATA of R341. -/
def Note.data (x : Note) : List Byte :=
  bytesLE 2 x.fid ++ [BitVec.ofNat 8 x.i, BitVec.ofNat 8 x.j, BitVec.ofNat 8 x.kind, 0, 0, 0]
    ++ bytesLE 4 x.given.toNat ++ bytesLE 4 x.used.toNat

/-- A finding is journaled. -/
def State.tell (s : State) (x : Note) : State :=
  s.raise x.ev (x.unit.getD x.typ) (if x.unit.isSome then 0 else x.inst) x.data

/-- A finding of the load: it enters the load report and is journaled. -/
def State.enter (s : State) (x : Note) : State := (s.report x.ev x.typ x.inst x.data).tell x

/-- The raw value of a field value (R341). -/
def rawWord (ft : Nat) : CfgVal → Word
  | .num q => if ft = 3 then toF32 q else if ft = 5 ∨ ft = 6 then 0 else BitVec.ofInt 32 q.floor
  | .nan w => w
  | .bytes _ => 0

/-! ## Records and fields (R336, R339) -/

/-- A field applies in an instance of its record: of the AXIS records, 8 to 15 are the position interfaces; CELL[8] holds the
regular fields of SQ[1] alone (R64). -/
def fieldFits (f : Field) (inst i : Nat) : Bool :=
  match f.rt with
  | .axis => if f.fid / 256 = 4 then decide (8 ≤ inst) && decide (inst < 16) else decide (inst < 8)
  | .cell => decide (inst < 8) || (inst == 8 && i == 1 && decide (0x0203 ≤ f.fid) && decide (f.fid ≤ 0x0209))
  | rt => decide (inst < rt.insts)

/-- A sub-index of `SERVICE.FLOW[f]` counts from 24 (R278). -/
def idxOk (f : Field) (i j : Nat) : Bool :=
  decide (i < f.n1) && decide (j < f.n2) && (f.rt != .service || decide (0x0C05 < f.fid) || decide (24 ≤ i))

/-- The row of a field in a record. -/
def findField (typ inst fid i j : Nat) : Option Field :=
  Fld.all.find? fun f => f.rt.code == typ && f.fid == fid && fieldFits f inst i && idxOk f i j

/-- TYPE and INST name a record. -/
def recKnown (typ inst : Nat) : Bool :=
  Fld.all.any fun f => f.rt.code == typ && decide (inst < f.rt.insts)

/-- FTYPE, VLEN and the value have the form of the field. -/
def formOk (f : Field) (x : RawField) : Bool :=
  x.ftype == f.ftype.code &&
    (match f.ftype, x.val with
     | .bytes, .bytes b => x.vlen == b.length
     | .bytes, _ => false
     | _, .bytes _ => false
     | .s64, .num _ => x.vlen == 8
     | .s64, .nan _ => false
     | .f32, _ => x.vlen == 4
     | _, .num _ => x.vlen == 4
     | _, .nan _ => false)

/-- A skipped record or field. -/
def skipNote (typ inst : Nat) (x : Option RawField) (used : Word) : Note :=
  match x with
  | none => ⟨.RECORD_SKIPPED, typ, inst, 0, 0, 0, 8, 0, 0, none⟩
  | some y => ⟨.RECORD_SKIPPED, typ, inst, y.fid, y.idx1, y.idx2, 8, rawWord y.ftype y.val, used, none⟩

/-- A field that passes the structural checks, at its key. -/
structure Placed where
  field : Field
  inst  : Nat
  i     : Nat
  j     : Nat
  val   : CfgVal
deriving DecidableEq, Repr

/-- The fields of a record in FID order, each once; the others are skipped. -/
def checkFields (s : State) (typ inst : Nat) : List RawField → List Placed × List Note
  | [] => ([], [])
  | x :: rest =>
    match findField typ inst x.fid x.idx1 x.idx2 with
    | none => let r := checkFields s typ inst rest; (r.1, skipNote typ inst (some x) 0 :: r.2)
    | some f =>
      let dup := rest.any fun y => y.fid == x.fid && y.idx1 == x.idx1 && y.idx2 == x.idx2
      let r := checkFields s typ inst rest
      if dup ∨ !formOk f x then
        (r.1, skipNote typ inst (some x) (rawWord f.ftype.code (.num (s.dflt f inst x.idx1))) :: r.2)
      else (⟨f, inst, x.idx1, x.idx2, x.val⟩ :: r.1, r.2)

/-- The records of a body in TYPE and INST order, each once; the others are skipped. -/
def checkRecs (s : State) : List RawRec → List (Nat × Nat) → List Placed × List Note
  | [], _ => ([], [])
  | x :: rest, seen =>
    if !recKnown x.typ x.inst ∨ seen.contains (x.typ, x.inst) then
      let r := checkRecs s rest seen
      (r.1, skipNote x.typ x.inst none 0 :: r.2)
    else
      let fs := x.fields.insertionSort fun a b => (a.fid * 256 + a.idx1) * 256 + a.idx2 ≤ (b.fid * 256 + b.idx1) * 256 + b.idx2
      let a := checkFields s x.typ x.inst fs.reverse
      let r := checkRecs s rest ((x.typ, x.inst) :: seen)
      (a.1 ++ r.1, a.2.reverse ++ r.2)

/-- The structural check of a body (R339). -/
def checkBody (s : State) (l : List RawRec) : List Placed × List Note :=
  checkRecs s (l.insertionSort fun a b => a.typ * 256 + a.inst ≤ b.typ * 256 + b.inst) []

/-- Placed fields taken into the configuration. -/
def State.take (s : State) (l : List Placed) : State := l.foldl (fun s p => s.setGiven p.field p.inst p.i p.j p.val) s

/-! ## Ranges (R340, R275) -/

/-- The range of a field in its instance: a code range that follows the input mode, −IMAX for IDMIN, the HK channels of CELL[8], the
periods of a SINCOS sensor (R115). -/
def State.domOf (s : State) (f : Field) (inst i : Nat) : Dom :=
  if f = Fld.MOTOR_IDMIN then .range (-(s.q Fld.MOTOR_IMAX inst)) 0 0
  else if f.rt = .protect ∧ 0x0A0E ≤ f.fid ∧ f.fid ≤ 0x0A11 then
    if s.n Fld.CELL_INMODE (i / 12) (i % 12) = 1 then .range (-8192) 8191 0 else .range 0 16383 0
  else if f = Fld.CELL_SQ_E_IN ∧ inst = 8 then .range 0 31 0
  else if f = Fld.PI_LINES ∧ s.n Fld.PI_MODE inst = 2 then .range 1 65536 0
  else f.dom

/-- The nearest step of a resolution, a tie to the smaller magnitude. -/
def roundStep (step x : Rat) : Rat :=
  if step = 0 then x
  else
    let a := absQ x / step
    let n : Int := if a - a.floor ≤ 1 / 2 then a.floor else a.floor + 1
    if x < 0 then -(n * step) else n * step

/-- What a check makes of a value: the KIND it reports (0: none) and the value in its place. -/
structure Verdict where
  kind : Nat
  val  : CfgVal
deriving DecidableEq, Repr

/-- A safety value out of its range (R275): the end of its safe side, a stated value, or the nearest end. -/
def safeVerdict (f : Field) (lo hi q : Rat) : Verdict :=
  ⟨6, .num (match f.safe with
    | .low => lo
    | .high => hi
    | .to v => v
    | _ => if hi < q then hi else lo)⟩

/-- A number outside a stretch. -/
def outside (f : Field) (lo hi q : Rat) : Verdict :=
  if f.rt = .safety then safeVerdict f lo hi q else if q < lo then ⟨1, .num lo⟩ else ⟨2, .num hi⟩

/-- A number judged against a stretch with a resolution. -/
def inStretch (f : Field) (lo hi step q : Rat) : Option Verdict :=
  if q < lo ∨ hi < q then some (outside f lo hi q)
  else if roundStep step q = q then none else some ⟨0, .num (roundStep step q)⟩

/-- A code outside its enumeration: the default, or the safe value. -/
def noCode (f : Field) (dflt : Rat) : Verdict :=
  if f.rt = .safety then ⟨6, .num (match f.safe with | .to v => v | _ => dflt)⟩ else ⟨3, .num dflt⟩

/-- The ends of a range. -/
def domEnds : Dom → Rat × Rat
  | .range lo hi _ => (lo, hi)
  | .orZero lo hi _ => (lo, hi)
  | .orCode lo hi _ => (lo, hi)
  | .codes n => (0, n - 1)
  | .react _ => (0, 6)
  | .bytes lo hi => (lo, hi)

/-- The verdict on a field value; none where it stands as given. CURVE fields are judged by R120 alone. -/
def State.judgeField (s : State) (f : Field) (inst i : Nat) (v : CfgVal) : Option Verdict :=
  let d := s.domOf f inst i
  let dflt := s.dflt f inst i
  if f.rt = .curve then none
  else match v, d with
    | .num q, .range lo hi step => inStretch f lo hi step q
    | .num q, .orZero lo hi step => if q = 0 then none else inStretch f lo hi step q
    | .num q, .orCode lo hi c => if q = c then none else inStretch f lo hi 0 q
    | .num q, .codes n => if 0 ≤ q ∧ q < n then none else some (noCode f dflt)
    | .num q, .react l => if l.any (fun r => decide ((r : Rat) = q)) then none else some (noCode f dflt)
    | .nan w, _ =>
      if f.rt = .safety then
        some (safeVerdict f (domEnds d).1 (domEnds d).2 (if w = 0x7F800000 then (domEnds d).2 + 1 else (domEnds d).1 - 1))
      else some ⟨4, .num dflt⟩
    | .bytes b, .bytes lo hi =>
      if lo ≤ b.length ∧ b.length ≤ hi then none else some ⟨if f.rt = .safety then 6 else 3, .bytes []⟩
    | _, _ => some ⟨3, .num dflt⟩

/-! ## A check in progress -/

/-- The configuration as checked so far, and what was found. -/
structure Chk where
  s     : State
  notes : List Note

/-- A finding about a field as given. -/
def Chk.find (c : Chk) (ev : Ev) (kind : Nat) (f : Field) (inst : Nat) (i j : Nat) (used : Word) (unit : Option Nat := none) : Chk :=
  let given : Word := match cfgFind c.s.given (fieldKey f inst i j) with
    | some v => rawWord f.ftype.code v
    | none => 0
  { c with notes := c.notes ++ [⟨ev, f.rt.code, inst, f.fid, i, j, kind, given, used, unit⟩] }

/-- A value taken in place of the one given, without a report. -/
def Chk.put (c : Chk) (f : Field) (inst i j : Nat) (v : CfgVal) : Chk := { c with s := c.s.setUsed f inst i j (some v) }

/-- A value taken in place of the one given, and reported. -/
def Chk.use (c : Chk) (ev : Ev) (kind : Nat) (f : Field) (inst i j : Nat) (v : CfgVal) : Chk :=
  (c.find ev kind f inst i j (rawWord f.ftype.code v)).put f inst i j v

/-- A dependent clamp (KIND 5). -/
def Chk.clamp (c : Chk) (f : Field) (inst : Nat) (v : Rat) (i : Nat := 0) (j : Nat := 0) (ev : Ev := .FIELD_CLAMPED) : Chk :=
  c.use ev 5 f inst i j (.num v)

/-- A clamp where a condition holds. -/
def Chk.clampIf (c : Chk) (b : Bool) (f : Field) (inst : Nat) (v : Rat) (i : Nat := 0) (j : Nat := 0)
    (ev : Ev := .FIELD_CLAMPED) : Chk :=
  if b then c.clamp f inst v i j ev else c

/-- A refused object (KIND 7). -/
def Chk.refuse (c : Chk) (ev : Ev) (f : Field) (inst : Nat) (i : Nat := 0) (j : Nat := 0) (unit : Option Nat := none) : Chk :=
  c.find ev 7 f inst i j (rawWord f.ftype.code (c.s.cv f inst i j)) unit

/-- A motor object that fails a check stays unarmed. -/
def Chk.bad (c : Chk) (m : Fin 4) : Chk := { c with s := { c.s with badChk := c.s.badChk.set m true } }
def Chk.badMap (c : Chk) (m : Fin 4) : Chk := { c with s := { c.s with mapBad := c.s.mapBad.set m true } }

/-- A check for every index. -/
def Chk.each (n : Nat) (f : Fin n → Chk → Chk) (c : Chk) : Chk := forFin n f c

/-! ## The range pass -/

/-- The field of a key. -/
def keyField (key : Nat) : Option (Field × Nat × Nat × Nat) :=
  let inst := key / 4294967296 % 256
  let i := key / 256 % 256
  (findField (key / 1099511627776) inst (key / 65536 % 65536) i (key % 256)).map fun f => (f, inst, i, key % 256)

/-- One field against its range (R340); a clamped safety field leaves its functions unarmed (R275). -/
def Chk.range (c : Chk) (key : Nat) (v : CfgVal) : Chk :=
  match keyField key with
  | none => c
  | some (f, inst, i, j) =>
    match c.s.judgeField f inst i v with
    | none => c
    | some r =>
      if r.kind = 0 then c.put f inst i j r.val
      else if f.rt = .safety then
        let c1 := c.use .SAFE_FIELD_CLAMPED r.kind f inst i j r.val
        { c1 with s := { c1.s with unarmedF := key :: c1.s.unarmedF } }
      else c.use .FIELD_CLAMPED r.kind f inst i j r.val

/-! ## Chapter 1: the mapping (R24, R25, R32) -/

/-- An accepted bridge: its first slot, its record, its motor object, and whether it is NPC. -/
structure Mapped where
  slot : Fin 8
  b    : Fin 8
  mo   : Fin 4
  npc  : Bool
deriving DecidableEq, Repr

/-- The slots of a bridge. -/
def Mapped.slots (x : Mapped) : List Nat := if x.npc then [x.slot.1, x.slot.1 + 1] else [x.slot.1]

/-- The declared pairs that R220 requires. -/
def pairsOf (npc : Bool) : List Nat :=
  if npc then [2, 259, 1030, 1287, 2058, 2315] else [1, 515, 1029]

/-- The pairs of a list of bytes, as numbers; an odd byte is no pair. -/
def bytePairs : List Byte → List Nat
  | a :: b :: l => (a.toNat * 256 + b.toNat) :: bytePairs l
  | [_] => [65536]
  | [] => []

/-- ILOCK lists exactly the pairs of its topology (R220). -/
def State.ilockOk (s : State) (b : Nat) (npc : Bool) : Bool :=
  match cfgFind s.given (fieldKey Fld.BRIDGE_ILOCK b 0 0) with
  | none => true
  | some (.bytes l) => (bytePairs l).insertionSort (· ≤ ·) == pairsOf npc
  | some _ => false

/-- The bridge that a BRIDGE record asks for. -/
def State.wantedBridge (s : State) (b : Fin 8) : Option Mapped :=
  let topo := s.n Fld.BRIDGE_TOPO b
  if topo = 0 then none
  else some ⟨⟨s.n Fld.BRIDGE_SLOT b % 8, Nat.mod_lt _ (by decide)⟩, b, ⟨s.n Fld.BRIDGE_MO b % 4, Nat.mod_lt _ (by decide)⟩, topo == 2⟩

/-- A bridge breaks R24 or R220 beside those accepted. -/
def State.mapBreaks (s : State) (l : List Mapped) (x : Mapped) : Bool :=
  let same := l.filter fun y => y.mo == x.mo
  (x.npc && x.slot.1 % 2 == 1) || l.any (fun y => y.slots.any fun n => x.slots.contains n) || !s.ilockOk x.b x.npc
    || same.any (fun y => y.npc != x.npc || s.n Fld.BRIDGE_FCARR y.b != s.n Fld.BRIDGE_FCARR x.b) || decide (4 ≤ same.length)

/-- The accepted bridges, and the refused ones (R25). -/
def State.mapping (s : State) : List Mapped × List Mapped :=
  (List.finRange 8).foldl (fun (ok, no) b =>
    match s.wantedBridge b with
    | none => (ok, no)
    | some x => if s.mapBreaks ok x then (ok, no ++ [x]) else (ok ++ [x], no)) ([], [])

/-- A slot takes its bridge; a bridge that stands as it did keeps its state. -/
def Bridge.mapped (b : Bridge) (x : Option Mapped) : Bridge :=
  match x with
  | some y => if b.rec_ = some y.b ∧ b.mo = y.mo ∧ b.npc = y.npc then b else { Bridge.reset with rec_ := some y.b, mo := y.mo, npc := y.npc }
  | none => if b.rec_ = none then b else Bridge.reset

/-- The mapping takes effect. -/
def Chk.map (c : Chk) : Chk :=
  let (ok, no) := c.s.mapping
  let c1 : Chk := { c with s := { c.s with br := vgen 8 fun n => c.s.br[n].mapped (ok.find? fun x => x.slot == n) } }
  no.foldl (fun c x => (c.refuse .MAP_CONFLICT Fld.BRIDGE_SLOT x.b 0 0 (some x.slot.1)).badMap x.mo) c1

/-- CHALF of a bridge (R65), and its T_L in microseconds (R67). -/
def State.chalfOf (s : State) (n : Fin 8) : Nat := (roundQ (qdiv 200000000 (s.q Fld.BRIDGE_FCARR (s.recOf n)))).toNat
def State.loopUs (s : State) (n : Fin 8) : Rat :=
  let h := s.chalfOf n
  (if h < 10000 then 2 * h else h) / 400

/-- The whole microseconds of a bound, rounded up. -/
def boundWord (x : Rat) : Word := BitVec.ofNat 32 x.ceil.toNat

/-- A motor object takes network commands: one of its sources is a setpoint channel. -/
def State.netCommanded (s : State) (m : Fin 4) : Bool :=
  (List.range 4).any fun j => decide (1 ≤ s.n Fld.LOOP_SRC m j) && decide (s.n Fld.LOOP_SRC m j ≤ 32)

/-- R32: the command bound below a 2 kHz carrier. -/
def Chk.bounds : Chk → Chk := Chk.each 4 fun m c =>
  match c.s.bridges m with
  | n :: _ =>
    if 250 < c.s.loopUs n ∧ c.s.netCommanded m then
      c.find .CMD_BOUND_WIDENED 9 Fld.LOOP_SRC m 0 0 (boundWord (194 + 3 * c.s.loopUs n))
    else c
  | [] => c

/-! ## Chapters 2 and 3 (R44, R78, R81, R93) -/

/-- The configured bridges, lowest slot first. -/
def State.allBridges (s : State) : List (Fin 8) := (List.finRange 8).filter fun n => s.conf n

/-- R44: the lower slot keeps a common trigger. -/
def Chk.ctrig (c : Chk) : Chk :=
  c.s.allBridges.foldl (fun c n =>
    let t := c.s.n Fld.BRIDGE_CTRIG (c.s.recOf n)
    if t ≠ 0 ∧ c.s.allBridges.any (fun x => decide (x.1 < n.1) && c.s.n Fld.BRIDGE_CTRIG (c.s.recOf x) == t) then
      c.use .CTRIG_CONFLICT 7 Fld.BRIDGE_CTRIG (c.s.recOf n) 0 0 (.num 0)
    else c) c

/-- The motor object runs INTERLEAVED bridges (R77). -/
def State.interleaved (s : State) (m : Fin 4) : Bool := s.n Fld.MOTOR_BRMODE m == 0 && decide (2 ≤ (s.bridges m).length)

/-- R78: the modulation law suits the bridge. -/
def Chk.modulation (c : Chk) : Chk :=
  c.s.allBridges.foldl (fun c n =>
    let b := c.s.recOf n
    let law := c.s.n Fld.BRIDGE_MOD b
    let want := if c.s.br[n].npc then 3 else if law = 3 ∨ (law ≠ 0 ∧ c.s.interleaved c.s.br[n].mo) then 0 else law
    c.clampIf (want != law) Fld.BRIDGE_MOD b want (ev := .MOD_FORCED)) c

/-- R93 and R81: LQ above LD, CBW up to f_L/10. -/
def Chk.motors : Chk → Chk := Chk.each 4 fun m c =>
  let ld := c.s.q Fld.MOTOR_LD m
  let c1 := c.clampIf (c.s.n Fld.MOTOR_TYPE m == 1 && decide (c.s.q Fld.MOTOR_LQ m ≤ ld)) Fld.MOTOR_LQ m (1001 / 1000 * ld)
  match c1.s.bridges m with
  | n :: _ =>
    let top := 100000 / c1.s.loopUs n
    c1.clampIf (decide (top < c1.s.q Fld.LOOP_CBW m)) Fld.LOOP_CBW m top
  | [] => c1

/-! ## Chapters 4 and 5 (R98, R105, R120, R126, R129, R136) -/

/-- R98 and R105: a RING source without an angle; the HOIST mark. -/
def Chk.position : Chk → Chk := Chk.each 4 fun m c =>
  let c1 := if c.s.n Fld.MOTOR_POSSRC m = 8 ∧ c.s.n Fld.MOTOR_TYPE m ≠ 2 then
    (c.refuse .MAP_CONFLICT Fld.MOTOR_POSSRC m).bad m else c
  if !c1.s.yes Fld.MOTOR_HOIST m then c1
  else if c1.s.n Fld.MOTOR_POSMODE m = 1 then (c1.refuse .HOIST_SENSORLESS Fld.MOTOR_HOIST m).bad m
  else c1.clampIf (c1.s.n Fld.MOTOR_POSMODE m == 2) Fld.MOTOR_POSMODE m 0

/-- A list rises, strictly or not. -/
def rises (strict : Bool) : List Rat → Bool
  | a :: b :: l => (if strict then decide (a < b) else decide (a ≤ b)) && rises strict (b :: l)
  | _ => true

/-- Every field of a CURVE record is a number in its range (R138). -/
def State.curveFields (s : State) (c : Nat) : Bool :=
  s.given.all fun (key, v) =>
    key / 4294967296 != RecT.curve.code * 256 + c ||
      (match keyField key, v with
       | some (f, _), .num q => let e := domEnds f.dom; decide (e.1 ≤ q) && decide (q ≤ e.2)
       | _, _ => false)

/-- A curve is valid (R120). -/
def State.curveOk (s : State) (c : Nat) : Bool :=
  let npt := s.n Fld.CURVE_NPT c
  let xs := (List.range npt).map fun i => s.q Fld.CURVE_X c i
  let ys := (List.range npt).map fun i => s.q Fld.CURVE_Y c i
  let on := s.q Fld.CURVE_XON c
  let off := s.q Fld.CURVE_XOFF c
  decide (2 ≤ npt) && decide (npt ≤ 33) && s.curveFields c && rises true xs && rises false ys
    && xs.all (fun x => decide (0 ≤ x) && decide (x ≤ 1)) && ys.all (fun y => decide (0 ≤ y) && decide (y ≤ 1))
    && decide (1 / 1000 ≤ off) && decide (off < on) && decide (on ≤ 1 / 2)

/-- R120: the curves that the motor objects name. -/
def Chk.curves (c : Chk) : Chk :=
  let c1 := (List.range 16).foldl (fun c k =>
    if (List.finRange 4).any (fun m => c.s.n Fld.LOOP_CURVE m == k) ∧ !c.s.curveOk k then
      c.refuse .CURVE_INVALID Fld.CURVE_NPT k else c) c
  c1.each 4 fun m c => if c.s.curveOk (c.s.n Fld.LOOP_CURVE m) then c else c.bad m

/-- R126, R129 and R136: SPDBW, TMAXREF and the standstill of an induction motor. -/
def Chk.outerLoops : Chk → Chk := Chk.each 4 fun m c =>
  let top := 50000 / c.s.q Fld.LOOP_TOPER m
  let c1 := c.clampIf (decide (top < c.s.q Fld.LOOP_SPDBW m)) Fld.LOOP_SPDBW m top
  let slt := c1.s.q Fld.SAFETY_MO_SLTF 0 m
  let c2 := c1.clampIf (slt != 0 && decide (slt < c1.s.q Fld.LOOP_TMAXREF m)) Fld.LOOP_TMAXREF m slt
  c2.clampIf (c2.s.n Fld.MOTOR_TYPE m == 2 && c2.s.n Fld.MOTOR_STANDSTILL m == 1) Fld.MOTOR_STANDSTILL m 0
    (ev := .STANDSTILL_FORCED)

/-! ## Chapters 6 and 7 (R140, R159, R162 to R169) -/

/-- The module can run the spooling model of a motor object: it is in no group, or it is the one that leads for this module, and
the module may lead (log 80). -/
def State.couldLead (s : State) (m : Fin 4) : Bool :=
  decide (s.n Fld.RING_NMOD 0 ≤ 1) || !s.yes Fld.RING_MEMBER 0 m || (s.yes Fld.RING_LEADOK 0 && s.leadMo == some m)

/-- R140, R161 and R159: the ceilings of an axis, and a level-wind without its spooling model. -/
def Chk.axes : Chk → Chk := Chk.each 8 fun k c =>
  let mode := c.s.n Fld.AXIS_MODE k
  let p := c.s.n Fld.AXIS_PROFSEL k
  let top := c.s.axCeil k
  let vmax := c.s.q Fld.PROFILE_VMAX p
  if mode = 0 then c
  else
    let c1 := if top < vmax then c.find .FIELD_CLAMPED 5 Fld.PROFILE_VMAX p 0 0 (toF32 top) else c
    let v := minQ vmax top
    let c2 := c1.clampIf (decide (v < c1.s.q Fld.AXIS_HOMEV k)) Fld.AXIS_HOMEV k v
    let ok : Bool := match c2.s.axLink k with | some m => c2.s.couldLead m | none => false
    if mode = 2 ∧ !ok then c2.clamp Fld.AXIS_MODE k 0 (ev := .AX_CONFIG) else c2

/-- The detection bound D of R165 in microseconds. -/
def State.shockBound (s : State) (m : Fin 4) : Option Rat :=
  let n : Rat := s.n Fld.LOOP_SHKN m + 1
  if s.n Fld.LOOP_SHKSRC m = 0 then
    match ainOf (s.n Fld.LOOP_SHKPIN m) with
    | some i => (s.pinSeq i).map fun k =>
      let te := maxQ (s.q Fld.CELL_SQ_E_TACQ (i / 12) k 0) 100 + 150
      n * (2 ^ s.n Fld.CELL_SQ_E_AVG (i / 12) k 0 * te / 1000) + 13 / 10
    | none => none
  else (s.bridges m).head?.map fun x => n * s.loopUs x + 5

/-- R162, R163, R165 and R169: drum fields off the lead, the load pin, the shock bound, the render ceiling. -/
def Chk.drums : Chk → Chk := Chk.each 4 fun m c =>
  let away := !c.s.couldLead m
  let c1 := c.clampIf (away && c.s.yes Fld.LOOP_SHKEN m) Fld.LOOP_SHKEN m 0 (ev := .SHOCK_CONFIG)
  let c2 := c1.clampIf (away && c.s.n Fld.LOOP_HVMRUZ m != 0) Fld.LOOP_HVMRUZ m 0 (ev := .SHOCK_CONFIG)
  let pin : Bool := match ainOf (c2.s.n Fld.LOOP_SHKPIN m) with | some i => (c2.s.pinSeq i).isSome | none => false
  let c3 := c2.clampIf (c2.s.n Fld.LOOP_SHKSRC m == 0 && (!pin || away)) Fld.LOOP_SHKSRC m 1 (ev := .SHOCK_CONFIG)
  let c4 := match c3.s.shockBound m with
    | some d => if c3.s.yes Fld.LOOP_SHKEN m ∧ 20 < d then c3.find .SHOCK_BOUND_WIDENED 9 Fld.LOOP_SHKN m 0 0 (boundWord d) else c3
    | none => c3
  let slt := c4.s.q Fld.SAFETY_MO_SLTF 0 m
  let ceil := c4.s.q Fld.LOOP_RNDCEIL m
  if slt = 0 then c4.clampIf (ceil == 0 && c4.s.yes Fld.LOOP_RNDEN m) Fld.LOOP_RNDEN m 0
  else c4.clampIf (decide (9 / 10 * slt < ceil)) Fld.LOOP_RNDCEIL m (9 / 10 * slt)

/-! ## Chapters 8 and 9 (R181, R186, R207 to R209, R213) -/

/-- R181 and R186: the position against NMOD, and the group carrier. -/
def Chk.ring (c : Chk) : Chk :=
  if c.s.n Fld.RING_NMOD 0 ≤ 1 then c
  else if c.s.n Fld.RING_NMOD 0 ≤ c.s.n Fld.RING_POS 0 then
    (c.refuse .RING_CONFIG Fld.RING_POS 0).each 4 fun m c => if c.s.yes Fld.RING_MEMBER 0 m then c.bad m else c
  else c.each 4 fun m c =>
    if c.s.yes Fld.RING_MEMBER 0 m ∧ !c.s.carrierOk m then c.refuse .RING_CONFIG Fld.RING_MEMBER 0 m else c

/-- A bridge names an isolator: an output pair of ROLE = REQ and its feedback (R213). -/
def State.isolated (s : State) (n : Fin 8) : Bool :=
  let o := s.n Fld.BRIDGE_ISOOUT (s.recOf n)
  o != 0 && s.n Fld.SAFETY_SO_ROLE 0 (o - 1) == 3 && s.n Fld.BRIDGE_ISOIN (s.recOf n) != 0

/-- The emergency modes off the lead, CROF and DEGRADE. -/
def Chk.emergencies : Chk → Chk := Chk.each 4 fun m c =>
  let away := !c.s.couldLead m
  let off (c : Chk) (f : Field) : Chk := c.clampIf (away && c.s.yes f m) f m 0
  let c1 := off (off (off c Fld.EMERGENCY_EQREN) Fld.EMERGENCY_CROEN) Fld.EMERGENCY_SLKEN
  let top := c1.s.renderCeil m
  let c2 := c1.clampIf (top != 0 && decide (top < c1.s.q Fld.EMERGENCY_CROF m)) Fld.EMERGENCY_CROF m top
  c2.clampIf (c2.s.yes Fld.EMERGENCY_DEGRADE m && !(c2.s.bridges m).all fun n => c2.s.isolated n) Fld.EMERGENCY_DEGRADE m 0

/-! ## Chapter 10 (R222, R237) -/

/-- R222. -/
def Chk.interlocks (c : Chk) : Chk :=
  c.s.allBridges.foldl (fun c n =>
    let b := c.s.recOf n
    let td := c.s.q Fld.BRIDGE_TDEAD b
    c.clampIf (decide (td < c.s.q Fld.BRIDGE_TILOCK b)) Fld.BRIDGE_TILOCK b td) c

/-- R237: OV3 stands; OV2, then CHON, of the choppers on the same link input, and OV1 are lowered. -/
def Chk.levels (c : Chk) : Chk :=
  let ov3 (s : State) (n : Fin 8) : Rat := s.q Fld.PROTECT_BR_OV3 0 (s.recOf n)
  let lower (c : Chk) (f : Field) (i : Nat) (top : Rat) : Chk :=
    c.clampIf (decide (top < c.s.q f 0 i)) f 0 top.floor i 0 .PROT_CONFIG
  let c1 := c.each 4 fun h c =>
    let vin := c.s.n Fld.PROTECT_CH_VIN 0 h
    let l := c.s.allBridges.filter fun n => vin != 0 && c.s.n Fld.BRIDGE_VDCIN (c.s.recOf n) == vin
    let c2 := l.foldl (fun c n => lower c Fld.PROTECT_CH_OV2 h (99 / 100 * ov3 c.s n)) c
    l.foldl (fun c n => lower c Fld.PROTECT_CH_CHON h (c.s.q Fld.PROTECT_CH_OV2 0 h - ov3 c.s n / 100)) c2
  c1.s.allBridges.foldl (fun c n => lower c Fld.PROTECT_BR_OV1 (c.s.recOf n) (99 / 100 * ov3 c.s n)) c1

/-! ## Chapters 17, 18 and 21 (R372, R375, R386, R387, R392, R447) -/

/-- The entries of a gate control list: gates and microseconds. -/
def State.gclOf (s : State) (p : Nat) : List (Nat × Nat) :=
  ((List.range 16).map fun e => (s.n Fld.NET_PORT_GCL_GATES 0 p e, s.n Fld.NET_PORT_GCL_DUR 0 p e)).takeWhile fun x => x.2 != 0

/-- The cycle of a gate control list in microseconds. -/
def gclCycle (l : List (Nat × Nat)) : Nat := (l.map Prod.snd).sum

/-- R372: a list is used only with a cycle of 100 µs to 10 ms that keeps class 7 open. -/
def Chk.gates : Chk → Chk := Chk.each 8 fun p c =>
  let l := c.s.gclOf p
  let ok := decide (100 ≤ gclCycle l) && decide (gclCycle l ≤ 10000) && l.all fun x => decide (128 ≤ x.1)
  c.clampIf (!l.isEmpty && !ok) Fld.NET_PORT_GCL_DUR 0 0 p 0 .GCL_CONFIG

/-- A CAN record names a setpoint channel: one of its fields differs from the default (log 81). -/
def State.canNames (s : State) (c j : Nat) : Bool :=
  [Fld.CAN_SPC_ID, Fld.CAN_SPC_IDE, Fld.CAN_SPC_OFS, Fld.CAN_SPC_SEQOFS, Fld.CAN_SPC_FMT, Fld.CAN_SPC_ORDER, Fld.CAN_SPC_FS].any
    fun f => s.q f c j != f.dflt

/-- A binding of a channel by a CAN record stands: NET does not bind it, nor does a lower controller (R375, R392). -/
def State.canBinds (s : State) (c j : Nat) : Bool :=
  s.canNames c j && s.n Fld.NET_SPC_PORTS 0 j == 0 && !(List.range c).any fun x => s.canNames x j

/-- R375 and R392. -/
def Chk.channels (c : Chk) : Chk :=
  c.each 4 fun k c => c.each 32 fun j c =>
    if c.s.canNames k j ∧ !c.s.canBinds k j then c.refuse .SPC_CONFLICT Fld.CAN_SPC_ID k j else c

/-- The nominal and the data rate of a controller in bit/s (R385). -/
def State.canRate (s : State) (c : Nat) : Rat :=
  80000000 / (s.q Fld.CAN_NBRP c * (1 + s.q Fld.CAN_NTSEG1 c + s.q Fld.CAN_NTSEG2 c))
def State.canDataRate (s : State) (c : Nat) : Rat :=
  80000000 / (s.q Fld.CAN_DBRP c * (1 + s.q Fld.CAN_DTSEG1 c + s.q Fld.CAN_DTSEG2 c))

/-- The rates of a controller are in range (R387). -/
def State.canRatesOk (s : State) (c : Nat) : Bool :=
  let n := s.canRate c
  let d := s.canDataRate c
  decide (10000 ≤ n) && decide (n ≤ 1000000) && (!s.yes Fld.CAN_FDEN c || (decide (n ≤ d) && decide (d ≤ 8000000)))

/-- R386 and R387. -/
def Chk.cans (c : Chk) : Chk :=
  let c1 := c.each 4 fun k c =>
    let c2 := c.clampIf (c.s.yes Fld.CAN_TRIPLE k && decide (250000 < c.s.canRate k)) Fld.CAN_TRIPLE k 0
    if c2.s.yes Fld.CAN_EN k ∧ !c2.s.canRatesOk k then c2.use .CAN_CONFIG 7 Fld.CAN_EN k 0 0 (.num 0) else c2
  c1.each 4 fun x c =>
    let port (f : Field) : Nat := c.s.n f 0 x
    let noFd (p : Nat) : Bool := decide (8 ≤ p) && !c.s.yes Fld.CAN_FDEN (p - 8)
    if c.s.n Fld.SAFETY_CONN_NET 0 x = 2 ∧ (noFd (port Fld.SAFETY_CONN_PORTA) || noFd (port Fld.SAFETY_CONN_PORTB)) then
      c.refuse .CAN_CONFIG Fld.SAFETY_CONN_NET 0 x else c

/-- A capture source that R447 lists. -/
def sourceKnown (v : Nat) : Bool :=
  let i := v % 256
  match v / 256 with
  | 0 => true
  | 1 => decide (i < 96)
  | 2 => decide (i < 64) && decide (i % 16 < 9)
  | 3 => decide (i < 8)
  | 4 => decide (i < 8)
  | 5 => decide (i < 4)
  | _ => false

/-- R447: an unknown source reads as none. -/
def Chk.sources (c : Chk) : Chk :=
  c.each 8 fun k c => c.each 12 fun h c =>
    if sourceKnown (c.s.n Fld.SERVICE_CAP_SRC 0 k h) then c
    else c.use .CAP_CONFIG 3 Fld.SERVICE_CAP_SRC 0 k h (.num 0)

/-! ## The whole check -/

/-- The values in force and the findings, from the configuration as given: the range pass in key order, then the rules in chapter
order (R340). -/
def State.check (s : State) : Chk :=
  let c0 : Chk := ⟨{ s with used := [], unarmedF := [], mapBad := tbl 4 false, badChk := tbl 4 false }, []⟩
  let c1 := s.given.foldl (fun c x => c.range x.1 x.2) c0
  c1.map.bounds.ctrig.modulation.motors.position.curves.outerLoops.axes.drums.ring.emergencies.interlocks.levels.gates.channels.cans.sources

end Sys2Proof.Machine
end

