-- ==== Sys2Proof/Machine/Ether.lean ====
section
/-! DEFINITION. The Ethernet switch: ports, forwarding, setpoint frames, PRP (R369 to R377), and device time with IEEE 802.1AS
(R378 to R382). -/

namespace Sys2Proof.Machine

def State.onEth (s : State) (f : Ether → Ether) : State := { s with eth := f s.eth }
def State.onPrp (s : State) (k : Fin 4) (f : PrpPair → PrpPair) : State :=
  { s with eth := { s.eth with prp := vmod s.eth.prp k f } }
def State.onTime (s : State) (f : TimeUnit → TimeUnit) : State := { s with time := f s.time }

/-! ## Ports (R369) -/

/-- Port 8 is ETHM. -/
def ethm : Fin 9 := 8

/-- A port that carries frames. -/
def State.portLive (s : State) (p : Fin 9) : Bool := s.eth.port[p].en && s.eth.port[p].link

/-- The port of a field whose codes name NONE and ETH0 to ETH7. -/
def ethOf (code : Nat) : Option (Fin 9) := if code = 0 then none else some ⟨(code - 1) % 8, by omega⟩

/-- The ports of a PRP pair, LAN A and LAN B (R376). -/
def State.lanPort (s : State) (k : Fin 4) (b : Bool) : Option (Fin 9) :=
  ethOf (s.n (if b then Fld.NET_PRP_PORTB else Fld.NET_PRP_PORTA) 0 k)

/-- The pair that a port belongs to, and whether it is LAN B. -/
def State.lanOf (s : State) (p : Fin 9) : Option (Fin 4 × Bool) :=
  (List.finRange 4).findSome? fun k =>
    if s.lanPort k false = some p then some (k, false) else if s.lanPort k true = some p then some (k, true) else none

/-- The other port of the pair of a port. -/
def State.partner (s : State) (p : Fin 9) : Option (Fin 9) := match s.lanOf p with
  | some (k, b) => s.lanPort k !b
  | none => none

/-- A port takes its configuration; its gate control list starts where it is usable (R369, R372). -/
def State.portConf (s : State) (p : Fin 8) : State :=
  let en := s.yes Fld.NET_PORT_EN 0 p
  s.onPort ⟨p.1, by omega⟩ fun x => { x with
    en := en, link := x.link && en, asCap := x.asCap && en, gclOn := !(s.gclOf p).isEmpty, gclAt := gclIdle }

/-- ETHM is a 1,000 Mbit/s port that is always up. -/
def State.ethmUp (s : State) : State := s.onPort ethm fun x => { x with en := true, link := true, speed := 2 }

/-! ## PRP LANs (R377) -/

/-- The state of a LAN changes, and its event is raised; AUX 0 names LAN A and 1 LAN B. -/
def State.lanSet (s : State) (k : Fin 4) (b up : Bool) : State :=
  let x := s.eth.prp[k]
  if (if b then x.bUp else x.aUp) = up then s
  else (s.onPrp k fun x => if b then { x with bUp := up } else { x with aUp := up }).raise
    (if up then .PRP_LAN_UP else .PRP_LAN_DOWN) k (bit 0 b)

/-- No frame with a valid trailer has come on a LAN for LANTO, while some came on the other. -/
def State.lanSilent (s : State) (k : Fin 4) (b : Bool) : Bool :=
  let x := s.eth.prp[k]
  let mine := if b then x.bLast else x.aLast
  let other := if b then x.aLast else x.bLast
  decide (mine + s.n Fld.NET_PRP_LANTO 0 k * ms ≤ s.up ∧ mine < other)

/-- PRP_LAN_TIMEOUT (R377): LANTO has passed on a silent LAN. -/
def State.lanTimeout (s : State) (k : Fin 4) (b : Bool) : State :=
  match s.lanPort k b with
  | some _ => if s.lanSilent k b then s.lanSet k b false else s
  | none => s

/-- The link of a port is lost, or held down. -/
def State.linkDown (s : State) (p : Fin 9) (aux : Nat) : State :=
  let s1 := (s.onPort p fun x => { x with link := false, asCap := false }).raise .ETH_LINK_DOWN p aux
  match s.lanOf p with
  | some (k, b) => s1.lanSet k b false
  | none => s1

/-- ETH_LINK_CHANGE (R369): the SGMII link bit; a half-duplex partner leaves the port down. -/
def State.linkChange (s : State) (p : Fin 8) (up half : Bool) (speed : BitVec 2) : State :=
  let q : Fin 9 := ⟨p.1, by omega⟩
  let x := s.eth.port[q]
  if !x.en then s
  else if up ∧ half then s.linkDown q 2
  else if !up then (if x.link then s.linkDown q 0 else s)
  else
    let fixed := s.n Fld.NET_PORT_SPEED 0 p
    let s1 := s.onPort q fun x => { x with link := true, speed := if fixed = 0 then min 2 speed.toNat else fixed - 1 }
    let s2 := s1.raiseIf (!x.link) .ETH_LINK_UP p
    match s.lanOf q with
    | some (k, b) => if s2.lanSilent k b then s2 else s2.lanSet k b true
    | none => s2

/-- GCL_ENTRY_END (R372): the next entry of the list applies; after the last the first. -/
def State.gclNext (s : State) (p : Fin 8) : State :=
  let n := (s.gclOf p).length
  s.onPort ⟨p.1, by omega⟩ fun x => if x.gclOn then { x with gclAt := if x.gclAt + 1 < n then x.gclAt + 1 else 0 } else x

/-! ## Egress (R373) -/

/-- A frame sent on a port, or dropped where its queue is full. -/
def State.egress (s : State) (full : BitVec 9) (q : Fin 9) : State :=
  if !s.portLive q then s
  else if full.getLsbD q then
    let s1 := s.onPort q fun x => { x with drop := bump x.drop }
    (s1.onEth fun e => { e with dropEv := true }).raiseIf (!s.eth.dropEv) .ETH_DROP q
  else s.onPort q fun x => { x with tx := bump x.tx }

/-- A frame that the module sends itself on a port, in a class that has room. -/
def State.send (s : State) (q : Fin 9) : State := s.egress 0 q

/-! ## Device time (R378 to R382) -/

/-- This module's system identity; none where it may not be grandmaster (R380). -/
def State.ownIdent (s : State) : Option (BitVec 112) :=
  let p := s.n Fld.NET_ASPRIO1 0
  if p = 255 then none else some (BitVec.ofNat 112 (p * 2 ^ 104 + Config.asIdent.toNat))

/-- An identity is better than another, or there is no other: the lower one wins. -/
def betterThan (a : BitVec 112) : Option (BitVec 112) → Bool
  | none => true
  | some b => decide (a.toNat < b.toNat)

/-- A grandmaster is selected, or none; a change is reported, and ends holdover where one is selected (R381). -/
def State.setGm (s : State) (g : Option (BitVec 112)) (port : Nat) : State :=
  let s1 := s.onTime fun t => { t with gm := g, gmPort := port, syncAt := if g = t.gm then t.syncAt else s.up, hold := t.hold && (g.isNone || g == t.gm) }
  if g = s.time.gm then s1 else (s1.onTime fun t => { t with okN := 0 }).raise .AS_GM_CHANGE

/-- An Announce: the best identity of all, this module's own included, is the grandmaster (R380). -/
def State.announce (s : State) (p : Fin 8) (a : BitVec 112) : State :=
  let ok := betterThan a s.ownIdent
  if s.time.gm.isSome ∧ s.time.gmPort = p.1 then (if ok then s.setGm (some a) p.1 else s.setGm none 15)
  else if ok ∧ betterThan a s.time.gm then s.setGm (some a) p.1
  else s

/-- A Sync with its Follow_Up from the grandmaster: the lock state, and the correction of device time (R381, R382). The rate that
the servo sets within ±100 ppm is free (log 90). -/
def State.syncOffset (s : State) (ofs : Rat) : State :=
  let near := decide (absQ ofs ≤ 50)
  let n := if near then min 16 (s.time.okN + 1) else 0
  let lost := s.time.asLock && decide (200 < absQ ofs)
  let step := s.atRest && decide (1000 < absQ ofs)
  let (r, s0) := s.takeRat
  let s1 := s0.onTime fun t => { t with
    ofs := ofs, okN := n, syncAt := s.up, asLock := if lost then false else t.asLock || decide (n = 16)
    rate := if step then t.rate else clampQ (-100) 100 r }
  let s2 : State := if step then s1.timeStep (roundQ ofs) TimeSrc.as_.code else s1
  s2.raiseIf lost .ASLOCK_LOST

/-- A message to the time unit. -/
def State.asMessage (s : State) (p : Fin 8) : AsMsg → State
  | .pdelay d => s.onPort ⟨p.1, by omega⟩ fun x => { x with asCap := decide (d ≤ 800) }
  | .announce a => s.announce p a
  | .sync ofs => if s.timeSource = .as_ ∧ s.time.gmPort = p.1 then s.syncOffset ofs else s

/-- The interval of Sync in nanoseconds: 2^ASSYNC s (R380). -/
def State.syncEvery (s : State) : Nat := sec / 2 ^ (-(s.q Fld.NET_ASSYNC 0).floor).toNat

/-- AS_SYNC_TIMEOUT (R380, R381): no Sync has come for 3 intervals; the servo holds its last rate. -/
def State.syncTimeout (s : State) : State :=
  if s.time.gm.isNone ∨ s.up < s.time.syncAt + 3 * s.syncEvery then s
  else
    let lost := s.time.asLock
    let s1 := (s.onTime fun t => { t with asLock := false, okN := 0 }).raiseIf lost .ASLOCK_LOST
    (s1.setGm none 15).onTime fun t => { t with hold := true }

/-- AS_SYNC_SEND (R380): Sync and Follow_Up on every port but the one towards the grandmaster. -/
def State.syncSend (s : State) : State :=
  if s.time.gm.isNone ∧ s.ownIdent.isNone then s
  else forFin 8 (fun p s =>
    let q : Fin 9 := ⟨p.1, by omega⟩
    if s.portLive q ∧ s.eth.port[q].asCap ∧ s.time.gmPort ≠ p.1 then
      ((s.send q).send q).onEth fun e => { e with sentSync := e.sentSync + 1 }
    else s) s

/-- AS_PDELAY_SEND (R380): a peer delay request on every port. -/
def State.pdelaySend (s : State) : State :=
  forFin 8 (fun p s =>
    let q : Fin 9 := ⟨p.1, by omega⟩
    if s.portLive q then (s.send q).onEth fun e => { e with sentPdelay := e.sentPdelay + 1 } else s) s

/-- DEVICE_TIME_WRAP (R378, R12): device time begins again at 0. -/
def State.timeWrap (s : State) : State :=
  ({ s with dev := 0 }).raise .TIME_WRAP 0xFF 0 (bytesLE 4 0x000A0008)

/-! ## Setpoint frames (R374) -/

/-- The `n` bytes at an offset of a payload as a big-endian or little-endian number, where it is long enough. -/
def numAt (b : List Byte) (off n : Nat) (little : Bool) : Option Nat :=
  let x := (b.drop off).take n
  if x.length = n then some (if little then ofBytesLE x else ofBytesBE x) else none

/-- The value of a field of a frame in FMT S16, S32 or F32; of an F32 infinity ± an unbounded number, of a NaN a free one. -/
def State.fmtValue (s : State) (fmt : Nat) (raw : Nat) : Rat × State :=
  match fmt with
  | 0 => ((signed 16 raw : Rat), s)
  | 1 => ((signed 32 raw : Rat), s)
  | _ => match ofF32 (BitVec.ofNat 32 raw) with
    | .num q => (q, s)
    | _ => if raw = 0x7F800000 then (2 ^ 200, s) else if raw = 0xFF800000 then (-(2 ^ 200), s) else s.takeRat

/-- Bytes that a value of a format takes. -/
def fmtLen (fmt : Nat) : Nat := if fmt = 0 then 2 else 4

/-- A channel is refreshed (R116, R374): `at_` is the receive stamp, `end_` the frame's end stamp from which `CMDLAT` is
measured (R33). -/
def State.channelValue (s : State) (j : Fin 32) (x : Rat) (at_ end_ : Nat) : State :=
  let s1 := (s.onSpc j fun c => { c with value := clampQ (-1) 1 x, at_ := some at_ }).spcValue j
  { s1 with cmd := s1.cmd.map fun c => { c with
      latRuns := c.latRuns.map fun r => if r.stage = .new ∧ r.start = s.up then { r with start := end_ } else r } }

/-- The sequence test of R374: the channel after it, and whether the frame passes. `top` is the largest step ahead. -/
def SetpointCh.sequence (c : SetpointCh) (q modulus top : Nat) : SetpointCh × Bool :=
  match c.seq with
  | none => ({ c with seq := some q }, true)
  | some l =>
    let d := (q + modulus - l) % modulus
    if 1 ≤ d ∧ d ≤ top then ({ c with seq := some q }, true) else ({ c with disc := bump c.disc }, false)

/-- A frame matches a channel. -/
def State.netMatches (s : State) (p : Fin 8) (f : EthFrame) (j : Fin 32) : Bool :=
  let et := s.n Fld.NET_SPC_ETYPE 0 j
  (BitVec.ofNat 8 (s.n Fld.NET_SPC_PORTS 0 j)).getLsbD p && f.vid == s.n Fld.NET_SPC_VID 0 j && f.etype.toNat == et &&
    (et != 0x0800 || f.udp == some (s.n Fld.NET_SPC_UDPPORT 0 j))

/-- A matching frame refreshes its channel. -/
def State.netChannel (s : State) (p : Fin 8) (f : EthFrame) (j : Fin 32) : State :=
  let fmt := s.n Fld.NET_SPC_FMT 0 j
  let sq := s.n Fld.NET_SPC_SEQOFS 0 j
  match numAt f.payload (s.n Fld.NET_SPC_OFS 0 j) (fmtLen fmt) false, numAt f.payload sq 2 false with
  | none, _ => s
  | some raw, q =>
    let (c, ok) : SetpointCh × Bool :=
      if sq = 0xFF then (s.spc[j], true)
      else match q with
        | none => (s.spc[j], false)
        | some q => s.spc[j].sequence q 65536 32767
    let s1 := s.onSpc j fun _ => c
    if !ok then s1
    else
      let (x, s2) := s1.fmtValue fmt raw
      let lat := s.n Fld.NET_PORT_RXLAT 0 p
      s2.channelValue j (x / s.q Fld.NET_SPC_FS 0 j) (s.up - f.dur - lat) (s.up - lat)

/-! ## Reception (R370, R374, R376) -/

/-- The connection whose safe frames a frame carries, and whether it came on PORTB (R269, R376). -/
def State.safeConnOf (s : State) (p : Fin 8) (f : EthFrame) : Option (Fin 4 × Bool) :=
  let l : List (Fin 4) := (List.finRange 4).filter fun c => s.n Fld.SAFETY_CONN_NET 0 c == 1 && f.etype.toNat == s.n Fld.SAFETY_CONN_ETYPE 0 c
    && (s.n Fld.SAFETY_CONN_PORTA 0 c == p.1 || s.n Fld.SAFETY_CONN_PORTB 0 c == p.1)
  let own : Option (Fin 4) := l.find? fun c => s.n Fld.SAFETY_CONN_CONNID 0 c == (pdu16 f.payload 0).toNat
  (own <|> l.head?).map fun c => (c, s.n Fld.SAFETY_CONN_PORTA 0 c != p.1)

/-- A trailer marks its LAN as alive; one that names the other LAN is counted (R376, R377). -/
def State.trailer (s : State) (p : Fin 9) (f : EthFrame) : State :=
  match s.lanOf p, f.prp with
  | some (k, b), some (_, lanB) =>
    if lanB = b then
      (s.onPrp k fun x => if b then { x with bLast := s.up } else { x with aLast := s.up }).lanSet k b true
    else s.onPrp k fun x => { x with wrong := bump x.wrong }
  | _, _ => s

/-- Duplicate discard: the pair's table after the frame, and whether the frame is a second copy (R376). -/
def State.prpSeen (s : State) (p : Fin 9) (f : EthFrame) : State × Bool :=
  match s.lanOf p, f.prp with
  | some (k, _), some (seq, _) =>
    let live := s.eth.prp[k].seen.filter fun x => decide (s.up < x.at_ + 400 * ms)
    if live.any fun x => x.mac == f.src && x.seq == seq then
      (s.onPrp k fun x => { x with seen := live, dup := bump x.dup }, true)
    else (s.onPrp k fun x => { x with seen := (⟨f.src, seq, s.up⟩ :: live).take 1024 }, false)
  | _, _ => (s, false)

/-- A supervision frame enters its sender in the node table of 256 entries. -/
def State.nodeSeen (s : State) (p : Fin 9) (f : EthFrame) : State :=
  match s.lanOf p with
  | some (k, _) =>
    let l := s.eth.prp[k].nodes
    if f.superv ∧ !l.contains f.src ∧ l.length < 256 then s.onPrp k fun x => { x with nodes := l ++ [f.src] } else s
  | none => s

/-- The VLAN of a frame on a port, and the member ports of it; none where no entry names it (R370). -/
def State.vlanOf (s : State) (p : Fin 8) (f : EthFrame) : Nat := if f.vid = 0 then s.n Fld.NET_PORT_PVID 0 p else f.vid
def State.membersOf (s : State) (vid : Nat) : Option (BitVec 9) :=
  ((List.range 32).find? fun v => s.n Fld.NET_VLAN_VID 0 v == vid).map fun v => BitVec.ofNat 9 (s.n Fld.NET_VLAN_MEMBERS 0 v)

/-- A group address, and the addresses that a bridge never forwards. -/
def groupAddr (m : BitVec 48) : Bool := m.getLsbD 40
def linkLocal (m : BitVec 48) : Bool := decide (0x0180C2000000 ≤ m.toNat ∧ m.toNat ≤ 0x0180C200000F)

/-- The source address is learned; a full table of 4,096 entries learns no more (R370). -/
def State.learn (s : State) (vid port : Nat) (f : EthFrame) : State :=
  if groupAddr f.src then s
  else s.onEth fun e =>
    let rest := e.mac.filter fun x => !(x.mac == f.src && x.vid == vid)
    if rest.length < 4096 then { e with mac := ⟨f.src, vid, port, s.up⟩ :: rest } else e

/-- The ports a frame leaves by: the learned one with its LAN partner, else every member but the ingress; never the partner of the
ingress (R370, R376). -/
def State.outPorts (s : State) (p : Fin 9) (vid : Nat) (mem : BitVec 9) (f : EthFrame) : List (Fin 9) :=
  let known := if groupAddr f.dst then none else s.eth.mac.find? fun x => x.mac == f.dst && x.vid == vid
  (List.finRange 9).filter fun q =>
    mem.getLsbD q && q != p && s.partner p != some q &&
      (match known with
       | some e => q.1 == e.port || (s.partner q).map Fin.val == some e.port
       | none => true)

/-- The bridge forwards a frame (R370). -/
def State.forward (s : State) (p : Fin 8) (f : EthFrame) (full : BitVec 9) : State :=
  let q : Fin 9 := ⟨p.1, by omega⟩
  let vid := s.vlanOf p f
  match s.membersOf vid with
  | none => s
  | some mem =>
    if !mem.getLsbD p ∨ linkLocal f.dst then s
    else
      let s1 := s.learn vid p f
      (s1.outPorts q vid mem f).foldl (fun s x => s.egress full x) s1

/-- A frame that is no safe frame and no second copy: the time unit, the setpoint channels and the bridge take it. -/
def State.accepted (s : State) (p : Fin 8) (f : EthFrame) (full : BitVec 9) : State :=
  match f.asMsg with
  | some a => s.asMessage p a
  | none =>
    let l := (List.finRange 32).filter fun j => s.netMatches p f j
    let s1 := l.foldl (fun s j => s.netChannel p f j) s
    if l.any (fun j => s.yes Fld.NET_SPC_CONSUME 0 j) then s1 else s1.forward p f full

/-- The longest frame that the switch takes: 1,522 bytes tagged (R370). -/
def frameMax (f : EthFrame) : Nat := if f.vid = 0 then 1518 else 1522

/-- ETH_FRAME_RECEIVED (R370): a whole frame has arrived at a port; `full` marks the egress queues without room. -/
def State.ethReceive (s : State) (p : Fin 8) (f : EthFrame) (full : BitVec 9) : State :=
  let q : Fin 9 := ⟨p.1, by omega⟩
  if !s.portLive q ∨ !f.fcsOk ∨ frameMax f < f.len then s
  else
    let s1 := (s.onPort q fun x => { x with rx := bump x.rx }).trailer q f
    match s1.safeConnOf p f with
    | some (c, b) => s1.safeCopy c b (f.payload.take 20)
    | none =>
      let (s2, dup) := s1.prpSeen q f
      if dup then s2 else (s2.nodeSeen q f).accepted p f full

/-- PRP_SUPERVISION_SEND (R376): each pair sends a supervision frame on both ports. -/
def State.supervise (s : State) : State :=
  forFin 4 (fun k s =>
    match s.lanPort k false, s.lanPort k true with
    | some a, some b =>
      if s.portLive a ∨ s.portLive b then ((s.send a).send b).onPrp k fun x => { x with seq := x.seq + 1 } else s
    | _, _ => s) s

/-- MAC_ENTRY_AGING (R370): the entry seen longest ago leaves the table once NET.AGE has passed. -/
def State.macAge (s : State) : State :=
  s.onEth fun e => match e.mac.getLast? with
    | none => e
    | some z =>
      let old := e.mac.foldl (fun a x => if x.seen < a.seen then x else a) z
      if old.seen + s.n Fld.NET_AGE 0 * sec ≤ s.up then { e with mac := e.mac.filter fun x => x != old } else e

/-- ETH_COUNTERS_CLEAR: `ETHCTL.CNTCLR`. -/
def State.ethClear (s : State) : State :=
  { s with
    eth := { s.eth with
      port := s.eth.port.map fun x => { x with rx := .zero, tx := .zero, drop := .zero }
      prp := s.eth.prp.map fun x => { x with dup := .zero, wrong := .zero }
      dropEv := false }
    spc := s.spc.map fun c => { c with disc := .zero } }

/-! ## Commands -/

/-- ETH_FRAME_RECEIVED: see `State.ethReceive`. -/
def execEthFrameReceived (p : Fin 8) (f : EthFrame) (full : BitVec 9) (s : State) : Host.Outcome State Fault Refusal :=
  .next (s.ethReceive p f full)

/-- ETH_LINK_CHANGE: see `State.linkChange`. -/
def execEthLinkChange (p : Fin 8) (up half : Bool) (speed : BitVec 2) (s : State) : Host.Outcome State Fault Refusal :=
  .next (s.linkChange p up half speed)

/-- GCL_ENTRY_END: see `State.gclNext`. -/
def execGclEntryEnd (p : Fin 8) (s : State) : Host.Outcome State Fault Refusal := .next (s.gclNext p)

/-- PRP_SUPERVISION_SEND: see `State.supervise`. -/
def execPrpSupervisionSend (s : State) : Host.Outcome State Fault Refusal := .next s.supervise

/-- PRP_LAN_TIMEOUT: see `State.lanTimeout`. -/
def execPrpLanTimeout (k : Fin 4) (lanB : Bool) (s : State) : Host.Outcome State Fault Refusal := .next (s.lanTimeout k lanB)

/-- AS_SYNC_SEND: see `State.syncSend`. -/
def execAsSyncSend (s : State) : Host.Outcome State Fault Refusal := .next s.syncSend

/-- AS_PDELAY_SEND: see `State.pdelaySend`. -/
def execAsPdelaySend (s : State) : Host.Outcome State Fault Refusal := .next s.pdelaySend

/-- AS_SYNC_TIMEOUT: see `State.syncTimeout`. -/
def execAsSyncTimeout (s : State) : Host.Outcome State Fault Refusal := .next s.syncTimeout

/-- MAC_ENTRY_AGING: see `State.macAge`. -/
def execMacEntryAging (s : State) : Host.Outcome State Fault Refusal := .next s.macAge

/-- ETH_COUNTERS_CLEAR: see `State.ethClear`. -/
def execEthCountersClear (s : State) : Host.Outcome State Fault Refusal := .next s.ethClear

/-- DEVICE_TIME_WRAP: see `State.timeWrap`. -/
def execDeviceTimeWrap (s : State) : Host.Outcome State Fault Refusal := .next s.timeWrap

end Sys2Proof.Machine
end

