-- ==== Sys2Proof/Machine/CanBus.lean ====
section
/-! DEFINITION. The CAN controllers: reception, transmission, error states (R384 to R399), and the sending of safe frames (R269,
R394). -/

namespace Sys2Proof.Machine

/-! ## On and off (R387, R399) -/

/-- A controller goes bus-on where EN is in force, else off (R387). -/
def State.canStart (s : State) (c : Fin 4) : State :=
  let on := s.yes Fld.CAN_EN c
  s.onCan c fun x => { x with
    on := on, mon := on && s.n Fld.CAN_MODE c == 1, busOff := false, passive := false, tec := 0, rec_ := 0, recover := none
    safeTx := x.safe.isSome }

/-- A controller goes off for a new bit timing (R399). -/
def State.canStop (s : State) (c : Fin 4) : State := s.onCan c fun x => { x with on := false, mon := false }

/-- CAN_RECONFIGURE (R399): a controller that a delta has taken off comes back. -/
def State.canReconf (s : State) (c : Fin 4) : State :=
  if s.rst.stage < 7 ∨ s.can[c].on ∨ !s.yes Fld.CAN_EN c then s else s.canStart c

/-- The controller takes part in the traffic of its bus. -/
def Can.live (x : Can) : Bool := x.on && !x.busOff

/-! ## Error states (R397) -/

/-- The counts change, and with them the error state: the events of R397 in its order. -/
def State.errCounts (s : State) (c : Fin 4) (tec rec_ : Nat) : State :=
  let x := s.can[c]
  let warn := (decide (x.tec < 96) && decide (96 ≤ tec)) || (decide (x.rec_ < 96) && decide (96 ≤ rec_))
  let pas := decide (127 < tec) || decide (127 < rec_)
  let off := decide (255 < tec)
  let s1 := s.onCan c fun x => { x with
    tec := tec, rec_ := rec_, passive := pas && !off, busOff := off
    recover := if off then (if s.yes Fld.CAN_BOAUTO c then some s.up else none) else x.recover }
  (((s1.raiseIf warn .CAN_ERR_WARN c).raiseIf (pas && !x.passive) .CAN_ERR_PASSIVE c).raiseIf off .CAN_BUS_OFF c).raiseIf
    (!pas && x.passive) .CAN_BUS_ON c

/-- A reception without error: REC falls by 1, and from above 127 to a value of 119 to 127 that ISO 11898-1 leaves open. -/
def State.recFalls (s : State) (c : Fin 4) : State :=
  let x := s.can[c]
  if 127 < x.rec_ then
    let (w, s1) := s.takeWord
    s1.errCounts c x.tec (119 + w.toNat % 9)
  else s.errCounts c x.tec (x.rec_ - 1)

/-- CAN_RECEIVE_ERROR (R397): an error of a reception; `recN` is the count after it. -/
def State.canRxError (s : State) (c : Fin 4) (err : BitVec 3) (dataPhase : Bool) (recN : Nat) : State :=
  let x := s.can[c]
  if !x.live ∨ x.mon then s
  else (s.onCan c fun x => if dataPhase then { x with dlec := err.toNat } else { x with lec := err.toNat }).errCounts c x.tec
    (min 255 recN)

/-- CAN_RECOVER (R397): with BOAUTO = 0 the count of recessive bits starts here. -/
def State.canRecover (s : State) (c : Fin 4) : State :=
  if s.can[c].busOff ∧ s.can[c].recover = none then s.onCan c fun x => { x with recover := some s.up } else s

/-- The shortest time that 128 occurrences of 11 recessive bits take, in nanoseconds (R397). -/
def State.canQuiet (s : State) (c : Fin 4) : Nat := (qdiv (128 * 11 * 1000000000) (s.canRate c)).floor.toNat

/-- CAN_BUSOFF_RECOVERED (R397): 128 occurrences of 11 recessive bits. -/
def State.canBack (s : State) (c : Fin 4) : State :=
  if s.can[c].busOff ∧ s.can[c].recover.any fun t => decide (t + s.canQuiet c ≤ s.up) then
    (s.onCan c fun x => { x with busOff := false, passive := false, tec := 0, rec_ := 0, recover := none, safeTx := x.safe.isSome }).raise
      .CAN_BUS_ON c
  else s

/-! ## Reception (R388 to R392) -/

/-- `CANTS` at a time so many nanoseconds ago (R390). -/
def State.canStamp (s : State) (ago : Nat) : Word := BitVec.ofNat 32 ((s.dev - BitVec.ofNat 64 ago).toNat / 1000)

/-- A format code STD or EXT, or ANY where 2, accepts a frame. -/
def fmtAccepts (code : Nat) (b : Bool) : Bool := code == 2 || (code == 1) == b

/-- A filter of the controller accepts a frame (R388). -/
def State.filterHit (s : State) (c : Fin 4) (f : CanFrame) (i : Nat) : Bool :=
  s.yes Fld.CAN_FLT_EN c i && fmtAccepts (s.n Fld.CAN_FLT_IDE c i) f.ide && fmtAccepts (s.n Fld.CAN_FLT_FDF c i) f.fdf &&
    (f.id ^^^ BitVec.ofNat 29 (s.n Fld.CAN_FLT_ID c i)) &&& BitVec.ofNat 29 (s.n Fld.CAN_FLT_MASK c i) == 0

/-- The safe connection that takes a frame, and whether this controller is its PORTB (R391); an identifier above 0x7FF has 29 bits
(log 91). -/
def State.canSafe (s : State) (c : Fin 4) (f : CanFrame) : Option (Fin 4 × Bool) :=
  let id (x : Fin 4) : Nat := s.n Fld.SAFETY_CONN_CANID 0 x
  let l : Option (Fin 4) := (List.finRange 4).find? fun x => s.n Fld.SAFETY_CONN_NET 0 x == 2 && id x == f.id.toNat
    && f.ide == decide (0x7FF < id x) && (s.n Fld.SAFETY_CONN_PORTA 0 x == 8 + c.1 || s.n Fld.SAFETY_CONN_PORTB 0 x == 8 + c.1)
  if f.fdf ∧ f.data.length = 20 then l.map fun x => (x, s.n Fld.SAFETY_CONN_PORTA 0 x != 8 + c.1) else none

/-- A frame updates a channel (R392). -/
def State.canChannel (s : State) (c : Fin 4) (f : CanFrame) (sofAgo endAgo : Nat) (j : Fin 32) : State :=
  let fmt := s.n Fld.CAN_SPC_FMT c j
  let little := s.n Fld.CAN_SPC_ORDER c j == 0
  let len := if fmt = 0 then 1 else if fmt = 1 then 2 else 4
  let sq := s.n Fld.CAN_SPC_SEQOFS c j
  let data := if f.rtr then [] else f.data
  let discard := s.onSpc j fun x => { x with disc := bump x.disc }
  match numAt data (s.n Fld.CAN_SPC_OFS c j) len little with
  | none => discard
  | some raw =>
    let (x, ok) : SetpointCh × Bool :=
      if sq = 0xFF then (s.spc[j], true)
      else match numAt data sq 1 true with
        | none => ({ s.spc[j] with disc := bump s.spc[j].disc }, false)
        | some q => s.spc[j].sequence q 256 127
    let s1 := s.onSpc j fun _ => x
    if !ok then s1
    else
      let (v, s2) : Rat × State := if fmt = 0 then ((signed 8 raw : Rat), s1) else s1.fmtValue (fmt - 1) raw
      let lat := s.n Fld.CAN_RXLAT c
      s2.channelValue j (v / s.q Fld.CAN_SPC_FS c j) (s.up - sofAgo - lat) (s.up - endAgo - lat)

/-- The intake engine takes a frame for the channels bound to it. -/
def State.canIntake (s : State) (c : Fin 4) (f : CanFrame) (sofAgo endAgo : Nat) : State :=
  forFin 32 (fun j s =>
    if s.canBinds c j ∧ s.n Fld.CAN_SPC_ID c j = f.id.toNat ∧ ((s.n Fld.CAN_SPC_IDE c j == 1) == f.ide) then
      s.canChannel c f sofAgo endAgo j
    else s) s

/-- A frame for a queue that the management firmware or the host reads (R389). -/
def State.canQueue (s : State) (c : Fin 4) (second : Bool) (x : CanRx) : State :=
  let k := s.can[c]
  let l := if second then k.rx1 else k.rx0
  if l.length < 64 then s.onCan c fun k => if second then { k with rx1 := l ++ [x] } else { k with rx0 := l ++ [x] }
  else
    (s.onCan c fun k => if second then { k with rxOvr1 := bump k.rxOvr1, ovrEv := true }
      else { k with rxOvr0 := bump k.rxOvr0, ovrEv := true }).raiseIf (!k.ovrEv) .CAN_RX_OVERRUN c (bit 0 second)

/-- CAN_FRAME_RECEIVED (R388, R389, R391): a valid frame, its start `sofAgo` and its end `endAgo` nanoseconds back. -/
def State.canReceive (s : State) (c : Fin 4) (f : CanFrame) (sofAgo endAgo : Nat) : State :=
  let k := s.can[c]
  if !k.live ∨ (f.fdf ∧ !s.yes Fld.CAN_FDEN c) then s
  else
    let s1 := if k.mon then s else s.recFalls c
    match s1.canSafe c f with
    | some (x, b) => s1.safeCopy x b f.data
    | none =>
      match (List.range 64).find? fun i => s1.filterHit c f i with
      | none => s1.onCan c fun k => { k with noMatch := bump k.noMatch }
      | some i =>
        let q := s1.n Fld.CAN_FLT_Q c i
        if q = 2 then s1
        else if s1.n Fld.CAN_RXQ_CONS c q = 0 then s1.canIntake c f sofAgo endAgo
        else s1.canQueue c (q == 1) ⟨f, i, s1.canStamp (sofAgo + s.n Fld.CAN_RXLAT c)⟩

/-- RX_QUEUE_POP (R389): the head of a queue with CONS = HOST. -/
def State.rxPop (s : State) (c : Fin 4) (q : Fin 2) : State :=
  if s.n Fld.CAN_RXQ_CONS c q = 0 then s
  else s.onCan c fun k => if q = 0 then { k with rx0 := k.rx0.tail } else { k with rx1 := k.rx1.tail }

/-! ## Transmission (R393 to R396) -/

/-- The data bytes of a data length code (ISO 11898-1). -/
def dlcLen (fdf : Bool) (dlc : Nat) : Nat :=
  if dlc ≤ 8 then dlc
  else if !fdf then 8
  else if dlc ≤ 12 then 4 * (dlc - 6) else if dlc = 13 then 32 else if dlc = 14 then 48 else 64

/-- The bytes of the staging words. -/
def TxStage.bytes (t : TxStage) : List Byte := t.data.toList.flatMap fun w => bytesLE 4 w.toNat

/-- The frame that a writer has staged. -/
def TxStage.frame (t : TxStage) : CanFrame :=
  let ide := tst t.id 29
  let fdf := tst t.ctl 8
  let rtr := tst t.ctl 10 && !fdf
  { ide := ide, id := BitVec.ofNat 29 (if ide then bits t.id 0 29 else bits t.id 0 11), rtr := rtr, fdf := fdf
    brs := fdf && tst t.ctl 9, esi := false, dlc := BitVec.ofNat 4 (bits t.ctl 0 4)
    data := if rtr then [] else t.bytes.take (dlcLen fdf (bits t.ctl 0 4)) }

/-- CAN_TX_SUBMIT (R393): `TXCTL[w].GO`. -/
def State.canSubmit (s : State) (c : Fin 4) (host : Bool) : State :=
  let k := s.can[c]
  let t := if host then k.stage[1] else k.stage[0]
  if 32 ≤ k.tx.length ∨ (tst t.ctl 8 ∧ !s.yes Fld.CAN_FDEN c) then s.raise .CAN_TX_FULL c
  else s.onCan c fun k => { k with tx := k.tx ++ [⟨t.frame, host, BitVec.ofNat 8 (bits t.ctl 16 8), 0, 0, false, 0⟩] }

/-- A completion record; in a full queue of 32 it is dropped and counted (R393). -/
def State.canDone (s : State) (c : Fin 4) (t : CanTx) (st : TxStatus) : State :=
  s.onCan c fun k =>
    if k.done.length < 32 then { k with done := k.done ++ [⟨st, t.attempts, t.host, t.tag, t.stamp⟩] }
    else { k with txEvOvr := bump k.txEvOvr }

/-- The head of the queue leaves it. -/
def State.canPop (s : State) (c : Fin 4) (t : CanTx) (st : TxStatus) : State :=
  (s.onCan c fun k => { k with tx := k.tx.tail }).canDone c t st

/-- TEC after an attempt, and the error code where there is one (R397, R398). -/
def State.txCounts (s : State) (c : Fin 4) (dataPhase : Bool) : TxResult → State
  | .sent => s.errCounts c (s.can[c].tec - 1) s.can[c].rec_
  | .arbLost => s
  | .noAck dominant =>
    let k := s.can[c]
    (s.onCan c fun k => { k with lec := 3 }).errCounts c (if k.passive && !dominant then k.tec else k.tec + 8) k.rec_
  | .error lec =>
    let k := s.can[c]
    (s.onCan c fun k => if dataPhase then { k with dlec := lec.toNat } else { k with lec := lec.toNat }).errCounts c (k.tec + 8) k.rec_

/-- The status of a frame dropped after a failed attempt (R395). -/
def dropStatus : TxResult → TxStatus
  | .arbLost => .dropArb
  | .noAck _ => .noAck
  | _ => .dropErr

/-- The head after an attempt: sent, removed, dropped at its limit, or kept for the next (R395, R396). -/
def State.headEnds (s : State) (c : Fin 4) (t : CanTx) (r : TxResult) : State :=
  let lim := s.n Fld.CAN_RETRY c
  match r with
  | .sent => if t.cancel then (s.canPop c t .tooLate).raise .CAN_TOO_LATE_SENT c else s.canPop c t .sent
  | _ =>
    if t.cancel then s.canPop c t .cancelled
    else if lim ≠ 0 ∧ lim < t.fails then
      ((s.canPop c t (dropStatus r)).onCan c fun k => { k with txDrop := bump k.txDrop }).raise .CAN_TX_DROP c (dropStatus r).code
    else s.onCan c fun k => { k with tx := t :: k.tx.tail }

/-- CAN_TX_ATTEMPT_END (R394, R395): the attempt of the safety frame where that was on the bus, else of the head. -/
def State.canAttempt (s : State) (c : Fin 4) (r : TxResult) (dataPhase : Bool) (stamp : Word) : State :=
  let k := s.can[c]
  if !k.live ∨ k.mon then s
  else
    let lost := r == .arbLost
    let count (s : State) : State := (s.onCan c fun k => { k with arbLost := if lost then bump k.arbLost else k.arbLost }).txCounts c dataPhase r
    let next (s : State) : State := s.onCan c fun k => { k with safeTx := k.safe.isSome }
    if k.safeTx then
      if k.safe.isNone then next s
      else next (count (if r = .sent then s.onCan c fun k => { k with safe := none } else s))
    else match k.tx with
    | [] => s
    | t :: _ =>
      let t1 := { t with attempts := min 255 (t.attempts + 1), fails := t.fails + (if r = .sent then 0 else 1), stamp := stamp }
      next (count (s.headEnds c t1 r))

/-- The head's start of frame may have been committed before a cancel comes: no command shows it, so it is free (log 92). -/
def State.headStarted (s : State) (c : Fin 4) : Bool × State :=
  let k := s.can[c]
  if k.live ∧ !k.mon ∧ !k.safeTx then
    let (w, s1) := s.takeWord
    (tst w 0, s1)
  else (false, s)

/-- A frame at a place of the queue is cancelled (R396). -/
def State.cancelAt (s : State) (c : Fin 4) (i : Nat) : State :=
  let (started, s1) := if i = 0 then s.headStarted c else (false, s)
  match s1.can[c].tx[i]? with
  | none => s1
  | some t =>
    if started then s1.onCan c fun k => { k with tx := k.tx.modify i fun t => { t with cancel := true } }
    else (s1.onCan c fun k => { k with tx := k.tx.eraseIdx i }).canDone c t .cancelled

/-- CAN_TX_CANCEL (R396): `TXCANCEL`. -/
def State.canCancel (s : State) (c : Fin 4) (tag : BitVec 8) : State :=
  match s.can[c].tx.findIdx? fun t => t.tag == tag with
  | some i => s.cancelAt c i
  | none => s

/-- CAN_FLUSH (R396): every frame is cancelled, the last first. -/
def State.canFlush (s : State) (c : Fin 4) : State :=
  (List.range s.can[c].tx.length).reverse.foldl (fun s i => s.cancelAt c i) s

/-- TX_DONE_POP (R393). -/
def State.donePop (s : State) (c : Fin 4) : State := s.onCan c fun k => { k with done := k.done.tail }

/-- CAN_COUNTERS_CLEAR: `CANCTL.CNTCLR`. -/
def State.canClear (s : State) (c : Fin 4) : State :=
  s.onCan c fun k => { k with
    rxOvr0 := .zero, rxOvr1 := .zero, ovrEv := false, noMatch := .zero, txDrop := .zero, arbLost := .zero, txEvOvr := .zero
    safeRepl := .zero }

/-- CAN_TS_WRAP (R390). -/
def State.canWrap (s : State) : State := s.raise .CAN_TS_WRAP

/-! ## Safe frames (R269, R371, R394) -/

/-- A connection's PDU goes to the safety buffer of a controller; a pending one is replaced (R394). -/
def State.safeToCan (s : State) (x : Fin 4) (c : Fin 4) : State :=
  let k := s.can[c]
  if !k.live ∨ k.mon ∨ !s.yes Fld.CAN_FDEN c then s
  else
    let id := s.n Fld.SAFETY_CONN_CANID 0 x
    let f : CanFrame := ⟨decide (0x7FF < id), BitVec.ofNat 29 id, false, true, true, false, 11, s.garnet.conn[x].sent⟩
    s.onCan c fun k => { k with
      safe := some f, safeRepl := if k.safe.isSome then bump k.safeRepl else k.safeRepl, safeTx := k.safeTx || k.tx.isEmpty }

/-- A connection's PDU goes out on a port: ETH0 to ETH7, then CAN0 to CAN3. -/
def State.safeOut (s : State) (x : Fin 4) (port : Nat) : State :=
  if s.n Fld.SAFETY_CONN_NET 0 x = 1 then (if port < 8 then s.send ⟨port % 8, by omega⟩ else s)
  else if 8 ≤ port then s.safeToCan x ⟨port % 4, by omega⟩
  else s

/-- SAFE_FRAME_SEND (R269): every 2 ms Garnet sends on both ports of every connection. -/
def State.safeSend (s : State) : State :=
  if !s.garnet.run ∧ !s.garnet.safe then s
  else forFin 4 (fun x s =>
    if s.n Fld.SAFETY_CONN_NET 0 x = 0 then s
    else ((s.pduNext x).safeOut x (s.n Fld.SAFETY_CONN_PORTA 0 x)).safeOut x (s.n Fld.SAFETY_CONN_PORTB 0 x)) s

/-! ## Commands -/

/-- CAN_FRAME_RECEIVED: see `State.canReceive`. -/
def execCanFrameReceived (c : Fin 4) (f : CanFrame) (sofAgo endAgo : Nat) (s : State) : Host.Outcome State Fault Refusal :=
  .next (s.canReceive c f sofAgo endAgo)

/-- CAN_RECEIVE_ERROR: see `State.canRxError`. -/
def execCanReceiveError (c : Fin 4) (err : BitVec 3) (dataPhase : Bool) (recN : Nat) (s : State) :
    Host.Outcome State Fault Refusal := .next (s.canRxError c err dataPhase recN)

/-- CAN_TX_SUBMIT: see `State.canSubmit`. -/
def execCanTxSubmit (c : Fin 4) (host : Bool) (s : State) : Host.Outcome State Fault Refusal := .next (s.canSubmit c host)

/-- CAN_TX_ATTEMPT_END: see `State.canAttempt`. -/
def execCanTxAttemptEnd (c : Fin 4) (r : TxResult) (dataPhase : Bool) (stamp : Word) (s : State) :
    Host.Outcome State Fault Refusal := .next (s.canAttempt c r dataPhase stamp)

/-- CAN_TX_CANCEL: see `State.canCancel`. -/
def execCanTxCancel (c : Fin 4) (tag : BitVec 8) (s : State) : Host.Outcome State Fault Refusal := .next (s.canCancel c tag)

/-- CAN_FLUSH: see `State.canFlush`. -/
def execCanFlush (c : Fin 4) (s : State) : Host.Outcome State Fault Refusal := .next (s.canFlush c)

/-- CAN_RECOVER: see `State.canRecover`. -/
def execCanRecover (c : Fin 4) (s : State) : Host.Outcome State Fault Refusal := .next (s.canRecover c)

/-- CAN_BUSOFF_RECOVERED: see `State.canBack`. -/
def execCanBusoffRecovered (c : Fin 4) (s : State) : Host.Outcome State Fault Refusal := .next (s.canBack c)

/-- CAN_COUNTERS_CLEAR: see `State.canClear`. -/
def execCanCountersClear (c : Fin 4) (s : State) : Host.Outcome State Fault Refusal := .next (s.canClear c)

/-- TX_DONE_POP: see `State.donePop`. -/
def execTxDonePop (c : Fin 4) (s : State) : Host.Outcome State Fault Refusal := .next (s.donePop c)

/-- RX_QUEUE_POP: see `State.rxPop`. -/
def execRxQueuePop (c : Fin 4) (q : Fin 2) (s : State) : Host.Outcome State Fault Refusal := .next (s.rxPop c q)

/-- CAN_TS_WRAP: see `State.canWrap`. -/
def execCanTsWrap (s : State) : Host.Outcome State Fault Refusal := .next s.canWrap

/-- CAN_RECONFIGURE: see `State.canReconf`. -/
def execCanReconfigure (c : Fin 4) (s : State) : Host.Outcome State Fault Refusal := .next (s.canReconf c)

/-- SAFE_FRAME_SEND: see `State.safeSend`. -/
def execSafeFrameSend (s : State) : Host.Outcome State Fault Refusal := .next s.safeSend

end Sys2Proof.Machine
end

