-- ==== Sys2Proof/Machine/Place.lean ====
section
/-! DEFINITION. What S6 builds from the configuration: the flows (R277, R278), the tasks on the loop engines (R91, R466), and the
carriers (R66). -/

namespace Sys2Proof.Machine

/-! ## Flows (R89, R277 to R279) -/

/-- The port of an endpoint code of R278: none, a task's loop engine, or a fixed port. -/
def State.endPort (s : State) (code : Nat) : Nat :=
  if code = 0 then 63 else if code ≤ 256 then s.taskPort (code - 1) else code - 257 + 16

/-- The endpoint is a task. -/
def isTask (code : Nat) : Bool := decide (1 ≤ code) && decide (code ≤ 256)

/-- The endpoint is a management core, or the host port or Onyx. -/
def isCore (code : Nat) : Bool := decide (267 ≤ code) && decide (code ≤ 270)
def isService (code : Nat) : Bool := code == 265 || code == 266

/-- The class of a flow by its endpoints (R279). -/
def planeOf (prod cons : Nat) : Plane :=
  if isCore prod || isCore cons then .mgmt else if isService prod || isService cons then .host else .fast

/-- A flow that is configured but for its buffer: all its credits are free. -/
def freshFlow (plane : Plane) (resv : Bool) (prod cons prod2 depth : Nat) (epoch : BitVec 8) : Flow :=
  { Flow.reset with plane := plane, resv := resv, prod := prod, cons := cons, prod2 := prod2, depth := depth, free := depth, epoch := epoch }

/-- The producer of the current references of a bridge: its outer loop, or the ring island for a member of a group (R89, R187). -/
def State.refPort (s : State) (n : Fin 8) : Nat :=
  if !s.conf n then 63
  else if s.ring.on && s.yes Fld.RING_MEMBER 0 s.br[n].mo then 19
  else s.taskPort (8 + s.br[n].mo)

/-- A reserved flow: the three of each slot and the four host lanes. -/
def State.reservedFlow (s : State) (f : Fin 256) : Option Flow :=
  let n : Fin 8 := ⟨f.1 % 8, Nat.mod_lt _ (by decide)⟩
  if f.1 < 8 then some (freshFlow .fast true 16 (s.taskPort n) 20 16 0)
  else if f.1 < 16 then
    some (freshFlow .fast true (s.refPort n) (s.taskPort n) 63 4 (if s.conf n then s.taskEpoch (8 + s.br[n].mo) else 0))
  else if f.1 < 24 then some (freshFlow .fast true (s.taskPort n) 17 63 2 (s.taskEpoch n))
  else if 252 ≤ f.1 then some (freshFlow .mgmt true 24 26 63 32 0)
  else none

/-- PROD and CONS of an image flow. -/
def State.flowProd (s : State) (f : Fin 256) : Nat := s.n Fld.SERVICE_FLOW_PROD 0 f
def State.flowCons (s : State) (f : Fin 256) : Nat := s.n Fld.SERVICE_FLOW_CONS 0 f

/-- The image names an endpoint of the flow. -/
def State.flowNamed (s : State) (f : Fin 256) : Bool := s.flowProd f != 0 || s.flowCons f != 0

/-- A reserved task number (R452). -/
def badTask (code : Nat) : Bool := decide (28 < code) && decide (code ≤ 256)

/-- A fault of the endpoints of a flow (R278). -/
def State.flowBad (s : State) (f : Fin 256) : Bool :=
  let p := s.flowProd f
  let c := s.flowCons f
  p == 0 || c == 0 || badTask p || badTask c || (isCore c && !isCore p && !isService p) || (isTask p && isService c)

/-- The credits that the image flows hold. -/
def State.imageCredits (s : State) (but : Fin 256) : Nat :=
  ((List.finRange 256).filter fun g => decide (24 ≤ g.1) && decide (g.1 < 252) && g != but).foldl
    (fun n g => n + s.fab.flows[g].depth) 0

/-- An image flow as the checks of R278 leave it. -/
def State.imageFlow (s : State) (f : Fin 256) : Option Flow :=
  let depth := s.n Fld.SERVICE_FLOW_DEPTH 0 f
  let p := s.flowProd f
  let c := s.flowCons f
  if !s.flowNamed f ∨ s.flowBad f ∨ 65232 < s.imageCredits f + depth then none
  else some (freshFlow (planeOf p c) false (s.endPort p) (s.endPort c) 63 depth (if isTask p then s.taskEpoch (p - 1) else 0))

/-- The credits outside every flow. -/
def Fabric.pool (b : Fabric) : Fabric := { b with unalloc := 65536 - (b.flows.toList.map Flow.depth).sum }

/-- The finding about a flow that stays unconfigured. -/
def State.flowNote (s : State) (f : Fin 256) : Note :=
  ⟨.FLOW_CONFIG, RecT.service.code, 0, Fld.SERVICE_FLOW_PROD.fid, f, 0, 7, BitVec.ofNat 32 (s.flowProd f),
   BitVec.ofNat 32 (s.flowProd f), none⟩

/-- The flows are allocated once, at S6, in rising index (R277, R278). -/
def State.allocFlows (s : State) : State :=
  let s0 := s.onFab fun b => { b with flows := vgen 256 fun f => (s.reservedFlow f).getD .reset }
  let s1 := (List.finRange 256).foldl (fun s f =>
    if f.1 < 24 ∨ 252 ≤ f.1 ∨ !s.flowNamed f then s
    else match s.imageFlow f with
      | some g => s.onFlow f fun _ => g
      | none => s.enter (s.flowNote f)) s0
  s1.onFab Fabric.pool

/-- The ports of the flows follow the tasks that they name, once these are placed (R278). -/
def State.bindFlows (s : State) : State :=
  forFin 256 (fun f s =>
    let g := s.fab.flows[f]
    if g.plane = .unconf then s
    else if f.1 < 24 then
      match s.reservedFlow f with
      | some h => s.onFlow f fun g => { g with prod := h.prod, cons := h.cons }
      | none => s
    else if f.1 < 252 then s.onFlow f fun g => { g with prod := s.endPort (s.flowProd f), cons := s.endPort (s.flowCons f) }
    else s) s

/-! ## Run times and arrivals (R45, R46, R90, R96, R101) -/

/-- The rank of a bridge among the configured ones of its motor object (R66). -/
def State.mapRank (s : State) (n : Fin 8) : Nat := ((s.bridges s.br[n].mo).takeWhile fun x => x != n).length

/-- HFI can run on a motor object (R99, R101, R103, R106): on an IPM motor that may be without a sensor, or whose sensor has no angle before
its index. -/
def State.mayInject (s : State) (m : Fin 4) : Bool :=
  s.n Fld.MOTOR_TYPE m == 1 && (s.n Fld.MOTOR_POSMODE m != 0 ||
    (match s.piOf m with
     | some k => s.n Fld.PI_MODE (8 + k) == 1 || s.n Fld.PI_MODE (8 + k) == 2
     | none => false))

/-- The run time of a current-loop task in microseconds (R90, R101). -/
def State.runUs (s : State) (n : Fin 8) : Rat :=
  let m := s.br[n].mo
  let mode := s.n Fld.MOTOR_POSMODE m
  (if s.br[n].npc then 26 / 10 else 2)
    + (if s.n Fld.LOOP_CTYPE m = 1 then 3 / 2 * s.n Fld.LOOP_HORIZON m else 0)
    + (if s.interleaved m then 6 / 10 else 0)
    + (if s.mapRank n = 0 then
        4 / 10 + (if mode = 0 then 0 else 1 / 2) + (if s.mayInject m then 7 / 10 else 0)
      else 0)

/-- A regular sequence reads an input that the bridge names. -/
def State.seqFeeds (s : State) (n : Fin 8) (c k : Nat) : Bool :=
  (List.range (s.n Fld.CELL_SQ_LEN c k)).any fun e => (s.inputsOf n).contains (12 * c + s.n Fld.CELL_SQ_E_IN c k e)

/-- The sequences that feed a bridge. -/
def State.feedsOf (s : State) (n : Fin 8) : List (Nat × Nat) :=
  ((List.range 32).map fun x => (x / 4, x % 4)).filter fun x => s.seqFeeds n x.1 x.2

/-- The offset in nanoseconds of the trigger of a sequence: that of the bridge that drives it (R44). -/
def State.trigOfs (s : State) (c k : Nat) : Rat :=
  let t := s.n Fld.CELL_SQ_TRIG c k
  match s.allBridges.find? fun n => decide (t < 4) && s.n Fld.BRIDGE_CTRIG (s.recOf n) == t + 1 with
  | some n => s.q Fld.BRIDGE_CTRIGOFS (s.recOf n)
  | none => 0

/-- When the item of a triggered sequence is there, in nanoseconds after the instant (R45, R46). -/
def State.seqArrival (s : State) (c k : Nat) : Rat :=
  if s.n Fld.CELL_SQ_MODE c k = 1 then 0
  else
    let te (e : Nat) : Rat := maxQ (s.q Fld.CELL_SQ_E_TACQ c k e) 100 + 150
    let cnt (e : Nat) : Rat := 2 ^ s.n Fld.CELL_SQ_E_AVG c k e
    let sum := (List.range (s.n Fld.CELL_SQ_LEN c k)).foldl (fun t e => t + cnt e * te e) 0
    s.trigOfs c k + 5 + 150 - te 0 + sum + 100

/-- The interface that a motor object names and that delivers positions, and when in nanoseconds (R96). -/
def State.posArrival (s : State) (m : Fin 4) : Option Rat :=
  match s.piOf m with
  | some k =>
    let mode := s.n Fld.PI_MODE (8 + k)
    if mode = 0 then none
    else some (200 + (if mode = 4 then s.q Fld.PI_SSIBITS (8 + k) * 1000 / s.q Fld.PI_SSIF (8 + k) else 0))
  | none => none

/-- The arrival of the last input of a bridge, in microseconds. -/
def State.arrivalUs (s : State) (n : Fin 8) : Rat :=
  let a := (s.feedsOf n).foldl (fun t x => maxQ t (s.seqArrival x.1 x.2)) 0
  maxQ a ((s.posArrival s.br[n].mo).getD 0) / 1000

/-- The entries that the inputs of a bridge take in one instant (R89). -/
def State.inputEntries (s : State) (n : Fin 8) : Nat :=
  2 * (s.feedsOf n).length + (if (s.posArrival s.br[n].mo).isSome then 1 else 0)

/-! ## Placement (R91, R466) -/

/-- The tasks on an engine. -/
def State.onEngine (s : State) (e : Fin 16) : List Nat :=
  (List.range 28).filter fun t => (vat s.fab.tasks .reset t).engine == some e

/-- The slot of a current-loop task, the motor object of the others. -/
def loopSlot (t : Nat) : Fin 8 := ⟨t % 8, Nat.mod_lt _ (by decide)⟩
def moOf (t : Nat) : Fin 4 := ⟨t % 4, Nat.mod_lt _ (by decide)⟩

/-- Run time and period of a task in microseconds. -/
def State.taskTime (s : State) (t : Nat) : Rat × Rat :=
  if t < 8 then (s.runUs (loopSlot t), s.loopUs (loopSlot t))
  else if t < 12 then (12, s.q Fld.LOOP_TOPER (moOf t))
  else if t < 16 then (0, 1)
  else if t < 20 then (30, 5000)
  else (12, 50)

/-- The sum of run time / period is at most 0.75. -/
def State.loadOk (s : State) (l : List Nat) : Bool :=
  decide (l.foldl (fun x t => x + (s.taskTime t).1 / (s.taskTime t).2) 0 ≤ 3 / 4)

/-- The run times of the current-loop tasks of a list. -/
def State.loopTimes (s : State) (l : List Nat) : Rat := (l.filter fun t => decide (t < 8)).foldl (fun x t => x + s.runUs (loopSlot t)) 0

/-- R91 holds on an engine that carries these tasks. -/
def State.loopsFit (s : State) (l : List Nat) : Bool :=
  s.loadOk l && (l.filter fun t => decide (t < 8)).all fun t =>
    decide (s.arrivalUs (loopSlot t) + 1 / 5 + s.loopTimes l ≤ s.loopUs (loopSlot t) - 1)

/-- A shock task stands on the engine. -/
def hasShock (l : List Nat) : Bool := l.any fun t => decide (12 ≤ t) && decide (t < 16)

/-- The run time of the current-loop tasks within a span of microseconds. -/
def State.loopsWithin (s : State) (l : List Nat) (span : Rat) : Rat :=
  (l.filter fun t => decide (t < 8)).foldl (fun x t => x + (span / s.loopUs (loopSlot t)).ceil * s.runUs (loopSlot t)) 0

/-- The checks of step 3 of R466 on an engine that carries these tasks. -/
def State.othersFit (s : State) (l : List Nat) : Bool :=
  let outer := l.filter fun t => decide (8 ≤ t) && decide (t < 12)
  !hasShock l && s.loadOk l &&
    (outer.isEmpty || decide (12 + s.loopsWithin l 25 ≤ 25)) &&
    (l.all (fun t => decide (t < 20)) ||
      decide (12 + s.loopsWithin l 50 + outer.foldl (fun x t => x + (50 / s.q Fld.LOOP_TOPER (moOf t)).ceil * 12) 0 ≤ 50))

/-- A task placed. -/
def State.setEngine (s : State) (t : Nat) (e : Fin 16) : State :=
  s.onFab fun b => { b with tasks := vmodN b.tasks t fun x => { x with engine := some e } }

/-- The task is neither placed nor barred from a place. -/
def State.unplaced (s : State) (t : Nat) : Bool := let x := vat s.fab.tasks .reset t; x.wanted && x.engine.isNone

/-- An unconfigured image flow names the task (R278). -/
def State.flowBars (s : State) (t : Nat) : Bool :=
  (List.finRange 256).any fun f => decide (24 ≤ f.1) && decide (f.1 < 252) && s.fab.flows[f].plane == .unconf
    && (s.flowProd f == taskCode t || s.flowCons f == taskCode t)

/-- A task that may be placed now. -/
def State.placeable (s : State) (t : Nat) : Bool :=
  s.unplaced t && !s.flowBars t && (decide (8 ≤ t) || decide (s.inputEntries (loopSlot t) ≤ 16))

/-- The lowest engine that passes a test. -/
def lowest (p : Fin 16 → Bool) : Option (Fin 16) := (List.finRange 16).find? p

/-- One task on the lowest engine on which it fits. -/
def State.placeOne (s : State) (fit : List Nat → Bool) (t : Nat) : State :=
  match lowest fun e => !hasShock (s.onEngine e) && fit (t :: s.onEngine e) with
  | some e => s.setEngine t e
  | none => s

/-- Step 1: a shock task takes a whole engine, from LE[15] down. -/
def State.placeShock (s : State) (t : Nat) : State :=
  if !s.placeable t then s
  else match (List.finRange 16).reverse.find? fun e => (s.onEngine e).isEmpty with
    | some e => s.setEngine t e
    | none => s

/-- Step 2: the current-loop tasks of a motor object, together or in rank order. -/
def State.placeLoops (s : State) (m : Fin 4) : State :=
  let l := ((s.bridges m).map fun n => n.1).filter s.placeable
  if l.isEmpty then s
  else match lowest fun e => !hasShock (s.onEngine e) && s.loopsFit (l ++ s.onEngine e) with
    | some e => l.foldl (fun s t => s.setEngine t e) s
    | none => l.foldl (fun s t => s.placeOne s.loopsFit t) s

/-- Step 3, for one task. -/
def State.placeOther (s : State) (t : Nat) : State := if s.placeable t then s.placeOne s.othersFit t else s

/-- The tasks that exist (R466). -/
def State.taskWanted (s : State) (t : Nat) : Bool :=
  if t < 8 then s.conf (loopSlot t)
  else if t < 12 then !(s.bridges (moOf t)).isEmpty
  else if t < 16 then s.yes Fld.LOOP_SHKEN (moOf t)
  else if t < 20 then s.n Fld.LOOP_HVMRUZ (moOf t) != 0
  else s.n Fld.AXIS_MODE (t - 20) != 0

/-- The list of tasks follows the configuration: a task that no longer exists leaves its engine. -/
def State.wantTasks (s : State) : State :=
  let next (t : Fin 28) : Task :=
    if s.taskWanted t then { s.fab.tasks[t] with wanted := true } else { s.fab.tasks[t] with wanted := false, engine := none }
  s.onFab fun b => { b with tasks := vgen 28 next }

/-- The scheduler places what is not placed, in the order of R466; the placed tasks stay. -/
def State.placeWanted (s : State) : State :=
  let s1 := [12, 13, 14, 15].foldl State.placeShock s
  let s2 := forFin 4 (fun m s => s.placeLoops m) s1
  ([8, 9, 10, 11] ++ [16, 17, 18, 19] ++ [20, 21, 22, 23, 24, 25, 26, 27]).foldl State.placeOther s2

/-- Every task that exists is placed at S6. -/
def State.placeTasks (s : State) : State := s.wantTasks.placeWanted.bindFlows

/-- What an unplaced task raises at S6 (R91, R466): an axis generator AX_CONFIG, any other LOOP_UNPLACED. -/
def State.unplacedNote (s : State) (t : Nat) : Note :=
  if t < 8 then ⟨.LOOP_UNPLACED, RecT.bridge.code, s.recOf (loopSlot t), Fld.BRIDGE_TOPO.fid, 0, 0, 7, 0, 0, none⟩
  else if t < 12 then ⟨.LOOP_UNPLACED, RecT.loop.code, moOf t, Fld.LOOP_CTYPE.fid, 0, 0, 7, 0, 0, none⟩
  else if t < 16 then ⟨.LOOP_UNPLACED, RecT.loop.code, moOf t, Fld.LOOP_SHKEN.fid, 0, 0, 7, 0, 0, none⟩
  else if t < 20 then ⟨.LOOP_UNPLACED, RecT.loop.code, moOf t, Fld.LOOP_HVMRUZ.fid, 0, 0, 7, 0, 0, none⟩
  else ⟨.AX_CONFIG, RecT.axis.code, t - 20, Fld.AXIS_MODE.fid, 0, 0, 7, 0, 0, none⟩

/-- Every unplaced task is entered in the load report. -/
def State.reportUnplaced (s : State) : State :=
  (List.range 28).foldl (fun s t => if s.unplaced t then s.enter (s.unplacedNote t) else s) s

/-! ## Carriers (R65, R66) -/

/-- The counts by which a bridge of a rank starts later in its triangle than rank 0. -/
def startCount (rank n chalf : Nat) : Nat := (roundQ (qdiv (rank * 2 * chalf) n)).toNat

/-- The place of a carrier in its triangle, in counts from the valley: it has not passed its next turning point. -/
def Pwm.tri (p : Pwm) (up : Nat) : Nat := (if p.atPeak then p.chalf else 0) + min p.chalf ((up - p.turnAt) * 2 / 5)

/-- A carrier at a count of its triangle at this moment. -/
def Pwm.startedAt (p : Pwm) (up h count : Nat) : Pwm :=
  let peak := decide (h ≤ count)
  { p with run := true, chalf := h, atPeak := peak, turnAt := up - (if peak then count - h else count) * 5 / 2 }

/-- The carriers of a motor object start with rank 0 at a count of its triangle, the others at their offsets. -/
def State.carriersAt (s : State) (m : Fin 4) (count : Nat) : State :=
  let l := s.bridges m
  l.foldl (fun s n =>
    let h := s.chalfOf n
    s.onPwm n fun p => p.startedAt s.up h ((count + startCount (s.mapRank n) l.length h) % (2 * h))) s

/-- The count at which device time puts the rank-0 carrier of a member: its valleys fall at t mod T_c = PHASE·T_c/32 (R186). -/
def State.groupPhase (s : State) (m : Fin 4) (h : Nat) : Nat :=
  let tc : Rat := 5 * h
  let x : Rat := s.dev.toNat - s.n Fld.RING_PHASE 0 m * tc / 32
  natQ ((x - (qdiv x tc).floor * tc) * 2 / 5)

/-- Carriers of a member take the phase of R186: in a ring with CARRALIGN = 1, with TLOCK and every bridge in PULSE_BLOCK; one that stands
within 25 ns of it stays. -/
def State.alignCarriers (s : State) (m : Fin 4) : State :=
  match s.bridges m with
  | n :: _ =>
    let h := s.chalfOf n
    let want := s.groupPhase m h
    let off := (s.pwm[n].tri s.up + 2 * h - want) % (2 * h)
    if s.ring.on ∧ s.yes Fld.RING_CARRALIGN 0 ∧ s.yes Fld.RING_MEMBER 0 m ∧ s.ring.tlock ∧ s.pwm[n].run
        ∧ (s.bridges m).all (fun j => s.br[j].form == .pblk) ∧ 10 < off ∧ off + 10 < 2 * h then s.carriersAt m want
    else s
  | [] => s

/-- The carriers of a motor object start together, rank 0 at a valley, and a member then takes the phase of its group (R66). -/
def State.startCarriers (s : State) (m : Fin 4) : State := (s.carriersAt m 0).alignCarriers m

/-- A slot without a configured bridge has no carrier. -/
def State.stopCarriers (s : State) : State :=
  forFin 8 (fun n s => if s.conf n ∨ !s.pwm[n].run then s else s.onPwm n fun _ => .reset) s

/-- Every carrier starts (R66). -/
def State.startAllCarriers (s : State) : State := forFin 4 (fun m s => s.startCarriers m) s

end Sys2Proof.Machine
end

