-- ==== Sys2Proof/Machine/Capture.lean ====
section
/-! DEFINITION. The capture buffers (R446) and their sources (R447). -/

namespace Sys2Proof.Machine

/-! ## Sources (R447) -/

/-- The loop float registers of a motor object in the order of `LPIDREF` to `LPIMAX`. -/
def LoopSt.floats (l : LoopSt) : List Rat := [l.idRef, l.iqRef, l.id, l.iq, l.vd, l.vq, l.vm, l.dfw, l.imax]

/-- The carrier value at a time, in sixteenths of a count (R65). -/
def Pwm.count16 (p : Pwm) (up : Nat) : Nat :=
  let c := min (16 * p.chalf) ((up - p.turnAt) * 32 / 5)
  if p.atPeak then 16 * p.chalf - c else c

/-- VALUE of a source identifier. -/
def State.capValue (s : State) (v : Nat) : Word :=
  let i := v % 256
  if !sourceKnown v then 0
  else match v / 256 with
    | 1 => BitVec.ofInt 32 (s.ainCode i)
    | 2 => toF32 ((vat s.loops .reset (i / 16)).floats.getD (i % 16) 0)
    | 3 => s.gateLevels ⟨i % 8, Nat.mod_lt _ (by decide)⟩ s.up
    | 4 => (vat s.posIf .reset i).pos.setWidth 32
    | 5 => BitVec.ofInt 32 (vat s.ring.mbr .reset i).held
    | _ => 0

/-! ## Writing frames (R446) -/

/-- A frame at its place in the buffer. -/
def putFrame : List (Nat × CapFrame) → Nat → CapFrame → List (Nat × CapFrame)
  | [], i, f => [(i, f)]
  | (j, g) :: l, i, f => if j < i then (j, g) :: putFrame l i f else if j = i then (i, f) :: l else (i, f) :: (j, g) :: l

/-- A frame written at the offset of the next frame. -/
def Cap.write (c : Cap) (t : BitVec 64) (vals : Vector Word 12) : Cap :=
  let f : CapFrame := ⟨t, c.gap, c.trigNow, BitVec.ofNat 16 c.count, vals⟩
  { c with
    frames := putFrame c.frames (c.wr / 64) f, wr := if c.wr + 64 < c.size then c.wr + 64 else 0
    count := c.count + 1, gap := false, trigNow := false, post := c.post - 1 }

/-- A buffer stops at the end of its trigger. -/
def State.capFinish (s : State) (k : Fin 8) : State :=
  (s.onCap k fun c => { c with run := false, done := true, trigged := false }).raise .CAP_DONE k

/-- A frame of a running buffer, its memory write, and the stop with the last frame after the trigger. -/
def State.capFrame (s : State) (k : Fin 8) : State :=
  let vals := vgen 12 fun h => s.capValue (s.n Fld.SERVICE_CAP_SRC 0 k h)
  let n := s.cap[k].count
  let s1 := (s.onCap k fun c => c.write s.dev vals).txnIssue 30 true (some (k, n))
  if s1.cap[k].trigged ∧ s1.cap[k].post = 0 then s1.capFinish k else s1

/-- A current-loop instant of a bridge: every DECIM-th one gives each running buffer of its slot a frame. -/
def State.captureInstant (s : State) (n : Fin 8) : State :=
  forFin 8 (fun k s =>
    if s.cap[k].run ∧ s.n Fld.SERVICE_CAP_SLOT 0 k = n then
      if s.cap[k].trigged ∧ s.cap[k].post = 0 then s.capFinish k
      else if s.cap[k].decim + 1 < s.n Fld.SERVICE_CAP_DECIM 0 k then s.onCap k fun c => { c with decim := c.decim + 1 }
      else (s.onCap k fun c => { c with decim := 0 }).capFrame k
    else s) s

/-! ## Allocation and control -/

/-- The buffers are allocated at S6 in ascending order from 0x1000_0000; one that would pass 0x1FFF_FFFF stays off. -/
def State.allocCaps (s : State) : State :=
  ((List.finRange 8).foldl (fun (x : State × Nat) (k : Fin 8) =>
    let size := x.1.n Fld.SERVICE_CAP_SIZE 0 k * 1048576
    if size = 0 then x
    else if x.2 + size ≤ 0x20000000 then
      (x.1.onCap k fun c => if c.config ∧ c.base = x.2 ∧ c.size = size then c else { Cap.reset with config := true, base := x.2, size := size },
       x.2 + size)
    else
      ((x.1.onCap k fun _ => .reset).enter ⟨.CAP_CONFIG, RecT.service.code, 0, Fld.SERVICE_CAP_SIZE.fid, k, 0, 7,
        BitVec.ofNat 32 (size / 1048576), 0, none⟩, x.2)) (s, 0x10000000)).1

/-- `CAPCTL.ARM`: empties a buffer and starts it, never before S9. -/
def State.capArm (s : State) (k : Fin 8) : State :=
  if s.cap[k].config ∧ s.rst.stage = 9 then
    s.onCap k fun c => { Cap.reset with config := true, base := c.base, size := c.size, gaps := c.gaps, run := true
                                        decim := s.n Fld.SERVICE_CAP_DECIM 0 k - 1 }
  else s

/-- `CAPCTL.SWTRIG`: a software trigger of a running buffer. -/
def State.capSwTrig (s : State) (k : Fin 8) : State :=
  if s.cap[k].run ∧ !s.cap[k].trigged then
    (s.onCap k fun c => trigCap c (s.n Fld.SERVICE_CAP_PRE 0 k) s.stamp).raise .CAP_TRIGGERED k
  else s

/-- `CAPCTL.STOP`: stops the buffer without DONE. -/
def State.capStop (s : State) (k : Fin 8) : State :=
  if s.cap[k].run then s.onCap k fun c => { c with run := false, trigged := false, trigNow := false } else s

/-- The buffers with EN = 1 are armed at S9. -/
def State.capsStart (s : State) : State :=
  forFin 8 (fun k s => if s.yes Fld.SERVICE_CAP_EN 0 k then s.capArm k else s) s

/-- CAPTURE_ARM: see `State.capArm`. -/
def execCaptureArm (k : Fin 8) (s : State) : Host.Outcome State Fault Refusal := .next (s.capArm k)
/-- CAPTURE_SOFTWARE_TRIGGER: see `State.capSwTrig`. -/
def execCaptureSoftwareTrigger (k : Fin 8) (s : State) : Host.Outcome State Fault Refusal := .next (s.capSwTrig k)
/-- CAPTURE_STOP: see `State.capStop`. -/
def execCaptureStop (k : Fin 8) (s : State) : Host.Outcome State Fault Refusal := .next (s.capStop k)

end Sys2Proof.Machine
end

