-- ==== Sys2Proof/Machine/Security.lean ====
section
/-! DEFINITION. Onyx: keys, ownership, sessions, debug, tamper response and the random generator (R400 to R419). -/

namespace Sys2Proof.Machine

/-- Onyx has passed its self-test: from S5 on, and in a hold for want of keys. -/
def State.onyxUp (s : State) : Bool :=
  !s.rst.held && s.rst.flushing.isNone && (decide (5 ≤ s.rst.stage) || (s.rst.stage == 4 && s.rst.hold == 8))

/-- Onyx can use the device keys (R402, R414). -/
def State.keysUsable (s : State) : Bool := s.onyx.keys && !s.onyx.zero && !s.onyx.zlatch

/-- The version of a firmware bank. -/
def Nor.fwVersion (n : Nor) (b : Bool) : Word := ((if b then n.fw1 else n.fw0).getD 0)

/-! ## What a loss of keys makes unreadable (R414, R416, R417) -/

/-- A bank that its key can no longer open, and a stash entry whose seal no longer verifies. -/
def Package.shut (p : Package) : Package := { p with wrapOk := false }
def Nor.shut (n : Nor) : Nor :=
  { n with
    bankA := n.bankA.map Package.shut, bankB := n.bankB.map Package.shut
    stash0 := n.stash0.map fun e => { e with sealOk := false }, stash1 := n.stash1.map fun e => { e with sealOk := false } }

/-- New device keys without a zeroise: what was wrapped to the old DWK does not open, what the old DSK signed does not verify. -/
def Package.rekeyed (p : Package) : Package := if p.form = 2 then { p with sigOk := false } else { p with wrapOk := false }
def Nor.rekeyed (n : Nor) : Nor := { n with bankA := n.bankA.map Package.rekeyed, bankB := n.bankB.map Package.rekeyed }

/-! ## Nonces (R407) -/

/-- SECNONCE_READ: a fresh nonce, unless the generator fails (R418). -/
def State.drawNonce (s : State) : State :=
  if !s.onyxUp ∨ s.onyx.rngFlt then s
  else
    let w (i : Nat) : Word := Config.freeWord (s.free + i)
    let v : Vector Word 4 := #v[w 0, w 1, w 2, w 3]
    { s with free := s.free + 4, onyx := { s.onyx with nonce := some (v, s.up), nonceReg := v } }

/-- The nonce is gone. -/
def State.dropNonce (s : State) : State := s.onOnyx fun o => { o with nonce := none }

/-- NONCE_EXPIRY: a nonce expires after 10 min. -/
def State.nonceEnds (s : State) : State :=
  if s.onyx.nonce.any fun x => decide (x.2 + 600 * sec ≤ s.up) then s.dropNonce else s

/-- A statement carries the nonce drawn, within its 10 min. -/
def State.nonceIs (s : State) (v : Vector Word 4) : Bool := match s.onyx.nonce with
  | some (w, t) => w == v && decide (s.up < t + 600 * sec)
  | none => false

/-- The nonce is used up by a statement that carries it. -/
def State.useNonce (s : State) (v : Vector Word 4) : State := if s.nonceIs v then s.dropNonce else s

/-! ## Ownership (R407, R408) -/

/-- Device time lies in the validity of the certificate, which has the form of R407; device time that is not steered counts as valid. -/
def State.certGood (s : State) (c : OwnerCert) : Bool :=
  c.formOk && (s.timeSource == .free || (decide (c.notBefore.toNat ≤ s.dev.toNat) && decide (s.dev.toNat ≤ c.notAfter.toNat)))

/-- Who may enrol: an unowned module takes the key of the certificate, an owned one its own key, or the certificate that a release
names with its key. -/
def State.mayEnrol (s : State) (st : EnrolStmt) : Bool :=
  let own := st.signer == st.cert.key
  if !s.onyx.owned then own
  else st.signer == s.onyx.ownerKey ||
    (match s.onyx.release with | some (h, t) => own && st.cert.hash == h && decide (s.up < t + 3600 * sec) | none => false)

/-- LATCH bits clear where the monitor no longer trips (R413). -/
def Onyx.unlatch (o : Onyx) : Onyx := { o with latch := vgen 4 fun x => o.latch[x] && o.nowTrip[x] }

/-- ENROL_SUBMIT: the enrolment record is written, or nothing changes; re-enrolment by the current owner alone clears the seal (R408,
R415). -/
def State.enrol (s : State) (st : EnrolStmt) : State :=
  if !s.onyxUp then s
  else
    let ok := s.keysUsable && st.magicOk && st.serial == Config.devsn && s.nonceIs st.nonce && st.sigOk && s.certGood st.cert
      && st.hash == st.cert.hash && s.mayEnrol st
    let again := s.onyx.owned && st.signer == s.onyx.ownerKey
    let s1 := s.useNonce st.nonce
    if !ok then s1.raise .ENROL_REFUSED
    else
      (s1.onOnyx fun o =>
        let o1 := { o with
          owned := true, ownerId := st.cert.hash.take 16, ownerKey := st.cert.key
          oldOwners := if o.owned ∧ o.ownerId ≠ st.cert.hash.take 16 then o.ownerId :: o.oldOwners else o.oldOwners, release := none, sealed_ := o.sealed_ && !again }
        if again then o1.unlatch else o1).raise .ENROLLED 0xFF 0 (st.cert.hash.take 16)

/-- RELEASE_SUBMIT (R408). -/
def State.releaseTo (s : State) (st : ReleaseStmt) : State :=
  if !s.onyxUp then s
  else
    let ok := s.keysUsable && s.onyx.owned && !s.onyx.sealed_ && st.magicOk && st.serial == Config.devsn && s.nonceIs st.nonce
      && st.sigOk && st.signer == s.onyx.ownerKey
    let s1 := s.useNonce st.nonce
    if ok then (s1.onOnyx fun o => { o with release := some (st.hash, s.up) }).raise .OWNER_RELEASED else s1.raise .ENROL_REFUSED

/-- RELEASE_LAPSE (R408): the new owner has not enrolled within 60 min. -/
def State.releaseEnds (s : State) : State :=
  if s.onyx.release.any fun x => decide (x.2 + 3600 * sec ≤ s.up) then s.onOnyx fun o => { o with release := none } else s

/-! ## Re-provisioning (R402, R417) -/

/-- PROVGEN_COMMAND: new keys and their request for a certificate. -/
def State.provGen (s : State) : State :=
  let o := s.onyx
  if !s.onyxUp then s
  else if (!o.zero && o.keys) ∨ o.zeroing ∨ o.rngFlt ∨ 64 ≤ o.zepoch then s.raise .PROV_REFUSED
  else
    let (csr, s1) := s.takeBytes
    { s1 with
      nor := s1.nor.rekeyed
      onyx := { s1.onyx with kroot := true, keys := false, nvmKeys := true, certOk := false, provGen := true, csr := csr } }

/-- PROVCERT_SUBMIT: the certificate passes the check of R403, or does not. Re-provisioning takes the place of re-enrolment for a
zeroised module, whose seal it clears (R415; DEDUCED, log 137). -/
def State.provCert (s : State) (ok : Bool) : State :=
  if !s.onyxUp then s
  else if !s.onyx.provGen ∨ !ok then s.raise .PROV_REFUSED
  else (s.onOnyx fun o => { o.unlatch with
    keys := true, certOk := true, provGen := false, sealed_ := o.sealed_ && !o.zero, zero := false, zlatch := false }).raise .PROVISIONED

/-- FWMIN_COMMAND (R406): within a session, `FWMINVER` rises to the running version. -/
def State.fwMinimum (s : State) (sess : Nat) : State :=
  let v := s.nor.fwVersion s.fw.bank
  if s.session sess ∧ s.onyx.fwMin.toNat < v.toNat then s.onOnyx fun o => { o with fwMin := v } else s

/-! ## Debug (R410, R411) -/

/-- A debug unlock ends. -/
def State.debugEnds (s : State) : State :=
  if s.onyx.dbg.isSome then (s.onOnyx fun o => { o with dbg := none }).raise .DEBUG_LOCKED else s

/-- DEBUG_UNLOCK_EXPIRY: the minutes of the token have passed. -/
def State.debugLapse (s : State) : State := if s.onyx.dbg.any fun x => decide (x.2.2 ≤ s.up) then s.debugEnds else s

/-- DEBUG_TOKEN_WRITE. -/
def State.debugToken (s : State) (t : DebugToken) : State :=
  if !s.onyxUp then s
  else
    let ok := s.keysUsable && s.onyx.owned && !s.onyx.sealed_ && t.magicOk && t.serial == Config.devsn && s.nonceIs t.nonce && t.sigOk
      && decide (t.scope.toNat < 4) && decide (1 ≤ t.minutes) && decide (t.minutes ≤ 1440) && !(t.scope.getLsbD 1 && s.anyGate)
    let s1 := s.useNonce t.nonce
    if ok then
      (s1.onOnyx fun o => { o with dbg := some (t.scope.getLsbD 0, t.scope.getLsbD 1, s.up + t.minutes * 60 * sec) }).raise .DEBUG_UNLOCKED
    else s1.raise .DEBUG_REFUSED

/-! ## Tamper response (R412 to R416) -/

/-- A commit in progress, or a new image, ends with the keys (R414). -/
def State.zeroCommit (s : State) : State :=
  if s.com.step = .idle then s
  else { s with com := { Commit.reset with target := s.com.target, aborted := true } }.raise .COMMIT_ABORTED 0xFF 3

/-- Steps 1 and 2 of R414. -/
def State.zeroise (s : State) : State :=
  if s.onyx.zlatch then s
  else (s.onOnyx fun o => { o with
    zlatch := true, zero := true, zeroing := true, zcellDue := true, kroot := false, keys := false, provGen := false }).raise .ZEROISED

/-- ZEPOCH_CELL_BLOWN: step 3 of R414. -/
def State.cellBlown (s : State) : State :=
  if s.onyx.zcellDue then s.onOnyx fun o => { o with zcellDue := false, zepoch := min 64 (o.zepoch + 1) } else s

/-- ZEROISE_NVM_ERASED: step 4 of R414. -/
def State.nvmErased (s : State) : State :=
  if !s.onyx.zeroing then s
  else
    let s1 := (s.onOnyx fun o => { o with
      zeroing := false, nvmKeys := false, certOk := false, owned := false, ownerId := [], ownerKey := 0, oldOwners := [], release := none }).closeSessions
    { s1.zeroCommit with nor := s1.nor.shut }

/-- An alarm is acted on at its level (R413): a lower level never undoes a higher one. -/
def State.alarm (s : State) (x : Fin 4) : State :=
  let l := s.onyx.levels[x]
  let s1 := s.raise .TAMPER_LOG x
  if l = 0 then s1
  else
    let s2 := (if l = 2 then s1.zeroise else s1).debugEnds
    (s2.onOnyx fun o => { o with sealed_ := true }).raise .SEALED x

/-- TAMPER_TRIP (R412, R413): the bit of LATCH is set at once; in reset the alarm waits for S4. MESH and TEMP go on tripping. -/
def State.tamper (s : State) (x : Fin 4) : State :=
  let s1 := s.onOnyx fun o => { o with latch := o.latch.set x true, nowTrip := if x = 0 ∨ x = 3 then o.nowTrip.set x true else o.nowTrip }
  if s.rst.held ∨ s.rst.stage < 4 then s1.onOnyx fun o => { o with due := o.due.set x true }
  else s1.alarm x

/-- The alarms that waited, and a zeroise that a reset has interrupted, before K_root is derived; every other LATCH bit is journaled
again (R413, R414). -/
def State.tamperAtS4 (s : State) : State :=
  let s1 := forFin 4 (fun x s =>
    if s.onyx.due[x] then s.alarm x else s.raiseIf s.onyx.latch[x] .TAMPER_LOG x) s
  (s1.onOnyx fun o => { o with due := tbl 4 false }).cellBlown.nvmErased

/-! ## Sessions (R409) -/

/-- The failures of an address within a minute. -/
def State.failsOf (s : State) (addr : Nat) : List TlsFail :=
  s.onyx.fails.filter fun x => x.addr == addr && decide (s.up < x.at_ + 60 * sec)

/-- A handshake fails: ten within 60 s block the address for 10 min. -/
def State.tlsFails (s : State) (addr aux : Nat) : State :=
  let l := ⟨addr, s.up⟩ :: s.failsOf addr
  let others := s.onyx.fails.filter fun x => x.addr != addr
  (s.onOnyx fun o => if l.length < 10 then { o with fails := l ++ others }
    else { o with fails := others, blocked := ⟨addr, s.up⟩ :: o.blocked.filter fun x => x.addr != addr }).raise .TLS_FAIL 0xFF aux

/-- An address is blocked. -/
def State.tlsBlocked (s : State) (addr : Nat) : Bool :=
  s.onyx.blocked.any fun x => x.addr == addr && decide (s.up < x.at_ + 600 * sec)

/-- The lowest session number that is free. -/
def State.freeSession (s : State) : Nat :=
  ((List.range 9).find? fun i => !s.session i).getD 8

/-- TLS_HANDSHAKE: `alert` is the alert of a handshake that fails by itself. A refusal by the module has no stated alert. -/
def State.handshake (s : State) (addr : Nat) (alert : Option Byte) : State :=
  if !s.rst.mgmtRun ∨ !s.onyxUp ∨ s.tlsBlocked addr then s
  else match alert with
  | some a => s.tlsFails addr a.toNat
  | none =>
    if 8 ≤ s.onyx.sessions.length ∨ !s.keysUsable ∨ !s.onyx.owned ∨ s.onyx.rngFlt then
      let (w, s1) := s.takeWord
      s1.tlsFails addr (w.toNat % 256)
    else s.onOnyx fun o => { o with sessions := o.sessions ++ [⟨s.freeSession, s.up, 0, s.up⟩] }

/-- TLS_KEY_UPDATE. -/
def State.keyUpdate (s : State) (sess : Nat) : State :=
  s.onOnyx fun o => { o with sessions := o.sessions.map fun x => if x.id = sess then { x with bytes := 0, keyAt := s.up } else x }

/-- TLS_SESSION_EXPIRY: a session is closed 24 h after it opened. -/
def State.sessionLapse (s : State) (sess : Nat) : Bool :=
  s.onyx.sessions.any fun x => x.id == sess && decide (x.opened + 86400 * sec ≤ s.up)

/-- A session ends, and with it the safety unlock that it made (R272). -/
def State.closeSession (s : State) (sess : Nat) : State :=
  (s.onOnyx fun o => { o with sessions := o.sessions.filter fun x => x.id != sess }).unlockEndWith sess

/-! ## The random generator (R400, R418) -/

/-- ONYX_RNG_FAIL and ONYX_RNG_RECOVERED. -/
def State.rngFails (s : State) : State :=
  if s.onyxUp ∧ !s.onyx.rngFlt then (s.onOnyx fun o => { o with rngFlt := true }).raise .ONYX_RNG_FAIL else s
def State.rngBack (s : State) : State := s.onOnyx fun o => { o with rngFlt := false }

/-- DRBG_RESEED. -/
def State.reseed (s : State) : State := s.onOnyx fun o => { o with reseedAt := s.up }

/-! ## Commands -/

/-- SECNONCE_READ: see `State.drawNonce`; the accessor makes no difference. -/
def execSecnonceRead (_acc : Nat) (s : State) : Host.Outcome State Fault Refusal := .next s.drawNonce

/-- NONCE_EXPIRY: see `State.nonceEnds`. -/
def execNonceExpiry (s : State) : Host.Outcome State Fault Refusal := .next s.nonceEnds

/-- ENROL_SUBMIT: see `State.enrol`. -/
def execEnrolSubmit (st : EnrolStmt) (s : State) : Host.Outcome State Fault Refusal := .next (s.enrol st)

/-- RELEASE_SUBMIT: see `State.releaseTo`. -/
def execReleaseSubmit (st : ReleaseStmt) (s : State) : Host.Outcome State Fault Refusal := .next (s.releaseTo st)

/-- RELEASE_LAPSE: see `State.releaseEnds`. -/
def execReleaseLapse (s : State) : Host.Outcome State Fault Refusal := .next s.releaseEnds

/-- PROVGEN_COMMAND: see `State.provGen`. -/
def execProvgenCommand (s : State) : Host.Outcome State Fault Refusal := .next s.provGen

/-- PROVCERT_SUBMIT: see `State.provCert`. -/
def execProvcertSubmit (ok : Bool) (s : State) : Host.Outcome State Fault Refusal := .next (s.provCert ok)

/-- FWMIN_COMMAND: see `State.fwMinimum`. -/
def execFwminCommand (sess : Nat) (s : State) : Host.Outcome State Fault Refusal := .next (s.fwMinimum sess)

/-- DEBUG_TOKEN_WRITE: see `State.debugToken`. -/
def execDebugTokenWrite (t : DebugToken) (s : State) : Host.Outcome State Fault Refusal := .next (s.debugToken t)

/-- DEBUG_LOCK_COMMAND (R411): `SECCTL.DBGLOCK`. -/
def execDebugLockCommand (s : State) : Host.Outcome State Fault Refusal := .next s.debugEnds

/-- DEBUG_UNLOCK_EXPIRY (R411): see `State.debugLapse`. -/
def execDebugUnlockExpiry (s : State) : Host.Outcome State Fault Refusal := .next s.debugLapse

/-- TAMPER_TRIP: see `State.tamper`. -/
def execTamperTrip (x : Fin 4) (s : State) : Host.Outcome State Fault Refusal := .next (s.tamper x)

/-- ZEPOCH_CELL_BLOWN: see `State.cellBlown`. -/
def execZepochCellBlown (s : State) : Host.Outcome State Fault Refusal := .next s.cellBlown

/-- ZEROISE_NVM_ERASED: see `State.nvmErased`. -/
def execZeroiseNvmErased (s : State) : Host.Outcome State Fault Refusal := .next s.nvmErased

/-- TLS_HANDSHAKE: see `State.handshake`. -/
def execTlsHandshake (addr : Nat) (alert : Option Byte) (s : State) : Host.Outcome State Fault Refusal :=
  .next (s.handshake addr alert)

/-- TLS_KEY_UPDATE: see `State.keyUpdate`. -/
def execTlsKeyUpdate (sess : Nat) (s : State) : Host.Outcome State Fault Refusal := .next (s.keyUpdate sess)

/-- TLS_SESSION_EXPIRY (R409): after 24 h the session is closed. -/
def execTlsSessionExpiry (sess : Nat) (s : State) : Host.Outcome State Fault Refusal :=
  .next (if s.sessionLapse sess then s.closeSession sess else s)

/-- TLS_SESSION_CLOSE (R409): the client closes its session. -/
def execTlsSessionClose (sess : Nat) (s : State) : Host.Outcome State Fault Refusal := .next (s.closeSession sess)

/-- ONYX_RNG_FAIL: see `State.rngFails`. -/
def execOnyxRngFail (s : State) : Host.Outcome State Fault Refusal := .next s.rngFails

/-- ONYX_RNG_RECOVERED: see `State.rngBack`. -/
def execOnyxRngRecovered (s : State) : Host.Outcome State Fault Refusal := .next s.rngBack

/-- DRBG_RESEED: see `State.reseed`. -/
def execDrbgReseed (s : State) : Host.Outcome State Fault Refusal := .next s.reseed

end Sys2Proof.Machine
end

