-- ==== Sys2Proof/Machine/Staging.lean ====
section
/-! DEFINITION. Staged records (R345): the conditions and boundaries that each chapter sets, what follows when a record takes
effect, and the safety changes (R271). -/

namespace Sys2Proof.Machine

/-! ## When a record may take effect -/

/-- The boundary of a field: one of its own, the end of a management slice, or either (R345). -/
inductive Due where
  | bound | slice | either
deriving DecidableEq, Repr

/-- A field of a port or of PRP (R383). -/
def portField (fid : Nat) : Bool := decide (fid ≤ 0x1108) || (decide (0x110D ≤ fid) && decide (fid ≤ 0x110F))

/-- A field of `SERVICE.FLOW[f]`. -/
def flowField (fid : Nat) : Bool := decide (fid ≤ 0x0C05)

/-- The boundary of a field by its record and FID (R64, R120, R301, R368, R383, R399, R419, R453). -/
def dueOf (rt : Option RecT) (fid : Nat) : Due :=
  match rt with
  | some .service => if flowField fid then .bound else .slice
  | some .security => .slice
  | some .net => if portField fid then .bound else .slice
  | some .cell => if fid = 0x0201 ∨ (0x0211 ≤ fid ∧ fid ≤ 0x0213) then .slice else .either
  | some .bridge => if 0x0214 ≤ fid ∧ fid ≤ 0x0216 then .slice else .bound
  | some .curve => .either
  | some .can => if fid ≤ 0x120E then .bound else .either
  | some .loop => if fid = 0x1510 then .either else .bound
  | _ => .bound

/-- A record type by its code. -/
def recOfCode (typ : Nat) : Option RecT := (Fld.all.find? fun f => f.rt.code == typ).map fun f => f.rt

/-- The motor object of the bridge that a BRIDGE record configures, and the slot of that bridge. -/
def State.recBridge (s : State) (b : Nat) : Option (Fin 8) := (List.finRange 8).find? fun n => s.conf n && s.recOf n == b

/-- The new value of a field in a list of changed fields, else the one in force. -/
def State.newVal (s : State) (l : List RawField) (f : Field) (inst i : Nat) : Nat :=
  match l.find? fun x => x.fid == f.fid && x.idx1 == i with
  | some x => natQ (cvNum x.val)
  | none => s.n f inst i

/-- No ring share stands on a motor object. -/
def State.shareZero (s : State) (m : Fin 4) : Bool := s.ring.mbr[m].held == 0

/-- A bridge may change what R29 names: it stands in PULSE_BLOCK with a share of zero; a new one joins a motor object whose
gates are off (R66). -/
def State.bridgeFree (s : State) (b : Nat) (l : List RawField) : Bool :=
  match s.recBridge b with
  | some n => s.br[n].form == .pblk && s.shareZero s.br[n].mo
  | none => s.gatesAreOff ⟨s.newVal l Fld.BRIDGE_MO b 0 % 4, Nat.mod_lt _ (by decide)⟩

/-- The bridges that name an input stand in PULSE_BLOCK (R248). -/
def State.inputOff (s : State) (i : Nat) : Bool := (s.naming i).all fun n => s.br[n].form == .pblk

/-- A sequencer stands before its first entry, or idle. -/
def State.seqAtStart (s : State) (c k : Nat) : Bool :=
  let q := s.seq c k
  !q.inj.active && (!q.reg.active || (q.reg.entry == 0 && q.reg.sample == 0))

/-- A sequence reads an input. -/
def State.seqReads (s : State) (c k i : Nat) : Bool :=
  (List.range (s.n Fld.CELL_SQ_LEN c k)).any fun e => s.n Fld.CELL_SQ_E_IN c k e == i

/-- The sequencers that a field of a CELL record concerns stand at entry 0 (R64, R453). -/
def State.cellFree (s : State) (c : Nat) (x : RawField) : Bool :=
  if x.fid = 0x0202 ∨ x.fid = 0x150E ∨ x.fid = 0x150F then
    (List.range 4).all fun k => !s.seqReads c k x.idx1 || s.seqAtStart c k
  else if 0x0203 ≤ x.fid ∧ x.fid ≤ 0x0210 then s.seqAtStart c x.idx1
  else true

/-- A load pin is read by sequencers that stand at entry 0 (R453). -/
def State.pinFree (s : State) (code : Nat) : Bool :=
  match ainOf code with
  | some i => (List.range 4).all fun k => !s.seqReads (i / 12) k (i % 12) || s.seqAtStart (i / 12) k
  | none => true

/-- A flow may change: its motor objects, old and new, in PULSE_BLOCK, and nothing in it (R301). -/
def State.flowFree (s : State) (l : List RawField) (f : Fin 256) : Bool :=
  let mask := BitVec.ofNat 4 (s.newVal l Fld.SERVICE_FLOW_MOMASK 0 f) ||| BitVec.ofNat 4 (s.n Fld.SERVICE_FLOW_MOMASK 0 f)
  let fl := s.fab.flows[f]
  ((List.finRange 4).all fun m => !mask.getLsbD m || s.gatesAreOff m) && fl.items.isEmpty && fl.ingress.isEmpty

/-- A flow belongs to the management plane before or after the change: it changes at the next management restart (R301). -/
def State.flowMgmt (s : State) (l : List RawField) (f : Fin 256) : Bool :=
  s.fab.flows[f].plane == .mgmt
    || planeOf (s.newVal l Fld.SERVICE_FLOW_PROD 0 f) (s.newVal l Fld.SERVICE_FLOW_CONS 0 f) == .mgmt

/-- A shadow is between PREP and SWITCH. -/
def Shadow.live (h : Shadow) : Bool := h.state == .prep || h.state == .shadow || h.state == .ready || h.state == .switch

/-- An emergency field during the mode that it governs (R215). -/
def State.modeFree (s : State) (m : Fin 4) (fid : Nat) : Bool :=
  let e := s.em[m].mode
  let stop := e == .cat0 || e == .cat1 || e == .quick || e == .cat2
  !((e == .eqr && decide (0x0904 ≤ fid) && decide (fid ≤ 0x0909)) || (e == .cro && decide (0x0909 ≤ fid) && decide (fid ≤ 0x090F))
    || (e == .sla && decide (0x0910 ≤ fid) && decide (fid ≤ 0x0916)) || (s.em[m].etAct && decide (0x0917 ≤ fid) && decide (fid ≤ 0x0919))
    || (s.inBlackout m && decide (0x091C ≤ fid) && decide (fid ≤ 0x0923)) || (stop && decide (fid ≤ 0x0903)))

/-- A member is NONE, IDLE, DRAINED or SERVICE (R202). -/
def Member.aside (x : Member) : Bool := x.state == .none_ || x.state == .idle || x.state == .drained || x.state == .service

/-- The condition of a field, by its record, holds now. `l` are the fields that change together. -/
def State.fieldMay (s : State) (rt : Option RecT) (inst : Nat) (l : List RawField) (x : RawField) : Bool :=
  let m : Fin 4 := ⟨inst % 4, Nat.mod_lt _ (by decide)⟩
  let fid := x.fid
  let brakeOff := s.gatesAreOff m && s.brake[m].state == .closed
  match rt with
  | some .bridge =>
    let ch := fid / 256
    if ch = 0x15 then s.bridgeFree inst l
    else if ch = 0x0A then (match s.recBridge inst with | some n => s.br[n].form == .pblk | none => true)
    else if ch = 9 ∨ fid = 0x0301 ∨ (0x0304 ≤ fid ∧ fid ≤ 0x0306) then
      (match s.recBridge inst with | some n => s.gatesAreOff s.br[n].mo | none => true)
    else true
  | some .motor =>
    if fid = 0x030E ∨ fid = 0x030F ∨ fid = 0x031B ∨ (0x040F ≤ fid ∧ fid ≤ 0x0411) ∨ fid = 0x0414 then s.gatesAreOff m
    else if fid / 256 = 4 then s.start[m].state == .measure && s.start[m].since == s.up
    else if (0x052C ≤ fid ∧ fid ≤ 0x052E) ∨ fid = 0x0532 then brakeOff
    else true
  | some .loop =>
    if fid = 0x0320 then s.gatesAreOff m
    else if 0x0522 ≤ fid ∧ fid ≤ 0x0528 then brakeOff
    else if 0x0701 ≤ fid ∧ fid ≤ 0x0710 then !s.shock[m].render
    else if fid = 0x0719 then s.heave[m].g == 0 && s.heave[m].ofs == 0
    else if fid = 0x1510 then s.pinFree (s.n Fld.LOOP_TPIN m) && s.pinFree (natQ (cvNum x.val))
    else true
  | some .cell => s.cellFree inst x
  | some .axis =>
    if inst < 8 then (let st := (vat s.axes .reset inst).state; st == .standstill || st == .off)
    else (List.finRange 4).all fun j => s.piOf j != some ⟨inst % 8, Nat.mod_lt _ (by decide)⟩ || s.gatesAreOff j
  | some .ring =>
    !(decide (fid ≤ 0x0806) || fid == 0x0808 || fid == 0x0809 || fid == 0x0811) || s.ring.mbr.toList.all Member.aside
  | some .protect =>
    if 0x0A07 ≤ fid ∧ fid ≤ 0x0A0D then (match s.recBridge x.idx1 with | some n => s.br[n].form == .pblk | none => true)
    else if 0x0A0E ≤ fid ∧ fid ≤ 0x0A13 then s.inputOff x.idx1
    else if 0x0A14 ≤ fid ∧ fid ≤ 0x0A1B then !(vat s.chop .reset x.idx1).enabled
    else true
  | some .emergency => if fid = 0x0924 then s.gatesAreOff m else s.modeFree m fid
  | some .service =>
    if flowField fid then
      let f : Fin 256 := ⟨x.idx1 % 256, Nat.mod_lt _ (by decide)⟩
      s.flowMgmt l f || s.flowFree l f
    else if 0x1001 ≤ fid ∧ fid ≤ 0x1004 then s.shadow.toList.all fun h => !h.live
    else true
  | some .can => if fid ≤ 0x120E then (vat s.can .reset inst).tx.isEmpty else true
  | _ => true

/-- A shadow of KIND CURRENT or OUTER holds back the records of its motor object (R358). -/
def State.shadowHolds (s : State) (rt : Option RecT) (inst : Nat) : Bool :=
  s.shadow.toList.any fun h => h.live && h.kind != .move &&
    (match rt with
     | some .loop | some .motor => h.mo.1 == inst
     | some .bridge => (match s.recBridge inst with | some n => s.br[n].mo == h.mo | none => false)
     | _ => false)

/-- The staged records of a TYPE and INST, which take effect together in sequence order (R345). -/
def State.groupOf (s : State) (typ inst : Nat) : List Staged :=
  s.img.staged.filter fun x => x.rec_.typ == typ && x.rec_.inst == inst

/-- A record changes a safety field (R271). -/
def RawRec.safety (r : RawRec) : Bool := r.fields.any fun x => isSafety r.typ x.fid

/-- The boundary of a field; a flow of the management plane has none of its own. -/
def State.dueIn (s : State) (rt : Option RecT) (l : List RawField) (x : RawField) : Due :=
  if rt = some .service ∧ flowField x.fid ∧ s.flowMgmt l ⟨x.idx1 % 256, Nat.mod_lt _ (by decide)⟩ then .slice else dueOf rt x.fid

/-- The group may take effect now, at a boundary of its own or at the end of a slice. -/
def State.groupMay (s : State) (slice : Bool) (g : List Staged) : Bool :=
  match g with
  | [] => false
  | x :: _ =>
    let rt := recOfCode x.rec_.typ
    let l := g.flatMap fun y => y.rec_.fields
    let due := l.map fun y => s.dueIn rt l y
    let time := if slice then due.contains .slice || due.all fun d => d == .either else due.all fun d => d != .slice
    time && (l.all fun y => s.fieldMay rt x.rec_.inst l y) && !s.shadowHolds rt x.rec_.inst

/-! ## What follows -/

/-- The records take their places in the configuration, in sequence order. -/
def State.takeStaged (s : State) (g : List Staged) : State :=
  g.foldl (fun s x => s.take (checkBody s [x.rec_]).1) s

/-- The configuration is checked anew; what the change alone makes is journaled in the form of the load report (R341). -/
def State.recheck (s : State) (before : List Note) : State :=
  let c := s.check
  (c.notes.filter fun x => !before.contains x && (x.kind == 5 || x.kind == 7 || x.kind == 9)).foldl State.tell c.s

/-- The carrier settings of a motor object: its bridges and their counts (R66). -/
def State.carrierSet (s : State) (m : Fin 4) : List (Fin 8 × Nat) := (s.bridges m).map fun n => (n, s.chalfOf n)

/-- Carriers start again where their settings have changed: all of a motor object with its gates off, else the changed ones
alone, in phase with the lowest-ranked bridge that switches (R66). -/
def State.carriersFollow (s old : State) : State :=
  (forFin 4 (fun m s =>
    if s.carrierSet m = old.carrierSet m then s
    else if s.gatesAreOff m then s.startCarriers m
    else
      let lead := (s.bridges m).find? fun n => s.br[n].form != .pblk
      let kept := old.carrierSet m
      (s.bridges m).foldl (fun s n =>
        if kept.contains (n, s.chalfOf n) ∧ s.pwm[n].run then s
        else
          let h := s.chalfOf n
          let off (j : Fin 8) : Nat := startCount (s.mapRank j) (s.bridges m).length h
          let c := match lead with
            | some j => (s.pwm[j].tri s.up + 2 * h + off n - off j) % (2 * h)
            | none => off n
          s.onPwm n fun _ => Pwm.reset.startedAt s.up h c) s) s).stopCarriers

/-- The scheduler tries again for unplaced tasks of the given kind; those still unplaced are journaled (R91, R466). -/
def State.placeAgain (s : State) (mine : Nat → Bool) : State :=
  let s0 := s.wantTasks
  let keep (t : Fin 28) (x : Task) : Task := if mine t then x else { x with wanted := x.wanted && x.engine.isSome }
  let s1 := s0.onFab fun b => { b with tasks := vgen 28 fun t => keep t b.tasks[t] }
  let tried := (List.range 28).filter s1.unplaced
  let s2 := s1.placeWanted.wantTasks.bindFlows
  let s3 := { s2 with fw := { s2.fw with oldCode := s2.fw.oldCode.filter fun t => (vat s2.fab.tasks .reset t).engine.isSome } }
  (tried.filter s2.unplaced).foldl (fun s t => s.tell (s.unplacedNote t)) s3

/-- A task belongs to a record: its motor object's, or its axis. -/
def State.taskOfRec (s : State) (rt : Option RecT) (inst t : Nat) : Bool :=
  let mo : Option Nat := match rt with
    | some .loop | some .motor | some .emergency => some inst
    | some .bridge => (s.recBridge inst).map fun n => (s.br[n].mo).1
    | _ => none
  match rt with
  | some .axis => t == 20 + inst
  | _ => decide (t < 20) && mo.isSome && mo == (s.taskMo t).map fun m => m.1

/-- A flow is built anew from the configuration, or left unconfigured with its finding (R278, R301). -/
def State.flowRebuilt (s : State) (f : Fin 256) : State :=
  let s0 := s.onFlow f fun _ => .reset
  let s1 := if !s.flowNamed f then s0
    else match s0.imageFlow f with
      | some g => s0.onFlow f fun _ => g
      | none => s0.tell (s0.flowNote f)
  s1.onFab Fabric.pool

/-- The flow stands as the configuration asks. -/
def State.flowStands (s : State) (f : Fin 256) : Bool :=
  let fl := s.fab.flows[f]
  match (s.onFlow f fun _ => .reset).imageFlow f with
  | some g => fl.plane == g.plane && fl.prod == g.prod && fl.cons == g.cons && fl.depth == g.depth
  | none => fl.plane == .unconf

/-- The tasks that a flow names. -/
def State.flowTask (s : State) (f : Fin 256) (t : Nat) : Bool := s.flowProd f == taskCode t || s.flowCons f == taskCode t

/-- The ring as NMOD, POS and MEMBER configure it (R181): alone, or with a place; a member that has none yet is IDLE. A position
conflict ends with the corrected record. -/
def State.ringConf (s : State) : State :=
  s.onRing fun r => { r with
    conflict := false, on := decide (1 < s.n Fld.RING_NMOD 0) && decide (s.n Fld.RING_POS 0 < s.n Fld.RING_NMOD 0)
    mbr := vgen 4 fun m =>
      if !s.yes Fld.RING_MEMBER 0 m then Member.reset
      else if r.mbr[m].state = .none_ then { r.mbr[m] with state := .idle } else r.mbr[m] }

/-- A choppers is configured where its link input is named (R233). -/
def State.chopConf (s : State) : State :=
  { s with chop := vgen 4 fun c => { s.chop[c] with config := s.n Fld.PROTECT_CH_VIN 0 c != 0 } }

/-- A gate channel is configured where its bridge, or its chopper, is. -/
def State.chanConf (s : State) : State :=
  let conf (g : Fin 52) : Bool :=
    if g.1 < 48 then
      let n := s.bridgeOfGate g
      s.conf n && decide (g.1 < gateBase n + s.gateCount n)
    else (vat s.chop .reset (g - 48)).config
  { s with chan := vgen 52 fun g => { s.chan[g] with config := conf g } }

/-- The sequencers of a cell take changed fields at entry 0 (R45, R64): a sequence that is off, or no longer continuous, ends; an idle one
tracks entry 0 afresh; a continuous one begins. -/
def State.cellActs (s old : State) (c : Nat) : State :=
  ((List.range 4).foldl (fun s k =>
    if seqExists c k ∧ ((s.seq c k).reg.active → s.n Fld.CELL_SQ_LEN c k = 0 ∨ (old.continuous c k ∧ !s.continuous c k)) then
      s.onSeq c k fun q => { q with reg := .idle, track := s.up }
    else s) s).startContinuous c

/-- An axis takes changed fields (R152, R154): MODE OFF takes it to OFF, which the table of R152 does not list (DESIGN CHOICE, log 130), and
in STANDSTILL AXSHRT follows STANDSTILL; it leaves OFF at S9 alone. -/
def State.axisActs (s : State) (k : Fin 8) : State :=
  s.onAxis k fun a =>
    if s.n Fld.AXIS_MODE k = 0 then { Axis.reset with pos := a.pos, en := a.en }
    else if a.state = .standstill ∧ a.pend = none then { a with shrt := s.n Fld.AXIS_STANDSTILL k == 1 }
    else a

/-- What a record changes in the machine beside the values that rules read (R85, R180, R202, R301, R383, R399, R419, R453). -/
def State.recordActs (s old : State) (rt : Option RecT) (inst : Nat) (l : List RawField) : State :=
  match rt with
  | some .loop =>
    let m : Fin 4 := ⟨inst % 4, Nat.mod_lt _ (by decide)⟩
    let s1 := (s.onLoop m fun x => { x with mpc := s.n Fld.LOOP_CTYPE m == 1 }).mpcTables m
    let s2 := if s.yes Fld.LOOP_PROFILE m ∧ !old.yes Fld.LOOP_PROFILE m then s1.genMeasured m else s1
    if l.any fun x => x.fid == 0x0719 then s2.onHeave m fun h => h.init (s.n Fld.LOOP_HVNWAVE m) else s2
  | some .motor => s.mpcTables ⟨inst % 4, Nat.mod_lt _ (by decide)⟩
  | some .bridge => forFin 4 (fun m s => s.mpcTables m) s
  | some .cell => s.cellActs old inst
  | some .axis =>
    if 8 ≤ inst then
      s.onPi ⟨inst % 8, Nat.mod_lt _ (by decide)⟩ fun p => { PosIf.reset with on := s.n Fld.PI_MODE inst != 0, err := p.err }
    else s.axisActs ⟨inst % 8, Nat.mod_lt _ (by decide)⟩
  | some .ring => s.ringConf
  | some .security => s.onOnyx fun o => { o with levels := vgen 4 fun i => s.n Fld.SECURITY_TMP_LEVEL 0 i }
  | some .can =>
    let c : Fin 4 := ⟨inst % 4, Nat.mod_lt _ (by decide)⟩
    if l.any fun x => decide (x.fid ≤ 0x120E) then s.canStop c else s
  | some .net =>
    let touched (p : Nat) : Bool := l.any fun x => (decide (x.fid ≤ 0x1108) && x.idx1 == p)
      || (decide (0x110D ≤ x.fid) && decide (x.fid ≤ 0x110F) && (s.n Fld.NET_PRP_PORTA 0 x.idx1 == p || s.n Fld.NET_PRP_PORTB 0 x.idx1 == p
        || old.n Fld.NET_PRP_PORTA 0 x.idx1 == p || old.n Fld.NET_PRP_PORTB 0 x.idx1 == p))
    forFin 8 (fun p s =>
      if touched p then (if s.eth.port[(⟨p.1, by omega⟩ : Fin 9)].link then s.linkDown ⟨p.1, by omega⟩ 1 else s).portConf p else s) s
  | some .service =>
    let s1 := forFin 256 (fun f s =>
      if l.any (fun x => flowField x.fid && x.idx1 == f.1) ∧ s.fab.flows[f].plane ≠ .mgmt ∧ !s.flowMgmt [] f then s.flowRebuilt f else s) s
    forFin 8 (fun k s =>
      if l.any fun x => decide (0x1512 ≤ x.fid) && x.idx1 == k.1 then
        let again := s.cap[k].run || s.yes Fld.SERVICE_CAP_EN 0 k
        if again then (s.capStop k).capArm k else s
      else s) s1
  | _ => s

/-- A record in effect is stashed, but for a safety record and after a zeroise (R347, R418). -/
def State.toStash (s : State) (g : List Staged) : State :=
  if !s.keysUsable then s
  else s.onImg fun i => { i with toStash := i.toStash ++ (g.filter fun x => !x.rec_.safety).map fun x => ⟨x.cfgSeq, x.rec_⟩ }

/-- The deltas of a group whose every record is now in effect (R345). -/
def State.tellInEffect (s : State) (g : List Staged) : State :=
  (stagedSeqs g).foldl (fun s q =>
    if s.img.staged.any fun x => x.cfgSeq == q then s else s.raise .DELTA_IN_EFFECT 0xFF 0 (bytesLE 8 q.toNat)) s

/-- The motor object of a BRIDGE record, before or after the staged change. -/
def State.recMo (s : State) (g : List Staged) (b : Nat) : Nat :=
  match s.recBridge b with
  | some n => s.br[n].mo
  | none => s.newVal (g.flatMap fun y => y.rec_.fields) Fld.BRIDGE_MO b 0 % 4

/-- The records that take effect with one: BRIDGE records of one motor object that may do so at the same boundary take effect for all
its bridges at once (R85). -/
def State.together (s : State) (slice : Bool) (typ inst : Nat) : List Staged :=
  let g := s.groupOf typ inst
  if recOfCode typ = some .bridge then
    s.img.staged.filter fun x => g.contains x || (x.rec_.typ == typ
      && (let h := s.groupOf typ x.rec_.inst
          s.recMo h x.rec_.inst == s.recMo g inst && s.groupMay slice h && !h.any fun y => y.rec_.safety))
  else g

/-- A group takes effect: the values, the checks that tie fields, carriers, placement, and what the record acts on. -/
def State.effect (s : State) (typ inst : Nat) (g : List Staged) : State :=
  let rt := recOfCode typ
  let l := g.flatMap fun y => y.rec_.fields
  let s1 := s.onImg fun i => { i with staged := i.staged.filter fun x => !g.contains x }
  let s2 := (s1.takeStaged g).recheck s.check.notes
  let s3 := (s2.carriersFollow s).chopConf.chanConf.recordActs s rt inst l
  let mine (t : Nat) : Bool := g.any (fun x => s3.taskOfRec rt x.rec_.inst t || s.taskOfRec rt x.rec_.inst t)
    || (rt == some .service && l.any fun x => flowField x.fid && s3.flowTask ⟨x.idx1 % 256, Nat.mod_lt _ (by decide)⟩ t)
  ((s3.placeAgain mine).evalArm.toStash g).tellInEffect g

/-- DELTA_RECORD_EFFECT (R345): the staged record reaches its boundary; it takes effect with every other staged change of the same
record, where the conditions of its chapter hold. -/
def State.recordEffect (s : State) (k : Nat) : State :=
  match s.img.staged[k]? with
  | some x =>
    let g := s.groupOf x.rec_.typ x.rec_.inst
    if s.groupMay false g ∧ !g.any (fun y => y.rec_.safety) then
      s.effect x.rec_.typ x.rec_.inst (s.together false x.rec_.typ x.rec_.inst)
    else s
  | none => s

/-- The records that are due at the end of a management slice. -/
def State.sliceEffects (s : State) : State :=
  ((s.img.staged.map fun x => (x.rec_.typ, x.rec_.inst)).dedup).foldl (fun s x =>
    let g := s.groupOf x.1 x.2
    if s.groupMay true g ∧ !g.any (fun y => y.rec_.safety) then s.effect x.1 x.2 (s.together true x.1 x.2) else s) s

/-! ## Safety changes (R271) -/

/-- A motor object names an input pair: as a source, as the EQR selection, as feedback or as an emergency input. -/
def State.namesPair (s : State) (m : Fin 4) (k : Nat) : Bool :=
  (allFns.flatMap (s.fnSources m)).contains (k + 2) || s.n Fld.SAFETY_MO_EQRSEL 0 m == k + 1
    || [s.n Fld.MOTOR_BRKFB m, s.n Fld.EMERGENCY_EQRIN m, s.n Fld.EMERGENCY_SLKIN m].contains (k + 1)
    || (s.bridges m).any fun n => s.n Fld.BRIDGE_DCFB (s.recOf n) == k + 1 || s.n Fld.BRIDGE_ISOIN (s.recOf n) == k + 1

/-- A motor object names an output pair. -/
def State.namesOut (s : State) (m : Fin 4) (j : Nat) : Bool :=
  (s.brakePairs m).contains (j + 1) || s.n Fld.SAFETY_MO_STOSO 0 m == j + 1
    || (s.bridges m).any fun n => s.n Fld.BRIDGE_DCOPEN (s.recOf n) == j + 1 || s.n Fld.BRIDGE_ISOOUT (s.recOf n) == j + 1

/-- A motor object names the item that a safety field changes. -/
def State.namesItem (s : State) (m : Fin 4) (typ inst : Nat) (x : RawField) : Bool :=
  match recOfCode typ with
  | some .safety =>
    if x.fid = 0x0B01 then s.namesPair m (x.idx1 / 2)
    else if x.fid ≤ 0x0B05 then s.namesPair m x.idx1
    else if x.fid ≤ 0x0B07 then s.namesOut m x.idx1
    else if x.fid ≤ 0x0B35 then m.1 == x.idx1
    else if 0x0B37 ≤ x.fid ∧ x.fid ≤ 0x0B3F then
      s.connOf m ⟨x.idx1 % 4, Nat.mod_lt _ (by decide)⟩ || (x.fid == 0x0B3D && (BitVec.ofNat 4 (natQ (cvNum x.val))).getLsbD m)
    else false
  | some .bridge => match s.recBridge inst with | some n => s.br[n].mo == m | none => false
  | _ => m.1 == inst

/-- A group with safety fields may take effect: the motor objects that name a changed item are in STO (R271). -/
def State.safetyMay (s : State) (g : List Staged) : Bool :=
  g.any (fun y => y.rec_.safety) && (g.all fun y => y.rec_.fields.all fun x =>
    !isSafety y.rec_.typ x.fid || (List.finRange 4).all fun m => !s.namesItem m y.rec_.typ y.rec_.inst x || s.garnet.mo[m].sto)
    && (match g with
        | y :: _ =>
          let l := g.flatMap fun y => y.rec_.fields
          l.all (fun x => s.fieldMay (recOfCode y.rec_.typ) y.rec_.inst l x) && !s.shadowHolds (recOfCode y.rec_.typ) y.rec_.inst
        | [] => false)

/-- SAFE_CHANGE (R271): in the Garnet cycle after, the staged safety changes whose motor objects are in STO take effect. -/
def State.safeChange (s : State) : State :=
  ((s.img.staged.map fun x => (x.rec_.typ, x.rec_.inst)).dedup).foldl (fun s x =>
    let g := s.groupOf x.1 x.2
    if s.safetyMay g then (s.effect x.1 x.2 g).raise .SAFE_CHANGE else s) s

/-- DELTA_RECORD_EFFECT: see `State.recordEffect`. -/
def execDeltaRecordEffect (k : Nat) (s : State) : Host.Outcome State Fault Refusal := .next (s.recordEffect k)
/-- SAFE_CHANGE: see `State.safeChange`. -/
def execSafeChange (s : State) : Host.Outcome State Fault Refusal := .next s.safeChange

end Sys2Proof.Machine
end

