-- ==== Sys2Proof/Machine/Flash.lean ====
section
/-! DEFINITION. The NOR flash: loading the image at S5 (R331 to R338), deltas as they arrive (R344), the stash (R347, R348), the
bank commit and new images (R349 to R353), and the archive of the safety change log (R274). -/

namespace Sys2Proof.Machine

/-! ## Geometry and commit records (R331 to R333) -/

/-- BANKSZ in bytes; 0 for a flash smaller than 64 MiB. -/
def Nor.bankBytes (n : Nor) : Nat := if n.sizeMiB < 64 then 0 else min 64 ((n.sizeMiB - 32) / 2) * 1048576

/-- The newest valid commit record. -/
def Nor.newest (n : Nor) : Option CommitRec := n.crs.head?

/-- The newest record is KIND 4: a commit has begun that no record has ended. -/
def Nor.intent (n : Nor) : Bool := match n.newest with | some r => r.kind == .intent | none => false

/-- The bank, the stash half and the log area in force; 0 where no record is valid (log 100). -/
def Nor.bankNow (n : Nor) : Bool := match n.newest with | some r => r.bank | none => false
def Nor.stashNow (n : Nor) : Bool := match n.newest with | some r => r.stash | none => false

/-- A bank, a stash half, and their change. -/
def Nor.bank (n : Nor) (b : Bool) : Option Package := if b then n.bankB else n.bankA
def Nor.setBank (n : Nor) (b : Bool) (p : Option Package) : Nor := if b then { n with bankB := p } else { n with bankA := p }
def Nor.stash (n : Nor) (h : Bool) : List StashEntry := if h then n.stash1 else n.stash0
def Nor.setStash (n : Nor) (h : Bool) (l : List StashEntry) : Nor := if h then { n with stash1 := l } else { n with stash0 := l }

/-- Slots of 256 bytes in a commit-record sector. -/
def crSlots : Nat := 256

/-- A record written into the next slot; a full sector gives way to the other one, which is erased first (R333). -/
def Nor.writeCr (n : Nor) (r : CommitRec) : Nor :=
  if n.crUsed < crSlots then { n with crs := r :: n.crs, crUsed := n.crUsed + 1 }
  else { n with crs := r :: n.crs.take crSlots, crSec := !n.crSec, crUsed := 1 }

/-- The next record, as the newest one changed by `f`; the first of all has a SEQ that the spec leaves open. -/
def State.commitRec (s : State) (f : CommitRec → CommitRec) : State :=
  match s.nor.newest with
  | some r => { s with nor := s.nor.writeCr (f { r with seq := r.seq + 1, time := s.dev, target := false, nextSt := false }) }
  | none =>
    let (w, s1) := s.takeWord
    { s1 with nor := s1.nor.writeCr (f ⟨w.toNat, .bank, false, false, s.fw.bank, false, false, false, 0, 0, [], s.dev⟩) }

/-! ## Verifying an image (R334, R337, R338, R404, R405) -/

/-- MAGIC, FORMAT, PRODUCT and KEYBLOB: an owner's image has FORM 1, a device-built one FORM 2. -/
def Package.headerOk (p : Package) (delta : Bool) : Bool :=
  p.delta == delta && p.magicOk && p.format == 1 && p.product && p.hdrLen == 512 && p.wrapOk
    && ((p.signer == 1 && p.form == 1) || (p.signer == 2 && p.form == 2) || (p.signer != 1 && p.signer != 2))

/-- A record runs beyond the body. -/
def Package.overrun (p : Package) : Bool := p.recs.any fun r => r.overrun

/-- What a bank's CFGSEQ is held against: the commit record's, the failed bank's, or nothing. -/
inductive SeqTest where
  | equal (q : BitVec 64) | below (q : BitVec 64) | free
deriving DecidableEq, Repr

def SeqTest.ok (t : SeqTest) (q : BitVec 64) : Bool :=
  match t with
  | .equal x => q == x
  | .below x => decide (q.toNat < x.toNat)
  | .free => true

/-- OWNERID is the enrolled owner's, or a former owner's whose banks still load (R408). -/
def State.ownerOk (s : State) (p : Package) : Bool :=
  s.onyx.owned && (p.ownerId == s.onyx.ownerId || s.onyx.oldOwners.contains p.ownerId)

/-- The first check that a bank fails, coded as `IMGSTAT.FAILA`; 0 where it verifies. -/
def State.bankFail (s : State) (b read : Bool) (t : SeqTest) (hash : Option (List Byte)) : Nat :=
  match s.nor.bank b with
  | none => 1
  | some p =>
    if !p.headerOk false then 1
    else if !s.ownerOk p then 2
    else if s.nor.bankBytes < p.hdrLen + p.bodyLen then 3
    else if !t.ok p.cfgSeq then 7
    else if !read ∨ !p.tagOk then 4
    else if !p.sigOk ∨ (p.signer ≠ 1 ∧ p.signer ≠ 2) then 5
    else if hash.any fun h => h != p.hash then 6
    else if p.overrun then 8
    else 0

/-! ## The stash at a load (R348) -/

/-- The fields of an entry over those of a record. -/
def overFields (old new : List RawField) : List RawField :=
  (old.filter fun x => !new.any fun y => y.fid == x.fid && y.idx1 == x.idx1 && y.idx2 == x.idx2) ++ new

/-- An entry over the records of a body: the first record of its TYPE and INST takes its fields. -/
def overRecs : List RawRec → StashEntry → List RawRec
  | [], e => [⟨e.typ, e.inst, false, e.fields⟩]
  | r :: l, e => if r.typ = e.typ ∧ r.inst = e.inst then { r with fields := overFields r.fields e.fields } :: l else r :: overRecs l e

/-- The entries that the halves in force hold, to the first whose seal fails. -/
def Nor.stashEntries (n : Nor) : List StashEntry :=
  let l := match n.newest with
    | some r => n.stash r.stash ++ (if r.kind == CrKind.intent && r.nextSt != r.stash then n.stash r.nextSt else [])
    | none => []
  l.takeWhile fun e => e.sealOk

/-- The entries above a CFGSEQ, in CFGSEQ order. -/
def Nor.stashAbove (n : Nor) (q : BitVec 64) : List StashEntry :=
  (n.stashEntries.filter fun e => decide (q.toNat < e.cfgSeq.toNat)).insertionSort fun a b => a.cfgSeq.toNat ≤ b.cfgSeq.toNat

/-- The highest CFGSEQ of the entries, or the bank's. -/
def topSeq (q : BitVec 64) (l : List StashEntry) : BitVec 64 := (l.getLast?.map fun e => e.cfgSeq).getD q

/-! ## IMAGE_LOAD_DONE (R337, R338) -/

/-- An event held for S9. -/
def State.holdEvent (s : State) (ev : Ev) (unit aux : Nat) (data : List Byte) : State :=
  { s with recd := { s.recd with held := s.recd.held ++ [s.entry ev unit aux data] } }

/-- A bank that fails a check. -/
def State.bankBad (s : State) (b : Bool) (code : Nat) : State :=
  (s.onImg fun i => if b then { i with failB := code } else { i with failA := code }).holdEvent .IMG_INVALID (bit 0 b) code []

/-- A bank that verifies is loaded, with the stash over it where that applies. -/
def State.bankGood (s : State) (b stash : Bool) : State :=
  match s.nor.bank b with
  | none => s
  | some p =>
    let l := if stash then s.nor.stashAbove p.cfgSeq else []
    let q := topSeq p.cfgSeq l
    let s1 := s.onImg fun i => { i with
      loaded := true, bank := b, cfgSeq := q, bankSeq := p.cfgSeq, loadRecs := l.foldl overRecs p.recs, dirty := decide (l ≠ []) }
    let s2 := s1.holdEvent .IMG_LOADED 0xFF (bit 0 b) (bytesLE 8 q.toNat)
    if l = [] then s2 else s2.holdEvent .STASH_APPLIED 0xFF 0 (bytesLE 4 l.length)

/-- The index counter is rebuilt after a loss of the VBAT domain (R445). -/
def State.indexBack (s : State) : State :=
  if s.rst.cause = .vbatLost then
    match s.jrn.slots.head? with
    | some x => { s with recd := { s.recd with next := x.2.1 + 8193 } }
    | none => s
  else s

/-- S5 ends. -/
def State.loaded (s : State) : State := s.onRst fun r => { r with stage := 6 }

/-- The bank of the newest record, else the other, held against the CFGSEQ that the record gives the failed bank (log 137); without a record the one that verifies with the higher CFGSEQ. -/
def State.chooseBank (s : State) (readA readB : Bool) : State :=
  let read (b : Bool) : Bool := if b then readB else readA
  match s.nor.newest with
  | some r =>
    let c := s.bankFail r.bank (read r.bank) (.equal r.cfgSeq) (some r.imgHash)
    if c = 0 then (s.bankGood r.bank true).loaded
    else
      let s1 := s.bankBad r.bank c
      let d := s1.bankFail (!r.bank) (read (!r.bank)) (.below r.cfgSeq) none
      if d = 0 then
        ((((s1.onImg fun i => { i with fallback := true, stashIgn := true }).raise .STASH_IGNORED).raise .IMG_BANK_FALLBACK).bankGood
          (!r.bank) false).loaded
      else (s1.bankBad (!r.bank) d).holdAt 6
  | none =>
    let a := s.bankFail false readA .free none
    let b := s.bankFail true readB .free none
    let seq (x : Bool) : Nat := match s.nor.bank x with | some p => p.cfgSeq.toNat | none => 0
    let s1 := if a = 0 then s else s.bankBad false a
    let s2 := if b = 0 then s1 else s1.bankBad true b
    if a ≠ 0 ∧ b ≠ 0 then s2.holdAt 6
    else
      let pick := decide (a ≠ 0) || (decide (b = 0) && decide (seq false < seq true))
      (((s2.onImg fun i => { i with noCommit := true }).raise .IMG_NOCOMMIT).bankGood pick false).loaded

/-- IMAGE_LOAD_DONE (R331, R337): a flash below 64 MiB holds at S5. -/
def State.imageLoad (s : State) (readA readB : Bool) : State :=
  if !s.inStage 5 then s
  else
    let s1 := s.indexBack
    if s1.nor.sizeMiB < 64 then s1.holdAt 6 else s1.chooseBank readA readB

/-! ## Stash entries (R347) -/

/-- Bytes of an entry: 64 for header and seal, its fields, in pages of 256. -/
def fieldsBytes (l : List RawField) : Nat := (l.map fun x => 8 + (x.vlen + 3) / 4 * 4).sum
def entryBytes (l : List RawField) : Nat := (64 + fieldsBytes l + 255) / 256 * 256

/-- Bytes used in a half. -/
def stashBytes (l : List StashEntry) : Nat := (l.map fun e => entryBytes e.fields).sum

/-- A half of the stash. -/
def halfBytes : Nat := 1048576

/-- The half that receives entries: NEXTST while a commit is in progress, else STASH. -/
def State.stashHalf (s : State) : Bool :=
  match s.nor.newest with
  | some r => if s.com.step != .idle && r.kind == .intent then r.nextSt else r.stash
  | none => false

/-! ## The commit (R349 to R351) -/

/-- A commit may start. -/
def State.mayCommit (s : State) : Bool :=
  s.com.step == .idle && !s.img.pend && s.rst.mgmtRun && s.rst.stage == 9 && s.keysUsable && !s.onyx.rngFlt && s.fw.step != .probation

/-- The wait of COMMITDLY begins where stash entries stand that no bank holds (R349). -/
def State.delayFrom (s : State) (dirty : Bool) : Option Nat := if dirty then some s.up else none

/-- Step 1: unless the newest record is KIND 4, the half other than STASH is erased. -/
def State.commitBegin (s : State) (owner : Option Package) : State :=
  let n := s.nor
  let n1 := if n.intent then n else n.setStash (!n.stashNow) []
  { s with
    nor := n1
    com := { s.com with step := .snapshot, progress := 0, repeated := false, delay := none, target := !n.bankNow, owner := owner, again := false }
  }.raise .COMMIT_START

/-- A device-built commit starts where it may; one that falls due in probation waits for its end (R360). -/
def State.commitStart (s : State) : State :=
  if s.mayCommit then s.commitBegin none
  else if s.fw.step = .probation ∧ s.com.step = .idle ∧ !s.img.pend then { s with com := { s.com with again := true } }
  else s

/-- The length of a field value in bytes. -/
def valueBytes : FType → CfgVal → Nat
  | .bytes, .bytes b => b.length
  | .s64, _ => 8
  | _, _ => 4

/-- A field as it stands in the configuration (R340); a byte string that is absent has no value to write. -/
def State.snapField (s : State) (f : Field) (inst i j : Nat) : Option RawField :=
  let v := s.cvGiven f inst i j
  let r : RawField := ⟨f.fid, f.ftype.code, i, j, valueBytes f.ftype v, v⟩
  match f.ftype, v with
  | .bytes, .bytes _ => some r
  | .bytes, _ => none
  | _, _ => some r

/-- The record of a TYPE and INST with every field. -/
def State.snapRec (s : State) (rt : RecT) (inst : Nat) : RawRec :=
  ⟨rt.code, inst, false, (Fld.all.filter fun f => f.rt == rt).flatMap fun f =>
    (List.range f.n1).flatMap fun i => (List.range f.n2).filterMap fun j =>
      if fieldFits f inst i && idxOk f i j then s.snapField f inst i j else none⟩

/-- The live configuration as the records of an image. -/
def State.snapRecs (s : State) : List RawRec :=
  ((Fld.all.map fun f => f.rt).dedup).flatMap fun rt => (List.range rt.insts).map fun k => s.snapRec rt k

/-- The snapshot CFGSEQ: the highest sequence up to which every record is in effect. -/
def State.snapSeq (s : State) : BitVec 64 :=
  (s.img.staged.map fun x => x.cfgSeq).foldl (fun q x => if x.toNat ≤ q.toNat then x - 1 else q) s.img.cfgSeq

/-- COMMIT_SNAPSHOT_DONE: step 2. -/
def State.snapshotDone (s : State) : State :=
  if s.com.step ≠ .snapshot then s
  else
    let next := if s.nor.intent then (s.nor.newest.map fun r => r.nextSt).getD false else !s.nor.stashNow
    let c := match s.com.owner with
      | some p => { s.com with step := .erase, snapSeq := p.cfgSeq, snap := p.recs }
      | none => { s.com with step := .erase, snapSeq := s.snapSeq, snap := s.snapRecs }
    { s with com := c }.commitRec fun r => { r with kind := .intent, target := s.com.target, nextSt := next }

/-- COMMIT_ERASE_DONE: step 3. -/
def State.eraseDone (s : State) : State :=
  if s.com.step ≠ .erase then s
  else { s with nor := s.nor.setBank s.com.target none, com := { s.com with step := .write, progress := 50 } }

/-- The image that a device-built commit writes; its hash, length and key are of its own making. -/
def State.builtImage (s : State) (hash : List Byte) (len : Nat) : Package :=
  ⟨false, true, 1, true, s.onyx.ownerId, true, 2, true, true, 2, s.com.snapSeq, 0, 512, len, hash, s.com.snap⟩

/-- COMMIT_WRITE_DONE: step 4. -/
def State.writeDone (s : State) : State :=
  if s.com.step ≠ .write then s
  else
    let (hash, s1) := s.takeBytes
    let len := (s.com.snap.map fun r => 8 + fieldsBytes r.fields).sum
    let p := (s.com.owner).getD (s.builtImage hash len)
    { s1 with nor := s1.nor.setBank s.com.target (some p), com := { s.com with step := .readBack, progress := 97 } }

/-! ### What waits for a commit (R352, R353) -/

/-- The archive of the change log: its KIND 2 entry stands alone in the other area, and a KIND 2 record names that area. -/
def State.archiveNow (s : State) (actor : List Byte) : State :=
  match s.slog.entries with
  | [] => s
  | e :: _ =>
    let (h, s1) := s.takeBytes
    let x : SafeLogEntry := ⟨s.slog.next, 2, 0, s.dev, actor.take 16, Config.safetySetCrc s.safetySet, h.take 32, Config.sha384 e.bytes⟩
    ({ s1 with slog := ⟨[x], s.slog.next + 1, false⟩ }.commitRec fun r => { r with kind := .log, logArea := !r.logArea }).raise
      .SAFELOG_ARCHIVED

/-- The commit has ended: the archive and the new image that waited for it follow. -/
def State.afterCommit (s : State) : State :=
  let c := s.com
  let s1 : State := { s with com := { c with step := .idle, progress := 0, owner := none, snap := [], waiting := none, archive := none } }
  let s2 := match c.archive with
    | some a => s1.archiveNow a
    | none => s1
  match c.waiting with
  | some p => s2.commitBegin (some p)
  | none => s2

/-- Step 6: the KIND 1 record. -/
def State.commitDone (s : State) : State :=
  match s.nor.bank s.com.target with
  | none => s
  | some p =>
    let next := (s.nor.newest.map fun r => r.nextSt).getD false
    let owner := s.com.owner.isSome
    let s1 := s.commitRec fun r => { r with
      kind := .bank, bank := s.com.target, stash := next, cfgSeq := s.com.snapSeq, imgLen := p.hdrLen + p.bodyLen, imgHash := p.hash }
    let dirty := s1.nor.stash next != []
    let s2 := s1.onImg fun i => { i with
      dirty := dirty, pend := i.pend || owner, bankSeq := if owner then i.bankSeq else s.com.snapSeq }
    (({ s2 with com := { s2.com with aborted := false, delay := s2.delayFrom dirty } }.onOnyx fun o => { o with oldOwners := [] }).raise
      .COMMIT_DONE 0xFF (bit 0 s.com.target) (bytesLE 8 s.com.snapSeq.toNat)).afterCommit

/-- A read-back mismatch: one repeat from step 3. -/
def State.commitBad (s : State) : State :=
  let s1 := s.raise .COMMIT_FAIL
  if s.com.repeated then { s1 with com := { s1.com with delay := s1.delayFrom s.img.dirty } }.afterCommit
  else { s1 with com := { s1.com with step := .erase, progress := 0, repeated := true } }

/-- COMMIT_READBACK_DONE: steps 5 and 6. -/
def State.readbackDone (s : State) (ok : Bool) : State :=
  if s.com.step ≠ .readBack then s else if ok then s.commitDone else s.commitBad

/-- COMMIT_DELAY_EXPIRY (R349): COMMITDLY has passed since the wait began. -/
def State.delayEnds (s : State) : State :=
  match s.com.delay with
  | some t => if s.n Fld.SERVICE_COMMITDLY 0 * sec ≤ s.up - t then { s with com := { s.com with delay := none } }.commitStart else s
  | none => s

/-- STASH_ENTRY_WRITTEN (R347): the oldest record in effect reaches the stash, and COMMITDLY starts anew; above 75 % the commit
starts at once. -/
def State.stashWritten (s : State) : State :=
  match s.img.toStash with
  | [] => s
  | x :: rest =>
    if !s.rst.mgmtRun ∨ !s.keysUsable then s
    else
      let h := s.stashHalf
      let l := s.nor.stash h ++ [⟨x.cfgSeq, x.rec_.typ, x.rec_.inst, x.rec_.fields, true⟩]
      let s1 : State := { s with
        nor := s.nor.setStash h l
        img := { s.img with toStash := rest, dirty := true }
        com := { s.com with delay := some s.up } }
      if 3 * halfBytes / 4 < stashBytes l then s1.commitStart else s1

/-! ## Deltas (R344) -/

/-- The header, owner, tag or signature of a delta or a new image fails, or Onyx takes none (R337, R404, R405, R415). -/
def State.submitBad (s : State) (p : Package) (delta : Bool) : Bool :=
  !s.keysUsable || s.onyx.sealed_ || !s.onyx.owned || !p.headerOk delta || p.ownerId != s.onyx.ownerId || p.signer != 1 || !p.tagOk || !p.sigOk

/-- The configuration with every staged record and the records of a delta in their places. -/
def State.wouldBe (s : State) (p : Package) : State :=
  let s1 := { s with used := [] }.takeStaged s.img.staged
  s1.take (checkBody s1 p.recs).1

/-- The first field of a delta outside its range (R344). -/
def State.rangeFault (s : State) (t : State) (p : Package) : Option Note :=
  (checkBody s p.recs).1.findSome? fun x =>
    match t.judgeField x.field x.inst x.i x.val with
    | some r =>
      if r.kind = 0 then none
      else some ⟨.DELTA_REFUSED, x.field.rt.code, x.inst, x.field.fid, x.i, x.j, r.kind, rawWord x.field.ftype.code x.val,
        rawWord x.field.ftype.code r.val, none⟩
    | none => none

/-- The delta changes safety fields. -/
def Package.safety (p : Package) : Bool := p.recs.any RawRec.safety
def Package.safetyCount (p : Package) : Nat :=
  (p.recs.map fun r => (r.fields.filter fun x => isSafety r.typ x.fid).length).sum

/-- The delta changes a field of a record type in a stretch of identifiers. -/
def Package.touches (p : Package) (rt : RecT) (lo hi : Nat) : Bool :=
  p.recs.any fun r => r.typ == rt.code && r.fields.any fun x => decide (lo ≤ x.fid) && decide (x.fid ≤ hi)

/-- The curves that a motor object names under the delta, that the delta touches or names, and that are not valid (R120). -/
def curveFaults (t : State) (p : Package) : List Nat :=
  (List.range 16).filter fun c =>
    let touched := p.recs.any fun r => r.typ == RecT.curve.code && r.inst == c
    !t.curveOk c && (List.finRange 4).any fun m => t.n Fld.LOOP_CURVE m == c &&
      (touched || p.recs.any fun r => r.typ == RecT.loop.code && r.inst == m.1 && r.fields.any fun x => x.fid == Fld.LOOP_CURVE.fid)

/-- The mapping refuses a bridge that it did not refuse before (R24, R25, R220). -/
def State.mapFault (s t : State) : Bool := t.mapping.2.any fun x => !s.mapping.2.contains x

/-- A flow of the delta would stay unconfigured (R278). -/
def flowFault (t : State) (p : Package) : Bool :=
  (List.finRange 256).any fun f =>
    decide (24 ≤ f.1) && (p.recs.any fun r => r.typ == RecT.service.code && r.fields.any fun x => flowField x.fid && x.idx1 == f.1)
      && t.flowNamed f && (t.flowBad f || decide (65232 < t.imageCredits f + t.n Fld.SERVICE_FLOW_DEPTH 0 f))

/-- A TMP level is lowered while a LATCH bit is set (R419). -/
def State.tmpFault (s t : State) : Bool :=
  s.onyx.latch.toList.any id && (List.range 4).any fun i => decide (t.n Fld.SECURITY_TMP_LEVEL 0 i < s.n Fld.SECURITY_TMP_LEVEL 0 i)

/-- Why Garnet takes no safety change now: 1 not unlocked, 2 log full, 3 chain broken; 0 where it takes one (R271, R273). -/
def State.safetyShut (s : State) : Nat :=
  if s.garnet.unlocked.isNone then 1 else if slogMax ≤ s.slog.entries.length then 2 else if s.slog.broken then 3 else 0

/-- Bytes of the stash entries of a delta's non-safety records. -/
def Package.stashNeed (p : Package) : Nat := ((p.recs.filter fun r => !r.safety).map fun r => entryBytes r.fields).sum

/-- AUX of DELTA_REFUSED, or 0, beside the range check. -/
def State.deltaFault (s t : State) (p : Package) : Nat :=
  if s.rst.stage < 7 ∨ s.rst.hold ≠ 0 then 9
  else if s.submitBad p true ∨ 65536 < p.bodyLen then 1
  else if p.baseSeq ≠ s.img.cfgSeq ∨ p.cfgSeq ≠ p.baseSeq + 1 then 2
  else if p.overrun ∨ (checkBody s p.recs).2 ≠ [] then 3
  else if (s.rangeFault t p).isSome then 4
  else if curveFaults t p ≠ [] ∨ s.mapFault t ∨ flowFault t p ∨ s.tmpFault t ∨ (p.safety ∧ s.safetyShut ≠ 0) then 5
  else if 16 ≤ (stagedSeqs s.img.staged).length then 6
  else if halfBytes < stashBytes (s.nor.stash s.stashHalf) + p.stashNeed then 7
  else if s.img.pend then 8
  else 0

/-- The entry of the change log that a safety delta needs, over the set after it (R271, R273). -/
def State.logChange (s t : State) (p : Package) : State :=
  let kind := if p.touches .safety Fld.SAFETY_PWHASH.fid Fld.SAFETY_PWHASH.fid then 3 else 1
  { ({ s with given := t.given }.slogAppend kind p.safetyCount s.onyx.ownerId (p.hash.take 32)) with given := s.given }

/-- DELTA_SUBMIT (R344, R345): accepted and staged whole, or refused whole. -/
def State.deltaSubmit (s : State) (sess : Nat) (p : Package) : State :=
  if !s.rst.mgmtRun ∨ !s.session sess then s
  else
    let t := s.wouldBe p
    let c := s.deltaFault t p
    if c = 0 then
      let s1 := if p.safety then s.logChange t p else s
      (s1.onImg fun i => { i with
        cfgSeq := p.cfgSeq
        staged := i.staged ++ p.recs.map fun r => ⟨p.cfgSeq, r, s.onyx.ownerId, p.hash, none⟩ }).raise .DELTA_ACCEPTED 0xFF 0 (bytesLE 8 p.cfgSeq.toNat)
    else
      let data := match s.rangeFault t p with
        | some x => if c = 4 then x.data else []
        | none => []
      let s1 := (s.raise .DELTA_REFUSED 0xFF c data).raiseIf (c == 5 && p.safety && s.safetyShut != 0) .SAFE_CHANGE_REFUSED 0xFF s.safetyShut
      if c = 5 then (curveFaults t p).foldl (fun s k => s.raise .CURVE_INVALID k) s1 else s1

/-! ## New images and the archive (R352, R353, R274) -/

/-- The module holds with HOLD = 6. -/
def State.imageHold (s : State) : Bool := s.rst.hold == 6

/-- AUX of IMG_REFUSED, or 0. -/
def State.imageFault (s : State) (p : Package) : Nat :=
  if s.submitBad p false then 1
  else if p.cfgSeq.toNat ≤ s.img.cfgSeq.toNat ∧ !s.imageHold then 2
  else if s.nor.bankBytes < p.hdrLen + p.bodyLen ∨ p.overrun then 3
  else if s.rst.stage ≠ 9 ∧ !s.imageHold then 4
  else if (s.com.step ≠ .idle ∧ s.com.owner.isSome) ∨ s.com.waiting.isSome ∨ s.img.pend ∨ s.fw.step = .probation then 5
  else 0

/-- IMAGE_SUBMIT (R352). -/
def State.imageSubmit (s : State) (sess : Nat) (p : Package) : State :=
  if !s.rst.mgmtRun ∨ !s.session sess then s
  else
    let c := s.imageFault p
    if c ≠ 0 then s.raise .IMG_REFUSED 0xFF c
    else if s.com.step = .idle then s.commitBegin (some p)
    else { s with com := { s.com with waiting := some p } }

/-- SAFELOG_ARCHIVE (R274): an owner-signed acknowledgement that names the newest entry. -/
def State.archive (s : State) (sess : Nat) (sigOk : Bool) (index : Nat) (hash actor : List Byte) : State :=
  if !s.rst.mgmtRun ∨ !s.session sess then s
  else
    let named : Bool := match s.slog.entries with
      | e :: _ => index == e.index && hash == Config.sha384 e.bytes
      | [] => false
    if !sigOk ∨ !named ∨ !s.keysUsable then s.raise .SAFE_CHANGE_REFUSED 0xFF 4
    else if s.com.step = .idle then s.archiveNow actor
    else { s with com := { s.com with archive := some actor } }

/-! ## Commands -/

/-- IMAGE_LOAD_DONE: see `State.imageLoad`; `readA` and `readB` say that the flash gives the bytes of the banks back. -/
def execImageLoadDone (readA readB : Bool) (s : State) : Host.Outcome State Fault Refusal := .next (s.imageLoad readA readB)
/-- DELTA_SUBMIT: see `State.deltaSubmit`. -/
def execDeltaSubmit (sess : Nat) (p : Package) (s : State) : Host.Outcome State Fault Refusal := .next (s.deltaSubmit sess p)
/-- STASH_ENTRY_WRITTEN: see `State.stashWritten`. -/
def execStashEntryWritten (s : State) : Host.Outcome State Fault Refusal := .next s.stashWritten
/-- COMMIT_DELAY_EXPIRY: see `State.delayEnds`. -/
def execCommitDelayExpiry (s : State) : Host.Outcome State Fault Refusal := .next s.delayEnds
/-- COMMIT_COMMAND (R349): `IMGCTL.COMMIT`. -/
def execCommitCommand (s : State) : Host.Outcome State Fault Refusal := .next s.commitStart
/-- COMMIT_SNAPSHOT_DONE: see `State.snapshotDone`. -/
def execCommitSnapshotDone (s : State) : Host.Outcome State Fault Refusal := .next s.snapshotDone
/-- COMMIT_ERASE_DONE: see `State.eraseDone`. -/
def execCommitEraseDone (s : State) : Host.Outcome State Fault Refusal := .next s.eraseDone
/-- COMMIT_WRITE_DONE: see `State.writeDone`. -/
def execCommitWriteDone (s : State) : Host.Outcome State Fault Refusal := .next s.writeDone
/-- COMMIT_READBACK_DONE: see `State.readbackDone`. -/
def execCommitReadbackDone (ok : Bool) (s : State) : Host.Outcome State Fault Refusal := .next (s.readbackDone ok)
/-- IMAGE_SUBMIT: see `State.imageSubmit`. -/
def execImageSubmit (sess : Nat) (p : Package) (s : State) : Host.Outcome State Fault Refusal := .next (s.imageSubmit sess p)
/-- SAFELOG_ARCHIVE: see `State.archive`. -/
def execSafelogArchive (sess : Nat) (sigOk : Bool) (index : Nat) (hash actor : List Byte) (s : State) :
    Host.Outcome State Fault Refusal := .next (s.archive sess sigOk index hash actor)

end Sys2Proof.Machine
end

