-- ==== Sys2Proof/Machine/LiveService.lean ====
section
/-! DEFINITION. Shadow execution (R354 to R359), with the commands of the current loop and the outer loop, in which a shadow is
compared; the management firmware (R360 to R362); and availability (R365 to R367). -/

namespace Sys2Proof.Machine

/-! ## START (R354, R358) -/

/-- The motor object of a shadow command: the one it names, or that of the task. -/
def State.shadowMo (s : State) (kind : ShadowKind) (task : Nat) : Option (Fin 4) :=
  match kind with
  | .move => s.taskMo task
  | _ => some ⟨task % 4, Nat.mod_lt _ (by decide)⟩

/-- The staged records that a shadow of KIND CURRENT or OUTER carries: those of LOOP, MOTOR and BRIDGE of its motor object. -/
def State.carries (s : State) (kind : ShadowKind) (m : Fin 4) (x : Staged) : Bool :=
  kind != .move && !x.rec_.safety &&
    (match recOfCode x.rec_.typ with
     | some .loop | some .motor => x.rec_.inst == m.1
     | some .bridge => (match s.recBridge x.rec_.inst with | some n => s.br[n].mo == m | none => false)
     | _ => false)

/-- The configuration with a list of staged records in force. -/
def State.underRecs (s : State) (g : List Staged) : State :=
  if g.isEmpty then s
  else
    let c := (s.takeStaged g).check.s
    { s with given := c.given, used := c.used }

/-- A shadow slot with these tasks, as START would fill it. -/
def shadowAsk (kind : ShadowKind) (task : Nat) (m : Fin 4) (target : Fin 16) : Shadow :=
  { Shadow.reset with kind := kind, task := task, mo := m, target := target }

/-- The target engine meets R91 and R466 with the shadow tasks added, under the configuration that they would run. -/
def State.engineFits (s : State) (e : Fin 16) (l : List Nat) : Bool :=
  let all := l ++ s.onEngine e
  if hasShock l then (s.onEngine e).isEmpty && l.length == 1
  else !hasShock (s.onEngine e) && s.loopsFit all && s.othersFit all

/-- REASON of SHADOW_REFUSED, or 0. -/
def State.shadowRefusal (s : State) (sl : Fin 2) (task : Nat) (kind : ShadowKind) (target : Fin 16) : Nat :=
  let mo := s.shadowMo kind task
  let m := mo.getD 0
  let other := s.shadow[1 - sl]
  let tasks := s.shadowTasks (shadowAsk kind task m target)
  let free (h : Shadow) : Bool := h.state == .idle || h.state == .abort
  if !free s.shadow[sl] ∨ (!free other ∧ mo.isSome ∧ s.shadowMo other.kind other.task = mo) then 1
  else if !(s.underRecs (s.img.staged.filter (s.carries kind m))).engineFits target tasks then 2
  else if tasks.any s.moveRefused then 3
  else if kind ≠ .move ∧ s.start[m].state ≠ .run then 4
  else if kind = .move ∧ 28 ≤ task then 5
  else 0

/-- SHADOW_START_COMMAND: KIND 3 is reserved and opens nothing. -/
def State.shadowStart (s : State) (sl : Fin 2) (task : Byte) (kind : BitVec 2) (target : Fin 16) : State :=
  if kind = 3 ∨ s.rst.stage ≠ 9 then s
  else
    let k : ShadowKind := if kind = 0 then .move else if kind = 1 then .current else .outer
    let t := task.toNat
    let r := s.shadowRefusal sl t k target
    if r ≠ 0 then (s.onShadow sl fun h => { h with reason := r }).raise .SHADOW_REFUSED sl r
    else
      let m := (s.shadowMo k t).getD 0
      let s1 := s.onImg fun i => { i with
        staged := i.staged.map fun x => if s.carries k m x then { x with carried := some sl } else x }
      s1.onShadow sl fun _ => { shadowAsk k t m target with
        state := .prep, carry := s.img.staged.any (s.carries k m) }

/-- The records that a slot carries. -/
def State.carriedBy (s : State) (sl : Fin 2) : List Staged := s.img.staged.filter fun x => x.carried == some sl

/-- SHADOW_PREP_DONE (R356): loading is complete, and at the first period boundary the live task's state is copied. -/
def State.shadowPrep (s : State) (sl : Fin 2) : State :=
  let h := s.shadow[sl]
  if h.state ≠ .prep then s
  else (s.onShadow sl fun h => { h with
    state := .shadow, since := s.up, pwm := s.pwm, loop := s.loops[h.mo], start := s.start[h.mo], outer := s.outer[h.mo] }).raise .SHADOW_START sl

/-! ## The comparison (R356) -/

/-- The observers and the angle of one start machine in the state of another. -/
def Start.observed (live sh : Start) : Start :=
  { live with
    lamA := sh.lamA, lamB := sh.lamB, wPll := sh.wPll, obsAng := sh.obsAng, obsErr := sh.obsErr, lockCnt := sh.lockCnt, locked := sh.locked
    asrc := sh.asrc, ang := sh.ang, angAt := sh.angAt, spd := sh.spd, ramp := sh.ramp, fHz := sh.fHz, hfiPos := sh.hfiPos
    hfiIq := sh.hfiIq }

/-- The integrators of one PWM state in another. -/
def Pwm.integrated (live sh : Pwm) : Pwm :=
  { live with xd := sh.xd, xq := sh.xq, xc := sh.xc, vsat := sh.vsat, dhat := sh.dhat, ipred := sh.ipred, dpwm1 := sh.dpwm1 }

/-- The current loop of a bridge as the shadow runs it on the mirrored inputs, the samples and the reference that the live run took:
`s` before the live run, `t` after it. -/
def State.shadowLoop (s t : State) (sl : Fin 2) (n : Fin 8) : State :=
  let h := s.shadow[sl]
  let m := h.mo
  let b : State := { s.underRecs (s.carriedBy sl) with
    free := t.free, fab := t.fab
    pwm := vmod s.pwm n fun p =>
      { p.integrated h.pwm[n] with smp := t.pwm[n].smp, iab := t.pwm[n].iab, npdv := t.pwm[n].npdv }
    loops := s.loops.set m { h.loop with tref := t.loops[m].tref }
    start := vmod s.start m fun x => x.observed h.start }
  let b2 := if b.rank0 m = some n then b.rank0Step m n s.pwm[n].tl else b
  (b2.controlBridge m n s.pwm[n].tl).1

/-- A shadow of KIND CURRENT is compared: at the rank-0 bridge, with the largest difference of the others since. -/
def State.compareLoop (s t : State) (sl : Fin 2) (n : Fin 8) : State :=
  let h := t.shadow[sl]
  let x := s.shadowLoop t sl n
  let dvd := t.pwm[n].vd - x.pwm[n].vd
  let dvq := t.pwm[n].vq - x.pwm[n].vq
  let d := qdiv (Config.sqrt (dvd * dvd + dvq * dvq)) (qdiv (s.vdc n) root3)
  let t1 := { t with free := x.free }.onShadow sl fun h => { h with
    pwm := h.pwm.set n x.pwm[n], loop := x.loops[h.mo], start := x.start[h.mo], dv := h.dv.set n (dvd, dvq), diff := maxQ h.diff d }
  if s.rank0 h.mo = some n then
    let big := maxQ h.diff d
    (t1.onShadow sl fun h => { h with diff := 0 }).shadowJudge sl big (s.q Fld.SERVICE_SHTOL 0)
  else t1

/-- CURRENT_LOOP_TASK_START: the live task, and each shadow that runs beside it. -/
def State.loopTask (s : State) (n : Fin 8) : State :=
  let t := s.currentLoop n
  if !s.conf n ∨ !s.pwm[n].run then t
  else
    forFin 2 (fun sl t =>
      let h := t.shadow[sl]
      if h.runs ∧ h.kind = .current ∧ h.mo = s.br[n].mo ∧ t.switching n then s.compareLoop t sl n else t) (t.shadowMove n)

/-- The outer loop as a shadow runs it, compared (R356). -/
def State.compareOuter (s t : State) (sl : Fin 2) (m : Fin 4) : State :=
  let b : State := { s.underRecs (s.carriedBy sl) with
    free := t.free, fab := t.fab, outer := s.outer.set m (s.shadow[sl]).outer }
  let x := { b with br := (s.kovStep m).br }.outerTask m
  let dt := t.outer[m].tRaw - x.outer[m].tRaw
  ({ t with free := x.free }.onShadow sl fun h => { h with outer := x.outer[m], dt := dt }).shadowJudge sl
    (qdiv (absQ dt) (s.q Fld.LOOP_TRATED m)) (s.q Fld.SERVICE_SHTOL 0)

/-- OUTER_LOOP_PERIOD: the live task, and each shadow that runs beside it. -/
def State.outerTaskStart (s : State) (m : Fin 4) : State :=
  let t := s.outerPeriod m
  if s.bridges m = [] ∨ (vat s.fab.tasks .reset (8 + m.1)).engine.isNone then t
  else
    forFin 2 (fun sl t =>
      let h := t.shadow[sl]
      if h.runs ∧ h.kind = .outer ∧ h.mo = m ∧ s.runsHere m then s.compareOuter t sl m else t) (t.shadowMove (8 + m))

/-- COMPARE_DEADLINE: an overrun on an engine ends the shadows that target it (R359). -/
def State.deadlinePass (s : State) (n : Fin 8) : State :=
  let t := s.deadline n
  if t.loops[s.br[n].mo].ovr = s.loops[s.br[n].mo].ovr then t
  else forFin 2 (fun sl t => match t.shadow[sl].state with
    | .prep | .shadow | .ready => if t.shadow[sl].target.1 = s.taskPort n then t.abortShadow sl 11 else t
    | _ => t) t

/-! ## Switching (R356 to R359) -/

/-- SHADOW_GO_COMMAND. -/
def State.shadowGo (s : State) (sl : Fin 2) : State :=
  if s.shadow[sl].state = .ready then s.onShadow sl fun h => { h with state := .switch, tries := 0, since := s.up } else s

/-- SHADOW_ABORT_COMMAND: before SWITCH. -/
def State.shadowAbort (s : State) (sl : Fin 2) : State :=
  match s.shadow[sl].state with
  | .prep | .shadow | .ready => s.abortShadow sl 10
  | _ => s

/-- SHADOW_TIMEOUT: not READY within SHTMAX of entering SHADOW. -/
def State.shadowLate (s : State) (sl : Fin 2) : State :=
  let h := s.shadow[sl]
  if h.state = .shadow ∧ h.since + s.n Fld.SERVICE_SHTMAX 0 * sec ≤ s.up then s.abortShadow sl 6 else s

/-- The state of the shadow becomes live, with every integrating state moved by the last difference of the outputs (R357). -/
def State.shadowState (s : State) (h : Shadow) : State :=
  match h.kind with
  | .move => s
  | .current =>
    let s1 := (s.bridges h.mo).foldl (fun s n => s.onPwm n fun p =>
      { p.integrated h.pwm[n] with xd := (h.pwm[n]).xd + (h.dv[n]).1, xq := (h.pwm[n]).xq + (h.dv[n]).2 }) s
    (s1.onLoop h.mo fun l => { l with dfw := h.loop.dfw }).onStart h.mo fun x => x.observed h.start
  | .outer => s.onOuter h.mo fun _ => { h.outer with xs := h.outer.xs + h.dt, xf := h.outer.xf + h.dt }

/-- The carried records take effect (R358). -/
def State.carriedEffect (s : State) (sl : Fin 2) : State :=
  (((s.carriedBy sl).map fun x => (x.rec_.typ, x.rec_.inst)).dedup).foldl (fun s k =>
    s.effect k.1 k.2 ((s.carriedBy sl).filter fun x => x.rec_.typ == k.1 && x.rec_.inst == k.2)) s

/-- SHADOW_DONE: journaled after the restart where the cluster is down. -/
def State.tellDone (s : State) (sl : Fin 2) : State :=
  if s.rst.mgmtRun then s.raise .SHADOW_DONE sl else s.holdEvent .SHADOW_DONE sl 0 []

/-- SHADOW_SWITCH_BOUNDARY: a boundary at least 20 µs after SWITCH was entered; the fabric moves the tasks, or waits for the next boundary,
at most 100 of them. -/
def State.shadowSwitch (s : State) (sl : Fin 2) : State :=
  let h := s.shadow[sl]
  let tasks := s.shadowTasks h
  if h.state ≠ .switch ∨ s.up < h.since + 20 * us then s
  else if tasks.any s.moveRefused then
    let s1 := (s.onShadow sl fun h => { h with tries := h.tries + 1 }).raise .MIGRATE_REFUSED h.task
    if 100 ≤ h.tries + 1 then s1.abortShadow sl 7 else s1
  else
    let s1 := tasks.foldl (fun s t => if hlt : t < 28 then s.rebind ⟨t, hlt⟩ h.target else s) s
    let s2 := (s1.drainPosts.shadowState h).carriedEffect sl
    let s3 := { s2.onShadow sl fun h => { h with state := .done } with
      fw := { s2.fw with oldCode := s2.fw.oldCode.filter fun t => !tasks.contains t } }
    s3.tellDone sl

/-! ## Management firmware (R360 to R362, R406) -/

/-- The firmware bank not in force is erased. -/
def State.fwErase (s : State) : State :=
  { s with nor := if s.nor.fwNow then { s.nor with fw0 := none } else { s.nor with fw1 := none } }

/-- FIRMWARE_PACKAGE_SUBMIT: refused by Onyx, or written; an update under way, or old loop code, keeps another out. -/
def State.fwSubmit (s : State) (sess : Nat) (p : FwPackage) : State :=
  let bad := !s.keysUsable || s.onyx.sealed_ || !p.sigOk || !p.chainOk || (s.yes Fld.SECURITY_FWOWNERSIG 0 && !p.ownerOk)
    || decide (p.version.toNat < s.onyx.fwMin.toNat)
  if !s.rst.mgmtRun ∨ !s.session sess then s
  else if bad then s.raise .FW_SIG_FAIL
  else if s.fw.step ≠ .idle ∨ s.fw.trial ∨ s.fw.oldCode ≠ [] then s
  else { s.fwErase with fw := { s.fw with step := .writing, pkg := some p, repeated := false } }

/-- FW_WRITE_DONE: read back; one repeat from the erase. -/
def State.fwWritten (s : State) (ok : Bool) : State :=
  if s.fw.step ≠ .writing then s
  else if ok then
    let v := s.fw.pkg.map fun p => p.version
    { s with
      nor := if s.nor.fwNow then { s.nor with fw0 := v } else { s.nor with fw1 := v }
      fw := { s.fw with step := .waiting } }.raise .FW_WRITTEN
  else if s.fw.repeated then { s with fw := { s.fw with step := .idle, pkg := none, repeated := false } }.raise .FW_REVERTED
  else { s.fwErase with fw := { s.fw with repeated := true } }

/-- FW_TRIAL: once no commit runs, the cluster restarts on the new bank. -/
def State.fwTry (s : State) : State :=
  if s.fw.step = .waiting ∧ s.com.step = .idle ∧ s.rst.mgmtRun then
    let s1 := s.raise .FW_TRIAL
    { s1 with fw := { s1.fw with trial := true, since := s.up } }.mgmtDown
  else s

/-- FW_TRIAL_START_TIMEOUT: the new firmware is not running within 2 s. -/
def State.fwLate (s : State) : State :=
  if s.fw.trial ∧ !s.rst.mgmtRun ∧ s.fw.since + 2 * sec ≤ s.up then s.fwRevert else s

/-- FW_PROBATION_END: FWPROB has passed; the KIND 3 record names the bank that runs, and every placed task still runs the old code. -/
def State.fwAccept (s : State) : State :=
  if s.fw.step = .probation ∧ s.rst.mgmtRun ∧ s.fw.since + s.n Fld.SERVICE_FWPROB 0 * sec ≤ s.up then
    let old := (List.range 28).filter fun t => (vat s.fab.tasks .reset t).engine.isSome
    let s1 := s.commitRec fun r => { r with kind := .fw, fwBank := s.fw.bank }
    let s2 := { s1 with fw := { s1.fw with step := .idle, trial := false, pkg := none, repeated := false, oldCode := old } }.raise
      .FW_ACCEPTED
    if s2.com.again then s2.commitStart else s2
  else s

/-- FW_REVERT_COMMAND: `FWCTL.REVERT` ends probation. -/
def State.fwBack (s : State) : State := if s.fw.step = .probation then s.mgmtDown.fwRevert else s

/-! ## Availability (R365 to R367) -/

/-- The events of R366: causes inside the module. -/
def insideEvents : List Ev :=
  [.FABRIC_CONSERVATION, .FABRIC_POISON, .LOOP_DEADLINE, .PLL_UNLOCK, .SF_GARNET_FAULT, .RING_CONSERVATION, .REF_FAULT,
   .CELL_DEGRADED, .DIE_SHUTDOWN]

/-- A reaction whose cause lies inside the module; an STO counts so under a fault of Garnet. -/
def State.inside (s : State) (r : React) : Bool :=
  match r.cause with
  | some e => insideEvents.contains e || (e == .SF_STO && s.garnet.safe)
  | none => false

/-- The reactions harder than DERATE on a motor object and its bridges. -/
def State.holding (s : State) (m : Fin 4) : List React :=
  (s.reacts[m] ++ (s.feeding m).flatMap fun n => s.br[n].reacts).filter fun r => decide (2 ≤ r.sev.rank)

/-- The start has failed for a reason of R366: HFI_NOCONV, HFI_POLARITY or OBS_NOLOCK. -/
def State.startBad (s : State) (m : Fin 4) : Bool :=
  (s.start[m].state == .failed || s.start[m].state == .pause) && insideReasons.contains s.start[m].reason
where
  insideReasons : List Nat := [3, 4, 5]

/-- What keeps R7 from applying: 1 a rail, 2 a PRP pair, 3 a safe connection (log 101); 0 where all is met. -/
def State.voidCause (s : State) : Nat :=
  let port (p : Nat) : Bool := if p < 8 then (vat s.eth.port .reset p).link else (vat s.can .reset (p - 8)).live
  if s.rst.low ≠ 0 then 1
  else if (List.finRange 4).any fun k => s.n Fld.NET_PRP_PORTA 0 k != 0 && !((s.eth.prp[k]).aUp && (s.eth.prp[k]).bUp) then 2
  else if (List.finRange 4).any fun c => s.n Fld.SAFETY_CONN_NET 0 c != 0
      && !(port (s.n Fld.SAFETY_CONN_PORTA 0 c) && port (s.n Fld.SAFETY_CONN_PORTB 0 c)) then 3
  else 0

/-- A commanded motor object is stopped by the owner, or held from outside. -/
def State.excluded (s : State) (m : Fin 4) : Bool :=
  s.av.cmdRun[m] && (s.av.owner[m] || (s.garnet.mo[m].sto && !s.garnet.safe) || (s.holding m).any fun r => !s.inside r)

/-- A commanded motor object is lost: the event code of the cause, 0 for a software restart or a start. -/
def State.lostCause (s : State) (m : Fin 4) : Option Nat :=
  if !s.av.cmdRun[m] then none
  else match (s.holding m).find? s.inside with
    | some r => some ((r.cause.map Ev.code).getD 0)
    | none => if s.garnet.safe then some Ev.SF_GARNET_FAULT.code
      else if s.start[m].state != StartState.run && (s.av.swLost || s.startBad m) then some (if s.startBad m then Ev.START_FAILED.code else Ev.RESET_CAUSE.code)
      else none

/-- Milliseconds at which `AVINSVC`, `AVLOST`, `AVEXCL` and `AVVOID` wrap: the first is 64 bits of ms, the others 32 bits of ms or s (R12). -/
def avTop : Fin 4 → Nat
  | 0 => 18446744073709551616 | 1 => 4294967296 | _ => 4294967296000

/-- Their addresses. -/
def avAddr : Fin 4 → Nat
  | 0 => 0x000DB018 | 1 => 0x000DB020 | 2 => 0x000DB024 | 3 => 0x000DB028

/-- Milliseconds are added to a time counter of availability: it wraps with TIME_WRAP (R12, R449). -/
def State.avAdd (s : State) (i : Fin 4) (n : Nat) : State :=
  let a := s.av
  let old := match i with | 0 => a.insvc | 1 => a.lost | 2 => a.excl | 3 => a.void
  let x := (old + n) % avTop i
  let b := match i with
    | 0 => { a with insvc := x } | 1 => { a with lost := x } | 2 => { a with excl := x } | 3 => { a with void := x }
  { s with av := b }.raiseIf (decide (avTop i ≤ old + n)) .TIME_WRAP 0xFF 0 (bytesLE 4 (avAddr i))

/-- AVAILABILITY_STEP: a millisecond is counted once. -/
def State.avStep (s : State) : State :=
  if s.rst.stage ≠ 9 then s
  else
    let ms4 := List.finRange 4
    let v := s.voidCause
    let still := s.av.swLost && ms4.any fun m => s.av.cmdRun[m] && s.start[m].state != StartState.run
    let s0 : State := { s with av := { s.av with swLost := still } }
    let lost := ms4.findSome? s0.lostCause
    if v ≠ 0 then
      ({ s0 with av := { s0.av with inVoid := true, inLost := false } }.avAdd 3 1).raiseIf (!s.av.inVoid) .AV_VOID 0xFF v
    else if ms4.any s0.excluded then { s0 with av := { s0.av with inVoid := false, inLost := false } }.avAdd 2 1
    else match lost with
      | some c =>
        ({ s0 with av := { s0.av with inLost := true, inVoid := false } }.avAdd 1 1).raiseIf (!s.av.inLost) .AV_LOST 0xFF 0 (bytesLE 2 c)
      | none => { s0 with av := { s0.av with inVoid := false, inLost := false } }.avAdd 0 1

/-- `AVRATIO`. -/
def Avail.ratio (a : Avail) : Rat := 1 - qdiv a.lost (a.insvc + a.lost)

/-- At S9 the counts are rebuilt, and the time since the snapshot is classified by the cause of the reset (R367). -/
def State.avRebuild (s : State) : State :=
  let (a, b, c, d) := s.av.saved
  let gap := (s.dev.toNat - s.av.snapAt.toNat) / ms
  let cls : Fin 4 := if s.av.newImage then 3 else match s.rst.cause with
    | .software | .thermalExit => 1
    | .srstn => 2
    | _ => 3
  { s with av := { s.av with insvc := a, lost := b, excl := c, void := d } }.avAdd cls gap

/-- AVAILABILITY_CLEAR: `AVCTL.CLR` begins the measuring year. -/
def State.avClear (s : State) : State :=
  { s with av := { s.av with insvc := 0, lost := 0, excl := 0, void := 0, saved := (0, 0, 0, 0), snapAt := s.dev } }

/-! ## Commands -/

/-- CURRENT_LOOP_TASK_START (R79): see `State.loopTask` and `State.currentLoop`. -/
def execCurrentLoopTaskStart (n : Fin 8) (s : State) : Host.Outcome State Fault Refusal := .next (s.loopTask n)
/-- COMPARE_DEADLINE (R68): see `State.deadline`. -/
def execCompareDeadline (n : Fin 8) (s : State) : Host.Outcome State Fault Refusal := .next (s.deadlinePass n)
/-- OUTER_LOOP_PERIOD (R467): see `State.outerPeriod`. -/
def execOuterLoopPeriod (m : Fin 4) (s : State) : Host.Outcome State Fault Refusal := .next (s.outerTaskStart m)
/-- SHADOW_START_COMMAND: see `State.shadowStart`. -/
def execShadowStartCommand (sl : Fin 2) (task : Byte) (kind : BitVec 2) (target : Fin 16) (s : State) :
    Host.Outcome State Fault Refusal := .next (s.shadowStart sl task kind target)
/-- SHADOW_PREP_DONE: see `State.shadowPrep`. -/
def execShadowPrepDone (sl : Fin 2) (s : State) : Host.Outcome State Fault Refusal := .next (s.shadowPrep sl)
/-- SHADOW_GO_COMMAND: see `State.shadowGo`. -/
def execShadowGoCommand (sl : Fin 2) (s : State) : Host.Outcome State Fault Refusal := .next (s.shadowGo sl)
/-- SHADOW_ABORT_COMMAND: see `State.shadowAbort`. -/
def execShadowAbortCommand (sl : Fin 2) (s : State) : Host.Outcome State Fault Refusal := .next (s.shadowAbort sl)
/-- SHADOW_TIMEOUT: see `State.shadowLate`. -/
def execShadowTimeout (sl : Fin 2) (s : State) : Host.Outcome State Fault Refusal := .next (s.shadowLate sl)
/-- SHADOW_SWITCH_BOUNDARY: see `State.shadowSwitch`. -/
def execShadowSwitchBoundary (sl : Fin 2) (s : State) : Host.Outcome State Fault Refusal := .next (s.shadowSwitch sl)
/-- FIRMWARE_PACKAGE_SUBMIT: see `State.fwSubmit`. -/
def execFirmwarePackageSubmit (sess : Nat) (p : FwPackage) (s : State) : Host.Outcome State Fault Refusal := .next (s.fwSubmit sess p)
/-- FW_WRITE_DONE: see `State.fwWritten`. -/
def execFwWriteDone (ok : Bool) (s : State) : Host.Outcome State Fault Refusal := .next (s.fwWritten ok)
/-- FW_TRIAL: see `State.fwTry`. -/
def execFwTrial (s : State) : Host.Outcome State Fault Refusal := .next s.fwTry
/-- FW_TRIAL_START_TIMEOUT: see `State.fwLate`. -/
def execFwTrialStartTimeout (s : State) : Host.Outcome State Fault Refusal := .next s.fwLate
/-- FW_PROBATION_END: see `State.fwAccept`. -/
def execFwProbationEnd (s : State) : Host.Outcome State Fault Refusal := .next s.fwAccept
/-- FW_REVERT_COMMAND: see `State.fwBack`. -/
def execFwRevertCommand (s : State) : Host.Outcome State Fault Refusal := .next s.fwBack
/-- AVAILABILITY_STEP: see `State.avStep`. -/
def execAvailabilityStep (s : State) : Host.Outcome State Fault Refusal := .next s.avStep
/-- AV_SNAPSHOT (R367): the hourly snapshot, from S9. -/
def execAvSnapshot (s : State) : Host.Outcome State Fault Refusal := .next (if s.rst.stage = 9 then s.avSnap else s)
/-- AVAILABILITY_CLEAR: see `State.avClear`. -/
def execAvailabilityClear (s : State) : Host.Outcome State Fault Refusal := .next s.avClear

end Sys2Proof.Machine
end

