-- ==== Sys2Proof/Machine/Carrier.lean ====
section
/-! DEFINITION. The turning points of the carriers (R43, R67, R68, R79) and the command latency (R32, R33). -/

namespace Sys2Proof.Machine

/-! ## Command latency -/

/-- The bound in force on the latency of a setpoint, in microseconds (R4, R32). -/
def State.latencyBound (s : State) (m : Fin 4) (n : Fin 8) : Rat :=
  let tl := s.pwm[n].tl * 1000000
  if tl ≤ 250 then 69 + s.q Fld.LOOP_TOPER m + 3 * tl else 194 + 3 * tl

/-- The first edge after compare values that reflect a setpoint ends its measurement (R33). -/
def State.latencyEnd (s : State) (m : Fin 4) (n : Fin 8) : State :=
  match s.pwm[n].firstEdge with
  | some e =>
    let done := s.cmd[m].latRuns.filter fun r => r.bridge[n] == 2
    done.foldl (fun s r =>
      let ns := e * 5 / 32 - r.start
      let us_ := min 0xFFFF (ns / us)
      (s.onCmd m fun c => { c with latLast := us_, latMax := max c.latMax us_ }).raiseIf (decide (s.latencyBound m n * 1000 < ns)) .CMD_LATE m)
      (s.onCmd m fun c => { c with latRuns := c.latRuns.filter fun r => !(r.bridge[n] == 2) })
  | none => s

/-! ## The turning point -/

/-- Values that reflect a setpoint become active. -/
def LatRun.loads (r : LatRun) (n : Fin 8) : LatRun := if r.bridge[n] = 1 then { r with bridge := r.bridge.set n 2 } else r

/-- The posted compare values become active on the turning point; a bridge that switches without any holds those in force
(R68). The voltage of the period that ends here is the one that was in force in it. -/
def State.loadCompare (s : State) (n : Fin 8) : State :=
  let s1 := (s.popAll 17 (bridgeFlow 2 n)).2
  let on := s.switching n
  let p := s1.pwm[n]
  let s2 := s1.onPwm n fun p => { p with
    missed := false, hold := on && p.posted.isNone, prim := on && (p.prim || p.posted.isSome), posted := none
    active := p.posted.getD p.active, vab := if on && p.prim then p.active.vab else p.vab }
  if p.posted.isSome then s2.onCmd s.br[n].mo fun c => { c with latRuns := c.latRuns.map fun r => r.loads n } else s2

/-- The common trigger of a bridge fires at its selected points, CTRIGOFS away from the carrier point (R43, R67). -/
def State.driveTrigger (s : State) (n : Fin 8) : State :=
  let b := s.recOf n
  let point := s.n Fld.BRIDGE_CTRIGPT b
  let here : Bool := if s.pwm[n].atPeak then point == 0 || (point == 2 && !s.pwm[n].single) else point != 0
  if s.n Fld.BRIDGE_CTRIG b ≠ 0 ∧ here then s.ctrigEdge (s.n Fld.BRIDGE_CTRIG b - 1) (s.q Fld.BRIDGE_CTRIGOFS b) else s

/-- The device time from which on a measurement item belongs to the instant: the instant, or the earliest common trigger before it
(R43, R79). -/
def State.instantStamp (s : State) : BitVec 64 :=
  let ofs := (List.finRange 8).foldl (fun o n =>
    if s.conf n && s.n Fld.BRIDGE_CTRIG (s.recOf n) != 0 then minQ o (s.q Fld.BRIDGE_CTRIGOFS (s.recOf n)) else o) 0
  gridOf (BitVec.ofInt 64 (s.dev.toNat + ofs.floor))

/-- A loop instant of a bridge (R79): the compare values load, the positions latch, the link voltage and the temperatures are
judged, and the capture buffers take their frame. -/
def State.loopInstant (s : State) (n : Fin 8) (pos : Vector PosRaw 8) : State :=
  let m := s.br[n].mo
  let old := s.pwm[n].active
  let s0 := s.onPwm n fun p => { p with stamp := s.instantStamp }
  let s1 := ((((s0.loadCompare n).driveHalf n old).latencyEnd m n).driveTrigger n).posLatch n pos
  let s2 := (s1.ov1Step n).switchThermal n
  let s3 := if s.rank0 m = some n then s2.windThermal m s.pwm[n].tl else s2
  s3.captureInstant n

/-- CARRIER_TURNING_POINT: the next turning point of a running carrier; at a valley a PWM period begins, and at that of rank 0 a member
whose gates are off takes the phase of its group (R186). How a carrier that has the phase keeps it shows in when its turning points come
(log 129). A peak above 20 kHz is no loop
instant (R67), but the gates go through its half period. -/
def State.turningPoint (s : State) (n : Fin 8) (pos : Vector PosRaw 8) : State :=
  if !s.conf n ∨ !s.pwm[n].run then s
  else
    let s1 := s.onPwm n fun p => { p with atPeak := !p.atPeak, turnAt := s.up }
    let m := s.br[n].mo
    let s2 := if s1.pwm[n].atPeak then s1
      else if s1.rank0 m = some n then (s1.alignCarriers m).latchRelease n else s1.latchRelease n
    if s2.pwm[n].single ∧ s2.pwm[n].atPeak then
      ((s2.driveHalf n s2.pwm[n].active).latencyEnd s.br[n].mo n).driveTrigger n
    else s2.loopInstant n pos

/-! ## Commands -/

/-- CARRIER_TURNING_POINT (R79): see `State.turningPoint`. -/
def execCarrierTurningPoint (n : Fin 8) (pos : Vector PosRaw 8) (s : State) : Host.Outcome State Fault Refusal :=
  .next (s.turningPoint n pos)

end Sys2Proof.Machine
end

