-- ==== Sys2Proof/Machine/Clocks.lean ====
section
/-! DEFINITION. Clock qualification, PLLs, the clock monitor and its fall-back, the management clock, island gates and the
frequency-measuring counter (chapter 13). -/

namespace Sys2Proof.Machine

/-! ## Qualification (R302 to R305) -/

/-- LPO is qualified; a hold for want of it ends (R304). -/
def State.lpoQualified (s : State) : State :=
  if s.rst.stage = 1 ∧ !s.rst.held then
    { s with
      clk := { s.clk with lpoQ := true, clkFail := false }
      vbat := { s.vbat with lpoQ := true }
      rst := { s.rst with hold := if s.rst.hold = 2 then 0 else s.rst.hold } }
  else s

/-- LPO is not qualified within 100 ms: the module holds with CLKFAILn asserted (R304). -/
def State.lpoTimeout (s : State) : State :=
  if s.inStage 1 ∧ !s.clk.lpoQ then (s.onClk fun c => { c with clkFail := true }).holdAt 2 else s

/-- IRC is qualified against LPO: the monitor is armed and S2 begins (R303 step 3); a hold of R304 ends. -/
def State.ircQualified (s : State) : State :=
  if s.rst.stage = 1 ∧ s.clk.lpoQ ∧ !s.rst.held then
    { s with
      clk := { s.clk with ircQ := true, cmArm := true, ircFails := 0, clkFail := false }
      rst := { s.rst with stage := 2, hold := if s.rst.hold = 2 then 0 else s.rst.hold } }
  else s

/-- A check of IRC against LPO fails; the 64th in a row holds the module (R304). -/
def State.ircQualifyFail (s : State) : State :=
  if s.rst.stage = 1 ∧ s.clk.lpoQ ∧ !s.rst.held then
    let k := s.clk.ircFails + 1
    let s1 := s.onClk fun c => { c with ircFails := k, clkFail := c.clkFail || decide (64 ≤ k) }
    if k = 64 then s1.holdAt 2 else s1
  else s

/-- A degraded start: the trimmed IRC is the main reference (R303). -/
def State.degradedStart (s : State) : State :=
  { s with clk := { s.clk with degr := true, src := .degraded, early16 := none }, rst := { s.rst with stage := 3 } }

/-- XIN attempt number `k` fails (R303): the next one follows, or after the ninth the start on IRC alone. An attempt that a window of step 5
or a trip in S3 fails after its counts have passed is counted once. -/
def State.xinFail (s : State) (k : Nat) : State :=
  let s1 := ((s.onClk fun c => { c with xinTry := k, xinQ := false, early16 := none }).onRst
    fun r => { r with stage := 2 }).raise .XIN_ATTEMPT_FAIL 0xFF k
  if 9 ≤ k then s1.degradedStart else s1

/-- XIN passes its attempt (R302): S3 begins, or first the 16 armed windows where CMEARLY is set (R303 step 5). -/
def State.xinPass (s : State) : State :=
  let s1 := s.onClk fun c => { c with xinTry := c.xinTry + 1, xinQ := true, early16 := if c.cmEarly then some 0 else none }
  if s.clk.cmEarly then s1 else s1.onRst fun r => { r with stage := 3 }

/-- XIN_ATTEMPT_END: the counts of R302 and the 40 ms limit of R303 judge the attempt. -/
def State.xinAttempt (s : State) (irc : Nat) (inTime : Bool) : State :=
  if s.inStage 2 ∧ s.clk.early16.isNone then
    if inTime ∧ 246416 ≤ irc ∧ irc ≤ 277872 then s.xinPass else s.xinFail (s.clk.xinTry + 1)
  else s

/-- The device time of a count of LPO cycles (R327). -/
def lpoTime (v : Vbat) : BitVec 64 := BitVec.ofNat 64 (v.lpo * sec / 32768)

/-- The first IRC trim, the islands and the recorder of the end of S3, with the events of S1 to S3 entered and device time set
(R303 step 7, R304, R306, R327). -/
def State.endS3 (s : State) (trim : Int) : State :=
  let t := if s.clk.src = .degraded then s.vbat.trim else trim
  let s1 := { s with
    clk := { s.clk with trim := t, pllTry := 0 }
    vbat := { s.vbat with trim := t }
    dev := lpoTime s.vbat, devFrac := 0
    recd := { s.recd with on := true, held := [] }
    rst := { s.rst with stage := 4, mgmtRun := true } }
  s.recd.held.foldl (fun s e => s.store { e with time := s.stamp }) s1

/-- PLL_LOCK_DONE (R303, R324): all five PLLs locked end S3; a failed lock is retried twice, then the module holds. -/
def State.pllLockDone (s : State) (locked : BitVec 5) (trim : Int) : State :=
  if s.inStage 3 then
    let s1 := s.onClk fun c => { c with lock := vgen 5 fun p => locked.getLsbD p }
    if locked = 0x1F then s1.endS3 trim
    else if 2 ≤ s.clk.pllTry then (s1.onClk fun c => { c with clkFail := true }).holdAt 3
    else s1.onClk fun c => { c with pllTry := c.pllTry + 1 }
  else s

/-! ## The monitor, the fall-back and the return (R305, R313, R315) -/

/-- A window count that is a trip. -/
def tripCount (n : Nat) : Bool := decide (n < 235) || decide (265 < n)

/-- A window is counted (`CMCNT`, `CMTRIPS`). -/
def Clocks.counted (c : Clocks) (n : Nat) : Clocks :=
  { c with
    cmLast := n, cmMin := min c.cmMin n, cmMax := max c.cmMax n
    cmTrips := if tripCount n then bump c.cmTrips else c.cmTrips }

/-- The references of all PLLs switch; a PLL in holdover leaves it on the new one (R313 step 2). -/
def Clocks.refTo (c : Clocks) (src : ClkSrc) : Clocks := { c with src := src, holdover := tbl 4 false }

/-- The fall-back to the trimmed IRC (R313). -/
def State.fallback (s : State) : State :=
  (s.onClk fun c => { c.refTo .fallback with frozen := true, nmiUntil := s.up + 10 * us }).raise .CLK_FALLBACK

/-- CLOCK_MONITOR_WINDOW: a window of 1,000 IRC cycles has ended. -/
def State.monitorWindow (s : State) (count : Nat) : State :=
  let n := min count 511
  let trip := tripCount n
  let s1 := s.onClk fun c => c.counted n
  if !s.clk.ircQ then
    if trip then (s1.onClk fun c => { c with cmEarly := true }).raiseIf (!s.clk.cmEarly) .CM_EARLY else s1
  else if !s.clk.cmArm then s1
  else match s.clk.early16 with
  | some k =>
    if trip then s1.xinFail s.clk.xinTry
    else if 15 ≤ k then (s1.onClk fun c => { c with early16 := none }).onRst fun r => { r with stage := 3 }
    else s1.onClk fun c => { c with early16 := some (k + 1) }
  | none =>
    if s.inStage 2 then if trip then s1.xinFail (s.clk.xinTry + 1) else s1
    else if s.rst.stage < 4 then
      if trip ∧ s.inStage 3 ∧ s.clk.src = .xin then s1.xinFail s.clk.xinTry else s1
    else if s.clk.src = .xin then
      if trip then s1.fallback else s1
    else match s.clk.ret with
    | some k =>
      if trip then (s1.onClk fun c => { c with ret := none }).raise .CLK_RETURN_FAIL
      else s1.onClk fun c => { c with ret := some (min (k + 1) 1001) }
    | none => s1

/-- XIN_RETURN_REQUEST (R315): windows are counted from now, of which the first began before the write; on XIN there is nothing to return
to. -/
def State.returnRequest (s : State) : State :=
  if s.clk.src = .xin then s.raise .CLK_RETURN_FAIL
  else s.onClk fun c => { c with ret := some 0 }

/-- XIN_RETURN_END (R315): after the 1,000 windows that began after the request have passed, and a fresh qualification the references switch back. -/
def State.returnEnd (s : State) (ok : Bool) : State :=
  match s.clk.ret with
  | none => s
  | some k =>
    if ok ∧ 1001 ≤ k then
      (s.onClk fun c => { c.refTo .xin with
        frozen := false, servo := false, degr := false, xinQ := true, ret := none, nmiUntil := s.up + 10 * us }).raise .CLK_RETURN
    else (s.onClk fun c => { c with ret := none }).raise .CLK_RETURN_FAIL

/-- IRC_CHECK (R316): 328 LPO cycles against a nominal 1,000,977 IRC cycles. IRC_FAULT is cleared by an IRC back inside, which arms the
monitor again (log 136). -/
def State.ircCheck (s : State) (count : Nat) : State :=
  let out := decide (20 * count < 19 * 1000977) || decide (21 * 1000977 < 20 * count)
  let was := s.clk.ircBad
  (s.onClk fun c => { c with ircBad := out, cmArm := if out then false else c.cmArm || was }).raiseIf (out && !was) .IRC_FAULT

/-- IRC_TRIM_UPDATE (R306, R314): each 1 ms with XIN in use the divider is set; a steered trim moves by 1 ppm at most. -/
def State.trimUpdate (s : State) (trim : Int) : State :=
  if s.rst.stage < 4 then s
  else if s.clk.src = .xin then
    { s with clk := { s.clk with trim := trim, frozen := false, servo := false }, vbat := { s.vbat with trim := trim } }
  else if s.ring.tlock ∨ s.time.asLock then
    let t := clampI (s.clk.trim - 256) (s.clk.trim + 256) trim
    { s with clk := { s.clk with trim := t, servo := true }, vbat := { s.vbat with trim := t } }
  else s.onClk fun c => { c with servo := false }

/-- Clears `CMTRIPS` and the extremes of `CMCNT`. -/
def State.clkClear (s : State) : State := s.onClk fun c => { c with cmTrips := .zero, cmMin := 511, cmMax := 0 }

/-! ## PLLs (R307, R308) -/

/-- Every configured bridge enters PULSE_BLOCK because the analog die has no clock (R308). -/
def State.analogLost (s : State) : State :=
  forFin 4 (fun m s => if s.bridges m = [] then s else s.reactEv m .PLL_UNLOCK 0 .pulseBlock)
    (s.onClk fun c => { c with anaLost := true })

/-- A PLL leaves holdover without relocking (R308). -/
def State.pllUnlock (s : State) (p : Fin 4) : State :=
  let s1 := (s.onClk fun c => { c with lock := c.lock.set p.1 false (by omega), holdover := c.holdover.set p.1 false p.2 }).raise
    .PLL_UNLOCK p
  if p = 0 then s1.analogLost else s1.mgmtRestart

/-- A PLL locks again: the cause of PLL_UNLOCK is gone. -/
def State.pllRelock (s : State) (p : Fin 4) : State :=
  let s1 := s.onClk fun c => { c with
    lock := c.lock.set p.1 true (by omega), holdover := c.holdover.set p.1 false p.2
    anaLost := if p = 0 then false else c.anaLost }
  if p = 0 then s1.causeGoneAll .PLL_UNLOCK 0 else s1

/-! ## The management clock (R244, R311) -/

/-- T_die: the highest of the die channels, in °C (R63, R244). -/
def State.dieTemp (s : State) : Rat := s.hk.dieTemp

/-- The management frequency of R244 in units of 100 MHz. -/
def mgFreqOf (t : Rat) : Nat :=
  if t ≤ 115 then 12
  else
    let f := natQ (maxQ 0 (12 * (1 - 8 / 100 * (t - 115))))
    if f < 2 then 2 else f

/-- MG_CLOCK_EVALUATION: each 1 ms R244 is evaluated; a change is set on the PLL not in use, after any switch under way. -/
def State.mgEvaluate (s : State) : State :=
  let f := mgFreqOf s.dieTemp
  if s.clk.mgPend.isSome ∨ f = s.die.mgFreq then s else s.onClk fun c => { c with mgPend := some f }

/-- MG_CLOCK_SWITCH: the spare PLL is locked and the island is switched to it. -/
def State.mgSwitch (s : State) : State :=
  match s.clk.mgPend with
  | none => s
  | some f =>
    { s with clk := { s.clk with mgPll2 := !s.clk.mgPll2, mgPend := none }, die := { s.die with mgFreq := f } }.raise .MG_CLK_CHANGE

/-! ## Island gates and measurement (R312, R317) -/

/-- ISLAND_GATE_CLOSE: 8 idle cycles have passed; a gate held open by `CLKGATE`, or whose handshake is not idle, stays open. -/
def State.gateClose (s : State) (g : Fin 24) (idle : Bool) : State :=
  if idle ∧ !s.clk.gateReg.getLsbD g then s.onClk fun c => { c with gateOpen := c.gateOpen &&& ~~~(1#24 <<< g.1) } else s

/-- ISLAND_GATE_OPEN: a request opens the gate. -/
def State.gateOpenReq (s : State) (g : Fin 24) : State :=
  s.onClk fun c => { c with gateOpen := c.gateOpen ||| (1#24 <<< g.1) }

/-- The codes of R317. -/
def clockCode (c : BitVec 5) : Bool := decide (c.toNat ≤ 16)

/-- FREQ_MEASURE_START: rejected with a gate of 0 or a reserved code (R10, R317); while BUSY it starts anew. -/
def State.measureStart (s : State) : State :=
  if s.clk.fm.gate = 0 ∨ !clockCode s.clk.fm.meas ∨ !clockCode s.clk.fm.ref then s.rejectWrite 0x00010048 1
  else s.onClk fun c => { c with fm := { c.fm with busy := true, done := false, tmo := false } }

/-- FREQ_MEASURE_END: the gate has ended, or the 1 s limit. -/
def State.measureEnd (s : State) (count : Word) (timeout : Bool) : State :=
  if s.clk.fm.busy then s.onClk fun c => { c with fm := { c.fm with busy := false, done := !timeout, tmo := timeout, res := count } }
  else s

/-! ## Commands -/

def execLpoQualified (s : State) : Host.Outcome State Fault Refusal := .next s.lpoQualified
def execLpoQualifyTimeout (s : State) : Host.Outcome State Fault Refusal := .next s.lpoTimeout
def execIrcQualified (s : State) : Host.Outcome State Fault Refusal := .next s.ircQualified
def execIrcQualifyFail (s : State) : Host.Outcome State Fault Refusal := .next s.ircQualifyFail
def execXinAttemptEnd (irc : Nat) (inTime : Bool) (s : State) : Host.Outcome State Fault Refusal := .next (s.xinAttempt irc inTime)
def execPllLockDone (locked : BitVec 5) (trim : Int) (s : State) : Host.Outcome State Fault Refusal :=
  .next (s.pllLockDone locked trim)
def execClockMonitorWindow (count : Nat) (s : State) : Host.Outcome State Fault Refusal := .next (s.monitorWindow count)
/-- PLL_HOLDOVER (R307): two reference periods are missing or wrong; the control word is frozen. -/
def execPllHoldover (p : Fin 4) (s : State) : Host.Outcome State Fault Refusal :=
  .next (s.onClk fun c => { c with holdover := c.holdover.set p.1 true p.2 })
def execPllUnlock (p : Fin 4) (s : State) : Host.Outcome State Fault Refusal := .next (s.pllUnlock p)
def execPllRelock (p : Fin 4) (s : State) : Host.Outcome State Fault Refusal := .next (s.pllRelock p)
/-- ANALOG_CLOCK_LOSS (R308): no edge of the analog clock for 1.0 µs. -/
def execAnalogClockLoss (s : State) : Host.Outcome State Fault Refusal := .next s.analogLost
def execIrcTrimUpdate (trim : Int) (s : State) : Host.Outcome State Fault Refusal := .next (s.trimUpdate trim)
def execIrcCheck (count : Nat) (s : State) : Host.Outcome State Fault Refusal := .next (s.ircCheck count)
def execMgClockEvaluation (s : State) : Host.Outcome State Fault Refusal := .next s.mgEvaluate
def execMgClockSwitch (s : State) : Host.Outcome State Fault Refusal := .next s.mgSwitch
def execXinReturnRequest (s : State) : Host.Outcome State Fault Refusal := .next s.returnRequest
def execXinReturnEnd (ok : Bool) (s : State) : Host.Outcome State Fault Refusal := .next (s.returnEnd ok)
def execClockCountersClear (s : State) : Host.Outcome State Fault Refusal := .next s.clkClear
def execFreqMeasureStart (s : State) : Host.Outcome State Fault Refusal := .next s.measureStart
def execFreqMeasureEnd (count : Word) (timeout : Bool) (s : State) : Host.Outcome State Fault Refusal :=
  .next (s.measureEnd count timeout)
def execIslandGateClose (g : Fin 24) (idle : Bool) (s : State) : Host.Outcome State Fault Refusal := .next (s.gateClose g idle)
def execIslandGateOpen (g : Fin 24) (s : State) : Host.Outcome State Fault Refusal := .next (s.gateOpenReq g)

end Sys2Proof.Machine
end

