-- ==== Sys2Proof/Machine/Startup.lean ====
section
/-! DEFINITION. Start-up from S4 to S9 (R324 to R329), and the management cluster: its return after a restart and its slices
(R3, R345). -/

namespace Sys2Proof.Machine

/-! ## S4 (R324, R402, R403, R418) -/

/-- Wrapped keys stand in NVM with a certificate that verifies, and no zeroise has taken them. -/
def State.haveKeys (s : State) (chainOk : Bool) : Bool :=
  s.onyx.nvmKeys && s.onyx.certOk && chainOk && !s.onyx.zero && !s.onyx.zlatch

/-- S4_DONE: self-test, K_root, DRAM and keys, each with its hold. -/
def State.endS4 (s : State) (onyxOk rngOk kroot dramOk chainOk : Bool) : State :=
  if !s.inStage 4 then s
  else
    let s1 := s.tamperAtS4
    if !onyxOk ∨ !rngOk then (s1.raise .ONYX_SELFTEST_FAIL).holdAt 4
    else if !kroot then s1.holdAt 4
    else
      let s2 := s1.onOnyx fun o => { o with kroot := true, reseedAt := s.up }
      if !dramOk then s2.holdAt 5
      else if !s2.haveKeys chainOk then (s2.raise .KEYS_ABSENT).holdAt 8
      else (s2.onOnyx fun o => { o with keys := true }).onRst fun r => { r with stage := 5 }

/-! ## S6 (R339 to R341, R277, R466, R66) -/

/-- The records that S5 hands over become the configuration, each finding entered in the load report. -/
def State.configure (s : State) : State :=
  let x := checkBody s s.img.loadRecs
  let s1 := ({ s with given := [] }).take x.1
  let s2 := x.2.foldl State.enter s1
  let c := s2.check
  (c.notes.foldl State.enter c.s).onImg fun i => { i with loadRecs := [] }

/-- What the configuration sets once, before the machine runs. -/
def State.firstValues (s : State) : State :=
  { s with
    loops := vgen 4 fun m => { s.loops[m] with mpc := s.n Fld.LOOP_CTYPE m == 1 }
    chop := vgen 4 fun c => { s.chop[c] with tres := s.q Fld.THERMAL_CH_TAMB 0 c }
    onyx := { s.onyx with levels := vgen 4 fun x => s.n Fld.SECURITY_TMP_LEVEL 0 x } }

/-- S7 begins: every cell is bound and its reference switched, and the position interfaces and the excitation start (R38, R53, R324,
R328). -/
def State.enterS7 (s : State) : State :=
  let s1 : State := forFin 8 (fun c s => s.cellStart c) (s.onRst fun r => { r with stage := 7 })
  { s1 with posIf := vgen 8 fun k => { s1.posIf[k] with on := s1.n Fld.PI_MODE (8 + k) != 0 } }.startContinuous 8

/-- S6_DONE: checks, allocation and placement; then the carriers start, the switch forwards and the controllers go on the bus. -/
def State.endS6 (s : State) : State :=
  if !s.inStage 6 then s
  else
    let s0 := s.configure.firstValues
    let s1 := (forFin 4 (fun m s => s.mpcTables m) s0).ringConf.chopConf.chanConf
    let s2 := (s1.allocFlows.onFab fun b => { b with run := true }).placeTasks.reportUnplaced
    let s3 := s2.allocCaps.slogCheck.startAllCarriers
    let s4 := (forFin 8 (fun p s => s.portConf p) s3).ethmUp
    (forFin 4 (fun c s => s.canStart c) s4).enterS7

/-! ## S7 (R53, R56, R61) -/

/-- S7_DONE: every cell with a reference has had its full calibration, which began when its RDY set; Garnet begins its
self-diagnosis. -/
def State.endS7 (s : State) : State :=
  if !s.inStage 7 ∨ !s.cellsDone then s
  else { s.onRst fun r => { r with stage := 8 } with garnet := { s.garnet with run := true } }

/-! ## S8 (R325, R326) -/

/-- The self-test of a target, where it can be tested. -/
def State.startTest (s : State) (t : Nat) (ok : Bool) (item : Nat) : State :=
  if s.testable t then { s with stest := { s.stest with busy := some t } }.testDone (if ok then none else some (BitVec.ofNat 16 item)) else s

/-- The test of a safety output switch found it faulty (R326). -/
def State.startOutput (s : State) (j : Fin 8) (h l : Bool) : State :=
  if s.n Fld.SAFETY_SO_ROLE 0 j = 0 then s
  else
    let s1 := if h then s.soFault j true else s
    if l then s1.soFault j false else s1

/-- S8_DONE: a failure does not hold the module; at the end the arming of every motor object is evaluated (R27). -/
def State.endS8 (s : State) (garnetOk : Bool) (tpBad soBadH soBadL brOk : BitVec 8) (chOk : BitVec 4) (failItem : Nat) : State :=
  if !s.inStage 8 ∨ s.rst.s8Done then s
  else
    let s1 := if garnetOk then s else s.garnetFault
    let s2 := forFin 8 (fun t (s : State) =>
      if tpBad.getLsbD t then
        (s.onGarnet fun g => { g with tp := vmod g.tp t fun x => { x with fault := true } }).raise .TP_FAULT t
      else s) s1
    let s3 := forFin 8 (fun j (s : State) => s.startOutput j (soBadH.getLsbD j) (soBadL.getLsbD j)) s2
    let s4 := forFin 8 (fun n (s : State) => s.startTest n (brOk.getLsbD n) failItem) s3
    let s5 := forFin 4 (fun c (s : State) => s.startTest (8 + c.1) (chOk.getLsbD c) failItem) s4
    let soBad := (List.finRange 8).any fun j => s.n Fld.SAFETY_SO_ROLE 0 j != 0 && (soBadH ||| soBadL).getLsbD j
    let s6 := s5.onGarnet fun g => { g with s8ok := garnetOk && tpBad == 0 && !soBad }
    (s6.onRst fun r => { r with s8Done := true }).armNow

/-! ## S9 -/

/-- The start-up STO of a motor object (R262). -/
def State.startSto (s : State) (m : Fin 4) : State :=
  let h : StoHold := if s.n Fld.SAFETY_MO_STOSEL 0 m = 0 then .start else .sel .sto
  (s.onSmo m fun x => { x with sto := true, cause := StoCause.selection.code, holds := addHold x.holds h }).react m
    ⟨some .SF_STO, m, .pulseBlock, true, true⟩

/-- The window of emergency thrust as the entries on record give it, oldest first (R210): the bins, the seconds of overrides that
a reset cut, and one that is still open. -/
def etRead (x : List (Nat × Nat) × List Nat × Option Nat) (e : Entry) : List (Nat × Nat) × List Nat × Option Nat :=
  let t := e.time.toNat
  let cut := match x.2.2 with | some t0 => t0 / sec :: x.2.1 | none => x.2.1
  if e.code = Ev.ET_ON.code then (x.1, cut, some t)
  else (etBinsOf (t - ofBytesLE (e.data.take 4) * ms) t ++ x.1, x.2.1, none)

/-- ET_WINDOW_REBUILD. -/
def State.etRebuild (s : State) (m : Fin 4) : State :=
  let mine (e : Entry) : Bool := (e.code == Ev.ET_ON.code || e.code == Ev.ET_OFF.code) && e.unit == m.1
    && decide (s.dev.toNat < e.time.toNat + 3600 * sec)
  let x := ((s.onRecord.map Prod.snd).filter mine).reverse.foldl etRead ([], [], none)
  let full := match x.2.2 with | some t => t / sec :: x.2.1 | none => x.2.1
  s.onEm m fun e => { e with etBins := x.1, etFull := full }

/-- The events that S9 journals late: those held for it, the clock and the VBAT domain, and what a reset cut of a commit (R304, R320,
R351, R352). -/
def State.lateEvents (s : State) : State :=
  let put (c : Bool) (ev : Ev) (aux : Nat) (s : State) : State := if c then s.recordLate (s.entry ev 0xFF aux []) else s
  let s1 : State := s.recd.held.foldl State.recordLate { s with recd := { s.recd with held := [] } }
  let s2 := put (s.rst.cause == RstCause.vbatLost) .VBAT_LOST 0 (put (s.clk.src == ClkSrc.degraded) .CLK_DEGRADED 0 s1)
  let s3 := put s.com.owner.isSome .COMMIT_ABORTED 4 (put s.com.again .COMMIT_ABORTED 1 s2)
  { s3 with com := { s3.com with owner := none, aborted := s.com.again || s.com.owner.isSome } }

/-- The commits that follow a start (R338, R349, R351): a KIND 1 record where there was none, the commit that a reset cut, or the
delay of stashed entries. -/
def State.commitsAfter (s : State) : State :=
  let s1 := if s.img.noCommit then
      match s.nor.bank s.img.bank with
      | some p => s.commitRec fun r => { r with
          kind := .bank, bank := s.img.bank, cfgSeq := p.cfgSeq, imgLen := p.hdrLen + p.bodyLen, imgHash := p.hash }
      | none => s
    else s
  if s1.com.again then s1.commitStart else { s1 with com := { s1.com with delay := s1.delayFrom s1.img.dirty } }

/-- An auxiliary axis leaves OFF where it is configured and its generator is placed (R151, R328). -/
def State.axisUp (s : State) (k : Fin 8) : State :=
  if s.n Fld.AXIS_MODE k ≠ 0 ∧ (vat s.fab.tasks .reset (20 + k)).engine.isSome then
    (s.onAxis k fun a => { a with uncert := true }).axStandstill k
  else s

/-- A motor object at S9: its mode is LOOP.MODE, its first source is the active one, and its wave model starts afresh (R116, R124,
R175). -/
def State.moUp (s : State) (m : Fin 4) : State :=
  ((s.onOuter m fun o => { o with mode := OlMode.ofCode (s.n Fld.LOOP_MODE m), modePend := none }).onCmd m fun c =>
    { c with actSrc := 0 }).onHeave m fun h => h.init (s.n Fld.LOOP_HVNWAVE m)

/-- S9_ENTRY. -/
def State.enterS9 (s : State) : State :=
  if !s.inStage 8 ∨ !s.rst.s8Done then s
  else
    let s1 := s.onRst fun r => { r with stage := 9, startT := (s.up - s.rst.relAt) / us }
    let s2 := (s1.raise .MODULE_READY).raise .RESET_CAUSE 0xFF s.rst.cause.code (bytesLE 4 s.rst.rail.toNat)
    let s3 := forFin 4 (fun m (s : State) => ((s.moUp m).startSto m).etRebuild m) s2.lateEvents
    let s4 := forFin 8 (fun k (s : State) => s.axisUp k) s3
    s4.avRebuild.capsStart.evalArm.commitsAfter

/-! ## The management cluster -/

/-- The flows of the management plane follow the configuration (R301). -/
def State.mgmtFlows (s : State) : State :=
  forFin 256 (fun f s =>
    if 24 ≤ f.1 ∧ f.1 < 252 ∧ s.flowMgmt [] f ∧ !s.flowStands f then s.flowRebuilt f else s) s

/-- MANAGEMENT_RESTART_DONE (R3): the cluster runs again; a trial firmware begins its probation (R360), and a commit that the restart
cut starts again (R351). -/
def State.mgmtUp (s : State) : State :=
  if s.rst.mgmtRun ∨ s.rst.stage < 4 then s
  else
    let s1 := s.onRst fun r => { r with mgmtRun := true }
    if s.rst.stage < 9 then s1
    else
      let s2 := s.recd.held.foldl State.recordLate { s1 with recd := { s1.recd with held := [] } }
      let s3 := s2.mgmtFlows.bgMissed
      let s4 := if s.fw.trial then { s3 with fw := { s3.fw with bank := !s.nor.fwNow, step := .probation, since := s.up } } else s3
      if s4.com.again then s4.commitStart else { s4 with com := { s4.com with delay := s4.delayFrom s4.img.dirty } }

/-- MANAGEMENT_SLICE_END (R345): records that wait for it take effect; an aborted shadow slot is free again (R356), and
the next slice may start a background round (R363). -/
def State.sliceEnd (s : State) : State :=
  if !s.rst.mgmtRun ∨ s.rst.stage ≠ 9 then s
  else forFin 2 (fun i s => if s.shadow[i].state = .abort then s.onShadow i fun h => { h with state := .idle } else s) s.sliceEffects.bgSlice

/-! ## Commands -/

/-- S4_DONE: see `State.endS4`. -/
def execS4Done (onyxOk rngOk kroot dramOk chainOk : Bool) (s : State) : Host.Outcome State Fault Refusal :=
  .next (s.endS4 onyxOk rngOk kroot dramOk chainOk)
/-- S6_DONE: see `State.endS6`. -/
def execS6Done (s : State) : Host.Outcome State Fault Refusal := .next s.endS6
/-- S7_DONE: see `State.endS7`. -/
def execS7Done (s : State) : Host.Outcome State Fault Refusal := .next s.endS7
/-- S8_DONE: see `State.endS8`. -/
def execS8Done (garnetOk : Bool) (tpBad soBadH soBadL brOk : BitVec 8) (chOk : BitVec 4) (failItem : Nat) (s : State) :
    Host.Outcome State Fault Refusal := .next (s.endS8 garnetOk tpBad soBadH soBadL brOk chOk failItem)
/-- S9_ENTRY: see `State.enterS9`. -/
def execS9Entry (s : State) : Host.Outcome State Fault Refusal := .next s.enterS9
/-- MANAGEMENT_RESTART_DONE: see `State.mgmtUp`. -/
def execManagementRestartDone (s : State) : Host.Outcome State Fault Refusal := .next s.mgmtUp
/-- MANAGEMENT_SLICE_END: see `State.sliceEnd`. -/
def execManagementSliceEnd (s : State) : Host.Outcome State Fault Refusal := .next s.sliceEnd

end Sys2Proof.Machine
end

