-- ==== Sys2Proof/Machine/RegsDrive.lean ====
section
/-! DEFINITION. The registers of the analog block, of PWM and gates, of the motor objects and position interfaces, and of axes and
generators (chapters 01 to 07, 09 and 10), as words that a read returns, and as what a write does. An offset without a register
reads 0; a write that is not carried out answers none (R442). -/

namespace Sys2Proof.Machine

/-! ## Addresses and words -/

/-- The index of an address in a row of `n` registers `stride` apart. -/
def idxOf (o base stride n : Nat) : Option (Fin n) :=
  if h : base ≤ o ∧ (o - base) % stride = 0 ∧ (o - base) / stride < n then some ⟨(o - base) / stride, h.2.2⟩ else none

/-- The low or the high word of a wide register. -/
def half (v : Nat) (o low : Nat) : Word := BitVec.ofNat 32 (if o = low then v else v / 2 ^ 32)

/-- A bit of a write, and a command that runs where it is 1. -/
def State.onBit (s : State) (v : Word) (i : Nat) (f : State → State) : State := if tst v i then f s else s

/-! ## Chapter 01: slots -/

/-- `SLOTMAP[n]` (R29): reset values until S6. -/
def State.slotMap (s : State) (n : Fin 8) : Word :=
  if s.rst.stage < 7 then 0
  else
    let f := s.firstOf n
    let b := s.br[f]
    let on := s.conf f
    word [fld 24 8 (6 * n.1), bit 13 (on && b.form == .asc), bit 12 (!on || b.form == .pblk), bit 11 (on && s.armed[b.mo]),
      if on then fld 8 2 b.mo.1 else 0, if on then fld 4 3 f.1 else 0,
      if on then fld 0 2 (if !b.npc then 1 else if n = f then 2 else 3) else 0]

/-! ## Chapter 02: cells -/

/-- A result word. -/
def AdcRes.word (r : AdcRes) : Word :=
  Machine.word [bit 31 r.fresh, bit 30 r.ovr, bit 29 r.suspect, bit 28 r.rerun, bit 27 r.late, fld 24 3 r.cv, sfld 0 22 r.value]

/-- `CVSTAT.ROLE`. -/
def CvRole.code : CvRole → Nat
  | .bound k => k.1 | .spare => 4 | .failed => 5 | .calibrating => 6 | .uncalibrated => 7

/-- The registers of a converter: `CVSTAT`, `CVOFS` in 1/16 LSB, `CVGAIN`, `CVMIS` in 1/64 LSB. -/
def Converter.read (v : Converter) (up o : Nat) : Word :=
  if o = 0 then
    let age := match v.calAt with | some t => min 0xFFFF ((up - t) / sec) | none => 0xFFFF
    word [fld 16 16 age, bit 3 v.fail, fld 0 3 v.role.code]
  else if o = 4 then word [sfld 0 16 v.ofs]
  else if o = 8 then word [fld 0 16 v.gain]
  else match idxOf o 0xC 4 6 with
    | some j => word [sfld 0 16 v.mis[j]]
    | none => 0

/-- `CELLSTAT`. -/
def State.cellStat (s : State) (c : Nat) : Word :=
  let x := s.cell c
  word [fld 20 12 (flagBits 0 x.orail), bit 16 x.refflt, flagBits 11 (x.cv.map fun v => v.calAt.isSome && !v.fail),
    fld 8 3 ((x.spare.map Fin.val).getD 7), bit 2 x.bgAct, bit 1 x.offline, bit 0 (s.refReady c)]

/-- The registers of a cell; the HK cell is cell 8. -/
def State.readCell (s : State) (c o : Nat) : Word :=
  let x := s.cell c
  let q (k : Nat) := if seqExists c k then s.seq c k else .reset
  if o = 0 then word [bit 0 (c == 8 || x.refen)]
  else if o = 4 then s.cellStat c
  else if o = 0xC then
    word [bit 31 x.bgRounds.sat, fld 16 15 x.bgRounds.n, fld 4 3 x.bgStep, bit 2 x.fullPend,
      fld 0 2 (if c = 8 then s.hk.calLast else x.calLast)]
  else if o = 0x10 then cntWord (if c = 8 then s.hk.trgMiss else x.trgMiss)
  else if o = 0x14 then cntWord x.injMiss
  else if o = 0x18 then cntWord (if c = 8 then s.hk.regOvr else x.regOvr)
  else if o = 0x1C then cntWord x.injOvr
  else if o = 0x20 ∧ c = 8 then word [fld 0 12 s.hk.dac.toNat]
  else match idxOf o 0x40 4 8, idxOf o 0x60 4 8, idxOf o 0x100 4 64, idxOf o 0x200 4 16 with
    | some i, _, _, _ => half (q (i.1 / 2)).stamp (i.1 % 2) 0
    | _, some i, _, _ => half (q (i.1 / 2)).injStamp (i.1 % 2) 0
    | _, _, some i, _ => (vat (q (i.1 / 16)).res .reset (i.1 % 16)).word
    | _, _, _, some i => (vat (q (i.1 / 4)).injRes .reset (i.1 % 4)).word
    | _, _, _, _ =>
      if 0x300 ≤ o ∧ o < 0x440 then
        if c = 8 then (if 0x380 ≤ o then 0 else if o % 0x40 = 0 then 0xFFFF0007 else Config.hkTrim o)
        else (vat x.cv .reset ((o - 0x300) / 0x40)).read s.up ((o - 0x300) % 0x40)
      else match idxOf o 0x500 4 32 with
        | some ch => if c = 8 then (s.hk.res[ch]).word else 0
        | none => 0

/-- A write of 1 to NEW of a result clears it. -/
def AdcRes.ack (r : AdcRes) (v : Word) : AdcRes := if tst v 31 then { r with fresh := false } else r

/-- A write to a register of a cell. -/
def State.writeCell (s : State) (c o : Nat) (v : Word) : Option State :=
  if o = 0 then
    let s1 := (s.onBit v 16 fun s => s.cellClear c).refenWrite c (tst v 0)
    let s2 := (List.range 4).foldl (fun s k => if c < 8 then s.onBit v (12 + k) fun s => s.swUrgent c k else s) s1
    some ((List.range 4).foldl (fun s k => if seqExists c k then s.onBit v (8 + k) fun s => s.regTrigger c k else s) s2)
  else if o = 8 then
    some (match bits v 0 2 with
      | 0 => s
      | 1 => s.fullCommand c
      | 2 => s.bgCommand c
      | _ => s.bgAbortCommand c)
  else if o = 0x20 ∧ c = 8 then some { s with hk := { s.hk with dac := v.setWidth 12 } }
  else match idxOf o 0x100 4 64, idxOf o 0x200 4 16, idxOf o 0x500 4 32 with
    | some i, _, _ =>
      if seqExists c (i.1 / 16) then some (s.onSeq c (i.1 / 16) fun q => { q with res := vmodN q.res (i.1 % 16) fun r => r.ack v }) else none
    | _, some i, _ =>
      if c < 8 then some (s.onSeq c (i.1 / 4) fun q => { q with injRes := vmodN q.injRes (i.1 % 4) fun r => r.ack v }) else none
    | _, _, some ch => if c = 8 then some { s with hk := { s.hk with res := vmod s.hk.res ch fun r => r.ack v } } else none
    | _, _, _ => none

/-! ## Chapter 03: PWM and loops -/

/-- The registers of the bridge at a first slot. -/
def State.readPwm (s : State) (n : Fin 8) (o : Nat) : Word :=
  let p := s.pwm[n]
  if o = 0 then
    word [fld 6 2 p.active.law, bit 5 p.vsat, bit 4 p.npUnbal, bit 3 p.minp, bit 2 (p.run && p.single), bit 1 p.hold, bit 0 p.run]
  else if o = 4 then word [bit 31 (p.run && p.atPeak), fld 0 20 (if p.run then p.count16 s.up / 16 else 0)]
  else if o = 8 then word [fld 0 20 p.chalf]
  else if o = 0xC then cntWord p.minpCnt
  else if o = 0x10 then cntWord p.vsatCnt
  else if o = 0x14 then toF32 p.npdv
  else match idxOf o 0x40 4 12 with
    | some g => word [fld 0 28 (p.active.thr)[g]]
    | none => 0

/-- The loop registers of a motor object. -/
def State.readLoop (s : State) (m : Fin 4) (o : Nat) : Word :=
  let l := s.loops[m]
  if o = 0 then
    word [fld 10 2 (l.nbr - 1), bit 9 l.mpc, bit 8 l.circHi, bit 7 l.ovr3, bit 6 l.fwLim, bit 5 l.fwAct, bit 4 l.iLim, bit 3 l.tLim,
      bit 2 l.vsat, bit 0 l.run]
  else if o = 0x28 then cntWord l.ovr
  else if o = 0x2C then cntWord l.stale
  else match idxOf o 4 4 9, idxOf o 0x30 4 4 with
    | some i, _ => toF32 (l.floats.getD i 0)
    | _, some r => toF32 l.circ[r]
    | _, _ => 0

/-! ## Chapter 04: position interfaces and start -/

/-- The registers of a position interface. -/
def State.readPi (s : State) (k : Fin 8) (o : Nat) : Word :=
  let p := s.posIf[k]
  if o = 0 then
    word [bit 7 p.excf, bit 6 p.ampLo, bit 5 p.illegal, bit 4 p.lineBrk, bit 3 p.ssiErr, bit 2 p.zSeen, bit 1 p.abs, bit 0 p.valid]
  else if o = 8 ∨ o = 0xC then half p.pos.toNat o 8
  else if o = 0x10 then toF32 p.spd
  else if o = 0x14 then cntWord p.err
  else if o = 0x18 then toF32 p.amp
  else 0

/-- The start registers. -/
def State.readStart (s : State) (m : Fin 4) (o : Nat) : Word :=
  let x := s.start[m]
  if o = 0 then
    word [fld 20 4 x.retry, fld 16 4 x.reason, bit 11 x.reverse, bit 10 x.caught, fld 8 2 x.asrc.code, fld 0 4 x.state.code]
  else if o = 4 then toF32 (2 * Config.pi * x.ang)
  else if o = 8 then toF32 x.spd
  else if o = 0xC then toF32 x.catchSpd
  else if o = 0x10 then cntWord x.fail
  else 0

/-! ## Chapter 05: commands, outer loop, brake -/

/-- The command, outer-loop and brake registers. -/
def State.readCommand (s : State) (m : Fin 4) (o : Nat) : Word :=
  let c := s.cmd[m]
  let x := s.outer[m]
  let b := s.brake[m]
  if o = 0x200 then
    word [flagBits 8 c.valid, fld 6 2 c.actSrc.1, bit 2 c.curveOn, bit 1 (c.xfer.isSome && !c.xferOk), bit 0 c.lost]
  else if o = 0x208 then c.setptReg
  else if o = 0x20C then toF32 c.ref
  else if o = 0x210 then x.spoolSet
  else if o = 0x300 then word [fld 16 8 x.layer, bit 4 x.short, bit 3 x.tSpd, bit 2 x.spoolOk, fld 0 2 x.mode.code]
  else if o = 0x304 then toF32 x.tLoad
  else if o = 0x308 then toF32 x.tens
  else if o = 0x30C then toF32 x.pay
  else if o = 0x310 then toF32 x.rEff
  else if o = 0x314 then toF32 x.wound
  else if o = 0x400 then word [bit 9 b.slip, bit 8 b.proved, fld 0 3 b.state.code]
  else if o = 0x404 then toF32 b.hold
  else if o = 0x408 then cntWord b.fail
  else 0

/-- A write to `CMDCTL`: FCLR is carried out first (R137), STOP wins over RUN and DISARM over ARM; the rest in the order of the bits
(log 110). -/
def State.cmdCtl (s : State) (m : Fin 4) (v : Word) : State :=
  let s0 := s.onBit v 12 fun s => s.faultClear m
  let s1 := if tst v 1 then s0.stopByCat m else s0.onBit v 0 fun s => s.runCommand m
  let s2 := s1.onBit v 6 fun s => s.xferRequest m ⟨bits v 4 2 % 4, Nat.mod_lt _ (by decide)⟩
  let s3 := s2.onBit v 10 fun s => s.modeChange m (BitVec.ofNat 2 (bits v 8 2))
  let s4 := s3.onBit v 11 fun s => s.spoolSet m
  if tst v 13 then s4.disarmCmd m else s4.onBit v 14 fun s => s.armCmd m

/-! ## Chapter 07: shock and heave -/

/-- The shock and heave registers. -/
def State.readDrum (s : State) (m : Fin 4) (o : Nat) : Word :=
  let x := s.shock[m]
  let h := s.heave[m]
  if o = 0x500 then
    word [bit 8 x.srcfb, bit 7 x.ovld, bit 6 x.soft, bit 5 x.ceil, bit 4 x.vcap, bit 3 x.recov, bit 2 x.render, bit 1 (s.shockArmed m),
      bit 0 (x.srcfb || (decide (7 ≤ s.rst.stage) && s.n Fld.LOOP_SHKSRC m == 1))]
  else if o = 0x504 then word [bit 0 x.rndInh]
  else if o = 0x508 then toF32 x.f
  else if o = 0x50C then toF32 x.base
  else if o = 0x510 then toF32 x.x
  else if o = 0x514 then toF32 x.fCmd
  else if o = 0x518 then toF32 x.peak
  else if o = 0x51C then toF32 x.dr
  else if o = 0x520 then cntWord x.cnt
  else if o = 0x524 then cntWord x.rndCnt
  else if o = 0x528 ∨ o = 0x52C then half x.t.toNat o 0x528
  else if o = 0x600 then
    let target := if h.ahcOn && !h.coast then s.q Fld.LOOP_HVGAIN m else 0
    word [bit 9 h.statInv, bit 8 h.poor, bit 7 h.limit, bit 6 h.coast, bit 5 h.mruOk, bit 4 h.ready, bit 3 (h.g != target),
      bit 2 (decide (0 < h.g) || h.ofs != 0)]
  else if o = 0x604 then word [bit 0 h.ahcOn]
  else if o = 0x608 then toF32 h.z
  else if o = 0x60C then toF32 h.zp
  else if o = 0x610 then toF32 h.ofs
  else if o = 0x614 then toF32 h.g
  else if o = 0x618 then toF32 h.perr
  else if o = 0x61C then toF32 h.hs
  else if o = 0x620 then toF32 h.tp
  else if o = 0x628 ∨ o = 0x62C then half h.stamp o 0x628
  else match idxOf o 0x640 4 16, idxOf o 0x700 4 64 with
    | some i, _ =>
      let c := vat h.comps .reset (i.1 / 2)
      if h.nComp ≤ i.1 / 2 then 0
      else toF32 (if i.1 % 2 = 0 then c.w / (2 * Config.pi) else Config.sqrt (c.p * c.p + c.q * c.q))
    | _, some k => toF32 h.spec[k]
    | _, _ => 0

/-! ## Chapter 09: emergency modes -/

/-- The emergency registers; `o` counts from the base of the motor object. -/
def State.readEm (s : State) (m : Fin 4) (o : Nat) : Word :=
  let e := s.em[m]
  if o = 0x800 then
    word [bit 13 e.free, bit 12 (e.degr == .on), bit 11 (e.degr == .waiting), bit 10 e.boWait, bit 9 (s.inBlackout m), bit 8 e.etFade,
      bit 7 e.etAct, fld 0 4 e.mode.code]
  else if o = 0x808 then toF32 ((s.etAvailMs m : Rat) / 1000)
  else if o = 0x80C then toF32 ((s.etUsedMs m : Rat) / 1000)
  else if o = 0x810 then toF32 e.empay
  else if o = 0x814 then cntWord e.etCnt
  else 0

/-- A write to `EMCTL`: one stop at most, by the order of the table; then EQR, the override, SLA and degraded operation (log 110). -/
def State.emCtl (s : State) (m : Fin 4) (v : Word) : State :=
  let s1 := if tst v 0 then s.stop0 m else if tst v 2 then s.stopCommand m .quick else if tst v 1 then s.stopCommand m .cat1
    else s.onBit v 3 fun s => s.stopCommand m .cat2
  let s2 := if tst v 5 then s1.eqrEnds m else s1.onBit v 4 fun s => s.eqrRequest m false
  let s3 := if tst v 7 then s2.etEnd m else s2.onBit v 6 fun s => s.etOn m
  let s4 := (s3.onBit v 8 fun s => s.slackClear m).onBit v 9 fun s => s.degradeCommand m ⟨bits v 11 2 % 4, Nat.mod_lt _ (by decide)⟩
  s4.onBit v 10 fun s => s.restore m

/-! ## A motor object -/

/-- The registers of a motor object. -/
def State.readMo (s : State) (m : Fin 4) (o : Nat) : Word :=
  if o < 0x100 then s.readLoop m o
  else if o < 0x200 then s.readStart m (o - 0x100)
  else if o < 0x500 then s.readCommand m o
  else if o < 0x800 then s.readDrum m o
  else if o < 0x900 then s.readEm m o
  else if o = 0xF00 then word [fld 16 16 s.cmd[m].latMax, fld 0 16 s.cmd[m].latLast]
  else 0

/-- A write to a register of a motor object. -/
def State.writeMo (s : State) (m : Fin 4) (o : Nat) (v : Word) : Option State :=
  if o = 0x40 then some (s.onBit v 0 fun s => s.loopClear m)
  else if o = 0x204 then some (s.cmdCtl m v)
  else if o = 0x208 then some (s.setpoint m v)
  else if o = 0x210 then some (s.onOuter m fun x => { x with spoolSet := v })
  else if o = 0x504 then
    some ((s.onBit v 1 fun s => s.onShock m fun x => { x with cnt := .zero, rndCnt := .zero }).onShock m fun x => { x with rndInh := tst v 0 })
  else if o = 0x604 then some (s.ahcWrite m (tst v 0))
  else if o = 0x804 then some (s.emCtl m v)
  else if o = 0xF04 then some (s.onBit v 0 fun s => s.latClear m)
  else none

/-! ## Chapter 06: axes and generators -/

/-- The registers of an axis. -/
def State.readAxis (s : State) (k : Fin 8) (o : Nat) : Word :=
  let a := s.axes[k]
  if o = 0 then
    word [bit 15 a.lwErr, bit 14 a.gen.defer, bit 13 (a.inputs[2]).qualified, bit 12 (a.inputs[1]).qualified, bit 11 (a.inputs[0]).qualified,
      bit 10 (s.axActive k 3), bit 9 a.shrt, bit 8 a.axen, bit 7 a.dir, bit 6 a.homed, bit 5 a.uncert, fld 0 4 a.state.code]
  else if o = 4 then word [bit 0 a.en]
  else if o = 8 ∨ o = 0xC then half a.tgt.toNat o 8
  else if o = 0x10 ∨ o = 0x14 then half a.pos.toNat o 0x10
  else if o = 0x18 ∨ o = 0x1C then half a.latch.toNat o 0x18
  else if o = 0x20 ∨ o = 0x24 then half a.latchT o 0x20
  else if o = 0x28 then toF32 a.gen.v
  else if o = 0x2C then toF32 a.lwErrMm
  else if o = 0x30 then cntWord a.chat
  else 0

/-- A write to `AXCTL` (R152): HOME together with SYNCON is refused. EN is written before the requests (log 110). -/
def State.axCtl (s : State) (k : Fin 8) (v : Word) : State :=
  let s1 := if tst v 0 = s.axes[k].en then s else s.axEnable k (tst v 0)
  let s2 := if tst v 2 then s1.axStop k
    else if tst v 3 then s1.axHalt k
    else if tst v 4 && tst v 5 then s1.axRefuse k 3
    else ((s1.onBit v 4 fun s => s.axHome k).onBit v 5 fun s => s.axSyncOn k).onBit v 6 fun s => s.axSyncOff k
  s2.onBit v 7 fun s => s.axClear k

/-- A write to a register of an axis. -/
def State.writeAxis (s : State) (k : Fin 8) (o : Nat) (v : Word) : Option State :=
  if o = 4 then some (s.axCtl k v)
  else if o = 8 then some (s.onAxis k fun a => { a with tgtLow := v })
  else if o = 0xC then some (s.axTarget k v)
  else none

/-- The registers of a trajectory generator. -/
def State.readGen (s : State) (m : Fin 4) (o : Nat) : Word :=
  let g := s.moGen[m]
  if o = 0 then word [bit 7 g.defer, bit 6 g.overshoot, bit 5 g.reversal, bit 4 g.done, fld 2 2 g.kind.code, bit 0 g.active]
  else if o = 4 then toF32 g.x
  else if o = 8 then toF32 g.v
  else if o = 0xC then toF32 g.a
  else if o = 0x10 then toF32 g.target
  else 0

/-! ## Chapter 10: gates and protection -/

/-- The level that a gate or chopper channel drives at its ball at this moment, after the latency of the output stage (R216). -/
def State.cmdLevel (s : State) (g : Fin 52) : Bool :=
  if g.1 < 48 then
    let n := s.bridgeOfGate g
    s.conf n && tst (s.gateLevels n (s.up - outNs)) (g.1 - gateBase n)
  else (vat s.chop .reset (g.1 - 48)).on

/-- `GDSTAT[g]`. -/
def State.gdStat (s : State) (g : Fin 52) : Word :=
  let c := s.chan[g]
  word [sfld 16 16 c.temp, bit 6 c.trainInv, bit 5 (s.cmdLevel g), bit 4 c.faulted, bit 3 c.uv, bit 2 c.desat, bit 1 c.ready, bit 0 c.config]

/-- A reaction to an event is in force on a bridge or its motor object. -/
def State.reactIn (s : State) (n : Fin 8) (ev : Ev) : Bool :=
  (s.br[n].reacts ++ s.reacts[s.br[n].mo]).any fun r => r.cause == some ev

/-- The registers of a bridge in the protection block. -/
def State.readBrp (s : State) (n : Fin 8) (o : Nat) : Word :=
  let b := s.br[n]
  if o = 0 then
    word [fld 9 3 b.exec_.rank, fld 6 2 b.side.code, bit 5 b.conFail, bit 4 b.dcopen, bit 3 b.ov1, bit 2 (s.conf n && s.reactIn n .OV3),
      bit 1 (s.conf n && s.reactIn n .SHOOT), bit 0 b.window.isSome]
  else if o = 4 then word ((List.range (if s.conf n then s.gateCount n else 0)).map fun i => bit i (vat s.chan .reset (gateBase n + i)).faulted)
  else if o = 8 then toF32 b.kov
  else if o = 0xC then toF32 b.kb
  else 0

/-- The registers of a chopper. -/
def State.readChop (s : State) (c : Fin 4) (o : Nat) : Word :=
  let x := s.chop[c]
  if o = 0 then
    word [bit 7 x.hot, bit 6 x.short, bit 5 x.fault, bit 4 x.removed, bit 3 x.forced, bit 2 x.on, bit 1 x.stok, bit 0 x.config]
  else if o = 4 then toF32 x.duty
  else if o = 8 then toF32 x.tres
  else if o = 0xC then toF32 x.capw
  else if o = 0x10 then toF32 x.imeas
  else 0

/-- The protection block. -/
def State.readProtect (s : State) (o : Nat) : Word :=
  if o = 0 then word [fld 8 4 s.die.mgFreq, bit 1 (decide (s.die.mgFreq < 12)), bit 0 s.die.hot]
  else if o = 0xC then
    word [fld 16 16 s.stest.fail, flagBits 8 (vgen 8 fun n => s.br[n].passed), flagBits 4 (vgen 4 fun c => s.chop[c].stok),
      fld 2 2 s.stest.last, bit 0 s.stest.busy.isSome]
  else if o = 0x10 then (if s.die.seen then toF32 s.hk.dieTemp else 0)
  else match idxOf o 0x100 4 64, idxOf o 0x200 4 32, idxOf o 0x300 4 16, idxOf o 0x1000 4 96 with
    | some i, _, _, _ => s.readBrp ⟨i.1 / 8, by omega⟩ (i.1 % 8 * 4)
    | _, some i, _, _ => s.readChop ⟨i.1 / 8, by omega⟩ (i.1 % 8 * 4)
    | _, _, some i, _ =>
      let w := vat s.wind .reset (i.1 / 4)
      if i.1 % 4 = 0 then toF32 w.tw else if i.1 % 4 = 1 then toF32 w.kmot else 0
    | _, _, _, some i =>
      let c := s.cmp[i]
      word [bit 5 c.l2lo, bit 4 c.l2hi, bit 3 c.l1lo, bit 2 c.l1hi, bit 1 (s.cmpHolds i), bit 0 !(s.naming i).isEmpty]
    | _, _, _, _ => match idxOf o 0x1200 4 96, idxOf o 0x2000 4 48 with
      | some i, _ => cntWord (s.cmp[i]).trips
      | _, some g => toF32 (vat s.chan .reset g).tj
      | _, _ => 0

/-- A write to the protection block. -/
def State.writeProtect (s : State) (o : Nat) (v : Word) : Option State :=
  if o = 4 then some (s.onBit v 0 fun s => { s with cmp := s.cmp.map fun c => { c with trips := .zero } })
  else if o = 8 then some (s.onBit v 4 fun s => s.testStart (bits v 0 4))
  else none

/-- `GATEEN`, and what a write to it changes: the bits that differ, bridges before choppers. -/
def State.gateEn (s : State) : Word :=
  word [flagBits 8 (vgen 4 fun c => s.chop[c].enabled), flagBits 0 (vgen 8 fun n => s.br[n].enabled)]
def State.writeGateEn (s : State) (v : Word) : State :=
  let old := s.gateEn
  let s1 := forFin 8 (fun n (s : State) => if tst v n = tst old n then s else s.gateEnable n (tst v n)) s
  forFin 4 (fun c (s : State) => if tst v (8 + c.1) = tst old (8 + c.1) then s else s.chopEnable c (tst v (8 + c.1))) s1

/-! ## The blocks -/

/-- The analog block, PWM and gates, motor objects, profiles and axes, protection: by the offset from 0x0003_0000, and the number
of the block. -/
def State.readDrive (s : State) (blk o : Nat) : Word :=
  match blk with
  | 3 => if o < 0x9000 then s.readCell (o / 0x1000) (o % 0x1000) else 0
  | 4 => match idxOf o 0 4 8, idxOf o 0x2000 4 52 with
    | some n, _ => s.slotMap n
    | _, some g => s.gdStat g
    | _, _ =>
      if o = 0x2200 then s.gateEn
      else if h : 0x1000 ≤ o ∧ o < 0x1800 then s.readPwm ⟨(o - 0x1000) / 0x100, by omega⟩ (o % 0x100)
      else 0
  | 5 =>
    if h : o < 0x4000 then s.readMo ⟨o / 0x1000, by omega⟩ (o % 0x1000)
    else if h : 0x8000 ≤ o ∧ o < 0x8800 then s.readPi ⟨(o - 0x8000) / 0x100, by omega⟩ (o % 0x100)
    else 0
  | 6 =>
    if h : o < 0x800 then s.readAxis ⟨o / 0x100, by omega⟩ (o % 0x100)
    else if h : 0x1000 ≤ o ∧ o < 0x1400 then s.readGen ⟨(o - 0x1000) / 0x100, by omega⟩ (o % 0x100)
    else 0
  | 8 => s.readProtect o
  | _ => 0

/-- A write to those blocks. -/
def State.writeDrive (s : State) (blk o : Nat) (v : Word) : Option State :=
  match blk with
  | 3 => if o < 0x9000 then s.writeCell (o / 0x1000) (o % 0x1000) v else none
  | 4 => if o = 0x2200 then some (s.writeGateEn v) else none
  | 5 =>
    if h : o < 0x4000 then s.writeMo ⟨o / 0x1000, by omega⟩ (o % 0x1000) v
    else if h : 0x8000 ≤ o ∧ o < 0x8800 ∧ o % 0x100 = 4 then
      some (s.onBit v 0 fun s => s.piClear ⟨(o - 0x8000) / 0x100, by omega⟩)
    else none
  | 6 => if h : o < 0x800 then s.writeAxis ⟨o / 0x100, by omega⟩ (o % 0x100) v else none
  | 8 => s.writeProtect o v
  | _ => none

end Sys2Proof.Machine
end

