-- ==== Sys2Proof/Machine/RegsCore.lean ====
section
/-! DEFINITION. The registers of the identity block, of clocks and reset, the fabric, the ring and safety (chapters 08, 11 to 14 and 21),
and the pins that show the module's condition (R251, R304, R313, R329). -/

namespace Sys2Proof.Machine

/-! ## Pins -/

/-- SFAULTn is asserted: until Garnet's diagnosis has passed in S8, and in Garnet's safe state (R251, R328). -/
def State.sfaultn (s : State) : Bool := !s.rst.s8Done || s.garnet.safe

/-- CLKFAILn is asserted (R304). -/
def State.clkfailn (s : State) : Bool := s.clk.clkFail

/-- NMIn is asserted (R313). -/
def State.nmin (s : State) : Bool := decide (s.up < s.clk.nmiUntil)

/-! ## Chapter 21: identity and module status -/

/-- A capture buffer holds a stopped or a preserved record. -/
def Cap.holds (c : Cap) : Bool := c.config && (c.preserved || c.done || (!c.run && decide (c.frames ≠ [])))

/-- `MODSTAT` (R444). -/
def State.modStat (s : State) : Word :=
  word [fld 28 4 s.rst.stage, fld 24 4 s.rst.hold, bit 11 (s.cap.toList.any Cap.holds),
    bit 10 (s.ring.frozen || s.fab.flows.toList.any fun f => f.frozen), bit 9 (s.clk.src != .xin), bit 8 s.onyx.zero,
    bit 7 s.onyx.sealed_, bit 6 s.garnet.safe, bit 5 s.sfaultn, bit 4 s.faultn, bit 3 s.img.pend, bit 2 (s.com.step != .idle),
    bit 1 s.rst.mgmtRun, bit 0 (s.rst.stage == 9)]

/-- `MOSUM[m]` (R444). -/
def State.moSum (s : State) (m : Fin 4) : Word :=
  word [fld 28 4 s.start[m].state.code, fld 24 4 s.em[m].mode.code, fld 21 3 (s.shownReact m).rank, bit 20 s.garnet.mo[m].sto,
    fld 16 4 s.ring.mbr[m].state.code, fld 13 3 s.brake[m].state.code, fld 11 2 s.outer[m].mode.code, bit 10 s.armed[m]]

/-- The identity block (R444). -/
def State.readIdent (s : State) (o : Nat) : Word :=
  if o = 0 then 0x72404E01
  else if o = 4 then Config.revid
  else if o = 8 then s.nor.fwVersion s.fw.bank
  else if o = 0x10 ∨ o = 0x14 then half Config.devsn.toNat o 0x10
  else if o = 0x20 then s.modStat
  else match idxOf o 0x30 4 4 with
    | some m => s.moSum m
    | none => 0

/-! ## Chapters 13 and 14: clocks and reset -/

/-- `CLKSTAT`. -/
def Clocks.stat (c : Clocks) : Word :=
  word [fld 28 4 c.xinTry, bit 15 c.cmEarly, bit 14 c.degr, bit 13 c.cmArm, bit 12 c.ircQ, bit 11 c.lpoQ, bit 10 c.xinQ,
    flagBits 4 c.lock, bit 2 c.mgPll2, fld 0 2 c.src.code]

/-- The clock and reset registers. -/
def State.readClock (s : State) (o : Nat) : Word :=
  let c := s.clk
  if o = 0 then c.stat
  else if o = 8 then word [fld 18 9 c.cmMax, fld 9 9 c.cmMin, fld 0 9 c.cmLast]
  else if o = 0xC then cntWord c.cmTrips
  else if o = 0x10 then word [bit 31 c.frozen, bit 30 c.servo, sfld 0 24 c.trim]
  else if o = 0x20 then c.gateReg.setWidth 32
  else if o = 0x24 then c.gateOpen.setWidth 32
  else if o = 0x40 then word [fld 8 5 c.fm.ref.toNat, fld 0 5 c.fm.meas.toNat]
  else if o = 0x44 then c.fm.gate.setWidth 32
  else if o = 0x48 then word [bit 3 c.fm.done, bit 2 c.fm.tmo, bit 1 c.fm.busy]
  else if o = 0x4C then c.fm.res
  else if o = 0x80 then word [fld 28 4 s.rst.stage, fld 24 4 s.rst.hold, fld 9 3 s.rst.cause.code, fld 0 9 s.rst.rail.toNat]
  else if o = 0x88 then word [fld 16 9 s.rst.low.toNat, fld 0 9 s.rst.ok.toNat]
  else if o = 0x8C then BitVec.ofNat 32 s.rst.startT
  else if o = 0x90 then cntWord s.vbat.rstCnt
  else 0

/-- A write to `SUPSTAT`: LOW bits written with 1 clear; while VBAT is below 2.5 V its comparator sets its bit again (R318). -/
def Rst.lowClear (r : Rst) (v : Word) : Rst :=
  let m := BitVec.ofNat 9 (bits v 16 9)
  { r with low := (r.low &&& ~~~m) ||| (if r.ok.getLsbD 8 then 0 else r.low &&& 0x100) }

/-- A write to the clock and reset registers. -/
def State.writeClock (s : State) (o : Nat) (v : Word) : Option State :=
  if o = 4 then some ((s.onBit v 0 State.clkClear).onBit v 1 State.returnRequest)
  else if o = 0x20 then
    some (s.onClk fun c => { c with gateReg := v.setWidth 24, gateOpen := c.gateOpen ||| v.setWidth 24 })
  else if o = 0x40 then
    some (s.onClk fun c => { c with fm := { c.fm with ref := BitVec.ofNat 5 (bits v 8 5), meas := BitVec.ofNat 5 (bits v 0 5) } })
  else if o = 0x44 then some (s.onClk fun c => { c with fm := { c.fm with gate := v.setWidth 24 } })
  else if o = 0x48 then some (s.onBit v 0 State.measureStart)
  else if o = 0x84 then
    if bits v 16 16 = 0xA5C3 then some (s.onBit v 0 fun s => s.softRestart 0xA5C3 (tst v 1)) else none
  else if o = 0x88 then some (s.onRst fun r => r.lowClear v)
  else none

/-! ## Chapter 12: the fabric -/

/-- `FLOWCFG[f]`. -/
def Flow.cfgWord (f : Flow) : Word :=
  word [fld 30 2 f.plane.code, fld 24 6 f.prod, fld 18 6 f.cons, fld 12 6 f.prod2, bit 11 f.frozen, bit 10 f.stalePend, bit 9 f.resv,
    fld 0 8 f.epoch.toNat]

/-- The registers of a flow. `FLOWOCC` shows the sample that the last read of `FLOWLVL` latched. -/
def Flow.read (f : Flow) (o : Nat) : Word :=
  if o = 0 then f.cfgWord
  else if o = 4 then word [fld 16 11 f.depth, fld 0 11 f.free]
  else if o = 8 then word [fld 16 11 f.latBuf, fld 0 11 f.latInfl]
  else if o = 0xC then cntWord f.stale
  else if o = 0x10 then cntWord f.refuse
  else 0

/-- The fabric registers. -/
def State.readFabric (s : State) (o : Nat) : Word :=
  let b := s.fab
  if o = 0 then word [fld 8 9 (b.flows.toList.filter fun f => f.frozen).length, bit 0 b.run]
  else if o = 8 then word [fld 0 17 b.unalloc]
  else if o = 0xC then word [fld 24 8 b.lastFlow, bit 23 b.jasFail, fld 20 3 b.lastKind]
  else if o = 0x10 then word [fld 8 8 b.peak, fld 0 8 b.txns.length]
  else if o = 0x14 then cntWord b.txnTmo
  else if o = 0x18 then cntWord b.ecc
  else if o = 0x1C then cntWord b.poison
  else if o = 0x40 then word [bit 2 b.pin, bit 1 b.mode, bit 0 b.legacy]
  else if o = 0x48 then b.fdone
  else if o = 0x4C then b.mfence
  else if h : 0x1000 ≤ o ∧ o < 0x3000 then
    let f : Fin 256 := ⟨(o - 0x1000) / 0x20, by omega⟩
    b.flows[f].read (o % 0x20)
  else 0

/-- The flow whose `FLOWLVL` is read latches its occupation. -/
def State.latchOcc (s : State) (o : Nat) : State :=
  match idxOf o 0x1004 0x20 256 with
  | some f => s.onFlow f fun g => { g with latBuf := g.buf, latInfl := g.infl }
  | none => s

/-- A write of a token to `HOSTFENCE` (R300): the host port posts a FENCE into each of the four mailbox lanes. -/
def State.hostFence (s : State) (tok : Word) : State :=
  if s.fab.run then
    let it : Item := ⟨1, true, false, 0, 0, []⟩
    ((((s.post 24 252 it).post 24 253 it).post 24 254 it).post 24 255 it).onFab fun b => { b with hostToks := b.hostToks ++ [tok] }
  else s

/-- A write to the fabric registers. -/
def State.writeFabric (s : State) (o : Nat) (v : Word) : Option State :=
  if o = 4 then some (s.onBit v 0 State.fabClear)
  else if o = 0x40 then some (s.onFab fun b => { b with legacy := tst v 0 })
  else if o = 0x44 then some (s.hostFence v)
  else match idxOf o 0x1014 0x20 256 with
    | some f => some (s.onBit v 0 fun s => s.flowRebuild f)
    | none => none

/-! ## Chapter 08: the ring -/

/-- `RINGSTAT`. -/
def State.ringStat (s : State) : Word :=
  let r := s.ring
  word [flagBits 16 (r.pos.map fun p => p.visible), bit 12 r.frozen, bit 11 r.bdeg, bit 10 r.adeg, bit 9 r.quorum, bit 8 r.tlock,
    bit 7 s.isLead, fld 4 3 (r.leadPos.getD 0), bit 3 r.leadPos.isSome, fld 0 3 (if r.on then s.n Fld.RING_POS 0 else 0)]

/-- The registers of a member. -/
def State.readMember (s : State) (m : Fin 4) (o : Nat) : Word :=
  let x := s.ring.mbr[m]
  let key := s.ownKey m
  if o = 0 then
    word [bit 7 x.dhold, bit 6 x.ramp, bit 5 s.ring.alloc.capped[key], bit 4 s.ring.alloc.elig[key], fld 0 4 x.state.code]
  else if o = 4 then word [sfld 0 32 x.held]
  else if o = 8 then word [sfld 0 32 x.rel]
  else if o = 0xC then word [fld 0 32 x.cpos]
  else if o = 0x10 then word [fld 0 32 x.cneg]
  else 0

/-- `POSSTAT[p]`. -/
def RingPos.word (p : RingPos) : Word :=
  Machine.word [fld 16 16 p.lastCyc.toNat, fld 8 2 (min 3 p.miss), bit 3 p.buse, bit 2 p.ause, bit 0 p.visible]

/-- The ring registers. -/
def State.readRing (s : State) (o : Nat) : Word :=
  let r := s.ring
  if o = 0 then s.ringStat
  else if o = 8 then word [sfld 0 32 r.alloc.dinf]
  else if o = 0xC then word [sfld 0 32 r.terr]
  else if o = 0x10 then cntWord r.missCnt
  else if o = 0x14 then cntWord r.crcCnt
  else if o = 0x18 then cntWord r.consCnt
  else if o = 0x20 ∨ o = 0x24 then half r.k o 0x20
  else if h : 0x100 ≤ o ∧ o < 0x180 then s.readMember ⟨(o - 0x100) / 0x20, by omega⟩ (o % 0x20)
  else match idxOf o 0x200 4 8 with
    | some p => r.pos[p].word
    | none => 0

/-- A write to the ring registers. -/
def State.writeRing (s : State) (o : Nat) (v : Word) : Option State :=
  if o = 4 then
    let s1 := s.onBit v 0 State.ringClear
    some (forFin 4 (fun m (s : State) =>
      ((s.onBit v (8 + m.1) fun s => s.drainCmd m).onBit v (12 + m.1) fun s => s.joinCmd m).onBit v (16 + m.1) fun s => s.serviceCmd m) s1)
  else none

/-! ## Chapter 11: safety -/

/-- `SFSTAT`. -/
def State.sfStat (s : State) : Word :=
  let n := s.slog.entries.length
  word [flagBits 8 (s.garnet.tp.map fun t => t.fault), bit 7 s.garnet.pwLock, bit 6 s.slog.broken, bit 5 (decide (slogMax ≤ n)),
    bit 4 (decide (slogWarn ≤ n)), bit 3 s.garnet.unlocked.isSome, bit 2 s.garnet.safe, bit 1 s.garnet.s8ok, bit 0 s.garnet.run]

/-- The lowest limit of a mask of SLS limits. -/
def lowestSet (mask : Nat) : Nat := ((List.range 4).find? fun j => mask.testBit j).getD 0

/-- The safe functions of a motor object. -/
def State.readSafeMo (s : State) (m : Fin 4) (o : Nat) : Word :=
  let x := s.garnet.mo[m]
  if o = 0 then
    word [fld 16 4 x.cause, bit 15 x.tensDisc, bit 14 x.posDisc, bit 13 !x.unarmed.isEmpty, bit 12 (s.rstWait m), bit 11 x.hold,
      bit 10 x.brkSet, bit 9 x.slt1, bit 8 x.slp, bit 7 x.sdi, fld 5 2 (lowestSet x.slsSet), bit 4 x.sls, bit 3 x.sos,
      bit 2 (x.ss.any fun r => r.ss2), bit 1 (x.ss.any fun r => !r.ss2), bit 0 x.sto]
  else if o = 4 then toF32 x.wA
  else if o = 8 then toF32 x.wB
  else if o = 0xC then toF32 x.tens
  else if o = 0x10 then toF32 x.posA
  else 0

/-- A pair is healthy while an STO that it selects still waits for an acknowledgement. -/
def State.pairWaits (s : State) (k : Nat) : Bool :=
  let named (m : Fin 4) : StoHold → Bool
    | .sel f => (s.fnSources m f).contains (k + 2)
    | .viol f => (s.fnSources m f).contains (k + 2)
    | _ => false
  !s.pairDemands k && s.n Fld.SAFETY_SIP_RESTART 0 k == 1 &&
    (List.finRange 4).any fun m => s.garnet.mo[m].sto && s.garnet.mo[m].holds.any (named m)

/-- `SIPSTAT[k]`. -/
def State.sipStat (s : State) (k : Fin 12) : Word :=
  let a := vat s.garnet.si .reset (2 * k.1)
  let b := vat s.garnet.si .reset (2 * k.1 + 1)
  word [bit 6 (s.pairWaits k), bit 5 (a.miss || b.miss), bit 4 (a.cross || b.cross), bit 3 s.garnet.pair[k].disc, bit 2 b.level,
    bit 1 a.level, bit 0 (s.pairDemands k)]

/-- `SOSTAT[j]`. An off-pulse lies within one command, so PULSING reads 0 between commands. -/
def State.soStat (s : State) (j : Fin 8) : Word :=
  let o := s.garnet.so[j]
  word [fld 6 2 (s.n Fld.SAFETY_SO_ROLE 0 j), bit 4 o.lsFlt, bit 3 o.hsFlt, bit 2 o.sorl, bit 1 o.sorh, bit 0 o.on]

/-- The registers of a safe connection. -/
def SafeConn.read (c : SafeConn) (o : Nat) : Word :=
  if o = 0 then word [fld 16 16 c.lastSeq.toNat, bit 3 !c.waiting.isEmpty, bit 2 c.mism, bit 1 c.timeout, bit 0 c.ok]
  else if o = 4 then cntWord c.miss
  else if o = 8 then cntWord c.mismCnt
  else 0

/-- The safety registers. -/
def State.readSafety (s : State) (o : Nat) : Word :=
  if o = 0 then s.sfStat
  else if o = 8 then word [fld 0 13 s.slog.entries.length]
  else if o = 0xC then BitVec.ofNat 32 (s.slog.next - 1)
  else if h : 0x100 ≤ o ∧ o < 0x180 then s.readSafeMo ⟨(o - 0x100) / 0x20, by omega⟩ (o % 0x20)
  else if h : 0x300 ≤ o ∧ o < 0x340 then
    let c : Fin 4 := ⟨(o - 0x300) / 0x10, by omega⟩
    s.garnet.conn[c].read (o % 0x10)
  else match idxOf o 0x200 4 12, idxOf o 0x240 4 8 with
    | some k, _ => s.sipStat k
    | _, some j => s.soStat j
    | _, _ => 0

/-- A write to the safety registers. -/
def State.writeSafety (s : State) (o : Nat) (v : Word) : Option State :=
  if o = 4 then
    let s1 := forFin 4 (fun m (s : State) => s.onBit v m fun s => s.safetyAck m) s
    some (((s1.onBit v 4 State.safeCounters).onBit v 5 State.inputClear).onBit v 6 State.outputClear)
  else none

end Sys2Proof.Machine
end

