-- ==== Sys2Proof/Machine/RegsNet.lean ====
section
/-! DEFINITION. The registers of Ethernet and time, CAN, Onyx, the image and live service, capture, the journal window and the DRAM
windows (chapters 15 to 19 and 21). -/

namespace Sys2Proof.Machine

/-! ## Journal entries as bytes (R342) -/

/-- The 32 bytes of an entry. -/
def Entry.bytes (e : Entry) : List Byte :=
  let b := bytesLE 2 e.code ++ bytesLE 1 e.unit ++ bytesLE 1 e.aux ++ bytesLE 8 e.time.toNat ++ (e.data ++ bytesLE 16 0).take 16
  b ++ bytesLE 4 (crc32 b).toNat

/-- The index of the newest stored entry, and the oldest that is still held (R445). -/
def State.newestIdx (s : State) : Word := s.recd.next - 1
def State.oldestIdx (s : State) : Word := match s.onRecord.getLast? with | some x => x.1 | none => s.recd.next

/-- The bytes of the entry with an index; 32 zero bytes where none is held. -/
def State.entryBytes (s : State) (i : Word) : List Byte :=
  match s.onRecord.find? fun x => x.1 == i with
  | some x => x.2.bytes
  | none => bytesLE 32 0

/-- The journal window. -/
def State.readJournal (s : State) (o : Nat) : Word :=
  if o = 0 then s.newestIdx
  else if o = 4 then s.oldestIdx
  else if o = 8 then s.jwBase
  else if 0x8000 ≤ o then wordAt (s.entryBytes (s.jwBase + BitVec.ofNat 32 ((o - 0x8000) / 0x20))) (o % 0x20)
  else 0

def State.writeJournal (s : State) (o : Nat) (v : Word) : Option State := if o = 8 then some { s with jwBase := v } else none

/-! ## Chapter 17: Ethernet and time -/

/-- The registers of an Ethernet port. -/
def State.readEthPort (s : State) (p : Fin 9) (o : Nat) : Word :=
  let x := s.eth.port[p]
  if o = 0 then
    let lan (b : Bool) : Bool := (s.lanOf p).any fun k => k.2 == b
    word [bit 7 x.gclOn, bit 6 (lan true), bit 5 (lan false), bit 4 x.asCap, fld 2 2 x.speed, bit 1 x.link, bit 0 x.en]
  else if o = 4 then cntWord x.rx
  else if o = 8 then cntWord x.tx
  else if o = 0xC then cntWord x.drop
  else 0

/-- The registers of a PRP pair. -/
def PrpPair.read (x : PrpPair) (o : Nat) : Word :=
  if o = 0 then word [bit 31 x.aUp, bit 30 x.bUp, fld 0 9 x.nodes.length]
  else if o = 4 then cntWord x.dup
  else if o = 8 then cntWord x.wrong
  else 0

/-- The Ethernet and time registers. -/
def State.readEth (s : State) (o : Nat) : Word :=
  if o = 0 then word [fld 4 4 s.time.gmPort, bit 3 s.time.hold, bit 2 s.time.asLock, fld 0 2 s.timeSource.code]
  else if o = 8 ∨ o = 0xC then half s.dev.toNat o 8
  else if o = 0x10 then toF32 s.time.ofs
  else if o = 0x14 then toF32 s.time.rate
  else if h : 0x100 ≤ o ∧ o < 0x220 then s.readEthPort ⟨(o - 0x100) / 0x20, by omega⟩ (o % 0x20)
  else if h : 0x300 ≤ o ∧ o < 0x340 then
    let k : Fin 4 := ⟨(o - 0x300) / 0x10, by omega⟩
    s.eth.prp[k].read (o % 0x10)
  else match idxOf o 0x400 4 32 with
    | some j => cntWord s.spc[j].disc
    | none => 0

def State.writeEth (s : State) (o : Nat) (v : Word) : Option State := if o = 4 then some (s.onBit v 0 State.ethClear) else none

/-! ## Chapter 18: CAN -/

/-- `CANSTAT`. A frame counts as being sent while one contends for the bus (log 92). -/
def Can.stat (x : Can) : Word :=
  let busy := x.live && !x.mon && (x.safeTx || !x.tx.isEmpty)
  word [fld 26 6 x.tx.length, fld 19 7 x.rx1.length, fld 12 7 x.rx0.length, bit 5 x.safe.isSome, bit 4 x.mon,
    fld 2 2 (if !x.on then 3 else if x.busOff then 2 else if x.passive then 1 else 0), bit 1 busy, bit 0 x.on]

/-- The head of a receive queue. -/
def canHead (l : List CanRx) (o : Nat) : Word :=
  match l with
  | [] => 0
  | x :: _ =>
    let f := x.frame
    if o = 0 then
      word [bit 31 true, bit 30 f.ide, bit 29 f.rtr, bit 28 f.fdf, bit 27 f.brs, bit 26 f.esi, fld 20 6 x.flt, fld 16 4 f.dlc.toNat]
    else if o = 4 then f.id.setWidth 32
    else if o = 8 then x.stamp
    else match idxOf o 0x40 4 16 with
      | some i => wordAt f.data (4 * i.1)
      | none => 0

/-- The oldest completion record. -/
def doneHead (l : List TxDone) (stamp : Bool) : Word :=
  match l with
  | [] => 0
  | d :: _ =>
    if stamp then d.stamp
    else word [bit 31 true, fld 24 3 d.status.code, fld 16 8 (min 255 d.attempts), bit 8 d.host, fld 0 8 d.tag.toNat]

/-- The registers of a controller. -/
def Can.read (x : Can) (o : Nat) : Word :=
  if o = 0 then x.stat
  else if o = 8 then
    word [fld 19 3 x.dlec, fld 16 3 x.lec, fld 8 8 (if x.busOff then 255 else min 255 x.tec), fld 0 8 (if 127 < x.rec_ then 128 else x.rec_)]
  else if o = 0x10 then cntWord x.rxOvr0
  else if o = 0x14 then cntWord x.rxOvr1
  else if o = 0x18 then cntWord x.noMatch
  else if o = 0x1C then cntWord x.txDrop
  else if o = 0x20 then cntWord x.arbLost
  else if o = 0x24 then cntWord x.txEvOvr
  else if o = 0x28 then cntWord x.safeRepl
  else if o = 0x64 then doneHead x.done false
  else if o = 0x68 then doneHead x.done true
  else if 0x100 ≤ o ∧ o < 0x200 then canHead x.rx0 (o - 0x100)
  else if 0x200 ≤ o ∧ o < 0x300 then canHead x.rx1 (o - 0x200)
  else match idxOf o 0x40 0x10 2, idxOf o 0x44 0x10 2, idxOf o 0x80 4 32 with
    | some w, _, _ => x.stage[w].id
    | _, some w, _ => x.stage[w].ctl
    | _, _, some i => vat (vat x.stage .reset (i.1 / 16)).data 0 (i.1 % 16)
    | _, _, _ => 0

/-- The CAN registers; `CANTS` counts the microseconds of device time (R390). -/
def State.readCan (s : State) (o : Nat) : Word :=
  if o = 0x4000 then BitVec.ofNat 32 (s.dev.toNat / 1000)
  else if h : o < 0x4000 then
    let c : Fin 4 := ⟨o / 0x1000, by omega⟩
    s.can[c].read (o % 0x1000)
  else 0

/-- A write to the registers of a controller. -/
def State.writeCanReg (s : State) (c : Fin 4) (o : Nat) (v : Word) : Option State :=
  let onStage (w : Nat) (f : TxStage → TxStage) : Option State := some (s.onCan c fun k => { k with stage := vmodN k.stage w f })
  if o = 4 then some (((s.onBit v 0 fun s => s.canClear c).onBit v 1 fun s => s.canRecover c).onBit v 2 fun s => s.canFlush c)
  else if o = 0x60 then some (s.canCancel c (v.setWidth 8))
  else if o = 0x6C then some (s.onBit v 0 fun s => s.donePop c)
  else if o = 0x10C then some (s.onBit v 0 fun s => s.rxPop c 0)
  else if o = 0x20C then some (s.onBit v 0 fun s => s.rxPop c 1)
  else match idxOf o 0x40 0x10 2, idxOf o 0x44 0x10 2, idxOf o 0x80 4 32 with
    | some w, _, _ => onStage w fun t => { t with id := v &&& 0x3FFFFFFF }
    | _, some w, _ => (onStage w fun t => { t with ctl := v &&& 0x00FF070F }).map fun s => s.onBit v 31 fun s => s.canSubmit c (w == 1)
    | _, _, some i => onStage (i.1 / 16) fun t => { t with data := vmodN t.data (i.1 % 16) fun _ => v }
    | _, _, _ => none

def State.writeCan (s : State) (o : Nat) (v : Word) : Option State :=
  if h : o < 0x4000 then s.writeCanReg ⟨o / 0x1000, by omega⟩ (o % 0x1000) v else none

/-! ## Chapter 19: Onyx -/

/-- `SECSTAT`. -/
def Onyx.stat (o : Onyx) : Word :=
  word [fld 8 4 o.sessions.length, bit 7 o.rngFlt, bit 6 (o.dbg.any fun d => d.2.1), bit 5 (o.dbg.any fun d => d.1), bit 4 o.release.isSome,
    bit 3 o.zero, bit 2 o.sealed_, bit 1 o.owned, bit 0 o.keys]

/-- The registers of Onyx; a read of the first word of `SECNONCE` has drawn its nonce already. -/
def Onyx.read (x : Onyx) (o : Nat) : Word :=
  if o = 0 then x.stat
  else if o = 8 then word [bit 12 x.zlatch, flagBits 8 x.latch, flagBits 0 x.nowTrip]
  else if o = 0x10 ∨ o = 0x14 then half Config.devsn.toNat o 0x10
  else if o = 0x18 then word [fld 0 7 x.zepoch]
  else if o = 0x1C then x.fwMin
  else if 0x1200 ≤ o ∧ o < 0x1600 then wordAt x.csr (o - 0x1200)
  else match idxOf o 0x20 4 4, idxOf o 0x40 4 4 with
    | some i, _ => wordAt x.ownerId (4 * i.1)
    | _, some i => x.nonceReg[i]
    | _, _ => 0

/-- Bytes written into a window, which holds zeros where nothing was written. -/
def putWindow (b : List Byte) (off : Nat) (v : Word) : List Byte :=
  (b ++ bytesLE (off + 4 - b.length) 0).take off ++ bytesLE 4 v.toNat ++ b.drop (off + 4)

/-- A debug token as its bytes spell it (R410). -/
def State.tokenOf (s : State) (b : List Byte) : DebugToken where
  magicOk := b.take 4 == [0x44, 0x42, 0x47, 0x31]
  serial := BitVec.ofNat 64 (ofBytesLE ((b.drop 4).take 8))
  nonce := #v[wordAt b 12, wordAt b 16, wordAt b 20, wordAt b 24]
  scope := BitVec.ofNat 16 (ofBytesLE ((b.drop 28).take 2))
  minutes := ofBytesLE ((b.drop 30).take 2)
  sigOk := Config.tokenSig b s.onyx.ownerKey

/-- `SECCTL.SUBMIT`: Onyx takes what the windows hold. -/
def State.submitWindow (s : State) : State :=
  match Config.submission s.onyx.enrolWin s.onyx.certWin with
  | .unknown => s
  | .enrol st => s.enrol st
  | .release st => s.releaseTo st
  | .cert ok => s.provCert ok

/-- A write to the registers of Onyx by an accessor: 0 is the host port, n + 1 session n. FWMIN needs a session (R406), and a debug token
is taken with its last word (R410). -/
def State.writeSec (s : State) (acc o : Nat) (v : Word) : Option State :=
  if o = 4 then
    let s1 := (s.onBit v 0 State.debugEnds).onBit v 1 fun s => if acc = 0 then s else s.fwMinimum (acc - 1)
    some ((s1.onBit v 2 State.provGen).onBit v 3 State.submitWindow)
  else if 0x100 ≤ o ∧ o < 0x1C0 then
    let s1 := s.onOnyx fun x => { x with dbgWin := putWindow x.dbgWin (o - 0x100) v }
    some (if o = 0x1BC then s1.debugToken (s1.tokenOf s1.onyx.dbgWin) else s1)
  else if 0x200 ≤ o ∧ o < 0x1200 then some (s.onOnyx fun x => { x with enrolWin := putWindow x.enrolWin (o - 0x200) v })
  else if 0x1600 ≤ o ∧ o < 0x2600 then some (s.onOnyx fun x => { x with certWin := putWindow x.certWin (o - 0x1600) v })
  else none

/-! ## Chapters 15 and 16: image, shadow, firmware and availability -/

/-- The image registers and the load report. -/
def State.readImage (s : State) (o : Nat) : Word :=
  let i := s.img
  if o = 0 then
    word [fld 28 4 i.failA, fld 24 4 i.failB, bit 5 i.noCommit, bit 4 i.stashIgn, bit 3 i.fallback, bit 2 i.pend, bit 1 i.bank, bit 0 i.loaded]
  else if o = 8 ∨ o = 0xC then half i.cfgSeq.toNat o 8
  else if o = 0x10 then word [bit 31 i.repSat, fld 16 15 i.repLost, fld 0 11 i.report.length]
  else if o = 0x14 then word [fld 8 8 i.staged.length, fld 0 5 (stagedSeqs i.staged).length]
  else if o = 0x18 then
    word [fld 24 8 s.com.progress, fld 8 4 (min 15 (stashBytes (s.nor.stash s.stashHalf) * 16 / halfBytes)), fld 5 3 s.com.step.code,
      bit 4 i.dirty, bit 3 s.com.aborted, bit 0 (s.com.step != .idle)]
  else if 0x1000 ≤ o ∧ o < 0x9000 then
    match i.report[(o - 0x1000) / 0x20]? with
    | some e => wordAt e.bytes (o % 0x20)
    | none => 0
  else 0

/-- The registers of a shadow slot. -/
def Shadow.read (h : Shadow) (o : Nat) : Word :=
  if o = 4 then
    word [fld 24 8 h.reason, fld 14 4 h.target.1, fld 12 2 h.kind.code, fld 10 2 h.mo.1, bit 3 h.carry, fld 0 3 h.state.code]
  else if o = 8 then BitVec.ofNat 32 h.matches_
  else if o = 0xC then cntWord h.mism
  else if o = 0x10 then toF32 h.maxd
  else 0

/-- The firmware and availability registers. -/
def State.readAvail (s : State) (o : Nat) : Word :=
  let a := s.av
  if o = 0 then word [fld 16 16 s.fw.oldCode.length, fld 2 2 s.fw.step.code, bit 1 s.fw.trial, bit 0 s.fw.bank]
  else if o = 0x18 ∨ o = 0x1C then half a.insvc o 0x18
  else if o = 0x20 then BitVec.ofNat 32 a.lost
  else if o = 0x24 then BitVec.ofNat 32 (a.excl / 1000)
  else if o = 0x28 then BitVec.ofNat 32 (a.void / 1000)
  else if o = 0x2C then toF32 a.ratio
  else 0

/-- The registers of a capture buffer. -/
def Cap.read (c : Cap) (o : Nat) : Word :=
  if o = 0 then word [bit 4 c.preserved, bit 3 c.done, bit 2 c.trigged, bit 1 c.run, bit 0 c.config]
  else if o = 8 then BitVec.ofNat 32 c.base
  else if o = 0xC then BitVec.ofNat 32 c.wr
  else if o = 0x10 ∨ o = 0x14 then half c.trigT.toNat o 0x10
  else if o = 0x18 then cntWord c.gaps
  else 0

/-- The service and image block. -/
def State.readService (s : State) (o : Nat) : Word :=
  if o < 0xA000 then s.readImage o
  else if h : o < 0xA080 then
    let i : Fin 2 := ⟨(o - 0xA000) % 0x80 / 0x40, by omega⟩
    s.shadow[i].read (o % 0x40)
  else if 0xB000 ≤ o ∧ o < 0xC000 then s.readAvail (o - 0xB000)
  else if h : 0xC000 ≤ o ∧ o < 0xC100 then
    let k : Fin 8 := ⟨(o - 0xC000) / 0x20, by omega⟩
    s.cap[k].read (o % 0x20)
  else 0

/-- A write to `SHCMD`: more than one of START, GO and ABORT acts as ABORT alone; KIND 3 is reserved (R10). -/
def State.shCmd (s : State) (i : Fin 2) (v : Word) : Option State :=
  let ops := bits v 29 3
  if ops = 0 then some s
  else if ops = 4 then
    if bits v 8 2 = 3 then none
    else some (s.shadowStart i (BitVec.ofNat 8 (bits v 0 8)) (BitVec.ofNat 2 (bits v 8 2)) ⟨bits v 10 4 % 16, Nat.mod_lt _ (by decide)⟩)
  else if ops = 2 then some (s.shadowGo i)
  else some (s.shadowAbort i)

/-- A write to `CAPCTL`: ARM wins over SWTRIG. -/
def State.capCtl (s : State) (k : Fin 8) (v : Word) : State :=
  (if tst v 0 then s.capArm k else s.onBit v 1 fun s => s.capSwTrig k).onBit v 2 fun s => s.capStop k

/-- A write to the service and image block. -/
def State.writeService (s : State) (o : Nat) (v : Word) : Option State :=
  if o = 4 then some (s.onBit v 0 State.commitStart)
  else if o = 0xB004 then some (s.onBit v 0 State.fwBack)
  else if o = 0xB010 then some (s.onBit v 0 State.avClear)
  else match idxOf o 0xA000 0x40 2, idxOf o 0xC004 0x20 8 with
    | some i, _ => s.shCmd i v
    | _, some k => some (s.capCtl k v)
    | _, _ => none

/-! ## The DRAM windows (R446, R447) -/

/-- The 64 bytes of a frame. -/
def CapFrame.bytes (f : CapFrame) (preserved : Bool) : List Byte :=
  bytesLE 8 f.time.toNat ++ bytesLE 2 (bit 0 f.gap + bit 1 f.trig + bit 2 preserved) ++ bytesLE 2 f.seq.toNat ++ bytesLE 4 0 ++
    f.vals.toList.flatMap fun v => bytesLE 4 v.toNat

/-- A word of a capture window. -/
def State.readCapture (s : State) (a : Nat) : Word :=
  match s.cap.toList.find? fun c => c.config && decide (c.base ≤ a) && decide (a < c.base + c.size) with
  | none => 0
  | some c => match c.frames.find? fun x => x.1 == (a - c.base) / 64 with
    | some x => wordAt (x.2.bytes c.preserved) ((a - c.base) % 64)
    | none => 0

/-- A word of the heave history, from 0x2000_0000. -/
def State.readHeaveHistory (s : State) (o : Nat) : Word :=
  match (vat s.hist [] (o / 0x10000)).find? fun x => x.index == o % 0x10000 / 8 with
  | some x => if o % 8 = 0 then toF32 x.z else word [bit 0 x.invalid]
  | none => 0

end Sys2Proof.Machine
end

