-- ==== Sys2Proof/Machine/HostPort.lean ====
section
/-! DEFINITION. The register bus: reads and writes of the status and control space by the host and by sessions (R9 to R12, R442, R443);
and the host port: its mode, fences and the forerunner mailbox (R298 to R300, R454). -/

namespace Sys2Proof.Machine

/-! ## Reads (R442, R443) -/

/-- The end of the space of BAR0. -/
def barEnd : Nat := 0x01000000

/-- A word of the space as it stands, without what a read of it does. -/
def State.readWord (s : State) (a : Nat) : Word :=
  let o := a % 0x10000
  if barEnd ≤ a then
    if 0x10000000 ≤ a ∧ a < 0x20000000 then s.readCapture a
    else if 0x20000000 ≤ a ∧ a < 0x20040000 then s.readHeaveHistory (a - 0x20000000)
    else 0
  else match a / 0x10000 with
    | 0 => s.readIdent o
    | 1 => s.readClock o
    | 2 => s.readFabric o
    | 7 => s.readRing o
    | 9 => s.readSafety o
    | 10 => s.readEth o
    | 11 => s.readCan o
    | 12 => s.onyx.read o
    | 13 => s.readService o
    | 14 => s.readJournal o
    | b => s.readDrive b o

/-- The registers of 64 bits whose low word latches the upper one (R12). -/
def isWide (a : Nat) : Bool :=
  let o := a % 0x10000
  match a / 0x10000 with
  | 0 => o == 0x10
  | 3 => decide (o < 0x9000) && decide (0x40 ≤ o % 0x1000) && decide (o % 0x1000 < 0x80) && o % 8 == 0
  | 5 => (decide (o < 0x4000) && (o % 0x1000 == 0x528 || o % 0x1000 == 0x628)) ||
      (decide (0x8000 ≤ o) && decide (o < 0x8800) && o % 0x100 == 8)
  | 6 => decide (o < 0x800) && (o % 0x100 == 8 || o % 0x100 == 0x10 || o % 0x100 == 0x18 || o % 0x100 == 0x20)
  | 7 => o == 0x20
  | 10 => o == 8
  | 12 => o == 0x10
  | 13 => o == 8 || o == 0xB018 || (decide (0xC000 ≤ o) && decide (o < 0xC100) && o % 0x20 == 0x10)
  | _ => false

/-- What a read of a word does before its value is returned: a nonce is drawn (R407), a flow's occupation latched, the upper word of a
wide register latched for the accessor (R12, R442). -/
def State.readActs (s : State) (acc a : Nat) : State :=
  if a = 0x000C0040 then s.drawNonce
  else if a / 0x10000 = 2 then s.latchOcc (a % 0x10000)
  else if isWide a then
    { s with latches := (acc, a + 4, s.readWord (a + 4)) :: s.latches.filter fun x => !(x.1 == acc && x.2.1 == a + 4) }
  else s

/-- A 32-bit read of a word by an accessor: 0 is the host port, n + 1 session n. -/
def State.readReg (s : State) (acc a : Nat) : Word × State :=
  let s1 := s.readActs acc a
  match s1.latches.find? fun x => x.1 == acc && x.2.1 == a with
  | some x => (x.2.2, s1)
  | none => (s1.readWord a, s1)

/-- A read of `size` bytes at any byte address: its lanes of the word; 0 and nothing done where it would cross a word (R442). -/
def State.readBytes (s : State) (acc a size : Nat) : Nat × State :=
  if 4 < a % 4 + size then (0, s)
  else
    let r := s.readReg acc (a / 4 * 4)
    (r.1.toNat / 256 ^ (a % 4) % 256 ^ size, r.2)

/-! ## Writes -/

/-- A write to a word of the space; none where no table names the address, or what it names cannot be written (R11, R442). -/
def State.writeWord (s : State) (acc a : Nat) (v : Word) : Option State :=
  let o := a % 0x10000
  match a / 0x10000 with
  | 1 => s.writeClock o v
  | 2 => s.writeFabric o v
  | 7 => s.writeRing o v
  | 9 => s.writeSafety o v
  | 10 => s.writeEth o v
  | 11 => s.writeCan o v
  | 12 => s.writeSec acc o v
  | 13 => s.writeService o v
  | 14 => s.writeJournal o v
  | b => s.writeDrive b o v

/-- The accessor can reach the register bus: the host port, or an open session; not while the module is held in reset or flushes. -/
def State.busOpen (s : State) (acc : Nat) : Bool :=
  !s.rst.held && s.rst.flushing.isNone && (acc == 0 || s.session (acc - 1))

/-- A write of `size` bytes (R442): only an aligned 32-bit write is carried out; any other is ignored and journaled. -/
def State.regWrite (s : State) (acc a size : Nat) (v : Word) : State :=
  if !s.busOpen acc then s
  else if size = 4 ∧ a % 4 = 0 ∧ a < barEnd then (s.writeWord acc a v).getD (s.rejectWrite a v.toNat)
  else s.rejectWrite a v.toNat

/-! ## Host mode and fences (R298, R300) -/

/-- PCIE_LINK_RESET: the mode of LEGACY comes into force. -/
def State.linkReset (s : State) : State :=
  if s.rst.held then s
  else (s.onFab fun b => { b with mode := b.legacy }).raise .HOST_MODE 0xFF (bit 0 s.fab.legacy)

/-- The items of a mailbox lane up to its first fence. -/
def untilFence : List Item → Option Nat
  | [] => none
  | i :: l => if i.fence then some 1 else (untilFence l).map (· + 1)

/-- The firmware has consumed a lane through its first fence. -/
def State.drainLane (s : State) (f : Fin 256) : State :=
  match untilFence s.fab.flows[f].items with
  | none => s
  | some n => ((List.range n).foldl (fun (s : State) _ => (s.pop s.fab.flows[f].cons f).2) s).onFlow f Flow.release

/-- The four mailbox lanes. -/
def lanes : List (Fin 256) := [252, 253, 254, 255]

/-- HOST_FENCE_DONE: while the management cluster runs, with a fence written in every lane. -/
def State.fenceDone (s : State) : State :=
  match s.fab.hostToks with
  | [] => s
  | t :: l =>
    if s.rst.mgmtRun ∧ lanes.all fun f => (untilFence s.fab.flows[f].items).isSome then
      (lanes.foldl State.drainLane s).onFab fun b => { b with hostToks := l, fdone := t }
    else s

/-! ## The mailbox image (R299, R454) -/

/-- A byte of the image. -/
def setByte : List (Nat × Byte) → Nat → Byte → List (Nat × Byte)
  | [], i, b => if b = 0 then [] else [(i, b)]
  | (j, c) :: l, i, b =>
    if j < i then (j, c) :: setByte l i b
    else if j = i then (if b = 0 then l else (i, b) :: l)
    else if b = 0 then (j, c) :: l else (i, b) :: (j, c) :: l

/-- Bytes written one after the other. -/
def setBytes (l : List (Nat × Byte)) (off : Nat) : List Byte → List (Nat × Byte)
  | [] => l
  | b :: bs => setBytes (setByte l off b) (off + 1) bs

/-- A byte as the host reads it: EVRING shows the journal entries below `evNext`, everything else is the image. -/
def State.mailByte (s : State) (off : Nat) : Byte :=
  let e := (off - 0x9000) / 0x20
  let i : Word := s.fab.mbox.evNext - 1 - BitVec.ofNat 32 (((s.fab.mbox.evNext.toNat + 896 - 1 - e % 896) % 896))
  if 0x9000 ≤ off ∧ off < 0x10000 then (s.entryBytes i).getD (off % 0x20) 0
  else ((s.fab.mbox.image.find? fun x => x.1 == off).map Prod.snd).getD 0

/-- The firmware writes words to the image, and then a new token to `HOSTMFENCE` (R300): any value but the last (log 112). -/
def State.mailWrite (s : State) (off : Nat) (ws : List Word) : State :=
  let (t, s1) := s.takeWord
  s1.onFab fun b => { b with
    mfence := if t = b.mfence then t + 1 else t
    mbox := { b.mbox with image := setBytes b.mbox.image off (ws.flatMap fun w => bytesLE 4 w.toNat) } }

/-- A message of a block is acted on: the firmware runs, the mode is in force, the block is one of the host's, and its SEQ differs from the
value last acted on there. -/
def State.mailFresh (s : State) (blk : Nat) (seq : Word) : Bool :=
  s.fab.mode && s.rst.mgmtRun && decide (blk < 0x8000) && blk % 64 == 0 &&
    !s.fab.mbox.lastSeq.any fun x => x.1 == blk && x.2 == seq

/-- A message acted on once. -/
def State.message (s : State) (blk : Nat) (seq : Word) (act : State → State) : State :=
  if s.mailFresh blk seq then
    act (s.onFab fun b => { b with mbox := { b.mbox with
      lastSeq := (blk, seq) :: b.mbox.lastSeq.filter fun x => x.1 != blk } })
  else s

/-- A message for a motor object; another number is a reserved encoding, and the message is ignored and journaled (R10). -/
def State.messageMo (s : State) (blk : Nat) (seq : Word) (mo : Byte) (act : Fin 4 → State → State) : State :=
  s.message blk seq fun s =>
    if h : mo.toNat < 4 then act ⟨mo.toNat, h⟩ s else s.rejectWrite blk mo.toNat

/-- COMMAND: STOP0 wins over QSTOP, QSTOP over STOP, STOP over RUN, each as a write to `EMCTL` or `CMDCTL`. -/
def State.mailCommand (s : State) (m : Fin 4) (b : Byte) : State :=
  if b.getLsbD 3 then s.emCtl m 1
  else if b.getLsbD 2 then s.emCtl m 4
  else if b.getLsbD 1 then s.cmdCtl m 2
  else if b.getLsbD 0 then s.cmdCtl m 1
  else s

/-- The words of a READ, one after the other; an unaligned word would cross a boundary and reads 0 (R442). -/
def State.readWords (s : State) (a : Nat) : Nat → List Word × State
  | 0 => ([], s)
  | n + 1 =>
    let r := s.readBytes 0 a 4
    let q := r.2.readWords (a + 4) n
    (BitVec.ofNat 32 r.1 :: q.1, q.2)

/-- READ: the response stands at the SEQ modulo 59; outside BAR0, or with another count than 1 to 12, it is refused. -/
def State.mailRead (s : State) (seq addr count : Word) : State :=
  let off := 0x8140 + 0x40 * (seq.toNat % 59)
  let n := count.toNat
  if 1 ≤ n ∧ n ≤ 12 ∧ addr.toNat + 4 * n ≤ barEnd then
    let r := s.readWords addr.toNat n
    r.2.mailWrite off (seq :: addr :: 0 :: r.1)
  else s.mailWrite off [seq, addr, 1]

/-- The STATUS record of a motor object; whose SEQ its first word shows the spec does not say, and it is free (log 112). -/
def State.mailStatus (s : State) (m : Fin 4) : State :=
  let (q, s1) := s.takeWord
  s1.mailWrite (0x8000 + 0x40 * m.1) [q, s1.moSum m, s1.readMo m 0x20C, s1.readMo m 0x108, s1.readMo m 0x10, s1.readMo m 0x304]

/-- MAILBOX_STATUS_REFRESH: the four STATUS records, and EVRING up to the newest entry. -/
def State.mailRefresh (s : State) : State :=
  if s.fab.mode ∧ s.rst.mgmtRun then
    let s1 := forFin 4 (fun m (s : State) => s.mailStatus m) s
    if s1.fab.mbox.evNext = s1.recd.next then s1
    else (s1.onFab fun b => { b with mbox := { b.mbox with evNext := s1.recd.next } }).mailWrite 0x8100 [s1.newestIdx]
  else s

/-! ## Commands -/

/-- PCIE_LINK_RESET: see `State.linkReset`. -/
def execPcieLinkReset (s : State) : Host.Outcome State Fault Refusal := .next s.linkReset
/-- HOST_FENCE: see `State.hostFence`. -/
def execHostFence (tok : Word) (s : State) : Host.Outcome State Fault Refusal := .next (s.hostFence tok)
/-- HOST_FENCE_DONE: see `State.fenceDone`. -/
def execHostFenceDone (s : State) : Host.Outcome State Fault Refusal := .next s.fenceDone
/-- MAILBOX_SETPOINT (R454, R118): as a write to `SETPT[MO]`. -/
def execMailboxSetpoint (blk : BitVec 16) (seq : Word) (mo : Byte) (v : Word) (s : State) : Host.Outcome State Fault Refusal :=
  .next (s.messageMo blk.toNat seq mo fun m s => s.setpoint m v)
/-- MAILBOX_COMMAND: see `State.mailCommand`. -/
def execMailboxCommand (blk : BitVec 16) (seq : Word) (mo bits : Byte) (s : State) : Host.Outcome State Fault Refusal :=
  .next (s.messageMo blk.toNat seq mo fun m s => s.mailCommand m bits)
/-- MAILBOX_READ: see `State.mailRead`. -/
def execMailboxRead (blk : BitVec 16) (seq addr count : Word) (s : State) : Host.Outcome State Fault Refusal :=
  .next (s.message blk.toNat seq fun s => s.mailRead seq addr count)
/-- MAILBOX_WRITE (R454): as a BAR0 write of 32 bits. -/
def execMailboxWrite (blk : BitVec 16) (seq addr v : Word) (s : State) : Host.Outcome State Fault Refusal :=
  .next (s.message blk.toNat seq fun s => s.regWrite 0 addr.toNat 4 v)
/-- MAILBOX_OTHER_TYPE (R454): ignored, and journaled with the block address. -/
def execMailboxOtherType (blk : BitVec 16) (seq : Word) (typ : BitVec 16) (s : State) : Host.Outcome State Fault Refusal :=
  .next (s.message blk.toNat seq fun s => s.rejectWrite blk.toNat typ.toNat)
/-- MAILBOX_STATUS_REFRESH: see `State.mailRefresh`. -/
def execMailboxStatusRefresh (s : State) : Host.Outcome State Fault Refusal := .next s.mailRefresh
/-- REGISTER_WRITE: see `State.regWrite`. -/
def execRegisterWrite (acc : Nat) (addr : Word) (size : BitVec 3) (v : Word) (s : State) : Host.Outcome State Fault Refusal :=
  .next (s.regWrite acc addr.toNat size.toNat v)

end Sys2Proof.Machine
end

