-- ==== Sys2Proof/Machine/Dispatch.lean ====
section
/-! DEFINITION. The meaning of each command, one arm per constructor: the command's effect on everything but the queue. -/

namespace Sys2Proof.Machine

def exec (i : Instr) (s : State) : Host.Outcome State Fault Refusal :=
  match i with
  | .powerUp vbat off legacy mesh temp => Sys2Proof.Machine.execPowerUp vbat off legacy mesh temp s
  | .pornAssert => Sys2Proof.Machine.execPornAssert s
  | .brownout rail => Sys2Proof.Machine.execBrownout rail s
  | .srstnPulse => Sys2Proof.Machine.execSrstnPulse s
  | .softwareRestart key force => Sys2Proof.Machine.execSoftwareRestart key force s
  | .warmResetFlushDone => Sys2Proof.Machine.execWarmResetFlushDone s
  | .pornRelease legacy => Sys2Proof.Machine.execPornRelease legacy s
  | .s0RailsConfirmed ok => Sys2Proof.Machine.execS0RailsConfirmed ok s
  | .lpoQualified => Sys2Proof.Machine.execLpoQualified s
  | .lpoQualifyTimeout => Sys2Proof.Machine.execLpoQualifyTimeout s
  | .ircQualified => Sys2Proof.Machine.execIrcQualified s
  | .xinAttemptEnd irc inTime => Sys2Proof.Machine.execXinAttemptEnd irc inTime s
  | .pllLockDone locked trim => Sys2Proof.Machine.execPllLockDone locked trim s
  | .s4Done onyxOk rngOk kroot dramOk chainOk => Sys2Proof.Machine.execS4Done onyxOk rngOk kroot dramOk chainOk s
  | .imageLoadDone readA readB => Sys2Proof.Machine.execImageLoadDone readA readB s
  | .s6Done => Sys2Proof.Machine.execS6Done s
  | .s7Done => Sys2Proof.Machine.execS7Done s
  | .s8Done garnetOk tpBad soBadH soBadL brOk chOk failItem => Sys2Proof.Machine.execS8Done garnetOk tpBad soBadH soBadL brOk chOk failItem s
  | .s9Entry => Sys2Proof.Machine.execS9Entry s
  | .clockMonitorWindow count => Sys2Proof.Machine.execClockMonitorWindow count s
  | .pllHoldover p => Sys2Proof.Machine.execPllHoldover p s
  | .pllUnlock p => Sys2Proof.Machine.execPllUnlock p s
  | .analogClockLoss => Sys2Proof.Machine.execAnalogClockLoss s
  | .ircTrimUpdate trim => Sys2Proof.Machine.execIrcTrimUpdate trim s
  | .ircCheck count => Sys2Proof.Machine.execIrcCheck count s
  | .mgClockEvaluation => Sys2Proof.Machine.execMgClockEvaluation s
  | .mgClockSwitch => Sys2Proof.Machine.execMgClockSwitch s
  | .xinReturnRequest => Sys2Proof.Machine.execXinReturnRequest s
  | .xinReturnEnd ok => Sys2Proof.Machine.execXinReturnEnd ok s
  | .clockCountersClear => Sys2Proof.Machine.execClockCountersClear s
  | .freqMeasureStart => Sys2Proof.Machine.execFreqMeasureStart s
  | .freqMeasureEnd count timeout => Sys2Proof.Machine.execFreqMeasureEnd count timeout s
  | .islandGateClose g idle => Sys2Proof.Machine.execIslandGateClose g idle s
  | .islandGateOpen g => Sys2Proof.Machine.execIslandGateOpen g s
  | .vbatLow below => Sys2Proof.Machine.execVbatLow below s
  | .managementRestart => Sys2Proof.Machine.execManagementRestart s
  | .managementRestartDone => Sys2Proof.Machine.execManagementRestartDone s
  | .managementSliceEnd => Sys2Proof.Machine.execManagementSliceEnd s
  | .evrecEntry code unit aux stamp data => Sys2Proof.Machine.execEvrecEntry code unit aux stamp data s
  | .evrecGridClose => Sys2Proof.Machine.execEvrecGridClose s
  | .journalPageWrite => Sys2Proof.Machine.execJournalPageWrite s
  | .journalSectorEraseDone => Sys2Proof.Machine.execJournalSectorEraseDone s
  | .carrierTurningPoint n pos => Sys2Proof.Machine.execCarrierTurningPoint n pos s
  | .sampleConversionDone c v code => Sys2Proof.Machine.execSampleConversionDone c v code s
  | .regularSequenceDone c k => Sys2Proof.Machine.execRegularSequenceDone c k s
  | .urgentTrigger c k => Sys2Proof.Machine.execUrgentTrigger c k s
  | .injectedSequenceDone c k => Sys2Proof.Machine.execInjectedSequenceDone c k s
  | .softwareRegularTrigger c k => Sys2Proof.Machine.execSoftwareRegularTrigger c k s
  | .softwareUrgentTrigger c k => Sys2Proof.Machine.execSoftwareUrgentTrigger c k s
  | .cellCountersClear c => Sys2Proof.Machine.execCellCountersClear c s
  | .refenWrite c on => Sys2Proof.Machine.execRefenWrite c on s
  | .refReady c => Sys2Proof.Machine.execRefReady c s
  | .fullCalibrationCommand c => Sys2Proof.Machine.execFullCalibrationCommand c s
  | .calibrationDrainDone c => Sys2Proof.Machine.execCalibrationDrainDone c s
  | .fullCalibrationDone c offs gains mis => Sys2Proof.Machine.execFullCalibrationDone c offs gains mis s
  | .bgroundStartCommand c => Sys2Proof.Machine.execBgroundStartCommand c s
  | .bgroundAbortCommand c => Sys2Proof.Machine.execBgroundAbortCommand c s
  | .bgroundSchedule c => Sys2Proof.Machine.execBgroundSchedule c s
  | .spareCalibrationDone c off gain mis => Sys2Proof.Machine.execSpareCalibrationDone c off gain mis s
  | .converterHandover c => Sys2Proof.Machine.execConverterHandover c s
  | .hkChannelResult ch code => Sys2Proof.Machine.execHkChannelResult ch code s
  | .dieShutdownRecordDone => Sys2Proof.Machine.execDieShutdownRecordDone s
  | .railClampSet j beyond => Sys2Proof.Machine.execRailClampSet j beyond s
  | .railWindowClose j => Sys2Proof.Machine.execRailWindowClose j s
  | .currentLoopTaskStart n => Sys2Proof.Machine.execCurrentLoopTaskStart n s
  | .compareDeadline n => Sys2Proof.Machine.execCompareDeadline n s
  | .npUnbal n => Sys2Proof.Machine.execNpUnbal n s
  | .circHigh m => Sys2Proof.Machine.execCircHigh m s
  | .loopCountersClear m => Sys2Proof.Machine.execLoopCountersClear m s
  | .ssiFrameDone k frame => Sys2Proof.Machine.execSsiFrameDone k frame s
  | .piLineBreak k => Sys2Proof.Machine.execPiLineBreak k s
  | .piIllegalTransitions k count => Sys2Proof.Machine.execPiIllegalTransitions k count s
  | .piAmplitudeFault k amp => Sys2Proof.Machine.execPiAmplitudeFault k amp s
  | .ssiFrameFault k => Sys2Proof.Machine.execSsiFrameFault k s
  | .excFault k => Sys2Proof.Machine.execExcFault k s
  | .indexPulse k pos => Sys2Proof.Machine.execIndexPulse k pos s
  | .posMismatchTimer m => Sys2Proof.Machine.execPosMismatchTimer m s
  | .piErrorClear k => Sys2Proof.Machine.execPiErrorClear k s
  | .observerLock m => Sys2Proof.Machine.execObserverLock m s
  | .runCommand m => Sys2Proof.Machine.execRunCommand m s
  | .measureDecision m => Sys2Proof.Machine.execMeasureDecision m s
  | .syncGateEnable n => Sys2Proof.Machine.execSyncGateEnable n s
  | .catchSettleCheck m => Sys2Proof.Machine.execCatchSettleCheck m s
  | .hfiPolarityDone m plus minus => Sys2Proof.Machine.execHfiPolarityDone m plus minus s
  | .hfiNoconvTimeout m => Sys2Proof.Machine.execHfiNoconvTimeout m s
  | .alignElapsed m => Sys2Proof.Machine.execAlignElapsed m s
  | .obsNolockTimeout m => Sys2Proof.Machine.execObsNolockTimeout m s
  | .searchEnd m => Sys2Proof.Machine.execSearchEnd m s
  | .fluxBuilt m => Sys2Proof.Machine.execFluxBuilt m s
  | .searchLost m => Sys2Proof.Machine.execSearchLost m s
  | .startPauseEnd m => Sys2Proof.Machine.execStartPauseEnd m s
  | .setpointWrite m v => Sys2Proof.Machine.execSetpointWrite m v s
  | .sourceTransferRequest m src => Sys2Proof.Machine.execSourceTransferRequest m src s
  | .transferTimeout m => Sys2Proof.Machine.execTransferTimeout m s
  | .outerLoopPeriod m => Sys2Proof.Machine.execOuterLoopPeriod m s
  | .cmdLoss m => Sys2Proof.Machine.execCmdLoss m s
  | .modeChangeCommand m mode => Sys2Proof.Machine.execModeChangeCommand m mode s
  | .spoolsetCommand m => Sys2Proof.Machine.execSpoolsetCommand m s
  | .faultClearCommand m => Sys2Proof.Machine.execFaultClearCommand m s
  | .stopCommand m => Sys2Proof.Machine.execStopCommand m s
  | .armCommand m => Sys2Proof.Machine.execArmCommand m s
  | .disarmCommand m => Sys2Proof.Machine.execDisarmCommand m s
  | .cmdlatClear m => Sys2Proof.Machine.execCmdlatClear m s
  | .provingEnd m => Sys2Proof.Machine.execProvingEnd m s
  | .brakeFeedbackOpen m => Sys2Proof.Machine.execBrakeFeedbackOpen m s
  | .brakeOpenTimeout m => Sys2Proof.Machine.execBrakeOpenTimeout m s
  | .brakeClosingDone m => Sys2Proof.Machine.execBrakeClosingDone m s
  | .sliptestEnd m => Sys2Proof.Machine.execSliptestEnd m s
  | .stopComplete m => Sys2Proof.Machine.execStopComplete m s
  | .axisGeneratorPeriod k => Sys2Proof.Machine.execAxisGeneratorPeriod k s
  | .axisTargetCommit k hi => Sys2Proof.Machine.execAxisTargetCommit k hi s
  | .axisEnableWrite k en => Sys2Proof.Machine.execAxisEnableWrite k en s
  | .axisStop k => Sys2Proof.Machine.execAxisStop k s
  | .axisHalt k => Sys2Proof.Machine.execAxisHalt k s
  | .axisHome k => Sys2Proof.Machine.execAxisHome k s
  | .axisSyncon k => Sys2Proof.Machine.execAxisSyncon k s
  | .axisSyncoff k => Sys2Proof.Machine.execAxisSyncoff k s
  | .axisClear k => Sys2Proof.Machine.execAxisClear k s
  | .axisEnableDelayEnd k => Sys2Proof.Machine.execAxisEnableDelayEnd k s
  | .axisStandstillDelayEnd k => Sys2Proof.Machine.execAxisStandstillDelayEnd k s
  | .axDrvFault k => Sys2Proof.Machine.execAxDrvFault k s
  | .axisInputEdge k inp level => Sys2Proof.Machine.execAxisInputEdge k inp level s
  | .axisDebounceEnd k inp => Sys2Proof.Machine.execAxisDebounceEnd k inp s
  | .homeTimeout k => Sys2Proof.Machine.execHomeTimeout k s
  | .lwFollow k => Sys2Proof.Machine.execLwFollow k s
  | .shockSample m => Sys2Proof.Machine.execShockSample m s
  | .shockSrcFault m => Sys2Proof.Machine.execShockSrcFault m s
  | .shockPinRestore m => Sys2Proof.Machine.execShockPinRestore m s
  | .renderOverload m => Sys2Proof.Machine.execRenderOverload m s
  | .renderExit m => Sys2Proof.Machine.execRenderExit m s
  | .shockCountersClear m => Sys2Proof.Machine.execShockCountersClear m s
  | .heaveSample m => Sys2Proof.Machine.execHeaveSample m s
  | .heaveFitReady m => Sys2Proof.Machine.execHeaveFitReady m s
  | .ahconWrite m on => Sys2Proof.Machine.execAhconWrite m on s
  | .heaveMruLoss m => Sys2Proof.Machine.execHeaveMruLoss m s
  | .heaveCoastEnd m => Sys2Proof.Machine.execHeaveCoastEnd m s
  | .heaveHistoryPost m => Sys2Proof.Machine.execHeaveHistoryPost m s
  | .heaveStatistics m => Sys2Proof.Machine.execHeaveStatistics m s
  | .ringLatch => Sys2Proof.Machine.execRingLatch s
  | .ringFrameArrival portB crcOk typeOk f delay => Sys2Proof.Machine.execRingFrameArrival portB crcOk typeOk f delay s
  | .ringArrivalDeadline => Sys2Proof.Machine.execRingArrivalDeadline s
  | .ringCycleBoundary => Sys2Proof.Machine.execRingCycleBoundary s
  | .quorumRestored => Sys2Proof.Machine.execQuorumRestored s
  | .ringDelayMeasure a b => Sys2Proof.Machine.execRingDelayMeasure a b s
  | .ringMemberJoin m => Sys2Proof.Machine.execRingMemberJoin m s
  | .ringDrainCommand m => Sys2Proof.Machine.execRingDrainCommand m s
  | .ringJoinCommand m => Sys2Proof.Machine.execRingJoinCommand m s
  | .ringServiceCommand m => Sys2Proof.Machine.execRingServiceCommand m s
  | .ringCountersClear => Sys2Proof.Machine.execRingCountersClear s
  | .ringJoined m => Sys2Proof.Machine.execRingJoined m s
  | .ringDrainRefused m => Sys2Proof.Machine.execRingDrainRefused m s
  | .stop0Command m => Sys2Proof.Machine.execStop0Command m s
  | .stop1Command m => Sys2Proof.Machine.execStop1Command m s
  | .quickStopCommand m => Sys2Proof.Machine.execQuickStopCommand m s
  | .stop2Command m => Sys2Proof.Machine.execStop2Command m s
  | .stopTimeout m => Sys2Proof.Machine.execStopTimeout m s
  | .eqrRequest m => Sys2Proof.Machine.execEqrRequest m s
  | .eqrInputRequest m => Sys2Proof.Machine.execEqrInputRequest m s
  | .eqrOffCommand m => Sys2Proof.Machine.execEqrOffCommand m s
  | .croEntry m => Sys2Proof.Machine.execCroEntry m s
  | .croExit m => Sys2Proof.Machine.execCroExit m s
  | .slaEntry m => Sys2Proof.Machine.execSlaEntry m s
  | .slackClearCommand m => Sys2Proof.Machine.execSlackClearCommand m s
  | .etOnCommand m => Sys2Proof.Machine.execEtOnCommand m s
  | .etOffCommand m => Sys2Proof.Machine.execEtOffCommand m s
  | .etBudgetExhausted m => Sys2Proof.Machine.execEtBudgetExhausted m s
  | .etFadeEnd m => Sys2Proof.Machine.execEtFadeEnd m s
  | .cmdLossEscalation m => Sys2Proof.Machine.execCmdLossEscalation m s
  | .blackoutDetect m => Sys2Proof.Machine.execBlackoutDetect m s
  | .blackoutRecoveryQualified m => Sys2Proof.Machine.execBlackoutRecoveryQualified m s
  | .blackoutRestart m => Sys2Proof.Machine.execBlackoutRestart m s
  | .blackoutMemoryExpiry m => Sys2Proof.Machine.execBlackoutMemoryExpiry m s
  | .degradeCommand m rank => Sys2Proof.Machine.execDegradeCommand m rank s
  | .isolatorOpen m => Sys2Proof.Machine.execIsolatorOpen m s
  | .isolatorTimeout m => Sys2Proof.Machine.execIsolatorTimeout m s
  | .restoreCommand m => Sys2Proof.Machine.execRestoreCommand m s
  | .comparatorLevel2Trip j high stamp => Sys2Proof.Machine.execComparatorLevel2Trip j high stamp s
  | .comparatorLevel1Crossing j high => Sys2Proof.Machine.execComparatorLevel1Crossing j high s
  | .comparatorReturn j => Sys2Proof.Machine.execComparatorReturn j s
  | .gateStatusDesat g => Sys2Proof.Machine.execGateStatusDesat g s
  | .gateStatusUv g => Sys2Proof.Machine.execGateStatusUv g s
  | .gateTrainReady g freq => Sys2Proof.Machine.execGateTrainReady g freq s
  | .gateTrainInvalid g => Sys2Proof.Machine.execGateTrainInvalid g s
  | .gateEnableWrite n en => Sys2Proof.Machine.execGateEnableWrite n en s
  | .chopperEnableWrite c en => Sys2Proof.Machine.execChopperEnableWrite c en s
  | .shoot n phase a b pattern gap => Sys2Proof.Machine.execShoot n phase a b pattern gap s
  | .faultWindowEnd n => Sys2Proof.Machine.execFaultWindowEnd n s
  | .contactorTimeout n => Sys2Proof.Machine.execContactorTimeout n s
  | .chopperPeriod c => Sys2Proof.Machine.execChopperPeriod c s
  | .chopperForceOn c => Sys2Proof.Machine.execChopperForceOn c s
  | .chopperForceRelease c => Sys2Proof.Machine.execChopperForceRelease c s
  | .selfTestCommand target => Sys2Proof.Machine.execSelfTestCommand target s
  | .selfTestDone fail => Sys2Proof.Machine.execSelfTestDone fail s
  | .protectionCountersClear => Sys2Proof.Machine.execProtectionCountersClear s
  | .garnetCycle g => Sys2Proof.Machine.execGarnetCycle g s
  | .garnetSelfFault => Sys2Proof.Machine.execGarnetSelfFault s
  | .garnetSramScrub bad => Sys2Proof.Machine.execGarnetSramScrub bad s
  | .testPulseFrame tpBad own foreign => Sys2Proof.Machine.execTestPulseFrame tpBad own foreign s
  | .inputPairDemand k => Sys2Proof.Machine.execInputPairDemand k s
  | .inputPairDiscrepancy k => Sys2Proof.Machine.execInputPairDiscrepancy k s
  | .soOffPulse j ok => Sys2Proof.Machine.execSoOffPulse j ok s
  | .sfPosDisc m => Sys2Proof.Machine.execSfPosDisc m s
  | .sfTensDisc m => Sys2Proof.Machine.execSfTensDisc m s
  | .ss1TimeEnd m => Sys2Proof.Machine.execSs1TimeEnd m s
  | .sltStage1 m => Sys2Proof.Machine.execSltStage1 m s
  | .sltStage2 m => Sys2Proof.Machine.execSltStage2 m s
  | .sltStage1Exit m => Sys2Proof.Machine.execSltStage1Exit m s
  | .eqrHoldTimeout m => Sys2Proof.Machine.execEqrHoldTimeout m s
  | .brakeFbCheck m => Sys2Proof.Machine.execBrakeFbCheck m s
  | .safeFrameCopy c portB bytes => Sys2Proof.Machine.execSafeFrameCopy c portB bytes s
  | .safeFrameWindowClose c seq => Sys2Proof.Machine.execSafeFrameWindowClose c seq s
  | .scTimeout c => Sys2Proof.Machine.execScTimeout c s
  | .safeFrameSend => Sys2Proof.Machine.execSafeFrameSend s
  | .safetyAck m => Sys2Proof.Machine.execSafetyAck m s
  | .safetyInputClear => Sys2Proof.Machine.execSafetyInputClear s
  | .safetyOutputClear => Sys2Proof.Machine.execSafetyOutputClear s
  | .safetyCountersClear => Sys2Proof.Machine.execSafetyCountersClear s
  | .safeChange => Sys2Proof.Machine.execSafeChange s
  | .safetyPassword sess pw => Sys2Proof.Machine.execSafetyPassword sess pw s
  | .safetyUnlockExpiry => Sys2Proof.Machine.execSafetyUnlockExpiry s
  | .passwordLockoutEnd => Sys2Proof.Machine.execPasswordLockoutEnd s
  | .safelogArchive sess sigOk index hash actor => Sys2Proof.Machine.execSafelogArchive sess sigOk index hash actor s
  | .sfTestDue m => Sys2Proof.Machine.execSfTestDue m s
  | .fabricPost port f len fence epoch payload => Sys2Proof.Machine.execFabricPost port f len fence epoch payload s
  | .postCreditAvailable f => Sys2Proof.Machine.execPostCreditAvailable f s
  | .fabricPop port f ecc => Sys2Proof.Machine.execFabricPop port f ecc s
  | .fabricRelease port f => Sys2Proof.Machine.execFabricRelease port f s
  | .fenceWritten f => Sys2Proof.Machine.execFenceWritten f s
  | .memoryTransactionIssue req write => Sys2Proof.Machine.execMemoryTransactionIssue req write s
  | .memoryTransactionDone id => Sys2Proof.Machine.execMemoryTransactionDone id s
  | .txnTimeout id => Sys2Proof.Machine.execTxnTimeout id s
  | .migrationBoundary t => Sys2Proof.Machine.execMigrationBoundary t s
  | .flowMigrated t => Sys2Proof.Machine.execFlowMigrated t s
  | .jasperAuditRound upset => Sys2Proof.Machine.execJasperAuditRound upset s
  | .countParityError upset => Sys2Proof.Machine.execCountParityError upset s
  | .flowRebuild f => Sys2Proof.Machine.execFlowRebuild f s
  | .fabricCountersClear => Sys2Proof.Machine.execFabricCountersClear s
  | .hostFlowPost f len fence epoch payload => Sys2Proof.Machine.execHostFlowPost f len fence epoch payload s
  | .hostFlowRead f => Sys2Proof.Machine.execHostFlowRead f s
  | .pcieLinkReset => Sys2Proof.Machine.execPcieLinkReset s
  | .hostFence tok => Sys2Proof.Machine.execHostFence tok s
  | .hostFenceDone => Sys2Proof.Machine.execHostFenceDone s
  | .mailboxSetpoint blk seq mo v => Sys2Proof.Machine.execMailboxSetpoint blk seq mo v s
  | .mailboxCommand blk seq mo bits => Sys2Proof.Machine.execMailboxCommand blk seq mo bits s
  | .mailboxRead blk seq addr count => Sys2Proof.Machine.execMailboxRead blk seq addr count s
  | .mailboxWrite blk seq addr v => Sys2Proof.Machine.execMailboxWrite blk seq addr v s
  | .mailboxOtherType blk seq typ => Sys2Proof.Machine.execMailboxOtherType blk seq typ s
  | .mailboxStatusRefresh => Sys2Proof.Machine.execMailboxStatusRefresh s
  | .deltaSubmit sess p => Sys2Proof.Machine.execDeltaSubmit sess p s
  | .deltaRecordEffect k => Sys2Proof.Machine.execDeltaRecordEffect k s
  | .stashEntryWritten => Sys2Proof.Machine.execStashEntryWritten s
  | .commitDelayExpiry => Sys2Proof.Machine.execCommitDelayExpiry s
  | .commitCommand => Sys2Proof.Machine.execCommitCommand s
  | .commitSnapshotDone => Sys2Proof.Machine.execCommitSnapshotDone s
  | .commitEraseDone => Sys2Proof.Machine.execCommitEraseDone s
  | .commitWriteDone => Sys2Proof.Machine.execCommitWriteDone s
  | .commitReadbackDone ok => Sys2Proof.Machine.execCommitReadbackDone ok s
  | .imageSubmit sess p => Sys2Proof.Machine.execImageSubmit sess p s
  | .shadowStartCommand sl task kind target => Sys2Proof.Machine.execShadowStartCommand sl task kind target s
  | .shadowPrepDone sl => Sys2Proof.Machine.execShadowPrepDone sl s
  | .shadowGoCommand sl => Sys2Proof.Machine.execShadowGoCommand sl s
  | .shadowAbortCommand sl => Sys2Proof.Machine.execShadowAbortCommand sl s
  | .shadowTimeout sl => Sys2Proof.Machine.execShadowTimeout sl s
  | .shadowSwitchBoundary sl => Sys2Proof.Machine.execShadowSwitchBoundary sl s
  | .firmwarePackageSubmit sess p => Sys2Proof.Machine.execFirmwarePackageSubmit sess p s
  | .fwWriteDone ok => Sys2Proof.Machine.execFwWriteDone ok s
  | .fwTrial => Sys2Proof.Machine.execFwTrial s
  | .fwTrialStartTimeout => Sys2Proof.Machine.execFwTrialStartTimeout s
  | .fwProbationEnd => Sys2Proof.Machine.execFwProbationEnd s
  | .fwRevertCommand => Sys2Proof.Machine.execFwRevertCommand s
  | .availabilityStep => Sys2Proof.Machine.execAvailabilityStep s
  | .avSnapshot => Sys2Proof.Machine.execAvSnapshot s
  | .availabilityClear => Sys2Proof.Machine.execAvailabilityClear s
  | .ethFrameReceived p f full => Sys2Proof.Machine.execEthFrameReceived p f full s
  | .ethLinkChange p up half speed => Sys2Proof.Machine.execEthLinkChange p up half speed s
  | .gclEntryEnd p => Sys2Proof.Machine.execGclEntryEnd p s
  | .prpSupervisionSend => Sys2Proof.Machine.execPrpSupervisionSend s
  | .prpLanTimeout k lanB => Sys2Proof.Machine.execPrpLanTimeout k lanB s
  | .asSyncSend => Sys2Proof.Machine.execAsSyncSend s
  | .asPdelaySend => Sys2Proof.Machine.execAsPdelaySend s
  | .asSyncTimeout => Sys2Proof.Machine.execAsSyncTimeout s
  | .macEntryAging => Sys2Proof.Machine.execMacEntryAging s
  | .ethCountersClear => Sys2Proof.Machine.execEthCountersClear s
  | .deviceTimeWrap => Sys2Proof.Machine.execDeviceTimeWrap s
  | .canFrameReceived c f sofAgo endAgo => Sys2Proof.Machine.execCanFrameReceived c f sofAgo endAgo s
  | .canReceiveError c err dataPhase recN => Sys2Proof.Machine.execCanReceiveError c err dataPhase recN s
  | .canTxSubmit c host => Sys2Proof.Machine.execCanTxSubmit c host s
  | .canTxAttemptEnd c r dataPhase stamp => Sys2Proof.Machine.execCanTxAttemptEnd c r dataPhase stamp s
  | .canTxCancel c tag => Sys2Proof.Machine.execCanTxCancel c tag s
  | .canFlush c => Sys2Proof.Machine.execCanFlush c s
  | .canRecover c => Sys2Proof.Machine.execCanRecover c s
  | .canBusoffRecovered c => Sys2Proof.Machine.execCanBusoffRecovered c s
  | .canCountersClear c => Sys2Proof.Machine.execCanCountersClear c s
  | .txDonePop c => Sys2Proof.Machine.execTxDonePop c s
  | .rxQueuePop c q => Sys2Proof.Machine.execRxQueuePop c q s
  | .canTsWrap => Sys2Proof.Machine.execCanTsWrap s
  | .canReconfigure c => Sys2Proof.Machine.execCanReconfigure c s
  | .secnonceRead acc => Sys2Proof.Machine.execSecnonceRead acc s
  | .nonceExpiry => Sys2Proof.Machine.execNonceExpiry s
  | .enrolSubmit st => Sys2Proof.Machine.execEnrolSubmit st s
  | .releaseSubmit st => Sys2Proof.Machine.execReleaseSubmit st s
  | .releaseLapse => Sys2Proof.Machine.execReleaseLapse s
  | .provgenCommand => Sys2Proof.Machine.execProvgenCommand s
  | .provcertSubmit ok => Sys2Proof.Machine.execProvcertSubmit ok s
  | .fwminCommand sess => Sys2Proof.Machine.execFwminCommand sess s
  | .debugTokenWrite t => Sys2Proof.Machine.execDebugTokenWrite t s
  | .debugLockCommand => Sys2Proof.Machine.execDebugLockCommand s
  | .debugUnlockExpiry => Sys2Proof.Machine.execDebugUnlockExpiry s
  | .tamperTrip x => Sys2Proof.Machine.execTamperTrip x s
  | .zepochCellBlown => Sys2Proof.Machine.execZepochCellBlown s
  | .zeroiseNvmErased => Sys2Proof.Machine.execZeroiseNvmErased s
  | .tlsHandshake addr alert => Sys2Proof.Machine.execTlsHandshake addr alert s
  | .tlsKeyUpdate sess => Sys2Proof.Machine.execTlsKeyUpdate sess s
  | .tlsSessionExpiry sess => Sys2Proof.Machine.execTlsSessionExpiry sess s
  | .onyxRngFail => Sys2Proof.Machine.execOnyxRngFail s
  | .drbgReseed => Sys2Proof.Machine.execDrbgReseed s
  | .captureArm k => Sys2Proof.Machine.execCaptureArm k s
  | .captureSoftwareTrigger k => Sys2Proof.Machine.execCaptureSoftwareTrigger k s
  | .captureStop k => Sys2Proof.Machine.execCaptureStop k s
  | .registerWrite acc addr size v => Sys2Proof.Machine.execRegisterWrite acc addr size v s
  | .pllRelock p => Sys2Proof.Machine.execPllRelock p s
  | .ircQualifyFail => Sys2Proof.Machine.execIrcQualifyFail s
  | .onyxRngRecovered => Sys2Proof.Machine.execOnyxRngRecovered s
  | .tlsSessionClose sess => Sys2Proof.Machine.execTlsSessionClose sess s

end Sys2Proof.Machine
end

