-- ==== Sys2Proof/Machine/Time.lean ====
section
/-! DEFINITION. The passing of time while no command waits: one event quantum of 50 ns (chapter 00, R378, R320). -/

namespace Sys2Proof.Machine

/-- The event quantum of the fast plane in nanoseconds. -/
def tickNs : Nat := 50

/-- One quantum passes (log 113): the module's own time and the LPO counter of the VBAT domain go on; from the end of S3 device time
does too, at its corrected rate in ppm, whole nanoseconds and a fraction (R327, R378). -/
def State.tick (s : State) : State :=
  let t : Rat := s.devFrac + tickNs * (1 + s.time.rate / 1000000)
  let runs : Bool := decide (4 ≤ s.rst.stage) && !s.rst.held
  { s with
    up := s.up + tickNs
    vbat := s.vbat.advance tickNs
    dev := if runs then s.dev + BitVec.ofInt 64 t.floor else s.dev
    devFrac := if runs then t - t.floor else s.devFrac }

end Sys2Proof.Machine
end

