-- ==== Sys2Proof/Machine/Tap.lean ====
section
/-! DEFINITION. The test access port of the debug pins (R441). A tester outside the module drives TCK, TMS, TDI and TRSTn, and no command of
the table stands for an edge on them: what an edge does is said here, and every module reset returns the port to Test-Logic-Reset by
`State.afterReset` (log 135). -/

namespace Sys2Proof.Machine

/-- The controller of IEEE 1149.1 at a rising edge of TCK. -/
def TapState.next : TapState → Bool → TapState
  | .testLogicReset, t => if t then .testLogicReset else .runTestIdle
  | .runTestIdle, t | .updateDr, t | .updateIr, t => if t then .selectDr else .runTestIdle
  | .selectDr, t => if t then .selectIr else .captureDr
  | .captureDr, t | .shiftDr, t => if t then .exit1Dr else .shiftDr
  | .exit1Dr, t => if t then .updateDr else .pauseDr
  | .pauseDr, t => if t then .exit2Dr else .pauseDr
  | .exit2Dr, t => if t then .updateDr else .shiftDr
  | .selectIr, t => if t then .testLogicReset else .captureIr
  | .captureIr, t | .shiftIr, t => if t then .exit1Ir else .shiftIr
  | .exit1Ir, t => if t then .updateIr else .pauseIr
  | .pauseIr, t => if t then .exit2Ir else .pauseIr
  | .exit2Ir, t => if t then .updateIr else .shiftIr

/-- The instruction that acts: SAMPLE and EXTEST act as BYPASS without a debug unlock of SCOPE bit 0 in force (R411, R441). -/
def State.tapActs (s : State) : TapInstr :=
  match s.tap.instr with
  | .sample | .extest => if s.onyx.dbg.any fun d => d.1 then s.tap.instr else .bypass
  | i => i

/-- A rising edge of TCK, with TMS, TDI and the instruction whose code stands in the shift stage. -/
def State.tapClock (s : State) (tms tdi : Bool) (shifted : TapInstr) : State :=
  let st := s.tap.state.next tms
  { s with tap := {
      state := st
      instr := match st with | .testLogicReset => .idcode | .updateIr => shifted | _ => s.tap.instr
      bypass := match s.tap.state with | .captureDr => false | .shiftDr => tdi | _ => s.tap.bypass } }

/-- TRSTn is low: the port is in Test-Logic-Reset. -/
def State.tapReset (s : State) : State := { s with tap := .reset }

/-- The groups of output balls that R441 names, and the rest. -/
inductive BallGroup where
  | gc | ch | soh | sol | tpdrv | ax | other
deriving DecidableEq, Repr

/-- A group is part of the boundary-scan chain. -/
def BallGroup.inChain (b : BallGroup) : Bool := b == .other

/-- A scan drives the balls of a group: EXTEST acts, and they are in the chain. -/
def State.scanDrives (s : State) (b : BallGroup) : Bool := s.tapActs == .extest && b.inChain

end Sys2Proof.Machine
end

