-- ==== Sys2Proof/Safety.lean ====
section
/-! DEFINITION. What claims say of runs: that a command is carried out and what then holds, that an event is on record, that a
reaction is requested, and the safe condition of the outputs. -/

namespace Sys2Proof.Machine

/-- The command is carried out: `exec` answers a next state, and that state has the property. -/
def Runs (c : Instr) (s : State) (P : State → Prop) : Prop := ∃ t, exec c s = .next t ∧ P t

/-- A step answers a next state: no fault, no refusal. -/
def Goes (s : State) : Prop := ∃ t, step s = .next t

/-- An entry is with the recorder: held until it runs, waiting for its grid point to close, or in its ring (R304, R464). -/
def State.keeps (t : State) (e : Entry) : Prop := e ∈ t.recd.held ∨ e ∈ t.recd.open_ ∨ ∃ i, (i, e) ∈ t.recd.ring

/-- The event is on record in `t`, stamped with the time of `s`; where the recorder runs and its ring is within 64 entries of full, an
event that is stored at once may be lost (R20). -/
def Logged (s t : State) (ev : Ev) (unit : Nat := 0xFF) (aux : Nat := 0) (data : List Byte := []) : Prop :=
  (s.recd.on = true → (s.entry ev unit aux data).late = true → s.recd.ring.length + 64 ≤ ringMax) →
    t.keeps (s.entry ev unit aux data)

/-- A reaction that is present is requested of a motor object for an event, as hard as given or harder (R15). -/
def State.asked (t : State) (m : Fin 4) (ev : Ev) (unit : Nat) (sev : Reaction) : Prop :=
  ∃ r ∈ t.reacts[m], r.cause = some ev ∧ r.unit = unit ∧ sev.rank ≤ r.sev.rank ∧ r.present = true

/-- Every gate channel is at its off level: each bridge is in pulse block (R228, R323). -/
def State.gatesOffAll (s : State) : Prop := ∀ n : Fin 8, s.br[n].form = .pblk

/-- No bridge and no chopper is enabled in `GATEEN`, no chopper is on, and every safety output is off (R323, R328). -/
def State.outputsOff (s : State) : Prop :=
  (∀ n : Fin 8, s.br[n].enabled = false) ∧ (∀ c : Fin 4, s.chop[c].enabled = false ∧ s.chop[c].on = false) ∧
    ∀ j : Fin 8, s.garnet.so[j].on = false

/-- The module is in the condition of reset (R323): gates, choppers, safety outputs off, and Garnet stopped. -/
def State.resetSafe (s : State) : Prop := s.gatesOffAll ∧ s.outputsOff ∧ s.garnet.run = false

/-- A flow is in balance: its counts are those of the items it holds, and their sum is DEPTH (R5, R281). -/
def Flow.balanced (f : Flow) : Prop :=
  f.buf = entries f.items ∧ f.infl = entries f.ingress + (match f.held with | some i => i.len | none => 0) ∧ f.law

/-- The parts that a reaction, its end, or what follows from them may change (R15, R77, R107, R136, R203, R230), taken from `t`. -/
def State.settledFrom (s t : State) : State :=
  { s with
    pwm := t.pwm, loops := t.loops, start := t.start, outer := t.outer, brake := t.brake, axes := t.axes, shock := t.shock
    heave := t.heave, ring := t.ring, em := t.em, reacts := t.reacts, br := t.br, recd := t.recd, img := t.img
    shadow := t.shadow, cap := t.cap }

/-- The state in which the mailbox has seen this SEQ of a block (R296). -/
def State.seen (s : State) (blk : Nat) (seq : Word) : State :=
  { s with fab := { s.fab with mbox := { s.fab.mbox with
      lastSeq := (blk, seq) :: s.fab.mbox.lastSeq.filter fun x => x.1 != blk } } }

/-- The queues of a CAN controller are within their sizes (R389, R393). -/
def Can.bounded (x : Can) : Prop :=
  x.rx0.length ≤ 64 ∧ x.rx1.length ≤ 64 ∧ x.tx.length ≤ 32 ∧ x.done.length ≤ 32

/-- The canonical form of the mailbox image: offsets strictly rising, and no byte equal to what an unlisted offset reads as. -/
def imageWf (l : List (Nat × Byte)) : Bool :=
  decide ((l.map Prod.fst).Pairwise (· < ·)) && l.all fun x => x.2 != 0

/-- Every store of the module is within its size: the recorder's ring (R20), the journal's next slot (R331), the load report (R341),
the safety log (R274), the MAC table (R370), the CAN queues (R389, R393), the zeroise epoch and the sessions (R402, R409), and the
mailbox image keeps its canonical form. -/
structure State.Bounded (s : State) : Prop where
  ring     : s.recd.ring.length ≤ ringMax
  journal  : s.jrn.wpos < jrnSlots
  report   : s.img.report.length ≤ reportMax
  safeLog  : s.slog.entries.length ≤ slogMax
  mac      : s.eth.mac.length ≤ 4096
  can      : ∀ c : Fin 4, s.can[c].bounded
  epoch    : s.onyx.zepoch ≤ 64
  sessions : s.onyx.sessions.length ≤ 8
  image    : imageWf s.fab.mbox.image = true

end Sys2Proof.Machine
end

