-- ==== Sys2Proof/Certificates/Slice0/Obligations.lean ====
section
/-! DEFINITION. The statements for the provers: what every command does, where it completes, what it leaves unchanged, and what every
step keeps. `Runs`, `Logged` and the other words of these statements are those of `Sys2Proof.Safety`. -/

open Sys2Proof Sys2Proof.Machine

/-! ## Queue and whole machine -/

/-- Model structure: a step takes the command at the front of the queue and runs it on the state with the queue's rest. -/
def Obligations.StepRunsFront : Prop :=
  ∀ (c : Instr) (rest : List Instr) (s : State), s.pending = c :: rest → step s = exec c { s with pending := rest }

/-- The model's own choice (log 113): with no command waiting, one quantum of 50 ns passes; the LPO counter of the VBAT domain goes on,
device time goes on from S4 while PORn is released, and nothing else changes. -/
def Obligations.IdleStepPassesQuantum : Prop :=
  ∀ s : State, s.pending = [] → ∃ t, step s = .next t ∧ t.up = s.up + 50 ∧ s.vbat.lpo ≤ t.vbat.lpo ∧
    ((s.rst.stage < 4 ∨ s.rst.held = true) → t.dev = s.dev ∧ t.devFrac = s.devFrac) ∧
    (4 ≤ s.rst.stage → s.rst.held = false → s.time.rate = 0 → s.devFrac = 0 → t.dev = s.dev + 50 ∧ t.devFrac = 0) ∧
    t = { s with up := t.up, vbat := t.vbat, dev := t.dev, devFrac := t.devFrac }

/-- Commands are carried out first in, first out: a step takes the front of the queue, and no command's effect adds, removes or reorders
a waiting one. -/
def Obligations.QueueKeepsOrder : Prop :=
  (∀ (c : Instr) (rest : List Instr) (s t : State), s.pending = c :: rest → step s = .next t → t.pending = rest) ∧
  (∀ s t : State, s.pending = [] → step s = .next t → t.pending = []) ∧
  ∀ (c : Instr) (s : State), ∃ t, exec c s = .next t ∧ t.pending = s.pending

/-- The Reset columns of the register tables, read through the register bus in the state right after reset, and the condition of reset
of R323: gates, choppers and safety outputs off and Garnet stopped; every store is within its size. Values that the register tables do
not give are not stated here. -/
def Obligations.ResetValues : Prop :=
  State.reset.resetSafe ∧ State.reset.rst.stage = 0 ∧ State.reset.recd.ring = [] ∧ State.reset.jrn.slots = [] ∧
  State.reset.readWord 0x000 = 0x72404E01 ∧ State.reset.readWord 0x020 = 0x30 ∧
  (∀ m : Fin 4, State.reset.readWord (0x030 + 4 * m.1) = 0x100800 ∧ State.reset.readWord (0x50300 + 0x1000 * m.1) = 1) ∧
  (∀ c : Fin 9, State.reset.readWord (0x30004 + 0x1000 * c.1) = 0x700) ∧
  (∀ (c : Fin 8) (e : Fin 4), State.reset.readWord (0x30300 + 0x1000 * c.1 + 0x40 * e.1) = 0xFFFF0007) ∧
  (∀ x : Fin 8, State.reset.readWord (0x60000 + 0x100 * x.1) = 0x20) ∧ State.reset.readWord 0x80000 = 0xC00 ∧
  (∀ j : Fin 8, State.reset.readWord (0x90200 + 4 * j.1) = 1 ∧ State.reset.readWord (0x90240 + 4 * j.1) = 4) ∧
  State.reset.readWord 0x20008 = 0x10000 ∧ (∀ f : Fin 256, State.reset.readWord (0x21000 + 0x20 * f.1) = 0x3FFFF000) ∧
  State.reset.readWord 0x10008 = 0x3FE00 ∧ State.reset.readWord 0xA0000 = 0xF2 ∧
  (∀ c : Fin 4, State.reset.readWord (0xB0000 + 0x1000 * c.1) = 0xC) ∧ State.reset.Bounded

/-- The stores of the module stay within their sizes through every step: the recorder's ring (R20), the journal (R331), the load report
(R341), the safety log (R274), the MAC table (R370), the CAN queues (R389, R393), the ZEPOCH count (R402) and the sessions (R409); and
the mailbox image keeps its canonical form. -/
def Obligations.StoresStayBounded : Prop :=
  ∀ s t : State, s.Bounded → step s = .next t → t.Bounded

/-- Commands of the drive, its protection, its emergency functions, its ring and its safety functions change the parts of the machine
named here and no other. The flash, the journal, the keys, the network and the waiting commands stand. -/
def Obligations.DriveCommandsLeaveTheRestAlone : Prop :=
  (∀ (n : Fin 8) (pos : Vector PosRaw 8) (s t : State), exec (.carrierTurningPoint n pos) s = .next t → t = { s.settledFrom t with
      cells := t.cells, hk := t.hk, posIf := t.posIf, cmd := t.cmd, chan := t.chan, wind := t.wind, fab := t.fab }) ∧
  (∀ (n : Fin 8) (s t : State), exec (.currentLoopTaskStart n) s = .next t → t = { s.settledFrom t with
      given := t.given, used := t.used, unarmedF := t.unarmedF, cmd := t.cmd, mapBad := t.mapBad, badChk := t.badChk, fab := t.fab }) ∧
  (∀ (n : Fin 8) (s t : State), exec (.npUnbal n) s = .next t → t = s.settledFrom t) ∧
  (∀ (m : Fin 4) (s t : State), exec (.circHigh m) s = .next t → t = s.settledFrom t) ∧
  (∀ (k : Fin 8) (s t : State), exec (.piLineBreak k) s = .next t → t = { s.settledFrom t with posIf := t.posIf }) ∧
  (∀ (k : Fin 8) (count : Nat) (s t : State), exec (.piIllegalTransitions k count) s = .next t → t = { s.settledFrom t with
      posIf := t.posIf }) ∧
  (∀ (k : Fin 8) (s t : State), exec (.excFault k) s = .next t → t = { s.settledFrom t with posIf := t.posIf }) ∧
  (∀ (k : Fin 8) (s t : State), exec (.piErrorClear k) s = .next t → t = { s.settledFrom t with posIf := t.posIf }) ∧
  (∀ (m : Fin 4) (s t : State), exec (.measureDecision m) s = .next t → t = { s with
      posIf := t.posIf, start := t.start, cmd := t.cmd, outer := t.outer, brake := t.brake, moGen := t.moGen, br := t.br, recd := t.recd,
      cap := t.cap }) ∧
  (∀ (m : Fin 4) (plus : Rat) (minus : Rat) (s t : State), exec (.hfiPolarityDone m plus minus) s = .next t → t = { s with
      pwm := t.pwm, loops := t.loops, posIf := t.posIf, start := t.start, cmd := t.cmd, outer := t.outer, brake := t.brake,
      moGen := t.moGen, br := t.br, recd := t.recd, cap := t.cap }) ∧
  (∀ (m : Fin 4) (s t : State), exec (.hfiNoconvTimeout m) s = .next t → t = { s with
      pwm := t.pwm, loops := t.loops, start := t.start, br := t.br, recd := t.recd, cap := t.cap }) ∧
  (∀ (m : Fin 4) (s t : State), exec (.obsNolockTimeout m) s = .next t → t = { s with
      pwm := t.pwm, loops := t.loops, start := t.start, br := t.br, recd := t.recd, cap := t.cap }) ∧
  (∀ (m : Fin 4) (s t : State), exec (.searchLost m) s = .next t → t = { s with
      pwm := t.pwm, loops := t.loops, start := t.start, br := t.br, recd := t.recd, cap := t.cap }) ∧
  (∀ (m : Fin 4) (s t : State), exec (.outerLoopPeriod m) s = .next t → t = { s.settledFrom t with
      given := t.given, used := t.used, unarmedF := t.unarmedF, cmd := t.cmd, mapBad := t.mapBad, badChk := t.badChk, moGen := t.moGen,
      fab := t.fab }) ∧
  (∀ (m : Fin 4) (s t : State), exec (.faultClearCommand m) s = .next t → t = { s.settledFrom t with
      chan := t.chan, cmp := t.cmp, chop := t.chop }) ∧
  (∀ (k : Fin 8) (s t : State), exec (.axisClear k) s = .next t → t = { s with axes := t.axes, recd := t.recd, cap := t.cap }) ∧
  (∀ (k : Fin 8) (s t : State), exec (.axisStandstillDelayEnd k) s = .next t → t = { s with
      axes := t.axes, recd := t.recd, cap := t.cap }) ∧
  (∀ (k : Fin 8) (s t : State), exec (.axDrvFault k) s = .next t → t = { s with axes := t.axes, recd := t.recd, cap := t.cap }) ∧
  (∀ (k : Fin 8) (s t : State), exec (.lwFollow k) s = .next t → t = s.settledFrom t) ∧
  (∀ (m : Fin 4) (s t : State), exec (.renderOverload m) s = .next t → t = { s with
      shock := t.shock, heave := t.heave, em := t.em, recd := t.recd, cap := t.cap }) ∧
  (∀ (s t : State), exec .ringArrivalDeadline s = .next t → t = s.settledFrom t) ∧
  (∀ (s t : State), exec .ringCycleBoundary s = .next t → t = { s.settledFrom t with
      dev := t.dev, cmd := t.cmd, chop := t.chop, garnet := t.garnet, fab := t.fab, rst := t.rst, com := t.com, fw := t.fw, eth := t.eth,
      onyx := t.onyx }) ∧
  (∀ (s t : State), exec .quorumRestored s = .next t → t = s.settledFrom t) ∧
  (∀ (m : Fin 4) (s t : State), exec (.stop0Command m) s = .next t → t = { s.settledFrom t with av := t.av }) ∧
  (∀ (m : Fin 4) (s t : State), exec (.stop1Command m) s = .next t → t = { s with
      pwm := t.pwm, loops := t.loops, start := t.start, outer := t.outer, brake := t.brake, shock := t.shock, heave := t.heave,
      ring := t.ring, em := t.em, br := t.br, recd := t.recd, av := t.av, cap := t.cap }) ∧
  (∀ (m : Fin 4) (s t : State), exec (.quickStopCommand m) s = .next t → t = { s with
      pwm := t.pwm, loops := t.loops, start := t.start, outer := t.outer, brake := t.brake, shock := t.shock, heave := t.heave,
      ring := t.ring, em := t.em, br := t.br, recd := t.recd, av := t.av, cap := t.cap }) ∧
  (∀ (m : Fin 4) (s t : State), exec (.stop2Command m) s = .next t → t = { s with
      pwm := t.pwm, loops := t.loops, start := t.start, outer := t.outer, brake := t.brake, shock := t.shock, heave := t.heave,
      ring := t.ring, em := t.em, br := t.br, recd := t.recd, av := t.av, cap := t.cap }) ∧
  (∀ (m : Fin 4) (s t : State), exec (.stopTimeout m) s = .next t → t = s.settledFrom t) ∧
  (∀ (m : Fin 4) (s t : State), exec (.eqrInputRequest m) s = .next t → t = { s with
      start := t.start, brake := t.brake, shock := t.shock, heave := t.heave, em := t.em, recd := t.recd, cap := t.cap }) ∧
  (∀ (m : Fin 4) (s t : State), exec (.croEntry m) s = .next t → t = { s with
      shock := t.shock, heave := t.heave, em := t.em, recd := t.recd, cap := t.cap }) ∧
  (∀ (m : Fin 4) (s t : State), exec (.croExit m) s = .next t → t = { s with
      cmd := t.cmd, moGen := t.moGen, shock := t.shock, heave := t.heave, em := t.em, recd := t.recd, cap := t.cap }) ∧
  (∀ (m : Fin 4) (s t : State), exec (.blackoutDetect m) s = .next t → t = s.settledFrom t) ∧
  (∀ (m : Fin 4) (s t : State), exec (.blackoutRecoveryQualified m) s = .next t → t = s.settledFrom t) ∧
  (∀ (m : Fin 4) (s t : State), exec (.blackoutRestart m) s = .next t → t = s.settledFrom t) ∧
  (∀ (m : Fin 4) (s t : State), exec (.isolatorOpen m) s = .next t → t = s.settledFrom t) ∧
  (∀ (m : Fin 4) (s t : State), exec (.isolatorTimeout m) s = .next t → t = s.settledFrom t) ∧
  (∀ (i : Fin 96) (high : Bool) (stamp : BitVec 64) (s t : State), exec (.comparatorLevel2Trip i high stamp) s = .next t → t = {
    s.settledFrom t with
      cmp := t.cmp }) ∧
  (∀ (i : Fin 96) (s t : State), exec (.comparatorReturn i) s = .next t → t = { s.settledFrom t with
      chan := t.chan, cmp := t.cmp, chop := t.chop }) ∧
  (∀ (g : Fin 52) (s t : State), exec (.gateStatusDesat g) s = .next t → t = { s.settledFrom t with chan := t.chan, chop := t.chop }) ∧
  (∀ (g : Fin 52) (s t : State), exec (.gateStatusUv g) s = .next t → t = { s.settledFrom t with chan := t.chan, chop := t.chop }) ∧
  (∀ (g : Fin 52) (freq : Rat) (s t : State), exec (.gateTrainReady g freq) s = .next t → t = { s.settledFrom t with chan := t.chan }) ∧
  (∀ (n : Fin 8) (phase : Fin 3) (a : Fin 12) (b : Fin 12) (pattern : BitVec 12) (gap : Bool) (s t : State), exec (.shoot n phase a b
    pattern gap) s = .next t → t = s.settledFrom t) ∧
  (∀ (n : Fin 8) (s t : State), exec (.faultWindowEnd n) s = .next t → t = s.settledFrom t) ∧
  (∀ (c : Fin 4) (s t : State), exec (.chopperPeriod c) s = .next t → t = { s.settledFrom t with chop := t.chop }) ∧
  (∀ (s t : State), exec .garnetSelfFault s = .next t → t = { s.settledFrom t with garnet := t.garnet }) ∧
  (∀ (bad : Bool) (s t : State), exec (.garnetSramScrub bad) s = .next t → t = { s.settledFrom t with garnet := t.garnet }) ∧
  (∀ (m : Fin 4) (s t : State), exec (.sfPosDisc m) s = .next t → t = { s.settledFrom t with garnet := t.garnet }) ∧
  (∀ (m : Fin 4) (s t : State), exec (.sfTensDisc m) s = .next t → t = { s.settledFrom t with garnet := t.garnet }) ∧
  (∀ (m : Fin 4) (s t : State), exec (.ss1TimeEnd m) s = .next t → t = { s.settledFrom t with garnet := t.garnet }) ∧
  (∀ (m : Fin 4) (s t : State), exec (.sltStage2 m) s = .next t → t = { s.settledFrom t with garnet := t.garnet }) ∧
  (∀ (m : Fin 4) (s t : State), exec (.safetyAck m) s = .next t → t = { s.settledFrom t with garnet := t.garnet })

/-- Commands of start-up, clocks, management, configuration, the host and the networks change the parts of the machine named here and no
other. -/
def Obligations.ModuleCommandsLeaveTheRestAlone : Prop :=
  (∀ (s t : State), exec .srstnPulse s = .next t → t = { s with
      axes := t.axes, br := t.br, chop := t.chop, garnet := t.garnet, rst := t.rst, recd := t.recd, av := t.av, cap := t.cap }) ∧
  (∀ (s t : State), exec .lpoQualifyTimeout s = .next t → t = { s with clk := t.clk, rst := t.rst, recd := t.recd, cap := t.cap }) ∧
  (∀ (irc : Nat) (inTime : Bool) (s t : State), exec (.xinAttemptEnd irc inTime) s = .next t → t = { s with
      clk := t.clk, rst := t.rst, recd := t.recd, cap := t.cap }) ∧
  (∀ (locked : BitVec 5) (trim : Int) (s t : State), exec (.pllLockDone locked trim) s = .next t → t = { s with
      dev := t.dev, devFrac := t.devFrac, clk := t.clk, rst := t.rst, vbat := t.vbat, recd := t.recd, cap := t.cap }) ∧
  (∀ (readA : Bool) (readB : Bool) (s t : State), exec (.imageLoadDone readA readB) s = .next t → t = { s with
      rst := t.rst, recd := t.recd, img := t.img, cap := t.cap }) ∧
  (∀ (s t : State), exec .s6Done s = .next t → t = { s with
      free := t.free, given := t.given, used := t.used, unarmedF := t.unarmedF, cells := t.cells, hk := t.hk, pwm := t.pwm,
      loops := t.loops, posIf := t.posIf, mapBad := t.mapBad, badChk := t.badChk, ring := t.ring, chan := t.chan, br := t.br,
      chop := t.chop, slog := t.slog, fab := t.fab, rst := t.rst, recd := t.recd, img := t.img, cap := t.cap, eth := t.eth, can := t.can,
      onyx := t.onyx }) ∧
  (∀ (s t : State), exec .s7Done s = .next t → t = { s with garnet := t.garnet, rst := t.rst }) ∧
  (∀ (garnetOk : Bool) (tpBad : BitVec 8) (soBadH : BitVec 8) (soBadL : BitVec 8) (brOk : BitVec 8) (chOk : BitVec 4) (failItem : Nat) (s
    t : State), exec (.s8Done garnetOk tpBad soBadH soBadL brOk chOk failItem) s = .next t → t = { s.settledFrom t with
      armed := t.armed, chan := t.chan, cmp := t.cmp, chop := t.chop, stest := t.stest, garnet := t.garnet, rst := t.rst }) ∧
  (∀ (s t : State), exec .s9Entry s = .next t → t = { s.settledFrom t with
      free := t.free, cmd := t.cmd, armed := t.armed, garnet := t.garnet, rst := t.rst, nor := t.nor, com := t.com, av := t.av }) ∧
  (∀ (p : Fin 4) (s t : State), exec (.pllUnlock p) s = .next t → t = { s.settledFrom t with
      garnet := t.garnet, clk := t.clk, rst := t.rst, com := t.com, fw := t.fw, onyx := t.onyx }) ∧
  (∀ (s t : State), exec .analogClockLoss s = .next t → t = { s.settledFrom t with clk := t.clk }) ∧
  (∀ (s t : State), exec .managementRestart s = .next t → t = { s with
      garnet := t.garnet, rst := t.rst, recd := t.recd, img := t.img, com := t.com, shadow := t.shadow, fw := t.fw, cap := t.cap,
      onyx := t.onyx }) ∧
  (∀ (s t : State), exec .managementRestartDone s = .next t → t = { s with
      cells := t.cells, fab := t.fab, rst := t.rst, recd := t.recd, nor := t.nor, com := t.com, fw := t.fw, cap := t.cap }) ∧
  (∀ (s t : State), exec .managementSliceEnd s = .next t → t = { s.settledFrom t with
      given := t.given, used := t.used, unarmedF := t.unarmedF, cells := t.cells, hk := t.hk, posIf := t.posIf, armed := t.armed,
      mapBad := t.mapBad, badChk := t.badChk, moGen := t.moGen, chan := t.chan, chop := t.chop, fab := t.fab, fw := t.fw, eth := t.eth,
      can := t.can, onyx := t.onyx }) ∧
  (∀ (c : Fin 9) (s t : State), exec (.refReady c) s = .next t → t = { s with
      cells := t.cells, hk := t.hk, recd := t.recd, cap := t.cap }) ∧
  (∀ (c : Fin 9) (offs : Vector Int 5) (gains : Vector Rat 5) (mis : Vector (Vector Int 6) 5) (s t : State), exec (.fullCalibrationDone c
    offs gains mis) s = .next t → t = { s.settledFrom t with
      cells := t.cells, hk := t.hk, armed := t.armed }) ∧
  (∀ (s t : State), exec .dieShutdownRecordDone s = .next t → t = { s with
      axes := t.axes, br := t.br, chop := t.chop, die := t.die, garnet := t.garnet, rst := t.rst, recd := t.recd, jrn := t.jrn,
      nor := t.nor, cap := t.cap }) ∧
  (∀ (s t : State), exec .safeChange s = .next t → t = { s.settledFrom t with
      given := t.given, used := t.used, unarmedF := t.unarmedF, cells := t.cells, hk := t.hk, posIf := t.posIf, armed := t.armed,
      mapBad := t.mapBad, badChk := t.badChk, moGen := t.moGen, chan := t.chan, chop := t.chop, fab := t.fab, fw := t.fw, eth := t.eth,
      can := t.can, onyx := t.onyx }) ∧
  (∀ (sess : Nat) (sigOk : Bool) (index : Nat) (hash : List Byte) (actor : List Byte) (s t : State), exec (.safelogArchive sess sigOk
    index hash actor) s = .next t → t = { s with
      free := t.free, slog := t.slog, recd := t.recd, nor := t.nor, com := t.com, cap := t.cap }) ∧
  (∀ (k : Fin 28) (s t : State), exec (.flowMigrated k) s = .next t → t = { s with
      fab := t.fab, recd := t.recd, shadow := t.shadow, cap := t.cap }) ∧
  (∀ (upset : Option FlowUpset) (s t : State), exec (.jasperAuditRound upset) s = .next t → t = { s.settledFrom t with
      garnet := t.garnet, fab := t.fab, rst := t.rst, com := t.com, fw := t.fw, onyx := t.onyx }) ∧
  (∀ (upset : FlowUpset) (s t : State), exec (.countParityError upset) s = .next t → t = { s.settledFrom t with
      garnet := t.garnet, fab := t.fab, rst := t.rst, com := t.com, fw := t.fw, onyx := t.onyx }) ∧
  (∀ (f : Fin 256) (len : Fin 4) (fence : Bool) (epoch : BitVec 8) (payload : List Byte) (s t : State), exec (.hostFlowPost f len fence
    epoch payload) s = .next t → t = { s with
      fab := t.fab }) ∧
  (∀ (f : Fin 256) (s t : State), exec (.hostFlowRead f) s = .next t → t = { s with fab := t.fab, shadow := t.shadow }) ∧
  (∀ (s t : State), exec .hostFenceDone s = .next t → t = { s with fab := t.fab, shadow := t.shadow }) ∧
  (∀ (blk : BitVec 16) (seq : Word) (mo : Byte) (v : Word) (s t : State), exec (.mailboxSetpoint blk seq mo v) s = .next t → t = { s with
      free := t.free, cmd := t.cmd, fab := t.fab, recd := t.recd, cap := t.cap }) ∧
  (∀ (blk : BitVec 16) (seq : Word) (mo : Byte) (bits : Byte) (s t : State), exec (.mailboxCommand blk seq mo bits) s = .next t → t = {
    s.settledFrom t with
      free := t.free, cmd := t.cmd, armed := t.armed, disarmed := t.disarmed, moGen := t.moGen, chan := t.chan, cmp := t.cmp,
      chop := t.chop, fab := t.fab, av := t.av }) ∧
  (∀ (blk : BitVec 16) (seq : Word) (addr : Word) (v : Word) (s t : State), exec (.mailboxWrite blk seq addr v) s = .next t → t = {
    s.settledFrom t with
      free := t.free, given := t.given, used := t.used, unarmedF := t.unarmedF, cells := t.cells, hk := t.hk, posIf := t.posIf,
      spc := t.spc, cmd := t.cmd, armed := t.armed, disarmed := t.disarmed, mapBad := t.mapBad, badChk := t.badChk, moGen := t.moGen,
      chan := t.chan, cmp := t.cmp, chop := t.chop, stest := t.stest, garnet := t.garnet, fab := t.fab, clk := t.clk, rst := t.rst,
      jwBase := t.jwBase, nor := t.nor, com := t.com, fw := t.fw, av := t.av, eth := t.eth, can := t.can, onyx := t.onyx }) ∧
  (∀ (k : Nat) (s t : State), exec (.deltaRecordEffect k) s = .next t → t = { s.settledFrom t with
      given := t.given, used := t.used, unarmedF := t.unarmedF, cells := t.cells, hk := t.hk, posIf := t.posIf, armed := t.armed,
      mapBad := t.mapBad, badChk := t.badChk, moGen := t.moGen, chan := t.chan, chop := t.chop, fab := t.fab, fw := t.fw, eth := t.eth,
      can := t.can, onyx := t.onyx }) ∧
  (∀ (s t : State), exec .commitDelayExpiry s = .next t → t = { s with recd := t.recd, nor := t.nor, com := t.com, cap := t.cap }) ∧
  (∀ (ok : Bool) (s t : State), exec (.commitReadbackDone ok) s = .next t → t = { s with
      free := t.free, slog := t.slog, recd := t.recd, nor := t.nor, img := t.img, com := t.com, cap := t.cap, onyx := t.onyx }) ∧
  (∀ (s t : State), exec .fwTrial s = .next t → t = { s with
      garnet := t.garnet, rst := t.rst, recd := t.recd, img := t.img, com := t.com, shadow := t.shadow, fw := t.fw, cap := t.cap,
      onyx := t.onyx }) ∧
  (∀ (s t : State), exec .fwProbationEnd s = .next t → t = { s with
      free := t.free, recd := t.recd, nor := t.nor, com := t.com, fw := t.fw, cap := t.cap }) ∧
  (∀ (s t : State), exec .fwRevertCommand s = .next t → t = { s with
      garnet := t.garnet, rst := t.rst, recd := t.recd, img := t.img, com := t.com, shadow := t.shadow, fw := t.fw, cap := t.cap,
      onyx := t.onyx }) ∧
  (∀ (p : Fin 8) (up : Bool) (half : Bool) (speed : BitVec 2) (s t : State), exec (.ethLinkChange p up half speed) s = .next t → t = { s
    with
      recd := t.recd, cap := t.cap, eth := t.eth }) ∧
  (∀ (c : Fin 4) (f : CanFrame) (sofAgo : Nat) (endAgo : Nat) (s t : State), exec (.canFrameReceived c f sofAgo endAgo) s = .next t → t =
    { s.settledFrom t with
      free := t.free, spc := t.spc, cmd := t.cmd, garnet := t.garnet, can := t.can }) ∧
  (∀ (c : Fin 4) (r : TxResult) (dataPhase : Bool) (stamp : Word) (s t : State), exec (.canTxAttemptEnd c r dataPhase stamp) s = .next t →
    t = { s with
      recd := t.recd, cap := t.cap, can := t.can }) ∧
  (∀ (s t : State), exec .zeroiseNvmErased s = .next t → t = { s with
      garnet := t.garnet, recd := t.recd, nor := t.nor, com := t.com, cap := t.cap, onyx := t.onyx }) ∧
  (∀ (p : Fin 4) (s t : State), exec (.pllRelock p) s = .next t → t = { s.settledFrom t with clk := t.clk }) ∧
  (∀ (s t : State), exec .ircQualifyFail s = .next t → t = { s with clk := t.clk, rst := t.rst, recd := t.recd, cap := t.cap })

/-! ## Reset, start-up and clocks -/

/-- R321: every kind of cold reset starts again from S0, with outputs as R323 says, the journal, the flash and the safety log kept
(R330), the test access port in Test-Logic-Reset (R441), and every other register at its Reset value. A brownout leaves a module that
PORn holds in reset there, and PORn does not end a thermal hold: the model's own readings (log 136). -/
def Obligations.ColdResetsStartAtS0 : Prop :=
  (∀ (s : State) (vbat : Bool) (off : Nat) (legacy mesh temp : Bool), Runs (.powerUp vbat off legacy mesh temp) s fun t =>
      t.rst = { Rst.reset with cause := (if vbat then .powerUp else .vbatLost), held := true, relAt := s.up } ∧ t.resetSafe ∧
      t.nor = s.nor ∧ t.jrn = s.jrn ∧ t.slog.entries = s.slog.entries ∧ t.given = [] ∧ t.pending = s.pending ∧ t.up = s.up ∧ t.tap = .reset ∧
      t.fab.pin = legacy ∧ (vbat = true → t.vbat.rstCnt = bump s.vbat.rstCnt) ∧
      (vbat = false → t.vbat = { Vbat.reset with rstCnt := bump .zero })) ∧
  (∀ s : State, Runs .pornAssert s fun t =>
      t.rst = { Rst.reset with cause := .porn, held := true, relAt := s.up, hold := (if s.die.hold then 7 else 0) } ∧ t.resetSafe ∧
      (s.die.hold = true → t.die = s.die) ∧
      t.vbat = { s.vbat with rstCnt := bump s.vbat.rstCnt } ∧
      t.nor = s.nor ∧ t.jrn = s.jrn ∧ t.slog.entries = s.slog.entries ∧ t.given = [] ∧ t.pending = s.pending ∧ t.up = s.up ∧ t.tap = .reset) ∧
  (∀ (s : State) (rail : Fin 9), rail ≠ 8 → Runs (.brownout rail) s fun t =>
      t.rst = { Rst.reset with cause := .brownout, rail := 1#9 <<< rail.1, relAt := s.up, held := s.rst.held } ∧ t.resetSafe ∧
      t.vbat = { s.vbat with rstCnt := bump s.vbat.rstCnt } ∧
      t.nor = s.nor ∧ t.jrn = s.jrn ∧ t.slog.entries = s.slog.entries ∧ t.given = [] ∧ t.pending = s.pending ∧ t.up = s.up ∧ t.tap = .reset) ∧
  (∀ (s : State) (c : RstCause), s.rst.flushing = some c → Runs .warmResetFlushDone s fun t =>
      t.rst = { Rst.reset with cause := c, relAt := s.up } ∧ t.nor = s.nor ∧ t.given = [] ∧ t.pending = s.pending ∧ t.tap = .reset ∧
      t.cells = State.reset.cells ∧ t.can = State.reset.can ∧ t.eth = .reset ∧
      (c.cold = false → t.hist = s.hist ∧ ∀ k : Fin 8, t.cap[k].frames = s.cap[k].frames))

/-- R323: at the entry to a warm reset every gate, chopper and safety output goes off before any other effect, and the flush of the
recorder begins (R321); in thermal hold the pulse is ignored until every die channel reads below 100 °C (R247). -/
def Obligations.WarmResetsEnterSafe : Prop :=
  (∀ s : State, s.rst.held = false → s.rst.flushing = none → s.die.hold = false → Runs .srstnPulse s fun t =>
      t.rst = { s.rst with flushing := some .srstn } ∧ t.resetSafe ∧ (∀ k : Fin 8, t.cap[k].run = false) ∧
      t.nor = s.nor ∧ t.jrn = s.jrn ∧ t.given = s.given) ∧
  (∀ s : State, s.rst.held = false → s.rst.flushing = none → s.die.hold = true → (∀ i : Fin 6, s.die.code[i] < 8000) →
      Runs .srstnPulse s fun t => t.rst = { s.rst with flushing := some .thermalExit } ∧ t.resetSafe) ∧
  (∀ s : State, s.die.hold = true → (∃ i : Fin 6, 8000 ≤ s.die.code[i]) → exec .srstnPulse s = .next s)

/-- R322: a software restart is requested by `RSTCTL` with KEY = 0xA5C3 and RESTART = 1, from the host port or an authenticated session;
it is refused, with RESET_REFUSED and no change, while a bit of `GATEEN` is set and FORCE = 0; a write with another KEY is ignored and
journaled as WRITE_REJECTED. -/
def Obligations.SoftwareRestart : Prop :=
  (∀ (s : State) (force : Bool), s.rst.held = false → s.rst.flushing = none → s.anyGate = false ∨ force = true →
      Runs (.softwareRestart 0xA5C3 force) s fun t =>
        t.rst = { s.rst with flushing := some .software } ∧ t.resetSafe ∧ (∀ k : Fin 8, t.cap[k].run = false) ∧
        t.nor = s.nor ∧ t.jrn = s.jrn ∧ t.given = s.given) ∧
  (∀ s : State, s.rst.held = false → s.rst.flushing = none → s.anyGate = true →
      Runs (.softwareRestart 0xA5C3 false) s fun t =>
        t = { s with recd := t.recd, cap := t.cap } ∧ Logged s t .RESET_REFUSED) ∧
  (∀ (s : State) (acc : Nat) (force : Bool), s.rst.held = false → s.rst.flushing = none → acc = 0 ∨ s.session (acc - 1) = true →
      Runs (.registerWrite acc 0x00010084 4 (if force then 0xA5C30003 else 0xA5C30001)) s fun t =>
        exec (.softwareRestart 0xA5C3 force) s = .next t) ∧
  (∀ (s : State) (acc : Nat) (v : Word), v.toNat / 65536 ≠ 0xA5C3 → s.busOpen acc = true →
      Runs (.registerWrite acc 0x00010084 4 v) s fun t => t = { s with recd := t.recd, cap := t.cap } ∧
        Logged s t .WRITE_REJECTED 0xFF 0 (bytesLE 4 0x00010084 ++ bytesLE 4 v.toNat)) ∧
  (∀ (s : State) (acc : Nat) (v : Word), acc ≠ 0 → s.session (acc - 1) = false → exec (.registerWrite acc 0x00010084 4 v) s = .next s) ∧
  (∀ (s : State) (key : BitVec 16) (force : Bool), key ≠ 0xA5C3 → Runs (.softwareRestart key force) s fun t =>
      t = { s with recd := t.recd, cap := t.cap } ∧
        Logged s t .WRITE_REJECTED 0xFF 0 (bytesLE 4 0x00010084 ++ bytesLE 4 (key.toNat * 65536 + bit 1 force + 1)))

/-- R2, R3, R318, R324, R345, R429: the release of PORn samples ORDER_LEGACY and begins S0, and the rails confirmed end S0 or it holds
with HOLD = 1; the VBAT comparator sets and clears its bits; a restart of the management cluster closes every session and leaves the
fast plane, Garnet's cycle and every output as they are; its return lets it run again, and a slice end frees the aborted shadow slots.
-/
def Obligations.SupplyAndManagement : Prop :=
  (∀ (s : State) (legacy : Bool), s.rst.held = true → Runs (.pornRelease legacy) s fun t =>
      t.rst = { s.rst with held := false, relAt := s.up } ∧ t.fab = { s.fab with pin := legacy, legacy := legacy, mode := legacy } ∧
      t.clk = { s.clk with cmEarly := false } ∧ Logged s t .HOST_MODE 0xFF (bit 0 legacy) ∧
      t = { s with rst := t.rst, fab := t.fab, clk := t.clk, recd := t.recd, cap := t.cap }) ∧
  (∀ s : State, s.inStage 0 = true → Runs (.s0RailsConfirmed true) s fun t =>
      t.rst.stage = 1 ∧ t.rst.ok.getLsbD 3 = true ∧ t.rst.ok.getLsbD 8 = !(s.rst.low.getLsbD 8 && !s.rst.ok.getLsbD 8) ∧
      t = { s with rst := { s.rst with stage := 1, ok := t.rst.ok } }) ∧
  (∀ s : State, s.inStage 0 = true → Runs (.s0RailsConfirmed false) s fun t =>
      t.rst = { s.rst with hold := 1 } ∧ Logged s t .STAGE_HOLD 0xFF 1 ∧ t = { s with rst := t.rst, recd := t.recd, cap := t.cap }) ∧
  (∀ s : State, Runs (.vbatLow true) s fun t =>
      t.rst.low = s.rst.low ||| 0x100 ∧ t.rst.ok = s.rst.ok &&& 0x0FF ∧
      ((s.rst.low.getLsbD 8 = false ∨ s.rst.ok.getLsbD 8 = true) → Logged s t .VBAT_LOW) ∧
      t = { s with rst := { s.rst with low := t.rst.low, ok := t.rst.ok }, recd := t.recd, cap := t.cap }) ∧
  (∀ s : State, Runs (.vbatLow false) s fun t => t = { s with rst := { s.rst with ok := s.rst.ok ||| 0x100 } }) ∧
  (∀ s : State, s.rst.mgmtRun = true → Runs .managementRestart s fun t =>
      t.rst = { s.rst with mgmtRun := false } ∧ t.onyx.sessions = [] ∧ t.garnet = { s.garnet with unlocked := none } ∧
      t.br = s.br ∧ t.chop = s.chop ∧ t.loops = s.loops ∧ t.pwm = s.pwm ∧ t.start = s.start ∧ t.fab = s.fab ∧ t.given = s.given ∧
      t.used = s.used ∧ t.reacts = s.reacts ∧ t.pending = s.pending) ∧
  (∀ s : State, s.rst.mgmtRun = false → 4 ≤ s.rst.stage → Runs .managementRestartDone s fun t =>
      t.rst = { s.rst with mgmtRun := true } ∧ t.br = s.br ∧ t.garnet = s.garnet ∧ t.given = s.given ∧ t.pending = s.pending) ∧
  (∀ s : State, s.rst.mgmtRun = true → s.rst.stage = 9 → Runs .managementSliceEnd s fun t =>
      (∀ i : Fin 2, t.shadow[i].state ≠ .abort) ∧ t.rst = s.rst ∧ t.pending = s.pending)

/-- R324: S4 ends with K_root derived and the keys usable, or holds; S6, S7 and S8 end; S9 begins and the module is ready. -/
def Obligations.StartupStages : Prop :=
  (∀ s : State, s.inStage 4 = true → s.onyx.nvmKeys = true → s.onyx.certOk = true → s.onyx.zero = false → s.onyx.zlatch = false →
      s.onyx.zcellDue = false → s.onyx.zeroing = false → (∀ x : Fin 4, s.onyx.due[x] = false) →
      Runs (.s4Done true true true true true) s fun t =>
        t.rst = { s.rst with stage := 5 } ∧ t.onyx.kroot = true ∧ t.onyx.keys = true ∧
        t = { s with rst := t.rst, onyx := t.onyx, recd := t.recd, cap := t.cap }) ∧
  (∀ (s : State) (onyxOk rngOk kroot dramOk chainOk : Bool), s.inStage 4 = true → onyxOk = false ∨ rngOk = false →
      Runs (.s4Done onyxOk rngOk kroot dramOk chainOk) s fun t => t.rst.hold = 4 ∧ t.rst.stage = 4) ∧
  (∀ s : State, s.inStage 6 = true → Runs .s6Done s fun t => t.rst.stage = 7 ∧ t.fab.run = true ∧ t.img.loadRecs = []) ∧
  (∀ s : State, s.inStage 6 = true → Runs .s6Done s fun t =>
      (∀ k : Fin 8, t.posIf[k].on = (t.n Fld.PI_MODE (8 + k) != 0)) ∧ ∀ c : Fin 8, t.cells[c].refen = t.yes Fld.CELL_REFEN c) ∧
  (∀ s : State, s.inStage 7 = true →
      (∀ c : Fin 8, s.yes Fld.CELL_REFEN c = true → s.cells[c].calibrated = true ∧ s.cells[c].fullPend = false ∧ s.cells[c].offline = false) →
      Runs .s7Done s fun t =>
        t.rst = { s.rst with stage := 8 } ∧ t.garnet = { s.garnet with run := true } ∧ t = { s with rst := t.rst, garnet := t.garnet }) ∧
  (∀ (s : State) (c : Fin 8), s.yes Fld.CELL_REFEN c = true → s.cells[c].calibrated = false → exec .s7Done s = .next s) ∧
  (∀ (s : State) (g : Bool) (tp soH soL br : BitVec 8) (ch : BitVec 4) (item : Nat), s.inStage 8 = true → s.rst.s8Done = false →
      Runs (.s8Done g tp soH soL br ch item) s fun t =>
        t.rst.s8Done = true ∧ t.rst.stage = 8 ∧ ∀ m : Fin 4, t.armed[m] = (t.unmet m == 0 && !t.disarmed[m])) ∧
  (∀ s : State, s.inStage 8 = true → s.rst.s8Done = true → Runs .s9Entry s fun t =>
      t.rst = { s.rst with stage := 9, startT := (s.up - s.rst.relAt) / us } ∧ (∀ m : Fin 4, t.garnet.mo[m].sto = true) ∧
      Logged s t .MODULE_READY ∧ Logged s t .RESET_CAUSE 0xFF s.rst.cause.code (bytesLE 4 s.rst.rail.toNat) ∧ t.pending = s.pending)

/-- R303, R304, R313, R315, R316: the qualification of LPO, IRC and XIN, stage by stage, with the holds of R304 and the start on IRC
after the ninth failed attempt; the clock monitor counts each window and falls back to IRC on a trip; the return to XIN after the
1,000 passed windows that begin with the request, or its failure; the check of IRC. That a check back inside re-arms the monitor,
and that an attempt at XIN counts once, are the model's readings (log 136). -/
def Obligations.ClockReference : Prop :=
  (∀ s : State, s.rst.stage = 1 → s.rst.held = false → Runs .lpoQualified s fun t =>
      t.clk.lpoQ = true ∧ t.vbat.lpoQ = true ∧ t.clk.clkFail = false ∧ t.rst = { s.rst with hold := (if s.rst.hold = 2 then 0 else s.rst.hold) } ∧
      t = { s with clk := t.clk, vbat := { s.vbat with lpoQ := true }, rst := t.rst }) ∧
  (∀ s : State, s.inStage 1 = true → s.clk.lpoQ = false → Runs .lpoQualifyTimeout s fun t =>
      t.clk = { s.clk with clkFail := true } ∧ t.rst = { s.rst with hold := 2 } ∧ Logged s t .STAGE_HOLD 0xFF 2) ∧
  (∀ s : State, s.rst.stage = 1 → s.clk.lpoQ = true → s.rst.held = false → Runs .ircQualified s fun t =>
      t.clk = { s.clk with ircQ := true, cmArm := true, ircFails := 0, clkFail := false } ∧ t.rst.stage = 2 ∧
      t = { s with clk := t.clk, rst := t.rst }) ∧
  (∀ s : State, s.rst.stage = 1 → s.clk.lpoQ = true → s.rst.held = false → Runs .ircQualifyFail s fun t =>
      t.clk.ircFails = s.clk.ircFails + 1 ∧ (s.clk.ircFails = 63 → t.rst.hold = 2 ∧ t.clk.clkFail = true) ∧
      (s.clk.ircFails < 63 → t.rst = s.rst ∧ t.clk.clkFail = s.clk.clkFail)) ∧
  (∀ (s : State) (irc : Nat), s.inStage 2 = true → s.clk.early16 = none → 246416 ≤ irc → irc ≤ 277872 →
      Runs (.xinAttemptEnd irc true) s fun t =>
        t.clk.xinTry = s.clk.xinTry + 1 ∧ t.clk.xinQ = true ∧
        (s.clk.cmEarly = false → t.rst = { s.rst with stage := 3 }) ∧ (s.clk.cmEarly = true → t.rst = s.rst ∧ t.clk.early16 = some 0)) ∧
  (∀ (s : State) (irc : Nat) (inTime : Bool), s.inStage 2 = true → s.clk.early16 = none →
      (inTime = false ∨ irc < 246416 ∨ 277872 < irc) → Runs (.xinAttemptEnd irc inTime) s fun t =>
        t.clk.xinTry = s.clk.xinTry + 1 ∧ Logged s t .XIN_ATTEMPT_FAIL 0xFF (s.clk.xinTry + 1) ∧
        (s.clk.xinTry < 8 → t.rst.stage = 2 ∧ t.clk.degr = s.clk.degr) ∧
        (8 ≤ s.clk.xinTry → t.rst.stage = 3 ∧ t.clk.degr = true ∧ t.clk.src = .degraded)) ∧
  (∀ (s : State) (trim : Int), s.inStage 3 = true → s.clk.src ≠ .degraded → Runs (.pllLockDone 0x1F trim) s fun t =>
      t.rst = { s.rst with stage := 4, mgmtRun := true } ∧ t.recd.on = true ∧ t.clk.trim = trim ∧ t.vbat.trim = trim ∧
      t.dev = BitVec.ofNat 64 (s.vbat.lpo * 1000000000 / 32768)) ∧
  (∀ (s : State) (locked : BitVec 5) (trim : Int), s.inStage 3 = true → locked ≠ 0x1F → Runs (.pllLockDone locked trim) s fun t =>
      (s.clk.pllTry < 2 → t.clk.pllTry = s.clk.pllTry + 1 ∧ t.rst = s.rst) ∧
      (2 ≤ s.clk.pllTry → t.rst = { s.rst with hold := 3 } ∧ t.clk.clkFail = true)) ∧
  (∀ (s : State) (count : Nat), count ≤ 511 → Runs (.clockMonitorWindow count) s fun t =>
      t.clk.cmLast = count ∧ t.clk.cmMin = min s.clk.cmMin count ∧ t.clk.cmMax = max s.clk.cmMax count ∧
      t.clk.cmTrips = (if count < 235 ∨ 265 < count then bump s.clk.cmTrips else s.clk.cmTrips) ∧
      t = { s with clk := t.clk, rst := { s.rst with stage := t.rst.stage }, recd := t.recd, cap := t.cap }) ∧
  (∀ (s : State) (count : Nat), s.clk.ircQ = true → s.clk.cmArm = true → s.clk.early16 = none → 4 ≤ s.rst.stage → s.clk.src = .xin →
      count < 235 ∨ 265 < count → Runs (.clockMonitorWindow count) s fun t =>
        t.clk.src = .fallback ∧ t.clk.frozen = true ∧ t.clk.holdover = tbl 4 false ∧ t.clk.nmiUntil = s.up + 10000 ∧
        t.rst = s.rst ∧ Logged s t .CLK_FALLBACK) ∧
  (∀ s : State, s.clk.src ≠ .xin → Runs .xinReturnRequest s fun t => t = { s with clk := { s.clk with ret := some 0 } }) ∧
  (∀ s : State, s.clk.src = .xin → Runs .xinReturnRequest s fun t =>
      t = { s with recd := t.recd, cap := t.cap } ∧ Logged s t .CLK_RETURN_FAIL) ∧
  (∀ (s : State) (k : Nat), s.clk.ret = some k → 1001 ≤ k → Runs (.xinReturnEnd true) s fun t =>
      t.clk.src = .xin ∧ t.clk.frozen = false ∧ t.clk.degr = false ∧ t.clk.ret = none ∧ Logged s t .CLK_RETURN ∧
      t = { s with clk := t.clk, recd := t.recd, cap := t.cap }) ∧
  (∀ (s : State) (k : Nat) (ok : Bool), s.clk.ret = some k → ok = false ∨ k ≤ 1000 → Runs (.xinReturnEnd ok) s fun t =>
      t.clk = { s.clk with ret := none } ∧ Logged s t .CLK_RETURN_FAIL ∧ t = { s with clk := t.clk, recd := t.recd, cap := t.cap }) ∧
  (∀ (s : State) (count : Nat), 20 * count < 19 * 1000977 ∨ 21 * 1000977 < 20 * count → Runs (.ircCheck count) s fun t =>
      t.clk = { s.clk with cmArm := false, ircBad := true } ∧ (s.clk.ircBad = false → Logged s t .IRC_FAULT) ∧
      t = { s with clk := t.clk, recd := t.recd, cap := t.cap }) ∧
  (∀ (s : State) (count : Nat), 19 * 1000977 ≤ 20 * count → 20 * count ≤ 21 * 1000977 → s.clk.ircBad = false →
      exec (.ircCheck count) s = .next s) ∧
  (∀ (s : State) (trim : Int), 4 ≤ s.rst.stage → s.clk.src = .xin → Runs (.ircTrimUpdate trim) s fun t =>
      t.clk.trim = trim ∧ t.vbat.trim = trim ∧ t.clk.frozen = false ∧ t = { s with clk := t.clk, vbat := t.vbat }) ∧
  (∀ (s : State) (trim : Int), 4 ≤ s.rst.stage → s.clk.src ≠ .xin → (s.ring.tlock || s.time.asLock) = true →
      Runs (.ircTrimUpdate trim) s fun t => s.clk.trim - 256 ≤ t.clk.trim ∧ t.clk.trim ≤ s.clk.trim + 256 ∧ t.clk.servo = true)

/-- R307, R308, R311, R312, R317: PLLs, the management clock, island gates and the frequency counter. -/
def Obligations.ClockIslands : Prop :=
  (∀ (s : State) (p : Fin 4), Runs (.pllHoldover p) s fun t =>
      t.clk.holdover[p] = true ∧ (∀ q : Fin 4, q ≠ p → t.clk.holdover[q] = s.clk.holdover[q]) ∧
      t = { s with clk := { s.clk with holdover := t.clk.holdover } }) ∧
  (∀ (s : State) (p : Fin 4), Runs (.pllUnlock p) s fun t =>
      t.clk.lock[p.1]'(by omega) = false ∧ t.clk.holdover[p] = false ∧ (p = 0 → t.clk.anaLost = true) ∧
      (p = 0 → ∀ m : Fin 4, s.bridges m ≠ [] → t.asked m .PLL_UNLOCK 0 .pulseBlock) ∧ (p ≠ 0 → t.rst.mgmtRun = false)) ∧
  (∀ (s : State) (p : Fin 4), Runs (.pllRelock p) s fun t =>
      t.clk.lock[p.1]'(by omega) = true ∧ t.clk.holdover[p] = false ∧ (p = 0 → t.clk.anaLost = false)) ∧
  (∀ s : State, Runs .analogClockLoss s fun t =>
      t.clk = { s.clk with anaLost := true } ∧ ∀ m : Fin 4, s.bridges m ≠ [] → t.asked m .PLL_UNLOCK 0 .pulseBlock) ∧
  (∀ s : State, s.clk.mgPend = none → mgFreqOf s.dieTemp ≠ s.die.mgFreq → Runs .mgClockEvaluation s fun t =>
      t = { s with clk := { s.clk with mgPend := some (mgFreqOf s.dieTemp) } }) ∧
  (∀ (s : State) (f : Nat), s.clk.mgPend = some f → Runs .mgClockSwitch s fun t =>
      t.die = { s.die with mgFreq := f } ∧ t.clk = { s.clk with mgPll2 := !s.clk.mgPll2, mgPend := none } ∧ Logged s t .MG_CLK_CHANGE ∧
      t = { s with die := t.die, clk := t.clk, recd := t.recd, cap := t.cap }) ∧
  (∀ s : State, Runs .clockCountersClear s fun t => t = { s with clk := { s.clk with cmTrips := .zero, cmMin := 511, cmMax := 0 } }) ∧
  (∀ s : State, s.clk.fm.gate ≠ 0 → s.clk.fm.meas.toNat ≤ 16 → s.clk.fm.ref.toNat ≤ 16 → Runs .freqMeasureStart s fun t =>
      t = { s with clk := { s.clk with fm := { s.clk.fm with busy := true, done := false, tmo := false } } }) ∧
  (∀ s : State, (s.clk.fm.gate = 0 ∨ 16 < s.clk.fm.meas.toNat ∨ 16 < s.clk.fm.ref.toNat) → Runs .freqMeasureStart s fun t =>
      t = { s with recd := t.recd, cap := t.cap } ∧ Logged s t .WRITE_REJECTED 0xFF 0 (bytesLE 4 0x00010048 ++ bytesLE 4 1)) ∧
  (∀ (s : State) (count : Word) (timeout : Bool), s.clk.fm.busy = true → Runs (.freqMeasureEnd count timeout) s fun t =>
      t = { s with clk := { s.clk with fm := { s.clk.fm with busy := false, done := !timeout, tmo := timeout, res := count } } }) ∧
  (∀ (s : State) (g : Fin 24), s.clk.gateReg.getLsbD g = false → Runs (.islandGateClose g true) s fun t =>
      t.clk.gateOpen.getLsbD g = false ∧ (∀ h : Fin 24, h ≠ g → t.clk.gateOpen.getLsbD h = s.clk.gateOpen.getLsbD h) ∧
      t = { s with clk := { s.clk with gateOpen := t.clk.gateOpen } }) ∧
  (∀ (s : State) (g : Fin 24), Runs (.islandGateOpen g) s fun t =>
      t.clk.gateOpen.getLsbD g = true ∧ (∀ h : Fin 24, h ≠ g → t.clk.gateOpen.getLsbD h = s.clk.gateOpen.getLsbD h) ∧
      t = { s with clk := { s.clk with gateOpen := t.clk.gateOpen } })

/-! ## Image, service, security -/

/-- R337, R338: the bank of the newest commit record is loaded where it verifies; else the other bank without the stash, or the module
holds with HOLD = 6. -/
def Obligations.ImageLoad : Prop :=
  (∀ (s : State) (r : CommitRec) (p : Package) (readA readB : Bool), s.inStage 5 = true → 64 ≤ s.nor.sizeMiB → s.nor.newest = some r →
      s.nor.bank r.bank = some p → s.bankFail r.bank (if r.bank then readB else readA) (.equal r.cfgSeq) (some r.imgHash) = 0 →
      Runs (.imageLoadDone readA readB) s fun t =>
        t.rst = { s.rst with stage := 6 } ∧ t.img.loaded = true ∧ t.img.bank = r.bank ∧ t.img.bankSeq = p.cfgSeq ∧
        (s.nor.stashAbove p.cfgSeq = [] → t.img.cfgSeq = p.cfgSeq ∧ t.img.loadRecs = p.recs) ∧ t.nor = s.nor) ∧
  (∀ (s : State) (r : CommitRec) (p : Package) (readA readB : Bool), s.inStage 5 = true → 64 ≤ s.nor.sizeMiB → s.nor.newest = some r →
      s.bankFail r.bank (if r.bank then readB else readA) (.equal r.cfgSeq) (some r.imgHash) ≠ 0 →
      s.nor.bank (!r.bank) = some p → s.bankFail (!r.bank) (if r.bank then readA else readB) (.below r.cfgSeq) none = 0 →
      Runs (.imageLoadDone readA readB) s fun t =>
        t.rst = { s.rst with stage := 6 } ∧ t.img.loaded = true ∧ t.img.bank = (!r.bank) ∧ t.img.fallback = true ∧
        t.img.stashIgn = true ∧ t.img.cfgSeq = p.cfgSeq ∧ t.img.loadRecs = p.recs ∧ t.nor = s.nor) ∧
  (∀ (s : State) (readA readB : Bool), s.inStage 5 = true → s.nor.sizeMiB < 64 → Runs (.imageLoadDone readA readB) s fun t =>
      t.rst = { s.rst with hold := 6 } ∧ t.nor = s.nor) ∧
  (∀ (s : State) (r : CommitRec) (readA readB : Bool), s.inStage 5 = true → 64 ≤ s.nor.sizeMiB → s.nor.newest = some r →
      s.nor.bankA = none → s.nor.bankB = none → Runs (.imageLoadDone readA readB) s fun t =>
        t.rst = { s.rst with hold := 6 } ∧ t.img.failA = 1 ∧ t.img.failB = 1 ∧ t.img.loaded = s.img.loaded)

/-- R271, R274, R344, R345, R347, R352: a delta is staged whole or refused whole; a staged record takes effect with every other staged
change of the same record, once its conditions hold, and goes to the stash; a safety change waits for Garnet and for the STO of the
motor objects that it names; a new image starts a commit of its own; the archive of the safety change log starts a new chain. -/
def Obligations.SubmissionsAndStaging : Prop :=
  (∀ (s : State) (sess : Nat) (p : Package), s.rst.mgmtRun = true → s.session sess = true → s.deltaFault (s.wouldBe p) p = 0 →
      p.safety = false → Runs (.deltaSubmit sess p) s fun t =>
        t.img.cfgSeq = p.cfgSeq ∧ t.img.staged = s.img.staged ++ p.recs.map (fun r => ⟨p.cfgSeq, r, s.onyx.ownerId, p.hash, none⟩) ∧
        Logged s t .DELTA_ACCEPTED 0xFF 0 (bytesLE 8 p.cfgSeq.toNat) ∧ t = { s with img := t.img, recd := t.recd, cap := t.cap }) ∧
  (∀ (s : State) (sess : Nat) (p : Package), s.rst.mgmtRun = true → s.session sess = true → s.deltaFault (s.wouldBe p) p ≠ 0 →
      Runs (.deltaSubmit sess p) s fun t => t = { s with recd := t.recd, cap := t.cap }) ∧
  (∀ (s : State) (sess : Nat) (p : Package), s.rst.mgmtRun = true → s.session sess = true → s.imageFault p = 0 → s.com.step = .idle →
      Runs (.imageSubmit sess p) s fun t =>
        t.com.step = .snapshot ∧ t.com.owner = some p ∧ t.com.target = !s.nor.bankNow ∧ Logged s t .COMMIT_START ∧
        t = { s with nor := t.nor, com := t.com, recd := t.recd, cap := t.cap }) ∧
  (∀ (s : State) (sess : Nat) (p : Package), s.rst.mgmtRun = true → s.session sess = true → s.imageFault p ≠ 0 →
      Runs (.imageSubmit sess p) s fun t =>
        t = { s with recd := t.recd, cap := t.cap } ∧ Logged s t .IMG_REFUSED 0xFF (s.imageFault p)) ∧
  (∀ (s : State) (sess : Nat) (e : SafeLogEntry) (l : List SafeLogEntry) (actor : List Byte), s.rst.mgmtRun = true →
      s.session sess = true → s.slog.entries = e :: l → s.keysUsable = true → s.com.step = .idle →
      Runs (.safelogArchive sess true e.index (Config.sha384 e.bytes) actor) s fun t =>
        t.slog.entries.length = 1 ∧ t.slog.next = s.slog.next + 1 ∧ t.slog.broken = false ∧ Logged s t .SAFELOG_ARCHIVED) ∧
  (∀ (s : State) (k : Nat) (x : Staged), s.img.staged[k]? = some x → s.groupMay false (s.groupOf x.rec_.typ x.rec_.inst) = true →
      (∀ y ∈ s.groupOf x.rec_.typ x.rec_.inst, y.rec_.safety = false) → Runs (.deltaRecordEffect k) s fun t =>
        t.img.staged.map Staged.rec_ =
          (s.img.staged.filter fun y => !(s.together false x.rec_.typ x.rec_.inst).contains y).map Staged.rec_ ∧
        (s.keysUsable = true → t.img.toStash =
          s.img.toStash ++ (s.together false x.rec_.typ x.rec_.inst).map fun y => ⟨y.cfgSeq, y.rec_⟩) ∧
        (s.keysUsable = false → t.img.toStash = s.img.toStash) ∧ t.garnet = s.garnet) ∧
  (∀ (s : State) (slice : Bool) (typ inst : Nat), (recOfCode typ ≠ some .bridge → s.together slice typ inst = s.groupOf typ inst) ∧
      (∀ y ∈ s.groupOf typ inst, y ∈ s.together slice typ inst) ∧ ∀ y ∈ s.together slice typ inst, y ∈ s.img.staged ∧ y.rec_.typ = typ) ∧
  (∀ (s : State) (k : Nat), s.img.staged.length ≤ k → exec (.deltaRecordEffect k) s = .next s) ∧
  (∀ (s : State) (k : Nat) (x : Staged), s.img.staged[k]? = some x →
      (s.groupMay false (s.groupOf x.rec_.typ x.rec_.inst) = false ∨ x.rec_.safety = true) → exec (.deltaRecordEffect k) s = .next s) ∧
  (∀ (s : State) (x : Staged), s.img.staged = [x] → s.safetyMay [x] = true → Runs .safeChange s fun t =>
      t.img.staged = [] ∧ t.img.toStash.length ≤ s.img.toStash.length + 1 ∧ (x.rec_.safety = true → t.img.toStash = s.img.toStash) ∧
      Logged s t .SAFE_CHANGE) ∧
  (∀ s : State, (∀ x ∈ s.img.staged, s.safetyMay (s.groupOf x.rec_.typ x.rec_.inst) = false) → exec .safeChange s = .next s) ∧
  (∀ (s : State) (x : Staged) (m : Fin 4), s.img.staged = [x] → s.garnet.mo[m].sto = false →
      (∃ f ∈ x.rec_.fields, isSafety x.rec_.typ f.fid = true ∧ s.namesItem m x.rec_.typ x.rec_.inst f = true) →
      exec .safeChange s = .next s)

/-- R347, R349 to R351: a commit moves from the snapshot through erase, write and read-back to its KIND 1 record, and repeats from the
erase once after a mismatch. -/
def Obligations.CommitSequence : Prop :=
  (∀ s : State, s.mayCommit = true → Runs .commitCommand s fun t =>
      t.com.step = .snapshot ∧ t.com.owner = none ∧ t.com.target = !s.nor.bankNow ∧ Logged s t .COMMIT_START ∧
      (s.nor.intent = false → t.nor = s.nor.setStash (!s.nor.stashNow) []) ∧
      t = { s with nor := t.nor, com := t.com, recd := t.recd, cap := t.cap }) ∧
  (∀ (s : State) (t0 : Nat), s.com.delay = some t0 → s.n Fld.SERVICE_COMMITDLY 0 * 1000000000 ≤ s.up - t0 → s.mayCommit = true →
      Runs .commitDelayExpiry s fun t =>
        t.com.step = .snapshot ∧ t.com.delay = none ∧ t.com.owner = none ∧ Logged s t .COMMIT_START) ∧
  (∀ (s : State) (t0 : Nat), s.com.delay = some t0 → s.up - t0 < s.n Fld.SERVICE_COMMITDLY 0 * 1000000000 →
      exec .commitDelayExpiry s = .next s) ∧
  (∀ (s : State) (x : ToStash) (rest : List ToStash), s.img.toStash = x :: rest → s.rst.mgmtRun = true → s.keysUsable = true →
      stashBytes (s.nor.stash s.stashHalf ++ [⟨x.cfgSeq, x.rec_.typ, x.rec_.inst, x.rec_.fields, true⟩]) ≤ 786432 →
      Runs .stashEntryWritten s fun t =>
        t.nor.stash s.stashHalf = s.nor.stash s.stashHalf ++ [⟨x.cfgSeq, x.rec_.typ, x.rec_.inst, x.rec_.fields, true⟩] ∧
        t.img = { s.img with toStash := rest, dirty := true } ∧ t.com = { s.com with delay := some s.up } ∧
        t = { s with nor := t.nor, img := t.img, com := t.com }) ∧
  (∀ (s : State) (r : CommitRec), s.com.step = .snapshot → s.com.owner = none → s.nor.newest = some r → Runs .commitSnapshotDone s fun t =>
      t.com = { s.com with step := .erase, snapSeq := s.snapSeq, snap := s.snapRecs } ∧
      (∃ c, t.nor.newest = some c ∧ c.kind = .intent ∧ c.target = s.com.target ∧ c.seq = r.seq + 1 ∧ c.bank = r.bank) ∧
      t = { s with com := t.com, nor := t.nor }) ∧
  (∀ s : State, s.com.step = .erase → Runs .commitEraseDone s fun t =>
      t.nor.bank s.com.target = none ∧ t.nor.bank (!s.com.target) = s.nor.bank (!s.com.target) ∧ t.com.step = .write ∧
      t = { s with nor := t.nor, com := { s.com with step := .write, progress := 50 } }) ∧
  (∀ s : State, s.com.step = .write → Runs .commitWriteDone s fun t =>
      t.com.step = .readBack ∧ t.nor.bank (!s.com.target) = s.nor.bank (!s.com.target) ∧
      (∀ p, s.com.owner = some p → t.nor.bank s.com.target = some p) ∧
      (s.com.owner = none → ∃ p, t.nor.bank s.com.target = some p ∧ p.recs = s.com.snap ∧ p.cfgSeq = s.com.snapSeq ∧ p.signer = 2) ∧
      t = { s with nor := t.nor, com := t.com, free := t.free }) ∧
  (∀ (s : State) (p : Package) (r : CommitRec), s.com.step = .readBack → s.nor.bank s.com.target = some p → s.nor.newest = some r →
      s.com.waiting = none → s.com.archive = none → Runs (.commitReadbackDone true) s fun t =>
        (∃ c, t.nor.newest = some c ∧ c.kind = .bank ∧ c.bank = s.com.target ∧ c.cfgSeq = s.com.snapSeq ∧ c.imgHash = p.hash ∧
          c.stash = r.nextSt) ∧ t.com.step = .idle ∧
        Logged s t .COMMIT_DONE 0xFF (bit 0 s.com.target) (bytesLE 8 s.com.snapSeq.toNat)) ∧
  (∀ s : State, s.com.step = .readBack → s.com.repeated = false → Runs (.commitReadbackDone false) s fun t =>
      t.com = { s.com with step := .erase, progress := 0, repeated := true } ∧ t.nor = s.nor ∧ Logged s t .COMMIT_FAIL)

/-- R354, R356, R359: a shadow slot is opened or refused with its reason, runs from the live state, is switched only when READY, and is
aborted before SWITCH, with its records staged again. -/
def Obligations.ShadowSlots : Prop :=
  (∀ (s : State) (sl : Fin 2) (task : Byte) (kind : BitVec 2) (target : Fin 16) (k : ShadowKind), s.rst.stage = 9 →
      (kind = 0 ∧ k = .move ∨ kind = 1 ∧ k = .current ∨ kind = 2 ∧ k = .outer) → s.shadowRefusal sl task.toNat k target = 0 →
      Runs (.shadowStartCommand sl task kind target) s fun t =>
        t.shadow[sl].state = .prep ∧ t.shadow[sl].kind = k ∧ t.shadow[sl].task = task.toNat ∧ t.shadow[sl].target = target ∧
        t.shadow[sl].mism = .zero ∧ t.shadow[sl].maxd = 0 ∧ (∀ j : Fin 2, j ≠ sl → t.shadow[j] = s.shadow[j]) ∧
        t = { s with shadow := t.shadow, img := { s.img with staged := t.img.staged } }) ∧
  (∀ (s : State) (sl : Fin 2) (task : Byte) (kind : BitVec 2) (target : Fin 16) (k : ShadowKind), s.rst.stage = 9 →
      (kind = 0 ∧ k = .move ∨ kind = 1 ∧ k = .current ∨ kind = 2 ∧ k = .outer) → s.shadowRefusal sl task.toNat k target ≠ 0 →
      Runs (.shadowStartCommand sl task kind target) s fun t =>
        t.shadow[sl] = { s.shadow[sl] with reason := s.shadowRefusal sl task.toNat k target } ∧
        Logged s t .SHADOW_REFUSED sl (s.shadowRefusal sl task.toNat k target) ∧ t = { s with shadow := t.shadow, recd := t.recd, cap := t.cap }) ∧
  (∀ (s : State) (sl : Fin 2), s.shadow[sl].state = .prep → Runs (.shadowPrepDone sl) s fun t =>
      t.shadow[sl].state = .shadow ∧ t.shadow[sl].pwm = s.pwm ∧ t.shadow[sl].loop = s.loops[(s.shadow[sl]).mo] ∧
      t.shadow[sl].start = s.start[(s.shadow[sl]).mo] ∧ t.shadow[sl].outer = s.outer[(s.shadow[sl]).mo] ∧ Logged s t .SHADOW_START sl ∧
      t = { s with shadow := t.shadow, recd := t.recd, cap := t.cap }) ∧
  (∀ (s : State) (sl : Fin 2), s.shadow[sl].state = .ready → Runs (.shadowGoCommand sl) s fun t =>
      t.shadow[sl] = { s.shadow[sl] with state := .switch, tries := 0, since := s.up } ∧ t = { s with shadow := t.shadow }) ∧
  (∀ (s : State) (sl : Fin 2), s.shadow[sl].state ≠ .ready → exec (.shadowGoCommand sl) s = .next s) ∧
  (∀ (s : State) (sl : Fin 2), (s.shadow[sl].state = .prep ∨ s.shadow[sl].state = .shadow ∨ s.shadow[sl].state = .ready) →
      Runs (.shadowAbortCommand sl) s fun t =>
        t.shadow[sl].state = .abort ∧ t.shadow[sl].reason = 10 ∧ (∀ x ∈ t.img.staged, x.carried ≠ some sl) ∧
        Logged s t .SHADOW_ABORTED sl 10 ∧ t = { s with shadow := t.shadow, img := t.img, recd := t.recd, cap := t.cap }) ∧
  (∀ (s : State) (sl : Fin 2), s.shadow[sl].state = .shadow →
      s.shadow[sl].since + s.n Fld.SERVICE_SHTMAX 0 * 1000000000 ≤ s.up → Runs (.shadowTimeout sl) s fun t =>
      t.shadow[sl].state = .abort ∧ t.shadow[sl].reason = 6 ∧ (∀ x ∈ t.img.staged, x.carried ≠ some sl) ∧
      Logged s t .SHADOW_ABORTED sl 6 ∧ t = { s with shadow := t.shadow, img := t.img, recd := t.recd, cap := t.cap }) ∧
  (∀ (s : State) (sl : Fin 2), s.shadow[sl].state ≠ .shadow ∨ s.up < s.shadow[sl].since + s.n Fld.SERVICE_SHTMAX 0 * 1000000000 →
      exec (.shadowTimeout sl) s = .next s) ∧
  (∀ (s : State) (sl : Fin 2), s.up < s.shadow[sl].since + 20000 → exec (.shadowSwitchBoundary sl) s = .next s) ∧
  (∀ (s : State) (sl : Fin 2), s.shadow[sl].state = .switch → s.shadow[sl].since + 20000 ≤ s.up →
      (s.shadowTasks s.shadow[sl]).any s.moveRefused = true → s.shadow[sl].tries < 99 → Runs (.shadowSwitchBoundary sl) s fun t =>
        t.shadow[sl] = { s.shadow[sl] with tries := s.shadow[sl].tries + 1 } ∧ Logged s t .MIGRATE_REFUSED s.shadow[sl].task ∧
        t = { s with shadow := t.shadow, recd := t.recd, cap := t.cap }) ∧
  (∀ (s : State) (sl : Fin 2) (k : Fin 28), s.shadow[sl].state = .switch → s.shadow[sl].since + 20000 ≤ s.up →
      s.shadow[sl].kind = .move → s.shadow[sl].task = k.1 →
      s.moveRefused k = false → s.carriedBy sl = [] → s.rst.mgmtRun = true → Runs (.shadowSwitchBoundary sl) s fun t =>
        t.shadow[sl].state = .done ∧ t.fab.tasks[k].engine = some s.shadow[sl].target ∧
        t.fab.tasks[k].epoch = s.fab.tasks[k].epoch + 1 ∧ t.fab.oldPort[k] = some (s.taskPort k) ∧ Logged s t .SHADOW_DONE sl ∧
        (∀ x ∈ t.fw.oldCode, x ≠ k.1))

/-- R360 to R362, R365 to R367, R406: an update is refused unless Onyx accepts it, is written and read back, tried once no commit runs,
and accepted, or the module returns to the firmware it had; each millisecond at S9 is counted in exactly one class, a snapshot keeps the
four counts, a clear starts a new year. -/
def Obligations.FirmwareAndAvailability : Prop :=
  (∀ (s : State) (sess : Nat) (p : FwPackage), s.rst.mgmtRun = true → s.session sess = true → s.keysUsable = true →
      s.onyx.sealed_ = false → p.sigOk = true → p.chainOk = true → (s.yes Fld.SECURITY_FWOWNERSIG 0 = true → p.ownerOk = true) →
      s.onyx.fwMin.toNat ≤ p.version.toNat → s.fw.step = .idle → s.fw.trial = false → s.fw.oldCode = [] →
      Runs (.firmwarePackageSubmit sess p) s fun t =>
        t.fw = { s.fw with step := .writing, pkg := some p, repeated := false } ∧
        t.nor = (if s.nor.fwNow then { s.nor with fw0 := none } else { s.nor with fw1 := none }) ∧ t = { s with fw := t.fw, nor := t.nor }) ∧
  (∀ (s : State) (sess : Nat) (p : FwPackage), s.rst.mgmtRun = true → s.session sess = true →
      (s.keysUsable = false ∨ s.onyx.sealed_ = true ∨ p.sigOk = false ∨ p.chainOk = false ∨
        (s.yes Fld.SECURITY_FWOWNERSIG 0 = true ∧ p.ownerOk = false) ∨ p.version.toNat < s.onyx.fwMin.toNat) →
      Runs (.firmwarePackageSubmit sess p) s fun t => Logged s t .FW_SIG_FAIL ∧ t = { s with recd := t.recd, cap := t.cap }) ∧
  (∀ (s : State) (p : FwPackage), s.fw.step = .writing → s.fw.pkg = some p → Runs (.fwWriteDone true) s fun t =>
      t.fw = { s.fw with step := .waiting } ∧ t.nor.fwVersion (!s.nor.fwNow) = p.version ∧
      t.nor.fwVersion s.nor.fwNow = s.nor.fwVersion s.nor.fwNow ∧ Logged s t .FW_WRITTEN ∧
      t = { s with fw := t.fw, nor := t.nor, recd := t.recd, cap := t.cap }) ∧
  (∀ s : State, s.fw.step = .writing → s.fw.repeated = false → Runs (.fwWriteDone false) s fun t =>
      t.fw = { s.fw with repeated := true } ∧ t = { s with fw := t.fw, nor := t.nor }) ∧
  (∀ s : State, s.fw.step = .writing → s.fw.repeated = true → Runs (.fwWriteDone false) s fun t =>
      t.fw = { s.fw with step := .idle, pkg := none, repeated := false } ∧ Logged s t .FW_REVERTED ∧
      t = { s with fw := t.fw, recd := t.recd, cap := t.cap }) ∧
  (∀ s : State, s.fw.step = .waiting → s.com.step = .idle → s.rst.mgmtRun = true → Runs .fwTrial s fun t =>
      t.fw = { s.fw with trial := true, since := s.up } ∧ t.rst = { s.rst with mgmtRun := false } ∧ t.onyx.sessions = [] ∧ Logged s t .FW_TRIAL ∧
      t.br = s.br ∧ t.loops = s.loops ∧ t.nor = s.nor) ∧
  (∀ s : State, s.fw.trial = true → s.rst.mgmtRun = false → s.fw.since + 2000000000 ≤ s.up → Runs .fwTrialStartTimeout s fun t =>
      t.fw = { s.fw with bank := s.nor.fwNow, step := .idle, trial := false, pkg := none, repeated := false } ∧ Logged s t .FW_REVERTED ∧
      t = { s with fw := t.fw, recd := t.recd, cap := t.cap }) ∧
  (∀ s : State, s.up < s.fw.since + 2000000000 → exec .fwTrialStartTimeout s = .next s) ∧
  (∀ s : State, s.fw.step = .probation → s.rst.mgmtRun = true → s.com.again = false →
      s.fw.since + s.n Fld.SERVICE_FWPROB 0 * 1000000000 ≤ s.up → Runs .fwProbationEnd s fun t =>
      t.fw.step = .idle ∧ t.fw.trial = false ∧ t.fw.bank = s.fw.bank ∧
      (∀ k : Fin 28, s.fab.tasks[k].engine.isSome = true → k.1 ∈ t.fw.oldCode) ∧ Logged s t .FW_ACCEPTED) ∧
  (∀ s : State, s.fw.step = .probation → Runs .fwRevertCommand s fun t =>
      t.fw = { s.fw with bank := s.nor.fwNow, step := .idle, trial := false, pkg := none, repeated := false } ∧
      t.rst.mgmtRun = false ∧ Logged s t .FW_REVERTED ∧ t.nor = s.nor) ∧
  (∀ s : State, s.rst.stage = 9 → s.av.insvc + 1 < 18446744073709551616 → s.av.lost + 1 < 4294967296 → s.av.excl + 1 < 4294967296000 →
      s.av.void + 1 < 4294967296000 → Runs .availabilityStep s fun t =>
      t.av.insvc + t.av.lost + t.av.excl + t.av.void = s.av.insvc + s.av.lost + s.av.excl + s.av.void + 1 ∧
      s.av.insvc ≤ t.av.insvc ∧ s.av.lost ≤ t.av.lost ∧ s.av.excl ≤ t.av.excl ∧ s.av.void ≤ t.av.void ∧
      (s.voidCause ≠ 0 → t.av.void = s.av.void + 1 ∧ (s.av.inVoid = false → Logged s t .AV_VOID 0xFF s.voidCause)) ∧
      (s.voidCause = 0 → (∀ m : Fin 4, s.av.cmdRun[m] = false) → t.av.insvc = s.av.insvc + 1) ∧
      (s.voidCause = 0 → (∃ m : Fin 4, s.av.cmdRun[m] = true ∧ s.av.owner[m] = true) → t.av.excl = s.av.excl + 1) ∧
      t = { s with av := t.av, recd := t.recd, cap := t.cap }) ∧
  (∀ s : State, s.rst.stage = 9 → s.voidCause ≠ 0 → s.av.void + 1 = 4294967296000 → Runs .availabilityStep s fun t =>
      t.av.void = 0 ∧ Logged s t .TIME_WRAP 0xFF 0 (bytesLE 4 0x000DB028)) ∧
  (∀ s : State, s.rst.stage < 9 → exec .availabilityStep s = .next s) ∧
  (∀ s : State, s.rst.stage = 9 → Runs .avSnapshot s fun t =>
      t.av = { s.av with saved := (s.av.insvc, s.av.lost, s.av.excl, s.av.void), snapAt := s.dev } ∧ Logged s t .AV_SNAPSHOT ∧
      t = { s with av := t.av, recd := t.recd, cap := t.cap }) ∧
  (∀ s : State, Runs .availabilityClear s fun t =>
      t = { s with av := { s.av with insvc := 0, lost := 0, excl := 0, void := 0, saved := (0, 0, 0, 0), snapAt := s.dev } })

/-- R402, R406 to R408, R417, R418: nonces, enrolment and release; re-provisioning, FWMINVER and the random generator. -/
def Obligations.OwnershipAndKeys : Prop :=
  (∀ (s : State) (acc : Nat), s.onyxUp = true → s.onyx.rngFlt = false → Runs (.secnonceRead acc) s fun t =>
      t.onyx.nonce = some (t.onyx.nonceReg, s.up) ∧ t.free = s.free + 4 ∧
      t = { s with free := t.free, onyx := { s.onyx with nonce := t.onyx.nonce, nonceReg := t.onyx.nonceReg } }) ∧
  (∀ (s : State) (w : Vector Word 4) (t0 : Nat), s.onyx.nonce = some (w, t0) → t0 + 600000000000 ≤ s.up → Runs .nonceExpiry s fun t =>
      t = { s with onyx := { s.onyx with nonce := none } }) ∧
  (∀ (s : State) (w : Vector Word 4) (t0 : Nat), s.onyx.nonce = some (w, t0) → s.up < t0 + 600000000000 → exec .nonceExpiry s = .next s) ∧
  (∀ (s : State) (st : EnrolStmt) (at_ : Nat), s.onyxUp = true → s.keysUsable = true → s.onyx.owned = false → st.magicOk = true →
      st.serial = Config.devsn → s.onyx.nonce = some (st.nonce, at_) → s.up < at_ + 600000000000 → st.sigOk = true →
      s.certGood st.cert = true → st.hash = st.cert.hash → st.signer = st.cert.key → Runs (.enrolSubmit st) s fun t =>
        t.onyx.owned = true ∧ t.onyx.ownerId = st.cert.hash.take 16 ∧ t.onyx.ownerKey = st.cert.key ∧ t.onyx.nonce = none ∧
        t.onyx.release = none ∧ t.onyx.sealed_ = s.onyx.sealed_ ∧ Logged s t .ENROLLED 0xFF 0 (st.cert.hash.take 16) ∧
        t = { s with onyx := t.onyx, recd := t.recd, cap := t.cap }) ∧
  (∀ (s : State) (st : EnrolStmt) (at_ : Nat), s.onyxUp = true → s.keysUsable = true → s.onyx.owned = true → st.magicOk = true →
      st.serial = Config.devsn → s.onyx.nonce = some (st.nonce, at_) → s.up < at_ + 600000000000 → st.sigOk = true →
      s.certGood st.cert = true → st.hash = st.cert.hash → st.signer = s.onyx.ownerKey → Runs (.enrolSubmit st) s fun t =>
        t.onyx.owned = true ∧ t.onyx.ownerKey = st.cert.key ∧ t.onyx.sealed_ = false ∧
        (∀ x : Fin 4, t.onyx.latch[x] = (s.onyx.latch[x] && s.onyx.nowTrip[x])) ∧ Logged s t .ENROLLED 0xFF 0 (st.cert.hash.take 16)) ∧
  (∀ (s : State) (st : EnrolStmt) (w : Vector Word 4) (t0 : Nat), s.onyxUp = true → s.onyx.nonce = some (w, t0) →
      (t0 + 600000000000 ≤ s.up ∨ w ≠ st.nonce) → Runs (.enrolSubmit st) s fun t =>
        Logged s t .ENROL_REFUSED ∧ t = { s with recd := t.recd, cap := t.cap }) ∧
  (∀ (s : State) (st : EnrolStmt), s.onyxUp = true → s.onyx.owned = true → st.signer ≠ s.onyx.ownerKey → s.onyx.release = none →
      Runs (.enrolSubmit st) s fun t => Logged s t .ENROL_REFUSED ∧ t.onyx.owned = true ∧ t.onyx.ownerKey = s.onyx.ownerKey ∧
        t.onyx.ownerId = s.onyx.ownerId) ∧
  (∀ (s : State) (st : ReleaseStmt) (at_ : Nat), s.onyxUp = true → s.keysUsable = true → s.onyx.owned = true → s.onyx.sealed_ = false →
      st.magicOk = true → st.serial = Config.devsn → s.onyx.nonce = some (st.nonce, at_) → s.up < at_ + 600000000000 → st.sigOk = true →
      st.signer = s.onyx.ownerKey → Runs (.releaseSubmit st) s fun t =>
        t.onyx = { s.onyx with nonce := none, release := some (st.hash, s.up) } ∧ Logged s t .OWNER_RELEASED ∧
        t = { s with onyx := t.onyx, recd := t.recd, cap := t.cap }) ∧
  (∀ (s : State) (h : List Byte) (t0 : Nat), s.onyx.release = some (h, t0) → t0 + 3600000000000 ≤ s.up → Runs .releaseLapse s fun t =>
      t = { s with onyx := { s.onyx with release := none } }) ∧
  (∀ s : State, s.onyxUp = true → s.onyx.keys = false → s.onyx.zeroing = false → s.onyx.rngFlt = false → s.onyx.zepoch < 64 →
      Runs .provgenCommand s fun t =>
        t.onyx.kroot = true ∧ t.onyx.keys = false ∧ t.onyx.nvmKeys = true ∧ t.onyx.certOk = false ∧ t.onyx.provGen = true ∧
        t = { s with onyx := t.onyx, nor := t.nor, free := t.free }) ∧
  (∀ s : State, s.onyxUp = true → 64 ≤ s.onyx.zepoch → Runs .provgenCommand s fun t =>
      t = { s with recd := t.recd, cap := t.cap } ∧ Logged s t .PROV_REFUSED) ∧
  (∀ s : State, s.onyxUp = true → s.onyx.provGen = true → Runs (.provcertSubmit true) s fun t =>
      t.onyx.keys = true ∧ t.onyx.certOk = true ∧ t.onyx.provGen = false ∧ t.onyx.zero = false ∧ t.onyx.zlatch = false ∧
      (∀ x : Fin 4, t.onyx.latch[x] = (s.onyx.latch[x] && s.onyx.nowTrip[x])) ∧ Logged s t .PROVISIONED ∧
      t = { s with onyx := t.onyx, recd := t.recd, cap := t.cap }) ∧
  (∀ s : State, s.onyxUp = true → Runs (.provcertSubmit false) s fun t =>
      t = { s with recd := t.recd, cap := t.cap } ∧ Logged s t .PROV_REFUSED) ∧
  (∀ (s : State) (sess : Nat), s.session sess = true → Runs (.fwminCommand sess) s fun t =>
      t.onyx.fwMin.toNat = max s.onyx.fwMin.toNat (s.nor.fwVersion s.fw.bank).toNat ∧
      t = { s with onyx := { s.onyx with fwMin := t.onyx.fwMin } }) ∧
  (∀ s : State, s.onyxUp = true → s.onyx.rngFlt = false → Runs .onyxRngFail s fun t =>
      t.onyx = { s.onyx with rngFlt := true } ∧ Logged s t .ONYX_RNG_FAIL ∧ t = { s with onyx := t.onyx, recd := t.recd, cap := t.cap }) ∧
  (∀ s : State, Runs .onyxRngRecovered s fun t => t = { s with onyx := { s.onyx with rngFlt := false } }) ∧
  (∀ s : State, Runs .drbgReseed s fun t => t = { s with onyx := { s.onyx with reseedAt := s.up } })

/-- R410 to R416: debug unlocks, and the response to a tamper alarm at each level. R441: five cycles of TMS = 1 reach Test-Logic-Reset,
SAMPLE and EXTEST act only while a debug unlock lasts, and the boundary scan never drives the balls of the power stage. -/
def Obligations.DebugAndTamper : Prop :=
  (∀ (s : State) (k : DebugToken) (at_ : Nat), s.onyxUp = true → s.keysUsable = true → s.onyx.owned = true → s.onyx.sealed_ = false →
      k.magicOk = true → k.serial = Config.devsn → s.onyx.nonce = some (k.nonce, at_) → s.up < at_ + 600000000000 → k.sigOk = true →
      k.scope.toNat < 4 →
      1 ≤ k.minutes → k.minutes ≤ 1440 → (k.scope.getLsbD 1 = true → s.anyGate = false) → Runs (.debugTokenWrite k) s fun t =>
        t.onyx.dbg = some (k.scope.getLsbD 0, k.scope.getLsbD 1, s.up + k.minutes * 60000000000) ∧ t.onyx.nonce = none ∧
        Logged s t .DEBUG_UNLOCKED ∧ t = { s with onyx := t.onyx, recd := t.recd, cap := t.cap }) ∧
  (∀ (s : State) (k : DebugToken), s.onyxUp = true → (s.onyx.sealed_ = true ∨ k.sigOk = false ∨ 4 ≤ k.scope.toNat ∨
      (k.scope.getLsbD 1 = true ∧ s.anyGate = true)) → Runs (.debugTokenWrite k) s fun t =>
        t.onyx.dbg = s.onyx.dbg ∧ Logged s t .DEBUG_REFUSED) ∧
  (∀ s : State, s.onyx.dbg.isSome = true → Runs .debugLockCommand s fun t =>
      t.onyx = { s.onyx with dbg := none } ∧ Logged s t .DEBUG_LOCKED ∧ t = { s with onyx := t.onyx, recd := t.recd, cap := t.cap }) ∧
  (∀ (s : State) (a b : Bool) (t0 : Nat), s.onyx.dbg = some (a, b, t0) → s.up < t0 → exec .debugUnlockExpiry s = .next s) ∧
  (∀ (s : State) (a b : Bool) (t0 : Nat), s.onyx.dbg = some (a, b, t0) → t0 ≤ s.up → Runs .debugUnlockExpiry s fun t =>
      t.onyx = { s.onyx with dbg := none } ∧ Logged s t .DEBUG_LOCKED ∧ t = { s with onyx := t.onyx, recd := t.recd, cap := t.cap }) ∧
  (∀ (s : State) (x : Fin 4), s.rst.held = false → 4 ≤ s.rst.stage → Runs (.tamperTrip x) s fun t =>
      t.onyx.latch[x] = true ∧ Logged s t .TAMPER_LOG x ∧
      (s.onyx.levels[x] = 0 → t.onyx.sealed_ = s.onyx.sealed_ ∧ t.onyx.zlatch = s.onyx.zlatch ∧ t.onyx.keys = s.onyx.keys) ∧
      (s.onyx.levels[x] = 1 → t.onyx.sealed_ = true ∧ t.onyx.dbg = none ∧ t.onyx.zlatch = s.onyx.zlatch) ∧
      (s.onyx.levels[x] = 2 → t.onyx.sealed_ = true ∧ t.onyx.dbg = none ∧ t.onyx.zlatch = true ∧
        (s.onyx.zlatch = false → t.onyx.zero = true ∧ t.onyx.kroot = false ∧ t.onyx.keys = false))) ∧
  (∀ (s : State) (x : Fin 4), s.rst.held = true ∨ s.rst.stage < 4 → Runs (.tamperTrip x) s fun t =>
      t.onyx.latch[x] = true ∧ t.onyx.due[x] = true ∧ t.onyx.sealed_ = s.onyx.sealed_ ∧ t.onyx.keys = s.onyx.keys ∧
      t = { s with onyx := t.onyx }) ∧
  (∀ s : State, s.onyx.zcellDue = true → Runs .zepochCellBlown s fun t =>
      t = { s with onyx := { s.onyx with zcellDue := false, zepoch := min 64 (s.onyx.zepoch + 1) } }) ∧
  (∀ s : State, s.onyx.zeroing = true → Runs .zeroiseNvmErased s fun t =>
      t.onyx.nvmKeys = false ∧ t.onyx.owned = false ∧ t.onyx.ownerId = [] ∧ t.onyx.sessions = [] ∧ t.onyx.zeroing = false ∧
      t.garnet = { s.garnet with unlocked := none } ∧ t.com.step = .idle ∧ (s.com.step ≠ .idle → Logged s t .COMMIT_ABORTED 0xFF 3)) ∧
  (∀ (s : State) (x : TapInstr) (d0 d1 d2 d3 d4 : Bool),
      (((((s.tapClock true d0 x).tapClock true d1 x).tapClock true d2 x).tapClock true d3 x).tapClock true d4 x).tap.state =
        .testLogicReset) ∧
  (∀ s : State, (∀ d, s.onyx.dbg = some d → d.1 = false) → s.tapActs ≠ .sample ∧ s.tapActs ≠ .extest ∧
      ∀ b : BallGroup, s.scanDrives b = false) ∧
  (∀ (s : State) (b : BallGroup), s.scanDrives b = true → b = .other ∧ s.tap.instr = .extest)

/-- R409: at most 8 sessions; ten failed handshakes of an address within 60 s block it; a closing session ends the safety unlock that it
made (R272). -/
def Obligations.Sessions : Prop :=
  (∀ (s : State) (addr : Nat), s.rst.mgmtRun = true → s.onyxUp = true → s.tlsBlocked addr = false → s.onyx.sessions.length < 8 →
      s.keysUsable = true → s.onyx.owned = true → s.onyx.rngFlt = false → Runs (.tlsHandshake addr none) s fun t =>
        t.onyx.sessions.length = s.onyx.sessions.length + 1 ∧
        t = { s with onyx := { s.onyx with sessions := t.onyx.sessions } }) ∧
  (∀ (s : State) (addr : Nat) (a : Byte), s.rst.mgmtRun = true → s.onyxUp = true → s.tlsBlocked addr = false →
      Runs (.tlsHandshake addr (some a)) s fun t =>
        t.onyx.sessions = s.onyx.sessions ∧ Logged s t .TLS_FAIL 0xFF a.toNat ∧
        (9 ≤ (s.failsOf addr).length → t.tlsBlocked addr = true)) ∧
  (∀ (s : State) (addr : Nat), s.rst.mgmtRun = true → s.onyxUp = true → s.tlsBlocked addr = false → s.onyx.sessions.length = 8 →
      Runs (.tlsHandshake addr none) s fun t => t.onyx.sessions = s.onyx.sessions) ∧
  (∀ (s : State) (addr : Nat) (alert : Option Byte), s.tlsBlocked addr = true → exec (.tlsHandshake addr alert) s = .next s) ∧
  (∀ (s : State) (sess : Nat), Runs (.tlsKeyUpdate sess) s fun t =>
      t.onyx.sessions.length = s.onyx.sessions.length ∧ (∀ x ∈ t.onyx.sessions, x.id = sess → x.bytes = 0 ∧ x.keyAt = s.up) ∧
      (∀ x ∈ s.onyx.sessions, x.id ≠ sess → x ∈ t.onyx.sessions) ∧ t = { s with onyx := { s.onyx with sessions := t.onyx.sessions } }) ∧
  (∀ (s : State) (sess : Nat), (∃ x ∈ s.onyx.sessions, x.id = sess ∧ x.opened + 86400000000000 ≤ s.up) →
      Runs (.tlsSessionExpiry sess) s fun t =>
      (∀ x ∈ t.onyx.sessions, x.id ≠ sess) ∧ (∀ x ∈ s.onyx.sessions, x.id ≠ sess → x ∈ t.onyx.sessions) ∧
      t.garnet.unlocked ≠ some sess ∧ t = { s with onyx := { s.onyx with sessions := t.onyx.sessions }, garnet := t.garnet }) ∧
  (∀ (s : State) (sess : Nat), Runs (.tlsSessionClose sess) s fun t =>
      (∀ x ∈ t.onyx.sessions, x.id ≠ sess) ∧ (∀ x ∈ s.onyx.sessions, x.id ≠ sess → x ∈ t.onyx.sessions) ∧
      t.garnet.unlocked ≠ some sess ∧ t = { s with onyx := { s.onyx with sessions := t.onyx.sessions }, garnet := t.garnet })

/-! ## Fabric, host port, recorder -/

/-- R282 to R284: a post takes credit and stands last in its flow, waits where credit is short, or is refused and counted; a pop hands
over the head item, a release gives its credit back. -/
def Obligations.FabricPostsAndPops : Prop :=
  (∀ (s : State) (port : Fin 64) (f : Fin 256) (len : Fin 4) (epoch : BitVec 8) (b : List Byte), s.fab.flows[f].takesFrom port = true →
      heldBack s.fab.waiting port f false = false → len.1 + 1 ≤ s.fab.flows[f].free → s.fenceOpen port = false →
      (∀ i ∈ s.fab.flows[f].items, i.epoch = s.fab.flows[f].epoch) → epoch = s.fab.flows[f].epoch →
      Runs (.fabricPost port f len false epoch b) s fun t =>
        t.fab.flows[f].items = s.fab.flows[f].items ++ [⟨len.1 + 1, false, false, epoch, s.fab.flows[f].seq, b⟩] ∧
        t.fab.flows[f].seq = s.fab.flows[f].seq + 1 ∧ t.fab.flows[f].free = s.fab.flows[f].free - (len.1 + 1) ∧
        t.fab.flows[f].buf = s.fab.flows[f].buf + (len.1 + 1) ∧ t.fab.flows[f].infl = s.fab.flows[f].infl ∧
        (∀ g : Fin 256, g ≠ f → t.fab.flows[g] = s.fab.flows[g]) ∧ t = { s with fab := { s.fab with flows := t.fab.flows } }) ∧
  (∀ (s : State) (port : Fin 64) (f : Fin 256) (len : Fin 4) (fence : Bool) (epoch : BitVec 8) (b : List Byte),
      s.fab.flows[f].takesFrom port = false → s.awaitsMove port f = false → Runs (.fabricPost port f len fence epoch b) s fun t =>
        t.fab.flows[f] = { s.fab.flows[f] with refuse := bump s.fab.flows[f].refuse } ∧
        (∀ g : Fin 256, g ≠ f → t.fab.flows[g] = s.fab.flows[g]) ∧ t = { s with fab := { s.fab with flows := t.fab.flows } }) ∧
  (∀ (s : State) (port : Fin 64) (f : Fin 256) (len : Fin 4) (fence : Bool) (epoch : BitVec 8) (b : List Byte),
      s.fab.flows[f].takesFrom port = false → s.awaitsMove port f = true → Runs (.fabricPost port f len fence epoch b) s fun t =>
        t = { s with fab := { s.fab with waiting := s.fab.waiting ++ [⟨port, f, itemOf len fence epoch b, 0⟩] } }) ∧
  (∀ (s : State) (port : Fin 64) (f : Fin 256) (len : Fin 4) (epoch : BitVec 8) (b : List Byte), s.fab.flows[f].takesFrom port = true →
      heldBack s.fab.waiting port f false = false → s.fab.flows[f].free < len.1 + 1 → Runs (.fabricPost port f len false epoch b) s fun t =>
        t = { s with fab := { s.fab with waiting := s.fab.waiting ++ [⟨port, f, ⟨len.1 + 1, false, false, epoch, 0, b⟩, 0⟩] } }) ∧
  (∀ (s : State) (g : Fin 256) (p : Post), s.fab.waiting = [p] → s.fab.flows[p.flow].takesFrom p.port = true → p.item.fence = false →
      p.item.len ≤ s.fab.flows[p.flow].free → s.fenceOpen p.port = false → p.item.epoch = s.fab.flows[p.flow].epoch →
      (∀ i ∈ s.fab.flows[p.flow].items, i.epoch = s.fab.flows[p.flow].epoch) → Runs (.postCreditAvailable g) s fun t =>
        t.fab.waiting = [] ∧ t.fab.flows[p.flow].items = s.fab.flows[p.flow].items ++ [{ p.item with seq := s.fab.flows[p.flow].seq }] ∧
        t.fab.flows[p.flow].free = s.fab.flows[p.flow].free - p.item.len ∧ t = { s with fab := t.fab }) ∧
  (∀ (s : State) (port : Fin 64) (f : Fin 256) (i : Item) (rest : List Item), s.fab.flows[f].plane ≠ .unconf →
      s.fab.flows[f].frozen = false → s.fab.flows[f].cons = port → port.1 ≠ 63 → s.fab.flows[f].items = i :: rest →
      s.fab.flows[f].held = none → (∀ x ∈ rest, x.epoch = s.fab.flows[f].epoch) → Runs (.fabricPop port f 0) s fun t =>
        t.fab.flows[f].held = some i ∧ t.fab.flows[f].items = rest ∧ t.fab.flows[f].buf = s.fab.flows[f].buf - i.len ∧
        t.fab.flows[f].infl = s.fab.flows[f].infl + i.len ∧ t.fab.flows[f].free = s.fab.flows[f].free ∧
        (∀ g : Fin 256, g ≠ f → t.fab.flows[g] = s.fab.flows[g]) ∧
        t = { s with fab := { s.fab with flows := t.fab.flows }, shadow := t.shadow }) ∧
  (∀ (s : State) (port : Fin 64) (f : Fin 256) (i : Item) (rest : List Item), s.fab.flows[f].plane ≠ .unconf →
      s.fab.flows[f].frozen = false → s.fab.flows[f].cons = port → port.1 ≠ 63 → s.fab.flows[f].items = i :: rest →
      Runs (.fabricPop port f 2) s fun t =>
        t.fab.flows[f].held = some { i with poison := true } ∧ t.fab.poison = bump s.fab.poison ∧ Logged s t .FABRIC_POISON f) ∧
  (∀ (s : State) (port : Fin 64) (f : Fin 256) (ecc : BitVec 2), s.fab.flows[f].items = [] → exec (.fabricPop port f ecc) s = .next s) ∧
  (∀ (s : State) (port : Fin 64) (f : Fin 256) (i : Item), s.fab.flows[f].cons = port → s.fab.flows[f].held = some i →
      Runs (.fabricRelease port f) s fun t =>
        t.fab.flows[f] = { s.fab.flows[f] with held := none, infl := s.fab.flows[f].infl - i.len, free := s.fab.flows[f].free + i.len } ∧
        (∀ g : Fin 256, g ≠ f → t.fab.flows[g] = s.fab.flows[g]) ∧ t = { s with fab := { s.fab with flows := t.fab.flows } })

/-- R5, R281: posts, pops, releases, fences and the host's windows conserve the credits of every flow. -/
def Obligations.CreditsConserved : Prop :=
  ∀ (s : State), (∀ f : Fin 256, s.fab.flows[f].balanced) →
    (∀ (port : Fin 64) (f : Fin 256) (len : Fin 4) (fence : Bool) (epoch : BitVec 8) (b : List Byte),
      Runs (.fabricPost port f len fence epoch b) s fun t => ∀ g : Fin 256, t.fab.flows[g].balanced) ∧
    (∀ (g : Fin 256), Runs (.postCreditAvailable g) s fun t => ∀ g : Fin 256, t.fab.flows[g].balanced) ∧
    (∀ (port : Fin 64) (f : Fin 256) (ecc : BitVec 2), Runs (.fabricPop port f ecc) s fun t => ∀ g : Fin 256, t.fab.flows[g].balanced) ∧
    (∀ (port : Fin 64) (f : Fin 256), Runs (.fabricRelease port f) s fun t => ∀ g : Fin 256, t.fab.flows[g].balanced) ∧
    (∀ (f : Fin 256), Runs (.fenceWritten f) s fun t => ∀ g : Fin 256, t.fab.flows[g].balanced) ∧
    (∀ (f : Fin 256) (len : Fin 4) (fence : Bool) (epoch : BitVec 8) (b : List Byte),
      Runs (.hostFlowPost f len fence epoch b) s fun t => ∀ g : Fin 256, t.fab.flows[g].balanced) ∧
    (∀ (f : Fin 256), Runs (.hostFlowRead f) s fun t => ∀ g : Fin 256, t.fab.flows[g].balanced)

/-- R286 to R288: a fence waits for the memory writes of its port; a transaction takes a slot of its requester's quota or stalls,
and frees it when it is done or times out. That a second fence of a port waits until the first is written is the model's reading
(log 136). -/
def Obligations.FencesAndTracker : Prop :=
  (∀ (s : State) (f : Fin 256) (it : Item), s.fab.flows[f].ingress = [it] → it.fence = true →
      (∀ x ∈ s.fab.txns, x.write = true → it.seq.toNat ≤ x.id ∨ (x.req ≠ s.fab.flows[f].prod ∧ x.req ≠ s.fab.flows[f].prod2)) →
      s.fab.waiting = [] → (∀ i ∈ s.fab.flows[f].items, i.epoch = s.fab.flows[f].epoch) → it.epoch = s.fab.flows[f].epoch → Runs (.fenceWritten f) s fun t =>
        t.fab.flows[f].ingress = [] ∧ t.fab.flows[f].items = s.fab.flows[f].items ++ [{ it with seq := s.fab.flows[f].seq }] ∧
        t = { s with fab := { s.fab with flows := t.fab.flows } }) ∧
  (∀ (s : State) (f : Fin 256) (it : Item) (rest : List Item) (x : Txn), s.fab.flows[f].ingress = it :: rest → x ∈ s.fab.txns →
      x.write = true → x.id < it.seq.toNat → (x.req = s.fab.flows[f].prod ∨ x.req = s.fab.flows[f].prod2) →
      exec (.fenceWritten f) s = .next s) ∧
  (∀ (s : State) (port : Fin 64) (f : Fin 256) (epoch : BitVec 8) (b : List Byte), s.fab.flows[f].takesFrom port = true →
      valueStream port = false → s.fenceOpen port = true → Runs (.fabricPost port f 0 true epoch b) s fun t =>
        t = { s with fab := { s.fab with waiting := s.fab.waiting ++ [⟨port, f, ⟨1, true, false, epoch, 0, b⟩, 0⟩] } }) ∧
  (∀ (s : State) (req : Fin 64) (write : Bool), s.fab.mayIssue req = true → s.fab.stalled.any (fun x => x.req == req.1) = false →
      Runs (.memoryTransactionIssue req write) s fun t =>
        t.fab.txns = s.fab.txns ++ [⟨s.fab.nextId, req, write, none⟩] ∧ t.fab.nextId = s.fab.nextId + 1 ∧
        t.fab.peak = max s.fab.peak (s.fab.txns.length + 1) ∧ t.fab.stalled = s.fab.stalled ∧ t.fab.flows = s.fab.flows ∧
        t = { s with fab := t.fab }) ∧
  (∀ (s : State) (req : Fin 64) (write : Bool), txnQuota req ≠ 0 → s.fab.mayIssue req = false →
      Runs (.memoryTransactionIssue req write) s fun t =>
        t.fab.txns = s.fab.txns ∧ t.fab.stalled = s.fab.stalled ++ [⟨s.fab.nextId, req, write, none⟩] ∧ t.fab.flows = s.fab.flows ∧
        t = { s with fab := t.fab }) ∧
  (∀ (s : State) (id : Nat), s.fab.stalled = [] → Runs (.memoryTransactionDone id) s fun t =>
      t.fab.txns = s.fab.txns.filter (fun x => x.id != id) ∧ t.fab.stalled = [] ∧ t.fab.flows = s.fab.flows ∧ t = { s with fab := t.fab }) ∧
  (∀ (s : State) (id : Nat) (x : Txn), s.fab.txns.find? (fun y => y.id == id) = some x → x.frame = none → s.fab.stalled = [] →
      Runs (.txnTimeout id) s fun t =>
        t.fab.txns = s.fab.txns.filter (fun y => y.id != id) ∧ t.fab.txnTmo = bump s.fab.txnTmo ∧ Logged s t .TXN_TIMEOUT x.req ∧
        t = { s with fab := t.fab, recd := t.recd, cap := t.cap }) ∧
  (∀ s : State, Runs .fabricCountersClear s fun t =>
      t.fab.txnTmo = .zero ∧ t.fab.ecc = .zero ∧ t.fab.poison = .zero ∧ t.fab.jasFail = false ∧
      (∀ f : Fin 256, t.fab.flows[f] = { s.fab.flows[f] with stale := .zero, refuse := .zero }) ∧ t = { s with fab := t.fab })

/-- R290 to R296: the move of a task at its boundary, a flow that fails its check is frozen and reported, and is rebuilt once its motor
objects are in PULSE_BLOCK. -/
def Obligations.MovesAndChecks : Prop :=
  (∀ (s : State) (k : Fin 28) (v : Move), s.fab.moves.find? (fun v => v.task == k) = some v → s.moveRefused k = true →
      Runs (.migrationBoundary k) s fun t =>
        t.fab.tasks = s.fab.tasks ∧ t.fab.flows = s.fab.flows ∧ (∀ w ∈ t.fab.moves, w.task ≠ k) ∧ Logged s t .MIGRATE_REFUSED k ∧
        t = { s with fab := t.fab, recd := t.recd, cap := t.cap }) ∧
  (∀ (s : State) (k : Fin 28) (v : Move), s.fab.moves.find? (fun v => v.task == k) = some v → s.moveRefused k = false →
      Runs (.migrationBoundary k) s fun t =>
        t.fab.tasks[k].engine = some v.engine ∧ t.fab.tasks[k].epoch = s.fab.tasks[k].epoch + 1 ∧
        t.fab.oldPort[k] = some (s.taskPort k) ∧ (∀ w ∈ t.fab.moves, w.task ≠ k) ∧ t = { s with fab := t.fab }) ∧
  (∀ (s : State) (k : Fin 28) (p : Nat), s.fab.oldPort[k] = some p → Runs (.flowMigrated k) s fun t =>
      t.fab.oldPort[k] = none ∧ (∀ f : Fin 256, s.producedBy f k = true → t.fab.flows[f].prod2 = 63) ∧ Logged s t .FLOW_MIGRATED k) ∧
  (∀ (s : State) (u : FlowUpset), s.fab.run = true → u.tracker = false → s.fab.flows[u.index].plane = .fast →
      s.fab.flows[u.index].frozen = false → u.free + u.buf + u.infl ≠ s.fab.flows[u.index].depth → Runs (.jasperAuditRound (some u)) s fun t =>
        t.fab.flows[u.index].frozen = true ∧ t.fab.jasFail = true) ∧
  (∀ s : State, (∀ f : Fin 256, s.fab.flows[f].plane = .unconf ∨ s.fab.flows[f].frozen = true ∨ s.fab.flows[f].law) →
      exec (.jasperAuditRound none) s = .next s) ∧
  (∀ (s : State) (u : FlowUpset), u.tracker = false → s.fab.flows[u.index].plane = .fast → s.fab.flows[u.index].frozen = false →
      Runs (.countParityError u) s fun t =>
        t.fab.flows[u.index].frozen = true ∧ t.fab.jasFail = true ∧ t.fab.lastFlow = u.index.1 ∧ t.fab.lastKind = 2 ∧
        Logged s t .FABRIC_CONSERVATION u.index.1 2
          (bytesLE 2 u.free ++ bytesLE 2 u.buf ++ bytesLE 2 u.infl ++ bytesLE 2 s.fab.flows[u.index].depth)) ∧
  (∀ (s : State) (f : Fin 256), s.fab.flows[f].frozen = true → s.fab.flows[f].plane ≠ .mgmt → s.flowIdle f = true →
      Runs (.flowRebuild f) s fun t => t.fab.flows[f] = s.fab.flows[f].emptied ∧ Logged s t .FLOW_REBUILT f) ∧
  (∀ (s : State) (f : Fin 256), (s.fab.flows[f].frozen = false ∨ s.fab.flows[f].plane = .mgmt ∨ s.flowIdle f = false) →
      Runs (.flowRebuild f) s fun t => Logged s t .FLOW_CONFIG f ∧ t = { s with recd := t.recd, cap := t.cap })

/-- R298, R300: the mode of LEGACY comes into force at a link reset; a host fence stands in every mailbox lane, its token is echoed once
the firmware has consumed all four; flows are the host's own in native mode. -/
def Obligations.HostModeAndFences : Prop :=
  (∀ s : State, s.rst.held = false → Runs .pcieLinkReset s fun t =>
      t.fab = { s.fab with mode := s.fab.legacy } ∧ Logged s t .HOST_MODE 0xFF (bit 0 s.fab.legacy) ∧
      t = { s with fab := t.fab, recd := t.recd, cap := t.cap }) ∧
  (∀ (s : State) (tok : Word), s.fab.run = true → Runs (.hostFence tok) s fun t =>
      t.fab.hostToks = s.fab.hostToks ++ [tok] ∧ t = { s with fab := t.fab }) ∧
  (∀ (s : State) (tok : Word) (l : List Word), s.fab.hostToks = tok :: l → s.rst.mgmtRun = true →
      (∀ f ∈ lanes, (untilFence s.fab.flows[f].items).isSome = true) → Runs .hostFenceDone s fun t =>
        t.fab.fdone = tok ∧ t.fab.hostToks = l) ∧
  (∀ (s : State) (f : Fin 256) (len : Fin 4) (fence : Bool) (epoch : BitVec 8) (b : List Byte), s.fab.mode = false →
      Runs (.hostFlowPost f len fence epoch b) s fun t => exec (.fabricPost 24 f len fence epoch b) s = .next t) ∧
  (∀ (s : State) (f : Fin 256), s.fab.mode = false → Runs (.hostFlowRead f) s fun t => exec (.fabricPop 24 f 0) s = .next t) ∧
  (∀ (s : State) (f : Fin 256) (len : Fin 4) (fence : Bool) (epoch : BitVec 8) (b : List Byte), s.fab.mode = true →
      exec (.hostFlowPost f len fence epoch b) s = .next s ∧ exec (.hostFlowRead f) s = .next s)

/-- R299, R454: a message of a forerunner host is acted on once by its SEQ: a setpoint as a write to SETPT, a command by the order
STOP0, QSTOP, STOP, RUN, a write as a BAR0 write, a read with its response in the image, any other type rejected. -/
def Obligations.MailboxMessages : Prop :=
  (∀ (s : State) (blk : BitVec 16) (seq v : Word) (m : Fin 4), s.mailFresh blk.toNat seq = true →
      Runs (.mailboxSetpoint blk seq (BitVec.ofNat 8 m) v) s fun t => exec (.setpointWrite m v) (s.seen blk.toNat seq) = .next t) ∧
  (∀ (s : State) (blk : BitVec 16) (seq : Word) (m : Fin 4) (b : Byte), s.mailFresh blk.toNat seq = true → b.getLsbD 3 = true →
      Runs (.mailboxCommand blk seq (BitVec.ofNat 8 m) b) s fun t => exec (.stop0Command m) (s.seen blk.toNat seq) = .next t) ∧
  (∀ (s : State) (blk : BitVec 16) (seq : Word) (m : Fin 4) (b : Byte), s.mailFresh blk.toNat seq = true → b.getLsbD 3 = false →
      b.getLsbD 2 = true → Runs (.mailboxCommand blk seq (BitVec.ofNat 8 m) b) s fun t =>
        exec (.quickStopCommand m) (s.seen blk.toNat seq) = .next t) ∧
  (∀ (s : State) (blk : BitVec 16) (seq : Word) (m : Fin 4), s.mailFresh blk.toNat seq = true →
      Runs (.mailboxCommand blk seq (BitVec.ofNat 8 m) 2) s fun t => exec (.stopCommand m) (s.seen blk.toNat seq) = .next t) ∧
  (∀ (s : State) (blk : BitVec 16) (seq : Word) (m : Fin 4), s.mailFresh blk.toNat seq = true →
      Runs (.mailboxCommand blk seq (BitVec.ofNat 8 m) 1) s fun t => exec (.runCommand m) (s.seen blk.toNat seq) = .next t) ∧
  (∀ (s : State) (blk : BitVec 16) (seq addr v : Word), s.mailFresh blk.toNat seq = true → Runs (.mailboxWrite blk seq addr v) s fun t =>
      exec (.registerWrite 0 addr 4 v) (s.seen blk.toNat seq) = .next t) ∧
  (∀ (s : State) (blk : BitVec 16) (seq addr count : Word), s.mailFresh blk.toNat seq = true → count = 0 ∨ 12 < count.toNat →
      (s.fab.mbox.image.map Prod.fst).Pairwise (· < ·) →
      Runs (.mailboxRead blk seq addr count) s fun t => t.fab.mfence ≠ s.fab.mfence ∧
        (∀ i : Fin 12, t.mailByte (0x8140 + 0x40 * (seq.toNat % 59) + i) =
          ((bytesLE 4 seq.toNat ++ bytesLE 4 addr.toNat ++ bytesLE 4 1).getD i 0)) ∧ t = { s with free := t.free, fab := t.fab }) ∧
  (∀ (s : State) (blk : BitVec 16) (seq : Word) (typ : BitVec 16), s.mailFresh blk.toNat seq = true →
      Runs (.mailboxOtherType blk seq typ) s fun t => t.fab = (s.seen blk.toNat seq).fab ∧
        Logged s t .WRITE_REJECTED 0xFF 0 (bytesLE 4 blk.toNat ++ bytesLE 4 typ.toNat) ∧
        t = { s with fab := t.fab, recd := t.recd, cap := t.cap }) ∧
  (∀ (s : State) (blk : BitVec 16) (seq a b : Word) (mo c : Byte) (typ : BitVec 16), s.mailFresh blk.toNat seq = false →
      exec (.mailboxSetpoint blk seq mo a) s = .next s ∧ exec (.mailboxCommand blk seq mo c) s = .next s ∧
      exec (.mailboxRead blk seq a b) s = .next s ∧ exec (.mailboxWrite blk seq a b) s = .next s ∧
      exec (.mailboxOtherType blk seq typ) s = .next s) ∧
  (∀ s : State, s.fab.mode = true → s.rst.mgmtRun = true → Runs .mailboxStatusRefresh s fun t =>
      t.fab.mbox.evNext = s.recd.next ∧ t.fab.flows = s.fab.flows ∧ t = { s with free := t.free, fab := t.fab }) ∧
  (∀ s : State, s.fab.mode = false ∨ s.rst.mgmtRun = false → exec .mailboxStatusRefresh s = .next s)

/-- R11, R442, R449: an aligned 32-bit write to a register does what the register's meaning says; any other write changes nothing and is
journaled with its address and value. -/
def Obligations.RegisterWrites : Prop :=
  (∀ (s : State) (acc : Nat) (m : Fin 4) (v : Word), s.busOpen acc = true →
      Runs (.registerWrite acc (BitVec.ofNat 32 (0x00050208 + 0x1000 * m.1)) 4 v) s fun t => exec (.setpointWrite m v) s = .next t) ∧
  (∀ (s : State) (acc : Nat) (m : Fin 4), s.busOpen acc = true →
      Runs (.registerWrite acc (BitVec.ofNat 32 (0x00050204 + 0x1000 * m.1)) 4 1) s fun t => exec (.runCommand m) s = .next t) ∧
  (∀ (s : State) (acc : Nat) (m : Fin 4), s.busOpen acc = true →
      Runs (.registerWrite acc (BitVec.ofNat 32 (0x00050804 + 0x1000 * m.1)) 4 1) s fun t => exec (.stop0Command m) s = .next t) ∧
  (∀ (s : State) (acc : Nat) (k : Fin 8), s.busOpen acc = true →
      Runs (.registerWrite acc (BitVec.ofNat 32 (0x00058004 + 0x100 * k.1)) 4 1) s fun t => exec (.piErrorClear k) s = .next t) ∧
  (∀ (s : State) (acc : Nat), s.busOpen acc = true →
      Runs (.registerWrite acc 0x00020004 4 1) s fun t => exec .fabricCountersClear s = .next t) ∧
  (∀ (s : State) (acc : Nat) (addr v : Word) (size : BitVec 3), s.busOpen acc = true → (size ≠ 4 ∨ addr.toNat % 4 ≠ 0 ∨ barEnd ≤ addr.toNat) →
      Runs (.registerWrite acc addr size v) s fun t =>
        Logged s t .WRITE_REJECTED 0xFF 0 (bytesLE 4 addr.toNat ++ bytesLE 4 v.toNat) ∧ t = { s with recd := t.recd, cap := t.cap }) ∧
  (∀ (s : State) (acc : Nat) (v : Word) (o : Fin 0x2200), s.busOpen acc = true → o.1 % 4 = 0 →
      Runs (.registerWrite acc (BitVec.ofNat 32 (0x00040000 + o.1)) 4 v) s fun t =>
        Logged s t .WRITE_REJECTED 0xFF 0 (bytesLE 4 (0x00040000 + o.1) ++ bytesLE 4 v.toNat) ∧
        t = { s with recd := t.recd, cap := t.cap }) ∧
  (∀ (s : State) (acc : Nat) (addr v : Word) (size : BitVec 3), s.busOpen acc = false → exec (.registerWrite acc addr size v) s = .next s)

/-- R20, R343, R446, R464, R465: an event handed over is kept; the earliest open grid point closes in code order; the writer programs
the oldest entries into the next page; a capture buffer is armed empty at S9, takes a software trigger once, and stops without DONE. -/
def Obligations.RecorderAndCapture : Prop :=
  (∀ (s : State) (code : BitVec 16) (unit aux : Byte) (stamp : BitVec 64) (data : List Byte),
      (s.recd.on = true → s.recd.ring.length + 64 ≤ ringMax) → Runs (.evrecEntry code unit aux stamp data) s fun t =>
        t.keeps ⟨code.toNat, unit.toNat, aux.toNat, gridOf stamp, data.take 16⟩ ∧ (∀ e, s.keeps e → t.keeps e) ∧
        t = { s with recd := t.recd, cap := t.cap }) ∧
  (∀ (s : State) (t0 : BitVec 64), earliest s.recd.open_ = some t0 → s.recd.ring.length + s.recd.open_.length ≤ ringMax →
      s.recd.next.toNat + s.recd.open_.length < 2 ^ 32 → Runs .evrecGridClose s fun t => ∃ l : List Entry,
        l.Perm (s.recd.open_.filter fun e => e.time == t0) ∧ l.Pairwise (fun a b => a.code ≤ b.code) ∧
        t.recd.ring.map Prod.snd = l.reverse ++ s.recd.ring.map Prod.snd ∧ t.recd.next.toNat = s.recd.next.toNat + l.length ∧
        t.recd.open_ = s.recd.open_.filter (fun e => !(e.time == t0)) ∧ t = { s with recd := t.recd }) ∧
  (∀ s : State, s.recd.open_ = [] → exec .evrecGridClose s = .next s) ∧
  (∀ s : State, s.jrn.ready = true → (8 - s.jrn.wpos % 8 ≤ s.recd.ring.length ∨ s.recd.lastAt + 1000000 ≤ s.up) → s.recd.ring ≠ [] →
      s.jrn.wpos < jrnSlots → s.recd.spell = none → Runs .journalPageWrite s fun t =>
      (∀ (i : Nat) (x : Word × Entry), i < 8 - s.jrn.wpos % 8 → s.recd.ring.reverse[i]? = some x →
        (s.jrn.wpos + i, x.1, x.2) ∈ t.jrn.slots) ∧
      t.jrn.wpos = (s.jrn.wpos + min (8 - s.jrn.wpos % 8) s.recd.ring.length) % jrnSlots ∧
      t.recd = { s.recd with ring := s.recd.ring.take (s.recd.ring.length - (8 - s.jrn.wpos % 8)) } ∧ t = { s with jrn := t.jrn, recd := t.recd }) ∧
  (∀ s : State, (s.jrn.ready = false ∨ s.recd.ring = [] ∨ (s.recd.ring.length < 8 - s.jrn.wpos % 8 ∧ s.up < s.recd.lastAt + 1000000)) →
      exec .journalPageWrite s = .next s) ∧
  (∀ s : State, Runs .journalSectorEraseDone s fun t => t = { s with jrn := { s.jrn with ahead := true } }) ∧
  (∀ (s : State) (k : Fin 8), s.cap[k].config = true → s.rst.stage = 9 → Runs (.captureArm k) s fun t =>
      t.cap[k].run = true ∧ t.cap[k].frames = [] ∧ t.cap[k].trigged = false ∧ t.cap[k].done = false ∧ t.cap[k].size = s.cap[k].size ∧
      (∀ j : Fin 8, j ≠ k → t.cap[j] = s.cap[j]) ∧ t = { s with cap := t.cap }) ∧
  (∀ (s : State) (k : Fin 8), s.rst.stage < 9 → exec (.captureArm k) s = .next s) ∧
  (∀ (s : State) (k : Fin 8), s.cap[k].run = true → s.cap[k].trigged = false → Runs (.captureSoftwareTrigger k) s fun t =>
      t.cap[k].trigged = true ∧ t.cap[k].trigNow = true ∧ t.cap[k].trigT = s.stamp ∧
      t.cap[k].post = s.cap[k].size / 64 * (100 - s.n Fld.SERVICE_CAP_PRE 0 k) / 100 ∧ t.cap[k].frames = s.cap[k].frames ∧
      Logged s t .CAP_TRIGGERED k ∧ t = { s with cap := t.cap, recd := t.recd }) ∧
  (∀ (s : State) (k : Fin 8), s.cap[k].run = true → Runs (.captureStop k) s fun t =>
      t.cap[k] = { s.cap[k] with run := false, trigged := false, trigNow := false } ∧ (∀ j : Fin 8, j ≠ k → t.cap[j] = s.cap[j]) ∧
      t = { s with cap := t.cap })

/-! ## Analog cells and current loops -/

/-- R40, R45, R46, R49, R50, R51: a sample of an entry that averages nothing is clamped, shifted and written as the entry's result; a
finished regular or injected sequence moves its results and its stamp to the registers. -/
def Obligations.ConversionResults : Prop :=
  (∀ (s : State) (c : Fin 8) (k : Fin 4) (v : Fin 5) (e : Fin 16) (code : Int), s.cells[c].sq[k].conv = some v →
      (∀ j : Fin 4, s.cells[c].sq[j].conv = some v → j = k) →
      s.cells[c].sq[k].inj.active = false → s.cells[c].sq[k].reg.active = true → s.cells[c].sq[k].reg.entry = e →
      e.1 < s.n Fld.CELL_SQ_LEN c k → s.cells[c].offline = false → s.cells[c].fullPend = false → s.n Fld.CELL_SQ_E_AVG c k e = 0 →
      s.cells[c].sq[k].reg.acc = 0 → s.cells[c].sq[k].reg.sample = 0 → Runs (.sampleConversionDone c.castSucc v code) s fun t =>
        t.cells[c].sq[k].reg.entry = e + 1 ∧
        (t.cells[c].sq[k].reg.work[e]).value =
          clampI (s.codeRange c (s.n Fld.CELL_SQ_E_IN c k e)).1 (s.codeRange c (s.n Fld.CELL_SQ_E_IN c k e)).2 code /
            (2 : Int) ^ s.n Fld.CELL_SQ_E_SHIFT c k e ∧
        (t.cells[c].sq[k].reg.work[e]).cv = v ∧ t.cells[c].sq[k].res = s.cells[c].sq[k].res ∧
        t.cells[c].cv[v].susNext = (decide (code < (s.codeRange c (s.n Fld.CELL_SQ_E_IN c k e)).1) ||
          decide ((s.codeRange c (s.n Fld.CELL_SQ_E_IN c k e)).2 < code)) ∧
        (∀ d : Fin 8, d ≠ c → t.cells[d] = s.cells[d]) ∧ t = { s with cells := t.cells, recd := t.recd, cap := t.cap }) ∧
  (∀ (s : State) (c : Fin 8) (k : Fin 4) (v : Fin 5) (code : Int), s.cells[c].offline = true →
      exec (.sampleConversionDone c.castSucc v code) s = .next s) ∧
  (∀ (s : State) (c : Fin 8) (k : Fin 4), s.cells[c].sq[k].reg.active = true →
      s.n Fld.CELL_SQ_LEN c k ≤ s.cells[c].sq[k].reg.entry → Runs (.regularSequenceDone c.castSucc k) s fun t =>
        (∀ e : Fin 16, t.cells[c].sq[k].res[e] =
          if e.1 < s.n Fld.CELL_SQ_LEN c k then s.cells[c].sq[k].reg.work[e] else s.cells[c].sq[k].res[e]) ∧
        t.cells[c].sq[k].stamp = s.cells[c].sq[k].reg.hold ∧ (s.continuous c k = false → t.cells[c].sq[k].reg = .idle) ∧
        (s.continuous c k = true → s.calibrating c = false → t.cells[c].sq[k].reg.active = true ∧ t.cells[c].sq[k].reg.entry = 0) ∧
        (∀ j : Fin 4, j ≠ k → t.cells[c].sq[j] = s.cells[c].sq[j]) ∧ (∀ d : Fin 8, d ≠ c → t.cells[d] = s.cells[d]) ∧
        t = { s with cells := t.cells, fab := t.fab }) ∧
  (∀ (s : State) (c : Fin 8) (k : Fin 4), s.cells[c].sq[k].inj.active = true →
      s.n Fld.CELL_SQ_ILEN c k ≤ s.cells[c].sq[k].inj.entry → Runs (.injectedSequenceDone c.castSucc k) s fun t =>
        (∀ e : Fin 4, t.cells[c].sq[k].injRes[e] =
          if e.1 < s.n Fld.CELL_SQ_ILEN c k then s.cells[c].sq[k].inj.work[e.1]'(by omega) else s.cells[c].sq[k].injRes[e]) ∧
        t.cells[c].sq[k].injStamp = s.cells[c].sq[k].inj.hold ∧ t.cells[c].sq[k].inj = .idle ∧ t.cells[c].sq[k].regPend = false ∧
        (s.cells[c].sq[k].regPend = true → s.calibrating c = false →
          t.cells[c].sq[k].reg.active = true ∧ t.cells[c].sq[k].reg.late = true ∧ t.cells[c].sq[k].reg.entry = 0) ∧
        (s.cells[c].sq[k].regPend = false → s.calibrating c = false → s.cells[c].sq[k].reg.active = true →
          t.cells[c].sq[k].reg.active = true ∧ t.cells[c].sq[k].reg.entry = s.cells[c].sq[k].reg.entry ∧
          (s.cells[c].sq[k].reg.entry ≠ 0 → t.cells[c].sq[k].reg = s.cells[c].sq[k].reg)) ∧
        (s.cells[c].sq[k].regPend = false → s.cells[c].sq[k].reg = .idle → s.continuous c k = false → t.cells[c].sq[k].reg = .idle) ∧
        (s.calibrating c = true → t.cells[c].sq[k].reg = .idle) ∧ t = { s with cells := t.cells, fab := t.fab })

/-- R45, R47, R48: a trigger starts the sequence of an idle sequencer that can convert, an urgent one preempts; a trigger that cannot be
converted is counted as missed or overrun, with an event at the first; the counters clear. -/
def Obligations.SequenceTriggers : Prop :=
  (∀ (s : State) (c : Fin 8) (k : Fin 4), s.n Fld.CELL_SQ_LEN c k ≠ 0 → s.continuous c k = false → s.cells[c].sq[k].conv.isSome = true →
      s.cells[c].rdy = true → s.calibrating c = false → s.cells[c].sq[k].reg.active = false → s.cells[c].sq[k].regPend = false →
      s.cells[c].sq[k].inj.active = false → s.seqWaits c k = false → Runs (.softwareRegularTrigger c.castSucc k) s fun t =>
        (s.cells[c].sq[k].track + s.n Fld.CELL_SQ_E_TACQ c k 0 ≤ s.up + 5 →
          t.cells[c].sq[k].reg = SeqRun.begin_ (s.dev + 5).toNat false) ∧
        (s.up + 5 < s.cells[c].sq[k].track + s.n Fld.CELL_SQ_E_TACQ c k 0 → t.cells[c].sq[k].reg =
          SeqRun.begin_ (s.dev + BitVec.ofNat 64 (s.cells[c].sq[k].track + s.n Fld.CELL_SQ_E_TACQ c k 0 - s.up)).toNat true) ∧
        t.cells[c].sq[k].inj = s.cells[c].sq[k].inj ∧
        (∀ j : Fin 4, j ≠ k → t.cells[c].sq[j] = s.cells[c].sq[j]) ∧ (∀ d : Fin 8, d ≠ c → t.cells[d] = s.cells[d]) ∧
        t = { s with cells := t.cells }) ∧
  (∀ (s : State) (c : Fin 8) (k : Fin 4), s.n Fld.CELL_SQ_LEN c k ≠ 0 → s.continuous c k = false →
      (s.cells[c].sq[k].conv = none ∨ s.cells[c].rdy = false ∨ s.calibrating c = true) → Runs (.softwareRegularTrigger c.castSucc k) s fun t =>
        t.cells[c].trgMiss = bump s.cells[c].trgMiss ∧ t.cells[c].sq = s.cells[c].sq ∧
        (s.cells[c].missSeen = false → Logged s t .TRG_MISSED c) ∧ t = { s with cells := t.cells, recd := t.recd, cap := t.cap }) ∧
  (∀ (s : State) (c : Fin 8) (k : Fin 4), s.n Fld.CELL_SQ_LEN c k ≠ 0 → s.continuous c k = false → s.cells[c].sq[k].conv.isSome = true →
      s.cells[c].rdy = true → s.calibrating c = false → (s.cells[c].sq[k].reg.active = true ∨ s.cells[c].sq[k].regPend = true ∨ s.seqWaits c k = true) →
      Runs (.softwareRegularTrigger c.castSucc k) s fun t =>
        t.cells[c].regOvr = bump s.cells[c].regOvr ∧ t.cells[c].sq = s.cells[c].sq ∧
        (s.cells[c].regOvrSeen = false → Logged s t .REG_OVERRUN c) ∧ t = { s with cells := t.cells, recd := t.recd, cap := t.cap }) ∧
  (∀ (s : State) (c : Fin 8) (k : Fin 4), s.n Fld.CELL_SQ_ILEN c k ≠ 0 → s.cells[c].sq[k].conv.isSome = true → s.cells[c].rdy = true →
      s.calibrating c = false → s.cells[c].sq[k].inj.active = false →
      Runs (.urgentTrigger c.castSucc k) s (fun t =>
        t.cells[c].sq[k].inj =
          SeqRun.begin_ (s.dev + BitVec.ofNat 64 (20 + max (s.n Fld.CELL_SQ_I_TACQ c k 0) 100)).toNat false ∧
        t.cells[c].sq[k].reg.active = s.cells[c].sq[k].reg.active ∧
        (s.cells[c].sq[k].reg.active = true → t.cells[c].sq[k].reg.entry = s.cells[c].sq[k].reg.entry ∧
          t.cells[c].sq[k].reg.sample = 0 ∧ t.cells[c].sq[k].reg.rerun = true) ∧ t = { s with cells := t.cells }) ∧
      (s.n Fld.CELL_SQ_UTRIG c k = 5 → exec (.softwareUrgentTrigger c.castSucc k) s = exec (.urgentTrigger c.castSucc k) s)) ∧
  (∀ (s : State) (c : Fin 8) (k : Fin 4), s.n Fld.CELL_SQ_UTRIG c k = 4 → exec (.softwareUrgentTrigger c.castSucc k) s = .next s) ∧
  (∀ (s : State) (c : Fin 8) (k : Fin 4), s.n Fld.CELL_SQ_ILEN c k ≠ 0 → s.cells[c].sq[k].conv.isSome = true → s.cells[c].rdy = true →
      s.calibrating c = false → s.cells[c].sq[k].inj.active = false → s.n Fld.CELL_SQ_UTRIG c k = 5 →
      Runs (.softwareUrgentTrigger c.castSucc k) s fun t =>
        t.cells[c].sq[k].inj.active = true ∧ t.cells[c].sq[k].inj.entry = 0 ∧ (∀ d : Fin 8, d ≠ c → t.cells[d] = s.cells[d]) ∧
        t = { s with cells := t.cells }) ∧
  (∀ (s : State) (c : Fin 8) (k : Fin 4), s.n Fld.CELL_SQ_ILEN c k ≠ 0 → s.cells[c].rdy = false → s.calibrating c = false →
      Runs (.urgentTrigger c.castSucc k) s fun t =>
        t.cells[c].trgMiss = bump s.cells[c].trgMiss ∧ t.cells[c].sq = s.cells[c].sq ∧ t = { s with cells := t.cells, recd := t.recd, cap := t.cap }) ∧
  (∀ (s : State) (c : Fin 8) (k : Fin 4), s.n Fld.CELL_SQ_ILEN c k ≠ 0 →
      (s.calibrating c = true ∨ (s.cells[c].rdy = true ∧ s.cells[c].sq[k].conv = none)) →
      Runs (.urgentTrigger c.castSucc k) s fun t =>
        t.cells[c].injMiss = bump s.cells[c].injMiss ∧ t.cells[c].sq = s.cells[c].sq ∧
        (s.cells[c].injMissSeen = false → Logged s t .INJ_MISSED c) ∧ t = { s with cells := t.cells, recd := t.recd, cap := t.cap }) ∧
  (∀ (s : State) (c : Fin 8), Runs (.cellCountersClear c.castSucc) s fun t =>
      t.cells[c] = { s.cells[c] with trgMiss := .zero, injMiss := .zero, regOvr := .zero, injOvr := .zero, regOvrSeen := false,
                                     injOvrSeen := false } ∧
      (∀ d : Fin 8, d ≠ c → t.cells[d] = s.cells[d]) ∧ t = { s with cells := t.cells }) ∧
  (∀ s : State, Runs (.cellCountersClear 8) s fun t =>
      t = { s with hk := { s.hk with trgMiss := .zero, regOvr := .zero, regOvrSeen := false } })

/-- R53, R56, R57, R59 to R61, R363: the reference of a cell, its full calibration and its background rounds; a converter is handed over
only between two entries. That an abort with no round running answers LAST = 1 is the model's choice (log 128). -/
def Obligations.ReferencesAndCalibration : Prop :=
  (∀ (s : State) (c : Fin 8), s.cells[c].refen = false → Runs (.refenWrite c.castSucc true) s fun t =>
      t.cells[c] = { s.cells[c] with refen := true, rdy := false, missSeen := false } ∧ t = { s with cells := t.cells }) ∧
  (∀ (s : State) (c : Fin 8), s.cells[c].refen = true → s.cellInUse c = false → Runs (.refenWrite c.castSucc false) s fun t =>
      t.cells[c] = { s.cells[c] with refen := false, rdy := false } ∧ t = { s with cells := t.cells }) ∧
  (∀ (s : State) (c : Fin 8), s.cells[c].refen = true → s.cells[c].rdy = false → Runs (.refReady c.castSucc) s fun t =>
      t.cells[c].rdy = true ∧ (7 ≤ s.rst.stage → s.cells[c].calibrated = false → t.cells[c].fullPend = true) ∧
      (∀ d : Fin 8, d ≠ c → t.cells[d] = s.cells[d])) ∧
  (∀ (s : State) (c : Fin 8), s.cells[c].rdy = true → s.calibrating c = false → s.cellInUse c = false → s.cells[c].bgAct = false →
      Runs (.fullCalibrationCommand c.castSucc) s fun t =>
        t.cells[c] = { s.cells[c] with calLast := 1, fullPend := true, missSeen := false, injMissSeen := false } ∧
        t = { s with cells := t.cells }) ∧
  (∀ (s : State) (c : Fin 8), s.cells[c].rdy = true → s.calibrating c = false → s.cellInUse c = true →
      Runs (.fullCalibrationCommand c.castSucc) s fun t =>
        t.cells[c] = { s.cells[c] with calLast := 2 } ∧ Logged s t .CAL_BUSY c ∧ t = { s with cells := t.cells, recd := t.recd, cap := t.cap }) ∧
  (∀ (s : State) (c : Fin 8), s.cells[c].rdy = false ∨ s.calibrating c = true → Runs (.fullCalibrationCommand c.castSucc) s fun t =>
      t.cells[c] = { s.cells[c] with calLast := 3 } ∧ Logged s t .CAL_REJECTED c ∧
      t = { s with cells := t.cells, recd := t.recd, cap := t.cap }) ∧
  (∀ (s : State) (c : Fin 8), s.cells[c].fullPend = true → (∀ k : Fin 4, s.cells[c].sq[k].inj.active = false) →
      Runs (.calibrationDrainDone c.castSucc) s fun t =>
      t.cells[c].offline = true ∧ t.cells[c].fullPend = false ∧ (∀ v : Fin 5, t.cells[c].cv[v].role = .calibrating) ∧
      (∀ k : Fin 4, t.cells[c].sq[k].reg = .idle ∧ t.cells[c].sq[k].inj = .idle ∧ t.cells[c].sq[k].regPend = false) ∧
      t = { s with cells := t.cells }) ∧
  (∀ (s : State) (c : Fin 8), s.cells[c].fullPend = false ∨ (∃ k : Fin 4, s.cells[c].sq[k].inj.active = true) →
      exec (.calibrationDrainDone c.castSucc) s = .next s) ∧
  (∀ (s : State) (c : Fin 8) (offs : Vector Int 5) (gains : Vector Rat 5) (mis : Vector (Vector Int 6) 5), s.cells[c].offline = true →
      Runs (.fullCalibrationDone c.castSucc offs gains mis) s fun t =>
        t.cells[c].offline = false ∧ t.cells[c].calibrated = true ∧
        (∀ v : Fin 5, t.cells[c].cv[v].ofs = offs[v] ∧ t.cells[c].cv[v].fail = !factorsOk offs[v] gains[v] mis[v] ∧
          t.cells[c].cv[v].calAt = some s.up) ∧ t.pending = s.pending) ∧
  (∀ (s : State) (c : Fin 8), s.bgCan c = true → Runs (.bgroundStartCommand c.castSucc) s fun t =>
      t.cells[c].bgAct = true ∧ t.cells[c].bgStep = 0 ∧ t.cells[c].calLast = 1 ∧ t.cells[c].bgTemp = some s.die.code ∧
      (∀ v : Fin 5, t.cells[c].cv[v].role = if s.cells[c].cv[v].role = .spare then .calibrating else s.cells[c].cv[v].role) ∧
      t = { s with cells := t.cells }) ∧
  (∀ (s : State) (c : Fin 8), s.bgCan c = false → Runs (.bgroundStartCommand c.castSucc) s fun t =>
      t.cells[c] = { s.cells[c] with calLast := 3 } ∧ Logged s t .CAL_REJECTED c ∧
      t = { s with cells := t.cells, recd := t.recd, cap := t.cap }) ∧
  (∀ (s : State) (c : Fin 8), s.cells[c].bgAct = true → Runs (.bgroundAbortCommand c.castSucc) s fun t =>
      t.cells[c].bgAct = false ∧ t.cells[c].calLast = 1 ∧
      (∀ v : Fin 5, t.cells[c].cv[v].role = if s.cells[c].cv[v].role = .calibrating then .spare else s.cells[c].cv[v].role) ∧
      Logged s t .BGCAL_ABORTED c ∧ t = { s with cells := t.cells, recd := t.recd, cap := t.cap }) ∧
  (∀ (s : State) (c : Fin 8), s.cells[c].bgAct = false → Runs (.bgroundAbortCommand c.castSucc) s fun t =>
      t.cells[c] = { s.cells[c] with calLast := 1 } ∧ t = { s with cells := t.cells }) ∧
  (∀ (s : State) (c : Fin 8), s.rst.stage = 9 → s.rst.mgmtRun = true → s.bgWants c = true → s.bgCan c = true →
      (∀ d : Fin 8, s.cells[d].bgNow = false) → (∀ d : Fin 8, d.1 < c.1 → (s.bgWants d && s.bgCan d) = false) →
      Runs (.bgroundSchedule c.castSucc) s fun t =>
        t.cells[c].bgAct = true ∧ t.cells[c].bgStep = 0 ∧ t.cells[c].bgNow = true ∧ t.cells[c].bgTemp = some s.die.code ∧
        t.cells[c].bgLast = some (min (s.bgDueAt c) s.up) ∧ t.cells[c].calLast = s.cells[c].calLast ∧
        (∀ d : Fin 8, d ≠ c → t.cells[d] = s.cells[d]) ∧ t = { s with cells := t.cells }) ∧
  (∀ (s : State) (c : Fin 8), s.bgWants c = false → exec (.bgroundSchedule c.castSucc) s = .next s) ∧
  (∀ (s : State) (c : Fin 8), s.rst.stage = 9 → s.rst.mgmtRun = true → s.bgWants c = true → s.bgCan c = false →
      Runs (.bgroundSchedule c.castSucc) s fun t =>
        t.cells[c] = { s.cells[c] with bgLast := some (min (s.bgDueAt c) s.up), bgTemp := none } ∧ t = { s with cells := t.cells }) ∧
  (∀ (s : State) (c : Fin 8) (v : Fin 5) (off : Int) (gain : Rat) (mis : Vector Int 6), s.cells[c].bgAct = true →
      s.cells[c].cv[v].role = .calibrating → (∀ w : Fin 5, w ≠ v → s.cells[c].cv[w].role ≠ .calibrating) →
      factorsOk off gain mis = true → Runs (.spareCalibrationDone c.castSucc off gain mis) s fun t =>
        t.cells[c].cv[v].role = .spare ∧ t.cells[c].cv[v].ofs = off ∧ t.cells[c].cv[v].mis = mis ∧ t.cells[c].cv[v].calAt = some s.up ∧
        t.cells[c].bgStep = min 5 (s.cells[c].bgStep + 1) ∧ (t.cells[c].bgAct = false ↔ 4 ≤ s.cells[c].bgStep) ∧
        t = { s with cells := t.cells }) ∧
  (∀ (s : State) (c : Fin 8) (v : Fin 5) (off : Int) (gain : Rat) (mis : Vector Int 6), s.cells[c].bgAct = true →
      s.cells[c].cv[v].role = .calibrating → (∀ w : Fin 5, w ≠ v → s.cells[c].cv[w].role ≠ .calibrating) →
      factorsOk off gain mis = false → Runs (.spareCalibrationDone c.castSucc off gain mis) s fun t =>
        t.cells[c].cv[v].role = .failed ∧ t.cells[c].bgAct = false ∧ Logged s t .CAL_FAIL c v ∧
        t = { s with cells := t.cells, recd := t.recd, cap := t.cap }) ∧
  (∀ (s : State) (c : Fin 8) (sp v : Fin 5) (k : Fin 4), s.cells[c].bgAct = true → s.cells[c].bgStep ≠ 0 → s.cells[c].spare = some sp →
      s.cells[c].oldest = some (v, k) → s.cells[c].cv[v].role = .bound k → sp ≠ v → s.cells[c].sq[k].between = true →
      Runs (.converterHandover c.castSucc) s fun t =>
        t.cells[c].cv[sp].role = .bound k ∧ t.cells[c].cv[v].role = .calibrating ∧
        t.cells[c].sq[k] = { s.cells[c].sq[k] with conv := some sp, track := s.up } ∧
        (∀ j : Fin 4, j ≠ k → t.cells[c].sq[j] = s.cells[c].sq[j]) ∧ t = { s with cells := t.cells }) ∧
  (∀ (s : State) (c : Fin 8) (v : Fin 5) (k : Fin 4), s.cells[c].oldest = some (v, k) → s.cells[c].sq[k].between = false →
      exec (.converterHandover c.castSucc) s = .next s)

/-- R54, R62: a write of 0 to `REFEN` on a cell with an input named by a bridge or loop of an armed motor object is refused, `REFEN`
stays 1 and REF_BUSY is raised; every calibration command to the HK cell is rejected with LAST = 3 and CAL_REJECTED, and nothing else of
the HK cell changes. -/
def Obligations.ReferenceAndTrimRefusals : Prop :=
  (∀ (s : State) (c : Fin 8), s.cells[c].refen = true → s.cellInUse c = true → Runs (.refenWrite c.castSucc false) s fun t =>
      Logged s t .REF_BUSY c ∧ t = { s with recd := t.recd, cap := t.cap }) ∧
  (∀ s : State, Runs (.fullCalibrationCommand 8) s fun t =>
      t.hk = { s.hk with calLast := 3 } ∧ Logged s t .CAL_REJECTED 8 ∧ t = { s with hk := t.hk, recd := t.recd, cap := t.cap }) ∧
  (∀ s : State, Runs (.bgroundStartCommand 8) s fun t =>
      t.hk = { s.hk with calLast := 3 } ∧ Logged s t .CAL_REJECTED 8 ∧ t = { s with hk := t.hk, recd := t.recd, cap := t.cap }) ∧
  (∀ s : State, Runs (.bgroundAbortCommand 8) s fun t =>
      t.hk = { s.hk with calLast := 3 } ∧ Logged s t .CAL_REJECTED 8 ∧ t = { s with hk := t.hk, recd := t.recd, cap := t.cap })

/-- R52, R55, R63, R245, R318: the housekeeping scan checks rails, references and die temperatures; a shutdown record holds the module
in reset; ORAIL follows an input beyond a rail, and its window closes 2 µs after the input has returned. -/
def Obligations.HousekeepingAndRails : Prop :=
  (∀ (s : State) (ch : Fin 32) (code : Int), 8 ≤ ch.1 → ch.1 ≠ 31 → Runs (.hkChannelResult ch code) s fun t =>
      t.hk.res[ch].value = clampI 0 16383 code ∧ t.hk.res[ch].ovr = (decide (code < 0) || decide (16383 < code)) ∧
      t.hk.res[ch].suspect = s.hk.scanSus ∧ t.hk.scanSus = t.hk.res[ch].ovr ∧ t.hk.seen[ch] = true ∧ (∀ d : Fin 32, d ≠ ch → t.hk.res[d] = s.hk.res[d]) ∧ t.pending = s.pending) ∧
  (∀ (s : State) (ch : Fin 32) (code : Int), ch.1 < 8 ∨ ch.1 = 31 → exec (.hkChannelResult ch code) s = .next s) ∧
  (∀ s : State, s.rst.ok.getLsbD 7 = true → Runs (.hkChannelResult 23 8191) s fun t =>
      t.rst.ok.getLsbD 7 = false ∧ t.rst.low.getLsbD 7 = true ∧ Logged s t .SUPPLY_LOW 7 ∧
      t = { s with hk := t.hk, rst := { s.rst with ok := t.rst.ok, low := t.rst.low }, recd := t.recd, cap := t.cap }) ∧
  (∀ (s : State) (ch : Fin 32), 24 ≤ ch.1 → ch.1 ≤ 29 → Runs (.hkChannelResult ch 8999) s fun t =>
      (t.die.code[ch.1 - 24]?) = some 8999 ∧ t.die.shut = s.die.shut ∧ t.br = s.br) ∧
  (∀ (s : State) (ch : Fin 32), 25 ≤ ch.1 → ch.1 ≤ 29 → s.die.prevHot = true → s.die.shut = false → s.die.hold = false →
      Runs (.hkChannelResult ch 9000) s fun t =>
        t.die.shut = true ∧ Logged s t .DIE_SHUTDOWN 0xFF s.die.firstHot ∧ (∀ c : Fin 4, t.chop[c].on = false ∧ t.chop[c].enabled = false)) ∧
  (∀ s : State, s.die.shut = true → s.die.hold = false → Runs .dieShutdownRecordDone s fun t =>
      t.die.hold = true ∧ t.nor.shutRec = s.die.record ∧ t.rst.mgmtRun = false ∧ t.resetSafe ∧ t.pending = s.pending) ∧
  (∀ (s : State) (c : Fin 8) (j : Fin 12), s.cells[c].orail[j] = false → Runs (.railClampSet ⟨12 * c.1 + j.1, by omega⟩ true) s fun t =>
      t.cells[c].orail = s.cells[c].orail.set j true ∧ (t.cells[c].window[j].any fun w => w.open_) = true ∧
      Logged s t .ANA_ORAIL (12 * c.1 + j.1) ∧ (∀ d : Fin 8, d ≠ c → t.cells[d] = s.cells[d]) ∧
      t = { s with cells := t.cells, recd := t.recd, cap := t.cap }) ∧
  (∀ (s : State) (c : Fin 8) (j : Fin 12) (w : RailWindow), s.cells[c].orail[j] = true → s.cells[c].window[j] = some w →
      Runs (.railClampSet ⟨12 * c.1 + j.1, by omega⟩ false) s fun t =>
        t.cells[c].orail = s.cells[c].orail.set j false ∧ t.cells[c].window[j] = some { w with at_ := s.up } ∧
        (∀ d : Fin 8, d ≠ c → t.cells[d] = s.cells[d]) ∧ t = { s with cells := t.cells }) ∧
  (∀ (s : State) (c : Fin 8) (j : Fin 12), s.cells[c].orail[j] = true → exec (.railWindowClose ⟨12 * c.1 + j.1, by omega⟩) s = .next s) ∧
  (∀ (s : State) (c : Fin 8) (j : Fin 12) (w : RailWindow), s.cells[c].orail[j] = false → s.cells[c].window[j] = some w →
      w.open_ = true → w.at_ + 2000 ≤ s.up → Runs (.railWindowClose ⟨12 * c.1 + j.1, by omega⟩) s fun t =>
        t.cells[c].window[j] = some { w with open_ := false, at_ := w.at_ + 2000 } ∧ t.cells[c].orail = s.cells[c].orail ∧
        (∀ i : Fin 12, i ≠ j → t.cells[c].window[i] = s.cells[c].window[i]) ∧
        (∀ d : Fin 8, d ≠ c → t.cells[d] = s.cells[d]) ∧ t = { s with cells := t.cells })

/-- R68, R75, R77, R79, R92: a turning point takes the posted compare values; the loop task posts new ones in time, or counts a miss and
faults at the third; unbalance and circulating currents request their reaction; the counters clear. -/
def Obligations.CurrentLoops : Prop :=
  (∀ (s : State) (n : Fin 8) (pos : Vector PosRaw 8) (c : CmpSet), s.conf n = true → s.pwm[n].run = true → s.pwm[n].posted = some c →
      (s.pwm[n].single = false ∨ s.pwm[n].atPeak = true) →
      (s.pwm[n].atPeak = false ∨ s.ring.on = false ∨ ∃ j ∈ s.bridges s.br[n].mo, s.br[j].form ≠ .pblk) →
      Runs (.carrierTurningPoint n pos) s fun t =>
        t.pwm[n].atPeak = (!s.pwm[n].atPeak) ∧ t.pwm[n].turnAt = s.up ∧ t.pwm[n].active = c ∧ t.pwm[n].posted = none ∧
        t.pwm[n].hold = false ∧ t.pwm[n].missed = false ∧ (s.switching n = true → t.pwm[n].prim = true) ∧
        (∀ j : Fin 8, j ≠ n → t.pwm[j].active = s.pwm[j].active ∧ t.pwm[j].turnAt = s.pwm[j].turnAt) ∧ t.pending = s.pending) ∧
  (∀ (s : State) (n : Fin 8) (pos : Vector PosRaw 8), s.conf n = true → s.pwm[n].run = true → s.pwm[n].posted = none →
      (s.pwm[n].single = false ∨ s.pwm[n].atPeak = true) →
      (s.pwm[n].atPeak = false ∨ s.ring.on = false ∨ ∃ j ∈ s.bridges s.br[n].mo, s.br[j].form ≠ .pblk) →
      Runs (.carrierTurningPoint n pos) s fun t =>
        t.pwm[n].active = s.pwm[n].active ∧ t.pwm[n].posted = none ∧ t.pwm[n].atPeak = (!s.pwm[n].atPeak) ∧
        (s.switching n = true → t.pwm[n].hold = true)) ∧
  (∀ (s : State) (n : Fin 8) (pos : Vector PosRaw 8), s.conf n = false ∨ s.pwm[n].run = false →
      exec (.carrierTurningPoint n pos) s = .next s) ∧
  (∀ (s : State) (n : Fin 8), s.conf n = true → s.pwm[n].run = true → s.switching n = true → s.pwm[n].missed = false →
      Runs (.currentLoopTaskStart n) s fun t =>
        t.pwm[n].posted.isSome = true ∧ t.pending = s.pending ∧
        (s.pwm[n].npUnbal = false → s.loops[s.br[n].mo].circHi = false → t.loops[s.br[n].mo].stale = s.loops[s.br[n].mo].stale)) ∧
  (∀ (s : State) (n : Fin 8), s.conf n = true → s.pwm[n].run = true → s.switching n = true → s.pwm[n].missed = true →
      s.pwm[n].npUnbal = false → s.loops[s.br[n].mo].circHi = false → Runs (.currentLoopTaskStart n) s fun t =>
        t.pwm[n].posted = s.pwm[n].posted ∧ t.loops[s.br[n].mo].stale = bump s.loops[s.br[n].mo].stale) ∧
  (∀ (s : State) (n : Fin 8), s.conf n = true → s.pwm[n].run = true → s.switching n = false → s.pwm[n].npUnbal = false →
      s.loops[s.br[n].mo].circHi = false → Runs (.currentLoopTaskStart n) s fun t =>
        t.pwm[n].xd = 0 ∧ t.pwm[n].xq = 0 ∧ t.pwm[n].vsat = false ∧ t.pwm[n].posted = s.pwm[n].posted) ∧
  (∀ (s : State) (n : Fin 8), s.conf n = false ∨ s.pwm[n].run = false → exec (.currentLoopTaskStart n) s = .next s) ∧
  (∀ (s : State) (n : Fin 8), s.conf n = true → s.pwm[n].run = true → s.switching n = true → s.pwm[n].posted.isSome = true →
      Runs (.compareDeadline n) s fun t =>
        t.pwm[n] = { s.pwm[n] with misses := 0 } ∧ (∀ j : Fin 8, j ≠ n → t.pwm[j] = s.pwm[j]) ∧ t = { s with pwm := t.pwm }) ∧
  (∀ (s : State) (n : Fin 8), s.conf n = true → s.pwm[n].run = true → s.switching n = true → s.pwm[n].posted = none →
      Runs (.compareDeadline n) s fun t =>
        t.pwm[n].misses = min 3 (s.pwm[n].misses + 1) ∧ t.pwm[n].missed = true ∧
        (s.pwm[n].misses ≠ 2 → t.pwm[n] = { s.pwm[n] with misses := t.pwm[n].misses, missed := true }) ∧
        t.loops[s.br[n].mo].ovr = bump s.loops[s.br[n].mo].ovr ∧
        (s.loops[s.br[n].mo].ovrSeen = false → Logged s t .LOOP_OVERRUN s.br[n].mo) ∧
        (s.pwm[n].misses = 2 → t.loops[s.br[n].mo].ovr3 = true ∧ Logged s t .LOOP_DEADLINE s.br[n].mo n ∧
          (s.rc Fld.LOOP_OVRREACT s.br[n].mo ≠ .log → ∃ r ∈ t.reacts[s.br[n].mo], r.cause = some .LOOP_DEADLINE))) ∧
  (∀ (s : State) (n : Fin 8), s.conf n = true → s.br[n].npc = true → s.pwm[n].npUnbal = false → Runs (.npUnbal n) s fun t =>
      t.pwm[n].npUnbal = true ∧ Logged s t .NP_UNBAL n ∧
      (s.rc Fld.BRIDGE_NPREACT (s.recOf n) ≠ .log → t.asked s.br[n].mo .NP_UNBAL n (s.rc Fld.BRIDGE_NPREACT (s.recOf n)))) ∧
  (∀ (s : State) (n : Fin 8), s.br[n].npc = false ∨ s.pwm[n].npUnbal = true → exec (.npUnbal n) s = .next s) ∧
  (∀ (s : State) (m : Fin 4), s.loops[m].circHi = false → s.n Fld.MOTOR_BRMODE m = 0 → 2 ≤ (s.feeding m).length →
      Runs (.circHigh m) s fun t => t.loops[m].circHi = true ∧ Logged s t .CIRC_HIGH m ∧
        (s.rc Fld.MOTOR_CIRCREACT m ≠ .log → t.asked m .CIRC_HIGH m (s.rc Fld.MOTOR_CIRCREACT m))) ∧
  (∀ (s : State) (m : Fin 4), Runs (.loopCountersClear m) s fun t =>
      t.loops[m] = { s.loops[m] with ovr := .zero, stale := .zero, ovrSeen := false } ∧
      (∀ j : Fin 4, j ≠ m → t.loops[j] = s.loops[j]) ∧
      (∀ n : Fin 8, t.pwm[n] = if s.conf n = true ∧ s.br[n].mo = m then { s.pwm[n] with minpCnt := .zero, vsatCnt := .zero } else s.pwm[n]) ∧
      t = { s with loops := t.loops, pwm := t.pwm })

/-! ## Motion -/

/-- R27: a motor object is armed exactly where no condition of the table fails and it is not disarmed; a refusal names the first failing
condition; a disarm needs the motor object at rest with its gates off; the gates of an unarmed one are off. That an ARM before S9 with
every condition met carries AUX 3 is the model's choice (log 120). -/
def Obligations.ArmAndDisarm : Prop :=
  (∀ (s : State) (m : Fin 4), s.rst.stage = 9 → s.unmet m = 0 → Runs (.armCommand m) s fun t =>
      t.armed[m] = true ∧ t.disarmed[m] = false ∧
      (∀ j : Fin 4, j ≠ m → t.disarmed[j] = s.disarmed[j] ∧ t.armed[j] = (s.unmet j == 0 && !s.disarmed[j])) ∧
      t = { s.settledFrom t with armed := t.armed, disarmed := t.disarmed }) ∧
  (∀ (s : State) (m : Fin 4), s.unmet m ≠ 0 → Runs (.armCommand m) s fun t =>
      Logged s t .ARM_REFUSED m (s.unmet m) ∧ t = { s with recd := t.recd, cap := t.cap }) ∧
  (∀ (s : State) (m : Fin 4), s.rst.stage < 9 → s.unmet m = 0 → Runs (.armCommand m) s fun t =>
      Logged s t .ARM_REFUSED m 3 ∧ t = { s with recd := t.recd, cap := t.cap }) ∧
  (∀ (s : State) (m : Fin 4), s.start[m].state = .idle → (∀ n ∈ s.feeding m, s.br[n].form = .pblk) → Runs (.disarmCommand m) s fun t =>
      t = { s with disarmed := s.disarmed.set m true, armed := s.armed.set m false }) ∧
  (∀ (s : State) (m : Fin 4), s.start[m].state ≠ .idle ∨ (∃ n ∈ s.feeding m, s.br[n].form ≠ .pblk) → Runs (.disarmCommand m) s fun t =>
      Logged s t .ARM_REFUSED m 5 ∧ t = { s with recd := t.recd, cap := t.cap }) ∧
  (∀ (s : State) (n : Fin 8) (ns : Nat), s.armed[s.br[n].mo] = false → s.gateLevels n ns = 0)

/-- R95, R96, R99, R100, R104: an interface reads an SSI frame, loses VALID with a trace of each fault, and its motor objects react or
fall back; the first index sets the offset; the error clear restores it. -/
def Obligations.PositionInterfaces : Prop :=
  (∀ (s : State) (k : Fin 8) (frame : Word), s.posIf[k].on = true → s.n Fld.PI_MODE (8 + k) = 4 → s.q Fld.PI_SSIDLY (8 + k) = 0 →
      Runs (.ssiFrameDone k frame) s fun t =>
        t.posIf[k].pos = BitVec.ofInt 64 (posCount (s.yes Fld.PI_DIR (8 + k)) (s.piSteps k) (s.posIf[k].count 4 (s.piSteps k) (s.ssiSteps k frame))) ∧
        t.posIf[k].ssiBad = 0 ∧ (∀ j : Fin 8, j ≠ k → t.posIf[j] = s.posIf[j]) ∧ t = { s with posIf := t.posIf, pwm := t.pwm, fab := t.fab }) ∧
  (∀ (s : State) (k : Fin 8) (frame : Word), s.posIf[k].on = false ∨ s.n Fld.PI_MODE (8 + k) ≠ 4 → exec (.ssiFrameDone k frame) s = .next s) ∧
  (∀ (s : State) (k : Fin 8), s.posIf[k].on = true → (s.n Fld.PI_MODE (8 + k) = 1 ∨ s.n Fld.PI_MODE (8 + k) = 2) →
      Runs (.piLineBreak k) s fun t => t.posIf[k] = { s.posIf[k] with lineBrk := true, valid := false, fault := true, needZ := s.waitsZ k } ∧
        Logged s t .POS_FAULT k ∧ (∀ j : Fin 8, j ≠ k → t.posIf[j] = s.posIf[j])) ∧
  (∀ (s : State) (k : Fin 8) (count : Nat), s.posIf[k].on = true → s.n Fld.PI_MODE (8 + k) = 1 → 5 ≤ count →
      Runs (.piIllegalTransitions k count) s fun t =>
        t.posIf[k].illegal = true ∧ t.posIf[k].err = bumpBy s.posIf[k].err count ∧ t.posIf[k].valid = false ∧ Logged s t .POS_FAULT k) ∧
  (∀ (s : State) (k : Fin 8) (count : Nat), s.posIf[k].on = true → s.n Fld.PI_MODE (8 + k) = 1 → count ≤ 4 →
      (∀ x ∈ s.posIf[k].badAt, x + 1000000 ≤ s.up) → Runs (.piIllegalTransitions k count) s fun t =>
        t.posIf[k] = { s.posIf[k] with err := bumpBy s.posIf[k].err count, badAt := List.replicate count s.up } ∧
        (∀ j : Fin 8, j ≠ k → t.posIf[j] = s.posIf[j]) ∧ t = { s with posIf := t.posIf }) ∧
  (∀ (s : State) (k : Fin 8) (amp : Rat), s.posIf[k].on = true → (s.n Fld.PI_MODE (8 + k) = 2 ∨ s.n Fld.PI_MODE (8 + k) = 3) →
      (amp < 1 / 2 ∨ 3 / 2 < amp) → Runs (.piAmplitudeFault k amp) s fun t =>
        t.posIf[k].amp = amp ∧ t.posIf[k].ampLo = true ∧ t.posIf[k].valid = false ∧ Logged s t .POS_FAULT k) ∧
  (∀ (s : State) (k : Fin 8) (amp : Rat), (s.n Fld.PI_MODE (8 + k) = 2 ∨ s.n Fld.PI_MODE (8 + k) = 3) → 1 / 2 ≤ amp → amp ≤ 3 / 2 →
      Runs (.piAmplitudeFault k amp) s fun t =>
        t.posIf[k] = { s.posIf[k] with amp := amp, ampLo := false, ampBad := false } ∧ t = { s with posIf := t.posIf }) ∧
  (∀ (s : State) (k : Fin 8), s.posIf[k].on = true → s.n Fld.PI_MODE (8 + k) = 4 → s.posIf[k].ssiBad = 0 →
      Runs (.ssiFrameFault k) s fun t =>
        t.posIf[k] = { s.posIf[k] with err := bump s.posIf[k].err, ssiBad := 1 } ∧ t = { s with posIf := t.posIf }) ∧
  (∀ (s : State) (k : Fin 8), s.posIf[k].on = true → s.n Fld.PI_MODE (8 + k) = 4 → 1 ≤ s.posIf[k].ssiBad →
      Runs (.ssiFrameFault k) s fun t => t.posIf[k].ssiErr = true ∧ t.posIf[k].valid = false ∧ Logged s t .POS_FAULT k) ∧
  (∀ (s : State) (k : Fin 8), s.posIf[k].on = true → s.n Fld.PI_MODE (8 + k) = 3 → Runs (.excFault k) s fun t =>
      t.posIf[k].excf = true ∧ t.posIf[k].valid = false ∧ Logged s t .EXC_FAULT k) ∧
  (∀ (s : State) (k : Fin 8) (m : Fin 4), s.posIf[k].on = true → s.n Fld.PI_MODE (8 + k) = 3 → m ∈ s.namingPi k →
      s.n Fld.MOTOR_POSMODE m = 0 → s.start[m].fallback = false → s.rc Fld.MOTOR_POSREACT m ≠ .log → Runs (.excFault k) s fun t =>
        t.asked m .EXC_FAULT k (s.rc Fld.MOTOR_POSREACT m)) ∧
  (∀ (s : State) (k : Fin 8) (x : Int), s.posIf[k].on = true → (s.n Fld.PI_MODE (8 + k) = 1 ∨ s.n Fld.PI_MODE (8 + k) = 2) →
      s.yes Fld.PI_ZUSE (8 + k) = true → s.posIf[k].lastZ = none → s.posIf[k].found = false → Runs (.indexPulse k x) s fun t =>
        t.posIf[k].zSeen = true ∧ t.posIf[k].abs = true ∧ t.posIf[k].found = true ∧ t.posIf[k].lastZ = some x ∧
        t.posIf[k].zOfs = (posCount (s.yes Fld.PI_DIR (8 + k)) (s.piSteps k) x : Rat) / 4294967296 ∧
        (∀ j : Fin 8, j ≠ k → t.posIf[j] = s.posIf[j])) ∧
  (∀ (s : State) (k : Fin 8) (x z : Int), s.posIf[k].on = true →
      (s.n Fld.PI_MODE (8 + k) = 1 ∨ s.n Fld.PI_MODE (8 + k) = 2) → s.yes Fld.PI_ZUSE (8 + k) = true →
      s.posIf[k].lastZ = some z → Runs (.indexPulse k x) s fun t =>
        t.posIf[k].zSeen = true ∧ t.posIf[k].zOfs = s.posIf[k].zOfs ∧ t.posIf[k].lastZ = some x ∧
        t.posIf[k].err = (if s.zInPlace k z x then s.posIf[k].err else bumpBy s.posIf[k].err 1)) ∧
  (∀ (s : State) (m : Fin 4), s.n Fld.MOTOR_POSMODE m = 2 → s.start[m].locked = true → s.start[m].fallback = false →
      Runs (.posMismatchTimer m) s fun t =>
        t.start[m] = { s.start[m] with mismAt := some s.up } ∧ (∀ j : Fin 4, j ≠ m → t.start[j] = s.start[j]) ∧
        Logged s t .POS_MISMATCH m ∧ t = { s with start := t.start, recd := t.recd, cap := t.cap }) ∧
  (∀ (s : State) (k : Fin 8), Runs (.piErrorClear k) s fun t =>
      t.posIf[k] = { s.posIf[k] with
        excf := false, illegal := false, lineBrk := false, ssiErr := false, fault := false, zSeen := false, err := .zero
        valid := s.posIf[k].valid || (s.posIf[k].on && !s.posIf[k].first && !s.posIf[k].ampBad && !s.posIf[k].needZ) } ∧
      (∀ j : Fin 8, j ≠ k → t.posIf[j] = s.posIf[j]))

/-- R107 to R110, R114: what the measurement before a start leads to, by the kind of motor and what is known of its speed. That a motor
object with HOIST = 1 whose source is gone stays in MEASURE is the model's reading (log 123). -/
def Obligations.StartMeasurement : Prop :=
  (∀ (s : State) (m : Fin 4), s.start[m].state ≠ .measure → exec (.measureDecision m) s = .next s) ∧
  (∀ (s : State) (m : Fin 4), s.yes Fld.MOTOR_HOIST m = true → s.hasSpeedSource m = false → exec (.measureDecision m) s = .next s) ∧
  (∀ (s : State) (m : Fin 4), s.start[m].state = .measure → s.induction m = false → s.hasSpeedSource m = true → s.sourceAbs m = true →
      3 / 100 * s.q Fld.MOTOR_NRATED m ≤ absQ (s.sourceRpm m) → Runs (.measureDecision m) s fun t =>
        t.start[m].state = .sync ∧ t.start[m].spd = s.sourceRpm m ∧ t.start[m].since = s.up ∧
        t.start[m].reverse = decide (s.sourceRpm m * s.cmdSign m < 0) ∧
        (s.sourceRpm m * s.cmdSign m < 0 → Logged s t .CATCH_REVERSE m) ∧ t.br = s.br ∧ (∀ j : Fin 4, j ≠ m → t.start[j] = s.start[j])) ∧
  (∀ (s : State) (m : Fin 4), s.start[m].state = .measure → s.induction m = false → s.hasSpeedSource m = true → s.sourceAbs m = false →
      3 / 100 * s.q Fld.MOTOR_NRATED m ≤ absQ (s.sourceRpm m) → Runs (.measureDecision m) s fun t =>
        t.start[m].state = .sync ∧ t.start[m].spd = s.sourceRpm m ∧ t.br = s.br) ∧
  (∀ (s : State) (m : Fin 4), s.start[m].state = .measure → s.induction m = false → s.hasSpeedSource m = false →
      s.yes Fld.MOTOR_HOIST m = false → 3 / 100 * s.q Fld.MOTOR_NRATED m ≤ absQ (s.rpmOf m (s.emfSpeed m)) →
      Runs (.measureDecision m) s fun t =>
        t.start[m].state = .sync ∧ t.start[m].spd = s.rpmOf m (s.emfSpeed m) ∧ t.start[m].ang = s.emfTheta m ∧ t.br = s.br) ∧
  (∀ (s : State) (m : Fin 4), s.start[m].state = .measure → s.induction m = false → s.hasSpeedSource m = true → s.sourceAbs m = true →
      absQ (s.sourceRpm m) < 3 / 100 * s.q Fld.MOTOR_NRATED m → Runs (.measureDecision m) s fun t =>
        t.start[m].state = .run ∧
        (∀ n ∈ s.feeding m, s.br[n].enabled = true → s.br[n].exec_.rank < 4 → t.br[n].form = .run) ∧
        (s.braked m = true → s.runsHere m = true → s.brake[m].state = .closed → t.brake[m].state = .proving)) ∧
  (∀ (s : State) (m : Fin 4), s.start[m].state = .measure → s.n Fld.MOTOR_TYPE m = 0 → s.hasSpeedSource m = false →
      s.yes Fld.MOTOR_HOIST m = false → 0 < s.q Fld.MOTOR_NRATED m → s.start[m].emfMag < s.ratedEmf m / 100 →
      Runs (.measureDecision m) s fun t =>
        t.start[m].state = .align ∧ (∀ n ∈ s.feeding m, s.br[n].enabled = true → s.br[n].exec_.rank < 4 → t.br[n].form = .run)) ∧
  (∀ (s : State) (m : Fin 4), s.start[m].state = .measure → s.n Fld.MOTOR_TYPE m = 1 → s.hasSpeedSource m = false →
      s.yes Fld.MOTOR_HOIST m = false → 0 < s.q Fld.MOTOR_NRATED m → s.start[m].emfMag < s.ratedEmf m / 100 →
      Runs (.measureDecision m) s fun t =>
        t.start[m].state = .hfi ∧ (∀ n ∈ s.feeding m, s.br[n].enabled = true → s.br[n].exec_.rank < 4 → t.br[n].form = .run)) ∧
  (∀ (s : State) (m : Fin 4), s.start[m].state = .measure → s.induction m = true → s.hasSpeedSource m = true →
      3 / 100 * s.q Fld.MOTOR_NRATED m ≤ absQ (s.sourceRpm m) → Runs (.measureDecision m) s fun t =>
        t.start[m].state = .sync ∧ t.start[m].spd = s.sourceRpm m ∧ t.br = s.br) ∧
  (∀ (s : State) (m : Fin 4), s.start[m].state = .measure → s.induction m = true → s.hasSpeedSource m = true →
      absQ (s.sourceRpm m) < 3 / 100 * s.q Fld.MOTOR_NRATED m → Runs (.measureDecision m) s fun t =>
        t.start[m].state = .flux ∧ (∀ n ∈ s.feeding m, s.br[n].enabled = true → s.br[n].exec_.rank < 4 → t.br[n].form = .run)) ∧
  (∀ (s : State) (m : Fin 4), s.start[m].state = .measure → s.induction m = true → s.hasSpeedSource m = false →
      s.yes Fld.MOTOR_HOIST m = false → s.residual m = true → Runs (.measureDecision m) s fun t =>
        t.start[m].state = .sync ∧ t.start[m].ang = s.emfTheta m ∧ t.br = s.br) ∧
  (∀ (s : State) (m : Fin 4), s.start[m].state = .measure → s.induction m = true → s.hasSpeedSource m = false →
      s.yes Fld.MOTOR_HOIST m = false → s.residual m = false → Runs (.measureDecision m) s fun t =>
        t.start[m].state = .search ∧ t.start[m].spd = 0 ∧
        (∀ n ∈ s.feeding m, s.br[n].enabled = true → s.br[n].exec_.rank < 4 → t.br[n].form = .run))

/-- R102, R107 to R113: each later state of a start ends in the state of the table, or the attempt fails with its reason, gates off,
and is repeated or ends in FAILED. The 10 % of R111 are of the larger response: the model's reading (log 123). -/
def Obligations.StartProgress : Prop :=
  (∀ (s : State) (n : Fin 8), s.start[s.br[n].mo].state = .sync → n ∈ s.feeding s.br[n].mo → s.br[n].enabled = true →
      s.br[n].exec_.rank < 4 → Runs (.syncGateEnable n) s fun t =>
        t.br[n].form = .run ∧ (∀ j : Fin 8, j ≠ n → t.br[j] = s.br[j] ∧ t.pwm[j] = s.pwm[j]) ∧ t.start[s.br[n].mo].state = .sync ∧
        (s.induction s.br[n].mo = true → t.pwm[n].xd = 0 ∧ t.pwm[n].xq = 0) ∧
        ((∀ j ∈ s.feeding s.br[n].mo, s.br[j].form ≠ .run) → t.start[s.br[n].mo].peak2 = 0) ∧
        t = { s with pwm := t.pwm, start := t.start, br := t.br }) ∧
  (∀ (s : State) (n : Fin 8), s.start[s.br[n].mo].state ≠ .sync ∨ n ∉ s.feeding s.br[n].mo → exec (.syncGateEnable n) s = .next s) ∧
  (∀ (s : State) (m : Fin 4), s.start[m].state = .sync → s.start[m].peak2 ≤ 25 / 10000 * s.imaxEff m * s.imaxEff m →
      s.induction m = false → Runs (.catchSettleCheck m) s fun t =>
        t.start[m].state = .run ∧ t.start[m].turning = false ∧ (s.start[m].turning = true → Logged s t .CATCH_DONE m) ∧ t.br = s.br) ∧
  (∀ (s : State) (m : Fin 4), s.start[m].state = .sync → s.start[m].peak2 ≤ 25 / 10000 * s.imaxEff m * s.imaxEff m →
      s.induction m = true → Runs (.catchSettleCheck m) s fun t => t.start[m].state = .flux ∧ t = { s with start := t.start }) ∧
  (∀ (s : State) (m : Fin 4), s.start[m].state = .sync → 1 / 100 * s.imaxEff m * s.imaxEff m < s.start[m].peak2 →
      25 / 10000 * s.imaxEff m * s.imaxEff m < s.start[m].peak2 → s.start[m].retry < s.n Fld.MOTOR_STARTRETRY m →
      Runs (.catchSettleCheck m) s fun t =>
        t.start[m].state = .pause ∧ t.start[m].reason = 6 ∧ t.start[m].retry = s.start[m].retry + 1 ∧
        t.start[m].fail = bump s.start[m].fail ∧ Logged s t .START_ATTEMPT_FAILED m 6 ∧ (∀ n ∈ s.feeding m, t.br[n].form ≠ .run)) ∧
  (∀ (s : State) (m : Fin 4) (plus minus : Rat), s.start[m].state = .hfi → 17 ≤ s.start[m].polN → 0 ≤ minus → minus < plus → 1 / 10 * plus ≤ plus - minus →
      Runs (.hfiPolarityDone m plus minus) s fun t => t.start[m].state = .run ∧ t.start[m].ang = s.start[m].ang) ∧
  (∀ (s : State) (m : Fin 4) (plus minus : Rat), s.start[m].state = .hfi → 17 ≤ s.start[m].polN → 0 ≤ plus → plus < minus → 1 / 10 * minus ≤ minus - plus →
      Runs (.hfiPolarityDone m plus minus) s fun t => t.start[m].state = .run ∧ t.start[m].ang = wrapQ 1 (s.start[m].ang + 1 / 2)) ∧
  (∀ (s : State) (m : Fin 4) (plus minus : Rat), s.start[m].polN < 17 → exec (.hfiPolarityDone m plus minus) s = .next s) ∧
  (∀ (s : State) (m : Fin 4), s.start[m].state = .hfi → 17 ≤ s.start[m].polN → s.start[m].retry < s.n Fld.MOTOR_STARTRETRY m →
      Runs (.hfiPolarityDone m 1 1) s fun t => t.start[m].state = .pause ∧ t.start[m].reason = 4) ∧
  (∀ (s : State) (m : Fin 4), s.start[m].polN ≠ 0 → exec (.hfiNoconvTimeout m) s = .next s) ∧
  (∀ (s : State) (m : Fin 4), s.start[m].state = .hfi → s.start[m].polN = 0 → s.n Fld.MOTOR_STARTRETRY m ≤ s.start[m].retry →
      Runs (.hfiNoconvTimeout m) s fun t =>
        t.start[m].state = .failed ∧ t.start[m].reason = 3 ∧ Logged s t .START_ATTEMPT_FAILED m 3 ∧ Logged s t .START_FAILED m ∧
        (∀ n ∈ s.feeding m, t.br[n].form ≠ .run)) ∧
  (∀ (s : State) (m : Fin 4), s.n Fld.MOTOR_POSMODE m ≠ 0 → s.start[m].state = .iframp → s.start[m].locked = true →
      Runs (.observerLock m) s fun t => t.start[m].state = .run ∧ t.start[m].locked = true ∧ t.start[m].asrc = .observer ∧ t.start[m].ang = s.start[m].obsAng) ∧
  (∀ (s : State) (m : Fin 4), s.start[m].state ≠ .iframp ∨ s.start[m].locked = false → exec (.observerLock m) s = .next s) ∧
  (∀ (s : State) (m : Fin 4), s.start[m].state = .align → s.induction m = false → s.hasSpeedSource m = false →
      Runs (.alignElapsed m) s fun t =>
        t.start[m].state = .iframp ∧ t.start[m].ang = 0 ∧ t.start[m].locked = false ∧ t = { s with start := t.start }) ∧
  (∀ (s : State) (m : Fin 4), s.start[m].state = .align → s.induction m = false → s.hasSpeedSource m = true →
      Runs (.alignElapsed m) s fun t => t.start[m].state = .run ∧ t.br = s.br) ∧
  (∀ (s : State) (m : Fin 4), s.start[m].state = .align → s.induction m = true → Runs (.alignElapsed m) s fun t =>
      t.start[m] = { s.start[m] with state := .flux, since := s.up } ∧ t = { s with start := t.start }) ∧
  (∀ (s : State) (m : Fin 4), s.start[m].state = .iframp → s.start[m].retry < s.n Fld.MOTOR_STARTRETRY m →
      Runs (.obsNolockTimeout m) s fun t =>
        t.start[m].state = .pause ∧ t.start[m].reason = 5 ∧ t.start[m].retry = s.start[m].retry + 1 ∧
        Logged s t .START_ATTEMPT_FAILED m 5) ∧
  (∀ (s : State) (m : Fin 4), s.start[m].state = .search → s.start[m].cross = none → Runs (.searchEnd m) s fun t =>
      t.start[m].state = .flux ∧ t.start[m].spd = 0 ∧ t.start[m].turning = false ∧ t = { s with start := t.start }) ∧
  (∀ (s : State) (m : Fin 4) (f : Rat), s.start[m].state = .search → s.start[m].cross = some f → Runs (.searchEnd m) s fun t =>
      t.start[m].state = .flux ∧ t.start[m].turning = true ∧ t.start[m].spd = s.rpmOf m (2 * Config.pi * f) ∧ t = { s with start := t.start, recd := t.recd, cap := t.cap }) ∧
  (∀ (s : State) (m : Fin 4), s.start[m].state = .flux → s.hasSpeedSource m = true → Runs (.fluxBuilt m) s fun t =>
      t.start[m].state = .run ∧ t.br = s.br) ∧
  (∀ (s : State) (m : Fin 4), s.start[m].state = .flux → s.hasSpeedSource m = false → s.slower m (5 / 100) = true →
      Runs (.fluxBuilt m) s fun t => t.start[m].state = .iframp ∧ t.start[m].locked = false ∧ t = { s with start := t.start }) ∧
  (∀ (s : State) (m : Fin 4), s.start[m].state = .flux → s.start[m].retry < s.n Fld.MOTOR_STARTRETRY m → Runs (.searchLost m) s fun t =>
      t.start[m].state = .pause ∧ t.start[m].reason = 7 ∧ Logged s t .START_ATTEMPT_FAILED m 7) ∧
  (∀ (s : State) (m : Fin 4), s.start[m].state = .pause → Runs (.startPauseEnd m) s fun t =>
      t.start[m] = { s.start[m] with state := .measure, since := s.up, emfAng := 0, emfW := 0, emfMag := 0 } ∧ t = { s with start := t.start })

/-- R33, R116 to R119, R121, R122: a setpoint is followed where its source is active; a transfer is accepted only to a fresh source; a
loss of the command is reported once and acted on. -/
def Obligations.CommandSources : Prop :=
  (∀ (s : State) (m : Fin 4) (v : Word) (q : Rat), ofF32 v = .num q → (∀ j : Fin 4, s.n Fld.LOOP_SRC m j ≠ 33) →
      Runs (.setpointWrite m v) s fun t =>
        t.cmd[m] = { s.cmd[m] with setpt := q, setptReg := v, setptAt := some s.up } ∧ (∀ j : Fin 4, j ≠ m → t.cmd[j] = s.cmd[j]) ∧
        t = { s with cmd := t.cmd }) ∧
  (∀ (s : State) (m : Fin 4) (v : Word) (q : Rat), ofF32 v = .num q →
      (∀ j : Fin 4, s.n Fld.LOOP_SRC m j = 33 ↔ j = s.cmd[m].actSrc) → s.cmd[m].xfer = none → s.cmd[m].lost = false →
      Runs (.setpointWrite m v) s fun t =>
        t.cmd[m].setpt = q ∧ t.cmd[m].setptReg = v ∧ t.cmd[m].setptAt = some s.up ∧ t.cmd[m].y = (s.curve m q).1 ∧
        t.cmd[m].target = (s.curve m q).1 * s.q Fld.LOOP_REFSCALE m ∧ (s.start[m].state = .run → ⟨s.up, .new, tbl 8 0⟩ ∈ t.cmd[m].latRuns) ∧
        t.cmd[m].actSrc = s.cmd[m].actSrc ∧
        (∀ j : Fin 4, j ≠ m → t.cmd[j] = s.cmd[j]) ∧ t = { s with cmd := t.cmd }) ∧
  (∀ (s : State) (m j : Fin 4), (s.source m j).isSome = true → s.sourceFresh m j = true → Runs (.sourceTransferRequest m j) s fun t =>
      (t.cmd[m].xfer = some (j, s.up)) ∧ t.cmd[m].actSrc = s.cmd[m].actSrc ∧ t = { s with cmd := t.cmd }) ∧
  (∀ (s : State) (m j : Fin 4), s.source m j = none ∨ s.sourceFresh m j = false → Runs (.sourceTransferRequest m j) s fun t =>
      Logged s t .CMD_XFER_REFUSED m j ∧ t = { s with recd := t.recd, cap := t.cap }) ∧
  (∀ (s : State) (m j : Fin 4) (at_ : Nat), s.cmd[m].xfer = some (j, at_) → Runs (.transferTimeout m) s fun t =>
      t.cmd[m] = { s.cmd[m] with xfer := none, xferOk := false } ∧ Logged s t .CMD_XFER_REFUSED m j ∧ t = { s with cmd := t.cmd, recd := t.recd, cap := t.cap }) ∧
  (∀ (s : State) (m : Fin 4), s.cmd[m].xfer = none → exec (.transferTimeout m) s = .next s) ∧
  (∀ (s : State) (m : Fin 4) (x : Rat) (at_ : Nat), s.source m s.cmd[m].actSrc = some (x, some at_) → s.cmd[m].lost = false →
      s.sourceFresh m s.cmd[m].actSrc = false → s.em[m].mode.ownsReference = false → s.n Fld.LOOP_LOSSACT m = 0 → Runs (.cmdLoss m) s fun t =>
        t.cmd[m].lost = true ∧ t.cmd[m].target = s.cmd[m].ref ∧ t.cmd[m].valid[s.cmd[m].actSrc] = false ∧ Logged s t .CMD_LOSS m ∧
        t = { s with cmd := t.cmd, em := t.em, recd := t.recd, cap := t.cap }) ∧
  (∀ (s : State) (m : Fin 4) (x : Rat) (at_ : Nat), s.source m s.cmd[m].actSrc = some (x, some at_) → s.cmd[m].lost = false →
      s.sourceFresh m s.cmd[m].actSrc = false → s.em[m].mode.ownsReference = true → Runs (.cmdLoss m) s fun t =>
        t.cmd[m].lost = true ∧ t.cmd[m].target = s.cmd[m].target ∧ t.em[m].lossDue = true ∧ Logged s t .CMD_LOSS m) ∧
  (∀ (s : State) (m : Fin 4), s.cmd[m].lost = true ∨ s.sourceFresh m s.cmd[m].actSrc = true → exec (.cmdLoss m) s = .next s) ∧
  (∀ (s : State) (m : Fin 4), Runs (.cmdlatClear m) s fun t =>
      t.cmd[m] = { s.cmd[m] with latLast := 0, latMax := 0 } ∧ (∀ j : Fin 4, j ≠ m → t.cmd[j] = s.cmd[j]) ∧ t = { s with cmd := t.cmd })

/-- R31, R124, R128, R130, R467: a mode change waits for the next outer-loop period or is refused; SPOOLSET sets the spooling model; the
outer loop takes the pending mode and asks no torque of a motor that does not run. -/
def Obligations.OuterLoopModes : Prop :=
  (∀ (s : State) (m : Fin 4) (mode : BitVec 2), s.shock[m].render = false → s.heave[m].g ≤ 0 → s.heave[m].ofs = 0 →
      s.outer[m].spoolOk = true → (s.brake[m].state = .closed ∨ s.brake[m].state = .open_ ∨ s.brake[m].state = .holdFault) →
      Runs (.modeChangeCommand m mode) s fun t =>
        t.outer[m] = { s.outer[m] with modePend := some (OlMode.ofCode mode.toNat) } ∧ (∀ j : Fin 4, j ≠ m → t.outer[j] = s.outer[j]) ∧
        t = { s with outer := t.outer }) ∧
  (∀ (s : State) (m : Fin 4) (mode : BitVec 2), s.shock[m].render = true → Runs (.modeChangeCommand m mode) s fun t =>
      Logged s t .RENDER_BUSY m ∧ t = { s with recd := t.recd, cap := t.cap }) ∧
  (∀ (s : State) (m : Fin 4) (mode : BitVec 2), s.shock[m].render = false → (0 < s.heave[m].g ∨ s.heave[m].ofs ≠ 0) →
      Runs (.modeChangeCommand m mode) s fun t => Logged s t .AHC_REFUSED m ∧ t = { s with recd := t.recd, cap := t.cap }) ∧
  (∀ (s : State) (m : Fin 4) (q : Rat), s.shock[m].render = false → s.runsHere m = true → ofF32 s.outer[m].spoolSet = .num q →
      Runs (.spoolsetCommand m) s fun t =>
        t.outer[m].wound = q ∧ t.outer[m].spoolOk = true ∧ t.outer[m].layer = s.layerOf m q ∧ t.outer[m].rEff = s.radiusOf m q ∧
        t.outer[m].pay = s.q Fld.LOOP_LTOTAL m - s.woundLength m q ∧ (∀ j : Fin 4, j ≠ m → t.outer[j] = s.outer[j])) ∧
  (∀ (s : State) (m : Fin 4), s.shock[m].render = true → Runs (.spoolsetCommand m) s fun t =>
      Logged s t .RENDER_BUSY m ∧ t = { s with recd := t.recd, cap := t.cap }) ∧
  (∀ (s : State) (m : Fin 4) (md : OlMode), s.bridges m ≠ [] → s.fab.tasks[8 + m.1].engine.isSome = true → s.runsHere m = true →
      s.outer[m].modePend = some md → Runs (.outerLoopPeriod m) s fun t =>
        t.outer[m].mode = md ∧ t.outer[m].modePend = none ∧ t.pending = s.pending) ∧
  (∀ (s : State) (m : Fin 4), s.bridges m ≠ [] → s.fab.tasks[8 + m.1].engine.isSome = true → s.inGroup m = false →
      s.start[m].state ≠ .run → Runs (.outerLoopPeriod m) s fun t => t.outer[m].tPrev = 0) ∧
  (∀ (s : State) (m : Fin 4), s.bridges m = [] ∨ s.fab.tasks[8 + m.1].engine = none → exec (.outerLoopPeriod m) s = .next s)

/-- R15, R107, R134 to R137, R204, R365: a run starts a ready motor object or is refused with its reason; a stop is executed by
category; a fault clear removes the reactions whose causes have cleared. -/
def Obligations.RunStopAndClear : Prop :=
  (∀ (s : State) (m : Fin 4), s.inGroup m = false → s.start[m].state = .idle → s.outer[m].short = false → s.startRefusal m = 0 →
      s.gatesReady m = true → Runs (.runCommand m) s fun t =>
        t.start[m].state = .measure ∧ t.start[m].since = s.up ∧ t.start[m].retry = 0 ∧ t.start[m].reason = 0 ∧
        t.av.cmdRun[m] = true ∧ t.av.owner[m] = false ∧ t = { s with start := t.start, av := t.av }) ∧
  (∀ (s : State) (m : Fin 4), s.inGroup m = false → s.start[m].state = .idle → s.outer[m].short = false → s.startRefusal m ≠ 0 →
      Runs (.runCommand m) s fun t =>
        t.start[m] = { s.start[m] with reason := s.startRefusal m } ∧ Logged s t .START_REFUSED m (s.startRefusal m) ∧
        t = { s with start := t.start, av := t.av, recd := t.recd, cap := t.cap }) ∧
  (∀ (s : State) (m : Fin 4), s.inGroup m = false → s.start[m].state = .run → s.brake[m].state = .open_ → s.em[m].mode = .modeLaw →
      Runs (.stopCommand m) s fun t =>
        t.em[m].mode = (if s.n Fld.EMERGENCY_STOPCAT m = 2 then .cat2 else .cat1) ∧ t.em[m].stopBy = .command ∧ t.em[m].stopped = false ∧
        t.start[m].state = .run ∧ t.br = s.br ∧ t.av.owner[m] = true) ∧
  (∀ (s : State) (m : Fin 4), s.inGroup m = false → s.start[m].state = .idle → s.em[m].mode = .modeLaw → s.em[m].free = false →
      Runs (.stopCommand m) s fun t => t.av.owner[m] = true ∧ t = { s with av := t.av }) ∧
  (∀ (s : State) (m : Fin 4), s.inGroup m = false → (s.start[m].state = .align ∨ s.start[m].state = .sync ∨ s.start[m].state = .pause) →
      Runs (.stopCommand m) s fun t => t.start[m].state = .idle ∧ (∀ n ∈ s.feeding m, t.br[n].form ≠ .run)) ∧
  (∀ (s : State) (m : Fin 4), s.start[m].state = .failed → Runs (.stopCommand m) s fun t =>
      t.start[m].state = .idle ∧ t.av.owner[m] = true) ∧
  (∀ (s : State) (m : Fin 4), Runs (.faultClearCommand m) s fun t =>
      (∀ r ∈ t.reacts[m], r.present = true ∨ r.sev.rank ≤ 1 ∨ r.selfEnd = true) ∧
      (∀ r ∈ s.reacts[m], r.present = true → r ∈ t.reacts[m]) ∧ (∃ n d, Logged s t .REACT_CLEARED m n d) ∧
      (∀ j : Fin 4, j ≠ m → t.reacts[j] = s.reacts[j])) ∧
  (∀ (s : State) (m : Fin 4), s.slowLong m = false → exec (.stopComplete m) s = .next s) ∧
  (∀ (s : State) (m : Fin 4), s.slowLong m = true → s.em[m].mode = .cat1 → s.em[m].stopped = false →
      s.em[m].stopBy = .command → s.em[m].pend = [] → s.em[m].free = false → s.inGroup m = false → s.start[m].state = .run →
      s.braked m = false → s.yes Fld.MOTOR_HOIST m = false → s.n Fld.MOTOR_STANDSTILL m ≠ 1 → Runs (.stopComplete m) s fun t =>
        t.start[m].state = .idle ∧ t.em[m].mode = .modeLaw ∧ (∀ n ∈ s.feeding m, t.br[n].form ≠ .run)) ∧
  (∀ (s : State) (m : Fin 4), s.slowLong m = true → s.em[m].mode = .cat2 → s.em[m].stopped = false → s.inGroup m = false →
      s.start[m].state = .run → Runs (.stopComplete m) s fun t =>
        t.em[m] = { s.em[m] with stopped := true } ∧ t.start = s.start ∧ t.br = s.br ∧ t = { s with em := t.em, outer := t.outer }) ∧
  (∀ (s : State) (m : Fin 4), s.slowLong m = true → s.em[m].mode = .eqr → s.em[m].eqrEnding = true → s.braked m = true →
      Runs (.stopComplete m) s fun t => t.em[m].mode = .cat1 ∧ t.brake[m].state = .closing ∧ Logged s t .EQR_END m ∧
        t = { s with em := t.em, outer := t.outer, brake := t.brake, recd := t.recd, cap := t.cap }) ∧
  (∀ (s : State) (m : Fin 4), s.em[m].mode = .modeLaw → exec (.stopComplete m) s = .next s)

/-- R134, R135: the brake proves before it opens, opens by its feedback or its time, sets, and is tested for slip. -/
def Obligations.BrakeSequence : Prop :=
  (∀ (s : State) (m : Fin 4), s.brake[m].state = .proving → s.brake[m].abort = false → s.proveMoved m = false → s.proveHeld m = true →
      Runs (.provingEnd m) s fun t =>
        t.brake[m] = { s.brake[m] with state := .opening, since := s.up, proved := true, release := true } ∧
        t.outer[m].hold = some s.outer[m].pay ∧ t = { s with brake := t.brake, outer := t.outer }) ∧
  (∀ (s : State) (m : Fin 4), s.brake[m].state = .proving → s.brake[m].abort = false → s.proveMoved m = true ∨ s.proveHeld m = false →
      Runs (.provingEnd m) s fun t =>
        t.blocked m = true ∧ t.brake[m].fail = bump s.brake[m].fail ∧ Logged s t .BRK_PROVE_FAIL m) ∧
  (∀ (s : State) (m : Fin 4), s.brake[m].state ≠ .proving → exec (.provingEnd m) s = .next s) ∧
  (∀ (s : State) (m : Fin 4), s.brake[m].state = .opening → s.pairReads (s.n Fld.MOTOR_BRKFB m) = true → Runs (.brakeFeedbackOpen m) s fun t =>
      t.brake[m] = { s.brake[m] with state := .open_, since := s.up } ∧ t.outer[m].hold = none ∧
      t = { s with brake := t.brake, outer := t.outer }) ∧
  (∀ (s : State) (m : Fin 4), s.brake[m].state ≠ .opening ∨ s.pairReads (s.n Fld.MOTOR_BRKFB m) = false →
      exec (.brakeFeedbackOpen m) s = .next s) ∧
  (∀ (s : State) (m : Fin 4), s.brake[m].state = .opening → s.n Fld.MOTOR_BRKFB m = 0 → Runs (.brakeOpenTimeout m) s fun t =>
      t.brake[m].state = .open_ ∧ t.outer[m].hold = none ∧ t = { s with brake := t.brake, outer := t.outer }) ∧
  (∀ (s : State) (m : Fin 4), s.brake[m].state = .opening → s.n Fld.MOTOR_BRKFB m ≠ 0 → Runs (.brakeOpenTimeout m) s fun t =>
      t.brake[m].state = .closing ∧ t.brake[m].release = false ∧ t.outer[m].hold = some s.outer[m].pay ∧ Logged s t .BRK_OPEN_FAIL m ∧
      t = { s with brake := t.brake, outer := t.outer, recd := t.recd, cap := t.cap }) ∧
  (∀ (s : State) (m : Fin 4), s.brake[m].state = .closing → Runs (.brakeClosingDone m) s fun t =>
      t.brake[m] = { s.brake[m] with state := .slipTest, since := s.up, hold := s.outer[m].tPrev, holdSet := true, proved := false,
                                     start := s.shaft m } ∧ t = { s with brake := t.brake }) ∧
  (∀ (s : State) (m : Fin 4), s.brake[m].state = .slipTest → s.proveMoved m = true → Runs (.sliptestEnd m) s fun t =>
      t.brake[m].state = .holdFault ∧ t.brake[m].slip = true ∧ t.outer[m].tPrev = s.brake[m].hold ∧ Logged s t .BRK_SLIP m ∧
      t = { s with brake := t.brake, outer := t.outer, recd := t.recd, cap := t.cap }) ∧
  (∀ (s : State) (m : Fin 4), s.brake[m].state = .slipTest → s.proveMoved m = false → s.brake[m].runNext = false → s.inGroup m = false →
      (s.em[m].mode = .modeLaw ∨ s.em[m].mode = .cat1 ∧ s.em[m].stopBy = .command) → Runs (.sliptestEnd m) s fun t =>
        t.brake[m].state = .closed ∧ t.brake[m].slip = false ∧ t.start[m].state = .idle) ∧
  (∀ (s : State) (m : Fin 4), s.brake[m].state = .slipTest → s.proveMoved m = false → s.brake[m].runNext = true →
      s.em[m].mode = .modeLaw → Runs (.sliptestEnd m) s fun t => t.brake[m].state = .proving ∧ t.brake[m].proved = false)

/-- R203 to R205: a category 0 stop blocks the pulses; the other stops take over a running motor object; a stop that is not complete in
time becomes a pulse block. -/
def Obligations.EmergencyStops : Prop :=
  (∀ (s : State) (m : Fin 4), Runs (.stop0Command m) s fun t => t.blocked m = true ∧ t.av.owner[m] = true ∧
      (s.blocked m = false → s.inGroup m = false → t.start[m].state = .idle ∧ t.em[m].mode = .cat0 ∧
        (∀ n ∈ s.feeding m, s.br[n].reacts = [] → t.br[n].form = .pblk))) ∧
  (∀ (s : State) (m : Fin 4), s.inGroup m = false → s.start[m].state = .run → s.brake[m].state = .open_ → s.em[m].mode = .modeLaw →
      Runs (.stop1Command m) s (fun t => t.em[m].mode = .cat1 ∧ t.em[m].stopBy = .command ∧ t.heave[m].ahcOn = false ∧
        t.start[m].state = .run ∧ t.br = s.br) ∧
      Runs (.quickStopCommand m) s (fun t => t.em[m].mode = .quick ∧ t.em[m].stopBy = .command ∧ t.heave[m].ahcOn = false ∧
        t.start[m].state = .run ∧ t.br = s.br) ∧
      Runs (.stop2Command m) s (fun t => t.em[m].mode = .cat2 ∧ t.em[m].stopBy = .command ∧ t.heave[m].ahcOn = false ∧
        t.start[m].state = .run ∧ t.br = s.br)) ∧
  (∀ (s : State) (m : Fin 4), s.inGroup m = false → s.start[m].state = .run → s.brake[m].state = .open_ → s.em[m].mode = .quick →
      Runs (.stop2Command m) s fun t => t.em[m].mode = .quick ∧ (EMode.cat2, StopBy.command) ∈ t.em[m].pend) ∧
  (∀ (s : State) (m : Fin 4), s.em[m].mode.isStop = true → s.em[m].stopped = false → s.start[m].state ≠ .idle →
      s.stopLate m = true → Runs (.stopTimeout m) s fun t => t.blocked m = true ∧ Logged s t .STOP_TIMEOUT m) ∧
  (∀ (s : State) (m : Fin 4), s.em[m].mode.isStop = false ∨ s.em[m].stopped = true ∨ s.stopLate m = false → exec (.stopTimeout m) s = .next s)

/-- R170, R207 to R209: emergency quick release, constant rendering and slack arrest enter, end and are refused as the rules say. -/
def Obligations.DrumEmergencies : Prop :=
  (∀ (s : State) (m : Fin 4), s.runsHere m = true → s.yes Fld.EMERGENCY_EQREN m = true → s.em[m].mode ≠ .cat0 → s.blocked m = false →
      s.yes Fld.SAFETY_MO_EQRHOLD 0 m = true → s.em[m].mode ≠ .eqr → Runs (.eqrRequest m) s fun t =>
        t.em[m].mode = .eqr ∧ t.em[m].eqrPin = false ∧ t.em[m].eqrEnding = false ∧ t.em[m].empay = 0 ∧ t.em[m].eqrV = s.paySpeed m ∧
        Logged s t .EQR_ON m ∧ (s.braked m = true → t.brake[m].state = .open_ ∧ t.brake[m].release = true) ∧
        (s.outer[m].spoolOk = false → Logged s t .EQR_NOSPOOL m)) ∧
  (∀ (s : State) (m : Fin 4), s.yes Fld.EMERGENCY_EQREN m = false ∨ s.runsHere m = false ∨ s.em[m].mode = .cat0 ∨ s.blocked m = true →
      Runs (.eqrRequest m) s fun t =>
      Logged s t .EM_REFUSED m ∧ t = { s with recd := t.recd, cap := t.cap }) ∧
  (∀ (s : State) (m : Fin 4), s.runsHere m = true → s.yes Fld.EMERGENCY_EQREN m = true → s.em[m].mode ≠ .cat0 → s.blocked m = false →
      s.yes Fld.SAFETY_MO_EQRHOLD 0 m = false → Runs (.eqrRequest m) s fun t =>
        Logged s t .EQR_REFUSED m ∧ t = { s with recd := t.recd, cap := t.cap }) ∧
  (∀ (s : State) (m : Fin 4), s.pairReads (s.n Fld.EMERGENCY_EQRIN m) = true → s.runsHere m = true → s.yes Fld.EMERGENCY_EQREN m = true →
      s.em[m].mode ≠ .cat0 → s.blocked m = false → s.yes Fld.SAFETY_MO_EQRHOLD 0 m = true → s.em[m].mode ≠ .eqr →
      Runs (.eqrInputRequest m) s fun t => t.em[m].mode = .eqr ∧ t.em[m].eqrPin = true ∧ Logged s t .EQR_ON m) ∧
  (∀ (s : State) (m : Fin 4), s.pairReads (s.n Fld.EMERGENCY_EQRIN m) = false → exec (.eqrInputRequest m) s = .next s) ∧
  (∀ (s : State) (m : Fin 4), s.em[m].mode = .eqr → Runs (.eqrOffCommand m) s fun t =>
      t.em[m] = { s.em[m] with eqrEnding := true } ∧ t = { s with em := t.em }) ∧
  (∀ (s : State) (m : Fin 4), s.em[m].mode ≠ .eqr → s.em[m].free = true → Runs (.eqrOffCommand m) s fun t =>
      t.em[m] = { s.em[m] with free := false } ∧ t.brake[m].state = .closed ∧ t.brake[m].release = false ∧ Logged s t .EQR_END m ∧
      t = { s with em := t.em, brake := t.brake, recd := t.recd, cap := t.cap }) ∧
  (∀ (s : State) (m : Fin 4), s.yes Fld.EMERGENCY_CROEN m = true → s.drumLive m = true → s.outer[m].mode ≠ .torque →
      s.below m .cro = true → heldFor s.em[m].over_ s.up (s.n Fld.EMERGENCY_CRODLY m * 1000000) = true → Runs (.croEntry m) s fun t =>
        t.em[m].mode = .cro ∧ t.em[m].lineEnd = false ∧ t.em[m].empay = 0 ∧ t.em[m].wRef = s.omega m ∧ Logged s t .CRO_ON m) ∧
  (∀ (s : State) (m : Fin 4), s.yes Fld.EMERGENCY_CROEN m = false ∨ s.drumLive m = false ∨
      heldFor s.em[m].over_ s.up (s.n Fld.EMERGENCY_CRODLY m * 1000000) = false → exec (.croEntry m) s = .next s) ∧
  (∀ (s : State) (m : Fin 4), s.em[m].mode = .cro → s.em[m].pend = [] → s.em[m].free = false →
      heldFor s.em[m].under s.up (natQ (s.q Fld.EMERGENCY_CROHOLD m * 1000000000)) = true → Runs (.croExit m) s fun t =>
      t.em[m].mode = .modeLaw ∧ t.shock[m].ovld = false ∧ Logged s t .CRO_END m ∧
      (s.outer[m].mode = .position → t.cmd[m].ref = s.outer[m].pay ∧ t.cmd[m].target = s.outer[m].pay)) ∧
  (∀ (s : State) (m : Fin 4), s.em[m].mode ≠ .cro ∨ s.em[m].under = none → exec (.croExit m) s = .next s) ∧
  (∀ (s : State) (m : Fin 4), s.yes Fld.EMERGENCY_SLKEN m = true → s.drumLive m = true → s.em[m].mode ≠ .eqr → s.below m .sla = true →
      s.slackNow m = true → Runs (.slaEntry m) s fun t => t.em[m].mode = .sla ∧ t.em[m].slaRest = false ∧ Logged s t .SLACK_ARREST m) ∧
  (∀ (s : State) (m : Fin 4), s.yes Fld.EMERGENCY_SLKEN m = true → s.drumLive m = true → s.em[m].mode = .eqr → s.slackNow m = true →
      s.em[m].slackTold = false → Runs (.slaEntry m) s fun t =>
      t.em[m] = { s.em[m] with slackTold := true } ∧ Logged s t .TENS_DROP m ∧ t = { s with em := t.em, recd := t.recd, cap := t.cap }) ∧
  (∀ (s : State) (m : Fin 4), s.yes Fld.EMERGENCY_SLKEN m = false ∨ s.drumLive m = false ∨ s.slackNow m = false →
      exec (.slaEntry m) s = .next s) ∧
  (∀ (s : State) (m : Fin 4), s.em[m].mode = .sla → s.em[m].pend = [] → s.em[m].free = false →
      s.q Fld.EMERGENCY_SLKF m ≤ s.drumF m → s.pairReads (s.n Fld.EMERGENCY_SLKIN m) = false → Runs (.slackClearCommand m) s fun t =>
        t.em[m].mode = .modeLaw ∧ (s.outer[m].mode = .position → t.cmd[m].target = s.outer[m].pay)) ∧
  (∀ (s : State) (m : Fin 4), s.em[m].mode ≠ .sla ∨ s.drumF m < s.q Fld.EMERGENCY_SLKF m ∨ s.pairReads (s.n Fld.EMERGENCY_SLKIN m) = true →
      Runs (.slackClearCommand m) s fun t =>
      Logged s t .EM_REFUSED m ∧ t = { s with recd := t.recd, cap := t.cap }) ∧
  (∀ (s : State) (m : Fin 4), s.renderSpent m = true → Runs (.renderOverload m) s fun t =>
      t.shock[m].render = false ∧ t.em[m].mode = .cro ∧ Logged s t .RENDER_OVERLOAD m ∧ Logged s t .CRO_ON m) ∧
  (∀ (s : State) (m : Fin 4), s.renderSpent m = false → exec (.renderOverload m) s = .next s)

/-- R210 to R212, R214: emergency thrust, the escalation of a command loss, blackout and restart, and degraded operation. -/
def Obligations.ThrustBlackoutDegraded : Prop :=
  (∀ (s : State) (m : Fin 4), s.em[m].etAct = false → s.yes Fld.EMERGENCY_ETEN m = true → 1000 ≤ s.etAvailMs m →
      Runs (.etOnCommand m) s fun t =>
        t.em[m].etAct = true ∧ t.em[m].etCnt = bump s.em[m].etCnt ∧ t.em[m].etDevAt = s.dev.toNat ∧
        Logged s t .ET_ON m 0 (bytesLE 4 (s.etAvailMs m)) ∧ t = { s with em := t.em, recd := t.recd, cap := t.cap }) ∧
  (∀ (s : State) (m : Fin 4), s.em[m].etAct = false → (s.yes Fld.EMERGENCY_ETEN m = false ∨ s.etAvailMs m < 1000) →
      Runs (.etOnCommand m) s fun t => Logged s t .ET_REFUSED m ∧ t = { s with recd := t.recd, cap := t.cap }) ∧
  (∀ (s : State) (m : Fin 4), s.em[m].etAct = true → Runs (.etOffCommand m) s fun t =>
      t.em[m].etAct = false ∧ t.em[m].etFade = true ∧ t.em[m].etBins = etBinsOf s.em[m].etDevAt s.dev.toNat ++ s.em[m].etBins ∧
      (∃ d, Logged s t .ET_OFF m 0 d) ∧ t = { s with em := t.em, recd := t.recd, cap := t.cap }) ∧
  (∀ (s : State) (m : Fin 4), s.em[m].etAct = true → s.etAvailMs m = 0 → Runs (.etBudgetExhausted m) s fun t =>
      t.em[m].etAct = false ∧ (0 < natQ (s.q Fld.EMERGENCY_ETFADE m * 1000000000) → t.em[m].etFade = true) ∧ (∃ d, Logged s t .ET_OFF m 0 d) ∧
      t = { s with em := t.em, recd := t.recd, cap := t.cap }) ∧
  (∀ (s : State) (m : Fin 4), s.em[m].etAct = false → s.em[m].etFade = true →
      s.em[m].etAt + natQ (s.q Fld.EMERGENCY_ETFADE m * 1000000000) ≤ s.up → Runs (.etFadeEnd m) s fun t =>
      t.em[m] = { s.em[m] with etFade := false } ∧ (∀ j : Fin 4, j ≠ m → t.em[j] = s.em[j]) ∧ t = { s with em := t.em }) ∧
  (∀ (s : State) (m : Fin 4), s.cmd[m].lost = true → s.em[m].escDone = false →
      s.em[m].lossAt + s.n Fld.EMERGENCY_LOSSTMAX m * 1000000000 ≤ s.up → s.n Fld.EMERGENCY_LOSSESC m = 0 →
      Runs (.cmdLossEscalation m) s fun t => t.em[m] = { s.em[m] with escDone := true } ∧ Logged s t .CMD_LOSS_ESC m ∧
        t = { s with em := t.em, recd := t.recd, cap := t.cap }) ∧
  (∀ (s : State) (m : Fin 4), s.cmd[m].lost = true → s.em[m].escDone = false →
      s.em[m].lossAt + s.n Fld.EMERGENCY_LOSSTMAX m * 1000000000 ≤ s.up → s.n Fld.EMERGENCY_LOSSESC m = 1 →
      Runs (.cmdLossEscalation m) s fun t => Logged s t .CMD_LOSS_ESC m ∧
        ∃ r ∈ t.reacts[m], r.cause = some .CMD_LOSS_ESC ∧ r.unit = m ∧ Reaction.rampStop.rank ≤ r.sev.rank) ∧
  (∀ (s : State) (m : Fin 4), s.inBlackout m = false → s.linkBelow m (s.q Fld.EMERGENCY_BOUV m) = true → Runs (.blackoutDetect m) s fun t =>
      t.inBlackout m = true ∧ t.blocked m = true ∧ t.asked m .BLACKOUT m .pulseBlock ∧ Logged s t .BLACKOUT m ∧
      t.em[m].boWait = (s.start[m].state == .run && s.yes Fld.EMERGENCY_BOAUTO m)) ∧
  (∀ (s : State) (m : Fin 4), s.inBlackout m = true ∨ s.linkBelow m (s.q Fld.EMERGENCY_BOUV m) = false →
      exec (.blackoutDetect m) s = .next s) ∧
  (∀ (s : State) (m : Fin 4), s.inBlackout m = true → s.linkBelow m (s.q Fld.EMERGENCY_BORECOV m) = false →
      Runs (.blackoutRecoveryQualified m) s fun t =>
      t.em[m].boGoodAt = some s.up ∧ ∀ r ∈ t.reacts[m], r.cause = some .BLACKOUT → r.unit = m → r.present = false) ∧
  (∀ (s : State) (m : Fin 4), s.em[m].boWait = true → heldFor s.em[m].boGoodAt s.up (s.restartDelay m) = true →
      Runs (.blackoutRestart m) s fun t =>
      t.em[m].boWait = false ∧ t.em[m].boGoodAt = none ∧ Logged s t .BO_RESTART m ∧
      ∀ r ∈ t.reacts[m], r.cause = some .BLACKOUT → r.unit ≠ m) ∧
  (∀ (s : State) (m : Fin 4), s.em[m].boWait = false ∨ s.em[m].boGoodAt = none → exec (.blackoutRestart m) s = .next s) ∧
  (∀ (s : State) (m : Fin 4), s.em[m].boAt + s.n Fld.EMERGENCY_BOMEM m * 1000000000 ≤ s.up → Runs (.blackoutMemoryExpiry m) s fun t =>
      t.em[m] = { s.em[m] with boWait := false } ∧ t.reacts = s.reacts ∧ t = { s with em := t.em }) ∧
  (∀ (s : State) (m rank : Fin 4) (n : Fin 8), s.yes Fld.EMERGENCY_DEGRADE m = true → 2 ≤ (s.feeding m).length →
      s.em[m].degr = .none_ → s.start[m].state = .idle → (s.feeding m)[rank.1]? = some n → Runs (.degradeCommand m rank) s fun t =>
        t.em[m].degr = .waiting ∧ t.br[n].isoReq = false ∧ t.blocked m = true) ∧
  (∀ (s : State) (m rank : Fin 4), s.yes Fld.EMERGENCY_DEGRADE m = false → Runs (.degradeCommand m rank) s fun t =>
      Logged s t .EM_REFUSED m ∧ t = { s with recd := t.recd, cap := t.cap }) ∧
  (∀ (s : State) (m : Fin 4) (n : Fin 8), s.em[m].degr = .waiting → (s.feeding m)[s.em[m].degrRank]? = some n →
      s.pairReads (s.n Fld.BRIDGE_ISOIN (s.recOf n)) = true → Runs (.isolatorOpen m) s fun t => t.em[m].degr = .on ∧ t.br[n].taken = true ∧ Logged s t .DEGRADED_ON m s.em[m].degrRank) ∧
  (∀ (s : State) (m : Fin 4), s.em[m].degr = .waiting → Runs (.isolatorTimeout m) s fun t =>
      t.em[m].degr = .failed ∧ Logged s t .DEGRADE_FAIL m) ∧
  (∀ (s : State) (m : Fin 4), s.start[m].state = .idle → (s.em[m].degr = .on ∨ s.em[m].degr = .failed) → Runs (.restoreCommand m) s fun t =>
      t.em[m] = { s.em[m] with degr := .none_ } ∧
      (∀ n : Fin 8, s.conf n = true → s.br[n].mo = m → t.br[n] = { s.br[n] with taken := false, isoReq := true }) ∧
      t = { s with em := t.em, br := t.br }) ∧
  (∀ (s : State) (m : Fin 4), s.start[m].state ≠ .idle ∨ s.em[m].degr = .none_ ∨ s.em[m].degr = .waiting → Runs (.restoreCommand m) s fun t =>
      Logged s t .EM_REFUSED m ∧ t = { s with recd := t.recd, cap := t.cap })

/-- R164, R166 to R168, R171, R173: the detector counts samples above its base, detects at the set number and starts a render; it skips
flagged samples and falls back from the pin; a render ends into the mode law. -/
def Obligations.ShockAndRender : Prop :=
  (∀ (s : State) (m : Fin 4), s.yes Fld.LOOP_SHKEN m = true → s.runsHere m = true → s.pinFlags m = (false, false) →
      s.shock[m].baseSet = true → s.shock[m].render = false → s.shock[m].n + 1 ≠ s.n Fld.LOOP_SHKN m → 0 < s.n Fld.LOOP_SHKN m →
      Runs (.shockSample m) s fun t =>
        t.shock[m].f = s.shockF m ∧ t.shock[m].lastAt = s.up ∧ t.shock[m].ovrRun = 0 ∧ t.shock[m].cnt = s.shock[m].cnt ∧
        t.shock[m].n = (if s.q Fld.LOOP_SHKDF m < s.shockF m - s.shock[m].base then s.shock[m].n + 1 else 0) ∧
        (s.q Fld.LOOP_SHKDF m < s.shockF m - s.shock[m].base → t.shock[m].base = s.shock[m].base) ∧
        t = { s with shock := t.shock, shadow := t.shadow, recd := t.recd, cap := t.cap }) ∧
  (∀ (s : State) (m : Fin 4), s.yes Fld.LOOP_SHKEN m = true → s.runsHere m = true → s.pinFlags m = (false, false) →
      s.shock[m].baseSet = true → s.shock[m].n + 1 = s.n Fld.LOOP_SHKN m → s.q Fld.LOOP_SHKDF m < s.shockF m - s.shock[m].base →
      s.shockArmed m = true → Runs (.shockSample m) s fun t =>
        t.shock[m].cnt = bump s.shock[m].cnt ∧ t.shock[m].t = s.dev ∧ Logged s t .SHOCK m ∧
        t.shock[m].render = (s.yes Fld.LOOP_RNDEN m && !s.shock[m].rndInh && s.outer[m].mode != .torque && s.em[m].mode == .modeLaw) ∧
        (t.shock[m].render = true → t.shock[m].rndCnt = bump s.shock[m].rndCnt)) ∧
  (∀ (s : State) (m : Fin 4) (sus : Bool), s.yes Fld.LOOP_SHKEN m = true → s.runsHere m = true → s.pinFlags m = (true, sus) →
      s.shock[m].ovrRun < 2 → Runs (.shockSample m) s fun t =>
        t.shock[m] = { s.shock[m] with n := 0, ovrRun := s.shock[m].ovrRun + 1, lastAt := s.up, wLast := s.omega m }) ∧
  (∀ (s : State) (m : Fin 4) (sus : Bool), s.yes Fld.LOOP_SHKEN m = true → s.runsHere m = true → s.pinFlags m = (true, sus) →
      s.shock[m].ovrRun = 2 → Runs (.shockSample m) s fun t =>
        t.shock[m].srcfb = true ∧ t.shock[m].n = 0 ∧ Logged s t .SHOCK_SRC_FAULT m) ∧
  (∀ (s : State) (m : Fin 4), s.yes Fld.LOOP_SHKEN m = false → Runs (.shockSample m) s fun t => t.shock = s.shock) ∧
  (∀ (s : State) (m : Fin 4), s.n Fld.LOOP_SHKSRC m = 0 → s.shock[m].srcfb = false → s.yes Fld.LOOP_SHKEN m = true →
      Runs (.shockSrcFault m) s fun t =>
        t.shock[m] = { s.shock[m] with srcfb := true, n := 0, ovrRun := 0 } ∧ Logged s t .SHOCK_SRC_FAULT m ∧
        t = { s with shock := t.shock, recd := t.recd, cap := t.cap }) ∧
  (∀ (s : State) (m : Fin 4), s.shock[m].srcfb = true → exec (.shockSrcFault m) s = .next s) ∧
  (∀ (s : State) (m : Fin 4), Runs (.shockPinRestore m) s fun t =>
      t.shock[m].srcfb = (s.shock[m].render && s.shock[m].srcfb) ∧ (∀ j : Fin 4, j ≠ m → t.shock[j] = s.shock[j]) ∧
      t = { s with shock := t.shock }) ∧
  (∀ (s : State) (m : Fin 4), s.renderCalm m = true → Runs (.renderExit m) s fun t =>
      t.shock[m].render = false ∧ t.shock[m].base = s.shock[m].f ∧ Logged s t .RENDER_END m ∧
      (s.outer[m].mode = .position → t.shock[m].xr = s.shock[m].x ∧ t.shock[m].recov = decide (s.shock[m].x ≠ 0)) ∧
      (s.outer[m].mode = .speed → t.cmd[m].ref = s.rpm m) ∧ (s.outer[m].mode = .tension → t.cmd[m].ref = s.shock[m].fCmd ∧ t.shock[m].restore = true) ∧
      t = { s with shock := t.shock, cmd := t.cmd, moGen := t.moGen, recd := t.recd, cap := t.cap }) ∧
  (∀ (s : State) (m : Fin 4), s.renderCalm m = false → exec (.renderExit m) s = .next s) ∧
  (∀ (s : State) (m : Fin 4), Runs (.shockCountersClear m) s fun t =>
      t.shock[m] = { s.shock[m] with cnt := .zero, rndCnt := .zero } ∧ (∀ j : Fin 4, j ≠ m → t.shock[j] = s.shock[j]) ∧
      t = { s with shock := t.shock })

/-- R174 to R179: a heave sample corrects the model, a loss lets it coast, AHCON is accepted only where everything is ready, and the
history and the statistics are kept. -/
def Obligations.HeaveCompensation : Prop :=
  (∀ (s : State) (m : Fin 4) (at_ : Nat), s.mruNext m = some at_ → s.runsHere m = true → Runs (.heaveSample m) s fun t =>
      t.heave[m].z = s.tipHeave m (s.mruValue (s.n Fld.LOOP_HVMRUZ m) * s.q Fld.LOOP_HVZFS m) ∧ t.heave[m].lastAt = some at_ ∧ t.heave[m].mruOk = true ∧ t.heave[m].coast = false ∧
      t.heave[m].fitFrom.isSome = true ∧ t.heave[m].accN = s.heave[m].accN + 1 ∧ (∀ j : Fin 4, j ≠ m → t.heave[j] = s.heave[j]) ∧
      t = { s with heave := t.heave, shadow := t.shadow, recd := t.recd, cap := t.cap }) ∧
  (∀ (s : State) (m : Fin 4), s.mruNext m = none ∨ s.runsHere m = false → Runs (.heaveSample m) s fun t => t.heave = s.heave) ∧
  (∀ (s : State) (m : Fin 4), s.n Fld.LOOP_HVMRUZ m = 0 → s.mruNext m = none) ∧
  (∀ (s : State) (m : Fin 4), s.heave[m].mruOk = true → heldFor s.heave[m].fitFrom s.up 120000000000 = true → Runs (.heaveFitReady m) s fun t =>
      t.heave[m] = { s.heave[m] with ready := true } ∧ t = { s with heave := t.heave }) ∧
  (∀ (s : State) (m : Fin 4), Runs (.ahconWrite m false) s fun t =>
      t.heave[m] = { s.heave[m] with ahcOn := false } ∧ t = { s with heave := t.heave }) ∧
  (∀ (s : State) (m : Fin 4), s.runsHere m = true → s.outer[m].mode = .position → s.outer[m].spoolOk = true →
      (s.braked m = false ∨ s.brake[m].state = .open_) → s.heave[m].mruOk = true → s.heave[m].ready = true →
      Runs (.ahconWrite m true) s fun t => t.heave[m] = { s.heave[m] with ahcOn := true } ∧ t = { s with heave := t.heave }) ∧
  (∀ (s : State) (m : Fin 4), (s.outer[m].mode ≠ .position ∨ s.outer[m].spoolOk = false ∨ s.heave[m].mruOk = false ∨
      s.heave[m].ready = false ∨ s.runsHere m = false ∨ (s.braked m = true ∧ s.brake[m].state ≠ .open_)) → Runs (.ahconWrite m true) s fun t =>
        t.heave[m] = { s.heave[m] with ahcOn := false } ∧ Logged s t .AHC_REFUSED m ∧
        t = { s with heave := t.heave, recd := t.recd, cap := t.cap }) ∧
  (∀ (s : State) (m : Fin 4), s.heave[m].mruOk = true → s.mruFresh m = false → Runs (.heaveMruLoss m) s fun t =>
      t.heave[m] = { s.heave[m] with
        mruOk := false, coast := true, gFrom := s.heave[m].g, gTo := 0, fitFrom := none, accBad := true } ∧ Logged s t .HEAVE_MRU_LOSS m ∧
      t = { s with heave := t.heave, recd := t.recd, cap := t.cap }) ∧
  (∀ (s : State) (m : Fin 4), s.heave[m].mruOk = false ∨ s.mruFresh m = true → exec (.heaveMruLoss m) s = .next s) ∧
  (∀ (s : State) (m : Fin 4), s.heave[m].coast = true → s.heave[m].g = 0 → Runs (.heaveCoastEnd m) s fun t =>
      t.heave[m].ahcOn = false ∧ t.heave[m].coast = false ∧ t.heave[m].g = 0 ∧ t.heave[m].ready = false ∧ t = { s with heave := t.heave }) ∧
  (∀ (s : State) (m : Fin 4), s.heave[m].coast = false ∨ s.heave[m].g ≠ 0 → exec (.heaveCoastEnd m) s = .next s) ∧
  (∀ (s : State) (m : Fin 4), s.n Fld.LOOP_HVMRUZ m ≠ 0 → s.runsHere m = true → Runs (.heaveHistoryPost m) s fun t =>
      (∃ x : HeaveSample, t.hist[m] = x :: s.hist[m].filter (fun y => y.index != x.index) ∧
        x.index = (s.dev.toNat / 500000000 + 7199) % 7200 ∧
        (s.heave[m].accN ≠ 0 → x.z = s.heave[m].accSum / s.heave[m].accN ∧ x.invalid = (s.heave[m].accBad || !s.heave[m].mruOk)) ∧
        (s.heave[m].accN = 0 → x.invalid = true)) ∧
      t.heave[m].accN = 0 ∧ t.heave[m].accSum = 0 ∧ t = { s with heave := t.heave, hist := t.hist }) ∧
  (∀ (s : State) (m : Fin 4), s.n Fld.LOOP_HVMRUZ m ≠ 0 → s.runsHere m = true → s.rst.mgmtRun = true → s.hist[m] = [] →
      0 < s.n Fld.LOOP_HVSTATWIN m → Runs (.heaveStatistics m) s fun t =>
        t.heave[m] = { s.heave[m] with statInv := true } ∧ t = { s with heave := t.heave }) ∧
  (∀ (s : State) (m : Fin 4), s.n Fld.LOOP_HVMRUZ m ≠ 0 → s.runsHere m = true → s.rst.mgmtRun = true →
      2 * s.n Fld.LOOP_HVSTATWIN m ≤ s.hist[m].length → (∀ x ∈ s.hist[m], x.invalid = false) → Runs (.heaveStatistics m) s fun t =>
        t.heave[m].statInv = false ∧ t.heave[m].stamp = s.dev.toNat ∧ (∀ j : Fin 4, j ≠ m → t.heave[j] = s.heave[j]) ∧
        t = { s with heave := t.heave })

/-- R139, R146, R150 to R153, R157: requests of an axis are carried out by its state: targets, enables, halts, stops, homing and clears,
and each is refused with its reason where the state does not take it. -/
def Obligations.AxisRequests : Prop :=
  (∀ (s : State) (k : Fin 8) (hi : Word), s.axes[k].state = .ready → s.axes[k].uncert = false →
      s.z Fld.AXIS_SWLIMN k ≤ (hi ++ s.axes[k].tgtLow).toInt → (hi ++ s.axes[k].tgtLow).toInt ≤ s.z Fld.AXIS_SWLIMP k →
      s.axes[k].inputs[1].qualified = false → s.axes[k].inputs[2].qualified = false → hi ++ s.axes[k].tgtLow ≠ s.axes[k].pos →
      Runs (.axisTargetCommit k hi) s fun t =>
        t.axes[k].state = .moving ∧ t.axes[k].tgt = hi ++ s.axes[k].tgtLow ∧ t.axes[k].pos = s.axes[k].pos ∧
        (∀ j : Fin 8, j ≠ k → t.axes[j] = s.axes[j]) ∧ t = { s with axes := t.axes }) ∧
  (∀ (s : State) (k : Fin 8) (hi : Word), s.axes[k].uncert = true → Runs (.axisTargetCommit k hi) s fun t =>
      Logged s t .AX_REFUSED k 2 ∧ t = { s with recd := t.recd, cap := t.cap }) ∧
  (∀ (s : State) (k : Fin 8) (hi : Word), s.axes[k].uncert = false → s.axes[k].state = .standstill → s.axes[k].en = true →
      s.axActive k 3 = false → Runs (.axisTargetCommit k hi) s fun t =>
        t.axes[k].axen = true ∧ t.axes[k].pend = some .target ∧ t.axes[k].state = .standstill ∧ t.axes[k].since = s.up ∧
        t.axes[k].tgt = hi ++ s.axes[k].tgtLow ∧ t = { s with axes := t.axes }) ∧
  (∀ (s : State) (k : Fin 8), s.axes[k].state = .standstill → s.axes[k].pend = some .home → Runs (.axisEnableDelayEnd k) s fun t =>
      t.axes[k].state = .homing ∧ t.axes[k].pend = none ∧ (t.axes[k].homeStep = .leave ∨ t.axes[k].homeStep = .search) ∧
      t = { s with axes := t.axes }) ∧
  (∀ (s : State) (k : Fin 8), s.axes[k].state ≠ .standstill ∨ s.axes[k].pend = none → exec (.axisEnableDelayEnd k) s = .next s) ∧
  (∀ (s : State) (k : Fin 8), Runs (.axisEnableWrite k true) s fun t =>
      t.axes[k] = { s.axes[k] with en := true } ∧ (∀ j : Fin 8, j ≠ k → t.axes[j] = s.axes[j]) ∧ t = { s with axes := t.axes }) ∧
  (∀ (s : State) (k : Fin 8), s.axes[k].state = .ready → Runs (.axisEnableWrite k false) s fun t =>
      t.axes[k].en = false ∧ t.axes[k].state = .standstill ∧ t.axes[k].axen = false ∧
      (s.yes Fld.AXIS_ENOFFUNC k = true → t.axes[k].uncert = true ∧ Logged s t .AX_POS_UNCERTAIN k)) ∧
  (∀ (s : State) (k : Fin 8), (s.axes[k].state = .moving ∨ s.axes[k].state = .homing ∨ s.axes[k].state = .sync) →
      Runs (.axisEnableWrite k false) s fun t =>
        t.axes[k].en = false ∧ t.axes[k].halting = true ∧ t.axes[k].thenStandstill = true ∧ t.axes[k].state = s.axes[k].state ∧
        t = { s with axes := t.axes }) ∧
  (∀ (s : State) (k : Fin 8), (s.axes[k].state = .moving ∨ s.axes[k].state = .homing ∨ s.axes[k].state = .sync) →
      Runs (.axisStop k) s fun t =>
        t.axes[k].state = .ready ∧ t.axes[k].uncert = true ∧ t.axes[k].homed = false ∧ t.axes[k].pos = s.axes[k].pos ∧
        Logged s t .AX_POS_UNCERTAIN k ∧ t = { s with axes := t.axes, recd := t.recd, cap := t.cap }) ∧
  (∀ (s : State) (k : Fin 8), (s.axes[k].state = .off ∨ s.axes[k].state = .standstill ∨ s.axes[k].state = .ready ∨
      s.axes[k].state = .fault) → Runs (.axisStop k) s fun t => Logged s t .AX_REFUSED k 1 ∧ t = { s with recd := t.recd, cap := t.cap }) ∧
  (∀ (s : State) (k : Fin 8), (s.axes[k].state = .moving ∨ s.axes[k].state = .sync) → Runs (.axisHalt k) s fun t =>
      t.axes[k].halting = true ∧ t.axes[k].thenStandstill = s.axes[k].thenStandstill ∧ t.axes[k].state = s.axes[k].state ∧
      t.axes[k].uncert = s.axes[k].uncert ∧ t = { s with axes := t.axes }) ∧
  (∀ (s : State) (k : Fin 8), s.axes[k].state = .ready → Runs (.axisHome k) s fun t =>
      t.axes[k].state = .homing ∧ t.axes[k].latched = false ∧ t.axes[k].homeRev = false ∧
      t.axes[k].homeStep = (if (vat s.axes[k].inputs .reset (s.homeInput k)).qualified then .leave else .search) ∧
      t = { s with axes := t.axes }) ∧
  (∀ (s : State) (k : Fin 8), s.axes[k].state = .moving → Runs (.axisHome k) s fun t =>
      Logged s t .AX_REFUSED k 1 ∧ t = { s with recd := t.recd, cap := t.cap }) ∧
  (∀ (s : State) (k : Fin 8), s.axes[k].uncert = false → s.axMaySync k = true → s.axes[k].state = .ready → Runs (.axisSyncon k) s fun t =>
      t.axes[k] = { s.axes[k] with state := .sync, axen := true, shrt := false, halting := false, limHalt := none, since := s.up } ∧
      t = { s with axes := t.axes }) ∧
  (∀ (s : State) (k : Fin 8), s.axes[k].uncert = false → s.axMaySync k = false → Runs (.axisSyncon k) s fun t =>
      Logged s t .AX_REFUSED k 5 ∧ t = { s with recd := t.recd, cap := t.cap }) ∧
  (∀ (s : State) (k : Fin 8), s.axes[k].state = .sync → Runs (.axisSyncoff k) s fun t =>
      t.axes[k].halting = true ∧ t.axes[k].state = .sync ∧ t = { s with axes := t.axes }) ∧
  (∀ (s : State) (k : Fin 8), s.axes[k].state = .fault → s.axActive k 3 = false →
      (∀ m : Fin 4, s.axLink k = some m → s.blocked m = false) → Runs (.axisClear k) s fun t =>
        t.axes[k].state = .standstill ∧ t.axes[k].chat = .zero ∧ t.axes[k].axen = false) ∧
  (∀ (s : State) (k : Fin 8), s.axes[k].state = .fault → s.axActive k 3 = true → Runs (.axisClear k) s fun t =>
      t.axes[k].state = .fault ∧ t.axes[k].chat = .zero ∧ Logged s t .AX_REFUSED k 1) ∧
  (∀ (s : State) (k : Fin 8), s.axes[k].state = .ready → Runs (.axisStandstillDelayEnd k) s fun t =>
      t.axes[k].state = .standstill ∧ t.axes[k].axen = false ∧ t.axes[k].shrt = (s.n Fld.AXIS_STANDSTILL k == 1) ∧ t.axes[k].pend = none) ∧
  (∀ (s : State) (k : Fin 8), s.axes[k].state ≠ .ready → exec (.axisStandstillDelayEnd k) s = .next s)

/-- R139, R148, R152, R153, R155 to R158, R160: the generator moves the position in every period; input edges latch, qualify and
chatter; a drive fault or a homing that takes too long ends in FAULT. -/
def Obligations.AxisMotionAndInputs : Prop :=
  (∀ (s : State) (k : Fin 8) (g : Gen) (notes : GenNotes), s.axes[k].state ≠ .off →
      s.axes[k].gen.periodLate (s.axLimits k) (s.axDwell k) (5 / 100000) = (g, notes) → g.still = false →
      Runs (.axisGeneratorPeriod k) s fun t =>
        t.axes[k].gen = g ∧ t.axes[k].pos = BitVec.ofInt 64 (gridDown (1 / 4294967296) g.x + 1 / 2).floor ∧
        t.axes[k].dir = decide (0 < g.dir) ∧ (notes.dfr = true → Logged s t .PROF_LIMIT_DEFERRED k) ∧
        (notes.past = true → Logged s t .PROF_OVERSHOOT k) ∧ (notes.cut = true → Logged s t .PROF_TARGET_CLAMPED k) ∧
        (∀ j : Fin 8, j ≠ k → t.axes[j] = s.axes[j]) ∧ t = { s with axes := t.axes, shadow := t.shadow, recd := t.recd, cap := t.cap }) ∧
  (∀ (s : State) (k : Fin 8), s.axes[k].state = .off → Runs (.axisGeneratorPeriod k) s fun t => t.axes = s.axes) ∧
  (∀ (s : State) (k : Fin 8), (s.axes[k].state ≠ .off ∧ s.axes[k].state ≠ .fault) → Runs (.axDrvFault k) s fun t =>
      t.axes[k].state = .fault ∧ t.axes[k].axen = false ∧ t.axActive k 3 = true ∧ t.axes[k].uncert = true ∧
      Logged s t .AX_DRV_FAULT k ∧ Logged s t .AX_POS_UNCERTAIN k ∧ (∀ j : Fin 8, j ≠ k → t.axes[j] = s.axes[j])) ∧
  (∀ (s : State) (k : Fin 8), s.axes[k].state = .off → exec (.axDrvFault k) s = .next s) ∧
  (∀ (s : State) (k : Fin 8) (i : Fin 4) (level : Bool), s.axes[k].inputs[i].window.isSome = true →
      Runs (.axisInputEdge k i level) s fun t =>
        t.axes[k].inputs[i] = { s.axes[k].inputs[i] with ball := level } ∧
        (∀ j : Fin 4, j ≠ i → t.axes[k].inputs[j] = s.axes[k].inputs[j]) ∧ t.axes[k].latch = s.axes[k].latch ∧ t = { s with axes := t.axes }) ∧
  (∀ (s : State) (k : Fin 8) (level : Bool), s.axes[k].state = .ready → s.axes[k].inputs[0].window = none →
      (level != (s.n Fld.AXIS_INPOL k).testBit 0) = true → s.axes[k].inputs[0].ball ≠ level → s.axes[k].inputs[0].qualified = false →
      Runs (.axisInputEdge k 0 level) s fun t =>
        t.axes[k].inputs[0].window = some s.up ∧ t.axes[k].latch = s.axes[k].pos ∧ t.axes[k].latchT = s.dev.toNat ∧
        t.axes[k].latched = true ∧ t = { s with axes := t.axes }) ∧
  (∀ (s : State) (k : Fin 8) (i : Fin 4), s.axes[k].inputs[i].window.isSome = true → s.axActive k i = true →
      Runs (.axisDebounceEnd k i) s fun t =>
        t.axes[k].inputs[i].qualified = true ∧ t.axes[k].inputs[i].window = none ∧ t.axes[k].chat = s.axes[k].chat ∧
        t = { s with axes := t.axes }) ∧
  (∀ (s : State) (k : Fin 8) (i : Fin 4), s.axes[k].inputs[i].window.isSome = true → s.axActive k i = false →
      s.axes[k].inputs[i].qualified = false → Runs (.axisDebounceEnd k i) s fun t =>
        t.axes[k].inputs[i].window = none ∧ t.axes[k].inputs[i].qualified = false ∧ t.axes[k].chat = bump s.axes[k].chat ∧
        Logged s t .AX_CHATTER k i ∧ t = { s with axes := t.axes, recd := t.recd, cap := t.cap }) ∧
  (∀ (s : State) (k : Fin 8) (i : Fin 4), s.axes[k].inputs[i].window = none → exec (.axisDebounceEnd k i) s = .next s) ∧
  (∀ (s : State) (k : Fin 8), s.axes[k].state = .homing → Runs (.homeTimeout k) s fun t =>
      t.axes[k].state = .fault ∧ t.axes[k].uncert = true ∧ t.axes[k].axen = false ∧ Logged s t .HOME_FAILED k ∧
      t = { s with axes := t.axes, recd := t.recd, cap := t.cap }) ∧
  (∀ (s : State) (k : Fin 8), s.axes[k].state ≠ .homing → exec (.homeTimeout k) s = .next s) ∧
  (∀ (s : State) (k : Fin 8) (m : Fin 4), s.axLink k = some m → s.axes[k].state = .sync → s.axes[k].lwErr = false →
      heldFor s.axes[k].lwOver s.up 100000000 = true → Runs (.lwFollow k) s fun t =>
        t.axes[k].lwErr = true ∧ Logged s t .LW_FOLLOW k ∧
        (s.rc Fld.AXIS_LWREACT k ≠ .log → t.asked m .LW_FOLLOW k (s.rc Fld.AXIS_LWREACT k))) ∧
  (∀ (s : State) (k : Fin 8), s.axLink k = none ∨ s.axes[k].state ≠ .sync ∨ s.axes[k].lwErr = true ∨ s.axes[k].lwOver = none →
      exec (.lwFollow k) s = .next s)

/-- R182 to R185, R188, R190, R191, R196: the module sends what it holds, takes only valid copies in time, judges every position at the
deadline, takes over the new allocation at the boundary, and leaves the group without quorum. -/
def Obligations.RingCycle : Prop :=
  (∀ s : State, s.ring.on = true → Runs .ringLatch s fun t =>
      t.ring.k = s.cycleNo ∧ t.ring.own.pos = s.ownPos.1 ∧ t.ring.own.cycle = BitVec.ofNat 16 s.cycleNo ∧ t.ring.own.time = s.dev ∧
      t.ring.own.dinf = s.ring.alloc.dinf ∧ t.ring.alloc = s.ring.alloc ∧
      t.ring.pos[s.ownPos].recent.head? = some (s.cycleNo, t.ring.own) ∧ t.ring.pos[s.ownPos].miss = 0 ∧
      (∀ p : Fin 8, p ≠ s.ownPos → t.ring.pos[p] = s.ring.pos[p]) ∧
      (∀ m : Fin 4, (s.ring.mbr[m].state = .share ∨ s.ring.mbr[m].state = .draining ∧ s.othersCarry m = true) →
        t.ring.own.mbr[m].held = s.ring.alloc.share[s.ownKey m] ∧ t.ring.own.mbr[m].rel = 0) ∧
      (∀ m : Fin 4, s.ring.mbr[m].state = .out → t.ring.own.mbr[m].held = 0 ∧ t.ring.own.mbr[m].cpos = 0 ∧ t.ring.own.mbr[m].cneg = 0 ∧
        t.ring.own.mbr[m].rel = if s.ring.alloc.elig[s.ownKey m] then s.ring.alloc.share[s.ownKey m] else 0) ∧
      t = { s.settledFrom t with cmd := t.cmd }) ∧
  (∀ s : State, s.ring.on = false → exec .ringLatch s = .next s ∧ exec .ringArrivalDeadline s = .next s ∧
      exec .ringCycleBoundary s = .next s) ∧
  (∀ (s : State) (portB crcOk typeOk : Bool) (f : RingFrame) (delay : Nat), s.ring.on = true →
      (crcOk = false ∨ typeOk = false ∨ f.cycle ≠ BitVec.ofNat 16 s.cycleNo) → Runs (.ringFrameArrival portB crcOk typeOk f delay) s fun t =>
        t.ring = { s.ring with crcCnt := bumpBy s.ring.crcCnt 1, crcSeen := true } ∧ (s.ring.crcSeen = false → Logged s t .RING_CRC) ∧
        t = { s with ring := t.ring, recd := t.recd, cap := t.cap }) ∧
  (∀ (s : State) (portB : Bool) (f : RingFrame) (delay : Nat), s.ring.on = true → s.ring.rx = false → f.cycle = BitVec.ofNat 16 s.cycleNo →
      f.pos < 8 → f.pos ≠ s.ownPos.1 → Runs (.ringFrameArrival portB true true f delay) s fun t =>
        t.ring = { s.ring with
          crcCnt := bumpBy s.ring.crcCnt 1, crcSeen := true
          sentA := if portB then s.ring.sentA else s.ring.sentA ++ [f], sentB := if portB then s.ring.sentB ++ [f] else s.ring.sentB }) ∧
  (∀ (s : State) (portB : Bool) (f : RingFrame) (delay : Nat), s.ring.on = true → f.cycle = BitVec.ofNat 16 s.cycleNo →
      f.pos = s.ownPos.1 → f = s.ring.own → Runs (.ringFrameArrival portB true true f delay) s fun t =>
        t = { s with ring := { s.ring with aSeen := s.ring.aSeen || !portB, bSeen := s.ring.bSeen || portB } }) ∧
  (∀ (s : State) (portB : Bool) (f : RingFrame) (delay : Nat), s.ring.on = true → f.cycle = BitVec.ofNat 16 s.cycleNo →
      f.pos = s.ownPos.1 → f ≠ s.ring.own → s.ring.conflict = false → Runs (.ringFrameArrival portB true true f delay) s fun t =>
        t.ring.conflict = true ∧ Logged s t .RING_CONFIG) ∧
  (∀ (s : State) (p : Fin 8) (portB : Bool) (f : RingFrame) (delay : Nat), s.ring.on = true → s.ring.rx = true →
      f.cycle = BitVec.ofNat 16 s.cycleNo → f.pos = p.1 → p ≠ s.ownPos → Runs (.ringFrameArrival portB true true f delay) s fun t =>
        t.ring.pos[p] = (if portB then { s.ring.pos[p] with copyB := some f } else { s.ring.pos[p] with copyA := some f }) ∧
        t.ring.bSeen = (s.ring.bSeen || portB) ∧ t.ring.aSeen = (s.ring.aSeen || !portB) ∧
        t.ring.sentA = (if portB then s.ring.sentA else s.ring.sentA ++ [f]) ∧
        t.ring.sentB = (if portB then s.ring.sentB ++ [f] else s.ring.sentB) ∧
        (∀ q : Fin 8, q ≠ p → t.ring.pos[q] = s.ring.pos[q]) ∧ (s.refPos s.cycleNo ≠ some p → t.dev = s.dev) ∧
        (s.refPos s.cycleNo = some p → s.ring.pos[p].copyA = none → s.ring.pos[p].copyB = none →
          t.ring.terr = (f.time.toNat : Int) + delay + (if portB then s.ring.delayB else s.ring.delayA) - s.dev.toNat)) ∧
  (∀ s : State, s.ring.on = true → Runs .ringArrivalDeadline s fun t =>
      t.ring.rx = false ∧ t.ring.pos[s.ownPos] = s.ring.pos[s.ownPos] ∧ t.ring.alloc = s.ring.alloc ∧ t.dev = s.dev ∧ t.fab = s.fab ∧
      ∀ p ∈ s.positions, p ≠ s.ownPos →
        (∀ f : RingFrame, (s.ring.pos[p].copyA = some f ∨ s.ring.pos[p].copyB = some f) →
            (s.ring.pos[p].copyA = none ∨ s.ring.pos[p].copyB = none ∨ s.ring.pos[p].copyA = s.ring.pos[p].copyB) →
          t.ring.pos[p].recent.head? = some (s.cycleNo, f) ∧ t.ring.pos[p].miss = 0 ∧ t.ring.pos[p].visible = true) ∧
        (((s.ring.pos[p].copyA = none ∧ s.ring.pos[p].copyB = none) ∨
            (s.ring.pos[p].copyA.isSome ∧ s.ring.pos[p].copyB.isSome ∧ s.ring.pos[p].copyA ≠ s.ring.pos[p].copyB)) →
          t.ring.pos[p].recent = s.ring.pos[p].recent ∧ t.ring.pos[p].miss = min 3 (s.ring.pos[p].miss + 1) ∧
          (s.ring.pos[p].miss = 2 → Logged s t .RING_MEMBER_LOST p))) ∧
  (∀ s : State, s.ring.on = true → Runs .ringCycleBoundary s fun t =>
      t.ring.rx = true ∧ t.ring.aSeen = false ∧ t.ring.bSeen = false ∧ t.ring.k = s.cycleNo ∧
      t.ring.alloc = s.ring.nextAlloc.getD s.ring.alloc ∧ t.ring.nextAlloc = none ∧
      (∀ p : Fin 8, t.ring.pos[p] = { s.ring.pos[p] with copyA := none, copyB := none }) ∧
      (s.ring.loseQuorum = true → s.ring.quorum = true → t.ring.quorum = false ∧ t.ring.leadPos = none ∧ Logged s t .RING_ISOLATED ∧
        ∀ m : Fin 4, s.ring.mbr[m].state ≠ .none_ →
          t.ring.mbr[m].state = .isolated ∧ t.blocked m = true ∧ t.asked m .RING_ISOLATED 0xFF .pulseBlock) ∧
      (s.ring.loseQuorum = false → s.ring.nextLead = none → t.ring.leadPos = s.ring.leadPos ∧ t.ring.quorum = s.ring.quorum)) ∧
  (∀ s : State, s.ring.on = true → s.ring.quorum = true → s.ring.loseQuorum = false → 100 ≤ s.ring.quorumN →
      Runs .quorumRestored s fun t =>
      (∀ m : Fin 4, s.ring.mbr[m].state = .isolated → t.ring.mbr[m].state = .idle) ∧
      ∀ m : Fin 4, ∀ r ∈ t.reacts[m], r.cause = some .RING_ISOLATED → r.unit = 0xFF → r.present = false) ∧
  (∀ s : State, (s.ring.on = false ∨ s.ring.quorum = false ∨ s.ring.loseQuorum = true ∨ s.ring.quorumN < 100) → exec .quorumRestored s = .next s) ∧
  (∀ (s : State) (a b : Nat), s.ring.on = true → Runs (.ringDelayMeasure a b) s fun t =>
      t = { s with ring := { s.ring with delayA := a, delayB := b } }) ∧
  (∀ s : State, Runs .ringCountersClear s fun t =>
      t = { s with ring := { s.ring with missCnt := .zero, crcCnt := .zero, consCnt := .zero, crcSeen := false } })

/-- R185, R186, R194, R195, R197: the commands and events that move a member from state to state, and their refusals. What a start
does to the lead's own member is the model's reading (log 71). -/
def Obligations.RingMembers : Prop :=
  (∀ (s : State) (m : Fin 4), s.ring.on = true → s.ring.mbr[m].state = .idle → (s.ring.group = .starting ∨ s.ring.group = .running) →
      s.armed[m] = true → s.ring.tlock = true → s.ring.conflict = false → s.cfgAgrees = true → s.carrierOk m = true →
      s.startRefusal m = 0 → s.gatesReady m = true → s.start[m].state = .idle → Runs (.ringMemberJoin m) s fun t =>
        t.ring.mbr[m].state = .joining ∧ t.ring.mbr[m].fullAtOnce = (s.ring.group == .starting) ∧ t.start[m].state = .measure ∧
        (∀ j : Fin 4, j ≠ m → t.ring.mbr[j] = s.ring.mbr[j] ∧ t.start[j] = s.start[j]) ∧
        (s.outer[m].short = false → t = { s with start := t.start, ring := t.ring })) ∧
  (∀ (s : State) (m : Fin 4), s.ring.on = true → s.ring.mbr[m].state = .idle → (s.ring.group = .starting ∨ s.ring.group = .running) →
      s.armed[m] = true → (∀ n ∈ s.feeding m, s.br[n].enabled = true) → s.ring.tlock = true → s.ring.conflict = false →
      (s.cfgAgrees = false ∨ s.carrierOk m = false) → Runs (.ringMemberJoin m) s fun t =>
        Logged s t .RING_CONFIG m ∧ t = { s with recd := t.recd, cap := t.cap }) ∧
  (∀ (s : State) (m : Fin 4), (s.ring.on = false ∨ s.ring.mbr[m].state ≠ .idle ∨ s.ring.group = .stopped ∨ s.ring.group = .stopping ∨
      s.armed[m] = false ∨ s.ring.tlock = false ∨ s.ring.conflict = true) → exec (.ringMemberJoin m) s = .next s) ∧
  (∀ (s : State) (m : Fin 4), s.ring.mbr[m].state = .share → Runs (.ringDrainCommand m) s fun t =>
      t.ring.mbr[m] = { s.ring.mbr[m] with
        state := .draining, rampAt := s.up, from_ := s.ring.mbr[m].factor, ramp := true, dhold := false, holdAt := none } ∧
      (∀ j : Fin 4, j ≠ m → t.ring.mbr[j] = s.ring.mbr[j]) ∧ t = { s with ring := { s.ring with mbr := t.ring.mbr } }) ∧
  (∀ (s : State) (m : Fin 4), s.ring.mbr[m].state ≠ .share → Runs (.ringDrainCommand m) s fun t =>
      Logged s t .RING_REFUSED m ∧ t = { s with recd := t.recd, cap := t.cap }) ∧
  (∀ (s : State) (m : Fin 4), s.ring.mbr[m].state = .draining → Runs (.ringJoinCommand m) s fun t =>
      t.ring.mbr[m].state = .share ∧ t.ring.mbr[m].ramp = true ∧ t.ring.mbr[m].factor = s.ring.mbr[m].factor ∧
      (∀ j : Fin 4, j ≠ m → t.ring.mbr[j] = s.ring.mbr[j]) ∧ t = { s with ring := { s.ring with mbr := t.ring.mbr } }) ∧
  (∀ (s : State) (m : Fin 4), (s.ring.mbr[m].state = .drained ∨ s.ring.mbr[m].state = .service) →
      (∀ n ∈ s.bridges m, s.br[n].passed = true) → s.ring.tlock = true → s.startRefusal m = 0 → s.gatesReady m = true →
      s.start[m].state = .idle → s.ring.conflict = false → s.cfgAgrees = true → s.carrierOk m = true → Runs (.ringJoinCommand m) s fun t =>
        t.ring.mbr[m].state = .joining ∧ t.ring.mbr[m].fullAtOnce = (s.ring.group == .starting) ∧ t.start[m].state = .measure ∧
        (s.outer[m].short = false → t = { s with start := t.start, ring := t.ring })) ∧
  (∀ (s : State) (m : Fin 4), (s.ring.mbr[m].state = .none_ ∨ s.ring.mbr[m].state = .idle ∨ s.ring.mbr[m].state = .joining ∨
      s.ring.mbr[m].state = .share ∨ s.ring.mbr[m].state = .out ∨ s.ring.mbr[m].state = .isolated ∨
      ((s.ring.mbr[m].state = .drained ∨ s.ring.mbr[m].state = .service) ∧
        (s.ring.tlock = false ∨ s.ring.conflict = true ∨ ∃ n ∈ s.bridges m, s.br[n].passed = false))) → Runs (.ringJoinCommand m) s fun t =>
      Logged s t .RING_REFUSED m ∧ t = { s with recd := t.recd, cap := t.cap }) ∧
  (∀ (s : State) (m : Fin 4), s.ring.mbr[m].state = .drained → Runs (.ringServiceCommand m) s fun t =>
      t.ring.mbr[m] = { s.ring.mbr[m] with state := .service } ∧ (∀ j : Fin 4, j ≠ m → t.ring.mbr[j] = s.ring.mbr[j]) ∧
      t = { s with ring := { s.ring with mbr := t.ring.mbr } }) ∧
  (∀ (s : State) (m : Fin 4), s.ring.mbr[m].state ≠ .drained → Runs (.ringServiceCommand m) s fun t =>
      Logged s t .RING_REFUSED m ∧ t = { s with recd := t.recd, cap := t.cap }) ∧
  (∀ (s : State) (m : Fin 4), s.ring.mbr[m].state = .share → s.ring.mbr[m].ramp = true → s.joinFactor m = 1 → Runs (.ringJoined m) s fun t =>
      t.ring.mbr[m] = { s.ring.mbr[m] with ramp := false, factor := 1 } ∧ Logged s t .RING_JOINED m ∧
      t = { s with ring := { s.ring with mbr := t.ring.mbr }, recd := t.recd, cap := t.cap }) ∧
  (∀ (s : State) (m : Fin 4), s.ring.mbr[m].state ≠ .share ∨ s.ring.mbr[m].ramp = false ∨ s.joinFactor m ≠ 1 →
      exec (.ringJoined m) s = .next s) ∧
  (∀ (s : State) (m : Fin 4), s.ring.mbr[m].state = .draining → s.ring.mbr[m].dhold = true → s.reacts[m] = [] →
      heldFor s.ring.mbr[m].holdAt s.up (s.n Fld.RING_DRAINMAX 0 * 1000000000) = true →
      Runs (.ringDrainRefused m) s fun t =>
        t.ring.mbr[m] = { s.ring.mbr[m] with state := .share, ramp := true, rampAt := s.up, dhold := false, holdAt := none } ∧
        Logged s t .RING_DRAIN_REFUSED m ∧ t = { s with ring := { s.ring with mbr := t.ring.mbr }, recd := t.recd, cap := t.cap }) ∧
  (∀ (s : State) (m : Fin 4) (r : React), s.ring.mbr[m].state = .draining → s.ring.mbr[m].dhold = true → r ∈ s.reacts[m] →
      (r.sev = .rampStop ∨ r.sev = .quickStop) →
      heldFor s.ring.mbr[m].holdAt s.up (s.n Fld.RING_DRAINMAX 0 * 1000000000) = true → Runs (.ringDrainRefused m) s fun t =>
        t.blocked m = true ∧ Logged s t .RING_DRAIN_REFUSED m) ∧
  (∀ (s : State) (m : Fin 4), (s.ring.mbr[m].state ≠ .draining ∨ s.ring.mbr[m].dhold = false ∨ s.ring.mbr[m].holdAt = none) → exec (.ringDrainRefused m) s = .next s)

/-! ## Protection and safety functions -/

/-- R35, R218, R221, R223, R224, R226, R229: comparator trips, gate status faults and rejected patterns switch the gates of their
bridges off at once; the collection window ends; a return and a new train clear what they clear. That a trip of an input that is
neither phase current nor link latches a bridge in ASC off, and that the trips of a self-test's own target do not count, are the
model's readings (log 127, log 134). -/
def Obligations.HardwareProtection : Prop :=
  (∀ (s : State) (i : Fin 96) (hi : Bool) (stamp : BitVec 64), s.sideOff i hi = false → s.inputInTest i = false →
      s.recd.ring.length + 64 ≤ ringMax → Runs (.comparatorLevel2Trip i hi stamp) s fun t =>
        t.cmp[i].trips = bump s.cmp[i].trips ∧ t.cmp[i].l2hi = (s.cmp[i].l2hi || hi) ∧ t.cmp[i].l2lo = (s.cmp[i].l2lo || !hi) ∧
        t.keeps ⟨Ev.CMP_TRIP.code, i, 0, gridOf stamp, []⟩ ∧ (∀ j : Fin 96, j ≠ i → t.cmp[j] = s.cmp[j]) ∧
        (∀ n ∈ s.naming i, s.br[n].form ≠ .asc → t.br[n].latch = true ∧ t.br[n].form ≠ .run) ∧
        (∀ n : Fin 8, s.naming i = [n] → (s.br[n].form ≠ .asc ∨ (s.isPhase n i = false ∧ s.isLink n i = false)) →
          t.br[n].latch = true ∧ t.br[n].form = .pblk ∧ t.br[n].window.isSome = true) ∧
        (∀ n : Fin 8, s.naming i = [n] → s.br[n].form = .asc → s.isPhase n i = true → t.br = s.br)) ∧
  (∀ (s : State) (i : Fin 96) (hi : Bool) (stamp : BitVec 64), (s.sideOff i hi = true ∨ s.inputInTest i = true) →
      exec (.comparatorLevel2Trip i hi stamp) s = .next s) ∧
  (∀ (s : State) (i : Fin 96) (hi : Bool), (s.atEnd i hi (s.level1 i hi) = true ∨ s.inputInTest i = true) →
      exec (.comparatorLevel1Crossing i hi) s = .next s) ∧
  (∀ (s : State) (i : Fin 96) (hi : Bool), s.atEnd i hi (s.level1 i hi) = false → s.inputInTest i = false →
      Runs (.comparatorLevel1Crossing i hi) s fun t =>
      t.cmp[i] = { s.cmp[i] with l1hi := s.cmp[i].l1hi || hi, l1lo := s.cmp[i].l1lo || !hi } ∧
      (∀ j : Fin 96, j ≠ i → t.cmp[j] = s.cmp[j]) ∧ t = { s with cmp := t.cmp, cells := t.cells, hk := t.hk, recd := t.recd, cap := t.cap }) ∧
  (∀ (s : State) (i : Fin 96), Runs (.comparatorReturn i) s fun t =>
      t.cmp[i].l1hi = false ∧ t.cmp[i].l1lo = false ∧ t.cmp[i].back = true ∧ t.cmp[i].trips = s.cmp[i].trips ∧
      (∀ (m : Fin 4), ∀ r ∈ t.reacts[m], r.cause = some .CMP_TRIP → r.unit = i → r.present = false) ∧
      (∀ n ∈ s.naming i, s.isLink n i = true →
        ∀ (m : Fin 4), ∀ r ∈ t.reacts[m], r.cause = some .OV3 → r.unit = n → r.present = false)) ∧
  (∀ (s : State) (g : Fin 52), s.channelInTest g = true →
      exec (.gateStatusDesat g) s = .next s ∧ exec (.gateStatusUv g) s = .next s) ∧
  (∀ (s : State) (g : Fin 52) (n : Fin 8), s.channelInTest g = false → s.bridgeWith g = some n → s.br[n].form ≠ .asc →
      Runs (.gateStatusDesat g) s fun t =>
      t.chan[g].desat = true ∧ t.chan[g].ready = false ∧ t.chan[g].faulted = true ∧ Logged s t .GD_DESAT g ∧
      t.br[n].latch = true ∧ t.br[n].form = .pblk ∧ t.br[n].window.isSome = true) ∧
  (∀ (s : State) (g : Fin 52) (n : Fin 8), s.channelInTest g = false → s.chan[g].ready = true → s.bridgeWith g = some n →
      s.br[n].form ≠ .asc →
      Runs (.gateStatusUv g) s fun t =>
        t.chan[g].uv = true ∧ t.chan[g].ready = false ∧ t.chan[g].faulted = true ∧ Logged s t .GD_UV g ∧
        t.br[n].latch = true ∧ t.br[n].form = .pblk) ∧
  (∀ (s : State) (c : Fin 4), s.channelInTest (48 + c.1) = false → s.chop[c].config = true → s.chop[c].fault = false →
      Runs (.gateStatusDesat ⟨48 + c.1, by omega⟩) s fun t =>
      t.chop[c].fault = true ∧ t.chop[c].on = false ∧ t.chop[c].forced = false ∧ t.chop[c].stok = false ∧ Logged s t .CHOP_FAULT c ∧ t.br = s.br) ∧
  (∀ (s : State) (g : Fin 52), s.chan[g].ready = false → exec (.gateStatusUv g) s = .next s) ∧
  (∀ (s : State) (g : Fin 52) (freq : Rat), (freq * 111 < 1000000 ∨ 1000000 < freq * 32) →
      exec (.gateTrainReady g freq) s = .next s) ∧
  (∀ (s : State) (g : Fin 52) (freq : Rat), 1000000 ≤ freq * 111 → freq * 32 ≤ 1000000 → Runs (.gateTrainReady g freq) s fun t =>
      t.chan[g].ready = true ∧ t.chan[g].desat = false ∧ t.chan[g].uv = false ∧ t.chan[g].trainInv = false ∧
      t.chan[g].temp = ((freq - 10000) / 100 * 16).floor - 640 ∧ (∀ h : Fin 52, h ≠ g → t.chan[h] = s.chan[h])) ∧
  (∀ (s : State) (g : Fin 52), Runs (.gateTrainInvalid g) s fun t =>
      t.chan[g] = { s.chan[g] with trainInv := true } ∧ Logged s t .GD_TEMPINV g ∧ t = { s with chan := t.chan, recd := t.recd, cap := t.cap }) ∧
  (∀ (s : State) (n : Fin 8) (phase : Fin 3) (a b : Fin 12) (pattern : BitVec 12) (gap : Bool), s.conf n = true →
      Runs (.shoot n phase a b pattern gap) s fun t =>
        Logged s t .SHOOT n phase (bytesLE 1 a ++ bytesLE 1 b ++ bytesLE 2 pattern.toNat ++ bytesLE 1 (bit 0 gap)) ∧
        t.br[n].latch = true ∧ t.br[n].form = .pblk ∧ t.br[n].window.isSome = true) ∧
  (∀ (s : State) (n : Fin 8) (phase : Fin 3) (a b : Fin 12) (pattern : BitVec 12) (gap : Bool), s.conf n = false →
      exec (.shoot n phase a b pattern gap) s = .next s) ∧
  (∀ (s : State) (n : Fin 8), s.br[n].window.isSome = true → Runs (.faultWindowEnd n) s fun t =>
      t.br[n].window = none ∧ t.br[n].gather = []) ∧
  (∀ (s : State) (n : Fin 8), s.br[n].window = none → exec (.faultWindowEnd n) s = .next s) ∧
  (∀ s : State, Runs .protectionCountersClear s fun t =>
      (∀ i : Fin 96, t.cmp[i] = { s.cmp[i] with trips := .zero }) ∧ t = { s with cmp := t.cmp })

/-- R219, R231, R234 to R236, R238, R239, R411: enables are refused where something is missing; contactors, choppers and self-tests. -/
def Obligations.EnablesAndChoppers : Prop :=
  (∀ (s : State) (n : Fin 8), s.debugFast = false → s.br[n].enabled = false → s.enableFails n = none → Runs (.gateEnableWrite n true) s fun t =>
      t.br[n].enabled = true ∧ (∀ j : Fin 8, j ≠ n → t.br[j].enabled = s.br[j].enabled)) ∧
  (∀ (s : State) (n : Fin 8) (x : Nat), s.debugFast = false → s.br[n].enabled = false → s.enableFails n = some x →
      Runs (.gateEnableWrite n true) s fun t => Logged s t .GD_NOTREADY n x ∧ t = { s with recd := t.recd, cap := t.cap }) ∧
  (∀ (s : State) (n : Fin 8), s.debugFast = false → s.br[n].enabled = true → Runs (.gateEnableWrite n false) s fun t =>
      t.br[n].enabled = false ∧ t.blocked s.br[n].mo = true) ∧
  (∀ (s : State) (n : Fin 8) (en : Bool), s.debugFast = true → Runs (.gateEnableWrite n en) s fun t =>
      Logged s t .GD_NOTREADY n (gateBase n) ∧ t = { s with recd := t.recd, cap := t.cap }) ∧
  (∀ (s : State) (c : Fin 4), s.debugFast = false → s.chop[c].config = true → s.chop[c].stok = true → s.rst.stage = 9 →
      Runs (.chopperEnableWrite c true) s fun t =>
      t.chop[c] = { s.chop[c] with enabled := true } ∧ (∀ d : Fin 4, d ≠ c → t.chop[d] = s.chop[d]) ∧ t = { s with chop := t.chop }) ∧
  (∀ (s : State) (c : Fin 4), s.debugFast = false → (s.chop[c].config = false ∨ s.chop[c].stok = false ∨ s.rst.stage ≠ 9) →
      Runs (.chopperEnableWrite c true) s fun t =>
      Logged s t .GD_NOTREADY (48 + c) (48 + c) ∧ t = { s with recd := t.recd, cap := t.cap }) ∧
  (∀ (s : State) (c : Fin 4), s.debugFast = false → Runs (.chopperEnableWrite c false) s fun t =>
      t.chop[c] = { s.chop[c] with enabled := false, on := false, forced := false } ∧ t = { s with chop := t.chop }) ∧
  (∀ (s : State) (n : Fin 8), s.br[n].dcopen = true → s.br[n].conFail = false → s.n Fld.BRIDGE_DCFB (s.recOf n) ≠ 0 →
      s.pairReads (s.n Fld.BRIDGE_DCFB (s.recOf n)) = false → Runs (.contactorTimeout n) s fun t =>
      t.br[n] = { s.br[n] with conFail := true } ∧ (∀ j : Fin 8, j ≠ n → t.br[j] = s.br[j]) ∧ Logged s t .CON_FAIL n ∧
      t = { s with br := t.br, recd := t.recd, cap := t.cap }) ∧
  (∀ (s : State) (n : Fin 8), (s.br[n].dcopen = false ∨ s.br[n].conFail = true ∨ s.n Fld.BRIDGE_DCFB (s.recOf n) = 0 ∨
      s.pairReads (s.n Fld.BRIDGE_DCFB (s.recOf n)) = true) → exec (.contactorTimeout n) s = .next s) ∧
  (∀ (s : State) (c : Fin 4), s.chop[c].config = true → Runs (.chopperPeriod c) s fun t =>
      0 ≤ t.chop[c].duty ∧ t.chop[c].duty ≤ 1 ∧
      t.chop[c].on = (t.chop[c].enabled && !t.chop[c].removed && (t.chop[c].forced || decide (0 < t.chop[c].duty))) ∧
      t.chop[c].enabled = s.chop[c].enabled ∧ (∀ d : Fin 4, d ≠ c → t.chop[d] = s.chop[d])) ∧
  (∀ (s : State) (c : Fin 4), s.chop[c].config = false → exec (.chopperPeriod c) s = .next s) ∧
  (∀ (s : State) (c : Fin 4), s.chop[c].config = true → s.chop[c].enabled = true → s.chop[c].removed = false → s.chop[c].forced = false →
      Runs (.chopperForceOn c) s fun t =>
        t.chop[c] = { s.chop[c] with forced := true, on := true } ∧ Logged s t .OV2_FORCED c ∧
        t = { s with chop := t.chop, recd := t.recd, cap := t.cap }) ∧
  (∀ (s : State) (c : Fin 4), (s.chop[c].enabled = false ∨ s.chop[c].removed = true ∨ s.chop[c].forced = true) →
      exec (.chopperForceOn c) s = .next s) ∧
  (∀ (s : State) (c : Fin 4), s.chop[c].forced = true → Runs (.chopperForceRelease c) s fun t =>
      t.chop[c] = { s.chop[c] with forced := false, on := decide (0 < s.chop[c].duty) } ∧ t = { s with chop := t.chop }) ∧
  (∀ (s : State) (x : BitVec 4), s.testable x.toNat = true → Runs (.selfTestCommand x) s fun t =>
      t = { s with stest := { s.stest with busy := some x.toNat } }) ∧
  (∀ (s : State) (x : BitVec 4), s.testable x.toNat = false → Runs (.selfTestCommand x) s fun t =>
      t.stest = { s.stest with last := 3 } ∧ Logged s t .ST_REFUSED x.toNat ∧ t = { s with stest := t.stest, recd := t.recd, cap := t.cap }) ∧
  (∀ (s : State) (n : Fin 8), s.stest.busy = some n.1 → Runs (.selfTestDone none) s fun t =>
      t.stest = ⟨none, 1, 0⟩ ∧ t.br[n].passed = true ∧ Logged s t .ST_DONE n ∧
      t = { s with stest := t.stest, br := t.br, recd := t.recd, cap := t.cap }) ∧
  (∀ (s : State) (n : Fin 8) (item : BitVec 16), s.stest.busy = some n.1 → Runs (.selfTestDone (some item)) s fun t =>
      t.stest = ⟨none, 2, item.toNat⟩ ∧ t.br[n].passed = false ∧ Logged s t .ST_FAIL n 0 (bytesLE 2 item.toNat)) ∧
  (∀ (s : State) (c : Fin 4), s.stest.busy = some (8 + c.1) → Runs (.selfTestDone none) s fun t =>
      t.stest = ⟨none, 1, 0⟩ ∧ t.chop[c].stok = true ∧ t.chop[c].fault = false ∧ Logged s t .ST_DONE (8 + c)) ∧
  (∀ (s : State) (c : Fin 4) (item : BitVec 16), s.stest.busy = some (8 + c.1) → Runs (.selfTestDone (some item)) s fun t =>
      t.stest = ⟨none, 2, item.toNat⟩ ∧ t.chop[c].stok = false ∧ Logged s t .ST_FAIL (8 + c) 0 (bytesLE 2 item.toNat) ∧
      t = { s with stest := t.stest, chop := t.chop, recd := t.recd, cap := t.cap }) ∧
  (∀ (s : State) (fail : Option (BitVec 16)), s.stest.busy = none → exec (.selfTestDone fail) s = .next s)

/-- R251, R252, R258 to R262, R264 to R266, R268: Garnet's cycle acts from S9 only, a selected STO is in force at the end of it, and
what its self-diagnosis, its comparisons, its timers, its tension limit and an acknowledgement do. -/
def Obligations.SafetyFunctions : Prop :=
  (∀ (s : State) (g : GarnetIn), (s.garnet.run = false ∨ s.garnet.safe = true) → exec (.garnetCycle g) s = .next s) ∧
  (∀ (s : State) (g : GarnetIn), s.garnet.run = true → s.garnet.safe = false → s.rst.stage ≠ 9 → Runs (.garnetCycle g) s fun t =>
      (∀ i : Fin 24, t.garnet.si[i] = { s.garnet.si[i] with level := g.si.getLsbD i }) ∧
      (∀ m : Fin 4, t.garnet.mo[m].sto = s.garnet.mo[m].sto ∧ t.garnet.mo[m].ss = s.garnet.mo[m].ss) ∧ t.garnet.conn = s.garnet.conn ∧
      t = { s with garnet := t.garnet, recd := t.recd, cap := t.cap }) ∧
  (∀ (s : State) (g : GarnetIn) (m : Fin 4), s.garnet.run = true → s.garnet.safe = false → s.rst.stage = 9 →
      (s.n Fld.SAFETY_MO_STOSEL 0 m = 1 ∨ ∃ k : Fin 12, s.n Fld.SAFETY_MO_STOSEL 0 m = 2 + k.1 ∧ s.garnet.pair[k].demand = true ∧
        g.si.getLsbD (2 * k.1) = false) → Runs (.garnetCycle g) s fun t =>
        t.garnet.mo[m].sto = true ∧ StoHold.sel .sto ∈ t.garnet.mo[m].holds ∧
        (∀ (n : Fin 8) (ns : Nat), t.br[n].mo = m → t.gateLevels n ns = 0) ∧
        (s.garnet.mo[m].sto = false → t.blocked m = true ∧ t.asked m .SF_STO m .pulseBlock)) ∧
  (∀ s : State, s.garnet.safe = false → Runs .garnetSelfFault s fun t =>
      t.garnet.safe = true ∧ t.garnet.run = false ∧ (∀ j : Fin 8, t.garnet.so[j].on = false) ∧
      (∀ m : Fin 4, t.garnet.mo[m].sto = true ∧ t.garnet.mo[m].hold = false ∧ t.garnet.mo[m].brkSet = true ∧
        (s.garnet.mo[m].sto = false → t.garnet.mo[m].cause = 6 ∧ t.blocked m = true)) ∧
      (∀ (n : Fin 8) (ns : Nat), t.gateLevels n ns = 0) ∧ Logged s t .SF_GARNET_FAULT) ∧
  (∀ s : State, s.garnet.safe = true → exec .garnetSelfFault s = .next s) ∧
  (∀ s : State, exec (.garnetSramScrub true) s = exec .garnetSelfFault s ∧
      Runs (.garnetSramScrub true) s (fun t => t.garnet.safe = true ∧ (s.garnet.safe = true → t = s)) ∧
      exec (.garnetSramScrub false) s = .next s) ∧
  (∀ (s : State) (m : Fin 4), (s.garnet.run = false ∨ s.garnet.mo[m].posDisc = true ∨
      s.heldMs s.garnet.mo[m].posSince Fld.SAFETY_MO_POSDISC m = false) → exec (.sfPosDisc m) s = .next s) ∧
  (∀ (s : State) (m : Fin 4), (s.garnet.run = false ∨ s.garnet.mo[m].tensDisc = true ∨
      s.heldMs s.garnet.mo[m].tensSince Fld.SAFETY_MO_POSDISC m = false) → exec (.sfTensDisc m) s = .next s) ∧
  (∀ (s : State) (m : Fin 4), s.garnet.run = true → s.garnet.mo[m].posDisc = false →
      s.heldMs s.garnet.mo[m].posSince Fld.SAFETY_MO_POSDISC m = true → Runs (.sfPosDisc m) s fun t =>
      t.garnet.mo[m].posDisc = true ∧ t.garnet.mo[m].sto = true ∧ StoHold.position ∈ t.garnet.mo[m].holds ∧ Logged s t .SF_POS_DISC m ∧
      (s.garnet.mo[m].sto = false → t.garnet.mo[m].cause = 9 ∧ Logged s t .SF_STO m 9 ∧ t.blocked m = true ∧
        t.asked m .SF_STO m .pulseBlock)) ∧
  (∀ (s : State) (m : Fin 4), s.garnet.run = true → s.garnet.mo[m].tensDisc = false →
      s.heldMs s.garnet.mo[m].tensSince Fld.SAFETY_MO_POSDISC m = true → Runs (.sfTensDisc m) s fun t =>
        t.garnet.mo[m].tensDisc = true ∧ t.garnet.mo[m].sto = true ∧ StoHold.tension ∈ t.garnet.mo[m].holds ∧ Logged s t .SF_TENS_DISC m ∧
        (s.garnet.mo[m].sto = false → t.garnet.mo[m].cause = 9 ∧ t.blocked m = true)) ∧
  (∀ (s : State) (m : Fin 4) (r : SsRun), s.garnet.run = true → s.garnet.mo[m].ss = some r → r.ss2 = false → s.garnet.mo[m].sto = false →
      (r.since : Rat) + s.q Fld.SAFETY_MO_SS1T 0 m * sec ≤ s.up → Runs (.ss1TimeEnd m) s fun t =>
        t.garnet.mo[m].sto = true ∧ t.garnet.mo[m].ss = none ∧ t.blocked m = true ∧ t.asked m .SF_STO m .pulseBlock) ∧
  (∀ (s : State) (m : Fin 4) (r : SsRun), s.garnet.run = true → s.garnet.mo[m].ss = some r → r.ss2 = true → s.garnet.mo[m].sto = false →
      (r.since : Rat) + s.q Fld.SAFETY_MO_SS1T 0 m * sec ≤ s.up →
      (s.n Fld.SAFETY_MO_VIOLREACT 0 m = 0 → Runs (.ss1TimeEnd m) s fun t =>
        Logged s t .SF_VIOLATION m 2 ∧ t.garnet.mo[m].sto = true ∧ t.garnet.mo[m].cause = 2 ∧ t.blocked m = true) ∧
      (s.n Fld.SAFETY_MO_VIOLREACT 0 m ≠ 0 → Runs (.ss1TimeEnd m) s fun t =>
        Logged s t .SF_VIOLATION m 2 ∧ t.garnet.mo[m].sto = false ∧
        ∃ x, t.garnet.mo[m].ss = some x ∧ x.ss2 = false ∧ x.by_ = .viol .ss2 ∧ x.since = s.up ∧ x.ramp = true)) ∧
  (∀ (s : State) (m : Fin 4), (s.garnet.mo[m].ss = none ∨ s.garnet.run = false ∨
      ∃ r, s.garnet.mo[m].ss = some r ∧ (s.up : Rat) < r.since + s.q Fld.SAFETY_MO_SS1T 0 m * sec) → exec (.ss1TimeEnd m) s = .next s) ∧
  (∀ (s : State) (m : Fin 4), (s.garnet.run = false ∨ s.garnet.mo[m].slt1 = true ∨
      s.heldMs s.garnet.mo[m].over1 Fld.SAFETY_MO_SLTDLY m = false) → exec (.sltStage1 m) s = .next s) ∧
  (∀ (s : State) (m : Fin 4), s.garnet.run = true → s.garnet.mo[m].slt1 = false →
      s.heldMs s.garnet.mo[m].over1 Fld.SAFETY_MO_SLTDLY m = true → Runs (.sltStage1 m) s fun t =>
        t.garnet.mo[m] = { s.garnet.mo[m] with slt1 := true } ∧ (∀ j : Fin 4, j ≠ m → t.garnet.mo[j] = s.garnet.mo[j]) ∧
        Logged s t .SF_SLT_LIMIT m ∧ t = { s with garnet := { s.garnet with mo := t.garnet.mo }, recd := t.recd, cap := t.cap }) ∧
  (∀ (s : State) (m : Fin 4), s.garnet.run = true → StoHold.viol .slt ∉ s.garnet.mo[m].holds →
      s.heldMs s.garnet.mo[m].over2 Fld.SAFETY_MO_SLTDLY m = true → Runs (.sltStage2 m) s fun t =>
        Logged s t .SF_VIOLATION m 7 ∧ t.garnet.mo[m].sto = true ∧ StoHold.viol .slt ∈ t.garnet.mo[m].holds ∧
        (s.garnet.mo[m].sto = false → t.garnet.mo[m].cause = 8 ∧ t.blocked m = true) ∧
        (∀ j ∈ s.followers m, t.garnet.mo[j].sto = true ∧ StoHold.viol .slt ∈ t.garnet.mo[j].holds)) ∧
  (∀ (s : State) (m : Fin 4), (s.garnet.run = false ∨ StoHold.viol .slt ∈ s.garnet.mo[m].holds ∨
      s.heldMs s.garnet.mo[m].over2 Fld.SAFETY_MO_SLTDLY m = false) → exec (.sltStage2 m) s = .next s) ∧
  (∀ (s : State) (m : Fin 4), heldFor s.garnet.mo[m].low1 s.up (500 * ms) = false → exec (.sltStage1Exit m) s = .next s) ∧
  (∀ (s : State) (m : Fin 4), heldFor s.garnet.mo[m].low1 s.up (500 * ms) = true → Runs (.sltStage1Exit m) s fun t =>
      t.garnet.mo[m] = { s.garnet.mo[m] with slt1 := false, low1 := none } ∧ (∀ j : Fin 4, j ≠ m → t.garnet.mo[j] = s.garnet.mo[j]) ∧
      t = { s with garnet := { s.garnet with mo := t.garnet.mo } }) ∧
  (∀ (s : State) (m : Fin 4), s.garnet.mo[m].hold = true →
      s.q Fld.SAFETY_MO_EQRTMAX 0 m * sec ≤ (s.up : Rat) - s.garnet.mo[m].holdAt → Runs (.eqrHoldTimeout m) s fun t =>
      t.garnet.mo[m].hold = false ∧ t.garnet.mo[m].holdOver = true ∧ t.garnet.mo[m].brkSet = true ∧ Logged s t .SF_EQR_HOLD_END m 3 ∧
      t = { s with garnet := t.garnet, recd := t.recd, cap := t.cap }) ∧
  (∀ (s : State) (m : Fin 4), (s.garnet.mo[m].hold = false ∨
      (s.up : Rat) - s.garnet.mo[m].holdAt < s.q Fld.SAFETY_MO_EQRTMAX 0 m * sec) → exec (.eqrHoldTimeout m) s = .next s) ∧
  (∀ (s : State) (m : Fin 4), s.garnet.mo[m].brkSet = true → s.garnet.mo[m].fbDue = true → Runs (.brakeFbCheck m) s fun t =>
      t.garnet.mo[m] = { s.garnet.mo[m] with fbDue := false } ∧ (∀ j : Fin 4, j ≠ m → t.garnet.mo[j] = s.garnet.mo[j]) ∧
      (s.pairReads (s.n Fld.MOTOR_BRKFB m) = true → Logged s t .SF_BRAKE_FB m) ∧
      (s.pairReads (s.n Fld.MOTOR_BRKFB m) = false → t.recd = s.recd) ∧
      t = { s with garnet := { s.garnet with mo := t.garnet.mo }, recd := t.recd, cap := t.cap }) ∧
  (∀ (s : State) (m : Fin 4), s.garnet.run = true → s.rst.stage = 9 → s.garnet.mo[m].ss = none → s.stoFree m = true →
      Runs (.safetyAck m) s fun t =>
        t.garnet.mo[m].sto = false ∧ t.garnet.mo[m].holds = [] ∧ ∀ r ∈ t.reacts[m], ¬(r.cause = some .SF_STO ∧ r.unit = m)) ∧
  (∀ (s : State) (m : Fin 4), (s.garnet.run = false ∨ s.rst.stage ≠ 9 ∨ (s.garnet.mo[m].ss = none ∧ s.stoFree m = false)) →
      exec (.safetyAck m) s = .next s) ∧
  (∀ (s : State) (m : Fin 4), s.garnet.run = true → s.n Fld.SAFETY_MO_STOSEL 0 m ≠ 0 → s.stoOverdue m = true →
      Runs (.sfTestDue m) s fun t => t.garnet.mo[m] = { s.garnet.mo[m] with dueAt := some s.up } ∧ Logged s t .SF_TEST_DUE m ∧
        (∀ j : Fin 4, j ≠ m → t.garnet.mo[j] = s.garnet.mo[j]) ∧
        t = { s with garnet := { s.garnet with mo := t.garnet.mo }, recd := t.recd, cap := t.cap }) ∧
  (∀ (s : State) (m : Fin 4), (s.garnet.run = false ∨ s.n Fld.SAFETY_MO_STOSEL 0 m = 0 ∨ s.stoOverdue m = false) →
      exec (.sfTestDue m) s = .next s)

/-- R253 to R256, R272: what test pulses, off-pulses, demands and discrepancies do to inputs and outputs, the clears, and the password.
-/
def Obligations.SafetyInputsAndOutputs : Prop :=
  (∀ (s : State) (tpBad : BitVec 8) (own : Vector Bool 24) (foreign : Vector (Option (Fin 8)) 24), s.garnet.run = true →
      Runs (.testPulseFrame tpBad own foreign) s fun t =>
        (∀ x : Fin 8, tpBad.getLsbD x = true → t.garnet.tp[x].badN = s.garnet.tp[x].badN + 1 ∧ t.garnet.tp[x].goodN = 0 ∧
          (1 ≤ s.garnet.tp[x].badN → t.garnet.tp[x].fault = true ∧ (s.garnet.tp[x].fault = false → Logged s t .TP_FAULT x))) ∧
        (∀ x : Fin 8, tpBad.getLsbD x = false → t.garnet.tp[x].badN = 0 ∧ t.garnet.tp[x].goodN = s.garnet.tp[x].goodN + 1 ∧
          (s.garnet.tp[x].fault = false → t.garnet.tp[x].fault = false)) ∧
        (∀ i : Fin 24, s.tpOf i = 0 → t.garnet.si[i] = s.garnet.si[i]) ∧
        (∀ i : Fin 24, s.tpOf i ≠ 0 → own[i] = true → foreign[i] = none →
          t.garnet.si[i] = { s.garnet.si[i] with missN := 0, crossN := 0, goodN := s.garnet.si[i].goodN + 1 }) ∧
        (∀ i : Fin 24, s.tpOf i ≠ 0 → own[i] = false → t.garnet.si[i].missN = s.garnet.si[i].missN + 1 ∧ t.garnet.si[i].goodN = 0 ∧
          (1 ≤ s.garnet.si[i].missN → t.garnet.si[i].miss = true ∧ (s.garnet.si[i].miss = false → Logged s t .SI_TPMISS i))) ∧
        (∀ (i : Fin 24) (x : Fin 8), s.tpOf i ≠ 0 → foreign[i] = some x → t.garnet.si[i].crossN = s.garnet.si[i].crossN + 1 ∧
          t.garnet.si[i].goodN = 0 ∧ (1 ≤ s.garnet.si[i].crossN → t.garnet.si[i].cross = true ∧
            (s.garnet.si[i].cross = false → Logged s t .SI_CROSS i 0 (bytesLE 1 (s.tpOf i - 1) ++ bytesLE 1 x)))) ∧
        t = { s with garnet := { s.garnet with tp := t.garnet.tp, si := t.garnet.si }, recd := t.recd, cap := t.cap }) ∧
  (∀ (s : State) (tpBad : BitVec 8) (own : Vector Bool 24) (foreign : Vector (Option (Fin 8)) 24), s.garnet.run = false →
      exec (.testPulseFrame tpBad own foreign) s = .next s) ∧
  (∀ (s : State) (k : Fin 12), s.garnet.run = true → Runs (.inputPairDemand k) s fun t =>
      t.garnet.pair[k] = { s.garnet.pair[k] with demand := true } ∧ t.pairDemands k = true ∧
      (∀ j : Fin 12, j ≠ k → t.garnet.pair[j] = s.garnet.pair[j]) ∧ t = { s with garnet := { s.garnet with pair := t.garnet.pair } }) ∧
  (∀ (s : State) (k : Fin 12), s.garnet.run = true → s.garnet.pair[k].disc = false → s.chanShows k false ≠ s.chanShows k true →
      Runs (.inputPairDiscrepancy k) s fun t =>
      t.garnet.pair[k] = ⟨true, false, true⟩ ∧ Logged s t .SI_DISC k ∧ (∀ j : Fin 12, j ≠ k → t.garnet.pair[j] = s.garnet.pair[j]) ∧
      t = { s with garnet := { s.garnet with pair := t.garnet.pair }, recd := t.recd, cap := t.cap }) ∧
  (∀ (s : State) (k : Fin 12), s.garnet.run = false → exec (.inputPairDemand k) s = .next s ∧ exec (.inputPairDiscrepancy k) s = .next s) ∧
  (∀ (s : State) (k : Fin 12), (s.garnet.pair[k].disc = true ∨ s.chanShows k false = s.chanShows k true) →
      exec (.inputPairDiscrepancy k) s = .next s) ∧
  (∀ (s : State) (j : Fin 8), Runs (.soOffPulse j true) s fun t =>
      t.garnet.so[j] = { s.garnet.so[j] with evenN := !s.garnet.so[j].evenN } ∧
      (∀ k : Fin 8, k ≠ j → t.garnet.so[k] = s.garnet.so[k]) ∧ t = { s with garnet := { s.garnet with so := t.garnet.so } }) ∧
  (∀ (s : State) (j : Fin 8), s.garnet.run = true → s.yes Fld.SAFETY_SO_PULSE 0 j = true → s.garnet.so[j].on = true →
      Runs (.soOffPulse j false) s fun t =>
        t.garnet.so[j].on = false ∧ t.garnet.so[j].hsFlt = (s.garnet.so[j].hsFlt || s.garnet.so[j].evenN) ∧
        t.garnet.so[j].lsFlt = (s.garnet.so[j].lsFlt || !s.garnet.so[j].evenN) ∧ t.garnet.so[j].evenN = !s.garnet.so[j].evenN ∧
        Logged s t .SO_FAULT j ∧ t = { s with garnet := t.garnet, recd := t.recd, cap := t.cap }) ∧
  (∀ s : State, Runs .safetyInputClear s fun t =>
      (∀ i : Fin 24, t.garnet.si[i] = if 2 ≤ s.garnet.si[i].goodN then { s.garnet.si[i] with miss := false, cross := false }
        else s.garnet.si[i]) ∧ t = { s with garnet := { s.garnet with si := t.garnet.si } }) ∧
  (∀ s : State, Runs .safetyOutputClear s fun t =>
      (∀ j : Fin 8, (∃ a, s.garnet.so[j].okAt = some a ∧ a + sec ≤ s.up) →
        t.garnet.so[j] = { s.garnet.so[j] with hsFlt := false, lsFlt := false }) ∧
      (∀ j : Fin 8, (∀ a, s.garnet.so[j].okAt = some a → s.up < a + sec) → t.garnet.so[j] = s.garnet.so[j]) ∧
      t = { s with garnet := { s.garnet with so := t.garnet.so } }) ∧
  (∀ s : State, Runs .safetyCountersClear s fun t =>
      (∀ c : Fin 4, t.garnet.conn[c] = { s.garnet.conn[c] with miss := .zero, mismCnt := .zero }) ∧
      t = { s with garnet := { s.garnet with conn := t.garnet.conn } }) ∧
  (∀ (s : State) (sess : Nat) (pw : List Byte), s.session sess = true → s.garnet.pwLock = false → s.pwOk pw = true →
      Runs (.safetyPassword sess pw) s fun t => t = { s with garnet := { s.garnet with unlocked := some sess } }) ∧
  (∀ (s : State) (sess : Nat) (pw : List Byte), s.session sess = true → s.garnet.pwLock = false → s.pwOk pw = false →
      (s.garnet.wrong.filter fun a => decide (s.up < a + 600 * sec)).length < 4 → Runs (.safetyPassword sess pw) s fun t =>
        t = { s with garnet := { s.garnet with
          wrong := s.up :: s.garnet.wrong.filter fun a => decide (s.up < a + 600 * sec) } }) ∧
  (∀ (s : State) (sess : Nat) (pw : List Byte), s.session sess = true → s.garnet.pwLock = false → s.pwOk pw = false →
      4 ≤ (s.garnet.wrong.filter fun a => decide (s.up < a + 600 * sec)).length → Runs (.safetyPassword sess pw) s fun t =>
        t.garnet = { s.garnet with wrong := [], pwLock := true } ∧ Logged s t .SAFE_PWD_FAIL ∧
        t = { s with garnet := t.garnet, recd := t.recd, cap := t.cap }) ∧
  (∀ (s : State) (sess : Nat) (pw : List Byte), (s.session sess = false ∨ s.garnet.pwLock = true) →
      exec (.safetyPassword sess pw) s = .next s) ∧
  (∀ s : State, Runs .safetyUnlockExpiry s fun t => t = { s with garnet := { s.garnet with unlocked := none } }) ∧
  (∀ s : State, Runs .passwordLockoutEnd s fun t => t = { s with garnet := { s.garnet with pwLock := false } })

/-- R269, R270: the copies of a safe frame, their comparison, the window, the watchdog, and the PDU that Garnet sends. -/
def Obligations.SafeFrames : Prop :=
  (∀ (s : State) (c : Fin 4) (portB : Bool) (b : List Byte), s.garnet.run = true → s.n Fld.SAFETY_CONN_NET 0 c ≠ 0 →
      (s.pduOk c b = false ∨ (s.garnet.conn[c].everAcc = true ∧
        ((pdu16 b 2 - s.garnet.conn[c].lastSeq).toNat < 1 ∨ 8 < (pdu16 b 2 - s.garnet.conn[c].lastSeq).toNat))) →
      Runs (.safeFrameCopy c portB b) s fun t =>
        t.garnet.conn[c] = { s.garnet.conn[c] with miss := bump s.garnet.conn[c].miss } ∧
        (∀ d : Fin 4, d ≠ c → t.garnet.conn[d] = s.garnet.conn[d]) ∧ t = { s with garnet := { s.garnet with conn := t.garnet.conn } }) ∧
  (∀ (s : State) (c : Fin 4) (portB : Bool) (b : List Byte), s.garnet.run = true → s.n Fld.SAFETY_CONN_NET 0 c ≠ 0 → s.pduOk c b = true →
      (s.garnet.conn[c].everAcc = true → 1 ≤ (pdu16 b 2 - s.garnet.conn[c].lastSeq).toNat ∧
        (pdu16 b 2 - s.garnet.conn[c].lastSeq).toNat ≤ 8) →
      (∀ w ∈ s.garnet.conn[c].waiting, w.seq ≠ pdu16 b 2) → Runs (.safeFrameCopy c portB b) s fun t =>
        t.garnet.conn[c] = { s.garnet.conn[c] with waiting := s.garnet.conn[c].waiting ++ [⟨pdu16 b 2, b, portB⟩] } ∧
        (∀ d : Fin 4, d ≠ c → t.garnet.conn[d] = s.garnet.conn[d]) ∧ t = { s with garnet := { s.garnet with conn := t.garnet.conn } }) ∧
  (∀ (s : State) (c : Fin 4) (portB : Bool) (b : List Byte) (w : WaitCopy), s.garnet.run = true → s.n Fld.SAFETY_CONN_NET 0 c ≠ 0 →
      s.pduOk c b = true → (s.garnet.conn[c].everAcc = true → 1 ≤ (pdu16 b 2 - s.garnet.conn[c].lastSeq).toNat ∧
        (pdu16 b 2 - s.garnet.conn[c].lastSeq).toNat ≤ 8) → s.garnet.conn[c].waiting = [w] → w.seq = pdu16 b 2 → w.portB = (!portB) →
      (w.bytes = b → Runs (.safeFrameCopy c portB b) s fun t =>
        t.garnet.conn[c].lastSeq = pdu16 b 2 ∧ t.garnet.conn[c].cmd = pdu16 b 4 ∧ t.garnet.conn[c].watch = true ∧
        t.garnet.conn[c].waiting = [] ∧ t.garnet.conn[c].accN = s.garnet.conn[c].accN + 1 ∧
        t.garnet.conn[c].ok = (s.garnet.conn[c].ok || decide (1 ≤ s.garnet.conn[c].accN)) ∧
        (s.garnet.conn[c].ok = false → s.garnet.conn[c].fault = true → 1 ≤ s.garnet.conn[c].accN → Logged s t .SC_RESTORED c) ∧
        (∀ d : Fin 4, d ≠ c → t.garnet.conn[d] = s.garnet.conn[d]) ∧
        ((b.getD 6 0).getLsbD 0 = false →
          t = { s with garnet := { s.garnet with conn := t.garnet.conn }, recd := t.recd, cap := t.cap }) ∧
        ((b.getD 6 0).getLsbD 0 = true → ∀ m : Fin 4, s.connOf m c = true → s.rst.stage = 9 → s.garnet.safe = false →
          s.garnet.mo[m].sto = true → (∀ h ∈ s.garnet.mo[m].holds, h = .conn c) → t.garnet.conn[c].ok = true →
          t.garnet.mo[m].sto = false)) ∧
      (w.bytes ≠ b → Runs (.safeFrameCopy c portB b) s fun t =>
        t.garnet.conn[c].ok = false ∧ t.garnet.conn[c].due = true ∧ t.garnet.conn[c].mism = true ∧ t.garnet.conn[c].accN = 0 ∧
        t.garnet.conn[c].mismCnt = bump s.garnet.conn[c].mismCnt ∧ t.garnet.conn[c].lastSeq = s.garnet.conn[c].lastSeq ∧
        t.garnet.conn[c].cmd = s.garnet.conn[c].cmd ∧ Logged s t .SC_MISMATCH c ∧
        (∀ d : Fin 4, d ≠ c → t.garnet.conn[d] = s.garnet.conn[d]) ∧
        t = { s with garnet := { s.garnet with conn := t.garnet.conn }, recd := t.recd, cap := t.cap })) ∧
  (∀ (s : State) (c : Fin 4) (portB : Bool) (b : List Byte), (s.garnet.run = false ∨ s.n Fld.SAFETY_CONN_NET 0 c = 0) →
      exec (.safeFrameCopy c portB b) s = .next s) ∧
  (∀ (s : State) (c : Fin 4) (q : BitVec 16), (∃ w ∈ s.garnet.conn[c].waiting, w.seq = q) → Runs (.safeFrameWindowClose c q) s fun t =>
      t.garnet.conn[c] = { s.garnet.conn[c] with
        waiting := s.garnet.conn[c].waiting.filter (fun w => w.seq != q), miss := bump s.garnet.conn[c].miss } ∧
      (∀ d : Fin 4, d ≠ c → t.garnet.conn[d] = s.garnet.conn[d]) ∧ t = { s with garnet := { s.garnet with conn := t.garnet.conn } }) ∧
  (∀ (s : State) (c : Fin 4) (q : BitVec 16), (∀ w ∈ s.garnet.conn[c].waiting, w.seq ≠ q) → exec (.safeFrameWindowClose c q) s = .next s) ∧
  (∀ (s : State) (c : Fin 4), s.garnet.run = true → s.garnet.conn[c].watch = true → Runs (.scTimeout c) s fun t =>
      t.garnet.conn[c] = { s.garnet.conn[c] with ok := false, fault := true, due := true, accN := 0, timeout := true, watch := false } ∧
      Logged s t .SC_TIMEOUT c ∧ (∀ d : Fin 4, d ≠ c → t.garnet.conn[d] = s.garnet.conn[d]) ∧
      t = { s with garnet := { s.garnet with conn := t.garnet.conn }, recd := t.recd, cap := t.cap }) ∧
  (∀ (s : State) (c : Fin 4), (s.garnet.run = false ∨ s.garnet.conn[c].watch = false) → exec (.scTimeout c) s = .next s)

/-! ## Networks -/

/-- R369, R370, R372 to R374, R376 to R382: what a received frame does, a link, a LAN, the frames that the switch sends itself, and
device time. -/
def Obligations.EthernetAndTime : Prop :=
  (∀ (s : State) (p : Fin 8) (f : EthFrame) (full : BitVec 9),
      (s.eth.port[p.castSucc].en = false ∨ s.eth.port[p.castSucc].link = false ∨ f.fcsOk = false ∨ (f.vid = 0 ∧ 1518 < f.len) ∨ 1522 < f.len) →
        exec (.ethFrameReceived p f full) s = .next s) ∧
  (∀ (s : State) (p : Fin 8) (f : EthFrame) (full : BitVec 9), s.portLive p.castSucc = true → f.fcsOk = true → f.len ≤ 1518 →
      s.lanOf p.castSucc = none → s.safeConnOf p f = none → f.asMsg = none → (∀ j : Fin 32, s.netMatches p f j = false) →
      Runs (.ethFrameReceived p f full) s fun t =>
        t.eth.port[p.castSucc].rx = bump s.eth.port[p.castSucc].rx ∧ t.eth.port[p.castSucc].tx = s.eth.port[p.castSucc].tx ∧
        t.spc = s.spc ∧ (s.membersOf (s.vlanOf p f) = none → t.eth.mac = s.eth.mac ∧ t.recd = s.recd ∧
          ∀ q : Fin 9, q ≠ p.castSucc → t.eth.port[q] = s.eth.port[q]) ∧
        (∀ (mem : BitVec 9) (q : Fin 9), s.membersOf (s.vlanOf p f) = some mem → mem.getLsbD p = true → linkLocal f.dst = false →
          groupAddr f.dst = true → groupAddr f.src = true → q ≠ p.castSucc → mem.getLsbD q = true →
          s.portLive q = true →
            (full.getLsbD q = false → t.eth.port[q] = { s.eth.port[q] with tx := bump s.eth.port[q].tx }) ∧
            (full.getLsbD q = true → t.eth.port[q] = { s.eth.port[q] with drop := bump s.eth.port[q].drop } ∧
              t.eth.dropEv = true)) ∧
        (∀ mem : BitVec 9, s.membersOf (s.vlanOf p f) = some mem → mem.getLsbD p = true → linkLocal f.dst = false →
          groupAddr f.src = false → s.eth.mac.length < 4096 → (⟨f.src, s.vlanOf p f, p, s.up⟩ : MacEntry) ∈ t.eth.mac)) ∧
  (∀ (s : State) (p : Fin 8) (f : EthFrame) (full : BitVec 9) (j : Fin 32) (raw : Nat), s.portLive p.castSucc = true → f.fcsOk = true →
      f.len ≤ 1518 → s.lanOf p.castSucc = none → s.safeConnOf p f = none → f.asMsg = none →
      (∀ i : Fin 32, s.netMatches p f i = true ↔ i = j) → s.n Fld.NET_SPC_FMT 0 j = 0 → s.n Fld.NET_SPC_SEQOFS 0 j = 0xFF →
      numAt f.payload (s.n Fld.NET_SPC_OFS 0 j) 2 false = some raw → Runs (.ethFrameReceived p f full) s fun t =>
        t.spc[j].value = clampQ (-1) 1 ((signed 16 raw : Rat) / s.q Fld.NET_SPC_FS 0 j) ∧
        t.spc[j].at_ = some (s.up - f.dur - s.n Fld.NET_PORT_RXLAT 0 p) ∧ (∀ i : Fin 32, i ≠ j → t.spc[i] = s.spc[i]) ∧
        t.eth.port[p.castSucc].rx = bump s.eth.port[p.castSucc].rx) ∧
  (∀ (s : State) (p : Fin 8) (f : EthFrame) (full : BitVec 9) (k : Fin 4) (b : Bool) (seq : BitVec 16), s.portLive p.castSucc = true →
      f.fcsOk = true → f.len ≤ 1518 → s.lanOf p.castSucc = some (k, b) → s.safeConnOf p f = none → f.prp = some (seq, b) →
      (∃ x ∈ s.eth.prp[k].seen, x.mac = f.src ∧ x.seq = seq ∧ s.up < x.at_ + 400 * ms) → Runs (.ethFrameReceived p f full) s fun t =>
        t.eth.prp[k].dup = bump s.eth.prp[k].dup ∧ (if b then t.eth.prp[k].bLast else t.eth.prp[k].aLast) = s.up ∧
        (if b then t.eth.prp[k].bUp else t.eth.prp[k].aUp) = true ∧
        (∀ q : Fin 9, q ≠ p.castSucc → t.eth.port[q] = s.eth.port[q]) ∧ t.eth.mac = s.eth.mac ∧ t.spc = s.spc ∧
        t = { s with eth := t.eth, recd := t.recd, cap := t.cap }) ∧
  (∀ (s : State) (p : Fin 8) (f : EthFrame) (full : BitVec 9) (d : Nat), s.portLive p.castSucc = true → f.fcsOk = true → f.len ≤ 1518 →
      s.lanOf p.castSucc = none → s.safeConnOf p f = none → f.asMsg = some (.pdelay d) → Runs (.ethFrameReceived p f full) s fun t =>
        t.eth.port[p.castSucc].asCap = decide (d ≤ 800) ∧ t = { s with eth := { s.eth with port := t.eth.port } }) ∧
  (∀ (s : State) (p : Fin 8) (f : EthFrame) (full : BitVec 9) (a : BitVec 112), s.portLive p.castSucc = true → f.fcsOk = true →
      f.len ≤ 1518 → s.lanOf p.castSucc = none → s.safeConnOf p f = none → f.asMsg = some (.announce a) → s.time.gmPort ≠ p →
      betterThan a s.ownIdent = true → betterThan a s.time.gm = true → s.time.gm ≠ some a → Runs (.ethFrameReceived p f full) s fun t =>
        t.time.gm = some a ∧ t.time.gmPort = p ∧ t.time.hold = false ∧ Logged s t .AS_GM_CHANGE ∧ t.dev = s.dev) ∧
  (∀ (s : State) (p : Fin 8) (f : EthFrame) (full : BitVec 9) (ofs : Rat), s.portLive p.castSucc = true → f.fcsOk = true →
      f.len ≤ 1518 → s.lanOf p.castSucc = none → s.safeConnOf p f = none → f.asMsg = some (.sync ofs) → s.timeSource = .as_ →
      s.time.gmPort = p → Runs (.ethFrameReceived p f full) s fun t =>
        t.time.ofs = ofs ∧ t.time.syncAt = s.up ∧ t.time.okN = (if absQ ofs ≤ 50 then min 16 (s.time.okN + 1) else 0) ∧
        (absQ ofs ≤ 50 → 15 ≤ s.time.okN → t.time.asLock = true) ∧
        (s.time.asLock = true → 200 < absQ ofs → t.time.asLock = false ∧ t.keeps ⟨Ev.ASLOCK_LOST.code, 0xFF, 0, t.stamp, []⟩) ∧
        (absQ ofs ≤ 1000 ∨ s.atRest = false → t.dev = s.dev ∧ -100 ≤ t.time.rate ∧ t.time.rate ≤ 100) ∧
        (1000 < absQ ofs → s.atRest = true → t.dev = BitVec.ofInt 64 (s.dev.toNat + roundQ ofs) ∧ t.time.rate = s.time.rate ∧
          ∀ q : Fin 9, t.eth.port[q].gclAt = gclIdle)) ∧
  (∀ (s : State) (p : Fin 8) (speed : BitVec 2), s.eth.port[p.castSucc].en = true → s.eth.port[p.castSucc].link = false →
      s.n Fld.NET_PORT_SPEED 0 p = 0 → Runs (.ethLinkChange p true false speed) s fun t =>
        t.eth.port[p.castSucc] = { s.eth.port[p.castSucc] with link := true, speed := min 2 speed.toNat } ∧ Logged s t .ETH_LINK_UP p ∧
        (∀ q : Fin 9, q ≠ p.castSucc → t.eth.port[q] = s.eth.port[q])) ∧
  (∀ (s : State) (p : Fin 8) (up half : Bool) (speed : BitVec 2), s.eth.port[p.castSucc].en = true → s.eth.port[p.castSucc].link = true →
      (up = false ∨ half = true) → Runs (.ethLinkChange p up half speed) s fun t =>
        t.eth.port[p.castSucc] = { s.eth.port[p.castSucc] with link := false, asCap := false } ∧
        Logged s t .ETH_LINK_DOWN p (if up then 2 else 0) ∧
        (∀ q : Fin 9, q ≠ p.castSucc → t.eth.port[q] = s.eth.port[q]) ∧
        (∀ (k : Fin 4) (b : Bool), s.lanOf p.castSucc = some (k, b) → (if b then t.eth.prp[k].bUp else t.eth.prp[k].aUp) = false)) ∧
  (∀ (s : State) (p : Fin 8) (up half : Bool) (speed : BitVec 2), s.eth.port[p.castSucc].en = false →
      exec (.ethLinkChange p up half speed) s = .next s) ∧
  (∀ (s : State) (p : Fin 8), s.eth.port[p.castSucc].gclOn = true → Runs (.gclEntryEnd p) s fun t =>
      t.eth.port[p.castSucc] = { s.eth.port[p.castSucc] with
        gclAt := if s.eth.port[p.castSucc].gclAt + 1 < (s.gclOf p).length then s.eth.port[p.castSucc].gclAt + 1 else 0 } ∧
      (∀ q : Fin 9, q ≠ p.castSucc → t.eth.port[q] = s.eth.port[q]) ∧ t = { s with eth := { s.eth with port := t.eth.port } }) ∧
  (∀ s : State, Runs .prpSupervisionSend s fun t =>
      (∀ (k : Fin 4) (a b : Fin 9), s.lanPort k false = some a → s.lanPort k true = some b →
        t.eth.prp[k].seq = if s.portLive a ∨ s.portLive b then s.eth.prp[k].seq + 1 else s.eth.prp[k].seq) ∧
      (∀ k : Fin 4, (s.lanPort k false = none ∨ s.lanPort k true = none) → t.eth.prp[k] = s.eth.prp[k]) ∧
      t = { s with eth := t.eth, recd := t.recd, cap := t.cap }) ∧
  (∀ (s : State) (k : Fin 4) (b : Bool), s.lanPort k b ≠ none → (if b then s.eth.prp[k].bUp else s.eth.prp[k].aUp) = true →
      s.lanSilent k b = true → Runs (.prpLanTimeout k b) s fun t =>
        t.eth.prp[k] = (if b then { s.eth.prp[k] with bUp := false } else { s.eth.prp[k] with aUp := false }) ∧
        Logged s t .PRP_LAN_DOWN k (bit 0 b) ∧ t = { s with eth := { s.eth with prp := t.eth.prp }, recd := t.recd, cap := t.cap }) ∧
  (∀ (s : State) (k : Fin 4) (b : Bool), (s.lanPort k b = none ∨ (if b then s.eth.prp[k].bUp else s.eth.prp[k].aUp) = false ∨
      s.lanSilent k b = false) → exec (.prpLanTimeout k b) s = .next s) ∧
  (∀ s : State, (s.time.gm.isSome = true ∨ s.ownIdent.isSome = true) → Runs .asSyncSend s fun t =>
      (∀ p : Fin 8, s.portLive p.castSucc = true → s.eth.port[p.castSucc].asCap = true → s.time.gmPort ≠ p →
        t.eth.port[p.castSucc] = { s.eth.port[p.castSucc] with tx := bump (bump s.eth.port[p.castSucc].tx) }) ∧
      (∀ p : Fin 8, (s.portLive p.castSucc = false ∨ s.eth.port[p.castSucc].asCap = false ∨ s.time.gmPort = p) →
        t.eth.port[p.castSucc] = s.eth.port[p.castSucc]) ∧ t.eth.mac = s.eth.mac ∧ t.eth.prp = s.eth.prp ∧
      t = { s with eth := t.eth }) ∧
  (∀ s : State, s.time.gm = none → s.ownIdent = none → exec .asSyncSend s = .next s) ∧
  (∀ s : State, Runs .asPdelaySend s fun t =>
      (∀ p : Fin 8, t.eth.port[p.castSucc] = if s.portLive p.castSucc then
        { s.eth.port[p.castSucc] with tx := bump s.eth.port[p.castSucc].tx } else s.eth.port[p.castSucc]) ∧
      t.eth.mac = s.eth.mac ∧ t.eth.prp = s.eth.prp ∧ t = { s with eth := t.eth }) ∧
  (∀ s : State, s.time.gm.isSome = true → s.time.syncAt + 3 * s.syncEvery ≤ s.up → Runs .asSyncTimeout s fun t =>
      t.time = { s.time with gm := none, gmPort := 15, asLock := false, hold := true, okN := 0, syncAt := s.up } ∧ Logged s t .AS_GM_CHANGE ∧
      (s.time.asLock = true → Logged s t .ASLOCK_LOST) ∧ t = { s with time := t.time, recd := t.recd, cap := t.cap }) ∧
  (∀ s : State, (s.time.gm = none ∨ s.up < s.time.syncAt + 3 * s.syncEvery) → exec .asSyncTimeout s = .next s) ∧
  (∀ s : State, (∀ x ∈ s.eth.mac, s.up < x.seen + s.n Fld.NET_AGE 0 * sec) → exec .macEntryAging s = .next s) ∧
  (∀ s : State, (∃ x ∈ s.eth.mac, x.seen + s.n Fld.NET_AGE 0 * sec ≤ s.up) → Runs .macEntryAging s fun t =>
      ∃ z ∈ s.eth.mac, (∀ x ∈ s.eth.mac, z.seen ≤ x.seen) ∧
        t = { s with eth := { s.eth with mac := s.eth.mac.filter fun x => x != z } }) ∧
  (∀ s : State, Runs .ethCountersClear s fun t =>
      (∀ q : Fin 9, t.eth.port[q] = { s.eth.port[q] with rx := .zero, tx := .zero, drop := .zero }) ∧
      (∀ k : Fin 4, t.eth.prp[k] = { s.eth.prp[k] with dup := .zero, wrong := .zero }) ∧ t.eth.dropEv = false ∧
      (∀ j : Fin 32, t.spc[j] = { s.spc[j] with disc := .zero }) ∧ t.eth.mac = s.eth.mac ∧ t = { s with eth := t.eth, spc := t.spc }) ∧
  (∀ s : State, Runs .deviceTimeWrap s fun t =>
      t.dev = 0 ∧ t.keeps ⟨Ev.TIME_WRAP.code, 0xFF, 0, 0, bytesLE 4 0x000A0008⟩ ∧ t = { s with dev := 0, recd := t.recd, cap := t.cap })

/-- R269, R384, R388 to R399: reception into the queues, the error states, the transmit queue and its completions, cancels, and the
safety buffer. -/
def Obligations.CanControllers : Prop :=
  (∀ (s : State) (c : Fin 4) (f : CanFrame) (sofAgo endAgo : Nat), (s.can[c].on = false ∨ s.can[c].busOff = true ∨
      (f.fdf = true ∧ s.yes Fld.CAN_FDEN c = false)) → exec (.canFrameReceived c f sofAgo endAgo) s = .next s) ∧
  (∀ (s : State) (c : Fin 4) (f : CanFrame) (sofAgo endAgo : Nat), s.can[c].live = true →
      (f.fdf = true → s.yes Fld.CAN_FDEN c = true) → s.canSafe c f = none → (∀ i < 64, s.filterHit c f i = false) → Runs (.canFrameReceived c f sofAgo endAgo) s fun t =>
        t.can[c].noMatch = bump s.can[c].noMatch ∧ t.can[c].rx0 = s.can[c].rx0 ∧ t.can[c].rx1 = s.can[c].rx1 ∧ t.spc = s.spc ∧
        (∀ d : Fin 4, d ≠ c → t.can[d] = s.can[d])) ∧
  (∀ (s : State) (c : Fin 4) (f : CanFrame) (sofAgo endAgo i : Nat), s.can[c].live = true →
      (f.fdf = true → s.yes Fld.CAN_FDEN c = true) → s.canSafe c f = none → i < 64 → s.filterHit c f i = true → (∀ j < i, s.filterHit c f j = false) → s.n Fld.CAN_FLT_Q c i = 0 → s.n Fld.CAN_RXQ_CONS c 0 ≠ 0 →
      Runs (.canFrameReceived c f sofAgo endAgo) s fun t =>
        (s.can[c].rx0.length < 64 →
          t.can[c].rx0 = s.can[c].rx0 ++ [⟨f, i, s.canStamp (sofAgo + s.n Fld.CAN_RXLAT c)⟩]) ∧
        (64 ≤ s.can[c].rx0.length → t.can[c].rx0 = s.can[c].rx0 ∧ t.can[c].rxOvr0 = bump s.can[c].rxOvr0 ∧
          (s.can[c].ovrEv = false → Logged s t .CAN_RX_OVERRUN c)) ∧
        t.can[c].rx1 = s.can[c].rx1 ∧ t.spc = s.spc ∧ t.can[c].tec = s.can[c].tec ∧
        (s.can[c].mon = false → s.can[c].rec_ ≤ 127 → t.can[c].rec_ = s.can[c].rec_ - 1)) ∧
  (∀ (s : State) (c : Fin 4) (f : CanFrame) (sofAgo endAgo i raw : Nat) (j : Fin 32), s.can[c].live = true →
      (f.fdf = true → s.yes Fld.CAN_FDEN c = true) → s.canSafe c f = none → i < 64 → s.filterHit c f i = true →
      (∀ k < i, s.filterHit c f k = false) → s.n Fld.CAN_FLT_Q c i = 0 → s.n Fld.CAN_RXQ_CONS c 0 = 0 → s.canBinds c j = true →
      s.n Fld.CAN_SPC_ID c j = f.id.toNat → (s.n Fld.CAN_SPC_IDE c j == 1) = f.ide → f.rtr = false → s.n Fld.CAN_SPC_FMT c j = 1 →
      s.n Fld.CAN_SPC_SEQOFS c j = 0xFF → numAt f.data (s.n Fld.CAN_SPC_OFS c j) 2 (s.n Fld.CAN_SPC_ORDER c j == 0) = some raw →
      Runs (.canFrameReceived c f sofAgo endAgo) s fun t =>
        t.spc[j].value = clampQ (-1) 1 ((signed 16 raw : Rat) / s.q Fld.CAN_SPC_FS c j) ∧
        t.spc[j].at_ = some (s.up - sofAgo - s.n Fld.CAN_RXLAT c) ∧ t.can[c].rx0 = s.can[c].rx0 ∧ t.can[c].rx1 = s.can[c].rx1) ∧
  (∀ (s : State) (c x : Fin 4) (b : Bool) (f : CanFrame) (sofAgo endAgo : Nat), s.can[c].live = true → s.can[c].mon = true →
      (f.fdf = true → s.yes Fld.CAN_FDEN c = true) → s.canSafe c f = some (x, b) →
      exec (.canFrameReceived c f sofAgo endAgo) s = exec (.safeFrameCopy x b f.data) s ∧ ∃ t, exec (.safeFrameCopy x b f.data) s = .next t) ∧
  (∀ (s : State) (c : Fin 4) (err : BitVec 3) (dataPhase : Bool) (recN : Nat), s.can[c].live = true → s.can[c].mon = false →
      Runs (.canReceiveError c err dataPhase recN) s fun t =>
        t.can[c].rec_ = min 255 recN ∧ t.can[c].tec = s.can[c].tec ∧
        (if dataPhase then t.can[c].dlec else t.can[c].lec) = err.toNat ∧
        (s.can[c].rec_ < 96 → 96 ≤ recN → Logged s t .CAN_ERR_WARN c) ∧
        (s.can[c].passive = false → 127 < recN → Logged s t .CAN_ERR_PASSIVE c ∧ (s.can[c].tec ≤ 255 → t.can[c].passive = true)) ∧
        (s.can[c].tec ≤ 255 → t.can[c].busOff = false) ∧ (∀ d : Fin 4, d ≠ c → t.can[d] = s.can[d]) ∧
        t = { s with can := t.can, recd := t.recd, cap := t.cap }) ∧
  (∀ (s : State) (c : Fin 4) (err : BitVec 3) (dataPhase : Bool) (recN : Nat), (s.can[c].live = false ∨ s.can[c].mon = true) →
      exec (.canReceiveError c err dataPhase recN) s = .next s) ∧
  (∀ (s : State) (c : Fin 4) (host : Bool), s.can[c].tx.length < 32 →
      (tst (if host then s.can[c].stage[1] else s.can[c].stage[0]).ctl 8 = true → s.yes Fld.CAN_FDEN c = true) →
      Runs (.canTxSubmit c host) s fun t =>
      (∃ x, t.can[c].tx = s.can[c].tx ++ [x] ∧ x.host = host ∧ x.attempts = 0 ∧ x.fails = 0 ∧ x.cancel = false ∧
        x.tag = BitVec.ofNat 8 (bits (if host then s.can[c].stage[1] else s.can[c].stage[0]).ctl 16 8)) ∧
      (∀ d : Fin 4, d ≠ c → t.can[d] = s.can[d]) ∧ t = { s with can := t.can }) ∧
  (∀ (s : State) (c : Fin 4) (host : Bool), (32 ≤ s.can[c].tx.length ∨
      (tst (if host then s.can[c].stage[1] else s.can[c].stage[0]).ctl 8 = true ∧ s.yes Fld.CAN_FDEN c = false)) →
      Runs (.canTxSubmit c host) s fun t =>
      Logged s t .CAN_TX_FULL c ∧ t = { s with recd := t.recd, cap := t.cap }) ∧
  (∀ (s : State) (c : Fin 4) (x : CanTx) (l : List CanTx) (dataPhase : Bool) (stamp : Word), s.can[c].live = true → s.can[c].mon = false →
      s.can[c].safeTx = false → s.can[c].tx = x :: l → s.can[c].done.length < 32 →
      (x.cancel = false → Runs (.canTxAttemptEnd c .sent dataPhase stamp) s fun t =>
        t.can[c].tx = l ∧ t.can[c].done = s.can[c].done ++ [⟨.sent, min 255 (x.attempts + 1), x.host, x.tag, stamp⟩] ∧
        t.can[c].tec = s.can[c].tec - 1) ∧
      (x.cancel = true → Runs (.canTxAttemptEnd c .sent dataPhase stamp) s fun t =>
        t.can[c].tx = l ∧ t.can[c].done = s.can[c].done ++ [⟨.tooLate, min 255 (x.attempts + 1), x.host, x.tag, stamp⟩] ∧
        Logged s t .CAN_TOO_LATE_SENT c) ∧
      (x.cancel = true → Runs (.canTxAttemptEnd c .arbLost dataPhase stamp) s fun t =>
        t.can[c].tx = l ∧ t.can[c].done = s.can[c].done ++ [⟨.cancelled, min 255 (x.attempts + 1), x.host, x.tag, stamp⟩]) ∧
      (x.cancel = false → s.n Fld.CAN_RETRY c ≠ 0 → s.n Fld.CAN_RETRY c ≤ x.fails → Runs (.canTxAttemptEnd c .arbLost dataPhase stamp) s fun t =>
        t.can[c].tx = l ∧ t.can[c].done = s.can[c].done ++ [⟨.dropArb, min 255 (x.attempts + 1), x.host, x.tag, stamp⟩] ∧
        t.can[c].txDrop = bump s.can[c].txDrop ∧ t.can[c].arbLost = bump s.can[c].arbLost ∧ t.can[c].tec = s.can[c].tec ∧
        Logged s t .CAN_TX_DROP c 3) ∧
      (x.cancel = false → (s.n Fld.CAN_RETRY c = 0 ∨ x.fails < s.n Fld.CAN_RETRY c) → Runs (.canTxAttemptEnd c .arbLost dataPhase stamp) s fun t =>
        t.can[c].tx = { x with attempts := min 255 (x.attempts + 1), fails := x.fails + 1, stamp := stamp } :: l ∧
        t.can[c].done = s.can[c].done ∧ t.can[c].arbLost = bump s.can[c].arbLost) ∧
      (s.can[c].passive = true → Runs (.canTxAttemptEnd c (.noAck false) dataPhase stamp) s fun t => t.can[c].tec = s.can[c].tec) ∧
      (s.can[c].passive = false → Runs (.canTxAttemptEnd c (.noAck false) dataPhase stamp) s fun t =>
        t.can[c].tec = s.can[c].tec + 8 ∧ (s.can[c].tec + 8 ≤ 255 → 127 < s.can[c].tec + 8 → t.can[c].passive = true ∧
          Logged s t .CAN_ERR_PASSIVE c)) ∧
      (∀ lec : BitVec 3, 247 < s.can[c].tec → Runs (.canTxAttemptEnd c (.error lec) dataPhase stamp) s fun t =>
        t.can[c].busOff = true ∧ Logged s t .CAN_BUS_OFF c ∧ (s.yes Fld.CAN_BOAUTO c = true → t.can[c].recover = some s.up) ∧
        (s.yes Fld.CAN_BOAUTO c = false → t.can[c].recover = none))) ∧
  (∀ (s : State) (c : Fin 4) (x : CanFrame) (dataPhase : Bool) (stamp : Word), s.can[c].live = true → s.can[c].mon = false →
      s.can[c].safeTx = true → s.can[c].safe = some x →
      Runs (.canTxAttemptEnd c .sent dataPhase stamp) s (fun t => t.can[c].safe = none ∧ t.can[c].tx = s.can[c].tx) ∧
      Runs (.canTxAttemptEnd c .arbLost dataPhase stamp) s (fun t =>
        t.can[c].safe = some x ∧ t.can[c].safeTx = true ∧ t.can[c].tx = s.can[c].tx ∧ t.can[c].arbLost = bump s.can[c].arbLost)) ∧
  (∀ (s : State) (c : Fin 4) (r : TxResult) (dataPhase : Bool) (stamp : Word), (s.can[c].live = false ∨ s.can[c].mon = true) →
      exec (.canTxAttemptEnd c r dataPhase stamp) s = .next s) ∧
  (∀ (s : State) (c : Fin 4) (tag : BitVec 8) (x : CanTx) (a l : List CanTx), s.can[c].tx = a ++ x :: l → a ≠ [] → x.tag = tag →
      (∀ y ∈ a, y.tag ≠ tag) → s.can[c].done.length < 32 → Runs (.canTxCancel c tag) s fun t =>
        t.can[c].tx = a ++ l ∧ t.can[c].done = s.can[c].done ++ [⟨.cancelled, x.attempts, x.host, x.tag, x.stamp⟩] ∧
        (∀ d : Fin 4, d ≠ c → t.can[d] = s.can[d]) ∧ t = { s with can := t.can }) ∧
  (∀ (s : State) (c : Fin 4) (tag : BitVec 8), (∀ y ∈ s.can[c].tx, y.tag ≠ tag) → exec (.canTxCancel c tag) s = .next s) ∧
  (∀ (s : State) (c : Fin 4), Runs (.canFlush c) s fun t =>
      (s.can[c].live = false ∨ s.can[c].mon = true ∨ s.can[c].safeTx = true → t.can[c].tx = []) ∧ t.can[c].tx.length ≤ 1 ∧
      (∀ x ∈ t.can[c].tx, x.cancel = true) ∧ t.can[c].safe = s.can[c].safe ∧ (∀ d : Fin 4, d ≠ c → t.can[d] = s.can[d]) ∧
      t = { s with can := t.can, free := t.free }) ∧
  (∀ (s : State) (c : Fin 4), s.can[c].busOff = true → s.can[c].recover = none → Runs (.canRecover c) s fun t =>
      t.can[c] = { s.can[c] with recover := some s.up } ∧ (∀ d : Fin 4, d ≠ c → t.can[d] = s.can[d]) ∧ t = { s with can := t.can }) ∧
  (∀ (s : State) (c : Fin 4), s.can[c].busOff = false → exec (.canRecover c) s = .next s ∧ exec (.canBusoffRecovered c) s = .next s) ∧
  (∀ (s : State) (c : Fin 4), (s.can[c].recover = none ∨ ∃ a, s.can[c].recover = some a ∧ s.up < a + s.canQuiet c) →
      exec (.canBusoffRecovered c) s = .next s) ∧
  (∀ (s : State) (c : Fin 4) (a : Nat), s.can[c].busOff = true → s.can[c].recover = some a → a + s.canQuiet c ≤ s.up →
      Runs (.canBusoffRecovered c) s fun t =>
      t.can[c].busOff = false ∧ t.can[c].tec = 0 ∧ t.can[c].rec_ = 0 ∧ t.can[c].tx = s.can[c].tx ∧ Logged s t .CAN_BUS_ON c ∧
      (∀ d : Fin 4, d ≠ c → t.can[d] = s.can[d]) ∧ t = { s with can := t.can, recd := t.recd, cap := t.cap }) ∧
  (∀ (s : State) (c : Fin 4), Runs (.canCountersClear c) s fun t =>
      t.can[c] = { s.can[c] with rxOvr0 := .zero, rxOvr1 := .zero, ovrEv := false, noMatch := .zero, txDrop := .zero, arbLost := .zero,
                                 txEvOvr := .zero, safeRepl := .zero } ∧
      (∀ d : Fin 4, d ≠ c → t.can[d] = s.can[d]) ∧ t = { s with can := t.can }) ∧
  (∀ (s : State) (c : Fin 4), Runs (.txDonePop c) s fun t =>
      t.can[c] = { s.can[c] with done := s.can[c].done.tail } ∧ (∀ d : Fin 4, d ≠ c → t.can[d] = s.can[d]) ∧ t = { s with can := t.can }) ∧
  (∀ (s : State) (c : Fin 4) (q : Fin 2), s.n Fld.CAN_RXQ_CONS c q ≠ 0 → Runs (.rxQueuePop c q) s fun t =>
      t.can[c] = (if q = 0 then { s.can[c] with rx0 := s.can[c].rx0.tail } else { s.can[c] with rx1 := s.can[c].rx1.tail }) ∧
      (∀ d : Fin 4, d ≠ c → t.can[d] = s.can[d]) ∧ t = { s with can := t.can }) ∧
  (∀ (s : State) (c : Fin 4) (q : Fin 2), s.n Fld.CAN_RXQ_CONS c q = 0 → exec (.rxQueuePop c q) s = .next s) ∧
  (∀ s : State, Runs .canTsWrap s fun t => Logged s t .CAN_TS_WRAP ∧ t = { s with recd := t.recd, cap := t.cap }) ∧
  (∀ (s : State) (c : Fin 4), 7 ≤ s.rst.stage → s.can[c].on = false → s.yes Fld.CAN_EN c = true → Runs (.canReconfigure c) s fun t =>
      t.can[c].on = true ∧ t.can[c].busOff = false ∧ t.can[c].tec = 0 ∧ t.can[c].rec_ = 0 ∧ t.can[c].tx = s.can[c].tx ∧
      (∀ d : Fin 4, d ≠ c → t.can[d] = s.can[d]) ∧ t = { s with can := t.can }) ∧
  (∀ (s : State) (c : Fin 4), (s.rst.stage < 7 ∨ s.can[c].on = true ∨ s.yes Fld.CAN_EN c = false) →
      exec (.canReconfigure c) s = .next s) ∧
  (∀ s : State, (s.garnet.run = true ∨ s.garnet.safe = true) → Runs .safeFrameSend s fun t =>
      (∀ x : Fin 4, s.n Fld.SAFETY_CONN_NET 0 x ≠ 0 → t.garnet.conn[x] = { s.garnet.conn[x] with
        sendSeq := s.garnet.conn[x].sendSeq + 1, sent := s.pduOut x (s.garnet.conn[x].sendSeq + 1) }) ∧
      (∀ x : Fin 4, s.n Fld.SAFETY_CONN_NET 0 x = 0 → t.garnet.conn[x] = s.garnet.conn[x]) ∧
      (∀ x c : Fin 4, s.n Fld.SAFETY_CONN_NET 0 x = 2 → s.n Fld.SAFETY_CONN_PORTA 0 x = 8 + c → s.can[c].live = true →
        s.can[c].mon = false → s.yes Fld.CAN_FDEN c = true → t.can[c].safe.isSome = true) ∧
      (∀ c : Fin 4, t.can[c].tx = s.can[c].tx) ∧ t.garnet.mo = s.garnet.mo ∧
      t = { s with garnet := { s.garnet with conn := t.garnet.conn }, eth := t.eth, can := t.can, recd := t.recd, cap := t.cap }) ∧
  (∀ s : State, s.garnet.run = false → s.garnet.safe = false → exec .safeFrameSend s = .next s)
end

