-- ==== Sys2Proof/Laws/Memory.lean ====
section
/-! SUPPORT. The canonical form of the mailbox image: every write of bytes keeps it, it holds at reset, and a byte written is the byte
read. -/

namespace Sys2Proof.Machine

/-- What the image shows at an offset: the byte listed there, else 0. -/
def imageAt (l : List (Nat × Byte)) (i : Nat) : Byte := ((l.find? fun x => x.1 == i).map Prod.snd).getD 0

@[simp] theorem imageAt_nil (i : Nat) : imageAt [] i = 0 := rfl

theorem imageAt_cons (j : Nat) (c : Byte) (l : List (Nat × Byte)) (i : Nat) :
    imageAt ((j, c) :: l) i = if j = i then c else imageAt l i := by
  unfold imageAt
  by_cases h : j = i <;> simp [h]

theorem imageWf_iff (l : List (Nat × Byte)) :
    imageWf l = true ↔ (l.map Prod.fst).Pairwise (· < ·) ∧ ∀ x ∈ l, x.2 ≠ 0 := by
  simp [imageWf]

theorem imageWf_cons (j : Nat) (c : Byte) (l : List (Nat × Byte)) :
    imageWf ((j, c) :: l) = true ↔ (∀ x ∈ l, j < x.1) ∧ c ≠ 0 ∧ imageWf l = true := by
  rw [imageWf_iff, imageWf_iff]
  simp only [List.map_cons, List.pairwise_cons, List.mem_cons, forall_eq_or_imp, List.mem_map, forall_exists_index, and_imp,
    forall_apply_eq_imp_iff₂]
  tauto

/-- Every offset of an image with one byte written is the written one or an old one. -/
theorem setByte_mem {l : List (Nat × Byte)} {i : Nat} {b : Byte} {x : Nat × Byte} (h : x ∈ setByte l i b) : x.1 = i ∨ x ∈ l := by
  induction l with
  | nil =>
    unfold setByte at h
    split at h <;> simp_all
  | cons y l ih =>
    unfold setByte at h
    repeat' split at h
    all_goals simp_all
    all_goals rcases h with h | h <;> simp_all <;> tauto

theorem setByte_wf {l : List (Nat × Byte)} (h : imageWf l = true) (i : Nat) (b : Byte) : imageWf (setByte l i b) = true := by
  induction l with
  | nil => unfold setByte; split <;> simp_all [imageWf]
  | cons y l ih =>
    obtain ⟨j, c⟩ := y
    obtain ⟨hj, hc, hl⟩ := (imageWf_cons j c l).1 h
    unfold setByte
    split
    · refine (imageWf_cons _ _ _).2 ⟨fun x hx => ?_, hc, ih hl⟩
      rcases setByte_mem hx with hx | hx
      · omega
      · exact hj x hx
    · split
      · split
        · exact hl
        · rename_i h1 h2 h3
          exact (imageWf_cons _ _ _).2 ⟨fun x hx => h2 ▸ hj x hx, h3, hl⟩
      · split
        · exact h
        · rename_i h1 h2 h3
          refine (imageWf_cons _ _ _).2 ⟨fun x hx => ?_, h3, h⟩
          rcases List.mem_cons.1 hx with rfl | hx
          · simp only; omega
          · have := hj x hx; omega

/-- Every write of bytes keeps the canonical form. -/
theorem setBytes_wf {l : List (Nat × Byte)} (h : imageWf l = true) (off : Nat) (bs : List Byte) : imageWf (setBytes l off bs) = true := by
  induction bs generalizing l off with
  | nil => exact h
  | cons b bs ih => exact ih (setByte_wf h off b) (off + 1)

/-- A read after a write: the byte written, and every other byte as before. -/
theorem imageAt_setByte {l : List (Nat × Byte)} (h : imageWf l = true) (i : Nat) (b : Byte) (k : Nat) :
    imageAt (setByte l i b) k = if i = k then b else imageAt l k := by
  induction l with
  | nil => unfold setByte; split <;> simp_all [imageAt_cons]
  | cons y l ih =>
    obtain ⟨j, c⟩ := y
    obtain ⟨hj, hc, hl⟩ := (imageWf_cons j c l).1 h
    have absent : ∀ k, (∀ x ∈ l, k < x.1) → imageAt l k = 0 := by
      intro k hk
      have : (l.find? fun x => x.1 == k) = none := List.find?_eq_none.2 fun x hx => by
        have := hk x hx
        simp only [beq_iff_eq]; omega
      simp [imageAt, this]
    unfold setByte
    split
    · rw [imageAt_cons, imageAt_cons, ih hl]
      split <;> split <;> first | rfl | omega
    · split
      · rename_i h1 h2
        subst h2
        split
        · rename_i h3
          rw [imageAt_cons]
          split
          · rename_i h4; rw [← h4, h3]; exact absent j hj
          · rfl
        · rw [imageAt_cons, imageAt_cons]; split <;> rfl
      · rename_i h1 h2
        split
        · rename_i h3
          split
          · rename_i h5
            subst h5
            rw [imageAt_cons, if_neg h2, h3]
            exact absent i fun x hx => by have := hj x hx; omega
          · rfl
        · rw [imageAt_cons]

/-- The image of the machine right after reset has the canonical form. -/
theorem reset_image_wf : imageWf State.reset.fab.mbox.image = true := by decide +kernel

end Sys2Proof.Machine
end

