-- ==== Sys2Proof/Laws/Record.lean ====
section
/-! SUPPORT. What raising an event does: it changes the recorder and the capture buffers and nothing else, and the event is on
record afterwards. -/

namespace Sys2Proof.Machine

/-! ## Only the recorder and the capture buffers change -/

/-- A state that differs from another in the recorder and the capture buffers at most. -/
def RecOnly (s t : State) : Prop := ∃ r c, t = { s with recd := r, cap := c }

theorem RecOnly.refl (s : State) : RecOnly s s := ⟨s.recd, s.cap, rfl⟩

theorem RecOnly.trans {s t u : State} (h : RecOnly s t) (k : RecOnly t u) : RecOnly s u := by
  obtain ⟨r, c, rfl⟩ := h
  obtain ⟨r', c', rfl⟩ := k
  exact ⟨r', c', rfl⟩

theorem store_recOnly (s : State) (e : Entry) : RecOnly s (s.store e) := by
  unfold State.store
  dsimp only
  split
  · exact ⟨_, s.cap, rfl⟩
  · exact ⟨_, s.cap, rfl⟩

theorem record_recOnly (s : State) (e : Entry) : RecOnly s (s.record e) := by
  unfold State.record
  split
  · exact ⟨_, s.cap, rfl⟩
  · split
    · exact store_recOnly s e
    · exact ⟨_, s.cap, rfl⟩

/-- What every pass of a loop keeps, the loop keeps. -/
theorem foldl_keeps {α : Type} {R : State → State → Prop} (hr : ∀ s, R s s) (ht : ∀ s t u, R s t → R t u → R s u)
    (f : State → α → State) (hf : ∀ s x, R s (f s x)) (l : List α) (s : State) : R s (l.foldl f s) := by
  induction l generalizing s with
  | nil => exact hr s
  | cons x l ih => exact ht _ _ _ (hf s x) (ih _)

theorem trigOnce_recOnly (s : State) (code : Nat) (t : BitVec 64) : RecOnly s (s.trigOnce code t) := by
  unfold State.trigOnce forFin
  refine foldl_keeps RecOnly.refl (fun _ _ _ => RecOnly.trans) _ (fun s k => ?_) _ s
  dsimp only
  split
  · exact RecOnly.trans ⟨s.recd, _, rfl⟩ (record_recOnly _ _)
  · exact RecOnly.refl s

theorem capTrigger_recOnly (s : State) (code : Nat) (t : BitVec 64) : RecOnly s (s.capTrigger code t) := by
  unfold State.capTrigger
  dsimp only
  split
  · exact trigOnce_recOnly _ _ _
  · exact (trigOnce_recOnly _ _ _).trans (trigOnce_recOnly _ _ _)

theorem raise_recOnly (s : State) (ev : Ev) (u a : Nat) (d : List Byte) : RecOnly s (s.raise ev u a d) :=
  (record_recOnly _ _).trans (capTrigger_recOnly _ _ _)

theorem raiseIf_recOnly (s : State) (c : Bool) (ev : Ev) (u a : Nat) (d : List Byte) : RecOnly s (s.raiseIf c ev u a d) := by
  unfold State.raiseIf
  split
  · exact raise_recOnly ..
  · exact RecOnly.refl s

theorem raiseAt_recOnly (s : State) (t : BitVec 64) (ev : Ev) (u a : Nat) (d : List Byte) : RecOnly s (s.raiseAt t ev u a d) :=
  (record_recOnly _ _).trans (capTrigger_recOnly _ _ _)

/-! ## An entry on record stays on record -/

/-- Whatever an earlier state holds on record, a later one holds too. -/
def KeepsAll (s t : State) : Prop := ∀ e, s.keeps e → t.keeps e

theorem storeOne_ring (r : Recorder) (e : Entry) (p : Word × Entry) (h : p ∈ r.ring) : p ∈ (storeOne r e).ring := by
  unfold storeOne storeRaw loseEntry
  split <;> simp [h]

theorem store_keepsAll (s : State) (e : Entry) : KeepsAll s (s.store e) := by
  intro x hx
  unfold State.store
  rcases hx with h | h | ⟨i, h⟩
  · dsimp only
    split
    · exact .inl (by unfold storeOne storeRaw loseEntry; (repeat' split) <;> simpa using h)
    · exact .inl (by unfold storeOne storeRaw loseEntry; (repeat' split) <;> simpa using h)
  · dsimp only
    split
    · exact .inr (.inl (by unfold storeOne storeRaw loseEntry; (repeat' split) <;> simpa using h))
    · exact .inr (.inl (by unfold storeOne storeRaw loseEntry; (repeat' split) <;> simpa using h))
  · dsimp only
    split
    · exact .inr (.inr ⟨i, storeOne_ring _ _ _ (storeOne_ring _ _ _ h)⟩)
    · exact .inr (.inr ⟨i, storeOne_ring _ _ _ h⟩)

theorem record_keepsAll (s : State) (e : Entry) : KeepsAll s (s.record e) := by
  unfold State.record
  split
  · rintro x (h | h | h)
    · exact .inl (by simp [h])
    · exact .inr (.inl h)
    · exact .inr (.inr h)
  · split
    · exact store_keepsAll s e
    · rintro x (h | h | h)
      · exact .inl h
      · exact .inr (.inl (by simp [h]))
      · exact .inr (.inr h)

theorem trigOnce_keepsAll (s : State) (code : Nat) (t : BitVec 64) : KeepsAll s (s.trigOnce code t) := by
  unfold State.trigOnce forFin
  refine foldl_keeps (fun _ _ h => h) (fun _ _ _ h k x hx => k x (h x hx)) _ (fun s k => ?_) _ s
  dsimp only
  split
  · exact fun x hx => record_keepsAll _ _ x hx
  · exact fun _ h => h

theorem capTrigger_keepsAll (s : State) (code : Nat) (t : BitVec 64) : KeepsAll s (s.capTrigger code t) := by
  unfold State.capTrigger
  dsimp only
  split
  · exact trigOnce_keepsAll _ _ _
  · exact fun x hx => trigOnce_keepsAll _ _ _ x (trigOnce_keepsAll _ _ _ x hx)

theorem raise_keepsAll (s : State) (ev : Ev) (u a : Nat) (d : List Byte) : KeepsAll s (s.raise ev u a d) :=
  fun x hx => capTrigger_keepsAll _ _ _ x (record_keepsAll _ _ x hx)

/-- A raised event is on record. -/
theorem raise_logged (s : State) (ev : Ev) (u a : Nat) (d : List Byte) : Logged s (s.raise ev u a d) ev u a d := by
  intro h
  refine capTrigger_keepsAll _ _ _ _ ?_
  unfold State.record
  split
  · exact .inl (by simp)
  · split
    · have h' := h (by simp_all) (by assumption)
      refine .inr (.inr ⟨s.recd.next, ?_⟩)
      unfold State.store
      have hs : (s.recd.next, s.entry ev u a d) ∈ (storeOne s.recd (s.entry ev u a d)).ring := by
        simp [storeOne, storeRaw, show s.recd.ring.length < ringMax by omega]
      dsimp only
      split
      · exact storeOne_ring _ _ _ hs
      · exact hs
    · exact .inr (.inl (by simp))


/-- A raised event is on record for every earlier state with the same recorder and time. -/
theorem raise_logged_of (s x : State) (ev : Ev) (u a : Nat) (d : List Byte) (h : x.recd = s.recd) (h' : x.dev = s.dev) :
    Logged s (x.raise ev u a d) ev u a d := by
  have k := raise_logged x ev u a d
  unfold Logged at *
  rw [← h]
  unfold State.entry State.stamp at *
  rw [← h']
  exact k

/-- What is on record stays there when another event is raised. -/
theorem Logged.raise {s t : State} {ev : Ev} {u a : Nat} {d : List Byte} (h : Logged s t ev u a d) (ev' : Ev) (u' a' : Nat)
    (d' : List Byte) : Logged s (t.raise ev' u' a' d') ev u a d :=
  fun k => raise_keepsAll t ev' u' a' d' _ (h k)

/-! ## A state is its fields -/

theorem State.eq_mk_iff (s t : State) : s = t ↔ s.pending = t.pending ∧ s.up = t.up ∧ s.dev = t.dev ∧ s.devFrac = t.devFrac ∧
    s.free = t.free ∧ s.given = t.given ∧ s.used = t.used ∧ s.unarmedF = t.unarmedF ∧ s.cells = t.cells ∧ s.hk = t.hk ∧ s.pwm =
    t.pwm ∧ s.loops = t.loops ∧ s.posIf = t.posIf ∧ s.start = t.start ∧ s.spc = t.spc ∧ s.cmd = t.cmd ∧ s.outer = t.outer ∧
    s.brake = t.brake ∧ s.armed = t.armed ∧ s.disarmed = t.disarmed ∧ s.mapBad = t.mapBad ∧ s.badChk = t.badChk ∧ s.axes = t.axes
    ∧ s.moGen = t.moGen ∧ s.shock = t.shock ∧ s.heave = t.heave ∧ s.hist = t.hist ∧ s.ring = t.ring ∧ s.em = t.em ∧ s.reacts =
    t.reacts ∧ s.chan = t.chan ∧ s.br = t.br ∧ s.cmp = t.cmp ∧ s.chop = t.chop ∧ s.wind = t.wind ∧ s.stest = t.stest ∧ s.die =
    t.die ∧ s.garnet = t.garnet ∧ s.slog = t.slog ∧ s.fab = t.fab ∧ s.clk = t.clk ∧ s.rst = t.rst ∧ s.vbat = t.vbat ∧ s.recd =
    t.recd ∧ s.jrn = t.jrn ∧ s.jwBase = t.jwBase ∧ s.nor = t.nor ∧ s.img = t.img ∧ s.com = t.com ∧ s.shadow = t.shadow ∧ s.fw =
    t.fw ∧ s.av = t.av ∧ s.cap = t.cap ∧ s.eth = t.eth ∧ s.time = t.time ∧ s.can = t.can ∧ s.onyx = t.onyx ∧ s.tap = t.tap ∧
    s.latches = t.latches := by
  cases s; cases t; simp

/-! ## The fields that raising an event leaves -/

@[simp] theorem State.raise_pending (s : State) (ev : Ev) (u a : Nat) (d : List Byte) : (s.raise ev u a d).pending = s.pending := by
  obtain ⟨r, c, h⟩ := raise_recOnly s ev u a d
  rw [h]
@[simp] theorem State.raise_up (s : State) (ev : Ev) (u a : Nat) (d : List Byte) : (s.raise ev u a d).up = s.up := by
  obtain ⟨r, c, h⟩ := raise_recOnly s ev u a d
  rw [h]
@[simp] theorem State.raise_dev (s : State) (ev : Ev) (u a : Nat) (d : List Byte) : (s.raise ev u a d).dev = s.dev := by
  obtain ⟨r, c, h⟩ := raise_recOnly s ev u a d
  rw [h]
@[simp] theorem State.raise_devFrac (s : State) (ev : Ev) (u a : Nat) (d : List Byte) : (s.raise ev u a d).devFrac = s.devFrac := by
  obtain ⟨r, c, h⟩ := raise_recOnly s ev u a d
  rw [h]
@[simp] theorem State.raise_free (s : State) (ev : Ev) (u a : Nat) (d : List Byte) : (s.raise ev u a d).free = s.free := by
  obtain ⟨r, c, h⟩ := raise_recOnly s ev u a d
  rw [h]
@[simp] theorem State.raise_given (s : State) (ev : Ev) (u a : Nat) (d : List Byte) : (s.raise ev u a d).given = s.given := by
  obtain ⟨r, c, h⟩ := raise_recOnly s ev u a d
  rw [h]
@[simp] theorem State.raise_used (s : State) (ev : Ev) (u a : Nat) (d : List Byte) : (s.raise ev u a d).used = s.used := by
  obtain ⟨r, c, h⟩ := raise_recOnly s ev u a d
  rw [h]
@[simp] theorem State.raise_unarmedF (s : State) (ev : Ev) (u a : Nat) (d : List Byte) : (s.raise ev u a d).unarmedF = s.unarmedF := by
  obtain ⟨r, c, h⟩ := raise_recOnly s ev u a d
  rw [h]
@[simp] theorem State.raise_cells (s : State) (ev : Ev) (u a : Nat) (d : List Byte) : (s.raise ev u a d).cells = s.cells := by
  obtain ⟨r, c, h⟩ := raise_recOnly s ev u a d
  rw [h]
@[simp] theorem State.raise_hk (s : State) (ev : Ev) (u a : Nat) (d : List Byte) : (s.raise ev u a d).hk = s.hk := by
  obtain ⟨r, c, h⟩ := raise_recOnly s ev u a d
  rw [h]
@[simp] theorem State.raise_pwm (s : State) (ev : Ev) (u a : Nat) (d : List Byte) : (s.raise ev u a d).pwm = s.pwm := by
  obtain ⟨r, c, h⟩ := raise_recOnly s ev u a d
  rw [h]
@[simp] theorem State.raise_loops (s : State) (ev : Ev) (u a : Nat) (d : List Byte) : (s.raise ev u a d).loops = s.loops := by
  obtain ⟨r, c, h⟩ := raise_recOnly s ev u a d
  rw [h]
@[simp] theorem State.raise_posIf (s : State) (ev : Ev) (u a : Nat) (d : List Byte) : (s.raise ev u a d).posIf = s.posIf := by
  obtain ⟨r, c, h⟩ := raise_recOnly s ev u a d
  rw [h]
@[simp] theorem State.raise_start (s : State) (ev : Ev) (u a : Nat) (d : List Byte) : (s.raise ev u a d).start = s.start := by
  obtain ⟨r, c, h⟩ := raise_recOnly s ev u a d
  rw [h]
@[simp] theorem State.raise_spc (s : State) (ev : Ev) (u a : Nat) (d : List Byte) : (s.raise ev u a d).spc = s.spc := by
  obtain ⟨r, c, h⟩ := raise_recOnly s ev u a d
  rw [h]
@[simp] theorem State.raise_cmd (s : State) (ev : Ev) (u a : Nat) (d : List Byte) : (s.raise ev u a d).cmd = s.cmd := by
  obtain ⟨r, c, h⟩ := raise_recOnly s ev u a d
  rw [h]
@[simp] theorem State.raise_outer (s : State) (ev : Ev) (u a : Nat) (d : List Byte) : (s.raise ev u a d).outer = s.outer := by
  obtain ⟨r, c, h⟩ := raise_recOnly s ev u a d
  rw [h]
@[simp] theorem State.raise_brake (s : State) (ev : Ev) (u a : Nat) (d : List Byte) : (s.raise ev u a d).brake = s.brake := by
  obtain ⟨r, c, h⟩ := raise_recOnly s ev u a d
  rw [h]
@[simp] theorem State.raise_armed (s : State) (ev : Ev) (u a : Nat) (d : List Byte) : (s.raise ev u a d).armed = s.armed := by
  obtain ⟨r, c, h⟩ := raise_recOnly s ev u a d
  rw [h]
@[simp] theorem State.raise_disarmed (s : State) (ev : Ev) (u a : Nat) (d : List Byte) : (s.raise ev u a d).disarmed = s.disarmed := by
  obtain ⟨r, c, h⟩ := raise_recOnly s ev u a d
  rw [h]
@[simp] theorem State.raise_mapBad (s : State) (ev : Ev) (u a : Nat) (d : List Byte) : (s.raise ev u a d).mapBad = s.mapBad := by
  obtain ⟨r, c, h⟩ := raise_recOnly s ev u a d
  rw [h]
@[simp] theorem State.raise_badChk (s : State) (ev : Ev) (u a : Nat) (d : List Byte) : (s.raise ev u a d).badChk = s.badChk := by
  obtain ⟨r, c, h⟩ := raise_recOnly s ev u a d
  rw [h]
@[simp] theorem State.raise_axes (s : State) (ev : Ev) (u a : Nat) (d : List Byte) : (s.raise ev u a d).axes = s.axes := by
  obtain ⟨r, c, h⟩ := raise_recOnly s ev u a d
  rw [h]
@[simp] theorem State.raise_moGen (s : State) (ev : Ev) (u a : Nat) (d : List Byte) : (s.raise ev u a d).moGen = s.moGen := by
  obtain ⟨r, c, h⟩ := raise_recOnly s ev u a d
  rw [h]
@[simp] theorem State.raise_shock (s : State) (ev : Ev) (u a : Nat) (d : List Byte) : (s.raise ev u a d).shock = s.shock := by
  obtain ⟨r, c, h⟩ := raise_recOnly s ev u a d
  rw [h]
@[simp] theorem State.raise_heave (s : State) (ev : Ev) (u a : Nat) (d : List Byte) : (s.raise ev u a d).heave = s.heave := by
  obtain ⟨r, c, h⟩ := raise_recOnly s ev u a d
  rw [h]
@[simp] theorem State.raise_hist (s : State) (ev : Ev) (u a : Nat) (d : List Byte) : (s.raise ev u a d).hist = s.hist := by
  obtain ⟨r, c, h⟩ := raise_recOnly s ev u a d
  rw [h]
@[simp] theorem State.raise_ring (s : State) (ev : Ev) (u a : Nat) (d : List Byte) : (s.raise ev u a d).ring = s.ring := by
  obtain ⟨r, c, h⟩ := raise_recOnly s ev u a d
  rw [h]
@[simp] theorem State.raise_em (s : State) (ev : Ev) (u a : Nat) (d : List Byte) : (s.raise ev u a d).em = s.em := by
  obtain ⟨r, c, h⟩ := raise_recOnly s ev u a d
  rw [h]
@[simp] theorem State.raise_reacts (s : State) (ev : Ev) (u a : Nat) (d : List Byte) : (s.raise ev u a d).reacts = s.reacts := by
  obtain ⟨r, c, h⟩ := raise_recOnly s ev u a d
  rw [h]
@[simp] theorem State.raise_chan (s : State) (ev : Ev) (u a : Nat) (d : List Byte) : (s.raise ev u a d).chan = s.chan := by
  obtain ⟨r, c, h⟩ := raise_recOnly s ev u a d
  rw [h]
@[simp] theorem State.raise_br (s : State) (ev : Ev) (u a : Nat) (d : List Byte) : (s.raise ev u a d).br = s.br := by
  obtain ⟨r, c, h⟩ := raise_recOnly s ev u a d
  rw [h]
@[simp] theorem State.raise_cmp (s : State) (ev : Ev) (u a : Nat) (d : List Byte) : (s.raise ev u a d).cmp = s.cmp := by
  obtain ⟨r, c, h⟩ := raise_recOnly s ev u a d
  rw [h]
@[simp] theorem State.raise_chop (s : State) (ev : Ev) (u a : Nat) (d : List Byte) : (s.raise ev u a d).chop = s.chop := by
  obtain ⟨r, c, h⟩ := raise_recOnly s ev u a d
  rw [h]
@[simp] theorem State.raise_wind (s : State) (ev : Ev) (u a : Nat) (d : List Byte) : (s.raise ev u a d).wind = s.wind := by
  obtain ⟨r, c, h⟩ := raise_recOnly s ev u a d
  rw [h]
@[simp] theorem State.raise_stest (s : State) (ev : Ev) (u a : Nat) (d : List Byte) : (s.raise ev u a d).stest = s.stest := by
  obtain ⟨r, c, h⟩ := raise_recOnly s ev u a d
  rw [h]
@[simp] theorem State.raise_tap (s : State) (ev : Ev) (u a : Nat) (d : List Byte) : (s.raise ev u a d).tap = s.tap := by
  obtain ⟨r, c, h⟩ := raise_recOnly s ev u a d
  rw [h]
@[simp] theorem State.raise_die (s : State) (ev : Ev) (u a : Nat) (d : List Byte) : (s.raise ev u a d).die = s.die := by
  obtain ⟨r, c, h⟩ := raise_recOnly s ev u a d
  rw [h]
@[simp] theorem State.raise_garnet (s : State) (ev : Ev) (u a : Nat) (d : List Byte) : (s.raise ev u a d).garnet = s.garnet := by
  obtain ⟨r, c, h⟩ := raise_recOnly s ev u a d
  rw [h]
@[simp] theorem State.raise_slog (s : State) (ev : Ev) (u a : Nat) (d : List Byte) : (s.raise ev u a d).slog = s.slog := by
  obtain ⟨r, c, h⟩ := raise_recOnly s ev u a d
  rw [h]
@[simp] theorem State.raise_fab (s : State) (ev : Ev) (u a : Nat) (d : List Byte) : (s.raise ev u a d).fab = s.fab := by
  obtain ⟨r, c, h⟩ := raise_recOnly s ev u a d
  rw [h]
@[simp] theorem State.raise_clk (s : State) (ev : Ev) (u a : Nat) (d : List Byte) : (s.raise ev u a d).clk = s.clk := by
  obtain ⟨r, c, h⟩ := raise_recOnly s ev u a d
  rw [h]
@[simp] theorem State.raise_rst (s : State) (ev : Ev) (u a : Nat) (d : List Byte) : (s.raise ev u a d).rst = s.rst := by
  obtain ⟨r, c, h⟩ := raise_recOnly s ev u a d
  rw [h]
@[simp] theorem State.raise_vbat (s : State) (ev : Ev) (u a : Nat) (d : List Byte) : (s.raise ev u a d).vbat = s.vbat := by
  obtain ⟨r, c, h⟩ := raise_recOnly s ev u a d
  rw [h]
@[simp] theorem State.raise_jrn (s : State) (ev : Ev) (u a : Nat) (d : List Byte) : (s.raise ev u a d).jrn = s.jrn := by
  obtain ⟨r, c, h⟩ := raise_recOnly s ev u a d
  rw [h]
@[simp] theorem State.raise_jwBase (s : State) (ev : Ev) (u a : Nat) (d : List Byte) : (s.raise ev u a d).jwBase = s.jwBase := by
  obtain ⟨r, c, h⟩ := raise_recOnly s ev u a d
  rw [h]
@[simp] theorem State.raise_nor (s : State) (ev : Ev) (u a : Nat) (d : List Byte) : (s.raise ev u a d).nor = s.nor := by
  obtain ⟨r, c, h⟩ := raise_recOnly s ev u a d
  rw [h]
@[simp] theorem State.raise_img (s : State) (ev : Ev) (u a : Nat) (d : List Byte) : (s.raise ev u a d).img = s.img := by
  obtain ⟨r, c, h⟩ := raise_recOnly s ev u a d
  rw [h]
@[simp] theorem State.raise_com (s : State) (ev : Ev) (u a : Nat) (d : List Byte) : (s.raise ev u a d).com = s.com := by
  obtain ⟨r, c, h⟩ := raise_recOnly s ev u a d
  rw [h]
@[simp] theorem State.raise_shadow (s : State) (ev : Ev) (u a : Nat) (d : List Byte) : (s.raise ev u a d).shadow = s.shadow := by
  obtain ⟨r, c, h⟩ := raise_recOnly s ev u a d
  rw [h]
@[simp] theorem State.raise_fw (s : State) (ev : Ev) (u a : Nat) (d : List Byte) : (s.raise ev u a d).fw = s.fw := by
  obtain ⟨r, c, h⟩ := raise_recOnly s ev u a d
  rw [h]
@[simp] theorem State.raise_av (s : State) (ev : Ev) (u a : Nat) (d : List Byte) : (s.raise ev u a d).av = s.av := by
  obtain ⟨r, c, h⟩ := raise_recOnly s ev u a d
  rw [h]
@[simp] theorem State.raise_eth (s : State) (ev : Ev) (u a : Nat) (d : List Byte) : (s.raise ev u a d).eth = s.eth := by
  obtain ⟨r, c, h⟩ := raise_recOnly s ev u a d
  rw [h]
@[simp] theorem State.raise_time (s : State) (ev : Ev) (u a : Nat) (d : List Byte) : (s.raise ev u a d).time = s.time := by
  obtain ⟨r, c, h⟩ := raise_recOnly s ev u a d
  rw [h]
@[simp] theorem State.raise_can (s : State) (ev : Ev) (u a : Nat) (d : List Byte) : (s.raise ev u a d).can = s.can := by
  obtain ⟨r, c, h⟩ := raise_recOnly s ev u a d
  rw [h]
@[simp] theorem State.raise_onyx (s : State) (ev : Ev) (u a : Nat) (d : List Byte) : (s.raise ev u a d).onyx = s.onyx := by
  obtain ⟨r, c, h⟩ := raise_recOnly s ev u a d
  rw [h]
@[simp] theorem State.raise_latches (s : State) (ev : Ev) (u a : Nat) (d : List Byte) : (s.raise ev u a d).latches = s.latches := by
  obtain ⟨r, c, h⟩ := raise_recOnly s ev u a d
  rw [h]

/-! ## The same where an event is raised under a condition -/

@[simp] theorem State.raiseIf_pending (s : State) (b : Bool) (ev : Ev) (u a : Nat) (d : List Byte) :
    (s.raiseIf b ev u a d).pending = s.pending := by
  obtain ⟨r, c, h⟩ := raiseIf_recOnly s b ev u a d
  rw [h]
@[simp] theorem State.raiseIf_up (s : State) (b : Bool) (ev : Ev) (u a : Nat) (d : List Byte) :
    (s.raiseIf b ev u a d).up = s.up := by
  obtain ⟨r, c, h⟩ := raiseIf_recOnly s b ev u a d
  rw [h]
@[simp] theorem State.raiseIf_dev (s : State) (b : Bool) (ev : Ev) (u a : Nat) (d : List Byte) :
    (s.raiseIf b ev u a d).dev = s.dev := by
  obtain ⟨r, c, h⟩ := raiseIf_recOnly s b ev u a d
  rw [h]
@[simp] theorem State.raiseIf_devFrac (s : State) (b : Bool) (ev : Ev) (u a : Nat) (d : List Byte) :
    (s.raiseIf b ev u a d).devFrac = s.devFrac := by
  obtain ⟨r, c, h⟩ := raiseIf_recOnly s b ev u a d
  rw [h]
@[simp] theorem State.raiseIf_free (s : State) (b : Bool) (ev : Ev) (u a : Nat) (d : List Byte) :
    (s.raiseIf b ev u a d).free = s.free := by
  obtain ⟨r, c, h⟩ := raiseIf_recOnly s b ev u a d
  rw [h]
@[simp] theorem State.raiseIf_given (s : State) (b : Bool) (ev : Ev) (u a : Nat) (d : List Byte) :
    (s.raiseIf b ev u a d).given = s.given := by
  obtain ⟨r, c, h⟩ := raiseIf_recOnly s b ev u a d
  rw [h]
@[simp] theorem State.raiseIf_used (s : State) (b : Bool) (ev : Ev) (u a : Nat) (d : List Byte) :
    (s.raiseIf b ev u a d).used = s.used := by
  obtain ⟨r, c, h⟩ := raiseIf_recOnly s b ev u a d
  rw [h]
@[simp] theorem State.raiseIf_unarmedF (s : State) (b : Bool) (ev : Ev) (u a : Nat) (d : List Byte) :
    (s.raiseIf b ev u a d).unarmedF = s.unarmedF := by
  obtain ⟨r, c, h⟩ := raiseIf_recOnly s b ev u a d
  rw [h]
@[simp] theorem State.raiseIf_cells (s : State) (b : Bool) (ev : Ev) (u a : Nat) (d : List Byte) :
    (s.raiseIf b ev u a d).cells = s.cells := by
  obtain ⟨r, c, h⟩ := raiseIf_recOnly s b ev u a d
  rw [h]
@[simp] theorem State.raiseIf_hk (s : State) (b : Bool) (ev : Ev) (u a : Nat) (d : List Byte) :
    (s.raiseIf b ev u a d).hk = s.hk := by
  obtain ⟨r, c, h⟩ := raiseIf_recOnly s b ev u a d
  rw [h]
@[simp] theorem State.raiseIf_pwm (s : State) (b : Bool) (ev : Ev) (u a : Nat) (d : List Byte) :
    (s.raiseIf b ev u a d).pwm = s.pwm := by
  obtain ⟨r, c, h⟩ := raiseIf_recOnly s b ev u a d
  rw [h]
@[simp] theorem State.raiseIf_loops (s : State) (b : Bool) (ev : Ev) (u a : Nat) (d : List Byte) :
    (s.raiseIf b ev u a d).loops = s.loops := by
  obtain ⟨r, c, h⟩ := raiseIf_recOnly s b ev u a d
  rw [h]
@[simp] theorem State.raiseIf_posIf (s : State) (b : Bool) (ev : Ev) (u a : Nat) (d : List Byte) :
    (s.raiseIf b ev u a d).posIf = s.posIf := by
  obtain ⟨r, c, h⟩ := raiseIf_recOnly s b ev u a d
  rw [h]
@[simp] theorem State.raiseIf_start (s : State) (b : Bool) (ev : Ev) (u a : Nat) (d : List Byte) :
    (s.raiseIf b ev u a d).start = s.start := by
  obtain ⟨r, c, h⟩ := raiseIf_recOnly s b ev u a d
  rw [h]
@[simp] theorem State.raiseIf_spc (s : State) (b : Bool) (ev : Ev) (u a : Nat) (d : List Byte) :
    (s.raiseIf b ev u a d).spc = s.spc := by
  obtain ⟨r, c, h⟩ := raiseIf_recOnly s b ev u a d
  rw [h]
@[simp] theorem State.raiseIf_cmd (s : State) (b : Bool) (ev : Ev) (u a : Nat) (d : List Byte) :
    (s.raiseIf b ev u a d).cmd = s.cmd := by
  obtain ⟨r, c, h⟩ := raiseIf_recOnly s b ev u a d
  rw [h]
@[simp] theorem State.raiseIf_outer (s : State) (b : Bool) (ev : Ev) (u a : Nat) (d : List Byte) :
    (s.raiseIf b ev u a d).outer = s.outer := by
  obtain ⟨r, c, h⟩ := raiseIf_recOnly s b ev u a d
  rw [h]
@[simp] theorem State.raiseIf_brake (s : State) (b : Bool) (ev : Ev) (u a : Nat) (d : List Byte) :
    (s.raiseIf b ev u a d).brake = s.brake := by
  obtain ⟨r, c, h⟩ := raiseIf_recOnly s b ev u a d
  rw [h]
@[simp] theorem State.raiseIf_armed (s : State) (b : Bool) (ev : Ev) (u a : Nat) (d : List Byte) :
    (s.raiseIf b ev u a d).armed = s.armed := by
  obtain ⟨r, c, h⟩ := raiseIf_recOnly s b ev u a d
  rw [h]
@[simp] theorem State.raiseIf_disarmed (s : State) (b : Bool) (ev : Ev) (u a : Nat) (d : List Byte) :
    (s.raiseIf b ev u a d).disarmed = s.disarmed := by
  obtain ⟨r, c, h⟩ := raiseIf_recOnly s b ev u a d
  rw [h]
@[simp] theorem State.raiseIf_mapBad (s : State) (b : Bool) (ev : Ev) (u a : Nat) (d : List Byte) :
    (s.raiseIf b ev u a d).mapBad = s.mapBad := by
  obtain ⟨r, c, h⟩ := raiseIf_recOnly s b ev u a d
  rw [h]
@[simp] theorem State.raiseIf_badChk (s : State) (b : Bool) (ev : Ev) (u a : Nat) (d : List Byte) :
    (s.raiseIf b ev u a d).badChk = s.badChk := by
  obtain ⟨r, c, h⟩ := raiseIf_recOnly s b ev u a d
  rw [h]
@[simp] theorem State.raiseIf_axes (s : State) (b : Bool) (ev : Ev) (u a : Nat) (d : List Byte) :
    (s.raiseIf b ev u a d).axes = s.axes := by
  obtain ⟨r, c, h⟩ := raiseIf_recOnly s b ev u a d
  rw [h]
@[simp] theorem State.raiseIf_moGen (s : State) (b : Bool) (ev : Ev) (u a : Nat) (d : List Byte) :
    (s.raiseIf b ev u a d).moGen = s.moGen := by
  obtain ⟨r, c, h⟩ := raiseIf_recOnly s b ev u a d
  rw [h]
@[simp] theorem State.raiseIf_shock (s : State) (b : Bool) (ev : Ev) (u a : Nat) (d : List Byte) :
    (s.raiseIf b ev u a d).shock = s.shock := by
  obtain ⟨r, c, h⟩ := raiseIf_recOnly s b ev u a d
  rw [h]
@[simp] theorem State.raiseIf_heave (s : State) (b : Bool) (ev : Ev) (u a : Nat) (d : List Byte) :
    (s.raiseIf b ev u a d).heave = s.heave := by
  obtain ⟨r, c, h⟩ := raiseIf_recOnly s b ev u a d
  rw [h]
@[simp] theorem State.raiseIf_hist (s : State) (b : Bool) (ev : Ev) (u a : Nat) (d : List Byte) :
    (s.raiseIf b ev u a d).hist = s.hist := by
  obtain ⟨r, c, h⟩ := raiseIf_recOnly s b ev u a d
  rw [h]
@[simp] theorem State.raiseIf_ring (s : State) (b : Bool) (ev : Ev) (u a : Nat) (d : List Byte) :
    (s.raiseIf b ev u a d).ring = s.ring := by
  obtain ⟨r, c, h⟩ := raiseIf_recOnly s b ev u a d
  rw [h]
@[simp] theorem State.raiseIf_em (s : State) (b : Bool) (ev : Ev) (u a : Nat) (d : List Byte) :
    (s.raiseIf b ev u a d).em = s.em := by
  obtain ⟨r, c, h⟩ := raiseIf_recOnly s b ev u a d
  rw [h]
@[simp] theorem State.raiseIf_reacts (s : State) (b : Bool) (ev : Ev) (u a : Nat) (d : List Byte) :
    (s.raiseIf b ev u a d).reacts = s.reacts := by
  obtain ⟨r, c, h⟩ := raiseIf_recOnly s b ev u a d
  rw [h]
@[simp] theorem State.raiseIf_chan (s : State) (b : Bool) (ev : Ev) (u a : Nat) (d : List Byte) :
    (s.raiseIf b ev u a d).chan = s.chan := by
  obtain ⟨r, c, h⟩ := raiseIf_recOnly s b ev u a d
  rw [h]
@[simp] theorem State.raiseIf_br (s : State) (b : Bool) (ev : Ev) (u a : Nat) (d : List Byte) :
    (s.raiseIf b ev u a d).br = s.br := by
  obtain ⟨r, c, h⟩ := raiseIf_recOnly s b ev u a d
  rw [h]
@[simp] theorem State.raiseIf_cmp (s : State) (b : Bool) (ev : Ev) (u a : Nat) (d : List Byte) :
    (s.raiseIf b ev u a d).cmp = s.cmp := by
  obtain ⟨r, c, h⟩ := raiseIf_recOnly s b ev u a d
  rw [h]
@[simp] theorem State.raiseIf_chop (s : State) (b : Bool) (ev : Ev) (u a : Nat) (d : List Byte) :
    (s.raiseIf b ev u a d).chop = s.chop := by
  obtain ⟨r, c, h⟩ := raiseIf_recOnly s b ev u a d
  rw [h]
@[simp] theorem State.raiseIf_wind (s : State) (b : Bool) (ev : Ev) (u a : Nat) (d : List Byte) :
    (s.raiseIf b ev u a d).wind = s.wind := by
  obtain ⟨r, c, h⟩ := raiseIf_recOnly s b ev u a d
  rw [h]
@[simp] theorem State.raiseIf_stest (s : State) (b : Bool) (ev : Ev) (u a : Nat) (d : List Byte) :
    (s.raiseIf b ev u a d).stest = s.stest := by
  obtain ⟨r, c, h⟩ := raiseIf_recOnly s b ev u a d
  rw [h]
@[simp] theorem State.raiseIf_tap (s : State) (b : Bool) (ev : Ev) (u a : Nat) (d : List Byte) :
    (s.raiseIf b ev u a d).tap = s.tap := by
  obtain ⟨r, c, h⟩ := raiseIf_recOnly s b ev u a d
  rw [h]
@[simp] theorem State.raiseIf_die (s : State) (b : Bool) (ev : Ev) (u a : Nat) (d : List Byte) :
    (s.raiseIf b ev u a d).die = s.die := by
  obtain ⟨r, c, h⟩ := raiseIf_recOnly s b ev u a d
  rw [h]
@[simp] theorem State.raiseIf_garnet (s : State) (b : Bool) (ev : Ev) (u a : Nat) (d : List Byte) :
    (s.raiseIf b ev u a d).garnet = s.garnet := by
  obtain ⟨r, c, h⟩ := raiseIf_recOnly s b ev u a d
  rw [h]
@[simp] theorem State.raiseIf_slog (s : State) (b : Bool) (ev : Ev) (u a : Nat) (d : List Byte) :
    (s.raiseIf b ev u a d).slog = s.slog := by
  obtain ⟨r, c, h⟩ := raiseIf_recOnly s b ev u a d
  rw [h]
@[simp] theorem State.raiseIf_fab (s : State) (b : Bool) (ev : Ev) (u a : Nat) (d : List Byte) :
    (s.raiseIf b ev u a d).fab = s.fab := by
  obtain ⟨r, c, h⟩ := raiseIf_recOnly s b ev u a d
  rw [h]
@[simp] theorem State.raiseIf_clk (s : State) (b : Bool) (ev : Ev) (u a : Nat) (d : List Byte) :
    (s.raiseIf b ev u a d).clk = s.clk := by
  obtain ⟨r, c, h⟩ := raiseIf_recOnly s b ev u a d
  rw [h]
@[simp] theorem State.raiseIf_rst (s : State) (b : Bool) (ev : Ev) (u a : Nat) (d : List Byte) :
    (s.raiseIf b ev u a d).rst = s.rst := by
  obtain ⟨r, c, h⟩ := raiseIf_recOnly s b ev u a d
  rw [h]
@[simp] theorem State.raiseIf_vbat (s : State) (b : Bool) (ev : Ev) (u a : Nat) (d : List Byte) :
    (s.raiseIf b ev u a d).vbat = s.vbat := by
  obtain ⟨r, c, h⟩ := raiseIf_recOnly s b ev u a d
  rw [h]
@[simp] theorem State.raiseIf_jrn (s : State) (b : Bool) (ev : Ev) (u a : Nat) (d : List Byte) :
    (s.raiseIf b ev u a d).jrn = s.jrn := by
  obtain ⟨r, c, h⟩ := raiseIf_recOnly s b ev u a d
  rw [h]
@[simp] theorem State.raiseIf_jwBase (s : State) (b : Bool) (ev : Ev) (u a : Nat) (d : List Byte) :
    (s.raiseIf b ev u a d).jwBase = s.jwBase := by
  obtain ⟨r, c, h⟩ := raiseIf_recOnly s b ev u a d
  rw [h]
@[simp] theorem State.raiseIf_nor (s : State) (b : Bool) (ev : Ev) (u a : Nat) (d : List Byte) :
    (s.raiseIf b ev u a d).nor = s.nor := by
  obtain ⟨r, c, h⟩ := raiseIf_recOnly s b ev u a d
  rw [h]
@[simp] theorem State.raiseIf_img (s : State) (b : Bool) (ev : Ev) (u a : Nat) (d : List Byte) :
    (s.raiseIf b ev u a d).img = s.img := by
  obtain ⟨r, c, h⟩ := raiseIf_recOnly s b ev u a d
  rw [h]
@[simp] theorem State.raiseIf_com (s : State) (b : Bool) (ev : Ev) (u a : Nat) (d : List Byte) :
    (s.raiseIf b ev u a d).com = s.com := by
  obtain ⟨r, c, h⟩ := raiseIf_recOnly s b ev u a d
  rw [h]
@[simp] theorem State.raiseIf_shadow (s : State) (b : Bool) (ev : Ev) (u a : Nat) (d : List Byte) :
    (s.raiseIf b ev u a d).shadow = s.shadow := by
  obtain ⟨r, c, h⟩ := raiseIf_recOnly s b ev u a d
  rw [h]
@[simp] theorem State.raiseIf_fw (s : State) (b : Bool) (ev : Ev) (u a : Nat) (d : List Byte) :
    (s.raiseIf b ev u a d).fw = s.fw := by
  obtain ⟨r, c, h⟩ := raiseIf_recOnly s b ev u a d
  rw [h]
@[simp] theorem State.raiseIf_av (s : State) (b : Bool) (ev : Ev) (u a : Nat) (d : List Byte) :
    (s.raiseIf b ev u a d).av = s.av := by
  obtain ⟨r, c, h⟩ := raiseIf_recOnly s b ev u a d
  rw [h]
@[simp] theorem State.raiseIf_eth (s : State) (b : Bool) (ev : Ev) (u a : Nat) (d : List Byte) :
    (s.raiseIf b ev u a d).eth = s.eth := by
  obtain ⟨r, c, h⟩ := raiseIf_recOnly s b ev u a d
  rw [h]
@[simp] theorem State.raiseIf_time (s : State) (b : Bool) (ev : Ev) (u a : Nat) (d : List Byte) :
    (s.raiseIf b ev u a d).time = s.time := by
  obtain ⟨r, c, h⟩ := raiseIf_recOnly s b ev u a d
  rw [h]
@[simp] theorem State.raiseIf_can (s : State) (b : Bool) (ev : Ev) (u a : Nat) (d : List Byte) :
    (s.raiseIf b ev u a d).can = s.can := by
  obtain ⟨r, c, h⟩ := raiseIf_recOnly s b ev u a d
  rw [h]
@[simp] theorem State.raiseIf_onyx (s : State) (b : Bool) (ev : Ev) (u a : Nat) (d : List Byte) :
    (s.raiseIf b ev u a d).onyx = s.onyx := by
  obtain ⟨r, c, h⟩ := raiseIf_recOnly s b ev u a d
  rw [h]
@[simp] theorem State.raiseIf_latches (s : State) (b : Bool) (ev : Ev) (u a : Nat) (d : List Byte) :
    (s.raiseIf b ev u a d).latches = s.latches := by
  obtain ⟨r, c, h⟩ := raiseIf_recOnly s b ev u a d
  rw [h]

end Sys2Proof.Machine
end

