-- ==== Sys2Proof/Laws/State.lean ====
section
/-! SUPPORT. What each update of one element of the state leaves in each field: one lemma per field and update, so that no proof unfolds
a record update. -/

namespace Sys2Proof.Machine

/-! ## Tables -/

section
variable {α : Type} {n : Nat}

/-- The changed element of a table. -/
@[simp] theorem vmod_self (v : Vector α n) (i : Fin n) (f : α → α) : (vmod v i f)[i] = f v[i] := by simp [vmod]

/-- The other elements of a table. -/
theorem vmod_ne (v : Vector α n) (i j : Fin n) (f : α → α) (h : j ≠ i) : (vmod v i f)[j] = v[j] := by
  simp only [vmod, Fin.getElem_fin]
  exact Vector.getElem_set_ne _ _ (fun e => h (Fin.ext e.symm))

end

/-! ## `State.onBr` -/

@[simp] theorem State.onBr_pending (s : State) (n : Fin 8) (f : Bridge → Bridge) : (s.onBr n f).pending = s.pending := rfl
@[simp] theorem State.onBr_up (s : State) (n : Fin 8) (f : Bridge → Bridge) : (s.onBr n f).up = s.up := rfl
@[simp] theorem State.onBr_dev (s : State) (n : Fin 8) (f : Bridge → Bridge) : (s.onBr n f).dev = s.dev := rfl
@[simp] theorem State.onBr_devFrac (s : State) (n : Fin 8) (f : Bridge → Bridge) : (s.onBr n f).devFrac = s.devFrac := rfl
@[simp] theorem State.onBr_free (s : State) (n : Fin 8) (f : Bridge → Bridge) : (s.onBr n f).free = s.free := rfl
@[simp] theorem State.onBr_given (s : State) (n : Fin 8) (f : Bridge → Bridge) : (s.onBr n f).given = s.given := rfl
@[simp] theorem State.onBr_used (s : State) (n : Fin 8) (f : Bridge → Bridge) : (s.onBr n f).used = s.used := rfl
@[simp] theorem State.onBr_unarmedF (s : State) (n : Fin 8) (f : Bridge → Bridge) : (s.onBr n f).unarmedF = s.unarmedF := rfl
@[simp] theorem State.onBr_cells (s : State) (n : Fin 8) (f : Bridge → Bridge) : (s.onBr n f).cells = s.cells := rfl
@[simp] theorem State.onBr_hk (s : State) (n : Fin 8) (f : Bridge → Bridge) : (s.onBr n f).hk = s.hk := rfl
@[simp] theorem State.onBr_pwm (s : State) (n : Fin 8) (f : Bridge → Bridge) : (s.onBr n f).pwm = s.pwm := rfl
@[simp] theorem State.onBr_loops (s : State) (n : Fin 8) (f : Bridge → Bridge) : (s.onBr n f).loops = s.loops := rfl
@[simp] theorem State.onBr_posIf (s : State) (n : Fin 8) (f : Bridge → Bridge) : (s.onBr n f).posIf = s.posIf := rfl
@[simp] theorem State.onBr_start (s : State) (n : Fin 8) (f : Bridge → Bridge) : (s.onBr n f).start = s.start := rfl
@[simp] theorem State.onBr_spc (s : State) (n : Fin 8) (f : Bridge → Bridge) : (s.onBr n f).spc = s.spc := rfl
@[simp] theorem State.onBr_cmd (s : State) (n : Fin 8) (f : Bridge → Bridge) : (s.onBr n f).cmd = s.cmd := rfl
@[simp] theorem State.onBr_outer (s : State) (n : Fin 8) (f : Bridge → Bridge) : (s.onBr n f).outer = s.outer := rfl
@[simp] theorem State.onBr_brake (s : State) (n : Fin 8) (f : Bridge → Bridge) : (s.onBr n f).brake = s.brake := rfl
@[simp] theorem State.onBr_armed (s : State) (n : Fin 8) (f : Bridge → Bridge) : (s.onBr n f).armed = s.armed := rfl
@[simp] theorem State.onBr_disarmed (s : State) (n : Fin 8) (f : Bridge → Bridge) : (s.onBr n f).disarmed = s.disarmed := rfl
@[simp] theorem State.onBr_mapBad (s : State) (n : Fin 8) (f : Bridge → Bridge) : (s.onBr n f).mapBad = s.mapBad := rfl
@[simp] theorem State.onBr_badChk (s : State) (n : Fin 8) (f : Bridge → Bridge) : (s.onBr n f).badChk = s.badChk := rfl
@[simp] theorem State.onBr_axes (s : State) (n : Fin 8) (f : Bridge → Bridge) : (s.onBr n f).axes = s.axes := rfl
@[simp] theorem State.onBr_moGen (s : State) (n : Fin 8) (f : Bridge → Bridge) : (s.onBr n f).moGen = s.moGen := rfl
@[simp] theorem State.onBr_shock (s : State) (n : Fin 8) (f : Bridge → Bridge) : (s.onBr n f).shock = s.shock := rfl
@[simp] theorem State.onBr_heave (s : State) (n : Fin 8) (f : Bridge → Bridge) : (s.onBr n f).heave = s.heave := rfl
@[simp] theorem State.onBr_hist (s : State) (n : Fin 8) (f : Bridge → Bridge) : (s.onBr n f).hist = s.hist := rfl
@[simp] theorem State.onBr_ring (s : State) (n : Fin 8) (f : Bridge → Bridge) : (s.onBr n f).ring = s.ring := rfl
@[simp] theorem State.onBr_em (s : State) (n : Fin 8) (f : Bridge → Bridge) : (s.onBr n f).em = s.em := rfl
@[simp] theorem State.onBr_reacts (s : State) (n : Fin 8) (f : Bridge → Bridge) : (s.onBr n f).reacts = s.reacts := rfl
@[simp] theorem State.onBr_chan (s : State) (n : Fin 8) (f : Bridge → Bridge) : (s.onBr n f).chan = s.chan := rfl
@[simp] theorem State.onBr_br (s : State) (n : Fin 8) (f : Bridge → Bridge) : (s.onBr n f).br = vmod s.br n f := rfl
@[simp] theorem State.onBr_cmp (s : State) (n : Fin 8) (f : Bridge → Bridge) : (s.onBr n f).cmp = s.cmp := rfl
@[simp] theorem State.onBr_chop (s : State) (n : Fin 8) (f : Bridge → Bridge) : (s.onBr n f).chop = s.chop := rfl
@[simp] theorem State.onBr_wind (s : State) (n : Fin 8) (f : Bridge → Bridge) : (s.onBr n f).wind = s.wind := rfl
@[simp] theorem State.onBr_stest (s : State) (n : Fin 8) (f : Bridge → Bridge) : (s.onBr n f).stest = s.stest := rfl
@[simp] theorem State.onBr_tap (s : State) (n : Fin 8) (f : Bridge → Bridge) : (s.onBr n f).tap = s.tap := rfl
@[simp] theorem State.onBr_die (s : State) (n : Fin 8) (f : Bridge → Bridge) : (s.onBr n f).die = s.die := rfl
@[simp] theorem State.onBr_garnet (s : State) (n : Fin 8) (f : Bridge → Bridge) : (s.onBr n f).garnet = s.garnet := rfl
@[simp] theorem State.onBr_slog (s : State) (n : Fin 8) (f : Bridge → Bridge) : (s.onBr n f).slog = s.slog := rfl
@[simp] theorem State.onBr_fab (s : State) (n : Fin 8) (f : Bridge → Bridge) : (s.onBr n f).fab = s.fab := rfl
@[simp] theorem State.onBr_clk (s : State) (n : Fin 8) (f : Bridge → Bridge) : (s.onBr n f).clk = s.clk := rfl
@[simp] theorem State.onBr_rst (s : State) (n : Fin 8) (f : Bridge → Bridge) : (s.onBr n f).rst = s.rst := rfl
@[simp] theorem State.onBr_vbat (s : State) (n : Fin 8) (f : Bridge → Bridge) : (s.onBr n f).vbat = s.vbat := rfl
@[simp] theorem State.onBr_recd (s : State) (n : Fin 8) (f : Bridge → Bridge) : (s.onBr n f).recd = s.recd := rfl
@[simp] theorem State.onBr_jrn (s : State) (n : Fin 8) (f : Bridge → Bridge) : (s.onBr n f).jrn = s.jrn := rfl
@[simp] theorem State.onBr_jwBase (s : State) (n : Fin 8) (f : Bridge → Bridge) : (s.onBr n f).jwBase = s.jwBase := rfl
@[simp] theorem State.onBr_nor (s : State) (n : Fin 8) (f : Bridge → Bridge) : (s.onBr n f).nor = s.nor := rfl
@[simp] theorem State.onBr_img (s : State) (n : Fin 8) (f : Bridge → Bridge) : (s.onBr n f).img = s.img := rfl
@[simp] theorem State.onBr_com (s : State) (n : Fin 8) (f : Bridge → Bridge) : (s.onBr n f).com = s.com := rfl
@[simp] theorem State.onBr_shadow (s : State) (n : Fin 8) (f : Bridge → Bridge) : (s.onBr n f).shadow = s.shadow := rfl
@[simp] theorem State.onBr_fw (s : State) (n : Fin 8) (f : Bridge → Bridge) : (s.onBr n f).fw = s.fw := rfl
@[simp] theorem State.onBr_av (s : State) (n : Fin 8) (f : Bridge → Bridge) : (s.onBr n f).av = s.av := rfl
@[simp] theorem State.onBr_cap (s : State) (n : Fin 8) (f : Bridge → Bridge) : (s.onBr n f).cap = s.cap := rfl
@[simp] theorem State.onBr_eth (s : State) (n : Fin 8) (f : Bridge → Bridge) : (s.onBr n f).eth = s.eth := rfl
@[simp] theorem State.onBr_time (s : State) (n : Fin 8) (f : Bridge → Bridge) : (s.onBr n f).time = s.time := rfl
@[simp] theorem State.onBr_can (s : State) (n : Fin 8) (f : Bridge → Bridge) : (s.onBr n f).can = s.can := rfl
@[simp] theorem State.onBr_onyx (s : State) (n : Fin 8) (f : Bridge → Bridge) : (s.onBr n f).onyx = s.onyx := rfl
@[simp] theorem State.onBr_latches (s : State) (n : Fin 8) (f : Bridge → Bridge) : (s.onBr n f).latches = s.latches := rfl

/-! ## `State.onCell` -/

@[simp] theorem State.onCell_pending (s : State) (n : Fin 8) (f : Cell → Cell) : (s.onCell n f).pending = s.pending := rfl
@[simp] theorem State.onCell_up (s : State) (n : Fin 8) (f : Cell → Cell) : (s.onCell n f).up = s.up := rfl
@[simp] theorem State.onCell_dev (s : State) (n : Fin 8) (f : Cell → Cell) : (s.onCell n f).dev = s.dev := rfl
@[simp] theorem State.onCell_devFrac (s : State) (n : Fin 8) (f : Cell → Cell) : (s.onCell n f).devFrac = s.devFrac := rfl
@[simp] theorem State.onCell_free (s : State) (n : Fin 8) (f : Cell → Cell) : (s.onCell n f).free = s.free := rfl
@[simp] theorem State.onCell_given (s : State) (n : Fin 8) (f : Cell → Cell) : (s.onCell n f).given = s.given := rfl
@[simp] theorem State.onCell_used (s : State) (n : Fin 8) (f : Cell → Cell) : (s.onCell n f).used = s.used := rfl
@[simp] theorem State.onCell_unarmedF (s : State) (n : Fin 8) (f : Cell → Cell) : (s.onCell n f).unarmedF = s.unarmedF := rfl
@[simp] theorem State.onCell_cells (s : State) (n : Fin 8) (f : Cell → Cell) : (s.onCell n f).cells = vmod s.cells n f := rfl
@[simp] theorem State.onCell_hk (s : State) (n : Fin 8) (f : Cell → Cell) : (s.onCell n f).hk = s.hk := rfl
@[simp] theorem State.onCell_pwm (s : State) (n : Fin 8) (f : Cell → Cell) : (s.onCell n f).pwm = s.pwm := rfl
@[simp] theorem State.onCell_loops (s : State) (n : Fin 8) (f : Cell → Cell) : (s.onCell n f).loops = s.loops := rfl
@[simp] theorem State.onCell_posIf (s : State) (n : Fin 8) (f : Cell → Cell) : (s.onCell n f).posIf = s.posIf := rfl
@[simp] theorem State.onCell_start (s : State) (n : Fin 8) (f : Cell → Cell) : (s.onCell n f).start = s.start := rfl
@[simp] theorem State.onCell_spc (s : State) (n : Fin 8) (f : Cell → Cell) : (s.onCell n f).spc = s.spc := rfl
@[simp] theorem State.onCell_cmd (s : State) (n : Fin 8) (f : Cell → Cell) : (s.onCell n f).cmd = s.cmd := rfl
@[simp] theorem State.onCell_outer (s : State) (n : Fin 8) (f : Cell → Cell) : (s.onCell n f).outer = s.outer := rfl
@[simp] theorem State.onCell_brake (s : State) (n : Fin 8) (f : Cell → Cell) : (s.onCell n f).brake = s.brake := rfl
@[simp] theorem State.onCell_armed (s : State) (n : Fin 8) (f : Cell → Cell) : (s.onCell n f).armed = s.armed := rfl
@[simp] theorem State.onCell_disarmed (s : State) (n : Fin 8) (f : Cell → Cell) : (s.onCell n f).disarmed = s.disarmed := rfl
@[simp] theorem State.onCell_mapBad (s : State) (n : Fin 8) (f : Cell → Cell) : (s.onCell n f).mapBad = s.mapBad := rfl
@[simp] theorem State.onCell_badChk (s : State) (n : Fin 8) (f : Cell → Cell) : (s.onCell n f).badChk = s.badChk := rfl
@[simp] theorem State.onCell_axes (s : State) (n : Fin 8) (f : Cell → Cell) : (s.onCell n f).axes = s.axes := rfl
@[simp] theorem State.onCell_moGen (s : State) (n : Fin 8) (f : Cell → Cell) : (s.onCell n f).moGen = s.moGen := rfl
@[simp] theorem State.onCell_shock (s : State) (n : Fin 8) (f : Cell → Cell) : (s.onCell n f).shock = s.shock := rfl
@[simp] theorem State.onCell_heave (s : State) (n : Fin 8) (f : Cell → Cell) : (s.onCell n f).heave = s.heave := rfl
@[simp] theorem State.onCell_hist (s : State) (n : Fin 8) (f : Cell → Cell) : (s.onCell n f).hist = s.hist := rfl
@[simp] theorem State.onCell_ring (s : State) (n : Fin 8) (f : Cell → Cell) : (s.onCell n f).ring = s.ring := rfl
@[simp] theorem State.onCell_em (s : State) (n : Fin 8) (f : Cell → Cell) : (s.onCell n f).em = s.em := rfl
@[simp] theorem State.onCell_reacts (s : State) (n : Fin 8) (f : Cell → Cell) : (s.onCell n f).reacts = s.reacts := rfl
@[simp] theorem State.onCell_chan (s : State) (n : Fin 8) (f : Cell → Cell) : (s.onCell n f).chan = s.chan := rfl
@[simp] theorem State.onCell_br (s : State) (n : Fin 8) (f : Cell → Cell) : (s.onCell n f).br = s.br := rfl
@[simp] theorem State.onCell_cmp (s : State) (n : Fin 8) (f : Cell → Cell) : (s.onCell n f).cmp = s.cmp := rfl
@[simp] theorem State.onCell_chop (s : State) (n : Fin 8) (f : Cell → Cell) : (s.onCell n f).chop = s.chop := rfl
@[simp] theorem State.onCell_wind (s : State) (n : Fin 8) (f : Cell → Cell) : (s.onCell n f).wind = s.wind := rfl
@[simp] theorem State.onCell_stest (s : State) (n : Fin 8) (f : Cell → Cell) : (s.onCell n f).stest = s.stest := rfl
@[simp] theorem State.onCell_tap (s : State) (n : Fin 8) (f : Cell → Cell) : (s.onCell n f).tap = s.tap := rfl
@[simp] theorem State.onCell_die (s : State) (n : Fin 8) (f : Cell → Cell) : (s.onCell n f).die = s.die := rfl
@[simp] theorem State.onCell_garnet (s : State) (n : Fin 8) (f : Cell → Cell) : (s.onCell n f).garnet = s.garnet := rfl
@[simp] theorem State.onCell_slog (s : State) (n : Fin 8) (f : Cell → Cell) : (s.onCell n f).slog = s.slog := rfl
@[simp] theorem State.onCell_fab (s : State) (n : Fin 8) (f : Cell → Cell) : (s.onCell n f).fab = s.fab := rfl
@[simp] theorem State.onCell_clk (s : State) (n : Fin 8) (f : Cell → Cell) : (s.onCell n f).clk = s.clk := rfl
@[simp] theorem State.onCell_rst (s : State) (n : Fin 8) (f : Cell → Cell) : (s.onCell n f).rst = s.rst := rfl
@[simp] theorem State.onCell_vbat (s : State) (n : Fin 8) (f : Cell → Cell) : (s.onCell n f).vbat = s.vbat := rfl
@[simp] theorem State.onCell_recd (s : State) (n : Fin 8) (f : Cell → Cell) : (s.onCell n f).recd = s.recd := rfl
@[simp] theorem State.onCell_jrn (s : State) (n : Fin 8) (f : Cell → Cell) : (s.onCell n f).jrn = s.jrn := rfl
@[simp] theorem State.onCell_jwBase (s : State) (n : Fin 8) (f : Cell → Cell) : (s.onCell n f).jwBase = s.jwBase := rfl
@[simp] theorem State.onCell_nor (s : State) (n : Fin 8) (f : Cell → Cell) : (s.onCell n f).nor = s.nor := rfl
@[simp] theorem State.onCell_img (s : State) (n : Fin 8) (f : Cell → Cell) : (s.onCell n f).img = s.img := rfl
@[simp] theorem State.onCell_com (s : State) (n : Fin 8) (f : Cell → Cell) : (s.onCell n f).com = s.com := rfl
@[simp] theorem State.onCell_shadow (s : State) (n : Fin 8) (f : Cell → Cell) : (s.onCell n f).shadow = s.shadow := rfl
@[simp] theorem State.onCell_fw (s : State) (n : Fin 8) (f : Cell → Cell) : (s.onCell n f).fw = s.fw := rfl
@[simp] theorem State.onCell_av (s : State) (n : Fin 8) (f : Cell → Cell) : (s.onCell n f).av = s.av := rfl
@[simp] theorem State.onCell_cap (s : State) (n : Fin 8) (f : Cell → Cell) : (s.onCell n f).cap = s.cap := rfl
@[simp] theorem State.onCell_eth (s : State) (n : Fin 8) (f : Cell → Cell) : (s.onCell n f).eth = s.eth := rfl
@[simp] theorem State.onCell_time (s : State) (n : Fin 8) (f : Cell → Cell) : (s.onCell n f).time = s.time := rfl
@[simp] theorem State.onCell_can (s : State) (n : Fin 8) (f : Cell → Cell) : (s.onCell n f).can = s.can := rfl
@[simp] theorem State.onCell_onyx (s : State) (n : Fin 8) (f : Cell → Cell) : (s.onCell n f).onyx = s.onyx := rfl
@[simp] theorem State.onCell_latches (s : State) (n : Fin 8) (f : Cell → Cell) : (s.onCell n f).latches = s.latches := rfl

/-! ## `State.onPwm` -/

@[simp] theorem State.onPwm_pending (s : State) (n : Fin 8) (f : Pwm → Pwm) : (s.onPwm n f).pending = s.pending := rfl
@[simp] theorem State.onPwm_up (s : State) (n : Fin 8) (f : Pwm → Pwm) : (s.onPwm n f).up = s.up := rfl
@[simp] theorem State.onPwm_dev (s : State) (n : Fin 8) (f : Pwm → Pwm) : (s.onPwm n f).dev = s.dev := rfl
@[simp] theorem State.onPwm_devFrac (s : State) (n : Fin 8) (f : Pwm → Pwm) : (s.onPwm n f).devFrac = s.devFrac := rfl
@[simp] theorem State.onPwm_free (s : State) (n : Fin 8) (f : Pwm → Pwm) : (s.onPwm n f).free = s.free := rfl
@[simp] theorem State.onPwm_given (s : State) (n : Fin 8) (f : Pwm → Pwm) : (s.onPwm n f).given = s.given := rfl
@[simp] theorem State.onPwm_used (s : State) (n : Fin 8) (f : Pwm → Pwm) : (s.onPwm n f).used = s.used := rfl
@[simp] theorem State.onPwm_unarmedF (s : State) (n : Fin 8) (f : Pwm → Pwm) : (s.onPwm n f).unarmedF = s.unarmedF := rfl
@[simp] theorem State.onPwm_cells (s : State) (n : Fin 8) (f : Pwm → Pwm) : (s.onPwm n f).cells = s.cells := rfl
@[simp] theorem State.onPwm_hk (s : State) (n : Fin 8) (f : Pwm → Pwm) : (s.onPwm n f).hk = s.hk := rfl
@[simp] theorem State.onPwm_pwm (s : State) (n : Fin 8) (f : Pwm → Pwm) : (s.onPwm n f).pwm = vmod s.pwm n f := rfl
@[simp] theorem State.onPwm_loops (s : State) (n : Fin 8) (f : Pwm → Pwm) : (s.onPwm n f).loops = s.loops := rfl
@[simp] theorem State.onPwm_posIf (s : State) (n : Fin 8) (f : Pwm → Pwm) : (s.onPwm n f).posIf = s.posIf := rfl
@[simp] theorem State.onPwm_start (s : State) (n : Fin 8) (f : Pwm → Pwm) : (s.onPwm n f).start = s.start := rfl
@[simp] theorem State.onPwm_spc (s : State) (n : Fin 8) (f : Pwm → Pwm) : (s.onPwm n f).spc = s.spc := rfl
@[simp] theorem State.onPwm_cmd (s : State) (n : Fin 8) (f : Pwm → Pwm) : (s.onPwm n f).cmd = s.cmd := rfl
@[simp] theorem State.onPwm_outer (s : State) (n : Fin 8) (f : Pwm → Pwm) : (s.onPwm n f).outer = s.outer := rfl
@[simp] theorem State.onPwm_brake (s : State) (n : Fin 8) (f : Pwm → Pwm) : (s.onPwm n f).brake = s.brake := rfl
@[simp] theorem State.onPwm_armed (s : State) (n : Fin 8) (f : Pwm → Pwm) : (s.onPwm n f).armed = s.armed := rfl
@[simp] theorem State.onPwm_disarmed (s : State) (n : Fin 8) (f : Pwm → Pwm) : (s.onPwm n f).disarmed = s.disarmed := rfl
@[simp] theorem State.onPwm_mapBad (s : State) (n : Fin 8) (f : Pwm → Pwm) : (s.onPwm n f).mapBad = s.mapBad := rfl
@[simp] theorem State.onPwm_badChk (s : State) (n : Fin 8) (f : Pwm → Pwm) : (s.onPwm n f).badChk = s.badChk := rfl
@[simp] theorem State.onPwm_axes (s : State) (n : Fin 8) (f : Pwm → Pwm) : (s.onPwm n f).axes = s.axes := rfl
@[simp] theorem State.onPwm_moGen (s : State) (n : Fin 8) (f : Pwm → Pwm) : (s.onPwm n f).moGen = s.moGen := rfl
@[simp] theorem State.onPwm_shock (s : State) (n : Fin 8) (f : Pwm → Pwm) : (s.onPwm n f).shock = s.shock := rfl
@[simp] theorem State.onPwm_heave (s : State) (n : Fin 8) (f : Pwm → Pwm) : (s.onPwm n f).heave = s.heave := rfl
@[simp] theorem State.onPwm_hist (s : State) (n : Fin 8) (f : Pwm → Pwm) : (s.onPwm n f).hist = s.hist := rfl
@[simp] theorem State.onPwm_ring (s : State) (n : Fin 8) (f : Pwm → Pwm) : (s.onPwm n f).ring = s.ring := rfl
@[simp] theorem State.onPwm_em (s : State) (n : Fin 8) (f : Pwm → Pwm) : (s.onPwm n f).em = s.em := rfl
@[simp] theorem State.onPwm_reacts (s : State) (n : Fin 8) (f : Pwm → Pwm) : (s.onPwm n f).reacts = s.reacts := rfl
@[simp] theorem State.onPwm_chan (s : State) (n : Fin 8) (f : Pwm → Pwm) : (s.onPwm n f).chan = s.chan := rfl
@[simp] theorem State.onPwm_br (s : State) (n : Fin 8) (f : Pwm → Pwm) : (s.onPwm n f).br = s.br := rfl
@[simp] theorem State.onPwm_cmp (s : State) (n : Fin 8) (f : Pwm → Pwm) : (s.onPwm n f).cmp = s.cmp := rfl
@[simp] theorem State.onPwm_chop (s : State) (n : Fin 8) (f : Pwm → Pwm) : (s.onPwm n f).chop = s.chop := rfl
@[simp] theorem State.onPwm_wind (s : State) (n : Fin 8) (f : Pwm → Pwm) : (s.onPwm n f).wind = s.wind := rfl
@[simp] theorem State.onPwm_stest (s : State) (n : Fin 8) (f : Pwm → Pwm) : (s.onPwm n f).stest = s.stest := rfl
@[simp] theorem State.onPwm_tap (s : State) (n : Fin 8) (f : Pwm → Pwm) : (s.onPwm n f).tap = s.tap := rfl
@[simp] theorem State.onPwm_die (s : State) (n : Fin 8) (f : Pwm → Pwm) : (s.onPwm n f).die = s.die := rfl
@[simp] theorem State.onPwm_garnet (s : State) (n : Fin 8) (f : Pwm → Pwm) : (s.onPwm n f).garnet = s.garnet := rfl
@[simp] theorem State.onPwm_slog (s : State) (n : Fin 8) (f : Pwm → Pwm) : (s.onPwm n f).slog = s.slog := rfl
@[simp] theorem State.onPwm_fab (s : State) (n : Fin 8) (f : Pwm → Pwm) : (s.onPwm n f).fab = s.fab := rfl
@[simp] theorem State.onPwm_clk (s : State) (n : Fin 8) (f : Pwm → Pwm) : (s.onPwm n f).clk = s.clk := rfl
@[simp] theorem State.onPwm_rst (s : State) (n : Fin 8) (f : Pwm → Pwm) : (s.onPwm n f).rst = s.rst := rfl
@[simp] theorem State.onPwm_vbat (s : State) (n : Fin 8) (f : Pwm → Pwm) : (s.onPwm n f).vbat = s.vbat := rfl
@[simp] theorem State.onPwm_recd (s : State) (n : Fin 8) (f : Pwm → Pwm) : (s.onPwm n f).recd = s.recd := rfl
@[simp] theorem State.onPwm_jrn (s : State) (n : Fin 8) (f : Pwm → Pwm) : (s.onPwm n f).jrn = s.jrn := rfl
@[simp] theorem State.onPwm_jwBase (s : State) (n : Fin 8) (f : Pwm → Pwm) : (s.onPwm n f).jwBase = s.jwBase := rfl
@[simp] theorem State.onPwm_nor (s : State) (n : Fin 8) (f : Pwm → Pwm) : (s.onPwm n f).nor = s.nor := rfl
@[simp] theorem State.onPwm_img (s : State) (n : Fin 8) (f : Pwm → Pwm) : (s.onPwm n f).img = s.img := rfl
@[simp] theorem State.onPwm_com (s : State) (n : Fin 8) (f : Pwm → Pwm) : (s.onPwm n f).com = s.com := rfl
@[simp] theorem State.onPwm_shadow (s : State) (n : Fin 8) (f : Pwm → Pwm) : (s.onPwm n f).shadow = s.shadow := rfl
@[simp] theorem State.onPwm_fw (s : State) (n : Fin 8) (f : Pwm → Pwm) : (s.onPwm n f).fw = s.fw := rfl
@[simp] theorem State.onPwm_av (s : State) (n : Fin 8) (f : Pwm → Pwm) : (s.onPwm n f).av = s.av := rfl
@[simp] theorem State.onPwm_cap (s : State) (n : Fin 8) (f : Pwm → Pwm) : (s.onPwm n f).cap = s.cap := rfl
@[simp] theorem State.onPwm_eth (s : State) (n : Fin 8) (f : Pwm → Pwm) : (s.onPwm n f).eth = s.eth := rfl
@[simp] theorem State.onPwm_time (s : State) (n : Fin 8) (f : Pwm → Pwm) : (s.onPwm n f).time = s.time := rfl
@[simp] theorem State.onPwm_can (s : State) (n : Fin 8) (f : Pwm → Pwm) : (s.onPwm n f).can = s.can := rfl
@[simp] theorem State.onPwm_onyx (s : State) (n : Fin 8) (f : Pwm → Pwm) : (s.onPwm n f).onyx = s.onyx := rfl
@[simp] theorem State.onPwm_latches (s : State) (n : Fin 8) (f : Pwm → Pwm) : (s.onPwm n f).latches = s.latches := rfl

/-! ## `State.onLoop` -/

@[simp] theorem State.onLoop_pending (s : State) (m : Fin 4) (f : LoopSt → LoopSt) : (s.onLoop m f).pending = s.pending := rfl
@[simp] theorem State.onLoop_up (s : State) (m : Fin 4) (f : LoopSt → LoopSt) : (s.onLoop m f).up = s.up := rfl
@[simp] theorem State.onLoop_dev (s : State) (m : Fin 4) (f : LoopSt → LoopSt) : (s.onLoop m f).dev = s.dev := rfl
@[simp] theorem State.onLoop_devFrac (s : State) (m : Fin 4) (f : LoopSt → LoopSt) : (s.onLoop m f).devFrac = s.devFrac := rfl
@[simp] theorem State.onLoop_free (s : State) (m : Fin 4) (f : LoopSt → LoopSt) : (s.onLoop m f).free = s.free := rfl
@[simp] theorem State.onLoop_given (s : State) (m : Fin 4) (f : LoopSt → LoopSt) : (s.onLoop m f).given = s.given := rfl
@[simp] theorem State.onLoop_used (s : State) (m : Fin 4) (f : LoopSt → LoopSt) : (s.onLoop m f).used = s.used := rfl
@[simp] theorem State.onLoop_unarmedF (s : State) (m : Fin 4) (f : LoopSt → LoopSt) : (s.onLoop m f).unarmedF = s.unarmedF := rfl
@[simp] theorem State.onLoop_cells (s : State) (m : Fin 4) (f : LoopSt → LoopSt) : (s.onLoop m f).cells = s.cells := rfl
@[simp] theorem State.onLoop_hk (s : State) (m : Fin 4) (f : LoopSt → LoopSt) : (s.onLoop m f).hk = s.hk := rfl
@[simp] theorem State.onLoop_pwm (s : State) (m : Fin 4) (f : LoopSt → LoopSt) : (s.onLoop m f).pwm = s.pwm := rfl
@[simp] theorem State.onLoop_loops (s : State) (m : Fin 4) (f : LoopSt → LoopSt) : (s.onLoop m f).loops = vmod s.loops m f := rfl
@[simp] theorem State.onLoop_posIf (s : State) (m : Fin 4) (f : LoopSt → LoopSt) : (s.onLoop m f).posIf = s.posIf := rfl
@[simp] theorem State.onLoop_start (s : State) (m : Fin 4) (f : LoopSt → LoopSt) : (s.onLoop m f).start = s.start := rfl
@[simp] theorem State.onLoop_spc (s : State) (m : Fin 4) (f : LoopSt → LoopSt) : (s.onLoop m f).spc = s.spc := rfl
@[simp] theorem State.onLoop_cmd (s : State) (m : Fin 4) (f : LoopSt → LoopSt) : (s.onLoop m f).cmd = s.cmd := rfl
@[simp] theorem State.onLoop_outer (s : State) (m : Fin 4) (f : LoopSt → LoopSt) : (s.onLoop m f).outer = s.outer := rfl
@[simp] theorem State.onLoop_brake (s : State) (m : Fin 4) (f : LoopSt → LoopSt) : (s.onLoop m f).brake = s.brake := rfl
@[simp] theorem State.onLoop_armed (s : State) (m : Fin 4) (f : LoopSt → LoopSt) : (s.onLoop m f).armed = s.armed := rfl
@[simp] theorem State.onLoop_disarmed (s : State) (m : Fin 4) (f : LoopSt → LoopSt) : (s.onLoop m f).disarmed = s.disarmed := rfl
@[simp] theorem State.onLoop_mapBad (s : State) (m : Fin 4) (f : LoopSt → LoopSt) : (s.onLoop m f).mapBad = s.mapBad := rfl
@[simp] theorem State.onLoop_badChk (s : State) (m : Fin 4) (f : LoopSt → LoopSt) : (s.onLoop m f).badChk = s.badChk := rfl
@[simp] theorem State.onLoop_axes (s : State) (m : Fin 4) (f : LoopSt → LoopSt) : (s.onLoop m f).axes = s.axes := rfl
@[simp] theorem State.onLoop_moGen (s : State) (m : Fin 4) (f : LoopSt → LoopSt) : (s.onLoop m f).moGen = s.moGen := rfl
@[simp] theorem State.onLoop_shock (s : State) (m : Fin 4) (f : LoopSt → LoopSt) : (s.onLoop m f).shock = s.shock := rfl
@[simp] theorem State.onLoop_heave (s : State) (m : Fin 4) (f : LoopSt → LoopSt) : (s.onLoop m f).heave = s.heave := rfl
@[simp] theorem State.onLoop_hist (s : State) (m : Fin 4) (f : LoopSt → LoopSt) : (s.onLoop m f).hist = s.hist := rfl
@[simp] theorem State.onLoop_ring (s : State) (m : Fin 4) (f : LoopSt → LoopSt) : (s.onLoop m f).ring = s.ring := rfl
@[simp] theorem State.onLoop_em (s : State) (m : Fin 4) (f : LoopSt → LoopSt) : (s.onLoop m f).em = s.em := rfl
@[simp] theorem State.onLoop_reacts (s : State) (m : Fin 4) (f : LoopSt → LoopSt) : (s.onLoop m f).reacts = s.reacts := rfl
@[simp] theorem State.onLoop_chan (s : State) (m : Fin 4) (f : LoopSt → LoopSt) : (s.onLoop m f).chan = s.chan := rfl
@[simp] theorem State.onLoop_br (s : State) (m : Fin 4) (f : LoopSt → LoopSt) : (s.onLoop m f).br = s.br := rfl
@[simp] theorem State.onLoop_cmp (s : State) (m : Fin 4) (f : LoopSt → LoopSt) : (s.onLoop m f).cmp = s.cmp := rfl
@[simp] theorem State.onLoop_chop (s : State) (m : Fin 4) (f : LoopSt → LoopSt) : (s.onLoop m f).chop = s.chop := rfl
@[simp] theorem State.onLoop_wind (s : State) (m : Fin 4) (f : LoopSt → LoopSt) : (s.onLoop m f).wind = s.wind := rfl
@[simp] theorem State.onLoop_stest (s : State) (m : Fin 4) (f : LoopSt → LoopSt) : (s.onLoop m f).stest = s.stest := rfl
@[simp] theorem State.onLoop_tap (s : State) (m : Fin 4) (f : LoopSt → LoopSt) : (s.onLoop m f).tap = s.tap := rfl
@[simp] theorem State.onLoop_die (s : State) (m : Fin 4) (f : LoopSt → LoopSt) : (s.onLoop m f).die = s.die := rfl
@[simp] theorem State.onLoop_garnet (s : State) (m : Fin 4) (f : LoopSt → LoopSt) : (s.onLoop m f).garnet = s.garnet := rfl
@[simp] theorem State.onLoop_slog (s : State) (m : Fin 4) (f : LoopSt → LoopSt) : (s.onLoop m f).slog = s.slog := rfl
@[simp] theorem State.onLoop_fab (s : State) (m : Fin 4) (f : LoopSt → LoopSt) : (s.onLoop m f).fab = s.fab := rfl
@[simp] theorem State.onLoop_clk (s : State) (m : Fin 4) (f : LoopSt → LoopSt) : (s.onLoop m f).clk = s.clk := rfl
@[simp] theorem State.onLoop_rst (s : State) (m : Fin 4) (f : LoopSt → LoopSt) : (s.onLoop m f).rst = s.rst := rfl
@[simp] theorem State.onLoop_vbat (s : State) (m : Fin 4) (f : LoopSt → LoopSt) : (s.onLoop m f).vbat = s.vbat := rfl
@[simp] theorem State.onLoop_recd (s : State) (m : Fin 4) (f : LoopSt → LoopSt) : (s.onLoop m f).recd = s.recd := rfl
@[simp] theorem State.onLoop_jrn (s : State) (m : Fin 4) (f : LoopSt → LoopSt) : (s.onLoop m f).jrn = s.jrn := rfl
@[simp] theorem State.onLoop_jwBase (s : State) (m : Fin 4) (f : LoopSt → LoopSt) : (s.onLoop m f).jwBase = s.jwBase := rfl
@[simp] theorem State.onLoop_nor (s : State) (m : Fin 4) (f : LoopSt → LoopSt) : (s.onLoop m f).nor = s.nor := rfl
@[simp] theorem State.onLoop_img (s : State) (m : Fin 4) (f : LoopSt → LoopSt) : (s.onLoop m f).img = s.img := rfl
@[simp] theorem State.onLoop_com (s : State) (m : Fin 4) (f : LoopSt → LoopSt) : (s.onLoop m f).com = s.com := rfl
@[simp] theorem State.onLoop_shadow (s : State) (m : Fin 4) (f : LoopSt → LoopSt) : (s.onLoop m f).shadow = s.shadow := rfl
@[simp] theorem State.onLoop_fw (s : State) (m : Fin 4) (f : LoopSt → LoopSt) : (s.onLoop m f).fw = s.fw := rfl
@[simp] theorem State.onLoop_av (s : State) (m : Fin 4) (f : LoopSt → LoopSt) : (s.onLoop m f).av = s.av := rfl
@[simp] theorem State.onLoop_cap (s : State) (m : Fin 4) (f : LoopSt → LoopSt) : (s.onLoop m f).cap = s.cap := rfl
@[simp] theorem State.onLoop_eth (s : State) (m : Fin 4) (f : LoopSt → LoopSt) : (s.onLoop m f).eth = s.eth := rfl
@[simp] theorem State.onLoop_time (s : State) (m : Fin 4) (f : LoopSt → LoopSt) : (s.onLoop m f).time = s.time := rfl
@[simp] theorem State.onLoop_can (s : State) (m : Fin 4) (f : LoopSt → LoopSt) : (s.onLoop m f).can = s.can := rfl
@[simp] theorem State.onLoop_onyx (s : State) (m : Fin 4) (f : LoopSt → LoopSt) : (s.onLoop m f).onyx = s.onyx := rfl
@[simp] theorem State.onLoop_latches (s : State) (m : Fin 4) (f : LoopSt → LoopSt) : (s.onLoop m f).latches = s.latches := rfl

/-! ## `State.onPi` -/

@[simp] theorem State.onPi_pending (s : State) (k : Fin 8) (f : PosIf → PosIf) : (s.onPi k f).pending = s.pending := rfl
@[simp] theorem State.onPi_up (s : State) (k : Fin 8) (f : PosIf → PosIf) : (s.onPi k f).up = s.up := rfl
@[simp] theorem State.onPi_dev (s : State) (k : Fin 8) (f : PosIf → PosIf) : (s.onPi k f).dev = s.dev := rfl
@[simp] theorem State.onPi_devFrac (s : State) (k : Fin 8) (f : PosIf → PosIf) : (s.onPi k f).devFrac = s.devFrac := rfl
@[simp] theorem State.onPi_free (s : State) (k : Fin 8) (f : PosIf → PosIf) : (s.onPi k f).free = s.free := rfl
@[simp] theorem State.onPi_given (s : State) (k : Fin 8) (f : PosIf → PosIf) : (s.onPi k f).given = s.given := rfl
@[simp] theorem State.onPi_used (s : State) (k : Fin 8) (f : PosIf → PosIf) : (s.onPi k f).used = s.used := rfl
@[simp] theorem State.onPi_unarmedF (s : State) (k : Fin 8) (f : PosIf → PosIf) : (s.onPi k f).unarmedF = s.unarmedF := rfl
@[simp] theorem State.onPi_cells (s : State) (k : Fin 8) (f : PosIf → PosIf) : (s.onPi k f).cells = s.cells := rfl
@[simp] theorem State.onPi_hk (s : State) (k : Fin 8) (f : PosIf → PosIf) : (s.onPi k f).hk = s.hk := rfl
@[simp] theorem State.onPi_pwm (s : State) (k : Fin 8) (f : PosIf → PosIf) : (s.onPi k f).pwm = s.pwm := rfl
@[simp] theorem State.onPi_loops (s : State) (k : Fin 8) (f : PosIf → PosIf) : (s.onPi k f).loops = s.loops := rfl
@[simp] theorem State.onPi_posIf (s : State) (k : Fin 8) (f : PosIf → PosIf) : (s.onPi k f).posIf = vmod s.posIf k f := rfl
@[simp] theorem State.onPi_start (s : State) (k : Fin 8) (f : PosIf → PosIf) : (s.onPi k f).start = s.start := rfl
@[simp] theorem State.onPi_spc (s : State) (k : Fin 8) (f : PosIf → PosIf) : (s.onPi k f).spc = s.spc := rfl
@[simp] theorem State.onPi_cmd (s : State) (k : Fin 8) (f : PosIf → PosIf) : (s.onPi k f).cmd = s.cmd := rfl
@[simp] theorem State.onPi_outer (s : State) (k : Fin 8) (f : PosIf → PosIf) : (s.onPi k f).outer = s.outer := rfl
@[simp] theorem State.onPi_brake (s : State) (k : Fin 8) (f : PosIf → PosIf) : (s.onPi k f).brake = s.brake := rfl
@[simp] theorem State.onPi_armed (s : State) (k : Fin 8) (f : PosIf → PosIf) : (s.onPi k f).armed = s.armed := rfl
@[simp] theorem State.onPi_disarmed (s : State) (k : Fin 8) (f : PosIf → PosIf) : (s.onPi k f).disarmed = s.disarmed := rfl
@[simp] theorem State.onPi_mapBad (s : State) (k : Fin 8) (f : PosIf → PosIf) : (s.onPi k f).mapBad = s.mapBad := rfl
@[simp] theorem State.onPi_badChk (s : State) (k : Fin 8) (f : PosIf → PosIf) : (s.onPi k f).badChk = s.badChk := rfl
@[simp] theorem State.onPi_axes (s : State) (k : Fin 8) (f : PosIf → PosIf) : (s.onPi k f).axes = s.axes := rfl
@[simp] theorem State.onPi_moGen (s : State) (k : Fin 8) (f : PosIf → PosIf) : (s.onPi k f).moGen = s.moGen := rfl
@[simp] theorem State.onPi_shock (s : State) (k : Fin 8) (f : PosIf → PosIf) : (s.onPi k f).shock = s.shock := rfl
@[simp] theorem State.onPi_heave (s : State) (k : Fin 8) (f : PosIf → PosIf) : (s.onPi k f).heave = s.heave := rfl
@[simp] theorem State.onPi_hist (s : State) (k : Fin 8) (f : PosIf → PosIf) : (s.onPi k f).hist = s.hist := rfl
@[simp] theorem State.onPi_ring (s : State) (k : Fin 8) (f : PosIf → PosIf) : (s.onPi k f).ring = s.ring := rfl
@[simp] theorem State.onPi_em (s : State) (k : Fin 8) (f : PosIf → PosIf) : (s.onPi k f).em = s.em := rfl
@[simp] theorem State.onPi_reacts (s : State) (k : Fin 8) (f : PosIf → PosIf) : (s.onPi k f).reacts = s.reacts := rfl
@[simp] theorem State.onPi_chan (s : State) (k : Fin 8) (f : PosIf → PosIf) : (s.onPi k f).chan = s.chan := rfl
@[simp] theorem State.onPi_br (s : State) (k : Fin 8) (f : PosIf → PosIf) : (s.onPi k f).br = s.br := rfl
@[simp] theorem State.onPi_cmp (s : State) (k : Fin 8) (f : PosIf → PosIf) : (s.onPi k f).cmp = s.cmp := rfl
@[simp] theorem State.onPi_chop (s : State) (k : Fin 8) (f : PosIf → PosIf) : (s.onPi k f).chop = s.chop := rfl
@[simp] theorem State.onPi_wind (s : State) (k : Fin 8) (f : PosIf → PosIf) : (s.onPi k f).wind = s.wind := rfl
@[simp] theorem State.onPi_stest (s : State) (k : Fin 8) (f : PosIf → PosIf) : (s.onPi k f).stest = s.stest := rfl
@[simp] theorem State.onPi_tap (s : State) (k : Fin 8) (f : PosIf → PosIf) : (s.onPi k f).tap = s.tap := rfl
@[simp] theorem State.onPi_die (s : State) (k : Fin 8) (f : PosIf → PosIf) : (s.onPi k f).die = s.die := rfl
@[simp] theorem State.onPi_garnet (s : State) (k : Fin 8) (f : PosIf → PosIf) : (s.onPi k f).garnet = s.garnet := rfl
@[simp] theorem State.onPi_slog (s : State) (k : Fin 8) (f : PosIf → PosIf) : (s.onPi k f).slog = s.slog := rfl
@[simp] theorem State.onPi_fab (s : State) (k : Fin 8) (f : PosIf → PosIf) : (s.onPi k f).fab = s.fab := rfl
@[simp] theorem State.onPi_clk (s : State) (k : Fin 8) (f : PosIf → PosIf) : (s.onPi k f).clk = s.clk := rfl
@[simp] theorem State.onPi_rst (s : State) (k : Fin 8) (f : PosIf → PosIf) : (s.onPi k f).rst = s.rst := rfl
@[simp] theorem State.onPi_vbat (s : State) (k : Fin 8) (f : PosIf → PosIf) : (s.onPi k f).vbat = s.vbat := rfl
@[simp] theorem State.onPi_recd (s : State) (k : Fin 8) (f : PosIf → PosIf) : (s.onPi k f).recd = s.recd := rfl
@[simp] theorem State.onPi_jrn (s : State) (k : Fin 8) (f : PosIf → PosIf) : (s.onPi k f).jrn = s.jrn := rfl
@[simp] theorem State.onPi_jwBase (s : State) (k : Fin 8) (f : PosIf → PosIf) : (s.onPi k f).jwBase = s.jwBase := rfl
@[simp] theorem State.onPi_nor (s : State) (k : Fin 8) (f : PosIf → PosIf) : (s.onPi k f).nor = s.nor := rfl
@[simp] theorem State.onPi_img (s : State) (k : Fin 8) (f : PosIf → PosIf) : (s.onPi k f).img = s.img := rfl
@[simp] theorem State.onPi_com (s : State) (k : Fin 8) (f : PosIf → PosIf) : (s.onPi k f).com = s.com := rfl
@[simp] theorem State.onPi_shadow (s : State) (k : Fin 8) (f : PosIf → PosIf) : (s.onPi k f).shadow = s.shadow := rfl
@[simp] theorem State.onPi_fw (s : State) (k : Fin 8) (f : PosIf → PosIf) : (s.onPi k f).fw = s.fw := rfl
@[simp] theorem State.onPi_av (s : State) (k : Fin 8) (f : PosIf → PosIf) : (s.onPi k f).av = s.av := rfl
@[simp] theorem State.onPi_cap (s : State) (k : Fin 8) (f : PosIf → PosIf) : (s.onPi k f).cap = s.cap := rfl
@[simp] theorem State.onPi_eth (s : State) (k : Fin 8) (f : PosIf → PosIf) : (s.onPi k f).eth = s.eth := rfl
@[simp] theorem State.onPi_time (s : State) (k : Fin 8) (f : PosIf → PosIf) : (s.onPi k f).time = s.time := rfl
@[simp] theorem State.onPi_can (s : State) (k : Fin 8) (f : PosIf → PosIf) : (s.onPi k f).can = s.can := rfl
@[simp] theorem State.onPi_onyx (s : State) (k : Fin 8) (f : PosIf → PosIf) : (s.onPi k f).onyx = s.onyx := rfl
@[simp] theorem State.onPi_latches (s : State) (k : Fin 8) (f : PosIf → PosIf) : (s.onPi k f).latches = s.latches := rfl

/-! ## `State.onStart` -/

@[simp] theorem State.onStart_pending (s : State) (m : Fin 4) (f : Start → Start) : (s.onStart m f).pending = s.pending := rfl
@[simp] theorem State.onStart_up (s : State) (m : Fin 4) (f : Start → Start) : (s.onStart m f).up = s.up := rfl
@[simp] theorem State.onStart_dev (s : State) (m : Fin 4) (f : Start → Start) : (s.onStart m f).dev = s.dev := rfl
@[simp] theorem State.onStart_devFrac (s : State) (m : Fin 4) (f : Start → Start) : (s.onStart m f).devFrac = s.devFrac := rfl
@[simp] theorem State.onStart_free (s : State) (m : Fin 4) (f : Start → Start) : (s.onStart m f).free = s.free := rfl
@[simp] theorem State.onStart_given (s : State) (m : Fin 4) (f : Start → Start) : (s.onStart m f).given = s.given := rfl
@[simp] theorem State.onStart_used (s : State) (m : Fin 4) (f : Start → Start) : (s.onStart m f).used = s.used := rfl
@[simp] theorem State.onStart_unarmedF (s : State) (m : Fin 4) (f : Start → Start) : (s.onStart m f).unarmedF = s.unarmedF := rfl
@[simp] theorem State.onStart_cells (s : State) (m : Fin 4) (f : Start → Start) : (s.onStart m f).cells = s.cells := rfl
@[simp] theorem State.onStart_hk (s : State) (m : Fin 4) (f : Start → Start) : (s.onStart m f).hk = s.hk := rfl
@[simp] theorem State.onStart_pwm (s : State) (m : Fin 4) (f : Start → Start) : (s.onStart m f).pwm = s.pwm := rfl
@[simp] theorem State.onStart_loops (s : State) (m : Fin 4) (f : Start → Start) : (s.onStart m f).loops = s.loops := rfl
@[simp] theorem State.onStart_posIf (s : State) (m : Fin 4) (f : Start → Start) : (s.onStart m f).posIf = s.posIf := rfl
@[simp] theorem State.onStart_start (s : State) (m : Fin 4) (f : Start → Start) : (s.onStart m f).start = vmod s.start m f := rfl
@[simp] theorem State.onStart_spc (s : State) (m : Fin 4) (f : Start → Start) : (s.onStart m f).spc = s.spc := rfl
@[simp] theorem State.onStart_cmd (s : State) (m : Fin 4) (f : Start → Start) : (s.onStart m f).cmd = s.cmd := rfl
@[simp] theorem State.onStart_outer (s : State) (m : Fin 4) (f : Start → Start) : (s.onStart m f).outer = s.outer := rfl
@[simp] theorem State.onStart_brake (s : State) (m : Fin 4) (f : Start → Start) : (s.onStart m f).brake = s.brake := rfl
@[simp] theorem State.onStart_armed (s : State) (m : Fin 4) (f : Start → Start) : (s.onStart m f).armed = s.armed := rfl
@[simp] theorem State.onStart_disarmed (s : State) (m : Fin 4) (f : Start → Start) : (s.onStart m f).disarmed = s.disarmed := rfl
@[simp] theorem State.onStart_mapBad (s : State) (m : Fin 4) (f : Start → Start) : (s.onStart m f).mapBad = s.mapBad := rfl
@[simp] theorem State.onStart_badChk (s : State) (m : Fin 4) (f : Start → Start) : (s.onStart m f).badChk = s.badChk := rfl
@[simp] theorem State.onStart_axes (s : State) (m : Fin 4) (f : Start → Start) : (s.onStart m f).axes = s.axes := rfl
@[simp] theorem State.onStart_moGen (s : State) (m : Fin 4) (f : Start → Start) : (s.onStart m f).moGen = s.moGen := rfl
@[simp] theorem State.onStart_shock (s : State) (m : Fin 4) (f : Start → Start) : (s.onStart m f).shock = s.shock := rfl
@[simp] theorem State.onStart_heave (s : State) (m : Fin 4) (f : Start → Start) : (s.onStart m f).heave = s.heave := rfl
@[simp] theorem State.onStart_hist (s : State) (m : Fin 4) (f : Start → Start) : (s.onStart m f).hist = s.hist := rfl
@[simp] theorem State.onStart_ring (s : State) (m : Fin 4) (f : Start → Start) : (s.onStart m f).ring = s.ring := rfl
@[simp] theorem State.onStart_em (s : State) (m : Fin 4) (f : Start → Start) : (s.onStart m f).em = s.em := rfl
@[simp] theorem State.onStart_reacts (s : State) (m : Fin 4) (f : Start → Start) : (s.onStart m f).reacts = s.reacts := rfl
@[simp] theorem State.onStart_chan (s : State) (m : Fin 4) (f : Start → Start) : (s.onStart m f).chan = s.chan := rfl
@[simp] theorem State.onStart_br (s : State) (m : Fin 4) (f : Start → Start) : (s.onStart m f).br = s.br := rfl
@[simp] theorem State.onStart_cmp (s : State) (m : Fin 4) (f : Start → Start) : (s.onStart m f).cmp = s.cmp := rfl
@[simp] theorem State.onStart_chop (s : State) (m : Fin 4) (f : Start → Start) : (s.onStart m f).chop = s.chop := rfl
@[simp] theorem State.onStart_wind (s : State) (m : Fin 4) (f : Start → Start) : (s.onStart m f).wind = s.wind := rfl
@[simp] theorem State.onStart_stest (s : State) (m : Fin 4) (f : Start → Start) : (s.onStart m f).stest = s.stest := rfl
@[simp] theorem State.onStart_tap (s : State) (m : Fin 4) (f : Start → Start) : (s.onStart m f).tap = s.tap := rfl
@[simp] theorem State.onStart_die (s : State) (m : Fin 4) (f : Start → Start) : (s.onStart m f).die = s.die := rfl
@[simp] theorem State.onStart_garnet (s : State) (m : Fin 4) (f : Start → Start) : (s.onStart m f).garnet = s.garnet := rfl
@[simp] theorem State.onStart_slog (s : State) (m : Fin 4) (f : Start → Start) : (s.onStart m f).slog = s.slog := rfl
@[simp] theorem State.onStart_fab (s : State) (m : Fin 4) (f : Start → Start) : (s.onStart m f).fab = s.fab := rfl
@[simp] theorem State.onStart_clk (s : State) (m : Fin 4) (f : Start → Start) : (s.onStart m f).clk = s.clk := rfl
@[simp] theorem State.onStart_rst (s : State) (m : Fin 4) (f : Start → Start) : (s.onStart m f).rst = s.rst := rfl
@[simp] theorem State.onStart_vbat (s : State) (m : Fin 4) (f : Start → Start) : (s.onStart m f).vbat = s.vbat := rfl
@[simp] theorem State.onStart_recd (s : State) (m : Fin 4) (f : Start → Start) : (s.onStart m f).recd = s.recd := rfl
@[simp] theorem State.onStart_jrn (s : State) (m : Fin 4) (f : Start → Start) : (s.onStart m f).jrn = s.jrn := rfl
@[simp] theorem State.onStart_jwBase (s : State) (m : Fin 4) (f : Start → Start) : (s.onStart m f).jwBase = s.jwBase := rfl
@[simp] theorem State.onStart_nor (s : State) (m : Fin 4) (f : Start → Start) : (s.onStart m f).nor = s.nor := rfl
@[simp] theorem State.onStart_img (s : State) (m : Fin 4) (f : Start → Start) : (s.onStart m f).img = s.img := rfl
@[simp] theorem State.onStart_com (s : State) (m : Fin 4) (f : Start → Start) : (s.onStart m f).com = s.com := rfl
@[simp] theorem State.onStart_shadow (s : State) (m : Fin 4) (f : Start → Start) : (s.onStart m f).shadow = s.shadow := rfl
@[simp] theorem State.onStart_fw (s : State) (m : Fin 4) (f : Start → Start) : (s.onStart m f).fw = s.fw := rfl
@[simp] theorem State.onStart_av (s : State) (m : Fin 4) (f : Start → Start) : (s.onStart m f).av = s.av := rfl
@[simp] theorem State.onStart_cap (s : State) (m : Fin 4) (f : Start → Start) : (s.onStart m f).cap = s.cap := rfl
@[simp] theorem State.onStart_eth (s : State) (m : Fin 4) (f : Start → Start) : (s.onStart m f).eth = s.eth := rfl
@[simp] theorem State.onStart_time (s : State) (m : Fin 4) (f : Start → Start) : (s.onStart m f).time = s.time := rfl
@[simp] theorem State.onStart_can (s : State) (m : Fin 4) (f : Start → Start) : (s.onStart m f).can = s.can := rfl
@[simp] theorem State.onStart_onyx (s : State) (m : Fin 4) (f : Start → Start) : (s.onStart m f).onyx = s.onyx := rfl
@[simp] theorem State.onStart_latches (s : State) (m : Fin 4) (f : Start → Start) : (s.onStart m f).latches = s.latches := rfl

/-! ## `State.onCmd` -/

@[simp] theorem State.onCmd_pending (s : State) (m : Fin 4) (f : Command → Command) : (s.onCmd m f).pending = s.pending := rfl
@[simp] theorem State.onCmd_up (s : State) (m : Fin 4) (f : Command → Command) : (s.onCmd m f).up = s.up := rfl
@[simp] theorem State.onCmd_dev (s : State) (m : Fin 4) (f : Command → Command) : (s.onCmd m f).dev = s.dev := rfl
@[simp] theorem State.onCmd_devFrac (s : State) (m : Fin 4) (f : Command → Command) : (s.onCmd m f).devFrac = s.devFrac := rfl
@[simp] theorem State.onCmd_free (s : State) (m : Fin 4) (f : Command → Command) : (s.onCmd m f).free = s.free := rfl
@[simp] theorem State.onCmd_given (s : State) (m : Fin 4) (f : Command → Command) : (s.onCmd m f).given = s.given := rfl
@[simp] theorem State.onCmd_used (s : State) (m : Fin 4) (f : Command → Command) : (s.onCmd m f).used = s.used := rfl
@[simp] theorem State.onCmd_unarmedF (s : State) (m : Fin 4) (f : Command → Command) : (s.onCmd m f).unarmedF = s.unarmedF := rfl
@[simp] theorem State.onCmd_cells (s : State) (m : Fin 4) (f : Command → Command) : (s.onCmd m f).cells = s.cells := rfl
@[simp] theorem State.onCmd_hk (s : State) (m : Fin 4) (f : Command → Command) : (s.onCmd m f).hk = s.hk := rfl
@[simp] theorem State.onCmd_pwm (s : State) (m : Fin 4) (f : Command → Command) : (s.onCmd m f).pwm = s.pwm := rfl
@[simp] theorem State.onCmd_loops (s : State) (m : Fin 4) (f : Command → Command) : (s.onCmd m f).loops = s.loops := rfl
@[simp] theorem State.onCmd_posIf (s : State) (m : Fin 4) (f : Command → Command) : (s.onCmd m f).posIf = s.posIf := rfl
@[simp] theorem State.onCmd_start (s : State) (m : Fin 4) (f : Command → Command) : (s.onCmd m f).start = s.start := rfl
@[simp] theorem State.onCmd_spc (s : State) (m : Fin 4) (f : Command → Command) : (s.onCmd m f).spc = s.spc := rfl
@[simp] theorem State.onCmd_cmd (s : State) (m : Fin 4) (f : Command → Command) : (s.onCmd m f).cmd = vmod s.cmd m f := rfl
@[simp] theorem State.onCmd_outer (s : State) (m : Fin 4) (f : Command → Command) : (s.onCmd m f).outer = s.outer := rfl
@[simp] theorem State.onCmd_brake (s : State) (m : Fin 4) (f : Command → Command) : (s.onCmd m f).brake = s.brake := rfl
@[simp] theorem State.onCmd_armed (s : State) (m : Fin 4) (f : Command → Command) : (s.onCmd m f).armed = s.armed := rfl
@[simp] theorem State.onCmd_disarmed (s : State) (m : Fin 4) (f : Command → Command) : (s.onCmd m f).disarmed = s.disarmed := rfl
@[simp] theorem State.onCmd_mapBad (s : State) (m : Fin 4) (f : Command → Command) : (s.onCmd m f).mapBad = s.mapBad := rfl
@[simp] theorem State.onCmd_badChk (s : State) (m : Fin 4) (f : Command → Command) : (s.onCmd m f).badChk = s.badChk := rfl
@[simp] theorem State.onCmd_axes (s : State) (m : Fin 4) (f : Command → Command) : (s.onCmd m f).axes = s.axes := rfl
@[simp] theorem State.onCmd_moGen (s : State) (m : Fin 4) (f : Command → Command) : (s.onCmd m f).moGen = s.moGen := rfl
@[simp] theorem State.onCmd_shock (s : State) (m : Fin 4) (f : Command → Command) : (s.onCmd m f).shock = s.shock := rfl
@[simp] theorem State.onCmd_heave (s : State) (m : Fin 4) (f : Command → Command) : (s.onCmd m f).heave = s.heave := rfl
@[simp] theorem State.onCmd_hist (s : State) (m : Fin 4) (f : Command → Command) : (s.onCmd m f).hist = s.hist := rfl
@[simp] theorem State.onCmd_ring (s : State) (m : Fin 4) (f : Command → Command) : (s.onCmd m f).ring = s.ring := rfl
@[simp] theorem State.onCmd_em (s : State) (m : Fin 4) (f : Command → Command) : (s.onCmd m f).em = s.em := rfl
@[simp] theorem State.onCmd_reacts (s : State) (m : Fin 4) (f : Command → Command) : (s.onCmd m f).reacts = s.reacts := rfl
@[simp] theorem State.onCmd_chan (s : State) (m : Fin 4) (f : Command → Command) : (s.onCmd m f).chan = s.chan := rfl
@[simp] theorem State.onCmd_br (s : State) (m : Fin 4) (f : Command → Command) : (s.onCmd m f).br = s.br := rfl
@[simp] theorem State.onCmd_cmp (s : State) (m : Fin 4) (f : Command → Command) : (s.onCmd m f).cmp = s.cmp := rfl
@[simp] theorem State.onCmd_chop (s : State) (m : Fin 4) (f : Command → Command) : (s.onCmd m f).chop = s.chop := rfl
@[simp] theorem State.onCmd_wind (s : State) (m : Fin 4) (f : Command → Command) : (s.onCmd m f).wind = s.wind := rfl
@[simp] theorem State.onCmd_stest (s : State) (m : Fin 4) (f : Command → Command) : (s.onCmd m f).stest = s.stest := rfl
@[simp] theorem State.onCmd_tap (s : State) (m : Fin 4) (f : Command → Command) : (s.onCmd m f).tap = s.tap := rfl
@[simp] theorem State.onCmd_die (s : State) (m : Fin 4) (f : Command → Command) : (s.onCmd m f).die = s.die := rfl
@[simp] theorem State.onCmd_garnet (s : State) (m : Fin 4) (f : Command → Command) : (s.onCmd m f).garnet = s.garnet := rfl
@[simp] theorem State.onCmd_slog (s : State) (m : Fin 4) (f : Command → Command) : (s.onCmd m f).slog = s.slog := rfl
@[simp] theorem State.onCmd_fab (s : State) (m : Fin 4) (f : Command → Command) : (s.onCmd m f).fab = s.fab := rfl
@[simp] theorem State.onCmd_clk (s : State) (m : Fin 4) (f : Command → Command) : (s.onCmd m f).clk = s.clk := rfl
@[simp] theorem State.onCmd_rst (s : State) (m : Fin 4) (f : Command → Command) : (s.onCmd m f).rst = s.rst := rfl
@[simp] theorem State.onCmd_vbat (s : State) (m : Fin 4) (f : Command → Command) : (s.onCmd m f).vbat = s.vbat := rfl
@[simp] theorem State.onCmd_recd (s : State) (m : Fin 4) (f : Command → Command) : (s.onCmd m f).recd = s.recd := rfl
@[simp] theorem State.onCmd_jrn (s : State) (m : Fin 4) (f : Command → Command) : (s.onCmd m f).jrn = s.jrn := rfl
@[simp] theorem State.onCmd_jwBase (s : State) (m : Fin 4) (f : Command → Command) : (s.onCmd m f).jwBase = s.jwBase := rfl
@[simp] theorem State.onCmd_nor (s : State) (m : Fin 4) (f : Command → Command) : (s.onCmd m f).nor = s.nor := rfl
@[simp] theorem State.onCmd_img (s : State) (m : Fin 4) (f : Command → Command) : (s.onCmd m f).img = s.img := rfl
@[simp] theorem State.onCmd_com (s : State) (m : Fin 4) (f : Command → Command) : (s.onCmd m f).com = s.com := rfl
@[simp] theorem State.onCmd_shadow (s : State) (m : Fin 4) (f : Command → Command) : (s.onCmd m f).shadow = s.shadow := rfl
@[simp] theorem State.onCmd_fw (s : State) (m : Fin 4) (f : Command → Command) : (s.onCmd m f).fw = s.fw := rfl
@[simp] theorem State.onCmd_av (s : State) (m : Fin 4) (f : Command → Command) : (s.onCmd m f).av = s.av := rfl
@[simp] theorem State.onCmd_cap (s : State) (m : Fin 4) (f : Command → Command) : (s.onCmd m f).cap = s.cap := rfl
@[simp] theorem State.onCmd_eth (s : State) (m : Fin 4) (f : Command → Command) : (s.onCmd m f).eth = s.eth := rfl
@[simp] theorem State.onCmd_time (s : State) (m : Fin 4) (f : Command → Command) : (s.onCmd m f).time = s.time := rfl
@[simp] theorem State.onCmd_can (s : State) (m : Fin 4) (f : Command → Command) : (s.onCmd m f).can = s.can := rfl
@[simp] theorem State.onCmd_onyx (s : State) (m : Fin 4) (f : Command → Command) : (s.onCmd m f).onyx = s.onyx := rfl
@[simp] theorem State.onCmd_latches (s : State) (m : Fin 4) (f : Command → Command) : (s.onCmd m f).latches = s.latches := rfl

/-! ## `State.onOuter` -/

@[simp] theorem State.onOuter_pending (s : State) (m : Fin 4) (f : Outer → Outer) : (s.onOuter m f).pending = s.pending := rfl
@[simp] theorem State.onOuter_up (s : State) (m : Fin 4) (f : Outer → Outer) : (s.onOuter m f).up = s.up := rfl
@[simp] theorem State.onOuter_dev (s : State) (m : Fin 4) (f : Outer → Outer) : (s.onOuter m f).dev = s.dev := rfl
@[simp] theorem State.onOuter_devFrac (s : State) (m : Fin 4) (f : Outer → Outer) : (s.onOuter m f).devFrac = s.devFrac := rfl
@[simp] theorem State.onOuter_free (s : State) (m : Fin 4) (f : Outer → Outer) : (s.onOuter m f).free = s.free := rfl
@[simp] theorem State.onOuter_given (s : State) (m : Fin 4) (f : Outer → Outer) : (s.onOuter m f).given = s.given := rfl
@[simp] theorem State.onOuter_used (s : State) (m : Fin 4) (f : Outer → Outer) : (s.onOuter m f).used = s.used := rfl
@[simp] theorem State.onOuter_unarmedF (s : State) (m : Fin 4) (f : Outer → Outer) : (s.onOuter m f).unarmedF = s.unarmedF := rfl
@[simp] theorem State.onOuter_cells (s : State) (m : Fin 4) (f : Outer → Outer) : (s.onOuter m f).cells = s.cells := rfl
@[simp] theorem State.onOuter_hk (s : State) (m : Fin 4) (f : Outer → Outer) : (s.onOuter m f).hk = s.hk := rfl
@[simp] theorem State.onOuter_pwm (s : State) (m : Fin 4) (f : Outer → Outer) : (s.onOuter m f).pwm = s.pwm := rfl
@[simp] theorem State.onOuter_loops (s : State) (m : Fin 4) (f : Outer → Outer) : (s.onOuter m f).loops = s.loops := rfl
@[simp] theorem State.onOuter_posIf (s : State) (m : Fin 4) (f : Outer → Outer) : (s.onOuter m f).posIf = s.posIf := rfl
@[simp] theorem State.onOuter_start (s : State) (m : Fin 4) (f : Outer → Outer) : (s.onOuter m f).start = s.start := rfl
@[simp] theorem State.onOuter_spc (s : State) (m : Fin 4) (f : Outer → Outer) : (s.onOuter m f).spc = s.spc := rfl
@[simp] theorem State.onOuter_cmd (s : State) (m : Fin 4) (f : Outer → Outer) : (s.onOuter m f).cmd = s.cmd := rfl
@[simp] theorem State.onOuter_outer (s : State) (m : Fin 4) (f : Outer → Outer) : (s.onOuter m f).outer = vmod s.outer m f := rfl
@[simp] theorem State.onOuter_brake (s : State) (m : Fin 4) (f : Outer → Outer) : (s.onOuter m f).brake = s.brake := rfl
@[simp] theorem State.onOuter_armed (s : State) (m : Fin 4) (f : Outer → Outer) : (s.onOuter m f).armed = s.armed := rfl
@[simp] theorem State.onOuter_disarmed (s : State) (m : Fin 4) (f : Outer → Outer) : (s.onOuter m f).disarmed = s.disarmed := rfl
@[simp] theorem State.onOuter_mapBad (s : State) (m : Fin 4) (f : Outer → Outer) : (s.onOuter m f).mapBad = s.mapBad := rfl
@[simp] theorem State.onOuter_badChk (s : State) (m : Fin 4) (f : Outer → Outer) : (s.onOuter m f).badChk = s.badChk := rfl
@[simp] theorem State.onOuter_axes (s : State) (m : Fin 4) (f : Outer → Outer) : (s.onOuter m f).axes = s.axes := rfl
@[simp] theorem State.onOuter_moGen (s : State) (m : Fin 4) (f : Outer → Outer) : (s.onOuter m f).moGen = s.moGen := rfl
@[simp] theorem State.onOuter_shock (s : State) (m : Fin 4) (f : Outer → Outer) : (s.onOuter m f).shock = s.shock := rfl
@[simp] theorem State.onOuter_heave (s : State) (m : Fin 4) (f : Outer → Outer) : (s.onOuter m f).heave = s.heave := rfl
@[simp] theorem State.onOuter_hist (s : State) (m : Fin 4) (f : Outer → Outer) : (s.onOuter m f).hist = s.hist := rfl
@[simp] theorem State.onOuter_ring (s : State) (m : Fin 4) (f : Outer → Outer) : (s.onOuter m f).ring = s.ring := rfl
@[simp] theorem State.onOuter_em (s : State) (m : Fin 4) (f : Outer → Outer) : (s.onOuter m f).em = s.em := rfl
@[simp] theorem State.onOuter_reacts (s : State) (m : Fin 4) (f : Outer → Outer) : (s.onOuter m f).reacts = s.reacts := rfl
@[simp] theorem State.onOuter_chan (s : State) (m : Fin 4) (f : Outer → Outer) : (s.onOuter m f).chan = s.chan := rfl
@[simp] theorem State.onOuter_br (s : State) (m : Fin 4) (f : Outer → Outer) : (s.onOuter m f).br = s.br := rfl
@[simp] theorem State.onOuter_cmp (s : State) (m : Fin 4) (f : Outer → Outer) : (s.onOuter m f).cmp = s.cmp := rfl
@[simp] theorem State.onOuter_chop (s : State) (m : Fin 4) (f : Outer → Outer) : (s.onOuter m f).chop = s.chop := rfl
@[simp] theorem State.onOuter_wind (s : State) (m : Fin 4) (f : Outer → Outer) : (s.onOuter m f).wind = s.wind := rfl
@[simp] theorem State.onOuter_stest (s : State) (m : Fin 4) (f : Outer → Outer) : (s.onOuter m f).stest = s.stest := rfl
@[simp] theorem State.onOuter_tap (s : State) (m : Fin 4) (f : Outer → Outer) : (s.onOuter m f).tap = s.tap := rfl
@[simp] theorem State.onOuter_die (s : State) (m : Fin 4) (f : Outer → Outer) : (s.onOuter m f).die = s.die := rfl
@[simp] theorem State.onOuter_garnet (s : State) (m : Fin 4) (f : Outer → Outer) : (s.onOuter m f).garnet = s.garnet := rfl
@[simp] theorem State.onOuter_slog (s : State) (m : Fin 4) (f : Outer → Outer) : (s.onOuter m f).slog = s.slog := rfl
@[simp] theorem State.onOuter_fab (s : State) (m : Fin 4) (f : Outer → Outer) : (s.onOuter m f).fab = s.fab := rfl
@[simp] theorem State.onOuter_clk (s : State) (m : Fin 4) (f : Outer → Outer) : (s.onOuter m f).clk = s.clk := rfl
@[simp] theorem State.onOuter_rst (s : State) (m : Fin 4) (f : Outer → Outer) : (s.onOuter m f).rst = s.rst := rfl
@[simp] theorem State.onOuter_vbat (s : State) (m : Fin 4) (f : Outer → Outer) : (s.onOuter m f).vbat = s.vbat := rfl
@[simp] theorem State.onOuter_recd (s : State) (m : Fin 4) (f : Outer → Outer) : (s.onOuter m f).recd = s.recd := rfl
@[simp] theorem State.onOuter_jrn (s : State) (m : Fin 4) (f : Outer → Outer) : (s.onOuter m f).jrn = s.jrn := rfl
@[simp] theorem State.onOuter_jwBase (s : State) (m : Fin 4) (f : Outer → Outer) : (s.onOuter m f).jwBase = s.jwBase := rfl
@[simp] theorem State.onOuter_nor (s : State) (m : Fin 4) (f : Outer → Outer) : (s.onOuter m f).nor = s.nor := rfl
@[simp] theorem State.onOuter_img (s : State) (m : Fin 4) (f : Outer → Outer) : (s.onOuter m f).img = s.img := rfl
@[simp] theorem State.onOuter_com (s : State) (m : Fin 4) (f : Outer → Outer) : (s.onOuter m f).com = s.com := rfl
@[simp] theorem State.onOuter_shadow (s : State) (m : Fin 4) (f : Outer → Outer) : (s.onOuter m f).shadow = s.shadow := rfl
@[simp] theorem State.onOuter_fw (s : State) (m : Fin 4) (f : Outer → Outer) : (s.onOuter m f).fw = s.fw := rfl
@[simp] theorem State.onOuter_av (s : State) (m : Fin 4) (f : Outer → Outer) : (s.onOuter m f).av = s.av := rfl
@[simp] theorem State.onOuter_cap (s : State) (m : Fin 4) (f : Outer → Outer) : (s.onOuter m f).cap = s.cap := rfl
@[simp] theorem State.onOuter_eth (s : State) (m : Fin 4) (f : Outer → Outer) : (s.onOuter m f).eth = s.eth := rfl
@[simp] theorem State.onOuter_time (s : State) (m : Fin 4) (f : Outer → Outer) : (s.onOuter m f).time = s.time := rfl
@[simp] theorem State.onOuter_can (s : State) (m : Fin 4) (f : Outer → Outer) : (s.onOuter m f).can = s.can := rfl
@[simp] theorem State.onOuter_onyx (s : State) (m : Fin 4) (f : Outer → Outer) : (s.onOuter m f).onyx = s.onyx := rfl
@[simp] theorem State.onOuter_latches (s : State) (m : Fin 4) (f : Outer → Outer) : (s.onOuter m f).latches = s.latches := rfl

/-! ## `State.onBrake` -/

@[simp] theorem State.onBrake_pending (s : State) (m : Fin 4) (f : Brake → Brake) : (s.onBrake m f).pending = s.pending := rfl
@[simp] theorem State.onBrake_up (s : State) (m : Fin 4) (f : Brake → Brake) : (s.onBrake m f).up = s.up := rfl
@[simp] theorem State.onBrake_dev (s : State) (m : Fin 4) (f : Brake → Brake) : (s.onBrake m f).dev = s.dev := rfl
@[simp] theorem State.onBrake_devFrac (s : State) (m : Fin 4) (f : Brake → Brake) : (s.onBrake m f).devFrac = s.devFrac := rfl
@[simp] theorem State.onBrake_free (s : State) (m : Fin 4) (f : Brake → Brake) : (s.onBrake m f).free = s.free := rfl
@[simp] theorem State.onBrake_given (s : State) (m : Fin 4) (f : Brake → Brake) : (s.onBrake m f).given = s.given := rfl
@[simp] theorem State.onBrake_used (s : State) (m : Fin 4) (f : Brake → Brake) : (s.onBrake m f).used = s.used := rfl
@[simp] theorem State.onBrake_unarmedF (s : State) (m : Fin 4) (f : Brake → Brake) : (s.onBrake m f).unarmedF = s.unarmedF := rfl
@[simp] theorem State.onBrake_cells (s : State) (m : Fin 4) (f : Brake → Brake) : (s.onBrake m f).cells = s.cells := rfl
@[simp] theorem State.onBrake_hk (s : State) (m : Fin 4) (f : Brake → Brake) : (s.onBrake m f).hk = s.hk := rfl
@[simp] theorem State.onBrake_pwm (s : State) (m : Fin 4) (f : Brake → Brake) : (s.onBrake m f).pwm = s.pwm := rfl
@[simp] theorem State.onBrake_loops (s : State) (m : Fin 4) (f : Brake → Brake) : (s.onBrake m f).loops = s.loops := rfl
@[simp] theorem State.onBrake_posIf (s : State) (m : Fin 4) (f : Brake → Brake) : (s.onBrake m f).posIf = s.posIf := rfl
@[simp] theorem State.onBrake_start (s : State) (m : Fin 4) (f : Brake → Brake) : (s.onBrake m f).start = s.start := rfl
@[simp] theorem State.onBrake_spc (s : State) (m : Fin 4) (f : Brake → Brake) : (s.onBrake m f).spc = s.spc := rfl
@[simp] theorem State.onBrake_cmd (s : State) (m : Fin 4) (f : Brake → Brake) : (s.onBrake m f).cmd = s.cmd := rfl
@[simp] theorem State.onBrake_outer (s : State) (m : Fin 4) (f : Brake → Brake) : (s.onBrake m f).outer = s.outer := rfl
@[simp] theorem State.onBrake_brake (s : State) (m : Fin 4) (f : Brake → Brake) : (s.onBrake m f).brake = vmod s.brake m f := rfl
@[simp] theorem State.onBrake_armed (s : State) (m : Fin 4) (f : Brake → Brake) : (s.onBrake m f).armed = s.armed := rfl
@[simp] theorem State.onBrake_disarmed (s : State) (m : Fin 4) (f : Brake → Brake) : (s.onBrake m f).disarmed = s.disarmed := rfl
@[simp] theorem State.onBrake_mapBad (s : State) (m : Fin 4) (f : Brake → Brake) : (s.onBrake m f).mapBad = s.mapBad := rfl
@[simp] theorem State.onBrake_badChk (s : State) (m : Fin 4) (f : Brake → Brake) : (s.onBrake m f).badChk = s.badChk := rfl
@[simp] theorem State.onBrake_axes (s : State) (m : Fin 4) (f : Brake → Brake) : (s.onBrake m f).axes = s.axes := rfl
@[simp] theorem State.onBrake_moGen (s : State) (m : Fin 4) (f : Brake → Brake) : (s.onBrake m f).moGen = s.moGen := rfl
@[simp] theorem State.onBrake_shock (s : State) (m : Fin 4) (f : Brake → Brake) : (s.onBrake m f).shock = s.shock := rfl
@[simp] theorem State.onBrake_heave (s : State) (m : Fin 4) (f : Brake → Brake) : (s.onBrake m f).heave = s.heave := rfl
@[simp] theorem State.onBrake_hist (s : State) (m : Fin 4) (f : Brake → Brake) : (s.onBrake m f).hist = s.hist := rfl
@[simp] theorem State.onBrake_ring (s : State) (m : Fin 4) (f : Brake → Brake) : (s.onBrake m f).ring = s.ring := rfl
@[simp] theorem State.onBrake_em (s : State) (m : Fin 4) (f : Brake → Brake) : (s.onBrake m f).em = s.em := rfl
@[simp] theorem State.onBrake_reacts (s : State) (m : Fin 4) (f : Brake → Brake) : (s.onBrake m f).reacts = s.reacts := rfl
@[simp] theorem State.onBrake_chan (s : State) (m : Fin 4) (f : Brake → Brake) : (s.onBrake m f).chan = s.chan := rfl
@[simp] theorem State.onBrake_br (s : State) (m : Fin 4) (f : Brake → Brake) : (s.onBrake m f).br = s.br := rfl
@[simp] theorem State.onBrake_cmp (s : State) (m : Fin 4) (f : Brake → Brake) : (s.onBrake m f).cmp = s.cmp := rfl
@[simp] theorem State.onBrake_chop (s : State) (m : Fin 4) (f : Brake → Brake) : (s.onBrake m f).chop = s.chop := rfl
@[simp] theorem State.onBrake_wind (s : State) (m : Fin 4) (f : Brake → Brake) : (s.onBrake m f).wind = s.wind := rfl
@[simp] theorem State.onBrake_stest (s : State) (m : Fin 4) (f : Brake → Brake) : (s.onBrake m f).stest = s.stest := rfl
@[simp] theorem State.onBrake_tap (s : State) (m : Fin 4) (f : Brake → Brake) : (s.onBrake m f).tap = s.tap := rfl
@[simp] theorem State.onBrake_die (s : State) (m : Fin 4) (f : Brake → Brake) : (s.onBrake m f).die = s.die := rfl
@[simp] theorem State.onBrake_garnet (s : State) (m : Fin 4) (f : Brake → Brake) : (s.onBrake m f).garnet = s.garnet := rfl
@[simp] theorem State.onBrake_slog (s : State) (m : Fin 4) (f : Brake → Brake) : (s.onBrake m f).slog = s.slog := rfl
@[simp] theorem State.onBrake_fab (s : State) (m : Fin 4) (f : Brake → Brake) : (s.onBrake m f).fab = s.fab := rfl
@[simp] theorem State.onBrake_clk (s : State) (m : Fin 4) (f : Brake → Brake) : (s.onBrake m f).clk = s.clk := rfl
@[simp] theorem State.onBrake_rst (s : State) (m : Fin 4) (f : Brake → Brake) : (s.onBrake m f).rst = s.rst := rfl
@[simp] theorem State.onBrake_vbat (s : State) (m : Fin 4) (f : Brake → Brake) : (s.onBrake m f).vbat = s.vbat := rfl
@[simp] theorem State.onBrake_recd (s : State) (m : Fin 4) (f : Brake → Brake) : (s.onBrake m f).recd = s.recd := rfl
@[simp] theorem State.onBrake_jrn (s : State) (m : Fin 4) (f : Brake → Brake) : (s.onBrake m f).jrn = s.jrn := rfl
@[simp] theorem State.onBrake_jwBase (s : State) (m : Fin 4) (f : Brake → Brake) : (s.onBrake m f).jwBase = s.jwBase := rfl
@[simp] theorem State.onBrake_nor (s : State) (m : Fin 4) (f : Brake → Brake) : (s.onBrake m f).nor = s.nor := rfl
@[simp] theorem State.onBrake_img (s : State) (m : Fin 4) (f : Brake → Brake) : (s.onBrake m f).img = s.img := rfl
@[simp] theorem State.onBrake_com (s : State) (m : Fin 4) (f : Brake → Brake) : (s.onBrake m f).com = s.com := rfl
@[simp] theorem State.onBrake_shadow (s : State) (m : Fin 4) (f : Brake → Brake) : (s.onBrake m f).shadow = s.shadow := rfl
@[simp] theorem State.onBrake_fw (s : State) (m : Fin 4) (f : Brake → Brake) : (s.onBrake m f).fw = s.fw := rfl
@[simp] theorem State.onBrake_av (s : State) (m : Fin 4) (f : Brake → Brake) : (s.onBrake m f).av = s.av := rfl
@[simp] theorem State.onBrake_cap (s : State) (m : Fin 4) (f : Brake → Brake) : (s.onBrake m f).cap = s.cap := rfl
@[simp] theorem State.onBrake_eth (s : State) (m : Fin 4) (f : Brake → Brake) : (s.onBrake m f).eth = s.eth := rfl
@[simp] theorem State.onBrake_time (s : State) (m : Fin 4) (f : Brake → Brake) : (s.onBrake m f).time = s.time := rfl
@[simp] theorem State.onBrake_can (s : State) (m : Fin 4) (f : Brake → Brake) : (s.onBrake m f).can = s.can := rfl
@[simp] theorem State.onBrake_onyx (s : State) (m : Fin 4) (f : Brake → Brake) : (s.onBrake m f).onyx = s.onyx := rfl
@[simp] theorem State.onBrake_latches (s : State) (m : Fin 4) (f : Brake → Brake) : (s.onBrake m f).latches = s.latches := rfl

/-! ## `State.onAxis` -/

@[simp] theorem State.onAxis_pending (s : State) (k : Fin 8) (f : Axis → Axis) : (s.onAxis k f).pending = s.pending := rfl
@[simp] theorem State.onAxis_up (s : State) (k : Fin 8) (f : Axis → Axis) : (s.onAxis k f).up = s.up := rfl
@[simp] theorem State.onAxis_dev (s : State) (k : Fin 8) (f : Axis → Axis) : (s.onAxis k f).dev = s.dev := rfl
@[simp] theorem State.onAxis_devFrac (s : State) (k : Fin 8) (f : Axis → Axis) : (s.onAxis k f).devFrac = s.devFrac := rfl
@[simp] theorem State.onAxis_free (s : State) (k : Fin 8) (f : Axis → Axis) : (s.onAxis k f).free = s.free := rfl
@[simp] theorem State.onAxis_given (s : State) (k : Fin 8) (f : Axis → Axis) : (s.onAxis k f).given = s.given := rfl
@[simp] theorem State.onAxis_used (s : State) (k : Fin 8) (f : Axis → Axis) : (s.onAxis k f).used = s.used := rfl
@[simp] theorem State.onAxis_unarmedF (s : State) (k : Fin 8) (f : Axis → Axis) : (s.onAxis k f).unarmedF = s.unarmedF := rfl
@[simp] theorem State.onAxis_cells (s : State) (k : Fin 8) (f : Axis → Axis) : (s.onAxis k f).cells = s.cells := rfl
@[simp] theorem State.onAxis_hk (s : State) (k : Fin 8) (f : Axis → Axis) : (s.onAxis k f).hk = s.hk := rfl
@[simp] theorem State.onAxis_pwm (s : State) (k : Fin 8) (f : Axis → Axis) : (s.onAxis k f).pwm = s.pwm := rfl
@[simp] theorem State.onAxis_loops (s : State) (k : Fin 8) (f : Axis → Axis) : (s.onAxis k f).loops = s.loops := rfl
@[simp] theorem State.onAxis_posIf (s : State) (k : Fin 8) (f : Axis → Axis) : (s.onAxis k f).posIf = s.posIf := rfl
@[simp] theorem State.onAxis_start (s : State) (k : Fin 8) (f : Axis → Axis) : (s.onAxis k f).start = s.start := rfl
@[simp] theorem State.onAxis_spc (s : State) (k : Fin 8) (f : Axis → Axis) : (s.onAxis k f).spc = s.spc := rfl
@[simp] theorem State.onAxis_cmd (s : State) (k : Fin 8) (f : Axis → Axis) : (s.onAxis k f).cmd = s.cmd := rfl
@[simp] theorem State.onAxis_outer (s : State) (k : Fin 8) (f : Axis → Axis) : (s.onAxis k f).outer = s.outer := rfl
@[simp] theorem State.onAxis_brake (s : State) (k : Fin 8) (f : Axis → Axis) : (s.onAxis k f).brake = s.brake := rfl
@[simp] theorem State.onAxis_armed (s : State) (k : Fin 8) (f : Axis → Axis) : (s.onAxis k f).armed = s.armed := rfl
@[simp] theorem State.onAxis_disarmed (s : State) (k : Fin 8) (f : Axis → Axis) : (s.onAxis k f).disarmed = s.disarmed := rfl
@[simp] theorem State.onAxis_mapBad (s : State) (k : Fin 8) (f : Axis → Axis) : (s.onAxis k f).mapBad = s.mapBad := rfl
@[simp] theorem State.onAxis_badChk (s : State) (k : Fin 8) (f : Axis → Axis) : (s.onAxis k f).badChk = s.badChk := rfl
@[simp] theorem State.onAxis_axes (s : State) (k : Fin 8) (f : Axis → Axis) : (s.onAxis k f).axes = vmod s.axes k f := rfl
@[simp] theorem State.onAxis_moGen (s : State) (k : Fin 8) (f : Axis → Axis) : (s.onAxis k f).moGen = s.moGen := rfl
@[simp] theorem State.onAxis_shock (s : State) (k : Fin 8) (f : Axis → Axis) : (s.onAxis k f).shock = s.shock := rfl
@[simp] theorem State.onAxis_heave (s : State) (k : Fin 8) (f : Axis → Axis) : (s.onAxis k f).heave = s.heave := rfl
@[simp] theorem State.onAxis_hist (s : State) (k : Fin 8) (f : Axis → Axis) : (s.onAxis k f).hist = s.hist := rfl
@[simp] theorem State.onAxis_ring (s : State) (k : Fin 8) (f : Axis → Axis) : (s.onAxis k f).ring = s.ring := rfl
@[simp] theorem State.onAxis_em (s : State) (k : Fin 8) (f : Axis → Axis) : (s.onAxis k f).em = s.em := rfl
@[simp] theorem State.onAxis_reacts (s : State) (k : Fin 8) (f : Axis → Axis) : (s.onAxis k f).reacts = s.reacts := rfl
@[simp] theorem State.onAxis_chan (s : State) (k : Fin 8) (f : Axis → Axis) : (s.onAxis k f).chan = s.chan := rfl
@[simp] theorem State.onAxis_br (s : State) (k : Fin 8) (f : Axis → Axis) : (s.onAxis k f).br = s.br := rfl
@[simp] theorem State.onAxis_cmp (s : State) (k : Fin 8) (f : Axis → Axis) : (s.onAxis k f).cmp = s.cmp := rfl
@[simp] theorem State.onAxis_chop (s : State) (k : Fin 8) (f : Axis → Axis) : (s.onAxis k f).chop = s.chop := rfl
@[simp] theorem State.onAxis_wind (s : State) (k : Fin 8) (f : Axis → Axis) : (s.onAxis k f).wind = s.wind := rfl
@[simp] theorem State.onAxis_stest (s : State) (k : Fin 8) (f : Axis → Axis) : (s.onAxis k f).stest = s.stest := rfl
@[simp] theorem State.onAxis_tap (s : State) (k : Fin 8) (f : Axis → Axis) : (s.onAxis k f).tap = s.tap := rfl
@[simp] theorem State.onAxis_die (s : State) (k : Fin 8) (f : Axis → Axis) : (s.onAxis k f).die = s.die := rfl
@[simp] theorem State.onAxis_garnet (s : State) (k : Fin 8) (f : Axis → Axis) : (s.onAxis k f).garnet = s.garnet := rfl
@[simp] theorem State.onAxis_slog (s : State) (k : Fin 8) (f : Axis → Axis) : (s.onAxis k f).slog = s.slog := rfl
@[simp] theorem State.onAxis_fab (s : State) (k : Fin 8) (f : Axis → Axis) : (s.onAxis k f).fab = s.fab := rfl
@[simp] theorem State.onAxis_clk (s : State) (k : Fin 8) (f : Axis → Axis) : (s.onAxis k f).clk = s.clk := rfl
@[simp] theorem State.onAxis_rst (s : State) (k : Fin 8) (f : Axis → Axis) : (s.onAxis k f).rst = s.rst := rfl
@[simp] theorem State.onAxis_vbat (s : State) (k : Fin 8) (f : Axis → Axis) : (s.onAxis k f).vbat = s.vbat := rfl
@[simp] theorem State.onAxis_recd (s : State) (k : Fin 8) (f : Axis → Axis) : (s.onAxis k f).recd = s.recd := rfl
@[simp] theorem State.onAxis_jrn (s : State) (k : Fin 8) (f : Axis → Axis) : (s.onAxis k f).jrn = s.jrn := rfl
@[simp] theorem State.onAxis_jwBase (s : State) (k : Fin 8) (f : Axis → Axis) : (s.onAxis k f).jwBase = s.jwBase := rfl
@[simp] theorem State.onAxis_nor (s : State) (k : Fin 8) (f : Axis → Axis) : (s.onAxis k f).nor = s.nor := rfl
@[simp] theorem State.onAxis_img (s : State) (k : Fin 8) (f : Axis → Axis) : (s.onAxis k f).img = s.img := rfl
@[simp] theorem State.onAxis_com (s : State) (k : Fin 8) (f : Axis → Axis) : (s.onAxis k f).com = s.com := rfl
@[simp] theorem State.onAxis_shadow (s : State) (k : Fin 8) (f : Axis → Axis) : (s.onAxis k f).shadow = s.shadow := rfl
@[simp] theorem State.onAxis_fw (s : State) (k : Fin 8) (f : Axis → Axis) : (s.onAxis k f).fw = s.fw := rfl
@[simp] theorem State.onAxis_av (s : State) (k : Fin 8) (f : Axis → Axis) : (s.onAxis k f).av = s.av := rfl
@[simp] theorem State.onAxis_cap (s : State) (k : Fin 8) (f : Axis → Axis) : (s.onAxis k f).cap = s.cap := rfl
@[simp] theorem State.onAxis_eth (s : State) (k : Fin 8) (f : Axis → Axis) : (s.onAxis k f).eth = s.eth := rfl
@[simp] theorem State.onAxis_time (s : State) (k : Fin 8) (f : Axis → Axis) : (s.onAxis k f).time = s.time := rfl
@[simp] theorem State.onAxis_can (s : State) (k : Fin 8) (f : Axis → Axis) : (s.onAxis k f).can = s.can := rfl
@[simp] theorem State.onAxis_onyx (s : State) (k : Fin 8) (f : Axis → Axis) : (s.onAxis k f).onyx = s.onyx := rfl
@[simp] theorem State.onAxis_latches (s : State) (k : Fin 8) (f : Axis → Axis) : (s.onAxis k f).latches = s.latches := rfl

/-! ## `State.onGen` -/

@[simp] theorem State.onGen_pending (s : State) (m : Fin 4) (f : Gen → Gen) : (s.onGen m f).pending = s.pending := rfl
@[simp] theorem State.onGen_up (s : State) (m : Fin 4) (f : Gen → Gen) : (s.onGen m f).up = s.up := rfl
@[simp] theorem State.onGen_dev (s : State) (m : Fin 4) (f : Gen → Gen) : (s.onGen m f).dev = s.dev := rfl
@[simp] theorem State.onGen_devFrac (s : State) (m : Fin 4) (f : Gen → Gen) : (s.onGen m f).devFrac = s.devFrac := rfl
@[simp] theorem State.onGen_free (s : State) (m : Fin 4) (f : Gen → Gen) : (s.onGen m f).free = s.free := rfl
@[simp] theorem State.onGen_given (s : State) (m : Fin 4) (f : Gen → Gen) : (s.onGen m f).given = s.given := rfl
@[simp] theorem State.onGen_used (s : State) (m : Fin 4) (f : Gen → Gen) : (s.onGen m f).used = s.used := rfl
@[simp] theorem State.onGen_unarmedF (s : State) (m : Fin 4) (f : Gen → Gen) : (s.onGen m f).unarmedF = s.unarmedF := rfl
@[simp] theorem State.onGen_cells (s : State) (m : Fin 4) (f : Gen → Gen) : (s.onGen m f).cells = s.cells := rfl
@[simp] theorem State.onGen_hk (s : State) (m : Fin 4) (f : Gen → Gen) : (s.onGen m f).hk = s.hk := rfl
@[simp] theorem State.onGen_pwm (s : State) (m : Fin 4) (f : Gen → Gen) : (s.onGen m f).pwm = s.pwm := rfl
@[simp] theorem State.onGen_loops (s : State) (m : Fin 4) (f : Gen → Gen) : (s.onGen m f).loops = s.loops := rfl
@[simp] theorem State.onGen_posIf (s : State) (m : Fin 4) (f : Gen → Gen) : (s.onGen m f).posIf = s.posIf := rfl
@[simp] theorem State.onGen_start (s : State) (m : Fin 4) (f : Gen → Gen) : (s.onGen m f).start = s.start := rfl
@[simp] theorem State.onGen_spc (s : State) (m : Fin 4) (f : Gen → Gen) : (s.onGen m f).spc = s.spc := rfl
@[simp] theorem State.onGen_cmd (s : State) (m : Fin 4) (f : Gen → Gen) : (s.onGen m f).cmd = s.cmd := rfl
@[simp] theorem State.onGen_outer (s : State) (m : Fin 4) (f : Gen → Gen) : (s.onGen m f).outer = s.outer := rfl
@[simp] theorem State.onGen_brake (s : State) (m : Fin 4) (f : Gen → Gen) : (s.onGen m f).brake = s.brake := rfl
@[simp] theorem State.onGen_armed (s : State) (m : Fin 4) (f : Gen → Gen) : (s.onGen m f).armed = s.armed := rfl
@[simp] theorem State.onGen_disarmed (s : State) (m : Fin 4) (f : Gen → Gen) : (s.onGen m f).disarmed = s.disarmed := rfl
@[simp] theorem State.onGen_mapBad (s : State) (m : Fin 4) (f : Gen → Gen) : (s.onGen m f).mapBad = s.mapBad := rfl
@[simp] theorem State.onGen_badChk (s : State) (m : Fin 4) (f : Gen → Gen) : (s.onGen m f).badChk = s.badChk := rfl
@[simp] theorem State.onGen_axes (s : State) (m : Fin 4) (f : Gen → Gen) : (s.onGen m f).axes = s.axes := rfl
@[simp] theorem State.onGen_moGen (s : State) (m : Fin 4) (f : Gen → Gen) : (s.onGen m f).moGen = vmod s.moGen m f := rfl
@[simp] theorem State.onGen_shock (s : State) (m : Fin 4) (f : Gen → Gen) : (s.onGen m f).shock = s.shock := rfl
@[simp] theorem State.onGen_heave (s : State) (m : Fin 4) (f : Gen → Gen) : (s.onGen m f).heave = s.heave := rfl
@[simp] theorem State.onGen_hist (s : State) (m : Fin 4) (f : Gen → Gen) : (s.onGen m f).hist = s.hist := rfl
@[simp] theorem State.onGen_ring (s : State) (m : Fin 4) (f : Gen → Gen) : (s.onGen m f).ring = s.ring := rfl
@[simp] theorem State.onGen_em (s : State) (m : Fin 4) (f : Gen → Gen) : (s.onGen m f).em = s.em := rfl
@[simp] theorem State.onGen_reacts (s : State) (m : Fin 4) (f : Gen → Gen) : (s.onGen m f).reacts = s.reacts := rfl
@[simp] theorem State.onGen_chan (s : State) (m : Fin 4) (f : Gen → Gen) : (s.onGen m f).chan = s.chan := rfl
@[simp] theorem State.onGen_br (s : State) (m : Fin 4) (f : Gen → Gen) : (s.onGen m f).br = s.br := rfl
@[simp] theorem State.onGen_cmp (s : State) (m : Fin 4) (f : Gen → Gen) : (s.onGen m f).cmp = s.cmp := rfl
@[simp] theorem State.onGen_chop (s : State) (m : Fin 4) (f : Gen → Gen) : (s.onGen m f).chop = s.chop := rfl
@[simp] theorem State.onGen_wind (s : State) (m : Fin 4) (f : Gen → Gen) : (s.onGen m f).wind = s.wind := rfl
@[simp] theorem State.onGen_stest (s : State) (m : Fin 4) (f : Gen → Gen) : (s.onGen m f).stest = s.stest := rfl
@[simp] theorem State.onGen_tap (s : State) (m : Fin 4) (f : Gen → Gen) : (s.onGen m f).tap = s.tap := rfl
@[simp] theorem State.onGen_die (s : State) (m : Fin 4) (f : Gen → Gen) : (s.onGen m f).die = s.die := rfl
@[simp] theorem State.onGen_garnet (s : State) (m : Fin 4) (f : Gen → Gen) : (s.onGen m f).garnet = s.garnet := rfl
@[simp] theorem State.onGen_slog (s : State) (m : Fin 4) (f : Gen → Gen) : (s.onGen m f).slog = s.slog := rfl
@[simp] theorem State.onGen_fab (s : State) (m : Fin 4) (f : Gen → Gen) : (s.onGen m f).fab = s.fab := rfl
@[simp] theorem State.onGen_clk (s : State) (m : Fin 4) (f : Gen → Gen) : (s.onGen m f).clk = s.clk := rfl
@[simp] theorem State.onGen_rst (s : State) (m : Fin 4) (f : Gen → Gen) : (s.onGen m f).rst = s.rst := rfl
@[simp] theorem State.onGen_vbat (s : State) (m : Fin 4) (f : Gen → Gen) : (s.onGen m f).vbat = s.vbat := rfl
@[simp] theorem State.onGen_recd (s : State) (m : Fin 4) (f : Gen → Gen) : (s.onGen m f).recd = s.recd := rfl
@[simp] theorem State.onGen_jrn (s : State) (m : Fin 4) (f : Gen → Gen) : (s.onGen m f).jrn = s.jrn := rfl
@[simp] theorem State.onGen_jwBase (s : State) (m : Fin 4) (f : Gen → Gen) : (s.onGen m f).jwBase = s.jwBase := rfl
@[simp] theorem State.onGen_nor (s : State) (m : Fin 4) (f : Gen → Gen) : (s.onGen m f).nor = s.nor := rfl
@[simp] theorem State.onGen_img (s : State) (m : Fin 4) (f : Gen → Gen) : (s.onGen m f).img = s.img := rfl
@[simp] theorem State.onGen_com (s : State) (m : Fin 4) (f : Gen → Gen) : (s.onGen m f).com = s.com := rfl
@[simp] theorem State.onGen_shadow (s : State) (m : Fin 4) (f : Gen → Gen) : (s.onGen m f).shadow = s.shadow := rfl
@[simp] theorem State.onGen_fw (s : State) (m : Fin 4) (f : Gen → Gen) : (s.onGen m f).fw = s.fw := rfl
@[simp] theorem State.onGen_av (s : State) (m : Fin 4) (f : Gen → Gen) : (s.onGen m f).av = s.av := rfl
@[simp] theorem State.onGen_cap (s : State) (m : Fin 4) (f : Gen → Gen) : (s.onGen m f).cap = s.cap := rfl
@[simp] theorem State.onGen_eth (s : State) (m : Fin 4) (f : Gen → Gen) : (s.onGen m f).eth = s.eth := rfl
@[simp] theorem State.onGen_time (s : State) (m : Fin 4) (f : Gen → Gen) : (s.onGen m f).time = s.time := rfl
@[simp] theorem State.onGen_can (s : State) (m : Fin 4) (f : Gen → Gen) : (s.onGen m f).can = s.can := rfl
@[simp] theorem State.onGen_onyx (s : State) (m : Fin 4) (f : Gen → Gen) : (s.onGen m f).onyx = s.onyx := rfl
@[simp] theorem State.onGen_latches (s : State) (m : Fin 4) (f : Gen → Gen) : (s.onGen m f).latches = s.latches := rfl

/-! ## `State.onShock` -/

@[simp] theorem State.onShock_pending (s : State) (m : Fin 4) (f : Shock → Shock) : (s.onShock m f).pending = s.pending := rfl
@[simp] theorem State.onShock_up (s : State) (m : Fin 4) (f : Shock → Shock) : (s.onShock m f).up = s.up := rfl
@[simp] theorem State.onShock_dev (s : State) (m : Fin 4) (f : Shock → Shock) : (s.onShock m f).dev = s.dev := rfl
@[simp] theorem State.onShock_devFrac (s : State) (m : Fin 4) (f : Shock → Shock) : (s.onShock m f).devFrac = s.devFrac := rfl
@[simp] theorem State.onShock_free (s : State) (m : Fin 4) (f : Shock → Shock) : (s.onShock m f).free = s.free := rfl
@[simp] theorem State.onShock_given (s : State) (m : Fin 4) (f : Shock → Shock) : (s.onShock m f).given = s.given := rfl
@[simp] theorem State.onShock_used (s : State) (m : Fin 4) (f : Shock → Shock) : (s.onShock m f).used = s.used := rfl
@[simp] theorem State.onShock_unarmedF (s : State) (m : Fin 4) (f : Shock → Shock) : (s.onShock m f).unarmedF = s.unarmedF := rfl
@[simp] theorem State.onShock_cells (s : State) (m : Fin 4) (f : Shock → Shock) : (s.onShock m f).cells = s.cells := rfl
@[simp] theorem State.onShock_hk (s : State) (m : Fin 4) (f : Shock → Shock) : (s.onShock m f).hk = s.hk := rfl
@[simp] theorem State.onShock_pwm (s : State) (m : Fin 4) (f : Shock → Shock) : (s.onShock m f).pwm = s.pwm := rfl
@[simp] theorem State.onShock_loops (s : State) (m : Fin 4) (f : Shock → Shock) : (s.onShock m f).loops = s.loops := rfl
@[simp] theorem State.onShock_posIf (s : State) (m : Fin 4) (f : Shock → Shock) : (s.onShock m f).posIf = s.posIf := rfl
@[simp] theorem State.onShock_start (s : State) (m : Fin 4) (f : Shock → Shock) : (s.onShock m f).start = s.start := rfl
@[simp] theorem State.onShock_spc (s : State) (m : Fin 4) (f : Shock → Shock) : (s.onShock m f).spc = s.spc := rfl
@[simp] theorem State.onShock_cmd (s : State) (m : Fin 4) (f : Shock → Shock) : (s.onShock m f).cmd = s.cmd := rfl
@[simp] theorem State.onShock_outer (s : State) (m : Fin 4) (f : Shock → Shock) : (s.onShock m f).outer = s.outer := rfl
@[simp] theorem State.onShock_brake (s : State) (m : Fin 4) (f : Shock → Shock) : (s.onShock m f).brake = s.brake := rfl
@[simp] theorem State.onShock_armed (s : State) (m : Fin 4) (f : Shock → Shock) : (s.onShock m f).armed = s.armed := rfl
@[simp] theorem State.onShock_disarmed (s : State) (m : Fin 4) (f : Shock → Shock) : (s.onShock m f).disarmed = s.disarmed := rfl
@[simp] theorem State.onShock_mapBad (s : State) (m : Fin 4) (f : Shock → Shock) : (s.onShock m f).mapBad = s.mapBad := rfl
@[simp] theorem State.onShock_badChk (s : State) (m : Fin 4) (f : Shock → Shock) : (s.onShock m f).badChk = s.badChk := rfl
@[simp] theorem State.onShock_axes (s : State) (m : Fin 4) (f : Shock → Shock) : (s.onShock m f).axes = s.axes := rfl
@[simp] theorem State.onShock_moGen (s : State) (m : Fin 4) (f : Shock → Shock) : (s.onShock m f).moGen = s.moGen := rfl
@[simp] theorem State.onShock_shock (s : State) (m : Fin 4) (f : Shock → Shock) : (s.onShock m f).shock = vmod s.shock m f := rfl
@[simp] theorem State.onShock_heave (s : State) (m : Fin 4) (f : Shock → Shock) : (s.onShock m f).heave = s.heave := rfl
@[simp] theorem State.onShock_hist (s : State) (m : Fin 4) (f : Shock → Shock) : (s.onShock m f).hist = s.hist := rfl
@[simp] theorem State.onShock_ring (s : State) (m : Fin 4) (f : Shock → Shock) : (s.onShock m f).ring = s.ring := rfl
@[simp] theorem State.onShock_em (s : State) (m : Fin 4) (f : Shock → Shock) : (s.onShock m f).em = s.em := rfl
@[simp] theorem State.onShock_reacts (s : State) (m : Fin 4) (f : Shock → Shock) : (s.onShock m f).reacts = s.reacts := rfl
@[simp] theorem State.onShock_chan (s : State) (m : Fin 4) (f : Shock → Shock) : (s.onShock m f).chan = s.chan := rfl
@[simp] theorem State.onShock_br (s : State) (m : Fin 4) (f : Shock → Shock) : (s.onShock m f).br = s.br := rfl
@[simp] theorem State.onShock_cmp (s : State) (m : Fin 4) (f : Shock → Shock) : (s.onShock m f).cmp = s.cmp := rfl
@[simp] theorem State.onShock_chop (s : State) (m : Fin 4) (f : Shock → Shock) : (s.onShock m f).chop = s.chop := rfl
@[simp] theorem State.onShock_wind (s : State) (m : Fin 4) (f : Shock → Shock) : (s.onShock m f).wind = s.wind := rfl
@[simp] theorem State.onShock_stest (s : State) (m : Fin 4) (f : Shock → Shock) : (s.onShock m f).stest = s.stest := rfl
@[simp] theorem State.onShock_tap (s : State) (m : Fin 4) (f : Shock → Shock) : (s.onShock m f).tap = s.tap := rfl
@[simp] theorem State.onShock_die (s : State) (m : Fin 4) (f : Shock → Shock) : (s.onShock m f).die = s.die := rfl
@[simp] theorem State.onShock_garnet (s : State) (m : Fin 4) (f : Shock → Shock) : (s.onShock m f).garnet = s.garnet := rfl
@[simp] theorem State.onShock_slog (s : State) (m : Fin 4) (f : Shock → Shock) : (s.onShock m f).slog = s.slog := rfl
@[simp] theorem State.onShock_fab (s : State) (m : Fin 4) (f : Shock → Shock) : (s.onShock m f).fab = s.fab := rfl
@[simp] theorem State.onShock_clk (s : State) (m : Fin 4) (f : Shock → Shock) : (s.onShock m f).clk = s.clk := rfl
@[simp] theorem State.onShock_rst (s : State) (m : Fin 4) (f : Shock → Shock) : (s.onShock m f).rst = s.rst := rfl
@[simp] theorem State.onShock_vbat (s : State) (m : Fin 4) (f : Shock → Shock) : (s.onShock m f).vbat = s.vbat := rfl
@[simp] theorem State.onShock_recd (s : State) (m : Fin 4) (f : Shock → Shock) : (s.onShock m f).recd = s.recd := rfl
@[simp] theorem State.onShock_jrn (s : State) (m : Fin 4) (f : Shock → Shock) : (s.onShock m f).jrn = s.jrn := rfl
@[simp] theorem State.onShock_jwBase (s : State) (m : Fin 4) (f : Shock → Shock) : (s.onShock m f).jwBase = s.jwBase := rfl
@[simp] theorem State.onShock_nor (s : State) (m : Fin 4) (f : Shock → Shock) : (s.onShock m f).nor = s.nor := rfl
@[simp] theorem State.onShock_img (s : State) (m : Fin 4) (f : Shock → Shock) : (s.onShock m f).img = s.img := rfl
@[simp] theorem State.onShock_com (s : State) (m : Fin 4) (f : Shock → Shock) : (s.onShock m f).com = s.com := rfl
@[simp] theorem State.onShock_shadow (s : State) (m : Fin 4) (f : Shock → Shock) : (s.onShock m f).shadow = s.shadow := rfl
@[simp] theorem State.onShock_fw (s : State) (m : Fin 4) (f : Shock → Shock) : (s.onShock m f).fw = s.fw := rfl
@[simp] theorem State.onShock_av (s : State) (m : Fin 4) (f : Shock → Shock) : (s.onShock m f).av = s.av := rfl
@[simp] theorem State.onShock_cap (s : State) (m : Fin 4) (f : Shock → Shock) : (s.onShock m f).cap = s.cap := rfl
@[simp] theorem State.onShock_eth (s : State) (m : Fin 4) (f : Shock → Shock) : (s.onShock m f).eth = s.eth := rfl
@[simp] theorem State.onShock_time (s : State) (m : Fin 4) (f : Shock → Shock) : (s.onShock m f).time = s.time := rfl
@[simp] theorem State.onShock_can (s : State) (m : Fin 4) (f : Shock → Shock) : (s.onShock m f).can = s.can := rfl
@[simp] theorem State.onShock_onyx (s : State) (m : Fin 4) (f : Shock → Shock) : (s.onShock m f).onyx = s.onyx := rfl
@[simp] theorem State.onShock_latches (s : State) (m : Fin 4) (f : Shock → Shock) : (s.onShock m f).latches = s.latches := rfl

/-! ## `State.onHeave` -/

@[simp] theorem State.onHeave_pending (s : State) (m : Fin 4) (f : Heave → Heave) : (s.onHeave m f).pending = s.pending := rfl
@[simp] theorem State.onHeave_up (s : State) (m : Fin 4) (f : Heave → Heave) : (s.onHeave m f).up = s.up := rfl
@[simp] theorem State.onHeave_dev (s : State) (m : Fin 4) (f : Heave → Heave) : (s.onHeave m f).dev = s.dev := rfl
@[simp] theorem State.onHeave_devFrac (s : State) (m : Fin 4) (f : Heave → Heave) : (s.onHeave m f).devFrac = s.devFrac := rfl
@[simp] theorem State.onHeave_free (s : State) (m : Fin 4) (f : Heave → Heave) : (s.onHeave m f).free = s.free := rfl
@[simp] theorem State.onHeave_given (s : State) (m : Fin 4) (f : Heave → Heave) : (s.onHeave m f).given = s.given := rfl
@[simp] theorem State.onHeave_used (s : State) (m : Fin 4) (f : Heave → Heave) : (s.onHeave m f).used = s.used := rfl
@[simp] theorem State.onHeave_unarmedF (s : State) (m : Fin 4) (f : Heave → Heave) : (s.onHeave m f).unarmedF = s.unarmedF := rfl
@[simp] theorem State.onHeave_cells (s : State) (m : Fin 4) (f : Heave → Heave) : (s.onHeave m f).cells = s.cells := rfl
@[simp] theorem State.onHeave_hk (s : State) (m : Fin 4) (f : Heave → Heave) : (s.onHeave m f).hk = s.hk := rfl
@[simp] theorem State.onHeave_pwm (s : State) (m : Fin 4) (f : Heave → Heave) : (s.onHeave m f).pwm = s.pwm := rfl
@[simp] theorem State.onHeave_loops (s : State) (m : Fin 4) (f : Heave → Heave) : (s.onHeave m f).loops = s.loops := rfl
@[simp] theorem State.onHeave_posIf (s : State) (m : Fin 4) (f : Heave → Heave) : (s.onHeave m f).posIf = s.posIf := rfl
@[simp] theorem State.onHeave_start (s : State) (m : Fin 4) (f : Heave → Heave) : (s.onHeave m f).start = s.start := rfl
@[simp] theorem State.onHeave_spc (s : State) (m : Fin 4) (f : Heave → Heave) : (s.onHeave m f).spc = s.spc := rfl
@[simp] theorem State.onHeave_cmd (s : State) (m : Fin 4) (f : Heave → Heave) : (s.onHeave m f).cmd = s.cmd := rfl
@[simp] theorem State.onHeave_outer (s : State) (m : Fin 4) (f : Heave → Heave) : (s.onHeave m f).outer = s.outer := rfl
@[simp] theorem State.onHeave_brake (s : State) (m : Fin 4) (f : Heave → Heave) : (s.onHeave m f).brake = s.brake := rfl
@[simp] theorem State.onHeave_armed (s : State) (m : Fin 4) (f : Heave → Heave) : (s.onHeave m f).armed = s.armed := rfl
@[simp] theorem State.onHeave_disarmed (s : State) (m : Fin 4) (f : Heave → Heave) : (s.onHeave m f).disarmed = s.disarmed := rfl
@[simp] theorem State.onHeave_mapBad (s : State) (m : Fin 4) (f : Heave → Heave) : (s.onHeave m f).mapBad = s.mapBad := rfl
@[simp] theorem State.onHeave_badChk (s : State) (m : Fin 4) (f : Heave → Heave) : (s.onHeave m f).badChk = s.badChk := rfl
@[simp] theorem State.onHeave_axes (s : State) (m : Fin 4) (f : Heave → Heave) : (s.onHeave m f).axes = s.axes := rfl
@[simp] theorem State.onHeave_moGen (s : State) (m : Fin 4) (f : Heave → Heave) : (s.onHeave m f).moGen = s.moGen := rfl
@[simp] theorem State.onHeave_shock (s : State) (m : Fin 4) (f : Heave → Heave) : (s.onHeave m f).shock = s.shock := rfl
@[simp] theorem State.onHeave_heave (s : State) (m : Fin 4) (f : Heave → Heave) : (s.onHeave m f).heave = vmod s.heave m f := rfl
@[simp] theorem State.onHeave_hist (s : State) (m : Fin 4) (f : Heave → Heave) : (s.onHeave m f).hist = s.hist := rfl
@[simp] theorem State.onHeave_ring (s : State) (m : Fin 4) (f : Heave → Heave) : (s.onHeave m f).ring = s.ring := rfl
@[simp] theorem State.onHeave_em (s : State) (m : Fin 4) (f : Heave → Heave) : (s.onHeave m f).em = s.em := rfl
@[simp] theorem State.onHeave_reacts (s : State) (m : Fin 4) (f : Heave → Heave) : (s.onHeave m f).reacts = s.reacts := rfl
@[simp] theorem State.onHeave_chan (s : State) (m : Fin 4) (f : Heave → Heave) : (s.onHeave m f).chan = s.chan := rfl
@[simp] theorem State.onHeave_br (s : State) (m : Fin 4) (f : Heave → Heave) : (s.onHeave m f).br = s.br := rfl
@[simp] theorem State.onHeave_cmp (s : State) (m : Fin 4) (f : Heave → Heave) : (s.onHeave m f).cmp = s.cmp := rfl
@[simp] theorem State.onHeave_chop (s : State) (m : Fin 4) (f : Heave → Heave) : (s.onHeave m f).chop = s.chop := rfl
@[simp] theorem State.onHeave_wind (s : State) (m : Fin 4) (f : Heave → Heave) : (s.onHeave m f).wind = s.wind := rfl
@[simp] theorem State.onHeave_stest (s : State) (m : Fin 4) (f : Heave → Heave) : (s.onHeave m f).stest = s.stest := rfl
@[simp] theorem State.onHeave_tap (s : State) (m : Fin 4) (f : Heave → Heave) : (s.onHeave m f).tap = s.tap := rfl
@[simp] theorem State.onHeave_die (s : State) (m : Fin 4) (f : Heave → Heave) : (s.onHeave m f).die = s.die := rfl
@[simp] theorem State.onHeave_garnet (s : State) (m : Fin 4) (f : Heave → Heave) : (s.onHeave m f).garnet = s.garnet := rfl
@[simp] theorem State.onHeave_slog (s : State) (m : Fin 4) (f : Heave → Heave) : (s.onHeave m f).slog = s.slog := rfl
@[simp] theorem State.onHeave_fab (s : State) (m : Fin 4) (f : Heave → Heave) : (s.onHeave m f).fab = s.fab := rfl
@[simp] theorem State.onHeave_clk (s : State) (m : Fin 4) (f : Heave → Heave) : (s.onHeave m f).clk = s.clk := rfl
@[simp] theorem State.onHeave_rst (s : State) (m : Fin 4) (f : Heave → Heave) : (s.onHeave m f).rst = s.rst := rfl
@[simp] theorem State.onHeave_vbat (s : State) (m : Fin 4) (f : Heave → Heave) : (s.onHeave m f).vbat = s.vbat := rfl
@[simp] theorem State.onHeave_recd (s : State) (m : Fin 4) (f : Heave → Heave) : (s.onHeave m f).recd = s.recd := rfl
@[simp] theorem State.onHeave_jrn (s : State) (m : Fin 4) (f : Heave → Heave) : (s.onHeave m f).jrn = s.jrn := rfl
@[simp] theorem State.onHeave_jwBase (s : State) (m : Fin 4) (f : Heave → Heave) : (s.onHeave m f).jwBase = s.jwBase := rfl
@[simp] theorem State.onHeave_nor (s : State) (m : Fin 4) (f : Heave → Heave) : (s.onHeave m f).nor = s.nor := rfl
@[simp] theorem State.onHeave_img (s : State) (m : Fin 4) (f : Heave → Heave) : (s.onHeave m f).img = s.img := rfl
@[simp] theorem State.onHeave_com (s : State) (m : Fin 4) (f : Heave → Heave) : (s.onHeave m f).com = s.com := rfl
@[simp] theorem State.onHeave_shadow (s : State) (m : Fin 4) (f : Heave → Heave) : (s.onHeave m f).shadow = s.shadow := rfl
@[simp] theorem State.onHeave_fw (s : State) (m : Fin 4) (f : Heave → Heave) : (s.onHeave m f).fw = s.fw := rfl
@[simp] theorem State.onHeave_av (s : State) (m : Fin 4) (f : Heave → Heave) : (s.onHeave m f).av = s.av := rfl
@[simp] theorem State.onHeave_cap (s : State) (m : Fin 4) (f : Heave → Heave) : (s.onHeave m f).cap = s.cap := rfl
@[simp] theorem State.onHeave_eth (s : State) (m : Fin 4) (f : Heave → Heave) : (s.onHeave m f).eth = s.eth := rfl
@[simp] theorem State.onHeave_time (s : State) (m : Fin 4) (f : Heave → Heave) : (s.onHeave m f).time = s.time := rfl
@[simp] theorem State.onHeave_can (s : State) (m : Fin 4) (f : Heave → Heave) : (s.onHeave m f).can = s.can := rfl
@[simp] theorem State.onHeave_onyx (s : State) (m : Fin 4) (f : Heave → Heave) : (s.onHeave m f).onyx = s.onyx := rfl
@[simp] theorem State.onHeave_latches (s : State) (m : Fin 4) (f : Heave → Heave) : (s.onHeave m f).latches = s.latches := rfl

/-! ## `State.onMbr` -/

@[simp] theorem State.onMbr_pending (s : State) (m : Fin 4) (f : Member → Member) : (s.onMbr m f).pending = s.pending := rfl
@[simp] theorem State.onMbr_up (s : State) (m : Fin 4) (f : Member → Member) : (s.onMbr m f).up = s.up := rfl
@[simp] theorem State.onMbr_dev (s : State) (m : Fin 4) (f : Member → Member) : (s.onMbr m f).dev = s.dev := rfl
@[simp] theorem State.onMbr_devFrac (s : State) (m : Fin 4) (f : Member → Member) : (s.onMbr m f).devFrac = s.devFrac := rfl
@[simp] theorem State.onMbr_free (s : State) (m : Fin 4) (f : Member → Member) : (s.onMbr m f).free = s.free := rfl
@[simp] theorem State.onMbr_given (s : State) (m : Fin 4) (f : Member → Member) : (s.onMbr m f).given = s.given := rfl
@[simp] theorem State.onMbr_used (s : State) (m : Fin 4) (f : Member → Member) : (s.onMbr m f).used = s.used := rfl
@[simp] theorem State.onMbr_unarmedF (s : State) (m : Fin 4) (f : Member → Member) : (s.onMbr m f).unarmedF = s.unarmedF := rfl
@[simp] theorem State.onMbr_cells (s : State) (m : Fin 4) (f : Member → Member) : (s.onMbr m f).cells = s.cells := rfl
@[simp] theorem State.onMbr_hk (s : State) (m : Fin 4) (f : Member → Member) : (s.onMbr m f).hk = s.hk := rfl
@[simp] theorem State.onMbr_pwm (s : State) (m : Fin 4) (f : Member → Member) : (s.onMbr m f).pwm = s.pwm := rfl
@[simp] theorem State.onMbr_loops (s : State) (m : Fin 4) (f : Member → Member) : (s.onMbr m f).loops = s.loops := rfl
@[simp] theorem State.onMbr_posIf (s : State) (m : Fin 4) (f : Member → Member) : (s.onMbr m f).posIf = s.posIf := rfl
@[simp] theorem State.onMbr_start (s : State) (m : Fin 4) (f : Member → Member) : (s.onMbr m f).start = s.start := rfl
@[simp] theorem State.onMbr_spc (s : State) (m : Fin 4) (f : Member → Member) : (s.onMbr m f).spc = s.spc := rfl
@[simp] theorem State.onMbr_cmd (s : State) (m : Fin 4) (f : Member → Member) : (s.onMbr m f).cmd = s.cmd := rfl
@[simp] theorem State.onMbr_outer (s : State) (m : Fin 4) (f : Member → Member) : (s.onMbr m f).outer = s.outer := rfl
@[simp] theorem State.onMbr_brake (s : State) (m : Fin 4) (f : Member → Member) : (s.onMbr m f).brake = s.brake := rfl
@[simp] theorem State.onMbr_armed (s : State) (m : Fin 4) (f : Member → Member) : (s.onMbr m f).armed = s.armed := rfl
@[simp] theorem State.onMbr_disarmed (s : State) (m : Fin 4) (f : Member → Member) : (s.onMbr m f).disarmed = s.disarmed := rfl
@[simp] theorem State.onMbr_mapBad (s : State) (m : Fin 4) (f : Member → Member) : (s.onMbr m f).mapBad = s.mapBad := rfl
@[simp] theorem State.onMbr_badChk (s : State) (m : Fin 4) (f : Member → Member) : (s.onMbr m f).badChk = s.badChk := rfl
@[simp] theorem State.onMbr_axes (s : State) (m : Fin 4) (f : Member → Member) : (s.onMbr m f).axes = s.axes := rfl
@[simp] theorem State.onMbr_moGen (s : State) (m : Fin 4) (f : Member → Member) : (s.onMbr m f).moGen = s.moGen := rfl
@[simp] theorem State.onMbr_shock (s : State) (m : Fin 4) (f : Member → Member) : (s.onMbr m f).shock = s.shock := rfl
@[simp] theorem State.onMbr_heave (s : State) (m : Fin 4) (f : Member → Member) : (s.onMbr m f).heave = s.heave := rfl
@[simp] theorem State.onMbr_hist (s : State) (m : Fin 4) (f : Member → Member) : (s.onMbr m f).hist = s.hist := rfl
@[simp] theorem State.onMbr_ring (s : State) (m : Fin 4) (f : Member → Member) : (s.onMbr m f).ring = { s.ring with mbr := vmod s.ring.mbr m f } := rfl
@[simp] theorem State.onMbr_em (s : State) (m : Fin 4) (f : Member → Member) : (s.onMbr m f).em = s.em := rfl
@[simp] theorem State.onMbr_reacts (s : State) (m : Fin 4) (f : Member → Member) : (s.onMbr m f).reacts = s.reacts := rfl
@[simp] theorem State.onMbr_chan (s : State) (m : Fin 4) (f : Member → Member) : (s.onMbr m f).chan = s.chan := rfl
@[simp] theorem State.onMbr_br (s : State) (m : Fin 4) (f : Member → Member) : (s.onMbr m f).br = s.br := rfl
@[simp] theorem State.onMbr_cmp (s : State) (m : Fin 4) (f : Member → Member) : (s.onMbr m f).cmp = s.cmp := rfl
@[simp] theorem State.onMbr_chop (s : State) (m : Fin 4) (f : Member → Member) : (s.onMbr m f).chop = s.chop := rfl
@[simp] theorem State.onMbr_wind (s : State) (m : Fin 4) (f : Member → Member) : (s.onMbr m f).wind = s.wind := rfl
@[simp] theorem State.onMbr_stest (s : State) (m : Fin 4) (f : Member → Member) : (s.onMbr m f).stest = s.stest := rfl
@[simp] theorem State.onMbr_tap (s : State) (m : Fin 4) (f : Member → Member) : (s.onMbr m f).tap = s.tap := rfl
@[simp] theorem State.onMbr_die (s : State) (m : Fin 4) (f : Member → Member) : (s.onMbr m f).die = s.die := rfl
@[simp] theorem State.onMbr_garnet (s : State) (m : Fin 4) (f : Member → Member) : (s.onMbr m f).garnet = s.garnet := rfl
@[simp] theorem State.onMbr_slog (s : State) (m : Fin 4) (f : Member → Member) : (s.onMbr m f).slog = s.slog := rfl
@[simp] theorem State.onMbr_fab (s : State) (m : Fin 4) (f : Member → Member) : (s.onMbr m f).fab = s.fab := rfl
@[simp] theorem State.onMbr_clk (s : State) (m : Fin 4) (f : Member → Member) : (s.onMbr m f).clk = s.clk := rfl
@[simp] theorem State.onMbr_rst (s : State) (m : Fin 4) (f : Member → Member) : (s.onMbr m f).rst = s.rst := rfl
@[simp] theorem State.onMbr_vbat (s : State) (m : Fin 4) (f : Member → Member) : (s.onMbr m f).vbat = s.vbat := rfl
@[simp] theorem State.onMbr_recd (s : State) (m : Fin 4) (f : Member → Member) : (s.onMbr m f).recd = s.recd := rfl
@[simp] theorem State.onMbr_jrn (s : State) (m : Fin 4) (f : Member → Member) : (s.onMbr m f).jrn = s.jrn := rfl
@[simp] theorem State.onMbr_jwBase (s : State) (m : Fin 4) (f : Member → Member) : (s.onMbr m f).jwBase = s.jwBase := rfl
@[simp] theorem State.onMbr_nor (s : State) (m : Fin 4) (f : Member → Member) : (s.onMbr m f).nor = s.nor := rfl
@[simp] theorem State.onMbr_img (s : State) (m : Fin 4) (f : Member → Member) : (s.onMbr m f).img = s.img := rfl
@[simp] theorem State.onMbr_com (s : State) (m : Fin 4) (f : Member → Member) : (s.onMbr m f).com = s.com := rfl
@[simp] theorem State.onMbr_shadow (s : State) (m : Fin 4) (f : Member → Member) : (s.onMbr m f).shadow = s.shadow := rfl
@[simp] theorem State.onMbr_fw (s : State) (m : Fin 4) (f : Member → Member) : (s.onMbr m f).fw = s.fw := rfl
@[simp] theorem State.onMbr_av (s : State) (m : Fin 4) (f : Member → Member) : (s.onMbr m f).av = s.av := rfl
@[simp] theorem State.onMbr_cap (s : State) (m : Fin 4) (f : Member → Member) : (s.onMbr m f).cap = s.cap := rfl
@[simp] theorem State.onMbr_eth (s : State) (m : Fin 4) (f : Member → Member) : (s.onMbr m f).eth = s.eth := rfl
@[simp] theorem State.onMbr_time (s : State) (m : Fin 4) (f : Member → Member) : (s.onMbr m f).time = s.time := rfl
@[simp] theorem State.onMbr_can (s : State) (m : Fin 4) (f : Member → Member) : (s.onMbr m f).can = s.can := rfl
@[simp] theorem State.onMbr_onyx (s : State) (m : Fin 4) (f : Member → Member) : (s.onMbr m f).onyx = s.onyx := rfl
@[simp] theorem State.onMbr_latches (s : State) (m : Fin 4) (f : Member → Member) : (s.onMbr m f).latches = s.latches := rfl

/-! ## `State.onRing` -/

@[simp] theorem State.onRing_pending (s : State) (f : Ring → Ring) : (s.onRing f).pending = s.pending := rfl
@[simp] theorem State.onRing_up (s : State) (f : Ring → Ring) : (s.onRing f).up = s.up := rfl
@[simp] theorem State.onRing_dev (s : State) (f : Ring → Ring) : (s.onRing f).dev = s.dev := rfl
@[simp] theorem State.onRing_devFrac (s : State) (f : Ring → Ring) : (s.onRing f).devFrac = s.devFrac := rfl
@[simp] theorem State.onRing_free (s : State) (f : Ring → Ring) : (s.onRing f).free = s.free := rfl
@[simp] theorem State.onRing_given (s : State) (f : Ring → Ring) : (s.onRing f).given = s.given := rfl
@[simp] theorem State.onRing_used (s : State) (f : Ring → Ring) : (s.onRing f).used = s.used := rfl
@[simp] theorem State.onRing_unarmedF (s : State) (f : Ring → Ring) : (s.onRing f).unarmedF = s.unarmedF := rfl
@[simp] theorem State.onRing_cells (s : State) (f : Ring → Ring) : (s.onRing f).cells = s.cells := rfl
@[simp] theorem State.onRing_hk (s : State) (f : Ring → Ring) : (s.onRing f).hk = s.hk := rfl
@[simp] theorem State.onRing_pwm (s : State) (f : Ring → Ring) : (s.onRing f).pwm = s.pwm := rfl
@[simp] theorem State.onRing_loops (s : State) (f : Ring → Ring) : (s.onRing f).loops = s.loops := rfl
@[simp] theorem State.onRing_posIf (s : State) (f : Ring → Ring) : (s.onRing f).posIf = s.posIf := rfl
@[simp] theorem State.onRing_start (s : State) (f : Ring → Ring) : (s.onRing f).start = s.start := rfl
@[simp] theorem State.onRing_spc (s : State) (f : Ring → Ring) : (s.onRing f).spc = s.spc := rfl
@[simp] theorem State.onRing_cmd (s : State) (f : Ring → Ring) : (s.onRing f).cmd = s.cmd := rfl
@[simp] theorem State.onRing_outer (s : State) (f : Ring → Ring) : (s.onRing f).outer = s.outer := rfl
@[simp] theorem State.onRing_brake (s : State) (f : Ring → Ring) : (s.onRing f).brake = s.brake := rfl
@[simp] theorem State.onRing_armed (s : State) (f : Ring → Ring) : (s.onRing f).armed = s.armed := rfl
@[simp] theorem State.onRing_disarmed (s : State) (f : Ring → Ring) : (s.onRing f).disarmed = s.disarmed := rfl
@[simp] theorem State.onRing_mapBad (s : State) (f : Ring → Ring) : (s.onRing f).mapBad = s.mapBad := rfl
@[simp] theorem State.onRing_badChk (s : State) (f : Ring → Ring) : (s.onRing f).badChk = s.badChk := rfl
@[simp] theorem State.onRing_axes (s : State) (f : Ring → Ring) : (s.onRing f).axes = s.axes := rfl
@[simp] theorem State.onRing_moGen (s : State) (f : Ring → Ring) : (s.onRing f).moGen = s.moGen := rfl
@[simp] theorem State.onRing_shock (s : State) (f : Ring → Ring) : (s.onRing f).shock = s.shock := rfl
@[simp] theorem State.onRing_heave (s : State) (f : Ring → Ring) : (s.onRing f).heave = s.heave := rfl
@[simp] theorem State.onRing_hist (s : State) (f : Ring → Ring) : (s.onRing f).hist = s.hist := rfl
@[simp] theorem State.onRing_ring (s : State) (f : Ring → Ring) : (s.onRing f).ring = f s.ring := rfl
@[simp] theorem State.onRing_em (s : State) (f : Ring → Ring) : (s.onRing f).em = s.em := rfl
@[simp] theorem State.onRing_reacts (s : State) (f : Ring → Ring) : (s.onRing f).reacts = s.reacts := rfl
@[simp] theorem State.onRing_chan (s : State) (f : Ring → Ring) : (s.onRing f).chan = s.chan := rfl
@[simp] theorem State.onRing_br (s : State) (f : Ring → Ring) : (s.onRing f).br = s.br := rfl
@[simp] theorem State.onRing_cmp (s : State) (f : Ring → Ring) : (s.onRing f).cmp = s.cmp := rfl
@[simp] theorem State.onRing_chop (s : State) (f : Ring → Ring) : (s.onRing f).chop = s.chop := rfl
@[simp] theorem State.onRing_wind (s : State) (f : Ring → Ring) : (s.onRing f).wind = s.wind := rfl
@[simp] theorem State.onRing_stest (s : State) (f : Ring → Ring) : (s.onRing f).stest = s.stest := rfl
@[simp] theorem State.onRing_tap (s : State) (f : Ring → Ring) : (s.onRing f).tap = s.tap := rfl
@[simp] theorem State.onRing_die (s : State) (f : Ring → Ring) : (s.onRing f).die = s.die := rfl
@[simp] theorem State.onRing_garnet (s : State) (f : Ring → Ring) : (s.onRing f).garnet = s.garnet := rfl
@[simp] theorem State.onRing_slog (s : State) (f : Ring → Ring) : (s.onRing f).slog = s.slog := rfl
@[simp] theorem State.onRing_fab (s : State) (f : Ring → Ring) : (s.onRing f).fab = s.fab := rfl
@[simp] theorem State.onRing_clk (s : State) (f : Ring → Ring) : (s.onRing f).clk = s.clk := rfl
@[simp] theorem State.onRing_rst (s : State) (f : Ring → Ring) : (s.onRing f).rst = s.rst := rfl
@[simp] theorem State.onRing_vbat (s : State) (f : Ring → Ring) : (s.onRing f).vbat = s.vbat := rfl
@[simp] theorem State.onRing_recd (s : State) (f : Ring → Ring) : (s.onRing f).recd = s.recd := rfl
@[simp] theorem State.onRing_jrn (s : State) (f : Ring → Ring) : (s.onRing f).jrn = s.jrn := rfl
@[simp] theorem State.onRing_jwBase (s : State) (f : Ring → Ring) : (s.onRing f).jwBase = s.jwBase := rfl
@[simp] theorem State.onRing_nor (s : State) (f : Ring → Ring) : (s.onRing f).nor = s.nor := rfl
@[simp] theorem State.onRing_img (s : State) (f : Ring → Ring) : (s.onRing f).img = s.img := rfl
@[simp] theorem State.onRing_com (s : State) (f : Ring → Ring) : (s.onRing f).com = s.com := rfl
@[simp] theorem State.onRing_shadow (s : State) (f : Ring → Ring) : (s.onRing f).shadow = s.shadow := rfl
@[simp] theorem State.onRing_fw (s : State) (f : Ring → Ring) : (s.onRing f).fw = s.fw := rfl
@[simp] theorem State.onRing_av (s : State) (f : Ring → Ring) : (s.onRing f).av = s.av := rfl
@[simp] theorem State.onRing_cap (s : State) (f : Ring → Ring) : (s.onRing f).cap = s.cap := rfl
@[simp] theorem State.onRing_eth (s : State) (f : Ring → Ring) : (s.onRing f).eth = s.eth := rfl
@[simp] theorem State.onRing_time (s : State) (f : Ring → Ring) : (s.onRing f).time = s.time := rfl
@[simp] theorem State.onRing_can (s : State) (f : Ring → Ring) : (s.onRing f).can = s.can := rfl
@[simp] theorem State.onRing_onyx (s : State) (f : Ring → Ring) : (s.onRing f).onyx = s.onyx := rfl
@[simp] theorem State.onRing_latches (s : State) (f : Ring → Ring) : (s.onRing f).latches = s.latches := rfl

/-! ## `State.onEm` -/

@[simp] theorem State.onEm_pending (s : State) (m : Fin 4) (f : Emerg → Emerg) : (s.onEm m f).pending = s.pending := rfl
@[simp] theorem State.onEm_up (s : State) (m : Fin 4) (f : Emerg → Emerg) : (s.onEm m f).up = s.up := rfl
@[simp] theorem State.onEm_dev (s : State) (m : Fin 4) (f : Emerg → Emerg) : (s.onEm m f).dev = s.dev := rfl
@[simp] theorem State.onEm_devFrac (s : State) (m : Fin 4) (f : Emerg → Emerg) : (s.onEm m f).devFrac = s.devFrac := rfl
@[simp] theorem State.onEm_free (s : State) (m : Fin 4) (f : Emerg → Emerg) : (s.onEm m f).free = s.free := rfl
@[simp] theorem State.onEm_given (s : State) (m : Fin 4) (f : Emerg → Emerg) : (s.onEm m f).given = s.given := rfl
@[simp] theorem State.onEm_used (s : State) (m : Fin 4) (f : Emerg → Emerg) : (s.onEm m f).used = s.used := rfl
@[simp] theorem State.onEm_unarmedF (s : State) (m : Fin 4) (f : Emerg → Emerg) : (s.onEm m f).unarmedF = s.unarmedF := rfl
@[simp] theorem State.onEm_cells (s : State) (m : Fin 4) (f : Emerg → Emerg) : (s.onEm m f).cells = s.cells := rfl
@[simp] theorem State.onEm_hk (s : State) (m : Fin 4) (f : Emerg → Emerg) : (s.onEm m f).hk = s.hk := rfl
@[simp] theorem State.onEm_pwm (s : State) (m : Fin 4) (f : Emerg → Emerg) : (s.onEm m f).pwm = s.pwm := rfl
@[simp] theorem State.onEm_loops (s : State) (m : Fin 4) (f : Emerg → Emerg) : (s.onEm m f).loops = s.loops := rfl
@[simp] theorem State.onEm_posIf (s : State) (m : Fin 4) (f : Emerg → Emerg) : (s.onEm m f).posIf = s.posIf := rfl
@[simp] theorem State.onEm_start (s : State) (m : Fin 4) (f : Emerg → Emerg) : (s.onEm m f).start = s.start := rfl
@[simp] theorem State.onEm_spc (s : State) (m : Fin 4) (f : Emerg → Emerg) : (s.onEm m f).spc = s.spc := rfl
@[simp] theorem State.onEm_cmd (s : State) (m : Fin 4) (f : Emerg → Emerg) : (s.onEm m f).cmd = s.cmd := rfl
@[simp] theorem State.onEm_outer (s : State) (m : Fin 4) (f : Emerg → Emerg) : (s.onEm m f).outer = s.outer := rfl
@[simp] theorem State.onEm_brake (s : State) (m : Fin 4) (f : Emerg → Emerg) : (s.onEm m f).brake = s.brake := rfl
@[simp] theorem State.onEm_armed (s : State) (m : Fin 4) (f : Emerg → Emerg) : (s.onEm m f).armed = s.armed := rfl
@[simp] theorem State.onEm_disarmed (s : State) (m : Fin 4) (f : Emerg → Emerg) : (s.onEm m f).disarmed = s.disarmed := rfl
@[simp] theorem State.onEm_mapBad (s : State) (m : Fin 4) (f : Emerg → Emerg) : (s.onEm m f).mapBad = s.mapBad := rfl
@[simp] theorem State.onEm_badChk (s : State) (m : Fin 4) (f : Emerg → Emerg) : (s.onEm m f).badChk = s.badChk := rfl
@[simp] theorem State.onEm_axes (s : State) (m : Fin 4) (f : Emerg → Emerg) : (s.onEm m f).axes = s.axes := rfl
@[simp] theorem State.onEm_moGen (s : State) (m : Fin 4) (f : Emerg → Emerg) : (s.onEm m f).moGen = s.moGen := rfl
@[simp] theorem State.onEm_shock (s : State) (m : Fin 4) (f : Emerg → Emerg) : (s.onEm m f).shock = s.shock := rfl
@[simp] theorem State.onEm_heave (s : State) (m : Fin 4) (f : Emerg → Emerg) : (s.onEm m f).heave = s.heave := rfl
@[simp] theorem State.onEm_hist (s : State) (m : Fin 4) (f : Emerg → Emerg) : (s.onEm m f).hist = s.hist := rfl
@[simp] theorem State.onEm_ring (s : State) (m : Fin 4) (f : Emerg → Emerg) : (s.onEm m f).ring = s.ring := rfl
@[simp] theorem State.onEm_em (s : State) (m : Fin 4) (f : Emerg → Emerg) : (s.onEm m f).em = vmod s.em m f := rfl
@[simp] theorem State.onEm_reacts (s : State) (m : Fin 4) (f : Emerg → Emerg) : (s.onEm m f).reacts = s.reacts := rfl
@[simp] theorem State.onEm_chan (s : State) (m : Fin 4) (f : Emerg → Emerg) : (s.onEm m f).chan = s.chan := rfl
@[simp] theorem State.onEm_br (s : State) (m : Fin 4) (f : Emerg → Emerg) : (s.onEm m f).br = s.br := rfl
@[simp] theorem State.onEm_cmp (s : State) (m : Fin 4) (f : Emerg → Emerg) : (s.onEm m f).cmp = s.cmp := rfl
@[simp] theorem State.onEm_chop (s : State) (m : Fin 4) (f : Emerg → Emerg) : (s.onEm m f).chop = s.chop := rfl
@[simp] theorem State.onEm_wind (s : State) (m : Fin 4) (f : Emerg → Emerg) : (s.onEm m f).wind = s.wind := rfl
@[simp] theorem State.onEm_stest (s : State) (m : Fin 4) (f : Emerg → Emerg) : (s.onEm m f).stest = s.stest := rfl
@[simp] theorem State.onEm_tap (s : State) (m : Fin 4) (f : Emerg → Emerg) : (s.onEm m f).tap = s.tap := rfl
@[simp] theorem State.onEm_die (s : State) (m : Fin 4) (f : Emerg → Emerg) : (s.onEm m f).die = s.die := rfl
@[simp] theorem State.onEm_garnet (s : State) (m : Fin 4) (f : Emerg → Emerg) : (s.onEm m f).garnet = s.garnet := rfl
@[simp] theorem State.onEm_slog (s : State) (m : Fin 4) (f : Emerg → Emerg) : (s.onEm m f).slog = s.slog := rfl
@[simp] theorem State.onEm_fab (s : State) (m : Fin 4) (f : Emerg → Emerg) : (s.onEm m f).fab = s.fab := rfl
@[simp] theorem State.onEm_clk (s : State) (m : Fin 4) (f : Emerg → Emerg) : (s.onEm m f).clk = s.clk := rfl
@[simp] theorem State.onEm_rst (s : State) (m : Fin 4) (f : Emerg → Emerg) : (s.onEm m f).rst = s.rst := rfl
@[simp] theorem State.onEm_vbat (s : State) (m : Fin 4) (f : Emerg → Emerg) : (s.onEm m f).vbat = s.vbat := rfl
@[simp] theorem State.onEm_recd (s : State) (m : Fin 4) (f : Emerg → Emerg) : (s.onEm m f).recd = s.recd := rfl
@[simp] theorem State.onEm_jrn (s : State) (m : Fin 4) (f : Emerg → Emerg) : (s.onEm m f).jrn = s.jrn := rfl
@[simp] theorem State.onEm_jwBase (s : State) (m : Fin 4) (f : Emerg → Emerg) : (s.onEm m f).jwBase = s.jwBase := rfl
@[simp] theorem State.onEm_nor (s : State) (m : Fin 4) (f : Emerg → Emerg) : (s.onEm m f).nor = s.nor := rfl
@[simp] theorem State.onEm_img (s : State) (m : Fin 4) (f : Emerg → Emerg) : (s.onEm m f).img = s.img := rfl
@[simp] theorem State.onEm_com (s : State) (m : Fin 4) (f : Emerg → Emerg) : (s.onEm m f).com = s.com := rfl
@[simp] theorem State.onEm_shadow (s : State) (m : Fin 4) (f : Emerg → Emerg) : (s.onEm m f).shadow = s.shadow := rfl
@[simp] theorem State.onEm_fw (s : State) (m : Fin 4) (f : Emerg → Emerg) : (s.onEm m f).fw = s.fw := rfl
@[simp] theorem State.onEm_av (s : State) (m : Fin 4) (f : Emerg → Emerg) : (s.onEm m f).av = s.av := rfl
@[simp] theorem State.onEm_cap (s : State) (m : Fin 4) (f : Emerg → Emerg) : (s.onEm m f).cap = s.cap := rfl
@[simp] theorem State.onEm_eth (s : State) (m : Fin 4) (f : Emerg → Emerg) : (s.onEm m f).eth = s.eth := rfl
@[simp] theorem State.onEm_time (s : State) (m : Fin 4) (f : Emerg → Emerg) : (s.onEm m f).time = s.time := rfl
@[simp] theorem State.onEm_can (s : State) (m : Fin 4) (f : Emerg → Emerg) : (s.onEm m f).can = s.can := rfl
@[simp] theorem State.onEm_onyx (s : State) (m : Fin 4) (f : Emerg → Emerg) : (s.onEm m f).onyx = s.onyx := rfl
@[simp] theorem State.onEm_latches (s : State) (m : Fin 4) (f : Emerg → Emerg) : (s.onEm m f).latches = s.latches := rfl

/-! ## `State.onChan` -/

@[simp] theorem State.onChan_pending (s : State) (g : Fin 52) (f : Chan → Chan) : (s.onChan g f).pending = s.pending := rfl
@[simp] theorem State.onChan_up (s : State) (g : Fin 52) (f : Chan → Chan) : (s.onChan g f).up = s.up := rfl
@[simp] theorem State.onChan_dev (s : State) (g : Fin 52) (f : Chan → Chan) : (s.onChan g f).dev = s.dev := rfl
@[simp] theorem State.onChan_devFrac (s : State) (g : Fin 52) (f : Chan → Chan) : (s.onChan g f).devFrac = s.devFrac := rfl
@[simp] theorem State.onChan_free (s : State) (g : Fin 52) (f : Chan → Chan) : (s.onChan g f).free = s.free := rfl
@[simp] theorem State.onChan_given (s : State) (g : Fin 52) (f : Chan → Chan) : (s.onChan g f).given = s.given := rfl
@[simp] theorem State.onChan_used (s : State) (g : Fin 52) (f : Chan → Chan) : (s.onChan g f).used = s.used := rfl
@[simp] theorem State.onChan_unarmedF (s : State) (g : Fin 52) (f : Chan → Chan) : (s.onChan g f).unarmedF = s.unarmedF := rfl
@[simp] theorem State.onChan_cells (s : State) (g : Fin 52) (f : Chan → Chan) : (s.onChan g f).cells = s.cells := rfl
@[simp] theorem State.onChan_hk (s : State) (g : Fin 52) (f : Chan → Chan) : (s.onChan g f).hk = s.hk := rfl
@[simp] theorem State.onChan_pwm (s : State) (g : Fin 52) (f : Chan → Chan) : (s.onChan g f).pwm = s.pwm := rfl
@[simp] theorem State.onChan_loops (s : State) (g : Fin 52) (f : Chan → Chan) : (s.onChan g f).loops = s.loops := rfl
@[simp] theorem State.onChan_posIf (s : State) (g : Fin 52) (f : Chan → Chan) : (s.onChan g f).posIf = s.posIf := rfl
@[simp] theorem State.onChan_start (s : State) (g : Fin 52) (f : Chan → Chan) : (s.onChan g f).start = s.start := rfl
@[simp] theorem State.onChan_spc (s : State) (g : Fin 52) (f : Chan → Chan) : (s.onChan g f).spc = s.spc := rfl
@[simp] theorem State.onChan_cmd (s : State) (g : Fin 52) (f : Chan → Chan) : (s.onChan g f).cmd = s.cmd := rfl
@[simp] theorem State.onChan_outer (s : State) (g : Fin 52) (f : Chan → Chan) : (s.onChan g f).outer = s.outer := rfl
@[simp] theorem State.onChan_brake (s : State) (g : Fin 52) (f : Chan → Chan) : (s.onChan g f).brake = s.brake := rfl
@[simp] theorem State.onChan_armed (s : State) (g : Fin 52) (f : Chan → Chan) : (s.onChan g f).armed = s.armed := rfl
@[simp] theorem State.onChan_disarmed (s : State) (g : Fin 52) (f : Chan → Chan) : (s.onChan g f).disarmed = s.disarmed := rfl
@[simp] theorem State.onChan_mapBad (s : State) (g : Fin 52) (f : Chan → Chan) : (s.onChan g f).mapBad = s.mapBad := rfl
@[simp] theorem State.onChan_badChk (s : State) (g : Fin 52) (f : Chan → Chan) : (s.onChan g f).badChk = s.badChk := rfl
@[simp] theorem State.onChan_axes (s : State) (g : Fin 52) (f : Chan → Chan) : (s.onChan g f).axes = s.axes := rfl
@[simp] theorem State.onChan_moGen (s : State) (g : Fin 52) (f : Chan → Chan) : (s.onChan g f).moGen = s.moGen := rfl
@[simp] theorem State.onChan_shock (s : State) (g : Fin 52) (f : Chan → Chan) : (s.onChan g f).shock = s.shock := rfl
@[simp] theorem State.onChan_heave (s : State) (g : Fin 52) (f : Chan → Chan) : (s.onChan g f).heave = s.heave := rfl
@[simp] theorem State.onChan_hist (s : State) (g : Fin 52) (f : Chan → Chan) : (s.onChan g f).hist = s.hist := rfl
@[simp] theorem State.onChan_ring (s : State) (g : Fin 52) (f : Chan → Chan) : (s.onChan g f).ring = s.ring := rfl
@[simp] theorem State.onChan_em (s : State) (g : Fin 52) (f : Chan → Chan) : (s.onChan g f).em = s.em := rfl
@[simp] theorem State.onChan_reacts (s : State) (g : Fin 52) (f : Chan → Chan) : (s.onChan g f).reacts = s.reacts := rfl
@[simp] theorem State.onChan_chan (s : State) (g : Fin 52) (f : Chan → Chan) : (s.onChan g f).chan = vmod s.chan g f := rfl
@[simp] theorem State.onChan_br (s : State) (g : Fin 52) (f : Chan → Chan) : (s.onChan g f).br = s.br := rfl
@[simp] theorem State.onChan_cmp (s : State) (g : Fin 52) (f : Chan → Chan) : (s.onChan g f).cmp = s.cmp := rfl
@[simp] theorem State.onChan_chop (s : State) (g : Fin 52) (f : Chan → Chan) : (s.onChan g f).chop = s.chop := rfl
@[simp] theorem State.onChan_wind (s : State) (g : Fin 52) (f : Chan → Chan) : (s.onChan g f).wind = s.wind := rfl
@[simp] theorem State.onChan_stest (s : State) (g : Fin 52) (f : Chan → Chan) : (s.onChan g f).stest = s.stest := rfl
@[simp] theorem State.onChan_tap (s : State) (g : Fin 52) (f : Chan → Chan) : (s.onChan g f).tap = s.tap := rfl
@[simp] theorem State.onChan_die (s : State) (g : Fin 52) (f : Chan → Chan) : (s.onChan g f).die = s.die := rfl
@[simp] theorem State.onChan_garnet (s : State) (g : Fin 52) (f : Chan → Chan) : (s.onChan g f).garnet = s.garnet := rfl
@[simp] theorem State.onChan_slog (s : State) (g : Fin 52) (f : Chan → Chan) : (s.onChan g f).slog = s.slog := rfl
@[simp] theorem State.onChan_fab (s : State) (g : Fin 52) (f : Chan → Chan) : (s.onChan g f).fab = s.fab := rfl
@[simp] theorem State.onChan_clk (s : State) (g : Fin 52) (f : Chan → Chan) : (s.onChan g f).clk = s.clk := rfl
@[simp] theorem State.onChan_rst (s : State) (g : Fin 52) (f : Chan → Chan) : (s.onChan g f).rst = s.rst := rfl
@[simp] theorem State.onChan_vbat (s : State) (g : Fin 52) (f : Chan → Chan) : (s.onChan g f).vbat = s.vbat := rfl
@[simp] theorem State.onChan_recd (s : State) (g : Fin 52) (f : Chan → Chan) : (s.onChan g f).recd = s.recd := rfl
@[simp] theorem State.onChan_jrn (s : State) (g : Fin 52) (f : Chan → Chan) : (s.onChan g f).jrn = s.jrn := rfl
@[simp] theorem State.onChan_jwBase (s : State) (g : Fin 52) (f : Chan → Chan) : (s.onChan g f).jwBase = s.jwBase := rfl
@[simp] theorem State.onChan_nor (s : State) (g : Fin 52) (f : Chan → Chan) : (s.onChan g f).nor = s.nor := rfl
@[simp] theorem State.onChan_img (s : State) (g : Fin 52) (f : Chan → Chan) : (s.onChan g f).img = s.img := rfl
@[simp] theorem State.onChan_com (s : State) (g : Fin 52) (f : Chan → Chan) : (s.onChan g f).com = s.com := rfl
@[simp] theorem State.onChan_shadow (s : State) (g : Fin 52) (f : Chan → Chan) : (s.onChan g f).shadow = s.shadow := rfl
@[simp] theorem State.onChan_fw (s : State) (g : Fin 52) (f : Chan → Chan) : (s.onChan g f).fw = s.fw := rfl
@[simp] theorem State.onChan_av (s : State) (g : Fin 52) (f : Chan → Chan) : (s.onChan g f).av = s.av := rfl
@[simp] theorem State.onChan_cap (s : State) (g : Fin 52) (f : Chan → Chan) : (s.onChan g f).cap = s.cap := rfl
@[simp] theorem State.onChan_eth (s : State) (g : Fin 52) (f : Chan → Chan) : (s.onChan g f).eth = s.eth := rfl
@[simp] theorem State.onChan_time (s : State) (g : Fin 52) (f : Chan → Chan) : (s.onChan g f).time = s.time := rfl
@[simp] theorem State.onChan_can (s : State) (g : Fin 52) (f : Chan → Chan) : (s.onChan g f).can = s.can := rfl
@[simp] theorem State.onChan_onyx (s : State) (g : Fin 52) (f : Chan → Chan) : (s.onChan g f).onyx = s.onyx := rfl
@[simp] theorem State.onChan_latches (s : State) (g : Fin 52) (f : Chan → Chan) : (s.onChan g f).latches = s.latches := rfl

/-! ## `State.onCmp` -/

@[simp] theorem State.onCmp_pending (s : State) (i : Fin 96) (f : Cmp → Cmp) : (s.onCmp i f).pending = s.pending := rfl
@[simp] theorem State.onCmp_up (s : State) (i : Fin 96) (f : Cmp → Cmp) : (s.onCmp i f).up = s.up := rfl
@[simp] theorem State.onCmp_dev (s : State) (i : Fin 96) (f : Cmp → Cmp) : (s.onCmp i f).dev = s.dev := rfl
@[simp] theorem State.onCmp_devFrac (s : State) (i : Fin 96) (f : Cmp → Cmp) : (s.onCmp i f).devFrac = s.devFrac := rfl
@[simp] theorem State.onCmp_free (s : State) (i : Fin 96) (f : Cmp → Cmp) : (s.onCmp i f).free = s.free := rfl
@[simp] theorem State.onCmp_given (s : State) (i : Fin 96) (f : Cmp → Cmp) : (s.onCmp i f).given = s.given := rfl
@[simp] theorem State.onCmp_used (s : State) (i : Fin 96) (f : Cmp → Cmp) : (s.onCmp i f).used = s.used := rfl
@[simp] theorem State.onCmp_unarmedF (s : State) (i : Fin 96) (f : Cmp → Cmp) : (s.onCmp i f).unarmedF = s.unarmedF := rfl
@[simp] theorem State.onCmp_cells (s : State) (i : Fin 96) (f : Cmp → Cmp) : (s.onCmp i f).cells = s.cells := rfl
@[simp] theorem State.onCmp_hk (s : State) (i : Fin 96) (f : Cmp → Cmp) : (s.onCmp i f).hk = s.hk := rfl
@[simp] theorem State.onCmp_pwm (s : State) (i : Fin 96) (f : Cmp → Cmp) : (s.onCmp i f).pwm = s.pwm := rfl
@[simp] theorem State.onCmp_loops (s : State) (i : Fin 96) (f : Cmp → Cmp) : (s.onCmp i f).loops = s.loops := rfl
@[simp] theorem State.onCmp_posIf (s : State) (i : Fin 96) (f : Cmp → Cmp) : (s.onCmp i f).posIf = s.posIf := rfl
@[simp] theorem State.onCmp_start (s : State) (i : Fin 96) (f : Cmp → Cmp) : (s.onCmp i f).start = s.start := rfl
@[simp] theorem State.onCmp_spc (s : State) (i : Fin 96) (f : Cmp → Cmp) : (s.onCmp i f).spc = s.spc := rfl
@[simp] theorem State.onCmp_cmd (s : State) (i : Fin 96) (f : Cmp → Cmp) : (s.onCmp i f).cmd = s.cmd := rfl
@[simp] theorem State.onCmp_outer (s : State) (i : Fin 96) (f : Cmp → Cmp) : (s.onCmp i f).outer = s.outer := rfl
@[simp] theorem State.onCmp_brake (s : State) (i : Fin 96) (f : Cmp → Cmp) : (s.onCmp i f).brake = s.brake := rfl
@[simp] theorem State.onCmp_armed (s : State) (i : Fin 96) (f : Cmp → Cmp) : (s.onCmp i f).armed = s.armed := rfl
@[simp] theorem State.onCmp_disarmed (s : State) (i : Fin 96) (f : Cmp → Cmp) : (s.onCmp i f).disarmed = s.disarmed := rfl
@[simp] theorem State.onCmp_mapBad (s : State) (i : Fin 96) (f : Cmp → Cmp) : (s.onCmp i f).mapBad = s.mapBad := rfl
@[simp] theorem State.onCmp_badChk (s : State) (i : Fin 96) (f : Cmp → Cmp) : (s.onCmp i f).badChk = s.badChk := rfl
@[simp] theorem State.onCmp_axes (s : State) (i : Fin 96) (f : Cmp → Cmp) : (s.onCmp i f).axes = s.axes := rfl
@[simp] theorem State.onCmp_moGen (s : State) (i : Fin 96) (f : Cmp → Cmp) : (s.onCmp i f).moGen = s.moGen := rfl
@[simp] theorem State.onCmp_shock (s : State) (i : Fin 96) (f : Cmp → Cmp) : (s.onCmp i f).shock = s.shock := rfl
@[simp] theorem State.onCmp_heave (s : State) (i : Fin 96) (f : Cmp → Cmp) : (s.onCmp i f).heave = s.heave := rfl
@[simp] theorem State.onCmp_hist (s : State) (i : Fin 96) (f : Cmp → Cmp) : (s.onCmp i f).hist = s.hist := rfl
@[simp] theorem State.onCmp_ring (s : State) (i : Fin 96) (f : Cmp → Cmp) : (s.onCmp i f).ring = s.ring := rfl
@[simp] theorem State.onCmp_em (s : State) (i : Fin 96) (f : Cmp → Cmp) : (s.onCmp i f).em = s.em := rfl
@[simp] theorem State.onCmp_reacts (s : State) (i : Fin 96) (f : Cmp → Cmp) : (s.onCmp i f).reacts = s.reacts := rfl
@[simp] theorem State.onCmp_chan (s : State) (i : Fin 96) (f : Cmp → Cmp) : (s.onCmp i f).chan = s.chan := rfl
@[simp] theorem State.onCmp_br (s : State) (i : Fin 96) (f : Cmp → Cmp) : (s.onCmp i f).br = s.br := rfl
@[simp] theorem State.onCmp_cmp (s : State) (i : Fin 96) (f : Cmp → Cmp) : (s.onCmp i f).cmp = vmod s.cmp i f := rfl
@[simp] theorem State.onCmp_chop (s : State) (i : Fin 96) (f : Cmp → Cmp) : (s.onCmp i f).chop = s.chop := rfl
@[simp] theorem State.onCmp_wind (s : State) (i : Fin 96) (f : Cmp → Cmp) : (s.onCmp i f).wind = s.wind := rfl
@[simp] theorem State.onCmp_stest (s : State) (i : Fin 96) (f : Cmp → Cmp) : (s.onCmp i f).stest = s.stest := rfl
@[simp] theorem State.onCmp_tap (s : State) (i : Fin 96) (f : Cmp → Cmp) : (s.onCmp i f).tap = s.tap := rfl
@[simp] theorem State.onCmp_die (s : State) (i : Fin 96) (f : Cmp → Cmp) : (s.onCmp i f).die = s.die := rfl
@[simp] theorem State.onCmp_garnet (s : State) (i : Fin 96) (f : Cmp → Cmp) : (s.onCmp i f).garnet = s.garnet := rfl
@[simp] theorem State.onCmp_slog (s : State) (i : Fin 96) (f : Cmp → Cmp) : (s.onCmp i f).slog = s.slog := rfl
@[simp] theorem State.onCmp_fab (s : State) (i : Fin 96) (f : Cmp → Cmp) : (s.onCmp i f).fab = s.fab := rfl
@[simp] theorem State.onCmp_clk (s : State) (i : Fin 96) (f : Cmp → Cmp) : (s.onCmp i f).clk = s.clk := rfl
@[simp] theorem State.onCmp_rst (s : State) (i : Fin 96) (f : Cmp → Cmp) : (s.onCmp i f).rst = s.rst := rfl
@[simp] theorem State.onCmp_vbat (s : State) (i : Fin 96) (f : Cmp → Cmp) : (s.onCmp i f).vbat = s.vbat := rfl
@[simp] theorem State.onCmp_recd (s : State) (i : Fin 96) (f : Cmp → Cmp) : (s.onCmp i f).recd = s.recd := rfl
@[simp] theorem State.onCmp_jrn (s : State) (i : Fin 96) (f : Cmp → Cmp) : (s.onCmp i f).jrn = s.jrn := rfl
@[simp] theorem State.onCmp_jwBase (s : State) (i : Fin 96) (f : Cmp → Cmp) : (s.onCmp i f).jwBase = s.jwBase := rfl
@[simp] theorem State.onCmp_nor (s : State) (i : Fin 96) (f : Cmp → Cmp) : (s.onCmp i f).nor = s.nor := rfl
@[simp] theorem State.onCmp_img (s : State) (i : Fin 96) (f : Cmp → Cmp) : (s.onCmp i f).img = s.img := rfl
@[simp] theorem State.onCmp_com (s : State) (i : Fin 96) (f : Cmp → Cmp) : (s.onCmp i f).com = s.com := rfl
@[simp] theorem State.onCmp_shadow (s : State) (i : Fin 96) (f : Cmp → Cmp) : (s.onCmp i f).shadow = s.shadow := rfl
@[simp] theorem State.onCmp_fw (s : State) (i : Fin 96) (f : Cmp → Cmp) : (s.onCmp i f).fw = s.fw := rfl
@[simp] theorem State.onCmp_av (s : State) (i : Fin 96) (f : Cmp → Cmp) : (s.onCmp i f).av = s.av := rfl
@[simp] theorem State.onCmp_cap (s : State) (i : Fin 96) (f : Cmp → Cmp) : (s.onCmp i f).cap = s.cap := rfl
@[simp] theorem State.onCmp_eth (s : State) (i : Fin 96) (f : Cmp → Cmp) : (s.onCmp i f).eth = s.eth := rfl
@[simp] theorem State.onCmp_time (s : State) (i : Fin 96) (f : Cmp → Cmp) : (s.onCmp i f).time = s.time := rfl
@[simp] theorem State.onCmp_can (s : State) (i : Fin 96) (f : Cmp → Cmp) : (s.onCmp i f).can = s.can := rfl
@[simp] theorem State.onCmp_onyx (s : State) (i : Fin 96) (f : Cmp → Cmp) : (s.onCmp i f).onyx = s.onyx := rfl
@[simp] theorem State.onCmp_latches (s : State) (i : Fin 96) (f : Cmp → Cmp) : (s.onCmp i f).latches = s.latches := rfl

/-! ## `State.onChop` -/

@[simp] theorem State.onChop_pending (s : State) (c : Fin 4) (f : Chopper → Chopper) : (s.onChop c f).pending = s.pending := rfl
@[simp] theorem State.onChop_up (s : State) (c : Fin 4) (f : Chopper → Chopper) : (s.onChop c f).up = s.up := rfl
@[simp] theorem State.onChop_dev (s : State) (c : Fin 4) (f : Chopper → Chopper) : (s.onChop c f).dev = s.dev := rfl
@[simp] theorem State.onChop_devFrac (s : State) (c : Fin 4) (f : Chopper → Chopper) : (s.onChop c f).devFrac = s.devFrac := rfl
@[simp] theorem State.onChop_free (s : State) (c : Fin 4) (f : Chopper → Chopper) : (s.onChop c f).free = s.free := rfl
@[simp] theorem State.onChop_given (s : State) (c : Fin 4) (f : Chopper → Chopper) : (s.onChop c f).given = s.given := rfl
@[simp] theorem State.onChop_used (s : State) (c : Fin 4) (f : Chopper → Chopper) : (s.onChop c f).used = s.used := rfl
@[simp] theorem State.onChop_unarmedF (s : State) (c : Fin 4) (f : Chopper → Chopper) : (s.onChop c f).unarmedF = s.unarmedF := rfl
@[simp] theorem State.onChop_cells (s : State) (c : Fin 4) (f : Chopper → Chopper) : (s.onChop c f).cells = s.cells := rfl
@[simp] theorem State.onChop_hk (s : State) (c : Fin 4) (f : Chopper → Chopper) : (s.onChop c f).hk = s.hk := rfl
@[simp] theorem State.onChop_pwm (s : State) (c : Fin 4) (f : Chopper → Chopper) : (s.onChop c f).pwm = s.pwm := rfl
@[simp] theorem State.onChop_loops (s : State) (c : Fin 4) (f : Chopper → Chopper) : (s.onChop c f).loops = s.loops := rfl
@[simp] theorem State.onChop_posIf (s : State) (c : Fin 4) (f : Chopper → Chopper) : (s.onChop c f).posIf = s.posIf := rfl
@[simp] theorem State.onChop_start (s : State) (c : Fin 4) (f : Chopper → Chopper) : (s.onChop c f).start = s.start := rfl
@[simp] theorem State.onChop_spc (s : State) (c : Fin 4) (f : Chopper → Chopper) : (s.onChop c f).spc = s.spc := rfl
@[simp] theorem State.onChop_cmd (s : State) (c : Fin 4) (f : Chopper → Chopper) : (s.onChop c f).cmd = s.cmd := rfl
@[simp] theorem State.onChop_outer (s : State) (c : Fin 4) (f : Chopper → Chopper) : (s.onChop c f).outer = s.outer := rfl
@[simp] theorem State.onChop_brake (s : State) (c : Fin 4) (f : Chopper → Chopper) : (s.onChop c f).brake = s.brake := rfl
@[simp] theorem State.onChop_armed (s : State) (c : Fin 4) (f : Chopper → Chopper) : (s.onChop c f).armed = s.armed := rfl
@[simp] theorem State.onChop_disarmed (s : State) (c : Fin 4) (f : Chopper → Chopper) : (s.onChop c f).disarmed = s.disarmed := rfl
@[simp] theorem State.onChop_mapBad (s : State) (c : Fin 4) (f : Chopper → Chopper) : (s.onChop c f).mapBad = s.mapBad := rfl
@[simp] theorem State.onChop_badChk (s : State) (c : Fin 4) (f : Chopper → Chopper) : (s.onChop c f).badChk = s.badChk := rfl
@[simp] theorem State.onChop_axes (s : State) (c : Fin 4) (f : Chopper → Chopper) : (s.onChop c f).axes = s.axes := rfl
@[simp] theorem State.onChop_moGen (s : State) (c : Fin 4) (f : Chopper → Chopper) : (s.onChop c f).moGen = s.moGen := rfl
@[simp] theorem State.onChop_shock (s : State) (c : Fin 4) (f : Chopper → Chopper) : (s.onChop c f).shock = s.shock := rfl
@[simp] theorem State.onChop_heave (s : State) (c : Fin 4) (f : Chopper → Chopper) : (s.onChop c f).heave = s.heave := rfl
@[simp] theorem State.onChop_hist (s : State) (c : Fin 4) (f : Chopper → Chopper) : (s.onChop c f).hist = s.hist := rfl
@[simp] theorem State.onChop_ring (s : State) (c : Fin 4) (f : Chopper → Chopper) : (s.onChop c f).ring = s.ring := rfl
@[simp] theorem State.onChop_em (s : State) (c : Fin 4) (f : Chopper → Chopper) : (s.onChop c f).em = s.em := rfl
@[simp] theorem State.onChop_reacts (s : State) (c : Fin 4) (f : Chopper → Chopper) : (s.onChop c f).reacts = s.reacts := rfl
@[simp] theorem State.onChop_chan (s : State) (c : Fin 4) (f : Chopper → Chopper) : (s.onChop c f).chan = s.chan := rfl
@[simp] theorem State.onChop_br (s : State) (c : Fin 4) (f : Chopper → Chopper) : (s.onChop c f).br = s.br := rfl
@[simp] theorem State.onChop_cmp (s : State) (c : Fin 4) (f : Chopper → Chopper) : (s.onChop c f).cmp = s.cmp := rfl
@[simp] theorem State.onChop_chop (s : State) (c : Fin 4) (f : Chopper → Chopper) : (s.onChop c f).chop = vmod s.chop c f := rfl
@[simp] theorem State.onChop_wind (s : State) (c : Fin 4) (f : Chopper → Chopper) : (s.onChop c f).wind = s.wind := rfl
@[simp] theorem State.onChop_stest (s : State) (c : Fin 4) (f : Chopper → Chopper) : (s.onChop c f).stest = s.stest := rfl
@[simp] theorem State.onChop_tap (s : State) (c : Fin 4) (f : Chopper → Chopper) : (s.onChop c f).tap = s.tap := rfl
@[simp] theorem State.onChop_die (s : State) (c : Fin 4) (f : Chopper → Chopper) : (s.onChop c f).die = s.die := rfl
@[simp] theorem State.onChop_garnet (s : State) (c : Fin 4) (f : Chopper → Chopper) : (s.onChop c f).garnet = s.garnet := rfl
@[simp] theorem State.onChop_slog (s : State) (c : Fin 4) (f : Chopper → Chopper) : (s.onChop c f).slog = s.slog := rfl
@[simp] theorem State.onChop_fab (s : State) (c : Fin 4) (f : Chopper → Chopper) : (s.onChop c f).fab = s.fab := rfl
@[simp] theorem State.onChop_clk (s : State) (c : Fin 4) (f : Chopper → Chopper) : (s.onChop c f).clk = s.clk := rfl
@[simp] theorem State.onChop_rst (s : State) (c : Fin 4) (f : Chopper → Chopper) : (s.onChop c f).rst = s.rst := rfl
@[simp] theorem State.onChop_vbat (s : State) (c : Fin 4) (f : Chopper → Chopper) : (s.onChop c f).vbat = s.vbat := rfl
@[simp] theorem State.onChop_recd (s : State) (c : Fin 4) (f : Chopper → Chopper) : (s.onChop c f).recd = s.recd := rfl
@[simp] theorem State.onChop_jrn (s : State) (c : Fin 4) (f : Chopper → Chopper) : (s.onChop c f).jrn = s.jrn := rfl
@[simp] theorem State.onChop_jwBase (s : State) (c : Fin 4) (f : Chopper → Chopper) : (s.onChop c f).jwBase = s.jwBase := rfl
@[simp] theorem State.onChop_nor (s : State) (c : Fin 4) (f : Chopper → Chopper) : (s.onChop c f).nor = s.nor := rfl
@[simp] theorem State.onChop_img (s : State) (c : Fin 4) (f : Chopper → Chopper) : (s.onChop c f).img = s.img := rfl
@[simp] theorem State.onChop_com (s : State) (c : Fin 4) (f : Chopper → Chopper) : (s.onChop c f).com = s.com := rfl
@[simp] theorem State.onChop_shadow (s : State) (c : Fin 4) (f : Chopper → Chopper) : (s.onChop c f).shadow = s.shadow := rfl
@[simp] theorem State.onChop_fw (s : State) (c : Fin 4) (f : Chopper → Chopper) : (s.onChop c f).fw = s.fw := rfl
@[simp] theorem State.onChop_av (s : State) (c : Fin 4) (f : Chopper → Chopper) : (s.onChop c f).av = s.av := rfl
@[simp] theorem State.onChop_cap (s : State) (c : Fin 4) (f : Chopper → Chopper) : (s.onChop c f).cap = s.cap := rfl
@[simp] theorem State.onChop_eth (s : State) (c : Fin 4) (f : Chopper → Chopper) : (s.onChop c f).eth = s.eth := rfl
@[simp] theorem State.onChop_time (s : State) (c : Fin 4) (f : Chopper → Chopper) : (s.onChop c f).time = s.time := rfl
@[simp] theorem State.onChop_can (s : State) (c : Fin 4) (f : Chopper → Chopper) : (s.onChop c f).can = s.can := rfl
@[simp] theorem State.onChop_onyx (s : State) (c : Fin 4) (f : Chopper → Chopper) : (s.onChop c f).onyx = s.onyx := rfl
@[simp] theorem State.onChop_latches (s : State) (c : Fin 4) (f : Chopper → Chopper) : (s.onChop c f).latches = s.latches := rfl

/-! ## `State.onWind` -/

@[simp] theorem State.onWind_pending (s : State) (m : Fin 4) (f : Winding → Winding) : (s.onWind m f).pending = s.pending := rfl
@[simp] theorem State.onWind_up (s : State) (m : Fin 4) (f : Winding → Winding) : (s.onWind m f).up = s.up := rfl
@[simp] theorem State.onWind_dev (s : State) (m : Fin 4) (f : Winding → Winding) : (s.onWind m f).dev = s.dev := rfl
@[simp] theorem State.onWind_devFrac (s : State) (m : Fin 4) (f : Winding → Winding) : (s.onWind m f).devFrac = s.devFrac := rfl
@[simp] theorem State.onWind_free (s : State) (m : Fin 4) (f : Winding → Winding) : (s.onWind m f).free = s.free := rfl
@[simp] theorem State.onWind_given (s : State) (m : Fin 4) (f : Winding → Winding) : (s.onWind m f).given = s.given := rfl
@[simp] theorem State.onWind_used (s : State) (m : Fin 4) (f : Winding → Winding) : (s.onWind m f).used = s.used := rfl
@[simp] theorem State.onWind_unarmedF (s : State) (m : Fin 4) (f : Winding → Winding) : (s.onWind m f).unarmedF = s.unarmedF := rfl
@[simp] theorem State.onWind_cells (s : State) (m : Fin 4) (f : Winding → Winding) : (s.onWind m f).cells = s.cells := rfl
@[simp] theorem State.onWind_hk (s : State) (m : Fin 4) (f : Winding → Winding) : (s.onWind m f).hk = s.hk := rfl
@[simp] theorem State.onWind_pwm (s : State) (m : Fin 4) (f : Winding → Winding) : (s.onWind m f).pwm = s.pwm := rfl
@[simp] theorem State.onWind_loops (s : State) (m : Fin 4) (f : Winding → Winding) : (s.onWind m f).loops = s.loops := rfl
@[simp] theorem State.onWind_posIf (s : State) (m : Fin 4) (f : Winding → Winding) : (s.onWind m f).posIf = s.posIf := rfl
@[simp] theorem State.onWind_start (s : State) (m : Fin 4) (f : Winding → Winding) : (s.onWind m f).start = s.start := rfl
@[simp] theorem State.onWind_spc (s : State) (m : Fin 4) (f : Winding → Winding) : (s.onWind m f).spc = s.spc := rfl
@[simp] theorem State.onWind_cmd (s : State) (m : Fin 4) (f : Winding → Winding) : (s.onWind m f).cmd = s.cmd := rfl
@[simp] theorem State.onWind_outer (s : State) (m : Fin 4) (f : Winding → Winding) : (s.onWind m f).outer = s.outer := rfl
@[simp] theorem State.onWind_brake (s : State) (m : Fin 4) (f : Winding → Winding) : (s.onWind m f).brake = s.brake := rfl
@[simp] theorem State.onWind_armed (s : State) (m : Fin 4) (f : Winding → Winding) : (s.onWind m f).armed = s.armed := rfl
@[simp] theorem State.onWind_disarmed (s : State) (m : Fin 4) (f : Winding → Winding) : (s.onWind m f).disarmed = s.disarmed := rfl
@[simp] theorem State.onWind_mapBad (s : State) (m : Fin 4) (f : Winding → Winding) : (s.onWind m f).mapBad = s.mapBad := rfl
@[simp] theorem State.onWind_badChk (s : State) (m : Fin 4) (f : Winding → Winding) : (s.onWind m f).badChk = s.badChk := rfl
@[simp] theorem State.onWind_axes (s : State) (m : Fin 4) (f : Winding → Winding) : (s.onWind m f).axes = s.axes := rfl
@[simp] theorem State.onWind_moGen (s : State) (m : Fin 4) (f : Winding → Winding) : (s.onWind m f).moGen = s.moGen := rfl
@[simp] theorem State.onWind_shock (s : State) (m : Fin 4) (f : Winding → Winding) : (s.onWind m f).shock = s.shock := rfl
@[simp] theorem State.onWind_heave (s : State) (m : Fin 4) (f : Winding → Winding) : (s.onWind m f).heave = s.heave := rfl
@[simp] theorem State.onWind_hist (s : State) (m : Fin 4) (f : Winding → Winding) : (s.onWind m f).hist = s.hist := rfl
@[simp] theorem State.onWind_ring (s : State) (m : Fin 4) (f : Winding → Winding) : (s.onWind m f).ring = s.ring := rfl
@[simp] theorem State.onWind_em (s : State) (m : Fin 4) (f : Winding → Winding) : (s.onWind m f).em = s.em := rfl
@[simp] theorem State.onWind_reacts (s : State) (m : Fin 4) (f : Winding → Winding) : (s.onWind m f).reacts = s.reacts := rfl
@[simp] theorem State.onWind_chan (s : State) (m : Fin 4) (f : Winding → Winding) : (s.onWind m f).chan = s.chan := rfl
@[simp] theorem State.onWind_br (s : State) (m : Fin 4) (f : Winding → Winding) : (s.onWind m f).br = s.br := rfl
@[simp] theorem State.onWind_cmp (s : State) (m : Fin 4) (f : Winding → Winding) : (s.onWind m f).cmp = s.cmp := rfl
@[simp] theorem State.onWind_chop (s : State) (m : Fin 4) (f : Winding → Winding) : (s.onWind m f).chop = s.chop := rfl
@[simp] theorem State.onWind_wind (s : State) (m : Fin 4) (f : Winding → Winding) : (s.onWind m f).wind = vmod s.wind m f := rfl
@[simp] theorem State.onWind_stest (s : State) (m : Fin 4) (f : Winding → Winding) : (s.onWind m f).stest = s.stest := rfl
@[simp] theorem State.onWind_tap (s : State) (m : Fin 4) (f : Winding → Winding) : (s.onWind m f).tap = s.tap := rfl
@[simp] theorem State.onWind_die (s : State) (m : Fin 4) (f : Winding → Winding) : (s.onWind m f).die = s.die := rfl
@[simp] theorem State.onWind_garnet (s : State) (m : Fin 4) (f : Winding → Winding) : (s.onWind m f).garnet = s.garnet := rfl
@[simp] theorem State.onWind_slog (s : State) (m : Fin 4) (f : Winding → Winding) : (s.onWind m f).slog = s.slog := rfl
@[simp] theorem State.onWind_fab (s : State) (m : Fin 4) (f : Winding → Winding) : (s.onWind m f).fab = s.fab := rfl
@[simp] theorem State.onWind_clk (s : State) (m : Fin 4) (f : Winding → Winding) : (s.onWind m f).clk = s.clk := rfl
@[simp] theorem State.onWind_rst (s : State) (m : Fin 4) (f : Winding → Winding) : (s.onWind m f).rst = s.rst := rfl
@[simp] theorem State.onWind_vbat (s : State) (m : Fin 4) (f : Winding → Winding) : (s.onWind m f).vbat = s.vbat := rfl
@[simp] theorem State.onWind_recd (s : State) (m : Fin 4) (f : Winding → Winding) : (s.onWind m f).recd = s.recd := rfl
@[simp] theorem State.onWind_jrn (s : State) (m : Fin 4) (f : Winding → Winding) : (s.onWind m f).jrn = s.jrn := rfl
@[simp] theorem State.onWind_jwBase (s : State) (m : Fin 4) (f : Winding → Winding) : (s.onWind m f).jwBase = s.jwBase := rfl
@[simp] theorem State.onWind_nor (s : State) (m : Fin 4) (f : Winding → Winding) : (s.onWind m f).nor = s.nor := rfl
@[simp] theorem State.onWind_img (s : State) (m : Fin 4) (f : Winding → Winding) : (s.onWind m f).img = s.img := rfl
@[simp] theorem State.onWind_com (s : State) (m : Fin 4) (f : Winding → Winding) : (s.onWind m f).com = s.com := rfl
@[simp] theorem State.onWind_shadow (s : State) (m : Fin 4) (f : Winding → Winding) : (s.onWind m f).shadow = s.shadow := rfl
@[simp] theorem State.onWind_fw (s : State) (m : Fin 4) (f : Winding → Winding) : (s.onWind m f).fw = s.fw := rfl
@[simp] theorem State.onWind_av (s : State) (m : Fin 4) (f : Winding → Winding) : (s.onWind m f).av = s.av := rfl
@[simp] theorem State.onWind_cap (s : State) (m : Fin 4) (f : Winding → Winding) : (s.onWind m f).cap = s.cap := rfl
@[simp] theorem State.onWind_eth (s : State) (m : Fin 4) (f : Winding → Winding) : (s.onWind m f).eth = s.eth := rfl
@[simp] theorem State.onWind_time (s : State) (m : Fin 4) (f : Winding → Winding) : (s.onWind m f).time = s.time := rfl
@[simp] theorem State.onWind_can (s : State) (m : Fin 4) (f : Winding → Winding) : (s.onWind m f).can = s.can := rfl
@[simp] theorem State.onWind_onyx (s : State) (m : Fin 4) (f : Winding → Winding) : (s.onWind m f).onyx = s.onyx := rfl
@[simp] theorem State.onWind_latches (s : State) (m : Fin 4) (f : Winding → Winding) : (s.onWind m f).latches = s.latches := rfl

/-! ## `State.onGarnet` -/

@[simp] theorem State.onGarnet_pending (s : State) (f : Garnet → Garnet) : (s.onGarnet f).pending = s.pending := rfl
@[simp] theorem State.onGarnet_up (s : State) (f : Garnet → Garnet) : (s.onGarnet f).up = s.up := rfl
@[simp] theorem State.onGarnet_dev (s : State) (f : Garnet → Garnet) : (s.onGarnet f).dev = s.dev := rfl
@[simp] theorem State.onGarnet_devFrac (s : State) (f : Garnet → Garnet) : (s.onGarnet f).devFrac = s.devFrac := rfl
@[simp] theorem State.onGarnet_free (s : State) (f : Garnet → Garnet) : (s.onGarnet f).free = s.free := rfl
@[simp] theorem State.onGarnet_given (s : State) (f : Garnet → Garnet) : (s.onGarnet f).given = s.given := rfl
@[simp] theorem State.onGarnet_used (s : State) (f : Garnet → Garnet) : (s.onGarnet f).used = s.used := rfl
@[simp] theorem State.onGarnet_unarmedF (s : State) (f : Garnet → Garnet) : (s.onGarnet f).unarmedF = s.unarmedF := rfl
@[simp] theorem State.onGarnet_cells (s : State) (f : Garnet → Garnet) : (s.onGarnet f).cells = s.cells := rfl
@[simp] theorem State.onGarnet_hk (s : State) (f : Garnet → Garnet) : (s.onGarnet f).hk = s.hk := rfl
@[simp] theorem State.onGarnet_pwm (s : State) (f : Garnet → Garnet) : (s.onGarnet f).pwm = s.pwm := rfl
@[simp] theorem State.onGarnet_loops (s : State) (f : Garnet → Garnet) : (s.onGarnet f).loops = s.loops := rfl
@[simp] theorem State.onGarnet_posIf (s : State) (f : Garnet → Garnet) : (s.onGarnet f).posIf = s.posIf := rfl
@[simp] theorem State.onGarnet_start (s : State) (f : Garnet → Garnet) : (s.onGarnet f).start = s.start := rfl
@[simp] theorem State.onGarnet_spc (s : State) (f : Garnet → Garnet) : (s.onGarnet f).spc = s.spc := rfl
@[simp] theorem State.onGarnet_cmd (s : State) (f : Garnet → Garnet) : (s.onGarnet f).cmd = s.cmd := rfl
@[simp] theorem State.onGarnet_outer (s : State) (f : Garnet → Garnet) : (s.onGarnet f).outer = s.outer := rfl
@[simp] theorem State.onGarnet_brake (s : State) (f : Garnet → Garnet) : (s.onGarnet f).brake = s.brake := rfl
@[simp] theorem State.onGarnet_armed (s : State) (f : Garnet → Garnet) : (s.onGarnet f).armed = s.armed := rfl
@[simp] theorem State.onGarnet_disarmed (s : State) (f : Garnet → Garnet) : (s.onGarnet f).disarmed = s.disarmed := rfl
@[simp] theorem State.onGarnet_mapBad (s : State) (f : Garnet → Garnet) : (s.onGarnet f).mapBad = s.mapBad := rfl
@[simp] theorem State.onGarnet_badChk (s : State) (f : Garnet → Garnet) : (s.onGarnet f).badChk = s.badChk := rfl
@[simp] theorem State.onGarnet_axes (s : State) (f : Garnet → Garnet) : (s.onGarnet f).axes = s.axes := rfl
@[simp] theorem State.onGarnet_moGen (s : State) (f : Garnet → Garnet) : (s.onGarnet f).moGen = s.moGen := rfl
@[simp] theorem State.onGarnet_shock (s : State) (f : Garnet → Garnet) : (s.onGarnet f).shock = s.shock := rfl
@[simp] theorem State.onGarnet_heave (s : State) (f : Garnet → Garnet) : (s.onGarnet f).heave = s.heave := rfl
@[simp] theorem State.onGarnet_hist (s : State) (f : Garnet → Garnet) : (s.onGarnet f).hist = s.hist := rfl
@[simp] theorem State.onGarnet_ring (s : State) (f : Garnet → Garnet) : (s.onGarnet f).ring = s.ring := rfl
@[simp] theorem State.onGarnet_em (s : State) (f : Garnet → Garnet) : (s.onGarnet f).em = s.em := rfl
@[simp] theorem State.onGarnet_reacts (s : State) (f : Garnet → Garnet) : (s.onGarnet f).reacts = s.reacts := rfl
@[simp] theorem State.onGarnet_chan (s : State) (f : Garnet → Garnet) : (s.onGarnet f).chan = s.chan := rfl
@[simp] theorem State.onGarnet_br (s : State) (f : Garnet → Garnet) : (s.onGarnet f).br = s.br := rfl
@[simp] theorem State.onGarnet_cmp (s : State) (f : Garnet → Garnet) : (s.onGarnet f).cmp = s.cmp := rfl
@[simp] theorem State.onGarnet_chop (s : State) (f : Garnet → Garnet) : (s.onGarnet f).chop = s.chop := rfl
@[simp] theorem State.onGarnet_wind (s : State) (f : Garnet → Garnet) : (s.onGarnet f).wind = s.wind := rfl
@[simp] theorem State.onGarnet_stest (s : State) (f : Garnet → Garnet) : (s.onGarnet f).stest = s.stest := rfl
@[simp] theorem State.onGarnet_tap (s : State) (f : Garnet → Garnet) : (s.onGarnet f).tap = s.tap := rfl
@[simp] theorem State.onGarnet_die (s : State) (f : Garnet → Garnet) : (s.onGarnet f).die = s.die := rfl
@[simp] theorem State.onGarnet_garnet (s : State) (f : Garnet → Garnet) : (s.onGarnet f).garnet = f s.garnet := rfl
@[simp] theorem State.onGarnet_slog (s : State) (f : Garnet → Garnet) : (s.onGarnet f).slog = s.slog := rfl
@[simp] theorem State.onGarnet_fab (s : State) (f : Garnet → Garnet) : (s.onGarnet f).fab = s.fab := rfl
@[simp] theorem State.onGarnet_clk (s : State) (f : Garnet → Garnet) : (s.onGarnet f).clk = s.clk := rfl
@[simp] theorem State.onGarnet_rst (s : State) (f : Garnet → Garnet) : (s.onGarnet f).rst = s.rst := rfl
@[simp] theorem State.onGarnet_vbat (s : State) (f : Garnet → Garnet) : (s.onGarnet f).vbat = s.vbat := rfl
@[simp] theorem State.onGarnet_recd (s : State) (f : Garnet → Garnet) : (s.onGarnet f).recd = s.recd := rfl
@[simp] theorem State.onGarnet_jrn (s : State) (f : Garnet → Garnet) : (s.onGarnet f).jrn = s.jrn := rfl
@[simp] theorem State.onGarnet_jwBase (s : State) (f : Garnet → Garnet) : (s.onGarnet f).jwBase = s.jwBase := rfl
@[simp] theorem State.onGarnet_nor (s : State) (f : Garnet → Garnet) : (s.onGarnet f).nor = s.nor := rfl
@[simp] theorem State.onGarnet_img (s : State) (f : Garnet → Garnet) : (s.onGarnet f).img = s.img := rfl
@[simp] theorem State.onGarnet_com (s : State) (f : Garnet → Garnet) : (s.onGarnet f).com = s.com := rfl
@[simp] theorem State.onGarnet_shadow (s : State) (f : Garnet → Garnet) : (s.onGarnet f).shadow = s.shadow := rfl
@[simp] theorem State.onGarnet_fw (s : State) (f : Garnet → Garnet) : (s.onGarnet f).fw = s.fw := rfl
@[simp] theorem State.onGarnet_av (s : State) (f : Garnet → Garnet) : (s.onGarnet f).av = s.av := rfl
@[simp] theorem State.onGarnet_cap (s : State) (f : Garnet → Garnet) : (s.onGarnet f).cap = s.cap := rfl
@[simp] theorem State.onGarnet_eth (s : State) (f : Garnet → Garnet) : (s.onGarnet f).eth = s.eth := rfl
@[simp] theorem State.onGarnet_time (s : State) (f : Garnet → Garnet) : (s.onGarnet f).time = s.time := rfl
@[simp] theorem State.onGarnet_can (s : State) (f : Garnet → Garnet) : (s.onGarnet f).can = s.can := rfl
@[simp] theorem State.onGarnet_onyx (s : State) (f : Garnet → Garnet) : (s.onGarnet f).onyx = s.onyx := rfl
@[simp] theorem State.onGarnet_latches (s : State) (f : Garnet → Garnet) : (s.onGarnet f).latches = s.latches := rfl

/-! ## `State.onSmo` -/

@[simp] theorem State.onSmo_pending (s : State) (m : Fin 4) (f : SafeMo → SafeMo) : (s.onSmo m f).pending = s.pending := rfl
@[simp] theorem State.onSmo_up (s : State) (m : Fin 4) (f : SafeMo → SafeMo) : (s.onSmo m f).up = s.up := rfl
@[simp] theorem State.onSmo_dev (s : State) (m : Fin 4) (f : SafeMo → SafeMo) : (s.onSmo m f).dev = s.dev := rfl
@[simp] theorem State.onSmo_devFrac (s : State) (m : Fin 4) (f : SafeMo → SafeMo) : (s.onSmo m f).devFrac = s.devFrac := rfl
@[simp] theorem State.onSmo_free (s : State) (m : Fin 4) (f : SafeMo → SafeMo) : (s.onSmo m f).free = s.free := rfl
@[simp] theorem State.onSmo_given (s : State) (m : Fin 4) (f : SafeMo → SafeMo) : (s.onSmo m f).given = s.given := rfl
@[simp] theorem State.onSmo_used (s : State) (m : Fin 4) (f : SafeMo → SafeMo) : (s.onSmo m f).used = s.used := rfl
@[simp] theorem State.onSmo_unarmedF (s : State) (m : Fin 4) (f : SafeMo → SafeMo) : (s.onSmo m f).unarmedF = s.unarmedF := rfl
@[simp] theorem State.onSmo_cells (s : State) (m : Fin 4) (f : SafeMo → SafeMo) : (s.onSmo m f).cells = s.cells := rfl
@[simp] theorem State.onSmo_hk (s : State) (m : Fin 4) (f : SafeMo → SafeMo) : (s.onSmo m f).hk = s.hk := rfl
@[simp] theorem State.onSmo_pwm (s : State) (m : Fin 4) (f : SafeMo → SafeMo) : (s.onSmo m f).pwm = s.pwm := rfl
@[simp] theorem State.onSmo_loops (s : State) (m : Fin 4) (f : SafeMo → SafeMo) : (s.onSmo m f).loops = s.loops := rfl
@[simp] theorem State.onSmo_posIf (s : State) (m : Fin 4) (f : SafeMo → SafeMo) : (s.onSmo m f).posIf = s.posIf := rfl
@[simp] theorem State.onSmo_start (s : State) (m : Fin 4) (f : SafeMo → SafeMo) : (s.onSmo m f).start = s.start := rfl
@[simp] theorem State.onSmo_spc (s : State) (m : Fin 4) (f : SafeMo → SafeMo) : (s.onSmo m f).spc = s.spc := rfl
@[simp] theorem State.onSmo_cmd (s : State) (m : Fin 4) (f : SafeMo → SafeMo) : (s.onSmo m f).cmd = s.cmd := rfl
@[simp] theorem State.onSmo_outer (s : State) (m : Fin 4) (f : SafeMo → SafeMo) : (s.onSmo m f).outer = s.outer := rfl
@[simp] theorem State.onSmo_brake (s : State) (m : Fin 4) (f : SafeMo → SafeMo) : (s.onSmo m f).brake = s.brake := rfl
@[simp] theorem State.onSmo_armed (s : State) (m : Fin 4) (f : SafeMo → SafeMo) : (s.onSmo m f).armed = s.armed := rfl
@[simp] theorem State.onSmo_disarmed (s : State) (m : Fin 4) (f : SafeMo → SafeMo) : (s.onSmo m f).disarmed = s.disarmed := rfl
@[simp] theorem State.onSmo_mapBad (s : State) (m : Fin 4) (f : SafeMo → SafeMo) : (s.onSmo m f).mapBad = s.mapBad := rfl
@[simp] theorem State.onSmo_badChk (s : State) (m : Fin 4) (f : SafeMo → SafeMo) : (s.onSmo m f).badChk = s.badChk := rfl
@[simp] theorem State.onSmo_axes (s : State) (m : Fin 4) (f : SafeMo → SafeMo) : (s.onSmo m f).axes = s.axes := rfl
@[simp] theorem State.onSmo_moGen (s : State) (m : Fin 4) (f : SafeMo → SafeMo) : (s.onSmo m f).moGen = s.moGen := rfl
@[simp] theorem State.onSmo_shock (s : State) (m : Fin 4) (f : SafeMo → SafeMo) : (s.onSmo m f).shock = s.shock := rfl
@[simp] theorem State.onSmo_heave (s : State) (m : Fin 4) (f : SafeMo → SafeMo) : (s.onSmo m f).heave = s.heave := rfl
@[simp] theorem State.onSmo_hist (s : State) (m : Fin 4) (f : SafeMo → SafeMo) : (s.onSmo m f).hist = s.hist := rfl
@[simp] theorem State.onSmo_ring (s : State) (m : Fin 4) (f : SafeMo → SafeMo) : (s.onSmo m f).ring = s.ring := rfl
@[simp] theorem State.onSmo_em (s : State) (m : Fin 4) (f : SafeMo → SafeMo) : (s.onSmo m f).em = s.em := rfl
@[simp] theorem State.onSmo_reacts (s : State) (m : Fin 4) (f : SafeMo → SafeMo) : (s.onSmo m f).reacts = s.reacts := rfl
@[simp] theorem State.onSmo_chan (s : State) (m : Fin 4) (f : SafeMo → SafeMo) : (s.onSmo m f).chan = s.chan := rfl
@[simp] theorem State.onSmo_br (s : State) (m : Fin 4) (f : SafeMo → SafeMo) : (s.onSmo m f).br = s.br := rfl
@[simp] theorem State.onSmo_cmp (s : State) (m : Fin 4) (f : SafeMo → SafeMo) : (s.onSmo m f).cmp = s.cmp := rfl
@[simp] theorem State.onSmo_chop (s : State) (m : Fin 4) (f : SafeMo → SafeMo) : (s.onSmo m f).chop = s.chop := rfl
@[simp] theorem State.onSmo_wind (s : State) (m : Fin 4) (f : SafeMo → SafeMo) : (s.onSmo m f).wind = s.wind := rfl
@[simp] theorem State.onSmo_stest (s : State) (m : Fin 4) (f : SafeMo → SafeMo) : (s.onSmo m f).stest = s.stest := rfl
@[simp] theorem State.onSmo_tap (s : State) (m : Fin 4) (f : SafeMo → SafeMo) : (s.onSmo m f).tap = s.tap := rfl
@[simp] theorem State.onSmo_die (s : State) (m : Fin 4) (f : SafeMo → SafeMo) : (s.onSmo m f).die = s.die := rfl
@[simp] theorem State.onSmo_garnet (s : State) (m : Fin 4) (f : SafeMo → SafeMo) : (s.onSmo m f).garnet = { s.garnet with mo := vmod s.garnet.mo m f } := rfl
@[simp] theorem State.onSmo_slog (s : State) (m : Fin 4) (f : SafeMo → SafeMo) : (s.onSmo m f).slog = s.slog := rfl
@[simp] theorem State.onSmo_fab (s : State) (m : Fin 4) (f : SafeMo → SafeMo) : (s.onSmo m f).fab = s.fab := rfl
@[simp] theorem State.onSmo_clk (s : State) (m : Fin 4) (f : SafeMo → SafeMo) : (s.onSmo m f).clk = s.clk := rfl
@[simp] theorem State.onSmo_rst (s : State) (m : Fin 4) (f : SafeMo → SafeMo) : (s.onSmo m f).rst = s.rst := rfl
@[simp] theorem State.onSmo_vbat (s : State) (m : Fin 4) (f : SafeMo → SafeMo) : (s.onSmo m f).vbat = s.vbat := rfl
@[simp] theorem State.onSmo_recd (s : State) (m : Fin 4) (f : SafeMo → SafeMo) : (s.onSmo m f).recd = s.recd := rfl
@[simp] theorem State.onSmo_jrn (s : State) (m : Fin 4) (f : SafeMo → SafeMo) : (s.onSmo m f).jrn = s.jrn := rfl
@[simp] theorem State.onSmo_jwBase (s : State) (m : Fin 4) (f : SafeMo → SafeMo) : (s.onSmo m f).jwBase = s.jwBase := rfl
@[simp] theorem State.onSmo_nor (s : State) (m : Fin 4) (f : SafeMo → SafeMo) : (s.onSmo m f).nor = s.nor := rfl
@[simp] theorem State.onSmo_img (s : State) (m : Fin 4) (f : SafeMo → SafeMo) : (s.onSmo m f).img = s.img := rfl
@[simp] theorem State.onSmo_com (s : State) (m : Fin 4) (f : SafeMo → SafeMo) : (s.onSmo m f).com = s.com := rfl
@[simp] theorem State.onSmo_shadow (s : State) (m : Fin 4) (f : SafeMo → SafeMo) : (s.onSmo m f).shadow = s.shadow := rfl
@[simp] theorem State.onSmo_fw (s : State) (m : Fin 4) (f : SafeMo → SafeMo) : (s.onSmo m f).fw = s.fw := rfl
@[simp] theorem State.onSmo_av (s : State) (m : Fin 4) (f : SafeMo → SafeMo) : (s.onSmo m f).av = s.av := rfl
@[simp] theorem State.onSmo_cap (s : State) (m : Fin 4) (f : SafeMo → SafeMo) : (s.onSmo m f).cap = s.cap := rfl
@[simp] theorem State.onSmo_eth (s : State) (m : Fin 4) (f : SafeMo → SafeMo) : (s.onSmo m f).eth = s.eth := rfl
@[simp] theorem State.onSmo_time (s : State) (m : Fin 4) (f : SafeMo → SafeMo) : (s.onSmo m f).time = s.time := rfl
@[simp] theorem State.onSmo_can (s : State) (m : Fin 4) (f : SafeMo → SafeMo) : (s.onSmo m f).can = s.can := rfl
@[simp] theorem State.onSmo_onyx (s : State) (m : Fin 4) (f : SafeMo → SafeMo) : (s.onSmo m f).onyx = s.onyx := rfl
@[simp] theorem State.onSmo_latches (s : State) (m : Fin 4) (f : SafeMo → SafeMo) : (s.onSmo m f).latches = s.latches := rfl

/-! ## `State.onFab` -/

@[simp] theorem State.onFab_pending (s : State) (f : Fabric → Fabric) : (s.onFab f).pending = s.pending := rfl
@[simp] theorem State.onFab_up (s : State) (f : Fabric → Fabric) : (s.onFab f).up = s.up := rfl
@[simp] theorem State.onFab_dev (s : State) (f : Fabric → Fabric) : (s.onFab f).dev = s.dev := rfl
@[simp] theorem State.onFab_devFrac (s : State) (f : Fabric → Fabric) : (s.onFab f).devFrac = s.devFrac := rfl
@[simp] theorem State.onFab_free (s : State) (f : Fabric → Fabric) : (s.onFab f).free = s.free := rfl
@[simp] theorem State.onFab_given (s : State) (f : Fabric → Fabric) : (s.onFab f).given = s.given := rfl
@[simp] theorem State.onFab_used (s : State) (f : Fabric → Fabric) : (s.onFab f).used = s.used := rfl
@[simp] theorem State.onFab_unarmedF (s : State) (f : Fabric → Fabric) : (s.onFab f).unarmedF = s.unarmedF := rfl
@[simp] theorem State.onFab_cells (s : State) (f : Fabric → Fabric) : (s.onFab f).cells = s.cells := rfl
@[simp] theorem State.onFab_hk (s : State) (f : Fabric → Fabric) : (s.onFab f).hk = s.hk := rfl
@[simp] theorem State.onFab_pwm (s : State) (f : Fabric → Fabric) : (s.onFab f).pwm = s.pwm := rfl
@[simp] theorem State.onFab_loops (s : State) (f : Fabric → Fabric) : (s.onFab f).loops = s.loops := rfl
@[simp] theorem State.onFab_posIf (s : State) (f : Fabric → Fabric) : (s.onFab f).posIf = s.posIf := rfl
@[simp] theorem State.onFab_start (s : State) (f : Fabric → Fabric) : (s.onFab f).start = s.start := rfl
@[simp] theorem State.onFab_spc (s : State) (f : Fabric → Fabric) : (s.onFab f).spc = s.spc := rfl
@[simp] theorem State.onFab_cmd (s : State) (f : Fabric → Fabric) : (s.onFab f).cmd = s.cmd := rfl
@[simp] theorem State.onFab_outer (s : State) (f : Fabric → Fabric) : (s.onFab f).outer = s.outer := rfl
@[simp] theorem State.onFab_brake (s : State) (f : Fabric → Fabric) : (s.onFab f).brake = s.brake := rfl
@[simp] theorem State.onFab_armed (s : State) (f : Fabric → Fabric) : (s.onFab f).armed = s.armed := rfl
@[simp] theorem State.onFab_disarmed (s : State) (f : Fabric → Fabric) : (s.onFab f).disarmed = s.disarmed := rfl
@[simp] theorem State.onFab_mapBad (s : State) (f : Fabric → Fabric) : (s.onFab f).mapBad = s.mapBad := rfl
@[simp] theorem State.onFab_badChk (s : State) (f : Fabric → Fabric) : (s.onFab f).badChk = s.badChk := rfl
@[simp] theorem State.onFab_axes (s : State) (f : Fabric → Fabric) : (s.onFab f).axes = s.axes := rfl
@[simp] theorem State.onFab_moGen (s : State) (f : Fabric → Fabric) : (s.onFab f).moGen = s.moGen := rfl
@[simp] theorem State.onFab_shock (s : State) (f : Fabric → Fabric) : (s.onFab f).shock = s.shock := rfl
@[simp] theorem State.onFab_heave (s : State) (f : Fabric → Fabric) : (s.onFab f).heave = s.heave := rfl
@[simp] theorem State.onFab_hist (s : State) (f : Fabric → Fabric) : (s.onFab f).hist = s.hist := rfl
@[simp] theorem State.onFab_ring (s : State) (f : Fabric → Fabric) : (s.onFab f).ring = s.ring := rfl
@[simp] theorem State.onFab_em (s : State) (f : Fabric → Fabric) : (s.onFab f).em = s.em := rfl
@[simp] theorem State.onFab_reacts (s : State) (f : Fabric → Fabric) : (s.onFab f).reacts = s.reacts := rfl
@[simp] theorem State.onFab_chan (s : State) (f : Fabric → Fabric) : (s.onFab f).chan = s.chan := rfl
@[simp] theorem State.onFab_br (s : State) (f : Fabric → Fabric) : (s.onFab f).br = s.br := rfl
@[simp] theorem State.onFab_cmp (s : State) (f : Fabric → Fabric) : (s.onFab f).cmp = s.cmp := rfl
@[simp] theorem State.onFab_chop (s : State) (f : Fabric → Fabric) : (s.onFab f).chop = s.chop := rfl
@[simp] theorem State.onFab_wind (s : State) (f : Fabric → Fabric) : (s.onFab f).wind = s.wind := rfl
@[simp] theorem State.onFab_stest (s : State) (f : Fabric → Fabric) : (s.onFab f).stest = s.stest := rfl
@[simp] theorem State.onFab_tap (s : State) (f : Fabric → Fabric) : (s.onFab f).tap = s.tap := rfl
@[simp] theorem State.onFab_die (s : State) (f : Fabric → Fabric) : (s.onFab f).die = s.die := rfl
@[simp] theorem State.onFab_garnet (s : State) (f : Fabric → Fabric) : (s.onFab f).garnet = s.garnet := rfl
@[simp] theorem State.onFab_slog (s : State) (f : Fabric → Fabric) : (s.onFab f).slog = s.slog := rfl
@[simp] theorem State.onFab_fab (s : State) (f : Fabric → Fabric) : (s.onFab f).fab = f s.fab := rfl
@[simp] theorem State.onFab_clk (s : State) (f : Fabric → Fabric) : (s.onFab f).clk = s.clk := rfl
@[simp] theorem State.onFab_rst (s : State) (f : Fabric → Fabric) : (s.onFab f).rst = s.rst := rfl
@[simp] theorem State.onFab_vbat (s : State) (f : Fabric → Fabric) : (s.onFab f).vbat = s.vbat := rfl
@[simp] theorem State.onFab_recd (s : State) (f : Fabric → Fabric) : (s.onFab f).recd = s.recd := rfl
@[simp] theorem State.onFab_jrn (s : State) (f : Fabric → Fabric) : (s.onFab f).jrn = s.jrn := rfl
@[simp] theorem State.onFab_jwBase (s : State) (f : Fabric → Fabric) : (s.onFab f).jwBase = s.jwBase := rfl
@[simp] theorem State.onFab_nor (s : State) (f : Fabric → Fabric) : (s.onFab f).nor = s.nor := rfl
@[simp] theorem State.onFab_img (s : State) (f : Fabric → Fabric) : (s.onFab f).img = s.img := rfl
@[simp] theorem State.onFab_com (s : State) (f : Fabric → Fabric) : (s.onFab f).com = s.com := rfl
@[simp] theorem State.onFab_shadow (s : State) (f : Fabric → Fabric) : (s.onFab f).shadow = s.shadow := rfl
@[simp] theorem State.onFab_fw (s : State) (f : Fabric → Fabric) : (s.onFab f).fw = s.fw := rfl
@[simp] theorem State.onFab_av (s : State) (f : Fabric → Fabric) : (s.onFab f).av = s.av := rfl
@[simp] theorem State.onFab_cap (s : State) (f : Fabric → Fabric) : (s.onFab f).cap = s.cap := rfl
@[simp] theorem State.onFab_eth (s : State) (f : Fabric → Fabric) : (s.onFab f).eth = s.eth := rfl
@[simp] theorem State.onFab_time (s : State) (f : Fabric → Fabric) : (s.onFab f).time = s.time := rfl
@[simp] theorem State.onFab_can (s : State) (f : Fabric → Fabric) : (s.onFab f).can = s.can := rfl
@[simp] theorem State.onFab_onyx (s : State) (f : Fabric → Fabric) : (s.onFab f).onyx = s.onyx := rfl
@[simp] theorem State.onFab_latches (s : State) (f : Fabric → Fabric) : (s.onFab f).latches = s.latches := rfl

/-! ## `State.onFlow` -/

@[simp] theorem State.onFlow_pending (s : State) (i : Fin 256) (f : Flow → Flow) : (s.onFlow i f).pending = s.pending := rfl
@[simp] theorem State.onFlow_up (s : State) (i : Fin 256) (f : Flow → Flow) : (s.onFlow i f).up = s.up := rfl
@[simp] theorem State.onFlow_dev (s : State) (i : Fin 256) (f : Flow → Flow) : (s.onFlow i f).dev = s.dev := rfl
@[simp] theorem State.onFlow_devFrac (s : State) (i : Fin 256) (f : Flow → Flow) : (s.onFlow i f).devFrac = s.devFrac := rfl
@[simp] theorem State.onFlow_free (s : State) (i : Fin 256) (f : Flow → Flow) : (s.onFlow i f).free = s.free := rfl
@[simp] theorem State.onFlow_given (s : State) (i : Fin 256) (f : Flow → Flow) : (s.onFlow i f).given = s.given := rfl
@[simp] theorem State.onFlow_used (s : State) (i : Fin 256) (f : Flow → Flow) : (s.onFlow i f).used = s.used := rfl
@[simp] theorem State.onFlow_unarmedF (s : State) (i : Fin 256) (f : Flow → Flow) : (s.onFlow i f).unarmedF = s.unarmedF := rfl
@[simp] theorem State.onFlow_cells (s : State) (i : Fin 256) (f : Flow → Flow) : (s.onFlow i f).cells = s.cells := rfl
@[simp] theorem State.onFlow_hk (s : State) (i : Fin 256) (f : Flow → Flow) : (s.onFlow i f).hk = s.hk := rfl
@[simp] theorem State.onFlow_pwm (s : State) (i : Fin 256) (f : Flow → Flow) : (s.onFlow i f).pwm = s.pwm := rfl
@[simp] theorem State.onFlow_loops (s : State) (i : Fin 256) (f : Flow → Flow) : (s.onFlow i f).loops = s.loops := rfl
@[simp] theorem State.onFlow_posIf (s : State) (i : Fin 256) (f : Flow → Flow) : (s.onFlow i f).posIf = s.posIf := rfl
@[simp] theorem State.onFlow_start (s : State) (i : Fin 256) (f : Flow → Flow) : (s.onFlow i f).start = s.start := rfl
@[simp] theorem State.onFlow_spc (s : State) (i : Fin 256) (f : Flow → Flow) : (s.onFlow i f).spc = s.spc := rfl
@[simp] theorem State.onFlow_cmd (s : State) (i : Fin 256) (f : Flow → Flow) : (s.onFlow i f).cmd = s.cmd := rfl
@[simp] theorem State.onFlow_outer (s : State) (i : Fin 256) (f : Flow → Flow) : (s.onFlow i f).outer = s.outer := rfl
@[simp] theorem State.onFlow_brake (s : State) (i : Fin 256) (f : Flow → Flow) : (s.onFlow i f).brake = s.brake := rfl
@[simp] theorem State.onFlow_armed (s : State) (i : Fin 256) (f : Flow → Flow) : (s.onFlow i f).armed = s.armed := rfl
@[simp] theorem State.onFlow_disarmed (s : State) (i : Fin 256) (f : Flow → Flow) : (s.onFlow i f).disarmed = s.disarmed := rfl
@[simp] theorem State.onFlow_mapBad (s : State) (i : Fin 256) (f : Flow → Flow) : (s.onFlow i f).mapBad = s.mapBad := rfl
@[simp] theorem State.onFlow_badChk (s : State) (i : Fin 256) (f : Flow → Flow) : (s.onFlow i f).badChk = s.badChk := rfl
@[simp] theorem State.onFlow_axes (s : State) (i : Fin 256) (f : Flow → Flow) : (s.onFlow i f).axes = s.axes := rfl
@[simp] theorem State.onFlow_moGen (s : State) (i : Fin 256) (f : Flow → Flow) : (s.onFlow i f).moGen = s.moGen := rfl
@[simp] theorem State.onFlow_shock (s : State) (i : Fin 256) (f : Flow → Flow) : (s.onFlow i f).shock = s.shock := rfl
@[simp] theorem State.onFlow_heave (s : State) (i : Fin 256) (f : Flow → Flow) : (s.onFlow i f).heave = s.heave := rfl
@[simp] theorem State.onFlow_hist (s : State) (i : Fin 256) (f : Flow → Flow) : (s.onFlow i f).hist = s.hist := rfl
@[simp] theorem State.onFlow_ring (s : State) (i : Fin 256) (f : Flow → Flow) : (s.onFlow i f).ring = s.ring := rfl
@[simp] theorem State.onFlow_em (s : State) (i : Fin 256) (f : Flow → Flow) : (s.onFlow i f).em = s.em := rfl
@[simp] theorem State.onFlow_reacts (s : State) (i : Fin 256) (f : Flow → Flow) : (s.onFlow i f).reacts = s.reacts := rfl
@[simp] theorem State.onFlow_chan (s : State) (i : Fin 256) (f : Flow → Flow) : (s.onFlow i f).chan = s.chan := rfl
@[simp] theorem State.onFlow_br (s : State) (i : Fin 256) (f : Flow → Flow) : (s.onFlow i f).br = s.br := rfl
@[simp] theorem State.onFlow_cmp (s : State) (i : Fin 256) (f : Flow → Flow) : (s.onFlow i f).cmp = s.cmp := rfl
@[simp] theorem State.onFlow_chop (s : State) (i : Fin 256) (f : Flow → Flow) : (s.onFlow i f).chop = s.chop := rfl
@[simp] theorem State.onFlow_wind (s : State) (i : Fin 256) (f : Flow → Flow) : (s.onFlow i f).wind = s.wind := rfl
@[simp] theorem State.onFlow_stest (s : State) (i : Fin 256) (f : Flow → Flow) : (s.onFlow i f).stest = s.stest := rfl
@[simp] theorem State.onFlow_tap (s : State) (i : Fin 256) (f : Flow → Flow) : (s.onFlow i f).tap = s.tap := rfl
@[simp] theorem State.onFlow_die (s : State) (i : Fin 256) (f : Flow → Flow) : (s.onFlow i f).die = s.die := rfl
@[simp] theorem State.onFlow_garnet (s : State) (i : Fin 256) (f : Flow → Flow) : (s.onFlow i f).garnet = s.garnet := rfl
@[simp] theorem State.onFlow_slog (s : State) (i : Fin 256) (f : Flow → Flow) : (s.onFlow i f).slog = s.slog := rfl
@[simp] theorem State.onFlow_fab (s : State) (i : Fin 256) (f : Flow → Flow) : (s.onFlow i f).fab = { s.fab with flows := vmod s.fab.flows i f } := rfl
@[simp] theorem State.onFlow_clk (s : State) (i : Fin 256) (f : Flow → Flow) : (s.onFlow i f).clk = s.clk := rfl
@[simp] theorem State.onFlow_rst (s : State) (i : Fin 256) (f : Flow → Flow) : (s.onFlow i f).rst = s.rst := rfl
@[simp] theorem State.onFlow_vbat (s : State) (i : Fin 256) (f : Flow → Flow) : (s.onFlow i f).vbat = s.vbat := rfl
@[simp] theorem State.onFlow_recd (s : State) (i : Fin 256) (f : Flow → Flow) : (s.onFlow i f).recd = s.recd := rfl
@[simp] theorem State.onFlow_jrn (s : State) (i : Fin 256) (f : Flow → Flow) : (s.onFlow i f).jrn = s.jrn := rfl
@[simp] theorem State.onFlow_jwBase (s : State) (i : Fin 256) (f : Flow → Flow) : (s.onFlow i f).jwBase = s.jwBase := rfl
@[simp] theorem State.onFlow_nor (s : State) (i : Fin 256) (f : Flow → Flow) : (s.onFlow i f).nor = s.nor := rfl
@[simp] theorem State.onFlow_img (s : State) (i : Fin 256) (f : Flow → Flow) : (s.onFlow i f).img = s.img := rfl
@[simp] theorem State.onFlow_com (s : State) (i : Fin 256) (f : Flow → Flow) : (s.onFlow i f).com = s.com := rfl
@[simp] theorem State.onFlow_shadow (s : State) (i : Fin 256) (f : Flow → Flow) : (s.onFlow i f).shadow = s.shadow := rfl
@[simp] theorem State.onFlow_fw (s : State) (i : Fin 256) (f : Flow → Flow) : (s.onFlow i f).fw = s.fw := rfl
@[simp] theorem State.onFlow_av (s : State) (i : Fin 256) (f : Flow → Flow) : (s.onFlow i f).av = s.av := rfl
@[simp] theorem State.onFlow_cap (s : State) (i : Fin 256) (f : Flow → Flow) : (s.onFlow i f).cap = s.cap := rfl
@[simp] theorem State.onFlow_eth (s : State) (i : Fin 256) (f : Flow → Flow) : (s.onFlow i f).eth = s.eth := rfl
@[simp] theorem State.onFlow_time (s : State) (i : Fin 256) (f : Flow → Flow) : (s.onFlow i f).time = s.time := rfl
@[simp] theorem State.onFlow_can (s : State) (i : Fin 256) (f : Flow → Flow) : (s.onFlow i f).can = s.can := rfl
@[simp] theorem State.onFlow_onyx (s : State) (i : Fin 256) (f : Flow → Flow) : (s.onFlow i f).onyx = s.onyx := rfl
@[simp] theorem State.onFlow_latches (s : State) (i : Fin 256) (f : Flow → Flow) : (s.onFlow i f).latches = s.latches := rfl

/-! ## `State.onClk` -/

@[simp] theorem State.onClk_pending (s : State) (f : Clocks → Clocks) : (s.onClk f).pending = s.pending := rfl
@[simp] theorem State.onClk_up (s : State) (f : Clocks → Clocks) : (s.onClk f).up = s.up := rfl
@[simp] theorem State.onClk_dev (s : State) (f : Clocks → Clocks) : (s.onClk f).dev = s.dev := rfl
@[simp] theorem State.onClk_devFrac (s : State) (f : Clocks → Clocks) : (s.onClk f).devFrac = s.devFrac := rfl
@[simp] theorem State.onClk_free (s : State) (f : Clocks → Clocks) : (s.onClk f).free = s.free := rfl
@[simp] theorem State.onClk_given (s : State) (f : Clocks → Clocks) : (s.onClk f).given = s.given := rfl
@[simp] theorem State.onClk_used (s : State) (f : Clocks → Clocks) : (s.onClk f).used = s.used := rfl
@[simp] theorem State.onClk_unarmedF (s : State) (f : Clocks → Clocks) : (s.onClk f).unarmedF = s.unarmedF := rfl
@[simp] theorem State.onClk_cells (s : State) (f : Clocks → Clocks) : (s.onClk f).cells = s.cells := rfl
@[simp] theorem State.onClk_hk (s : State) (f : Clocks → Clocks) : (s.onClk f).hk = s.hk := rfl
@[simp] theorem State.onClk_pwm (s : State) (f : Clocks → Clocks) : (s.onClk f).pwm = s.pwm := rfl
@[simp] theorem State.onClk_loops (s : State) (f : Clocks → Clocks) : (s.onClk f).loops = s.loops := rfl
@[simp] theorem State.onClk_posIf (s : State) (f : Clocks → Clocks) : (s.onClk f).posIf = s.posIf := rfl
@[simp] theorem State.onClk_start (s : State) (f : Clocks → Clocks) : (s.onClk f).start = s.start := rfl
@[simp] theorem State.onClk_spc (s : State) (f : Clocks → Clocks) : (s.onClk f).spc = s.spc := rfl
@[simp] theorem State.onClk_cmd (s : State) (f : Clocks → Clocks) : (s.onClk f).cmd = s.cmd := rfl
@[simp] theorem State.onClk_outer (s : State) (f : Clocks → Clocks) : (s.onClk f).outer = s.outer := rfl
@[simp] theorem State.onClk_brake (s : State) (f : Clocks → Clocks) : (s.onClk f).brake = s.brake := rfl
@[simp] theorem State.onClk_armed (s : State) (f : Clocks → Clocks) : (s.onClk f).armed = s.armed := rfl
@[simp] theorem State.onClk_disarmed (s : State) (f : Clocks → Clocks) : (s.onClk f).disarmed = s.disarmed := rfl
@[simp] theorem State.onClk_mapBad (s : State) (f : Clocks → Clocks) : (s.onClk f).mapBad = s.mapBad := rfl
@[simp] theorem State.onClk_badChk (s : State) (f : Clocks → Clocks) : (s.onClk f).badChk = s.badChk := rfl
@[simp] theorem State.onClk_axes (s : State) (f : Clocks → Clocks) : (s.onClk f).axes = s.axes := rfl
@[simp] theorem State.onClk_moGen (s : State) (f : Clocks → Clocks) : (s.onClk f).moGen = s.moGen := rfl
@[simp] theorem State.onClk_shock (s : State) (f : Clocks → Clocks) : (s.onClk f).shock = s.shock := rfl
@[simp] theorem State.onClk_heave (s : State) (f : Clocks → Clocks) : (s.onClk f).heave = s.heave := rfl
@[simp] theorem State.onClk_hist (s : State) (f : Clocks → Clocks) : (s.onClk f).hist = s.hist := rfl
@[simp] theorem State.onClk_ring (s : State) (f : Clocks → Clocks) : (s.onClk f).ring = s.ring := rfl
@[simp] theorem State.onClk_em (s : State) (f : Clocks → Clocks) : (s.onClk f).em = s.em := rfl
@[simp] theorem State.onClk_reacts (s : State) (f : Clocks → Clocks) : (s.onClk f).reacts = s.reacts := rfl
@[simp] theorem State.onClk_chan (s : State) (f : Clocks → Clocks) : (s.onClk f).chan = s.chan := rfl
@[simp] theorem State.onClk_br (s : State) (f : Clocks → Clocks) : (s.onClk f).br = s.br := rfl
@[simp] theorem State.onClk_cmp (s : State) (f : Clocks → Clocks) : (s.onClk f).cmp = s.cmp := rfl
@[simp] theorem State.onClk_chop (s : State) (f : Clocks → Clocks) : (s.onClk f).chop = s.chop := rfl
@[simp] theorem State.onClk_wind (s : State) (f : Clocks → Clocks) : (s.onClk f).wind = s.wind := rfl
@[simp] theorem State.onClk_stest (s : State) (f : Clocks → Clocks) : (s.onClk f).stest = s.stest := rfl
@[simp] theorem State.onClk_tap (s : State) (f : Clocks → Clocks) : (s.onClk f).tap = s.tap := rfl
@[simp] theorem State.onClk_die (s : State) (f : Clocks → Clocks) : (s.onClk f).die = s.die := rfl
@[simp] theorem State.onClk_garnet (s : State) (f : Clocks → Clocks) : (s.onClk f).garnet = s.garnet := rfl
@[simp] theorem State.onClk_slog (s : State) (f : Clocks → Clocks) : (s.onClk f).slog = s.slog := rfl
@[simp] theorem State.onClk_fab (s : State) (f : Clocks → Clocks) : (s.onClk f).fab = s.fab := rfl
@[simp] theorem State.onClk_clk (s : State) (f : Clocks → Clocks) : (s.onClk f).clk = f s.clk := rfl
@[simp] theorem State.onClk_rst (s : State) (f : Clocks → Clocks) : (s.onClk f).rst = s.rst := rfl
@[simp] theorem State.onClk_vbat (s : State) (f : Clocks → Clocks) : (s.onClk f).vbat = s.vbat := rfl
@[simp] theorem State.onClk_recd (s : State) (f : Clocks → Clocks) : (s.onClk f).recd = s.recd := rfl
@[simp] theorem State.onClk_jrn (s : State) (f : Clocks → Clocks) : (s.onClk f).jrn = s.jrn := rfl
@[simp] theorem State.onClk_jwBase (s : State) (f : Clocks → Clocks) : (s.onClk f).jwBase = s.jwBase := rfl
@[simp] theorem State.onClk_nor (s : State) (f : Clocks → Clocks) : (s.onClk f).nor = s.nor := rfl
@[simp] theorem State.onClk_img (s : State) (f : Clocks → Clocks) : (s.onClk f).img = s.img := rfl
@[simp] theorem State.onClk_com (s : State) (f : Clocks → Clocks) : (s.onClk f).com = s.com := rfl
@[simp] theorem State.onClk_shadow (s : State) (f : Clocks → Clocks) : (s.onClk f).shadow = s.shadow := rfl
@[simp] theorem State.onClk_fw (s : State) (f : Clocks → Clocks) : (s.onClk f).fw = s.fw := rfl
@[simp] theorem State.onClk_av (s : State) (f : Clocks → Clocks) : (s.onClk f).av = s.av := rfl
@[simp] theorem State.onClk_cap (s : State) (f : Clocks → Clocks) : (s.onClk f).cap = s.cap := rfl
@[simp] theorem State.onClk_eth (s : State) (f : Clocks → Clocks) : (s.onClk f).eth = s.eth := rfl
@[simp] theorem State.onClk_time (s : State) (f : Clocks → Clocks) : (s.onClk f).time = s.time := rfl
@[simp] theorem State.onClk_can (s : State) (f : Clocks → Clocks) : (s.onClk f).can = s.can := rfl
@[simp] theorem State.onClk_onyx (s : State) (f : Clocks → Clocks) : (s.onClk f).onyx = s.onyx := rfl
@[simp] theorem State.onClk_latches (s : State) (f : Clocks → Clocks) : (s.onClk f).latches = s.latches := rfl

/-! ## `State.onRst` -/

@[simp] theorem State.onRst_pending (s : State) (f : Rst → Rst) : (s.onRst f).pending = s.pending := rfl
@[simp] theorem State.onRst_up (s : State) (f : Rst → Rst) : (s.onRst f).up = s.up := rfl
@[simp] theorem State.onRst_dev (s : State) (f : Rst → Rst) : (s.onRst f).dev = s.dev := rfl
@[simp] theorem State.onRst_devFrac (s : State) (f : Rst → Rst) : (s.onRst f).devFrac = s.devFrac := rfl
@[simp] theorem State.onRst_free (s : State) (f : Rst → Rst) : (s.onRst f).free = s.free := rfl
@[simp] theorem State.onRst_given (s : State) (f : Rst → Rst) : (s.onRst f).given = s.given := rfl
@[simp] theorem State.onRst_used (s : State) (f : Rst → Rst) : (s.onRst f).used = s.used := rfl
@[simp] theorem State.onRst_unarmedF (s : State) (f : Rst → Rst) : (s.onRst f).unarmedF = s.unarmedF := rfl
@[simp] theorem State.onRst_cells (s : State) (f : Rst → Rst) : (s.onRst f).cells = s.cells := rfl
@[simp] theorem State.onRst_hk (s : State) (f : Rst → Rst) : (s.onRst f).hk = s.hk := rfl
@[simp] theorem State.onRst_pwm (s : State) (f : Rst → Rst) : (s.onRst f).pwm = s.pwm := rfl
@[simp] theorem State.onRst_loops (s : State) (f : Rst → Rst) : (s.onRst f).loops = s.loops := rfl
@[simp] theorem State.onRst_posIf (s : State) (f : Rst → Rst) : (s.onRst f).posIf = s.posIf := rfl
@[simp] theorem State.onRst_start (s : State) (f : Rst → Rst) : (s.onRst f).start = s.start := rfl
@[simp] theorem State.onRst_spc (s : State) (f : Rst → Rst) : (s.onRst f).spc = s.spc := rfl
@[simp] theorem State.onRst_cmd (s : State) (f : Rst → Rst) : (s.onRst f).cmd = s.cmd := rfl
@[simp] theorem State.onRst_outer (s : State) (f : Rst → Rst) : (s.onRst f).outer = s.outer := rfl
@[simp] theorem State.onRst_brake (s : State) (f : Rst → Rst) : (s.onRst f).brake = s.brake := rfl
@[simp] theorem State.onRst_armed (s : State) (f : Rst → Rst) : (s.onRst f).armed = s.armed := rfl
@[simp] theorem State.onRst_disarmed (s : State) (f : Rst → Rst) : (s.onRst f).disarmed = s.disarmed := rfl
@[simp] theorem State.onRst_mapBad (s : State) (f : Rst → Rst) : (s.onRst f).mapBad = s.mapBad := rfl
@[simp] theorem State.onRst_badChk (s : State) (f : Rst → Rst) : (s.onRst f).badChk = s.badChk := rfl
@[simp] theorem State.onRst_axes (s : State) (f : Rst → Rst) : (s.onRst f).axes = s.axes := rfl
@[simp] theorem State.onRst_moGen (s : State) (f : Rst → Rst) : (s.onRst f).moGen = s.moGen := rfl
@[simp] theorem State.onRst_shock (s : State) (f : Rst → Rst) : (s.onRst f).shock = s.shock := rfl
@[simp] theorem State.onRst_heave (s : State) (f : Rst → Rst) : (s.onRst f).heave = s.heave := rfl
@[simp] theorem State.onRst_hist (s : State) (f : Rst → Rst) : (s.onRst f).hist = s.hist := rfl
@[simp] theorem State.onRst_ring (s : State) (f : Rst → Rst) : (s.onRst f).ring = s.ring := rfl
@[simp] theorem State.onRst_em (s : State) (f : Rst → Rst) : (s.onRst f).em = s.em := rfl
@[simp] theorem State.onRst_reacts (s : State) (f : Rst → Rst) : (s.onRst f).reacts = s.reacts := rfl
@[simp] theorem State.onRst_chan (s : State) (f : Rst → Rst) : (s.onRst f).chan = s.chan := rfl
@[simp] theorem State.onRst_br (s : State) (f : Rst → Rst) : (s.onRst f).br = s.br := rfl
@[simp] theorem State.onRst_cmp (s : State) (f : Rst → Rst) : (s.onRst f).cmp = s.cmp := rfl
@[simp] theorem State.onRst_chop (s : State) (f : Rst → Rst) : (s.onRst f).chop = s.chop := rfl
@[simp] theorem State.onRst_wind (s : State) (f : Rst → Rst) : (s.onRst f).wind = s.wind := rfl
@[simp] theorem State.onRst_stest (s : State) (f : Rst → Rst) : (s.onRst f).stest = s.stest := rfl
@[simp] theorem State.onRst_tap (s : State) (f : Rst → Rst) : (s.onRst f).tap = s.tap := rfl
@[simp] theorem State.onRst_die (s : State) (f : Rst → Rst) : (s.onRst f).die = s.die := rfl
@[simp] theorem State.onRst_garnet (s : State) (f : Rst → Rst) : (s.onRst f).garnet = s.garnet := rfl
@[simp] theorem State.onRst_slog (s : State) (f : Rst → Rst) : (s.onRst f).slog = s.slog := rfl
@[simp] theorem State.onRst_fab (s : State) (f : Rst → Rst) : (s.onRst f).fab = s.fab := rfl
@[simp] theorem State.onRst_clk (s : State) (f : Rst → Rst) : (s.onRst f).clk = s.clk := rfl
@[simp] theorem State.onRst_rst (s : State) (f : Rst → Rst) : (s.onRst f).rst = f s.rst := rfl
@[simp] theorem State.onRst_vbat (s : State) (f : Rst → Rst) : (s.onRst f).vbat = s.vbat := rfl
@[simp] theorem State.onRst_recd (s : State) (f : Rst → Rst) : (s.onRst f).recd = s.recd := rfl
@[simp] theorem State.onRst_jrn (s : State) (f : Rst → Rst) : (s.onRst f).jrn = s.jrn := rfl
@[simp] theorem State.onRst_jwBase (s : State) (f : Rst → Rst) : (s.onRst f).jwBase = s.jwBase := rfl
@[simp] theorem State.onRst_nor (s : State) (f : Rst → Rst) : (s.onRst f).nor = s.nor := rfl
@[simp] theorem State.onRst_img (s : State) (f : Rst → Rst) : (s.onRst f).img = s.img := rfl
@[simp] theorem State.onRst_com (s : State) (f : Rst → Rst) : (s.onRst f).com = s.com := rfl
@[simp] theorem State.onRst_shadow (s : State) (f : Rst → Rst) : (s.onRst f).shadow = s.shadow := rfl
@[simp] theorem State.onRst_fw (s : State) (f : Rst → Rst) : (s.onRst f).fw = s.fw := rfl
@[simp] theorem State.onRst_av (s : State) (f : Rst → Rst) : (s.onRst f).av = s.av := rfl
@[simp] theorem State.onRst_cap (s : State) (f : Rst → Rst) : (s.onRst f).cap = s.cap := rfl
@[simp] theorem State.onRst_eth (s : State) (f : Rst → Rst) : (s.onRst f).eth = s.eth := rfl
@[simp] theorem State.onRst_time (s : State) (f : Rst → Rst) : (s.onRst f).time = s.time := rfl
@[simp] theorem State.onRst_can (s : State) (f : Rst → Rst) : (s.onRst f).can = s.can := rfl
@[simp] theorem State.onRst_onyx (s : State) (f : Rst → Rst) : (s.onRst f).onyx = s.onyx := rfl
@[simp] theorem State.onRst_latches (s : State) (f : Rst → Rst) : (s.onRst f).latches = s.latches := rfl

/-! ## `State.onImg` -/

@[simp] theorem State.onImg_pending (s : State) (f : Image → Image) : (s.onImg f).pending = s.pending := rfl
@[simp] theorem State.onImg_up (s : State) (f : Image → Image) : (s.onImg f).up = s.up := rfl
@[simp] theorem State.onImg_dev (s : State) (f : Image → Image) : (s.onImg f).dev = s.dev := rfl
@[simp] theorem State.onImg_devFrac (s : State) (f : Image → Image) : (s.onImg f).devFrac = s.devFrac := rfl
@[simp] theorem State.onImg_free (s : State) (f : Image → Image) : (s.onImg f).free = s.free := rfl
@[simp] theorem State.onImg_given (s : State) (f : Image → Image) : (s.onImg f).given = s.given := rfl
@[simp] theorem State.onImg_used (s : State) (f : Image → Image) : (s.onImg f).used = s.used := rfl
@[simp] theorem State.onImg_unarmedF (s : State) (f : Image → Image) : (s.onImg f).unarmedF = s.unarmedF := rfl
@[simp] theorem State.onImg_cells (s : State) (f : Image → Image) : (s.onImg f).cells = s.cells := rfl
@[simp] theorem State.onImg_hk (s : State) (f : Image → Image) : (s.onImg f).hk = s.hk := rfl
@[simp] theorem State.onImg_pwm (s : State) (f : Image → Image) : (s.onImg f).pwm = s.pwm := rfl
@[simp] theorem State.onImg_loops (s : State) (f : Image → Image) : (s.onImg f).loops = s.loops := rfl
@[simp] theorem State.onImg_posIf (s : State) (f : Image → Image) : (s.onImg f).posIf = s.posIf := rfl
@[simp] theorem State.onImg_start (s : State) (f : Image → Image) : (s.onImg f).start = s.start := rfl
@[simp] theorem State.onImg_spc (s : State) (f : Image → Image) : (s.onImg f).spc = s.spc := rfl
@[simp] theorem State.onImg_cmd (s : State) (f : Image → Image) : (s.onImg f).cmd = s.cmd := rfl
@[simp] theorem State.onImg_outer (s : State) (f : Image → Image) : (s.onImg f).outer = s.outer := rfl
@[simp] theorem State.onImg_brake (s : State) (f : Image → Image) : (s.onImg f).brake = s.brake := rfl
@[simp] theorem State.onImg_armed (s : State) (f : Image → Image) : (s.onImg f).armed = s.armed := rfl
@[simp] theorem State.onImg_disarmed (s : State) (f : Image → Image) : (s.onImg f).disarmed = s.disarmed := rfl
@[simp] theorem State.onImg_mapBad (s : State) (f : Image → Image) : (s.onImg f).mapBad = s.mapBad := rfl
@[simp] theorem State.onImg_badChk (s : State) (f : Image → Image) : (s.onImg f).badChk = s.badChk := rfl
@[simp] theorem State.onImg_axes (s : State) (f : Image → Image) : (s.onImg f).axes = s.axes := rfl
@[simp] theorem State.onImg_moGen (s : State) (f : Image → Image) : (s.onImg f).moGen = s.moGen := rfl
@[simp] theorem State.onImg_shock (s : State) (f : Image → Image) : (s.onImg f).shock = s.shock := rfl
@[simp] theorem State.onImg_heave (s : State) (f : Image → Image) : (s.onImg f).heave = s.heave := rfl
@[simp] theorem State.onImg_hist (s : State) (f : Image → Image) : (s.onImg f).hist = s.hist := rfl
@[simp] theorem State.onImg_ring (s : State) (f : Image → Image) : (s.onImg f).ring = s.ring := rfl
@[simp] theorem State.onImg_em (s : State) (f : Image → Image) : (s.onImg f).em = s.em := rfl
@[simp] theorem State.onImg_reacts (s : State) (f : Image → Image) : (s.onImg f).reacts = s.reacts := rfl
@[simp] theorem State.onImg_chan (s : State) (f : Image → Image) : (s.onImg f).chan = s.chan := rfl
@[simp] theorem State.onImg_br (s : State) (f : Image → Image) : (s.onImg f).br = s.br := rfl
@[simp] theorem State.onImg_cmp (s : State) (f : Image → Image) : (s.onImg f).cmp = s.cmp := rfl
@[simp] theorem State.onImg_chop (s : State) (f : Image → Image) : (s.onImg f).chop = s.chop := rfl
@[simp] theorem State.onImg_wind (s : State) (f : Image → Image) : (s.onImg f).wind = s.wind := rfl
@[simp] theorem State.onImg_stest (s : State) (f : Image → Image) : (s.onImg f).stest = s.stest := rfl
@[simp] theorem State.onImg_tap (s : State) (f : Image → Image) : (s.onImg f).tap = s.tap := rfl
@[simp] theorem State.onImg_die (s : State) (f : Image → Image) : (s.onImg f).die = s.die := rfl
@[simp] theorem State.onImg_garnet (s : State) (f : Image → Image) : (s.onImg f).garnet = s.garnet := rfl
@[simp] theorem State.onImg_slog (s : State) (f : Image → Image) : (s.onImg f).slog = s.slog := rfl
@[simp] theorem State.onImg_fab (s : State) (f : Image → Image) : (s.onImg f).fab = s.fab := rfl
@[simp] theorem State.onImg_clk (s : State) (f : Image → Image) : (s.onImg f).clk = s.clk := rfl
@[simp] theorem State.onImg_rst (s : State) (f : Image → Image) : (s.onImg f).rst = s.rst := rfl
@[simp] theorem State.onImg_vbat (s : State) (f : Image → Image) : (s.onImg f).vbat = s.vbat := rfl
@[simp] theorem State.onImg_recd (s : State) (f : Image → Image) : (s.onImg f).recd = s.recd := rfl
@[simp] theorem State.onImg_jrn (s : State) (f : Image → Image) : (s.onImg f).jrn = s.jrn := rfl
@[simp] theorem State.onImg_jwBase (s : State) (f : Image → Image) : (s.onImg f).jwBase = s.jwBase := rfl
@[simp] theorem State.onImg_nor (s : State) (f : Image → Image) : (s.onImg f).nor = s.nor := rfl
@[simp] theorem State.onImg_img (s : State) (f : Image → Image) : (s.onImg f).img = f s.img := rfl
@[simp] theorem State.onImg_com (s : State) (f : Image → Image) : (s.onImg f).com = s.com := rfl
@[simp] theorem State.onImg_shadow (s : State) (f : Image → Image) : (s.onImg f).shadow = s.shadow := rfl
@[simp] theorem State.onImg_fw (s : State) (f : Image → Image) : (s.onImg f).fw = s.fw := rfl
@[simp] theorem State.onImg_av (s : State) (f : Image → Image) : (s.onImg f).av = s.av := rfl
@[simp] theorem State.onImg_cap (s : State) (f : Image → Image) : (s.onImg f).cap = s.cap := rfl
@[simp] theorem State.onImg_eth (s : State) (f : Image → Image) : (s.onImg f).eth = s.eth := rfl
@[simp] theorem State.onImg_time (s : State) (f : Image → Image) : (s.onImg f).time = s.time := rfl
@[simp] theorem State.onImg_can (s : State) (f : Image → Image) : (s.onImg f).can = s.can := rfl
@[simp] theorem State.onImg_onyx (s : State) (f : Image → Image) : (s.onImg f).onyx = s.onyx := rfl
@[simp] theorem State.onImg_latches (s : State) (f : Image → Image) : (s.onImg f).latches = s.latches := rfl

/-! ## `State.onShadow` -/

@[simp] theorem State.onShadow_pending (s : State) (i : Fin 2) (f : Shadow → Shadow) : (s.onShadow i f).pending = s.pending := rfl
@[simp] theorem State.onShadow_up (s : State) (i : Fin 2) (f : Shadow → Shadow) : (s.onShadow i f).up = s.up := rfl
@[simp] theorem State.onShadow_dev (s : State) (i : Fin 2) (f : Shadow → Shadow) : (s.onShadow i f).dev = s.dev := rfl
@[simp] theorem State.onShadow_devFrac (s : State) (i : Fin 2) (f : Shadow → Shadow) : (s.onShadow i f).devFrac = s.devFrac := rfl
@[simp] theorem State.onShadow_free (s : State) (i : Fin 2) (f : Shadow → Shadow) : (s.onShadow i f).free = s.free := rfl
@[simp] theorem State.onShadow_given (s : State) (i : Fin 2) (f : Shadow → Shadow) : (s.onShadow i f).given = s.given := rfl
@[simp] theorem State.onShadow_used (s : State) (i : Fin 2) (f : Shadow → Shadow) : (s.onShadow i f).used = s.used := rfl
@[simp] theorem State.onShadow_unarmedF (s : State) (i : Fin 2) (f : Shadow → Shadow) : (s.onShadow i f).unarmedF = s.unarmedF := rfl
@[simp] theorem State.onShadow_cells (s : State) (i : Fin 2) (f : Shadow → Shadow) : (s.onShadow i f).cells = s.cells := rfl
@[simp] theorem State.onShadow_hk (s : State) (i : Fin 2) (f : Shadow → Shadow) : (s.onShadow i f).hk = s.hk := rfl
@[simp] theorem State.onShadow_pwm (s : State) (i : Fin 2) (f : Shadow → Shadow) : (s.onShadow i f).pwm = s.pwm := rfl
@[simp] theorem State.onShadow_loops (s : State) (i : Fin 2) (f : Shadow → Shadow) : (s.onShadow i f).loops = s.loops := rfl
@[simp] theorem State.onShadow_posIf (s : State) (i : Fin 2) (f : Shadow → Shadow) : (s.onShadow i f).posIf = s.posIf := rfl
@[simp] theorem State.onShadow_start (s : State) (i : Fin 2) (f : Shadow → Shadow) : (s.onShadow i f).start = s.start := rfl
@[simp] theorem State.onShadow_spc (s : State) (i : Fin 2) (f : Shadow → Shadow) : (s.onShadow i f).spc = s.spc := rfl
@[simp] theorem State.onShadow_cmd (s : State) (i : Fin 2) (f : Shadow → Shadow) : (s.onShadow i f).cmd = s.cmd := rfl
@[simp] theorem State.onShadow_outer (s : State) (i : Fin 2) (f : Shadow → Shadow) : (s.onShadow i f).outer = s.outer := rfl
@[simp] theorem State.onShadow_brake (s : State) (i : Fin 2) (f : Shadow → Shadow) : (s.onShadow i f).brake = s.brake := rfl
@[simp] theorem State.onShadow_armed (s : State) (i : Fin 2) (f : Shadow → Shadow) : (s.onShadow i f).armed = s.armed := rfl
@[simp] theorem State.onShadow_disarmed (s : State) (i : Fin 2) (f : Shadow → Shadow) : (s.onShadow i f).disarmed = s.disarmed := rfl
@[simp] theorem State.onShadow_mapBad (s : State) (i : Fin 2) (f : Shadow → Shadow) : (s.onShadow i f).mapBad = s.mapBad := rfl
@[simp] theorem State.onShadow_badChk (s : State) (i : Fin 2) (f : Shadow → Shadow) : (s.onShadow i f).badChk = s.badChk := rfl
@[simp] theorem State.onShadow_axes (s : State) (i : Fin 2) (f : Shadow → Shadow) : (s.onShadow i f).axes = s.axes := rfl
@[simp] theorem State.onShadow_moGen (s : State) (i : Fin 2) (f : Shadow → Shadow) : (s.onShadow i f).moGen = s.moGen := rfl
@[simp] theorem State.onShadow_shock (s : State) (i : Fin 2) (f : Shadow → Shadow) : (s.onShadow i f).shock = s.shock := rfl
@[simp] theorem State.onShadow_heave (s : State) (i : Fin 2) (f : Shadow → Shadow) : (s.onShadow i f).heave = s.heave := rfl
@[simp] theorem State.onShadow_hist (s : State) (i : Fin 2) (f : Shadow → Shadow) : (s.onShadow i f).hist = s.hist := rfl
@[simp] theorem State.onShadow_ring (s : State) (i : Fin 2) (f : Shadow → Shadow) : (s.onShadow i f).ring = s.ring := rfl
@[simp] theorem State.onShadow_em (s : State) (i : Fin 2) (f : Shadow → Shadow) : (s.onShadow i f).em = s.em := rfl
@[simp] theorem State.onShadow_reacts (s : State) (i : Fin 2) (f : Shadow → Shadow) : (s.onShadow i f).reacts = s.reacts := rfl
@[simp] theorem State.onShadow_chan (s : State) (i : Fin 2) (f : Shadow → Shadow) : (s.onShadow i f).chan = s.chan := rfl
@[simp] theorem State.onShadow_br (s : State) (i : Fin 2) (f : Shadow → Shadow) : (s.onShadow i f).br = s.br := rfl
@[simp] theorem State.onShadow_cmp (s : State) (i : Fin 2) (f : Shadow → Shadow) : (s.onShadow i f).cmp = s.cmp := rfl
@[simp] theorem State.onShadow_chop (s : State) (i : Fin 2) (f : Shadow → Shadow) : (s.onShadow i f).chop = s.chop := rfl
@[simp] theorem State.onShadow_wind (s : State) (i : Fin 2) (f : Shadow → Shadow) : (s.onShadow i f).wind = s.wind := rfl
@[simp] theorem State.onShadow_stest (s : State) (i : Fin 2) (f : Shadow → Shadow) : (s.onShadow i f).stest = s.stest := rfl
@[simp] theorem State.onShadow_tap (s : State) (i : Fin 2) (f : Shadow → Shadow) : (s.onShadow i f).tap = s.tap := rfl
@[simp] theorem State.onShadow_die (s : State) (i : Fin 2) (f : Shadow → Shadow) : (s.onShadow i f).die = s.die := rfl
@[simp] theorem State.onShadow_garnet (s : State) (i : Fin 2) (f : Shadow → Shadow) : (s.onShadow i f).garnet = s.garnet := rfl
@[simp] theorem State.onShadow_slog (s : State) (i : Fin 2) (f : Shadow → Shadow) : (s.onShadow i f).slog = s.slog := rfl
@[simp] theorem State.onShadow_fab (s : State) (i : Fin 2) (f : Shadow → Shadow) : (s.onShadow i f).fab = s.fab := rfl
@[simp] theorem State.onShadow_clk (s : State) (i : Fin 2) (f : Shadow → Shadow) : (s.onShadow i f).clk = s.clk := rfl
@[simp] theorem State.onShadow_rst (s : State) (i : Fin 2) (f : Shadow → Shadow) : (s.onShadow i f).rst = s.rst := rfl
@[simp] theorem State.onShadow_vbat (s : State) (i : Fin 2) (f : Shadow → Shadow) : (s.onShadow i f).vbat = s.vbat := rfl
@[simp] theorem State.onShadow_recd (s : State) (i : Fin 2) (f : Shadow → Shadow) : (s.onShadow i f).recd = s.recd := rfl
@[simp] theorem State.onShadow_jrn (s : State) (i : Fin 2) (f : Shadow → Shadow) : (s.onShadow i f).jrn = s.jrn := rfl
@[simp] theorem State.onShadow_jwBase (s : State) (i : Fin 2) (f : Shadow → Shadow) : (s.onShadow i f).jwBase = s.jwBase := rfl
@[simp] theorem State.onShadow_nor (s : State) (i : Fin 2) (f : Shadow → Shadow) : (s.onShadow i f).nor = s.nor := rfl
@[simp] theorem State.onShadow_img (s : State) (i : Fin 2) (f : Shadow → Shadow) : (s.onShadow i f).img = s.img := rfl
@[simp] theorem State.onShadow_com (s : State) (i : Fin 2) (f : Shadow → Shadow) : (s.onShadow i f).com = s.com := rfl
@[simp] theorem State.onShadow_shadow (s : State) (i : Fin 2) (f : Shadow → Shadow) : (s.onShadow i f).shadow = vmod s.shadow i f := rfl
@[simp] theorem State.onShadow_fw (s : State) (i : Fin 2) (f : Shadow → Shadow) : (s.onShadow i f).fw = s.fw := rfl
@[simp] theorem State.onShadow_av (s : State) (i : Fin 2) (f : Shadow → Shadow) : (s.onShadow i f).av = s.av := rfl
@[simp] theorem State.onShadow_cap (s : State) (i : Fin 2) (f : Shadow → Shadow) : (s.onShadow i f).cap = s.cap := rfl
@[simp] theorem State.onShadow_eth (s : State) (i : Fin 2) (f : Shadow → Shadow) : (s.onShadow i f).eth = s.eth := rfl
@[simp] theorem State.onShadow_time (s : State) (i : Fin 2) (f : Shadow → Shadow) : (s.onShadow i f).time = s.time := rfl
@[simp] theorem State.onShadow_can (s : State) (i : Fin 2) (f : Shadow → Shadow) : (s.onShadow i f).can = s.can := rfl
@[simp] theorem State.onShadow_onyx (s : State) (i : Fin 2) (f : Shadow → Shadow) : (s.onShadow i f).onyx = s.onyx := rfl
@[simp] theorem State.onShadow_latches (s : State) (i : Fin 2) (f : Shadow → Shadow) : (s.onShadow i f).latches = s.latches := rfl

/-! ## `State.onCap` -/

@[simp] theorem State.onCap_pending (s : State) (k : Fin 8) (f : Cap → Cap) : (s.onCap k f).pending = s.pending := rfl
@[simp] theorem State.onCap_up (s : State) (k : Fin 8) (f : Cap → Cap) : (s.onCap k f).up = s.up := rfl
@[simp] theorem State.onCap_dev (s : State) (k : Fin 8) (f : Cap → Cap) : (s.onCap k f).dev = s.dev := rfl
@[simp] theorem State.onCap_devFrac (s : State) (k : Fin 8) (f : Cap → Cap) : (s.onCap k f).devFrac = s.devFrac := rfl
@[simp] theorem State.onCap_free (s : State) (k : Fin 8) (f : Cap → Cap) : (s.onCap k f).free = s.free := rfl
@[simp] theorem State.onCap_given (s : State) (k : Fin 8) (f : Cap → Cap) : (s.onCap k f).given = s.given := rfl
@[simp] theorem State.onCap_used (s : State) (k : Fin 8) (f : Cap → Cap) : (s.onCap k f).used = s.used := rfl
@[simp] theorem State.onCap_unarmedF (s : State) (k : Fin 8) (f : Cap → Cap) : (s.onCap k f).unarmedF = s.unarmedF := rfl
@[simp] theorem State.onCap_cells (s : State) (k : Fin 8) (f : Cap → Cap) : (s.onCap k f).cells = s.cells := rfl
@[simp] theorem State.onCap_hk (s : State) (k : Fin 8) (f : Cap → Cap) : (s.onCap k f).hk = s.hk := rfl
@[simp] theorem State.onCap_pwm (s : State) (k : Fin 8) (f : Cap → Cap) : (s.onCap k f).pwm = s.pwm := rfl
@[simp] theorem State.onCap_loops (s : State) (k : Fin 8) (f : Cap → Cap) : (s.onCap k f).loops = s.loops := rfl
@[simp] theorem State.onCap_posIf (s : State) (k : Fin 8) (f : Cap → Cap) : (s.onCap k f).posIf = s.posIf := rfl
@[simp] theorem State.onCap_start (s : State) (k : Fin 8) (f : Cap → Cap) : (s.onCap k f).start = s.start := rfl
@[simp] theorem State.onCap_spc (s : State) (k : Fin 8) (f : Cap → Cap) : (s.onCap k f).spc = s.spc := rfl
@[simp] theorem State.onCap_cmd (s : State) (k : Fin 8) (f : Cap → Cap) : (s.onCap k f).cmd = s.cmd := rfl
@[simp] theorem State.onCap_outer (s : State) (k : Fin 8) (f : Cap → Cap) : (s.onCap k f).outer = s.outer := rfl
@[simp] theorem State.onCap_brake (s : State) (k : Fin 8) (f : Cap → Cap) : (s.onCap k f).brake = s.brake := rfl
@[simp] theorem State.onCap_armed (s : State) (k : Fin 8) (f : Cap → Cap) : (s.onCap k f).armed = s.armed := rfl
@[simp] theorem State.onCap_disarmed (s : State) (k : Fin 8) (f : Cap → Cap) : (s.onCap k f).disarmed = s.disarmed := rfl
@[simp] theorem State.onCap_mapBad (s : State) (k : Fin 8) (f : Cap → Cap) : (s.onCap k f).mapBad = s.mapBad := rfl
@[simp] theorem State.onCap_badChk (s : State) (k : Fin 8) (f : Cap → Cap) : (s.onCap k f).badChk = s.badChk := rfl
@[simp] theorem State.onCap_axes (s : State) (k : Fin 8) (f : Cap → Cap) : (s.onCap k f).axes = s.axes := rfl
@[simp] theorem State.onCap_moGen (s : State) (k : Fin 8) (f : Cap → Cap) : (s.onCap k f).moGen = s.moGen := rfl
@[simp] theorem State.onCap_shock (s : State) (k : Fin 8) (f : Cap → Cap) : (s.onCap k f).shock = s.shock := rfl
@[simp] theorem State.onCap_heave (s : State) (k : Fin 8) (f : Cap → Cap) : (s.onCap k f).heave = s.heave := rfl
@[simp] theorem State.onCap_hist (s : State) (k : Fin 8) (f : Cap → Cap) : (s.onCap k f).hist = s.hist := rfl
@[simp] theorem State.onCap_ring (s : State) (k : Fin 8) (f : Cap → Cap) : (s.onCap k f).ring = s.ring := rfl
@[simp] theorem State.onCap_em (s : State) (k : Fin 8) (f : Cap → Cap) : (s.onCap k f).em = s.em := rfl
@[simp] theorem State.onCap_reacts (s : State) (k : Fin 8) (f : Cap → Cap) : (s.onCap k f).reacts = s.reacts := rfl
@[simp] theorem State.onCap_chan (s : State) (k : Fin 8) (f : Cap → Cap) : (s.onCap k f).chan = s.chan := rfl
@[simp] theorem State.onCap_br (s : State) (k : Fin 8) (f : Cap → Cap) : (s.onCap k f).br = s.br := rfl
@[simp] theorem State.onCap_cmp (s : State) (k : Fin 8) (f : Cap → Cap) : (s.onCap k f).cmp = s.cmp := rfl
@[simp] theorem State.onCap_chop (s : State) (k : Fin 8) (f : Cap → Cap) : (s.onCap k f).chop = s.chop := rfl
@[simp] theorem State.onCap_wind (s : State) (k : Fin 8) (f : Cap → Cap) : (s.onCap k f).wind = s.wind := rfl
@[simp] theorem State.onCap_stest (s : State) (k : Fin 8) (f : Cap → Cap) : (s.onCap k f).stest = s.stest := rfl
@[simp] theorem State.onCap_tap (s : State) (k : Fin 8) (f : Cap → Cap) : (s.onCap k f).tap = s.tap := rfl
@[simp] theorem State.onCap_die (s : State) (k : Fin 8) (f : Cap → Cap) : (s.onCap k f).die = s.die := rfl
@[simp] theorem State.onCap_garnet (s : State) (k : Fin 8) (f : Cap → Cap) : (s.onCap k f).garnet = s.garnet := rfl
@[simp] theorem State.onCap_slog (s : State) (k : Fin 8) (f : Cap → Cap) : (s.onCap k f).slog = s.slog := rfl
@[simp] theorem State.onCap_fab (s : State) (k : Fin 8) (f : Cap → Cap) : (s.onCap k f).fab = s.fab := rfl
@[simp] theorem State.onCap_clk (s : State) (k : Fin 8) (f : Cap → Cap) : (s.onCap k f).clk = s.clk := rfl
@[simp] theorem State.onCap_rst (s : State) (k : Fin 8) (f : Cap → Cap) : (s.onCap k f).rst = s.rst := rfl
@[simp] theorem State.onCap_vbat (s : State) (k : Fin 8) (f : Cap → Cap) : (s.onCap k f).vbat = s.vbat := rfl
@[simp] theorem State.onCap_recd (s : State) (k : Fin 8) (f : Cap → Cap) : (s.onCap k f).recd = s.recd := rfl
@[simp] theorem State.onCap_jrn (s : State) (k : Fin 8) (f : Cap → Cap) : (s.onCap k f).jrn = s.jrn := rfl
@[simp] theorem State.onCap_jwBase (s : State) (k : Fin 8) (f : Cap → Cap) : (s.onCap k f).jwBase = s.jwBase := rfl
@[simp] theorem State.onCap_nor (s : State) (k : Fin 8) (f : Cap → Cap) : (s.onCap k f).nor = s.nor := rfl
@[simp] theorem State.onCap_img (s : State) (k : Fin 8) (f : Cap → Cap) : (s.onCap k f).img = s.img := rfl
@[simp] theorem State.onCap_com (s : State) (k : Fin 8) (f : Cap → Cap) : (s.onCap k f).com = s.com := rfl
@[simp] theorem State.onCap_shadow (s : State) (k : Fin 8) (f : Cap → Cap) : (s.onCap k f).shadow = s.shadow := rfl
@[simp] theorem State.onCap_fw (s : State) (k : Fin 8) (f : Cap → Cap) : (s.onCap k f).fw = s.fw := rfl
@[simp] theorem State.onCap_av (s : State) (k : Fin 8) (f : Cap → Cap) : (s.onCap k f).av = s.av := rfl
@[simp] theorem State.onCap_cap (s : State) (k : Fin 8) (f : Cap → Cap) : (s.onCap k f).cap = vmod s.cap k f := rfl
@[simp] theorem State.onCap_eth (s : State) (k : Fin 8) (f : Cap → Cap) : (s.onCap k f).eth = s.eth := rfl
@[simp] theorem State.onCap_time (s : State) (k : Fin 8) (f : Cap → Cap) : (s.onCap k f).time = s.time := rfl
@[simp] theorem State.onCap_can (s : State) (k : Fin 8) (f : Cap → Cap) : (s.onCap k f).can = s.can := rfl
@[simp] theorem State.onCap_onyx (s : State) (k : Fin 8) (f : Cap → Cap) : (s.onCap k f).onyx = s.onyx := rfl
@[simp] theorem State.onCap_latches (s : State) (k : Fin 8) (f : Cap → Cap) : (s.onCap k f).latches = s.latches := rfl

/-! ## `State.onPort` -/

@[simp] theorem State.onPort_pending (s : State) (p : Fin 9) (f : EthPort → EthPort) : (s.onPort p f).pending = s.pending := rfl
@[simp] theorem State.onPort_up (s : State) (p : Fin 9) (f : EthPort → EthPort) : (s.onPort p f).up = s.up := rfl
@[simp] theorem State.onPort_dev (s : State) (p : Fin 9) (f : EthPort → EthPort) : (s.onPort p f).dev = s.dev := rfl
@[simp] theorem State.onPort_devFrac (s : State) (p : Fin 9) (f : EthPort → EthPort) : (s.onPort p f).devFrac = s.devFrac := rfl
@[simp] theorem State.onPort_free (s : State) (p : Fin 9) (f : EthPort → EthPort) : (s.onPort p f).free = s.free := rfl
@[simp] theorem State.onPort_given (s : State) (p : Fin 9) (f : EthPort → EthPort) : (s.onPort p f).given = s.given := rfl
@[simp] theorem State.onPort_used (s : State) (p : Fin 9) (f : EthPort → EthPort) : (s.onPort p f).used = s.used := rfl
@[simp] theorem State.onPort_unarmedF (s : State) (p : Fin 9) (f : EthPort → EthPort) : (s.onPort p f).unarmedF = s.unarmedF := rfl
@[simp] theorem State.onPort_cells (s : State) (p : Fin 9) (f : EthPort → EthPort) : (s.onPort p f).cells = s.cells := rfl
@[simp] theorem State.onPort_hk (s : State) (p : Fin 9) (f : EthPort → EthPort) : (s.onPort p f).hk = s.hk := rfl
@[simp] theorem State.onPort_pwm (s : State) (p : Fin 9) (f : EthPort → EthPort) : (s.onPort p f).pwm = s.pwm := rfl
@[simp] theorem State.onPort_loops (s : State) (p : Fin 9) (f : EthPort → EthPort) : (s.onPort p f).loops = s.loops := rfl
@[simp] theorem State.onPort_posIf (s : State) (p : Fin 9) (f : EthPort → EthPort) : (s.onPort p f).posIf = s.posIf := rfl
@[simp] theorem State.onPort_start (s : State) (p : Fin 9) (f : EthPort → EthPort) : (s.onPort p f).start = s.start := rfl
@[simp] theorem State.onPort_spc (s : State) (p : Fin 9) (f : EthPort → EthPort) : (s.onPort p f).spc = s.spc := rfl
@[simp] theorem State.onPort_cmd (s : State) (p : Fin 9) (f : EthPort → EthPort) : (s.onPort p f).cmd = s.cmd := rfl
@[simp] theorem State.onPort_outer (s : State) (p : Fin 9) (f : EthPort → EthPort) : (s.onPort p f).outer = s.outer := rfl
@[simp] theorem State.onPort_brake (s : State) (p : Fin 9) (f : EthPort → EthPort) : (s.onPort p f).brake = s.brake := rfl
@[simp] theorem State.onPort_armed (s : State) (p : Fin 9) (f : EthPort → EthPort) : (s.onPort p f).armed = s.armed := rfl
@[simp] theorem State.onPort_disarmed (s : State) (p : Fin 9) (f : EthPort → EthPort) : (s.onPort p f).disarmed = s.disarmed := rfl
@[simp] theorem State.onPort_mapBad (s : State) (p : Fin 9) (f : EthPort → EthPort) : (s.onPort p f).mapBad = s.mapBad := rfl
@[simp] theorem State.onPort_badChk (s : State) (p : Fin 9) (f : EthPort → EthPort) : (s.onPort p f).badChk = s.badChk := rfl
@[simp] theorem State.onPort_axes (s : State) (p : Fin 9) (f : EthPort → EthPort) : (s.onPort p f).axes = s.axes := rfl
@[simp] theorem State.onPort_moGen (s : State) (p : Fin 9) (f : EthPort → EthPort) : (s.onPort p f).moGen = s.moGen := rfl
@[simp] theorem State.onPort_shock (s : State) (p : Fin 9) (f : EthPort → EthPort) : (s.onPort p f).shock = s.shock := rfl
@[simp] theorem State.onPort_heave (s : State) (p : Fin 9) (f : EthPort → EthPort) : (s.onPort p f).heave = s.heave := rfl
@[simp] theorem State.onPort_hist (s : State) (p : Fin 9) (f : EthPort → EthPort) : (s.onPort p f).hist = s.hist := rfl
@[simp] theorem State.onPort_ring (s : State) (p : Fin 9) (f : EthPort → EthPort) : (s.onPort p f).ring = s.ring := rfl
@[simp] theorem State.onPort_em (s : State) (p : Fin 9) (f : EthPort → EthPort) : (s.onPort p f).em = s.em := rfl
@[simp] theorem State.onPort_reacts (s : State) (p : Fin 9) (f : EthPort → EthPort) : (s.onPort p f).reacts = s.reacts := rfl
@[simp] theorem State.onPort_chan (s : State) (p : Fin 9) (f : EthPort → EthPort) : (s.onPort p f).chan = s.chan := rfl
@[simp] theorem State.onPort_br (s : State) (p : Fin 9) (f : EthPort → EthPort) : (s.onPort p f).br = s.br := rfl
@[simp] theorem State.onPort_cmp (s : State) (p : Fin 9) (f : EthPort → EthPort) : (s.onPort p f).cmp = s.cmp := rfl
@[simp] theorem State.onPort_chop (s : State) (p : Fin 9) (f : EthPort → EthPort) : (s.onPort p f).chop = s.chop := rfl
@[simp] theorem State.onPort_wind (s : State) (p : Fin 9) (f : EthPort → EthPort) : (s.onPort p f).wind = s.wind := rfl
@[simp] theorem State.onPort_stest (s : State) (p : Fin 9) (f : EthPort → EthPort) : (s.onPort p f).stest = s.stest := rfl
@[simp] theorem State.onPort_tap (s : State) (p : Fin 9) (f : EthPort → EthPort) : (s.onPort p f).tap = s.tap := rfl
@[simp] theorem State.onPort_die (s : State) (p : Fin 9) (f : EthPort → EthPort) : (s.onPort p f).die = s.die := rfl
@[simp] theorem State.onPort_garnet (s : State) (p : Fin 9) (f : EthPort → EthPort) : (s.onPort p f).garnet = s.garnet := rfl
@[simp] theorem State.onPort_slog (s : State) (p : Fin 9) (f : EthPort → EthPort) : (s.onPort p f).slog = s.slog := rfl
@[simp] theorem State.onPort_fab (s : State) (p : Fin 9) (f : EthPort → EthPort) : (s.onPort p f).fab = s.fab := rfl
@[simp] theorem State.onPort_clk (s : State) (p : Fin 9) (f : EthPort → EthPort) : (s.onPort p f).clk = s.clk := rfl
@[simp] theorem State.onPort_rst (s : State) (p : Fin 9) (f : EthPort → EthPort) : (s.onPort p f).rst = s.rst := rfl
@[simp] theorem State.onPort_vbat (s : State) (p : Fin 9) (f : EthPort → EthPort) : (s.onPort p f).vbat = s.vbat := rfl
@[simp] theorem State.onPort_recd (s : State) (p : Fin 9) (f : EthPort → EthPort) : (s.onPort p f).recd = s.recd := rfl
@[simp] theorem State.onPort_jrn (s : State) (p : Fin 9) (f : EthPort → EthPort) : (s.onPort p f).jrn = s.jrn := rfl
@[simp] theorem State.onPort_jwBase (s : State) (p : Fin 9) (f : EthPort → EthPort) : (s.onPort p f).jwBase = s.jwBase := rfl
@[simp] theorem State.onPort_nor (s : State) (p : Fin 9) (f : EthPort → EthPort) : (s.onPort p f).nor = s.nor := rfl
@[simp] theorem State.onPort_img (s : State) (p : Fin 9) (f : EthPort → EthPort) : (s.onPort p f).img = s.img := rfl
@[simp] theorem State.onPort_com (s : State) (p : Fin 9) (f : EthPort → EthPort) : (s.onPort p f).com = s.com := rfl
@[simp] theorem State.onPort_shadow (s : State) (p : Fin 9) (f : EthPort → EthPort) : (s.onPort p f).shadow = s.shadow := rfl
@[simp] theorem State.onPort_fw (s : State) (p : Fin 9) (f : EthPort → EthPort) : (s.onPort p f).fw = s.fw := rfl
@[simp] theorem State.onPort_av (s : State) (p : Fin 9) (f : EthPort → EthPort) : (s.onPort p f).av = s.av := rfl
@[simp] theorem State.onPort_cap (s : State) (p : Fin 9) (f : EthPort → EthPort) : (s.onPort p f).cap = s.cap := rfl
@[simp] theorem State.onPort_eth (s : State) (p : Fin 9) (f : EthPort → EthPort) : (s.onPort p f).eth = { s.eth with port := vmod s.eth.port p f } := rfl
@[simp] theorem State.onPort_time (s : State) (p : Fin 9) (f : EthPort → EthPort) : (s.onPort p f).time = s.time := rfl
@[simp] theorem State.onPort_can (s : State) (p : Fin 9) (f : EthPort → EthPort) : (s.onPort p f).can = s.can := rfl
@[simp] theorem State.onPort_onyx (s : State) (p : Fin 9) (f : EthPort → EthPort) : (s.onPort p f).onyx = s.onyx := rfl
@[simp] theorem State.onPort_latches (s : State) (p : Fin 9) (f : EthPort → EthPort) : (s.onPort p f).latches = s.latches := rfl

/-! ## `State.onCan` -/

@[simp] theorem State.onCan_pending (s : State) (c : Fin 4) (f : Can → Can) : (s.onCan c f).pending = s.pending := rfl
@[simp] theorem State.onCan_up (s : State) (c : Fin 4) (f : Can → Can) : (s.onCan c f).up = s.up := rfl
@[simp] theorem State.onCan_dev (s : State) (c : Fin 4) (f : Can → Can) : (s.onCan c f).dev = s.dev := rfl
@[simp] theorem State.onCan_devFrac (s : State) (c : Fin 4) (f : Can → Can) : (s.onCan c f).devFrac = s.devFrac := rfl
@[simp] theorem State.onCan_free (s : State) (c : Fin 4) (f : Can → Can) : (s.onCan c f).free = s.free := rfl
@[simp] theorem State.onCan_given (s : State) (c : Fin 4) (f : Can → Can) : (s.onCan c f).given = s.given := rfl
@[simp] theorem State.onCan_used (s : State) (c : Fin 4) (f : Can → Can) : (s.onCan c f).used = s.used := rfl
@[simp] theorem State.onCan_unarmedF (s : State) (c : Fin 4) (f : Can → Can) : (s.onCan c f).unarmedF = s.unarmedF := rfl
@[simp] theorem State.onCan_cells (s : State) (c : Fin 4) (f : Can → Can) : (s.onCan c f).cells = s.cells := rfl
@[simp] theorem State.onCan_hk (s : State) (c : Fin 4) (f : Can → Can) : (s.onCan c f).hk = s.hk := rfl
@[simp] theorem State.onCan_pwm (s : State) (c : Fin 4) (f : Can → Can) : (s.onCan c f).pwm = s.pwm := rfl
@[simp] theorem State.onCan_loops (s : State) (c : Fin 4) (f : Can → Can) : (s.onCan c f).loops = s.loops := rfl
@[simp] theorem State.onCan_posIf (s : State) (c : Fin 4) (f : Can → Can) : (s.onCan c f).posIf = s.posIf := rfl
@[simp] theorem State.onCan_start (s : State) (c : Fin 4) (f : Can → Can) : (s.onCan c f).start = s.start := rfl
@[simp] theorem State.onCan_spc (s : State) (c : Fin 4) (f : Can → Can) : (s.onCan c f).spc = s.spc := rfl
@[simp] theorem State.onCan_cmd (s : State) (c : Fin 4) (f : Can → Can) : (s.onCan c f).cmd = s.cmd := rfl
@[simp] theorem State.onCan_outer (s : State) (c : Fin 4) (f : Can → Can) : (s.onCan c f).outer = s.outer := rfl
@[simp] theorem State.onCan_brake (s : State) (c : Fin 4) (f : Can → Can) : (s.onCan c f).brake = s.brake := rfl
@[simp] theorem State.onCan_armed (s : State) (c : Fin 4) (f : Can → Can) : (s.onCan c f).armed = s.armed := rfl
@[simp] theorem State.onCan_disarmed (s : State) (c : Fin 4) (f : Can → Can) : (s.onCan c f).disarmed = s.disarmed := rfl
@[simp] theorem State.onCan_mapBad (s : State) (c : Fin 4) (f : Can → Can) : (s.onCan c f).mapBad = s.mapBad := rfl
@[simp] theorem State.onCan_badChk (s : State) (c : Fin 4) (f : Can → Can) : (s.onCan c f).badChk = s.badChk := rfl
@[simp] theorem State.onCan_axes (s : State) (c : Fin 4) (f : Can → Can) : (s.onCan c f).axes = s.axes := rfl
@[simp] theorem State.onCan_moGen (s : State) (c : Fin 4) (f : Can → Can) : (s.onCan c f).moGen = s.moGen := rfl
@[simp] theorem State.onCan_shock (s : State) (c : Fin 4) (f : Can → Can) : (s.onCan c f).shock = s.shock := rfl
@[simp] theorem State.onCan_heave (s : State) (c : Fin 4) (f : Can → Can) : (s.onCan c f).heave = s.heave := rfl
@[simp] theorem State.onCan_hist (s : State) (c : Fin 4) (f : Can → Can) : (s.onCan c f).hist = s.hist := rfl
@[simp] theorem State.onCan_ring (s : State) (c : Fin 4) (f : Can → Can) : (s.onCan c f).ring = s.ring := rfl
@[simp] theorem State.onCan_em (s : State) (c : Fin 4) (f : Can → Can) : (s.onCan c f).em = s.em := rfl
@[simp] theorem State.onCan_reacts (s : State) (c : Fin 4) (f : Can → Can) : (s.onCan c f).reacts = s.reacts := rfl
@[simp] theorem State.onCan_chan (s : State) (c : Fin 4) (f : Can → Can) : (s.onCan c f).chan = s.chan := rfl
@[simp] theorem State.onCan_br (s : State) (c : Fin 4) (f : Can → Can) : (s.onCan c f).br = s.br := rfl
@[simp] theorem State.onCan_cmp (s : State) (c : Fin 4) (f : Can → Can) : (s.onCan c f).cmp = s.cmp := rfl
@[simp] theorem State.onCan_chop (s : State) (c : Fin 4) (f : Can → Can) : (s.onCan c f).chop = s.chop := rfl
@[simp] theorem State.onCan_wind (s : State) (c : Fin 4) (f : Can → Can) : (s.onCan c f).wind = s.wind := rfl
@[simp] theorem State.onCan_stest (s : State) (c : Fin 4) (f : Can → Can) : (s.onCan c f).stest = s.stest := rfl
@[simp] theorem State.onCan_tap (s : State) (c : Fin 4) (f : Can → Can) : (s.onCan c f).tap = s.tap := rfl
@[simp] theorem State.onCan_die (s : State) (c : Fin 4) (f : Can → Can) : (s.onCan c f).die = s.die := rfl
@[simp] theorem State.onCan_garnet (s : State) (c : Fin 4) (f : Can → Can) : (s.onCan c f).garnet = s.garnet := rfl
@[simp] theorem State.onCan_slog (s : State) (c : Fin 4) (f : Can → Can) : (s.onCan c f).slog = s.slog := rfl
@[simp] theorem State.onCan_fab (s : State) (c : Fin 4) (f : Can → Can) : (s.onCan c f).fab = s.fab := rfl
@[simp] theorem State.onCan_clk (s : State) (c : Fin 4) (f : Can → Can) : (s.onCan c f).clk = s.clk := rfl
@[simp] theorem State.onCan_rst (s : State) (c : Fin 4) (f : Can → Can) : (s.onCan c f).rst = s.rst := rfl
@[simp] theorem State.onCan_vbat (s : State) (c : Fin 4) (f : Can → Can) : (s.onCan c f).vbat = s.vbat := rfl
@[simp] theorem State.onCan_recd (s : State) (c : Fin 4) (f : Can → Can) : (s.onCan c f).recd = s.recd := rfl
@[simp] theorem State.onCan_jrn (s : State) (c : Fin 4) (f : Can → Can) : (s.onCan c f).jrn = s.jrn := rfl
@[simp] theorem State.onCan_jwBase (s : State) (c : Fin 4) (f : Can → Can) : (s.onCan c f).jwBase = s.jwBase := rfl
@[simp] theorem State.onCan_nor (s : State) (c : Fin 4) (f : Can → Can) : (s.onCan c f).nor = s.nor := rfl
@[simp] theorem State.onCan_img (s : State) (c : Fin 4) (f : Can → Can) : (s.onCan c f).img = s.img := rfl
@[simp] theorem State.onCan_com (s : State) (c : Fin 4) (f : Can → Can) : (s.onCan c f).com = s.com := rfl
@[simp] theorem State.onCan_shadow (s : State) (c : Fin 4) (f : Can → Can) : (s.onCan c f).shadow = s.shadow := rfl
@[simp] theorem State.onCan_fw (s : State) (c : Fin 4) (f : Can → Can) : (s.onCan c f).fw = s.fw := rfl
@[simp] theorem State.onCan_av (s : State) (c : Fin 4) (f : Can → Can) : (s.onCan c f).av = s.av := rfl
@[simp] theorem State.onCan_cap (s : State) (c : Fin 4) (f : Can → Can) : (s.onCan c f).cap = s.cap := rfl
@[simp] theorem State.onCan_eth (s : State) (c : Fin 4) (f : Can → Can) : (s.onCan c f).eth = s.eth := rfl
@[simp] theorem State.onCan_time (s : State) (c : Fin 4) (f : Can → Can) : (s.onCan c f).time = s.time := rfl
@[simp] theorem State.onCan_can (s : State) (c : Fin 4) (f : Can → Can) : (s.onCan c f).can = vmod s.can c f := rfl
@[simp] theorem State.onCan_onyx (s : State) (c : Fin 4) (f : Can → Can) : (s.onCan c f).onyx = s.onyx := rfl
@[simp] theorem State.onCan_latches (s : State) (c : Fin 4) (f : Can → Can) : (s.onCan c f).latches = s.latches := rfl

/-! ## `State.onOnyx` -/

@[simp] theorem State.onOnyx_pending (s : State) (f : Onyx → Onyx) : (s.onOnyx f).pending = s.pending := rfl
@[simp] theorem State.onOnyx_up (s : State) (f : Onyx → Onyx) : (s.onOnyx f).up = s.up := rfl
@[simp] theorem State.onOnyx_dev (s : State) (f : Onyx → Onyx) : (s.onOnyx f).dev = s.dev := rfl
@[simp] theorem State.onOnyx_devFrac (s : State) (f : Onyx → Onyx) : (s.onOnyx f).devFrac = s.devFrac := rfl
@[simp] theorem State.onOnyx_free (s : State) (f : Onyx → Onyx) : (s.onOnyx f).free = s.free := rfl
@[simp] theorem State.onOnyx_given (s : State) (f : Onyx → Onyx) : (s.onOnyx f).given = s.given := rfl
@[simp] theorem State.onOnyx_used (s : State) (f : Onyx → Onyx) : (s.onOnyx f).used = s.used := rfl
@[simp] theorem State.onOnyx_unarmedF (s : State) (f : Onyx → Onyx) : (s.onOnyx f).unarmedF = s.unarmedF := rfl
@[simp] theorem State.onOnyx_cells (s : State) (f : Onyx → Onyx) : (s.onOnyx f).cells = s.cells := rfl
@[simp] theorem State.onOnyx_hk (s : State) (f : Onyx → Onyx) : (s.onOnyx f).hk = s.hk := rfl
@[simp] theorem State.onOnyx_pwm (s : State) (f : Onyx → Onyx) : (s.onOnyx f).pwm = s.pwm := rfl
@[simp] theorem State.onOnyx_loops (s : State) (f : Onyx → Onyx) : (s.onOnyx f).loops = s.loops := rfl
@[simp] theorem State.onOnyx_posIf (s : State) (f : Onyx → Onyx) : (s.onOnyx f).posIf = s.posIf := rfl
@[simp] theorem State.onOnyx_start (s : State) (f : Onyx → Onyx) : (s.onOnyx f).start = s.start := rfl
@[simp] theorem State.onOnyx_spc (s : State) (f : Onyx → Onyx) : (s.onOnyx f).spc = s.spc := rfl
@[simp] theorem State.onOnyx_cmd (s : State) (f : Onyx → Onyx) : (s.onOnyx f).cmd = s.cmd := rfl
@[simp] theorem State.onOnyx_outer (s : State) (f : Onyx → Onyx) : (s.onOnyx f).outer = s.outer := rfl
@[simp] theorem State.onOnyx_brake (s : State) (f : Onyx → Onyx) : (s.onOnyx f).brake = s.brake := rfl
@[simp] theorem State.onOnyx_armed (s : State) (f : Onyx → Onyx) : (s.onOnyx f).armed = s.armed := rfl
@[simp] theorem State.onOnyx_disarmed (s : State) (f : Onyx → Onyx) : (s.onOnyx f).disarmed = s.disarmed := rfl
@[simp] theorem State.onOnyx_mapBad (s : State) (f : Onyx → Onyx) : (s.onOnyx f).mapBad = s.mapBad := rfl
@[simp] theorem State.onOnyx_badChk (s : State) (f : Onyx → Onyx) : (s.onOnyx f).badChk = s.badChk := rfl
@[simp] theorem State.onOnyx_axes (s : State) (f : Onyx → Onyx) : (s.onOnyx f).axes = s.axes := rfl
@[simp] theorem State.onOnyx_moGen (s : State) (f : Onyx → Onyx) : (s.onOnyx f).moGen = s.moGen := rfl
@[simp] theorem State.onOnyx_shock (s : State) (f : Onyx → Onyx) : (s.onOnyx f).shock = s.shock := rfl
@[simp] theorem State.onOnyx_heave (s : State) (f : Onyx → Onyx) : (s.onOnyx f).heave = s.heave := rfl
@[simp] theorem State.onOnyx_hist (s : State) (f : Onyx → Onyx) : (s.onOnyx f).hist = s.hist := rfl
@[simp] theorem State.onOnyx_ring (s : State) (f : Onyx → Onyx) : (s.onOnyx f).ring = s.ring := rfl
@[simp] theorem State.onOnyx_em (s : State) (f : Onyx → Onyx) : (s.onOnyx f).em = s.em := rfl
@[simp] theorem State.onOnyx_reacts (s : State) (f : Onyx → Onyx) : (s.onOnyx f).reacts = s.reacts := rfl
@[simp] theorem State.onOnyx_chan (s : State) (f : Onyx → Onyx) : (s.onOnyx f).chan = s.chan := rfl
@[simp] theorem State.onOnyx_br (s : State) (f : Onyx → Onyx) : (s.onOnyx f).br = s.br := rfl
@[simp] theorem State.onOnyx_cmp (s : State) (f : Onyx → Onyx) : (s.onOnyx f).cmp = s.cmp := rfl
@[simp] theorem State.onOnyx_chop (s : State) (f : Onyx → Onyx) : (s.onOnyx f).chop = s.chop := rfl
@[simp] theorem State.onOnyx_wind (s : State) (f : Onyx → Onyx) : (s.onOnyx f).wind = s.wind := rfl
@[simp] theorem State.onOnyx_stest (s : State) (f : Onyx → Onyx) : (s.onOnyx f).stest = s.stest := rfl
@[simp] theorem State.onOnyx_tap (s : State) (f : Onyx → Onyx) : (s.onOnyx f).tap = s.tap := rfl
@[simp] theorem State.onOnyx_die (s : State) (f : Onyx → Onyx) : (s.onOnyx f).die = s.die := rfl
@[simp] theorem State.onOnyx_garnet (s : State) (f : Onyx → Onyx) : (s.onOnyx f).garnet = s.garnet := rfl
@[simp] theorem State.onOnyx_slog (s : State) (f : Onyx → Onyx) : (s.onOnyx f).slog = s.slog := rfl
@[simp] theorem State.onOnyx_fab (s : State) (f : Onyx → Onyx) : (s.onOnyx f).fab = s.fab := rfl
@[simp] theorem State.onOnyx_clk (s : State) (f : Onyx → Onyx) : (s.onOnyx f).clk = s.clk := rfl
@[simp] theorem State.onOnyx_rst (s : State) (f : Onyx → Onyx) : (s.onOnyx f).rst = s.rst := rfl
@[simp] theorem State.onOnyx_vbat (s : State) (f : Onyx → Onyx) : (s.onOnyx f).vbat = s.vbat := rfl
@[simp] theorem State.onOnyx_recd (s : State) (f : Onyx → Onyx) : (s.onOnyx f).recd = s.recd := rfl
@[simp] theorem State.onOnyx_jrn (s : State) (f : Onyx → Onyx) : (s.onOnyx f).jrn = s.jrn := rfl
@[simp] theorem State.onOnyx_jwBase (s : State) (f : Onyx → Onyx) : (s.onOnyx f).jwBase = s.jwBase := rfl
@[simp] theorem State.onOnyx_nor (s : State) (f : Onyx → Onyx) : (s.onOnyx f).nor = s.nor := rfl
@[simp] theorem State.onOnyx_img (s : State) (f : Onyx → Onyx) : (s.onOnyx f).img = s.img := rfl
@[simp] theorem State.onOnyx_com (s : State) (f : Onyx → Onyx) : (s.onOnyx f).com = s.com := rfl
@[simp] theorem State.onOnyx_shadow (s : State) (f : Onyx → Onyx) : (s.onOnyx f).shadow = s.shadow := rfl
@[simp] theorem State.onOnyx_fw (s : State) (f : Onyx → Onyx) : (s.onOnyx f).fw = s.fw := rfl
@[simp] theorem State.onOnyx_av (s : State) (f : Onyx → Onyx) : (s.onOnyx f).av = s.av := rfl
@[simp] theorem State.onOnyx_cap (s : State) (f : Onyx → Onyx) : (s.onOnyx f).cap = s.cap := rfl
@[simp] theorem State.onOnyx_eth (s : State) (f : Onyx → Onyx) : (s.onOnyx f).eth = s.eth := rfl
@[simp] theorem State.onOnyx_time (s : State) (f : Onyx → Onyx) : (s.onOnyx f).time = s.time := rfl
@[simp] theorem State.onOnyx_can (s : State) (f : Onyx → Onyx) : (s.onOnyx f).can = s.can := rfl
@[simp] theorem State.onOnyx_onyx (s : State) (f : Onyx → Onyx) : (s.onOnyx f).onyx = f s.onyx := rfl
@[simp] theorem State.onOnyx_latches (s : State) (f : Onyx → Onyx) : (s.onOnyx f).latches = s.latches := rfl

/-! ## `State.onSpc` -/

@[simp] theorem State.onSpc_pending (s : State) (j : Fin 32) (f : SetpointCh → SetpointCh) : (s.onSpc j f).pending = s.pending := rfl
@[simp] theorem State.onSpc_up (s : State) (j : Fin 32) (f : SetpointCh → SetpointCh) : (s.onSpc j f).up = s.up := rfl
@[simp] theorem State.onSpc_dev (s : State) (j : Fin 32) (f : SetpointCh → SetpointCh) : (s.onSpc j f).dev = s.dev := rfl
@[simp] theorem State.onSpc_devFrac (s : State) (j : Fin 32) (f : SetpointCh → SetpointCh) : (s.onSpc j f).devFrac = s.devFrac := rfl
@[simp] theorem State.onSpc_free (s : State) (j : Fin 32) (f : SetpointCh → SetpointCh) : (s.onSpc j f).free = s.free := rfl
@[simp] theorem State.onSpc_given (s : State) (j : Fin 32) (f : SetpointCh → SetpointCh) : (s.onSpc j f).given = s.given := rfl
@[simp] theorem State.onSpc_used (s : State) (j : Fin 32) (f : SetpointCh → SetpointCh) : (s.onSpc j f).used = s.used := rfl
@[simp] theorem State.onSpc_unarmedF (s : State) (j : Fin 32) (f : SetpointCh → SetpointCh) : (s.onSpc j f).unarmedF = s.unarmedF := rfl
@[simp] theorem State.onSpc_cells (s : State) (j : Fin 32) (f : SetpointCh → SetpointCh) : (s.onSpc j f).cells = s.cells := rfl
@[simp] theorem State.onSpc_hk (s : State) (j : Fin 32) (f : SetpointCh → SetpointCh) : (s.onSpc j f).hk = s.hk := rfl
@[simp] theorem State.onSpc_pwm (s : State) (j : Fin 32) (f : SetpointCh → SetpointCh) : (s.onSpc j f).pwm = s.pwm := rfl
@[simp] theorem State.onSpc_loops (s : State) (j : Fin 32) (f : SetpointCh → SetpointCh) : (s.onSpc j f).loops = s.loops := rfl
@[simp] theorem State.onSpc_posIf (s : State) (j : Fin 32) (f : SetpointCh → SetpointCh) : (s.onSpc j f).posIf = s.posIf := rfl
@[simp] theorem State.onSpc_start (s : State) (j : Fin 32) (f : SetpointCh → SetpointCh) : (s.onSpc j f).start = s.start := rfl
@[simp] theorem State.onSpc_spc (s : State) (j : Fin 32) (f : SetpointCh → SetpointCh) : (s.onSpc j f).spc = vmod s.spc j f := rfl
@[simp] theorem State.onSpc_cmd (s : State) (j : Fin 32) (f : SetpointCh → SetpointCh) : (s.onSpc j f).cmd = s.cmd := rfl
@[simp] theorem State.onSpc_outer (s : State) (j : Fin 32) (f : SetpointCh → SetpointCh) : (s.onSpc j f).outer = s.outer := rfl
@[simp] theorem State.onSpc_brake (s : State) (j : Fin 32) (f : SetpointCh → SetpointCh) : (s.onSpc j f).brake = s.brake := rfl
@[simp] theorem State.onSpc_armed (s : State) (j : Fin 32) (f : SetpointCh → SetpointCh) : (s.onSpc j f).armed = s.armed := rfl
@[simp] theorem State.onSpc_disarmed (s : State) (j : Fin 32) (f : SetpointCh → SetpointCh) : (s.onSpc j f).disarmed = s.disarmed := rfl
@[simp] theorem State.onSpc_mapBad (s : State) (j : Fin 32) (f : SetpointCh → SetpointCh) : (s.onSpc j f).mapBad = s.mapBad := rfl
@[simp] theorem State.onSpc_badChk (s : State) (j : Fin 32) (f : SetpointCh → SetpointCh) : (s.onSpc j f).badChk = s.badChk := rfl
@[simp] theorem State.onSpc_axes (s : State) (j : Fin 32) (f : SetpointCh → SetpointCh) : (s.onSpc j f).axes = s.axes := rfl
@[simp] theorem State.onSpc_moGen (s : State) (j : Fin 32) (f : SetpointCh → SetpointCh) : (s.onSpc j f).moGen = s.moGen := rfl
@[simp] theorem State.onSpc_shock (s : State) (j : Fin 32) (f : SetpointCh → SetpointCh) : (s.onSpc j f).shock = s.shock := rfl
@[simp] theorem State.onSpc_heave (s : State) (j : Fin 32) (f : SetpointCh → SetpointCh) : (s.onSpc j f).heave = s.heave := rfl
@[simp] theorem State.onSpc_hist (s : State) (j : Fin 32) (f : SetpointCh → SetpointCh) : (s.onSpc j f).hist = s.hist := rfl
@[simp] theorem State.onSpc_ring (s : State) (j : Fin 32) (f : SetpointCh → SetpointCh) : (s.onSpc j f).ring = s.ring := rfl
@[simp] theorem State.onSpc_em (s : State) (j : Fin 32) (f : SetpointCh → SetpointCh) : (s.onSpc j f).em = s.em := rfl
@[simp] theorem State.onSpc_reacts (s : State) (j : Fin 32) (f : SetpointCh → SetpointCh) : (s.onSpc j f).reacts = s.reacts := rfl
@[simp] theorem State.onSpc_chan (s : State) (j : Fin 32) (f : SetpointCh → SetpointCh) : (s.onSpc j f).chan = s.chan := rfl
@[simp] theorem State.onSpc_br (s : State) (j : Fin 32) (f : SetpointCh → SetpointCh) : (s.onSpc j f).br = s.br := rfl
@[simp] theorem State.onSpc_cmp (s : State) (j : Fin 32) (f : SetpointCh → SetpointCh) : (s.onSpc j f).cmp = s.cmp := rfl
@[simp] theorem State.onSpc_chop (s : State) (j : Fin 32) (f : SetpointCh → SetpointCh) : (s.onSpc j f).chop = s.chop := rfl
@[simp] theorem State.onSpc_wind (s : State) (j : Fin 32) (f : SetpointCh → SetpointCh) : (s.onSpc j f).wind = s.wind := rfl
@[simp] theorem State.onSpc_stest (s : State) (j : Fin 32) (f : SetpointCh → SetpointCh) : (s.onSpc j f).stest = s.stest := rfl
@[simp] theorem State.onSpc_tap (s : State) (j : Fin 32) (f : SetpointCh → SetpointCh) : (s.onSpc j f).tap = s.tap := rfl
@[simp] theorem State.onSpc_die (s : State) (j : Fin 32) (f : SetpointCh → SetpointCh) : (s.onSpc j f).die = s.die := rfl
@[simp] theorem State.onSpc_garnet (s : State) (j : Fin 32) (f : SetpointCh → SetpointCh) : (s.onSpc j f).garnet = s.garnet := rfl
@[simp] theorem State.onSpc_slog (s : State) (j : Fin 32) (f : SetpointCh → SetpointCh) : (s.onSpc j f).slog = s.slog := rfl
@[simp] theorem State.onSpc_fab (s : State) (j : Fin 32) (f : SetpointCh → SetpointCh) : (s.onSpc j f).fab = s.fab := rfl
@[simp] theorem State.onSpc_clk (s : State) (j : Fin 32) (f : SetpointCh → SetpointCh) : (s.onSpc j f).clk = s.clk := rfl
@[simp] theorem State.onSpc_rst (s : State) (j : Fin 32) (f : SetpointCh → SetpointCh) : (s.onSpc j f).rst = s.rst := rfl
@[simp] theorem State.onSpc_vbat (s : State) (j : Fin 32) (f : SetpointCh → SetpointCh) : (s.onSpc j f).vbat = s.vbat := rfl
@[simp] theorem State.onSpc_recd (s : State) (j : Fin 32) (f : SetpointCh → SetpointCh) : (s.onSpc j f).recd = s.recd := rfl
@[simp] theorem State.onSpc_jrn (s : State) (j : Fin 32) (f : SetpointCh → SetpointCh) : (s.onSpc j f).jrn = s.jrn := rfl
@[simp] theorem State.onSpc_jwBase (s : State) (j : Fin 32) (f : SetpointCh → SetpointCh) : (s.onSpc j f).jwBase = s.jwBase := rfl
@[simp] theorem State.onSpc_nor (s : State) (j : Fin 32) (f : SetpointCh → SetpointCh) : (s.onSpc j f).nor = s.nor := rfl
@[simp] theorem State.onSpc_img (s : State) (j : Fin 32) (f : SetpointCh → SetpointCh) : (s.onSpc j f).img = s.img := rfl
@[simp] theorem State.onSpc_com (s : State) (j : Fin 32) (f : SetpointCh → SetpointCh) : (s.onSpc j f).com = s.com := rfl
@[simp] theorem State.onSpc_shadow (s : State) (j : Fin 32) (f : SetpointCh → SetpointCh) : (s.onSpc j f).shadow = s.shadow := rfl
@[simp] theorem State.onSpc_fw (s : State) (j : Fin 32) (f : SetpointCh → SetpointCh) : (s.onSpc j f).fw = s.fw := rfl
@[simp] theorem State.onSpc_av (s : State) (j : Fin 32) (f : SetpointCh → SetpointCh) : (s.onSpc j f).av = s.av := rfl
@[simp] theorem State.onSpc_cap (s : State) (j : Fin 32) (f : SetpointCh → SetpointCh) : (s.onSpc j f).cap = s.cap := rfl
@[simp] theorem State.onSpc_eth (s : State) (j : Fin 32) (f : SetpointCh → SetpointCh) : (s.onSpc j f).eth = s.eth := rfl
@[simp] theorem State.onSpc_time (s : State) (j : Fin 32) (f : SetpointCh → SetpointCh) : (s.onSpc j f).time = s.time := rfl
@[simp] theorem State.onSpc_can (s : State) (j : Fin 32) (f : SetpointCh → SetpointCh) : (s.onSpc j f).can = s.can := rfl
@[simp] theorem State.onSpc_onyx (s : State) (j : Fin 32) (f : SetpointCh → SetpointCh) : (s.onSpc j f).onyx = s.onyx := rfl
@[simp] theorem State.onSpc_latches (s : State) (j : Fin 32) (f : SetpointCh → SetpointCh) : (s.onSpc j f).latches = s.latches := rfl

/-! ## `State.onCellN` -/

@[simp] theorem State.onCellN_pending (s : State) (c : Nat) (f : Cell → Cell) : (s.onCellN c f).pending = s.pending := rfl
@[simp] theorem State.onCellN_up (s : State) (c : Nat) (f : Cell → Cell) : (s.onCellN c f).up = s.up := rfl
@[simp] theorem State.onCellN_dev (s : State) (c : Nat) (f : Cell → Cell) : (s.onCellN c f).dev = s.dev := rfl
@[simp] theorem State.onCellN_devFrac (s : State) (c : Nat) (f : Cell → Cell) : (s.onCellN c f).devFrac = s.devFrac := rfl
@[simp] theorem State.onCellN_free (s : State) (c : Nat) (f : Cell → Cell) : (s.onCellN c f).free = s.free := rfl
@[simp] theorem State.onCellN_given (s : State) (c : Nat) (f : Cell → Cell) : (s.onCellN c f).given = s.given := rfl
@[simp] theorem State.onCellN_used (s : State) (c : Nat) (f : Cell → Cell) : (s.onCellN c f).used = s.used := rfl
@[simp] theorem State.onCellN_unarmedF (s : State) (c : Nat) (f : Cell → Cell) : (s.onCellN c f).unarmedF = s.unarmedF := rfl
@[simp] theorem State.onCellN_cells (s : State) (c : Nat) (f : Cell → Cell) : (s.onCellN c f).cells = vmodN s.cells c f := rfl
@[simp] theorem State.onCellN_hk (s : State) (c : Nat) (f : Cell → Cell) : (s.onCellN c f).hk = s.hk := rfl
@[simp] theorem State.onCellN_pwm (s : State) (c : Nat) (f : Cell → Cell) : (s.onCellN c f).pwm = s.pwm := rfl
@[simp] theorem State.onCellN_loops (s : State) (c : Nat) (f : Cell → Cell) : (s.onCellN c f).loops = s.loops := rfl
@[simp] theorem State.onCellN_posIf (s : State) (c : Nat) (f : Cell → Cell) : (s.onCellN c f).posIf = s.posIf := rfl
@[simp] theorem State.onCellN_start (s : State) (c : Nat) (f : Cell → Cell) : (s.onCellN c f).start = s.start := rfl
@[simp] theorem State.onCellN_spc (s : State) (c : Nat) (f : Cell → Cell) : (s.onCellN c f).spc = s.spc := rfl
@[simp] theorem State.onCellN_cmd (s : State) (c : Nat) (f : Cell → Cell) : (s.onCellN c f).cmd = s.cmd := rfl
@[simp] theorem State.onCellN_outer (s : State) (c : Nat) (f : Cell → Cell) : (s.onCellN c f).outer = s.outer := rfl
@[simp] theorem State.onCellN_brake (s : State) (c : Nat) (f : Cell → Cell) : (s.onCellN c f).brake = s.brake := rfl
@[simp] theorem State.onCellN_armed (s : State) (c : Nat) (f : Cell → Cell) : (s.onCellN c f).armed = s.armed := rfl
@[simp] theorem State.onCellN_disarmed (s : State) (c : Nat) (f : Cell → Cell) : (s.onCellN c f).disarmed = s.disarmed := rfl
@[simp] theorem State.onCellN_mapBad (s : State) (c : Nat) (f : Cell → Cell) : (s.onCellN c f).mapBad = s.mapBad := rfl
@[simp] theorem State.onCellN_badChk (s : State) (c : Nat) (f : Cell → Cell) : (s.onCellN c f).badChk = s.badChk := rfl
@[simp] theorem State.onCellN_axes (s : State) (c : Nat) (f : Cell → Cell) : (s.onCellN c f).axes = s.axes := rfl
@[simp] theorem State.onCellN_moGen (s : State) (c : Nat) (f : Cell → Cell) : (s.onCellN c f).moGen = s.moGen := rfl
@[simp] theorem State.onCellN_shock (s : State) (c : Nat) (f : Cell → Cell) : (s.onCellN c f).shock = s.shock := rfl
@[simp] theorem State.onCellN_heave (s : State) (c : Nat) (f : Cell → Cell) : (s.onCellN c f).heave = s.heave := rfl
@[simp] theorem State.onCellN_hist (s : State) (c : Nat) (f : Cell → Cell) : (s.onCellN c f).hist = s.hist := rfl
@[simp] theorem State.onCellN_ring (s : State) (c : Nat) (f : Cell → Cell) : (s.onCellN c f).ring = s.ring := rfl
@[simp] theorem State.onCellN_em (s : State) (c : Nat) (f : Cell → Cell) : (s.onCellN c f).em = s.em := rfl
@[simp] theorem State.onCellN_reacts (s : State) (c : Nat) (f : Cell → Cell) : (s.onCellN c f).reacts = s.reacts := rfl
@[simp] theorem State.onCellN_chan (s : State) (c : Nat) (f : Cell → Cell) : (s.onCellN c f).chan = s.chan := rfl
@[simp] theorem State.onCellN_br (s : State) (c : Nat) (f : Cell → Cell) : (s.onCellN c f).br = s.br := rfl
@[simp] theorem State.onCellN_cmp (s : State) (c : Nat) (f : Cell → Cell) : (s.onCellN c f).cmp = s.cmp := rfl
@[simp] theorem State.onCellN_chop (s : State) (c : Nat) (f : Cell → Cell) : (s.onCellN c f).chop = s.chop := rfl
@[simp] theorem State.onCellN_wind (s : State) (c : Nat) (f : Cell → Cell) : (s.onCellN c f).wind = s.wind := rfl
@[simp] theorem State.onCellN_stest (s : State) (c : Nat) (f : Cell → Cell) : (s.onCellN c f).stest = s.stest := rfl
@[simp] theorem State.onCellN_tap (s : State) (c : Nat) (f : Cell → Cell) : (s.onCellN c f).tap = s.tap := rfl
@[simp] theorem State.onCellN_die (s : State) (c : Nat) (f : Cell → Cell) : (s.onCellN c f).die = s.die := rfl
@[simp] theorem State.onCellN_garnet (s : State) (c : Nat) (f : Cell → Cell) : (s.onCellN c f).garnet = s.garnet := rfl
@[simp] theorem State.onCellN_slog (s : State) (c : Nat) (f : Cell → Cell) : (s.onCellN c f).slog = s.slog := rfl
@[simp] theorem State.onCellN_fab (s : State) (c : Nat) (f : Cell → Cell) : (s.onCellN c f).fab = s.fab := rfl
@[simp] theorem State.onCellN_clk (s : State) (c : Nat) (f : Cell → Cell) : (s.onCellN c f).clk = s.clk := rfl
@[simp] theorem State.onCellN_rst (s : State) (c : Nat) (f : Cell → Cell) : (s.onCellN c f).rst = s.rst := rfl
@[simp] theorem State.onCellN_vbat (s : State) (c : Nat) (f : Cell → Cell) : (s.onCellN c f).vbat = s.vbat := rfl
@[simp] theorem State.onCellN_recd (s : State) (c : Nat) (f : Cell → Cell) : (s.onCellN c f).recd = s.recd := rfl
@[simp] theorem State.onCellN_jrn (s : State) (c : Nat) (f : Cell → Cell) : (s.onCellN c f).jrn = s.jrn := rfl
@[simp] theorem State.onCellN_jwBase (s : State) (c : Nat) (f : Cell → Cell) : (s.onCellN c f).jwBase = s.jwBase := rfl
@[simp] theorem State.onCellN_nor (s : State) (c : Nat) (f : Cell → Cell) : (s.onCellN c f).nor = s.nor := rfl
@[simp] theorem State.onCellN_img (s : State) (c : Nat) (f : Cell → Cell) : (s.onCellN c f).img = s.img := rfl
@[simp] theorem State.onCellN_com (s : State) (c : Nat) (f : Cell → Cell) : (s.onCellN c f).com = s.com := rfl
@[simp] theorem State.onCellN_shadow (s : State) (c : Nat) (f : Cell → Cell) : (s.onCellN c f).shadow = s.shadow := rfl
@[simp] theorem State.onCellN_fw (s : State) (c : Nat) (f : Cell → Cell) : (s.onCellN c f).fw = s.fw := rfl
@[simp] theorem State.onCellN_av (s : State) (c : Nat) (f : Cell → Cell) : (s.onCellN c f).av = s.av := rfl
@[simp] theorem State.onCellN_cap (s : State) (c : Nat) (f : Cell → Cell) : (s.onCellN c f).cap = s.cap := rfl
@[simp] theorem State.onCellN_eth (s : State) (c : Nat) (f : Cell → Cell) : (s.onCellN c f).eth = s.eth := rfl
@[simp] theorem State.onCellN_time (s : State) (c : Nat) (f : Cell → Cell) : (s.onCellN c f).time = s.time := rfl
@[simp] theorem State.onCellN_can (s : State) (c : Nat) (f : Cell → Cell) : (s.onCellN c f).can = s.can := rfl
@[simp] theorem State.onCellN_onyx (s : State) (c : Nat) (f : Cell → Cell) : (s.onCellN c f).onyx = s.onyx := rfl
@[simp] theorem State.onCellN_latches (s : State) (c : Nat) (f : Cell → Cell) : (s.onCellN c f).latches = s.latches := rfl

/-! ## `State.onSi` -/

@[simp] theorem State.onSi_pending (s : State) (i : Fin 24) (f : SafeIn → SafeIn) : (s.onSi i f).pending = s.pending := rfl
@[simp] theorem State.onSi_up (s : State) (i : Fin 24) (f : SafeIn → SafeIn) : (s.onSi i f).up = s.up := rfl
@[simp] theorem State.onSi_dev (s : State) (i : Fin 24) (f : SafeIn → SafeIn) : (s.onSi i f).dev = s.dev := rfl
@[simp] theorem State.onSi_devFrac (s : State) (i : Fin 24) (f : SafeIn → SafeIn) : (s.onSi i f).devFrac = s.devFrac := rfl
@[simp] theorem State.onSi_free (s : State) (i : Fin 24) (f : SafeIn → SafeIn) : (s.onSi i f).free = s.free := rfl
@[simp] theorem State.onSi_given (s : State) (i : Fin 24) (f : SafeIn → SafeIn) : (s.onSi i f).given = s.given := rfl
@[simp] theorem State.onSi_used (s : State) (i : Fin 24) (f : SafeIn → SafeIn) : (s.onSi i f).used = s.used := rfl
@[simp] theorem State.onSi_unarmedF (s : State) (i : Fin 24) (f : SafeIn → SafeIn) : (s.onSi i f).unarmedF = s.unarmedF := rfl
@[simp] theorem State.onSi_cells (s : State) (i : Fin 24) (f : SafeIn → SafeIn) : (s.onSi i f).cells = s.cells := rfl
@[simp] theorem State.onSi_hk (s : State) (i : Fin 24) (f : SafeIn → SafeIn) : (s.onSi i f).hk = s.hk := rfl
@[simp] theorem State.onSi_pwm (s : State) (i : Fin 24) (f : SafeIn → SafeIn) : (s.onSi i f).pwm = s.pwm := rfl
@[simp] theorem State.onSi_loops (s : State) (i : Fin 24) (f : SafeIn → SafeIn) : (s.onSi i f).loops = s.loops := rfl
@[simp] theorem State.onSi_posIf (s : State) (i : Fin 24) (f : SafeIn → SafeIn) : (s.onSi i f).posIf = s.posIf := rfl
@[simp] theorem State.onSi_start (s : State) (i : Fin 24) (f : SafeIn → SafeIn) : (s.onSi i f).start = s.start := rfl
@[simp] theorem State.onSi_spc (s : State) (i : Fin 24) (f : SafeIn → SafeIn) : (s.onSi i f).spc = s.spc := rfl
@[simp] theorem State.onSi_cmd (s : State) (i : Fin 24) (f : SafeIn → SafeIn) : (s.onSi i f).cmd = s.cmd := rfl
@[simp] theorem State.onSi_outer (s : State) (i : Fin 24) (f : SafeIn → SafeIn) : (s.onSi i f).outer = s.outer := rfl
@[simp] theorem State.onSi_brake (s : State) (i : Fin 24) (f : SafeIn → SafeIn) : (s.onSi i f).brake = s.brake := rfl
@[simp] theorem State.onSi_armed (s : State) (i : Fin 24) (f : SafeIn → SafeIn) : (s.onSi i f).armed = s.armed := rfl
@[simp] theorem State.onSi_disarmed (s : State) (i : Fin 24) (f : SafeIn → SafeIn) : (s.onSi i f).disarmed = s.disarmed := rfl
@[simp] theorem State.onSi_mapBad (s : State) (i : Fin 24) (f : SafeIn → SafeIn) : (s.onSi i f).mapBad = s.mapBad := rfl
@[simp] theorem State.onSi_badChk (s : State) (i : Fin 24) (f : SafeIn → SafeIn) : (s.onSi i f).badChk = s.badChk := rfl
@[simp] theorem State.onSi_axes (s : State) (i : Fin 24) (f : SafeIn → SafeIn) : (s.onSi i f).axes = s.axes := rfl
@[simp] theorem State.onSi_moGen (s : State) (i : Fin 24) (f : SafeIn → SafeIn) : (s.onSi i f).moGen = s.moGen := rfl
@[simp] theorem State.onSi_shock (s : State) (i : Fin 24) (f : SafeIn → SafeIn) : (s.onSi i f).shock = s.shock := rfl
@[simp] theorem State.onSi_heave (s : State) (i : Fin 24) (f : SafeIn → SafeIn) : (s.onSi i f).heave = s.heave := rfl
@[simp] theorem State.onSi_hist (s : State) (i : Fin 24) (f : SafeIn → SafeIn) : (s.onSi i f).hist = s.hist := rfl
@[simp] theorem State.onSi_ring (s : State) (i : Fin 24) (f : SafeIn → SafeIn) : (s.onSi i f).ring = s.ring := rfl
@[simp] theorem State.onSi_em (s : State) (i : Fin 24) (f : SafeIn → SafeIn) : (s.onSi i f).em = s.em := rfl
@[simp] theorem State.onSi_reacts (s : State) (i : Fin 24) (f : SafeIn → SafeIn) : (s.onSi i f).reacts = s.reacts := rfl
@[simp] theorem State.onSi_chan (s : State) (i : Fin 24) (f : SafeIn → SafeIn) : (s.onSi i f).chan = s.chan := rfl
@[simp] theorem State.onSi_br (s : State) (i : Fin 24) (f : SafeIn → SafeIn) : (s.onSi i f).br = s.br := rfl
@[simp] theorem State.onSi_cmp (s : State) (i : Fin 24) (f : SafeIn → SafeIn) : (s.onSi i f).cmp = s.cmp := rfl
@[simp] theorem State.onSi_chop (s : State) (i : Fin 24) (f : SafeIn → SafeIn) : (s.onSi i f).chop = s.chop := rfl
@[simp] theorem State.onSi_wind (s : State) (i : Fin 24) (f : SafeIn → SafeIn) : (s.onSi i f).wind = s.wind := rfl
@[simp] theorem State.onSi_stest (s : State) (i : Fin 24) (f : SafeIn → SafeIn) : (s.onSi i f).stest = s.stest := rfl
@[simp] theorem State.onSi_tap (s : State) (i : Fin 24) (f : SafeIn → SafeIn) : (s.onSi i f).tap = s.tap := rfl
@[simp] theorem State.onSi_die (s : State) (i : Fin 24) (f : SafeIn → SafeIn) : (s.onSi i f).die = s.die := rfl
@[simp] theorem State.onSi_garnet (s : State) (i : Fin 24) (f : SafeIn → SafeIn) : (s.onSi i f).garnet = { s.garnet with si := vmod s.garnet.si i f } := rfl
@[simp] theorem State.onSi_slog (s : State) (i : Fin 24) (f : SafeIn → SafeIn) : (s.onSi i f).slog = s.slog := rfl
@[simp] theorem State.onSi_fab (s : State) (i : Fin 24) (f : SafeIn → SafeIn) : (s.onSi i f).fab = s.fab := rfl
@[simp] theorem State.onSi_clk (s : State) (i : Fin 24) (f : SafeIn → SafeIn) : (s.onSi i f).clk = s.clk := rfl
@[simp] theorem State.onSi_rst (s : State) (i : Fin 24) (f : SafeIn → SafeIn) : (s.onSi i f).rst = s.rst := rfl
@[simp] theorem State.onSi_vbat (s : State) (i : Fin 24) (f : SafeIn → SafeIn) : (s.onSi i f).vbat = s.vbat := rfl
@[simp] theorem State.onSi_recd (s : State) (i : Fin 24) (f : SafeIn → SafeIn) : (s.onSi i f).recd = s.recd := rfl
@[simp] theorem State.onSi_jrn (s : State) (i : Fin 24) (f : SafeIn → SafeIn) : (s.onSi i f).jrn = s.jrn := rfl
@[simp] theorem State.onSi_jwBase (s : State) (i : Fin 24) (f : SafeIn → SafeIn) : (s.onSi i f).jwBase = s.jwBase := rfl
@[simp] theorem State.onSi_nor (s : State) (i : Fin 24) (f : SafeIn → SafeIn) : (s.onSi i f).nor = s.nor := rfl
@[simp] theorem State.onSi_img (s : State) (i : Fin 24) (f : SafeIn → SafeIn) : (s.onSi i f).img = s.img := rfl
@[simp] theorem State.onSi_com (s : State) (i : Fin 24) (f : SafeIn → SafeIn) : (s.onSi i f).com = s.com := rfl
@[simp] theorem State.onSi_shadow (s : State) (i : Fin 24) (f : SafeIn → SafeIn) : (s.onSi i f).shadow = s.shadow := rfl
@[simp] theorem State.onSi_fw (s : State) (i : Fin 24) (f : SafeIn → SafeIn) : (s.onSi i f).fw = s.fw := rfl
@[simp] theorem State.onSi_av (s : State) (i : Fin 24) (f : SafeIn → SafeIn) : (s.onSi i f).av = s.av := rfl
@[simp] theorem State.onSi_cap (s : State) (i : Fin 24) (f : SafeIn → SafeIn) : (s.onSi i f).cap = s.cap := rfl
@[simp] theorem State.onSi_eth (s : State) (i : Fin 24) (f : SafeIn → SafeIn) : (s.onSi i f).eth = s.eth := rfl
@[simp] theorem State.onSi_time (s : State) (i : Fin 24) (f : SafeIn → SafeIn) : (s.onSi i f).time = s.time := rfl
@[simp] theorem State.onSi_can (s : State) (i : Fin 24) (f : SafeIn → SafeIn) : (s.onSi i f).can = s.can := rfl
@[simp] theorem State.onSi_onyx (s : State) (i : Fin 24) (f : SafeIn → SafeIn) : (s.onSi i f).onyx = s.onyx := rfl
@[simp] theorem State.onSi_latches (s : State) (i : Fin 24) (f : SafeIn → SafeIn) : (s.onSi i f).latches = s.latches := rfl

/-! ## `State.onPair` -/

@[simp] theorem State.onPair_pending (s : State) (k : Fin 12) (f : SafePair → SafePair) : (s.onPair k f).pending = s.pending := rfl
@[simp] theorem State.onPair_up (s : State) (k : Fin 12) (f : SafePair → SafePair) : (s.onPair k f).up = s.up := rfl
@[simp] theorem State.onPair_dev (s : State) (k : Fin 12) (f : SafePair → SafePair) : (s.onPair k f).dev = s.dev := rfl
@[simp] theorem State.onPair_devFrac (s : State) (k : Fin 12) (f : SafePair → SafePair) : (s.onPair k f).devFrac = s.devFrac := rfl
@[simp] theorem State.onPair_free (s : State) (k : Fin 12) (f : SafePair → SafePair) : (s.onPair k f).free = s.free := rfl
@[simp] theorem State.onPair_given (s : State) (k : Fin 12) (f : SafePair → SafePair) : (s.onPair k f).given = s.given := rfl
@[simp] theorem State.onPair_used (s : State) (k : Fin 12) (f : SafePair → SafePair) : (s.onPair k f).used = s.used := rfl
@[simp] theorem State.onPair_unarmedF (s : State) (k : Fin 12) (f : SafePair → SafePair) : (s.onPair k f).unarmedF = s.unarmedF := rfl
@[simp] theorem State.onPair_cells (s : State) (k : Fin 12) (f : SafePair → SafePair) : (s.onPair k f).cells = s.cells := rfl
@[simp] theorem State.onPair_hk (s : State) (k : Fin 12) (f : SafePair → SafePair) : (s.onPair k f).hk = s.hk := rfl
@[simp] theorem State.onPair_pwm (s : State) (k : Fin 12) (f : SafePair → SafePair) : (s.onPair k f).pwm = s.pwm := rfl
@[simp] theorem State.onPair_loops (s : State) (k : Fin 12) (f : SafePair → SafePair) : (s.onPair k f).loops = s.loops := rfl
@[simp] theorem State.onPair_posIf (s : State) (k : Fin 12) (f : SafePair → SafePair) : (s.onPair k f).posIf = s.posIf := rfl
@[simp] theorem State.onPair_start (s : State) (k : Fin 12) (f : SafePair → SafePair) : (s.onPair k f).start = s.start := rfl
@[simp] theorem State.onPair_spc (s : State) (k : Fin 12) (f : SafePair → SafePair) : (s.onPair k f).spc = s.spc := rfl
@[simp] theorem State.onPair_cmd (s : State) (k : Fin 12) (f : SafePair → SafePair) : (s.onPair k f).cmd = s.cmd := rfl
@[simp] theorem State.onPair_outer (s : State) (k : Fin 12) (f : SafePair → SafePair) : (s.onPair k f).outer = s.outer := rfl
@[simp] theorem State.onPair_brake (s : State) (k : Fin 12) (f : SafePair → SafePair) : (s.onPair k f).brake = s.brake := rfl
@[simp] theorem State.onPair_armed (s : State) (k : Fin 12) (f : SafePair → SafePair) : (s.onPair k f).armed = s.armed := rfl
@[simp] theorem State.onPair_disarmed (s : State) (k : Fin 12) (f : SafePair → SafePair) : (s.onPair k f).disarmed = s.disarmed := rfl
@[simp] theorem State.onPair_mapBad (s : State) (k : Fin 12) (f : SafePair → SafePair) : (s.onPair k f).mapBad = s.mapBad := rfl
@[simp] theorem State.onPair_badChk (s : State) (k : Fin 12) (f : SafePair → SafePair) : (s.onPair k f).badChk = s.badChk := rfl
@[simp] theorem State.onPair_axes (s : State) (k : Fin 12) (f : SafePair → SafePair) : (s.onPair k f).axes = s.axes := rfl
@[simp] theorem State.onPair_moGen (s : State) (k : Fin 12) (f : SafePair → SafePair) : (s.onPair k f).moGen = s.moGen := rfl
@[simp] theorem State.onPair_shock (s : State) (k : Fin 12) (f : SafePair → SafePair) : (s.onPair k f).shock = s.shock := rfl
@[simp] theorem State.onPair_heave (s : State) (k : Fin 12) (f : SafePair → SafePair) : (s.onPair k f).heave = s.heave := rfl
@[simp] theorem State.onPair_hist (s : State) (k : Fin 12) (f : SafePair → SafePair) : (s.onPair k f).hist = s.hist := rfl
@[simp] theorem State.onPair_ring (s : State) (k : Fin 12) (f : SafePair → SafePair) : (s.onPair k f).ring = s.ring := rfl
@[simp] theorem State.onPair_em (s : State) (k : Fin 12) (f : SafePair → SafePair) : (s.onPair k f).em = s.em := rfl
@[simp] theorem State.onPair_reacts (s : State) (k : Fin 12) (f : SafePair → SafePair) : (s.onPair k f).reacts = s.reacts := rfl
@[simp] theorem State.onPair_chan (s : State) (k : Fin 12) (f : SafePair → SafePair) : (s.onPair k f).chan = s.chan := rfl
@[simp] theorem State.onPair_br (s : State) (k : Fin 12) (f : SafePair → SafePair) : (s.onPair k f).br = s.br := rfl
@[simp] theorem State.onPair_cmp (s : State) (k : Fin 12) (f : SafePair → SafePair) : (s.onPair k f).cmp = s.cmp := rfl
@[simp] theorem State.onPair_chop (s : State) (k : Fin 12) (f : SafePair → SafePair) : (s.onPair k f).chop = s.chop := rfl
@[simp] theorem State.onPair_wind (s : State) (k : Fin 12) (f : SafePair → SafePair) : (s.onPair k f).wind = s.wind := rfl
@[simp] theorem State.onPair_stest (s : State) (k : Fin 12) (f : SafePair → SafePair) : (s.onPair k f).stest = s.stest := rfl
@[simp] theorem State.onPair_tap (s : State) (k : Fin 12) (f : SafePair → SafePair) : (s.onPair k f).tap = s.tap := rfl
@[simp] theorem State.onPair_die (s : State) (k : Fin 12) (f : SafePair → SafePair) : (s.onPair k f).die = s.die := rfl
@[simp] theorem State.onPair_garnet (s : State) (k : Fin 12) (f : SafePair → SafePair) : (s.onPair k f).garnet = { s.garnet with pair := vmod s.garnet.pair k f } := rfl
@[simp] theorem State.onPair_slog (s : State) (k : Fin 12) (f : SafePair → SafePair) : (s.onPair k f).slog = s.slog := rfl
@[simp] theorem State.onPair_fab (s : State) (k : Fin 12) (f : SafePair → SafePair) : (s.onPair k f).fab = s.fab := rfl
@[simp] theorem State.onPair_clk (s : State) (k : Fin 12) (f : SafePair → SafePair) : (s.onPair k f).clk = s.clk := rfl
@[simp] theorem State.onPair_rst (s : State) (k : Fin 12) (f : SafePair → SafePair) : (s.onPair k f).rst = s.rst := rfl
@[simp] theorem State.onPair_vbat (s : State) (k : Fin 12) (f : SafePair → SafePair) : (s.onPair k f).vbat = s.vbat := rfl
@[simp] theorem State.onPair_recd (s : State) (k : Fin 12) (f : SafePair → SafePair) : (s.onPair k f).recd = s.recd := rfl
@[simp] theorem State.onPair_jrn (s : State) (k : Fin 12) (f : SafePair → SafePair) : (s.onPair k f).jrn = s.jrn := rfl
@[simp] theorem State.onPair_jwBase (s : State) (k : Fin 12) (f : SafePair → SafePair) : (s.onPair k f).jwBase = s.jwBase := rfl
@[simp] theorem State.onPair_nor (s : State) (k : Fin 12) (f : SafePair → SafePair) : (s.onPair k f).nor = s.nor := rfl
@[simp] theorem State.onPair_img (s : State) (k : Fin 12) (f : SafePair → SafePair) : (s.onPair k f).img = s.img := rfl
@[simp] theorem State.onPair_com (s : State) (k : Fin 12) (f : SafePair → SafePair) : (s.onPair k f).com = s.com := rfl
@[simp] theorem State.onPair_shadow (s : State) (k : Fin 12) (f : SafePair → SafePair) : (s.onPair k f).shadow = s.shadow := rfl
@[simp] theorem State.onPair_fw (s : State) (k : Fin 12) (f : SafePair → SafePair) : (s.onPair k f).fw = s.fw := rfl
@[simp] theorem State.onPair_av (s : State) (k : Fin 12) (f : SafePair → SafePair) : (s.onPair k f).av = s.av := rfl
@[simp] theorem State.onPair_cap (s : State) (k : Fin 12) (f : SafePair → SafePair) : (s.onPair k f).cap = s.cap := rfl
@[simp] theorem State.onPair_eth (s : State) (k : Fin 12) (f : SafePair → SafePair) : (s.onPair k f).eth = s.eth := rfl
@[simp] theorem State.onPair_time (s : State) (k : Fin 12) (f : SafePair → SafePair) : (s.onPair k f).time = s.time := rfl
@[simp] theorem State.onPair_can (s : State) (k : Fin 12) (f : SafePair → SafePair) : (s.onPair k f).can = s.can := rfl
@[simp] theorem State.onPair_onyx (s : State) (k : Fin 12) (f : SafePair → SafePair) : (s.onPair k f).onyx = s.onyx := rfl
@[simp] theorem State.onPair_latches (s : State) (k : Fin 12) (f : SafePair → SafePair) : (s.onPair k f).latches = s.latches := rfl

/-! ## `State.onSo` -/

@[simp] theorem State.onSo_pending (s : State) (j : Fin 8) (f : SafeOut → SafeOut) : (s.onSo j f).pending = s.pending := rfl
@[simp] theorem State.onSo_up (s : State) (j : Fin 8) (f : SafeOut → SafeOut) : (s.onSo j f).up = s.up := rfl
@[simp] theorem State.onSo_dev (s : State) (j : Fin 8) (f : SafeOut → SafeOut) : (s.onSo j f).dev = s.dev := rfl
@[simp] theorem State.onSo_devFrac (s : State) (j : Fin 8) (f : SafeOut → SafeOut) : (s.onSo j f).devFrac = s.devFrac := rfl
@[simp] theorem State.onSo_free (s : State) (j : Fin 8) (f : SafeOut → SafeOut) : (s.onSo j f).free = s.free := rfl
@[simp] theorem State.onSo_given (s : State) (j : Fin 8) (f : SafeOut → SafeOut) : (s.onSo j f).given = s.given := rfl
@[simp] theorem State.onSo_used (s : State) (j : Fin 8) (f : SafeOut → SafeOut) : (s.onSo j f).used = s.used := rfl
@[simp] theorem State.onSo_unarmedF (s : State) (j : Fin 8) (f : SafeOut → SafeOut) : (s.onSo j f).unarmedF = s.unarmedF := rfl
@[simp] theorem State.onSo_cells (s : State) (j : Fin 8) (f : SafeOut → SafeOut) : (s.onSo j f).cells = s.cells := rfl
@[simp] theorem State.onSo_hk (s : State) (j : Fin 8) (f : SafeOut → SafeOut) : (s.onSo j f).hk = s.hk := rfl
@[simp] theorem State.onSo_pwm (s : State) (j : Fin 8) (f : SafeOut → SafeOut) : (s.onSo j f).pwm = s.pwm := rfl
@[simp] theorem State.onSo_loops (s : State) (j : Fin 8) (f : SafeOut → SafeOut) : (s.onSo j f).loops = s.loops := rfl
@[simp] theorem State.onSo_posIf (s : State) (j : Fin 8) (f : SafeOut → SafeOut) : (s.onSo j f).posIf = s.posIf := rfl
@[simp] theorem State.onSo_start (s : State) (j : Fin 8) (f : SafeOut → SafeOut) : (s.onSo j f).start = s.start := rfl
@[simp] theorem State.onSo_spc (s : State) (j : Fin 8) (f : SafeOut → SafeOut) : (s.onSo j f).spc = s.spc := rfl
@[simp] theorem State.onSo_cmd (s : State) (j : Fin 8) (f : SafeOut → SafeOut) : (s.onSo j f).cmd = s.cmd := rfl
@[simp] theorem State.onSo_outer (s : State) (j : Fin 8) (f : SafeOut → SafeOut) : (s.onSo j f).outer = s.outer := rfl
@[simp] theorem State.onSo_brake (s : State) (j : Fin 8) (f : SafeOut → SafeOut) : (s.onSo j f).brake = s.brake := rfl
@[simp] theorem State.onSo_armed (s : State) (j : Fin 8) (f : SafeOut → SafeOut) : (s.onSo j f).armed = s.armed := rfl
@[simp] theorem State.onSo_disarmed (s : State) (j : Fin 8) (f : SafeOut → SafeOut) : (s.onSo j f).disarmed = s.disarmed := rfl
@[simp] theorem State.onSo_mapBad (s : State) (j : Fin 8) (f : SafeOut → SafeOut) : (s.onSo j f).mapBad = s.mapBad := rfl
@[simp] theorem State.onSo_badChk (s : State) (j : Fin 8) (f : SafeOut → SafeOut) : (s.onSo j f).badChk = s.badChk := rfl
@[simp] theorem State.onSo_axes (s : State) (j : Fin 8) (f : SafeOut → SafeOut) : (s.onSo j f).axes = s.axes := rfl
@[simp] theorem State.onSo_moGen (s : State) (j : Fin 8) (f : SafeOut → SafeOut) : (s.onSo j f).moGen = s.moGen := rfl
@[simp] theorem State.onSo_shock (s : State) (j : Fin 8) (f : SafeOut → SafeOut) : (s.onSo j f).shock = s.shock := rfl
@[simp] theorem State.onSo_heave (s : State) (j : Fin 8) (f : SafeOut → SafeOut) : (s.onSo j f).heave = s.heave := rfl
@[simp] theorem State.onSo_hist (s : State) (j : Fin 8) (f : SafeOut → SafeOut) : (s.onSo j f).hist = s.hist := rfl
@[simp] theorem State.onSo_ring (s : State) (j : Fin 8) (f : SafeOut → SafeOut) : (s.onSo j f).ring = s.ring := rfl
@[simp] theorem State.onSo_em (s : State) (j : Fin 8) (f : SafeOut → SafeOut) : (s.onSo j f).em = s.em := rfl
@[simp] theorem State.onSo_reacts (s : State) (j : Fin 8) (f : SafeOut → SafeOut) : (s.onSo j f).reacts = s.reacts := rfl
@[simp] theorem State.onSo_chan (s : State) (j : Fin 8) (f : SafeOut → SafeOut) : (s.onSo j f).chan = s.chan := rfl
@[simp] theorem State.onSo_br (s : State) (j : Fin 8) (f : SafeOut → SafeOut) : (s.onSo j f).br = s.br := rfl
@[simp] theorem State.onSo_cmp (s : State) (j : Fin 8) (f : SafeOut → SafeOut) : (s.onSo j f).cmp = s.cmp := rfl
@[simp] theorem State.onSo_chop (s : State) (j : Fin 8) (f : SafeOut → SafeOut) : (s.onSo j f).chop = s.chop := rfl
@[simp] theorem State.onSo_wind (s : State) (j : Fin 8) (f : SafeOut → SafeOut) : (s.onSo j f).wind = s.wind := rfl
@[simp] theorem State.onSo_stest (s : State) (j : Fin 8) (f : SafeOut → SafeOut) : (s.onSo j f).stest = s.stest := rfl
@[simp] theorem State.onSo_tap (s : State) (j : Fin 8) (f : SafeOut → SafeOut) : (s.onSo j f).tap = s.tap := rfl
@[simp] theorem State.onSo_die (s : State) (j : Fin 8) (f : SafeOut → SafeOut) : (s.onSo j f).die = s.die := rfl
@[simp] theorem State.onSo_garnet (s : State) (j : Fin 8) (f : SafeOut → SafeOut) : (s.onSo j f).garnet = { s.garnet with so := vmod s.garnet.so j f } := rfl
@[simp] theorem State.onSo_slog (s : State) (j : Fin 8) (f : SafeOut → SafeOut) : (s.onSo j f).slog = s.slog := rfl
@[simp] theorem State.onSo_fab (s : State) (j : Fin 8) (f : SafeOut → SafeOut) : (s.onSo j f).fab = s.fab := rfl
@[simp] theorem State.onSo_clk (s : State) (j : Fin 8) (f : SafeOut → SafeOut) : (s.onSo j f).clk = s.clk := rfl
@[simp] theorem State.onSo_rst (s : State) (j : Fin 8) (f : SafeOut → SafeOut) : (s.onSo j f).rst = s.rst := rfl
@[simp] theorem State.onSo_vbat (s : State) (j : Fin 8) (f : SafeOut → SafeOut) : (s.onSo j f).vbat = s.vbat := rfl
@[simp] theorem State.onSo_recd (s : State) (j : Fin 8) (f : SafeOut → SafeOut) : (s.onSo j f).recd = s.recd := rfl
@[simp] theorem State.onSo_jrn (s : State) (j : Fin 8) (f : SafeOut → SafeOut) : (s.onSo j f).jrn = s.jrn := rfl
@[simp] theorem State.onSo_jwBase (s : State) (j : Fin 8) (f : SafeOut → SafeOut) : (s.onSo j f).jwBase = s.jwBase := rfl
@[simp] theorem State.onSo_nor (s : State) (j : Fin 8) (f : SafeOut → SafeOut) : (s.onSo j f).nor = s.nor := rfl
@[simp] theorem State.onSo_img (s : State) (j : Fin 8) (f : SafeOut → SafeOut) : (s.onSo j f).img = s.img := rfl
@[simp] theorem State.onSo_com (s : State) (j : Fin 8) (f : SafeOut → SafeOut) : (s.onSo j f).com = s.com := rfl
@[simp] theorem State.onSo_shadow (s : State) (j : Fin 8) (f : SafeOut → SafeOut) : (s.onSo j f).shadow = s.shadow := rfl
@[simp] theorem State.onSo_fw (s : State) (j : Fin 8) (f : SafeOut → SafeOut) : (s.onSo j f).fw = s.fw := rfl
@[simp] theorem State.onSo_av (s : State) (j : Fin 8) (f : SafeOut → SafeOut) : (s.onSo j f).av = s.av := rfl
@[simp] theorem State.onSo_cap (s : State) (j : Fin 8) (f : SafeOut → SafeOut) : (s.onSo j f).cap = s.cap := rfl
@[simp] theorem State.onSo_eth (s : State) (j : Fin 8) (f : SafeOut → SafeOut) : (s.onSo j f).eth = s.eth := rfl
@[simp] theorem State.onSo_time (s : State) (j : Fin 8) (f : SafeOut → SafeOut) : (s.onSo j f).time = s.time := rfl
@[simp] theorem State.onSo_can (s : State) (j : Fin 8) (f : SafeOut → SafeOut) : (s.onSo j f).can = s.can := rfl
@[simp] theorem State.onSo_onyx (s : State) (j : Fin 8) (f : SafeOut → SafeOut) : (s.onSo j f).onyx = s.onyx := rfl
@[simp] theorem State.onSo_latches (s : State) (j : Fin 8) (f : SafeOut → SafeOut) : (s.onSo j f).latches = s.latches := rfl

/-! ## `State.onConn` -/

@[simp] theorem State.onConn_pending (s : State) (c : Fin 4) (f : SafeConn → SafeConn) : (s.onConn c f).pending = s.pending := rfl
@[simp] theorem State.onConn_up (s : State) (c : Fin 4) (f : SafeConn → SafeConn) : (s.onConn c f).up = s.up := rfl
@[simp] theorem State.onConn_dev (s : State) (c : Fin 4) (f : SafeConn → SafeConn) : (s.onConn c f).dev = s.dev := rfl
@[simp] theorem State.onConn_devFrac (s : State) (c : Fin 4) (f : SafeConn → SafeConn) : (s.onConn c f).devFrac = s.devFrac := rfl
@[simp] theorem State.onConn_free (s : State) (c : Fin 4) (f : SafeConn → SafeConn) : (s.onConn c f).free = s.free := rfl
@[simp] theorem State.onConn_given (s : State) (c : Fin 4) (f : SafeConn → SafeConn) : (s.onConn c f).given = s.given := rfl
@[simp] theorem State.onConn_used (s : State) (c : Fin 4) (f : SafeConn → SafeConn) : (s.onConn c f).used = s.used := rfl
@[simp] theorem State.onConn_unarmedF (s : State) (c : Fin 4) (f : SafeConn → SafeConn) : (s.onConn c f).unarmedF = s.unarmedF := rfl
@[simp] theorem State.onConn_cells (s : State) (c : Fin 4) (f : SafeConn → SafeConn) : (s.onConn c f).cells = s.cells := rfl
@[simp] theorem State.onConn_hk (s : State) (c : Fin 4) (f : SafeConn → SafeConn) : (s.onConn c f).hk = s.hk := rfl
@[simp] theorem State.onConn_pwm (s : State) (c : Fin 4) (f : SafeConn → SafeConn) : (s.onConn c f).pwm = s.pwm := rfl
@[simp] theorem State.onConn_loops (s : State) (c : Fin 4) (f : SafeConn → SafeConn) : (s.onConn c f).loops = s.loops := rfl
@[simp] theorem State.onConn_posIf (s : State) (c : Fin 4) (f : SafeConn → SafeConn) : (s.onConn c f).posIf = s.posIf := rfl
@[simp] theorem State.onConn_start (s : State) (c : Fin 4) (f : SafeConn → SafeConn) : (s.onConn c f).start = s.start := rfl
@[simp] theorem State.onConn_spc (s : State) (c : Fin 4) (f : SafeConn → SafeConn) : (s.onConn c f).spc = s.spc := rfl
@[simp] theorem State.onConn_cmd (s : State) (c : Fin 4) (f : SafeConn → SafeConn) : (s.onConn c f).cmd = s.cmd := rfl
@[simp] theorem State.onConn_outer (s : State) (c : Fin 4) (f : SafeConn → SafeConn) : (s.onConn c f).outer = s.outer := rfl
@[simp] theorem State.onConn_brake (s : State) (c : Fin 4) (f : SafeConn → SafeConn) : (s.onConn c f).brake = s.brake := rfl
@[simp] theorem State.onConn_armed (s : State) (c : Fin 4) (f : SafeConn → SafeConn) : (s.onConn c f).armed = s.armed := rfl
@[simp] theorem State.onConn_disarmed (s : State) (c : Fin 4) (f : SafeConn → SafeConn) : (s.onConn c f).disarmed = s.disarmed := rfl
@[simp] theorem State.onConn_mapBad (s : State) (c : Fin 4) (f : SafeConn → SafeConn) : (s.onConn c f).mapBad = s.mapBad := rfl
@[simp] theorem State.onConn_badChk (s : State) (c : Fin 4) (f : SafeConn → SafeConn) : (s.onConn c f).badChk = s.badChk := rfl
@[simp] theorem State.onConn_axes (s : State) (c : Fin 4) (f : SafeConn → SafeConn) : (s.onConn c f).axes = s.axes := rfl
@[simp] theorem State.onConn_moGen (s : State) (c : Fin 4) (f : SafeConn → SafeConn) : (s.onConn c f).moGen = s.moGen := rfl
@[simp] theorem State.onConn_shock (s : State) (c : Fin 4) (f : SafeConn → SafeConn) : (s.onConn c f).shock = s.shock := rfl
@[simp] theorem State.onConn_heave (s : State) (c : Fin 4) (f : SafeConn → SafeConn) : (s.onConn c f).heave = s.heave := rfl
@[simp] theorem State.onConn_hist (s : State) (c : Fin 4) (f : SafeConn → SafeConn) : (s.onConn c f).hist = s.hist := rfl
@[simp] theorem State.onConn_ring (s : State) (c : Fin 4) (f : SafeConn → SafeConn) : (s.onConn c f).ring = s.ring := rfl
@[simp] theorem State.onConn_em (s : State) (c : Fin 4) (f : SafeConn → SafeConn) : (s.onConn c f).em = s.em := rfl
@[simp] theorem State.onConn_reacts (s : State) (c : Fin 4) (f : SafeConn → SafeConn) : (s.onConn c f).reacts = s.reacts := rfl
@[simp] theorem State.onConn_chan (s : State) (c : Fin 4) (f : SafeConn → SafeConn) : (s.onConn c f).chan = s.chan := rfl
@[simp] theorem State.onConn_br (s : State) (c : Fin 4) (f : SafeConn → SafeConn) : (s.onConn c f).br = s.br := rfl
@[simp] theorem State.onConn_cmp (s : State) (c : Fin 4) (f : SafeConn → SafeConn) : (s.onConn c f).cmp = s.cmp := rfl
@[simp] theorem State.onConn_chop (s : State) (c : Fin 4) (f : SafeConn → SafeConn) : (s.onConn c f).chop = s.chop := rfl
@[simp] theorem State.onConn_wind (s : State) (c : Fin 4) (f : SafeConn → SafeConn) : (s.onConn c f).wind = s.wind := rfl
@[simp] theorem State.onConn_stest (s : State) (c : Fin 4) (f : SafeConn → SafeConn) : (s.onConn c f).stest = s.stest := rfl
@[simp] theorem State.onConn_tap (s : State) (c : Fin 4) (f : SafeConn → SafeConn) : (s.onConn c f).tap = s.tap := rfl
@[simp] theorem State.onConn_die (s : State) (c : Fin 4) (f : SafeConn → SafeConn) : (s.onConn c f).die = s.die := rfl
@[simp] theorem State.onConn_garnet (s : State) (c : Fin 4) (f : SafeConn → SafeConn) : (s.onConn c f).garnet = { s.garnet with conn := vmod s.garnet.conn c f } := rfl
@[simp] theorem State.onConn_slog (s : State) (c : Fin 4) (f : SafeConn → SafeConn) : (s.onConn c f).slog = s.slog := rfl
@[simp] theorem State.onConn_fab (s : State) (c : Fin 4) (f : SafeConn → SafeConn) : (s.onConn c f).fab = s.fab := rfl
@[simp] theorem State.onConn_clk (s : State) (c : Fin 4) (f : SafeConn → SafeConn) : (s.onConn c f).clk = s.clk := rfl
@[simp] theorem State.onConn_rst (s : State) (c : Fin 4) (f : SafeConn → SafeConn) : (s.onConn c f).rst = s.rst := rfl
@[simp] theorem State.onConn_vbat (s : State) (c : Fin 4) (f : SafeConn → SafeConn) : (s.onConn c f).vbat = s.vbat := rfl
@[simp] theorem State.onConn_recd (s : State) (c : Fin 4) (f : SafeConn → SafeConn) : (s.onConn c f).recd = s.recd := rfl
@[simp] theorem State.onConn_jrn (s : State) (c : Fin 4) (f : SafeConn → SafeConn) : (s.onConn c f).jrn = s.jrn := rfl
@[simp] theorem State.onConn_jwBase (s : State) (c : Fin 4) (f : SafeConn → SafeConn) : (s.onConn c f).jwBase = s.jwBase := rfl
@[simp] theorem State.onConn_nor (s : State) (c : Fin 4) (f : SafeConn → SafeConn) : (s.onConn c f).nor = s.nor := rfl
@[simp] theorem State.onConn_img (s : State) (c : Fin 4) (f : SafeConn → SafeConn) : (s.onConn c f).img = s.img := rfl
@[simp] theorem State.onConn_com (s : State) (c : Fin 4) (f : SafeConn → SafeConn) : (s.onConn c f).com = s.com := rfl
@[simp] theorem State.onConn_shadow (s : State) (c : Fin 4) (f : SafeConn → SafeConn) : (s.onConn c f).shadow = s.shadow := rfl
@[simp] theorem State.onConn_fw (s : State) (c : Fin 4) (f : SafeConn → SafeConn) : (s.onConn c f).fw = s.fw := rfl
@[simp] theorem State.onConn_av (s : State) (c : Fin 4) (f : SafeConn → SafeConn) : (s.onConn c f).av = s.av := rfl
@[simp] theorem State.onConn_cap (s : State) (c : Fin 4) (f : SafeConn → SafeConn) : (s.onConn c f).cap = s.cap := rfl
@[simp] theorem State.onConn_eth (s : State) (c : Fin 4) (f : SafeConn → SafeConn) : (s.onConn c f).eth = s.eth := rfl
@[simp] theorem State.onConn_time (s : State) (c : Fin 4) (f : SafeConn → SafeConn) : (s.onConn c f).time = s.time := rfl
@[simp] theorem State.onConn_can (s : State) (c : Fin 4) (f : SafeConn → SafeConn) : (s.onConn c f).can = s.can := rfl
@[simp] theorem State.onConn_onyx (s : State) (c : Fin 4) (f : SafeConn → SafeConn) : (s.onConn c f).onyx = s.onyx := rfl
@[simp] theorem State.onConn_latches (s : State) (c : Fin 4) (f : SafeConn → SafeConn) : (s.onConn c f).latches = s.latches := rfl

/-! ## `State.onEth` -/

@[simp] theorem State.onEth_pending (s : State) (f : Ether → Ether) : (s.onEth f).pending = s.pending := rfl
@[simp] theorem State.onEth_up (s : State) (f : Ether → Ether) : (s.onEth f).up = s.up := rfl
@[simp] theorem State.onEth_dev (s : State) (f : Ether → Ether) : (s.onEth f).dev = s.dev := rfl
@[simp] theorem State.onEth_devFrac (s : State) (f : Ether → Ether) : (s.onEth f).devFrac = s.devFrac := rfl
@[simp] theorem State.onEth_free (s : State) (f : Ether → Ether) : (s.onEth f).free = s.free := rfl
@[simp] theorem State.onEth_given (s : State) (f : Ether → Ether) : (s.onEth f).given = s.given := rfl
@[simp] theorem State.onEth_used (s : State) (f : Ether → Ether) : (s.onEth f).used = s.used := rfl
@[simp] theorem State.onEth_unarmedF (s : State) (f : Ether → Ether) : (s.onEth f).unarmedF = s.unarmedF := rfl
@[simp] theorem State.onEth_cells (s : State) (f : Ether → Ether) : (s.onEth f).cells = s.cells := rfl
@[simp] theorem State.onEth_hk (s : State) (f : Ether → Ether) : (s.onEth f).hk = s.hk := rfl
@[simp] theorem State.onEth_pwm (s : State) (f : Ether → Ether) : (s.onEth f).pwm = s.pwm := rfl
@[simp] theorem State.onEth_loops (s : State) (f : Ether → Ether) : (s.onEth f).loops = s.loops := rfl
@[simp] theorem State.onEth_posIf (s : State) (f : Ether → Ether) : (s.onEth f).posIf = s.posIf := rfl
@[simp] theorem State.onEth_start (s : State) (f : Ether → Ether) : (s.onEth f).start = s.start := rfl
@[simp] theorem State.onEth_spc (s : State) (f : Ether → Ether) : (s.onEth f).spc = s.spc := rfl
@[simp] theorem State.onEth_cmd (s : State) (f : Ether → Ether) : (s.onEth f).cmd = s.cmd := rfl
@[simp] theorem State.onEth_outer (s : State) (f : Ether → Ether) : (s.onEth f).outer = s.outer := rfl
@[simp] theorem State.onEth_brake (s : State) (f : Ether → Ether) : (s.onEth f).brake = s.brake := rfl
@[simp] theorem State.onEth_armed (s : State) (f : Ether → Ether) : (s.onEth f).armed = s.armed := rfl
@[simp] theorem State.onEth_disarmed (s : State) (f : Ether → Ether) : (s.onEth f).disarmed = s.disarmed := rfl
@[simp] theorem State.onEth_mapBad (s : State) (f : Ether → Ether) : (s.onEth f).mapBad = s.mapBad := rfl
@[simp] theorem State.onEth_badChk (s : State) (f : Ether → Ether) : (s.onEth f).badChk = s.badChk := rfl
@[simp] theorem State.onEth_axes (s : State) (f : Ether → Ether) : (s.onEth f).axes = s.axes := rfl
@[simp] theorem State.onEth_moGen (s : State) (f : Ether → Ether) : (s.onEth f).moGen = s.moGen := rfl
@[simp] theorem State.onEth_shock (s : State) (f : Ether → Ether) : (s.onEth f).shock = s.shock := rfl
@[simp] theorem State.onEth_heave (s : State) (f : Ether → Ether) : (s.onEth f).heave = s.heave := rfl
@[simp] theorem State.onEth_hist (s : State) (f : Ether → Ether) : (s.onEth f).hist = s.hist := rfl
@[simp] theorem State.onEth_ring (s : State) (f : Ether → Ether) : (s.onEth f).ring = s.ring := rfl
@[simp] theorem State.onEth_em (s : State) (f : Ether → Ether) : (s.onEth f).em = s.em := rfl
@[simp] theorem State.onEth_reacts (s : State) (f : Ether → Ether) : (s.onEth f).reacts = s.reacts := rfl
@[simp] theorem State.onEth_chan (s : State) (f : Ether → Ether) : (s.onEth f).chan = s.chan := rfl
@[simp] theorem State.onEth_br (s : State) (f : Ether → Ether) : (s.onEth f).br = s.br := rfl
@[simp] theorem State.onEth_cmp (s : State) (f : Ether → Ether) : (s.onEth f).cmp = s.cmp := rfl
@[simp] theorem State.onEth_chop (s : State) (f : Ether → Ether) : (s.onEth f).chop = s.chop := rfl
@[simp] theorem State.onEth_wind (s : State) (f : Ether → Ether) : (s.onEth f).wind = s.wind := rfl
@[simp] theorem State.onEth_stest (s : State) (f : Ether → Ether) : (s.onEth f).stest = s.stest := rfl
@[simp] theorem State.onEth_tap (s : State) (f : Ether → Ether) : (s.onEth f).tap = s.tap := rfl
@[simp] theorem State.onEth_die (s : State) (f : Ether → Ether) : (s.onEth f).die = s.die := rfl
@[simp] theorem State.onEth_garnet (s : State) (f : Ether → Ether) : (s.onEth f).garnet = s.garnet := rfl
@[simp] theorem State.onEth_slog (s : State) (f : Ether → Ether) : (s.onEth f).slog = s.slog := rfl
@[simp] theorem State.onEth_fab (s : State) (f : Ether → Ether) : (s.onEth f).fab = s.fab := rfl
@[simp] theorem State.onEth_clk (s : State) (f : Ether → Ether) : (s.onEth f).clk = s.clk := rfl
@[simp] theorem State.onEth_rst (s : State) (f : Ether → Ether) : (s.onEth f).rst = s.rst := rfl
@[simp] theorem State.onEth_vbat (s : State) (f : Ether → Ether) : (s.onEth f).vbat = s.vbat := rfl
@[simp] theorem State.onEth_recd (s : State) (f : Ether → Ether) : (s.onEth f).recd = s.recd := rfl
@[simp] theorem State.onEth_jrn (s : State) (f : Ether → Ether) : (s.onEth f).jrn = s.jrn := rfl
@[simp] theorem State.onEth_jwBase (s : State) (f : Ether → Ether) : (s.onEth f).jwBase = s.jwBase := rfl
@[simp] theorem State.onEth_nor (s : State) (f : Ether → Ether) : (s.onEth f).nor = s.nor := rfl
@[simp] theorem State.onEth_img (s : State) (f : Ether → Ether) : (s.onEth f).img = s.img := rfl
@[simp] theorem State.onEth_com (s : State) (f : Ether → Ether) : (s.onEth f).com = s.com := rfl
@[simp] theorem State.onEth_shadow (s : State) (f : Ether → Ether) : (s.onEth f).shadow = s.shadow := rfl
@[simp] theorem State.onEth_fw (s : State) (f : Ether → Ether) : (s.onEth f).fw = s.fw := rfl
@[simp] theorem State.onEth_av (s : State) (f : Ether → Ether) : (s.onEth f).av = s.av := rfl
@[simp] theorem State.onEth_cap (s : State) (f : Ether → Ether) : (s.onEth f).cap = s.cap := rfl
@[simp] theorem State.onEth_eth (s : State) (f : Ether → Ether) : (s.onEth f).eth = f s.eth := rfl
@[simp] theorem State.onEth_time (s : State) (f : Ether → Ether) : (s.onEth f).time = s.time := rfl
@[simp] theorem State.onEth_can (s : State) (f : Ether → Ether) : (s.onEth f).can = s.can := rfl
@[simp] theorem State.onEth_onyx (s : State) (f : Ether → Ether) : (s.onEth f).onyx = s.onyx := rfl
@[simp] theorem State.onEth_latches (s : State) (f : Ether → Ether) : (s.onEth f).latches = s.latches := rfl

/-! ## `State.onPrp` -/

@[simp] theorem State.onPrp_pending (s : State) (k : Fin 4) (f : PrpPair → PrpPair) : (s.onPrp k f).pending = s.pending := rfl
@[simp] theorem State.onPrp_up (s : State) (k : Fin 4) (f : PrpPair → PrpPair) : (s.onPrp k f).up = s.up := rfl
@[simp] theorem State.onPrp_dev (s : State) (k : Fin 4) (f : PrpPair → PrpPair) : (s.onPrp k f).dev = s.dev := rfl
@[simp] theorem State.onPrp_devFrac (s : State) (k : Fin 4) (f : PrpPair → PrpPair) : (s.onPrp k f).devFrac = s.devFrac := rfl
@[simp] theorem State.onPrp_free (s : State) (k : Fin 4) (f : PrpPair → PrpPair) : (s.onPrp k f).free = s.free := rfl
@[simp] theorem State.onPrp_given (s : State) (k : Fin 4) (f : PrpPair → PrpPair) : (s.onPrp k f).given = s.given := rfl
@[simp] theorem State.onPrp_used (s : State) (k : Fin 4) (f : PrpPair → PrpPair) : (s.onPrp k f).used = s.used := rfl
@[simp] theorem State.onPrp_unarmedF (s : State) (k : Fin 4) (f : PrpPair → PrpPair) : (s.onPrp k f).unarmedF = s.unarmedF := rfl
@[simp] theorem State.onPrp_cells (s : State) (k : Fin 4) (f : PrpPair → PrpPair) : (s.onPrp k f).cells = s.cells := rfl
@[simp] theorem State.onPrp_hk (s : State) (k : Fin 4) (f : PrpPair → PrpPair) : (s.onPrp k f).hk = s.hk := rfl
@[simp] theorem State.onPrp_pwm (s : State) (k : Fin 4) (f : PrpPair → PrpPair) : (s.onPrp k f).pwm = s.pwm := rfl
@[simp] theorem State.onPrp_loops (s : State) (k : Fin 4) (f : PrpPair → PrpPair) : (s.onPrp k f).loops = s.loops := rfl
@[simp] theorem State.onPrp_posIf (s : State) (k : Fin 4) (f : PrpPair → PrpPair) : (s.onPrp k f).posIf = s.posIf := rfl
@[simp] theorem State.onPrp_start (s : State) (k : Fin 4) (f : PrpPair → PrpPair) : (s.onPrp k f).start = s.start := rfl
@[simp] theorem State.onPrp_spc (s : State) (k : Fin 4) (f : PrpPair → PrpPair) : (s.onPrp k f).spc = s.spc := rfl
@[simp] theorem State.onPrp_cmd (s : State) (k : Fin 4) (f : PrpPair → PrpPair) : (s.onPrp k f).cmd = s.cmd := rfl
@[simp] theorem State.onPrp_outer (s : State) (k : Fin 4) (f : PrpPair → PrpPair) : (s.onPrp k f).outer = s.outer := rfl
@[simp] theorem State.onPrp_brake (s : State) (k : Fin 4) (f : PrpPair → PrpPair) : (s.onPrp k f).brake = s.brake := rfl
@[simp] theorem State.onPrp_armed (s : State) (k : Fin 4) (f : PrpPair → PrpPair) : (s.onPrp k f).armed = s.armed := rfl
@[simp] theorem State.onPrp_disarmed (s : State) (k : Fin 4) (f : PrpPair → PrpPair) : (s.onPrp k f).disarmed = s.disarmed := rfl
@[simp] theorem State.onPrp_mapBad (s : State) (k : Fin 4) (f : PrpPair → PrpPair) : (s.onPrp k f).mapBad = s.mapBad := rfl
@[simp] theorem State.onPrp_badChk (s : State) (k : Fin 4) (f : PrpPair → PrpPair) : (s.onPrp k f).badChk = s.badChk := rfl
@[simp] theorem State.onPrp_axes (s : State) (k : Fin 4) (f : PrpPair → PrpPair) : (s.onPrp k f).axes = s.axes := rfl
@[simp] theorem State.onPrp_moGen (s : State) (k : Fin 4) (f : PrpPair → PrpPair) : (s.onPrp k f).moGen = s.moGen := rfl
@[simp] theorem State.onPrp_shock (s : State) (k : Fin 4) (f : PrpPair → PrpPair) : (s.onPrp k f).shock = s.shock := rfl
@[simp] theorem State.onPrp_heave (s : State) (k : Fin 4) (f : PrpPair → PrpPair) : (s.onPrp k f).heave = s.heave := rfl
@[simp] theorem State.onPrp_hist (s : State) (k : Fin 4) (f : PrpPair → PrpPair) : (s.onPrp k f).hist = s.hist := rfl
@[simp] theorem State.onPrp_ring (s : State) (k : Fin 4) (f : PrpPair → PrpPair) : (s.onPrp k f).ring = s.ring := rfl
@[simp] theorem State.onPrp_em (s : State) (k : Fin 4) (f : PrpPair → PrpPair) : (s.onPrp k f).em = s.em := rfl
@[simp] theorem State.onPrp_reacts (s : State) (k : Fin 4) (f : PrpPair → PrpPair) : (s.onPrp k f).reacts = s.reacts := rfl
@[simp] theorem State.onPrp_chan (s : State) (k : Fin 4) (f : PrpPair → PrpPair) : (s.onPrp k f).chan = s.chan := rfl
@[simp] theorem State.onPrp_br (s : State) (k : Fin 4) (f : PrpPair → PrpPair) : (s.onPrp k f).br = s.br := rfl
@[simp] theorem State.onPrp_cmp (s : State) (k : Fin 4) (f : PrpPair → PrpPair) : (s.onPrp k f).cmp = s.cmp := rfl
@[simp] theorem State.onPrp_chop (s : State) (k : Fin 4) (f : PrpPair → PrpPair) : (s.onPrp k f).chop = s.chop := rfl
@[simp] theorem State.onPrp_wind (s : State) (k : Fin 4) (f : PrpPair → PrpPair) : (s.onPrp k f).wind = s.wind := rfl
@[simp] theorem State.onPrp_stest (s : State) (k : Fin 4) (f : PrpPair → PrpPair) : (s.onPrp k f).stest = s.stest := rfl
@[simp] theorem State.onPrp_tap (s : State) (k : Fin 4) (f : PrpPair → PrpPair) : (s.onPrp k f).tap = s.tap := rfl
@[simp] theorem State.onPrp_die (s : State) (k : Fin 4) (f : PrpPair → PrpPair) : (s.onPrp k f).die = s.die := rfl
@[simp] theorem State.onPrp_garnet (s : State) (k : Fin 4) (f : PrpPair → PrpPair) : (s.onPrp k f).garnet = s.garnet := rfl
@[simp] theorem State.onPrp_slog (s : State) (k : Fin 4) (f : PrpPair → PrpPair) : (s.onPrp k f).slog = s.slog := rfl
@[simp] theorem State.onPrp_fab (s : State) (k : Fin 4) (f : PrpPair → PrpPair) : (s.onPrp k f).fab = s.fab := rfl
@[simp] theorem State.onPrp_clk (s : State) (k : Fin 4) (f : PrpPair → PrpPair) : (s.onPrp k f).clk = s.clk := rfl
@[simp] theorem State.onPrp_rst (s : State) (k : Fin 4) (f : PrpPair → PrpPair) : (s.onPrp k f).rst = s.rst := rfl
@[simp] theorem State.onPrp_vbat (s : State) (k : Fin 4) (f : PrpPair → PrpPair) : (s.onPrp k f).vbat = s.vbat := rfl
@[simp] theorem State.onPrp_recd (s : State) (k : Fin 4) (f : PrpPair → PrpPair) : (s.onPrp k f).recd = s.recd := rfl
@[simp] theorem State.onPrp_jrn (s : State) (k : Fin 4) (f : PrpPair → PrpPair) : (s.onPrp k f).jrn = s.jrn := rfl
@[simp] theorem State.onPrp_jwBase (s : State) (k : Fin 4) (f : PrpPair → PrpPair) : (s.onPrp k f).jwBase = s.jwBase := rfl
@[simp] theorem State.onPrp_nor (s : State) (k : Fin 4) (f : PrpPair → PrpPair) : (s.onPrp k f).nor = s.nor := rfl
@[simp] theorem State.onPrp_img (s : State) (k : Fin 4) (f : PrpPair → PrpPair) : (s.onPrp k f).img = s.img := rfl
@[simp] theorem State.onPrp_com (s : State) (k : Fin 4) (f : PrpPair → PrpPair) : (s.onPrp k f).com = s.com := rfl
@[simp] theorem State.onPrp_shadow (s : State) (k : Fin 4) (f : PrpPair → PrpPair) : (s.onPrp k f).shadow = s.shadow := rfl
@[simp] theorem State.onPrp_fw (s : State) (k : Fin 4) (f : PrpPair → PrpPair) : (s.onPrp k f).fw = s.fw := rfl
@[simp] theorem State.onPrp_av (s : State) (k : Fin 4) (f : PrpPair → PrpPair) : (s.onPrp k f).av = s.av := rfl
@[simp] theorem State.onPrp_cap (s : State) (k : Fin 4) (f : PrpPair → PrpPair) : (s.onPrp k f).cap = s.cap := rfl
@[simp] theorem State.onPrp_eth (s : State) (k : Fin 4) (f : PrpPair → PrpPair) : (s.onPrp k f).eth = { s.eth with prp := vmod s.eth.prp k f } := rfl
@[simp] theorem State.onPrp_time (s : State) (k : Fin 4) (f : PrpPair → PrpPair) : (s.onPrp k f).time = s.time := rfl
@[simp] theorem State.onPrp_can (s : State) (k : Fin 4) (f : PrpPair → PrpPair) : (s.onPrp k f).can = s.can := rfl
@[simp] theorem State.onPrp_onyx (s : State) (k : Fin 4) (f : PrpPair → PrpPair) : (s.onPrp k f).onyx = s.onyx := rfl
@[simp] theorem State.onPrp_latches (s : State) (k : Fin 4) (f : PrpPair → PrpPair) : (s.onPrp k f).latches = s.latches := rfl

/-! ## `State.onTime` -/

@[simp] theorem State.onTime_pending (s : State) (f : TimeUnit → TimeUnit) : (s.onTime f).pending = s.pending := rfl
@[simp] theorem State.onTime_up (s : State) (f : TimeUnit → TimeUnit) : (s.onTime f).up = s.up := rfl
@[simp] theorem State.onTime_dev (s : State) (f : TimeUnit → TimeUnit) : (s.onTime f).dev = s.dev := rfl
@[simp] theorem State.onTime_devFrac (s : State) (f : TimeUnit → TimeUnit) : (s.onTime f).devFrac = s.devFrac := rfl
@[simp] theorem State.onTime_free (s : State) (f : TimeUnit → TimeUnit) : (s.onTime f).free = s.free := rfl
@[simp] theorem State.onTime_given (s : State) (f : TimeUnit → TimeUnit) : (s.onTime f).given = s.given := rfl
@[simp] theorem State.onTime_used (s : State) (f : TimeUnit → TimeUnit) : (s.onTime f).used = s.used := rfl
@[simp] theorem State.onTime_unarmedF (s : State) (f : TimeUnit → TimeUnit) : (s.onTime f).unarmedF = s.unarmedF := rfl
@[simp] theorem State.onTime_cells (s : State) (f : TimeUnit → TimeUnit) : (s.onTime f).cells = s.cells := rfl
@[simp] theorem State.onTime_hk (s : State) (f : TimeUnit → TimeUnit) : (s.onTime f).hk = s.hk := rfl
@[simp] theorem State.onTime_pwm (s : State) (f : TimeUnit → TimeUnit) : (s.onTime f).pwm = s.pwm := rfl
@[simp] theorem State.onTime_loops (s : State) (f : TimeUnit → TimeUnit) : (s.onTime f).loops = s.loops := rfl
@[simp] theorem State.onTime_posIf (s : State) (f : TimeUnit → TimeUnit) : (s.onTime f).posIf = s.posIf := rfl
@[simp] theorem State.onTime_start (s : State) (f : TimeUnit → TimeUnit) : (s.onTime f).start = s.start := rfl
@[simp] theorem State.onTime_spc (s : State) (f : TimeUnit → TimeUnit) : (s.onTime f).spc = s.spc := rfl
@[simp] theorem State.onTime_cmd (s : State) (f : TimeUnit → TimeUnit) : (s.onTime f).cmd = s.cmd := rfl
@[simp] theorem State.onTime_outer (s : State) (f : TimeUnit → TimeUnit) : (s.onTime f).outer = s.outer := rfl
@[simp] theorem State.onTime_brake (s : State) (f : TimeUnit → TimeUnit) : (s.onTime f).brake = s.brake := rfl
@[simp] theorem State.onTime_armed (s : State) (f : TimeUnit → TimeUnit) : (s.onTime f).armed = s.armed := rfl
@[simp] theorem State.onTime_disarmed (s : State) (f : TimeUnit → TimeUnit) : (s.onTime f).disarmed = s.disarmed := rfl
@[simp] theorem State.onTime_mapBad (s : State) (f : TimeUnit → TimeUnit) : (s.onTime f).mapBad = s.mapBad := rfl
@[simp] theorem State.onTime_badChk (s : State) (f : TimeUnit → TimeUnit) : (s.onTime f).badChk = s.badChk := rfl
@[simp] theorem State.onTime_axes (s : State) (f : TimeUnit → TimeUnit) : (s.onTime f).axes = s.axes := rfl
@[simp] theorem State.onTime_moGen (s : State) (f : TimeUnit → TimeUnit) : (s.onTime f).moGen = s.moGen := rfl
@[simp] theorem State.onTime_shock (s : State) (f : TimeUnit → TimeUnit) : (s.onTime f).shock = s.shock := rfl
@[simp] theorem State.onTime_heave (s : State) (f : TimeUnit → TimeUnit) : (s.onTime f).heave = s.heave := rfl
@[simp] theorem State.onTime_hist (s : State) (f : TimeUnit → TimeUnit) : (s.onTime f).hist = s.hist := rfl
@[simp] theorem State.onTime_ring (s : State) (f : TimeUnit → TimeUnit) : (s.onTime f).ring = s.ring := rfl
@[simp] theorem State.onTime_em (s : State) (f : TimeUnit → TimeUnit) : (s.onTime f).em = s.em := rfl
@[simp] theorem State.onTime_reacts (s : State) (f : TimeUnit → TimeUnit) : (s.onTime f).reacts = s.reacts := rfl
@[simp] theorem State.onTime_chan (s : State) (f : TimeUnit → TimeUnit) : (s.onTime f).chan = s.chan := rfl
@[simp] theorem State.onTime_br (s : State) (f : TimeUnit → TimeUnit) : (s.onTime f).br = s.br := rfl
@[simp] theorem State.onTime_cmp (s : State) (f : TimeUnit → TimeUnit) : (s.onTime f).cmp = s.cmp := rfl
@[simp] theorem State.onTime_chop (s : State) (f : TimeUnit → TimeUnit) : (s.onTime f).chop = s.chop := rfl
@[simp] theorem State.onTime_wind (s : State) (f : TimeUnit → TimeUnit) : (s.onTime f).wind = s.wind := rfl
@[simp] theorem State.onTime_stest (s : State) (f : TimeUnit → TimeUnit) : (s.onTime f).stest = s.stest := rfl
@[simp] theorem State.onTime_tap (s : State) (f : TimeUnit → TimeUnit) : (s.onTime f).tap = s.tap := rfl
@[simp] theorem State.onTime_die (s : State) (f : TimeUnit → TimeUnit) : (s.onTime f).die = s.die := rfl
@[simp] theorem State.onTime_garnet (s : State) (f : TimeUnit → TimeUnit) : (s.onTime f).garnet = s.garnet := rfl
@[simp] theorem State.onTime_slog (s : State) (f : TimeUnit → TimeUnit) : (s.onTime f).slog = s.slog := rfl
@[simp] theorem State.onTime_fab (s : State) (f : TimeUnit → TimeUnit) : (s.onTime f).fab = s.fab := rfl
@[simp] theorem State.onTime_clk (s : State) (f : TimeUnit → TimeUnit) : (s.onTime f).clk = s.clk := rfl
@[simp] theorem State.onTime_rst (s : State) (f : TimeUnit → TimeUnit) : (s.onTime f).rst = s.rst := rfl
@[simp] theorem State.onTime_vbat (s : State) (f : TimeUnit → TimeUnit) : (s.onTime f).vbat = s.vbat := rfl
@[simp] theorem State.onTime_recd (s : State) (f : TimeUnit → TimeUnit) : (s.onTime f).recd = s.recd := rfl
@[simp] theorem State.onTime_jrn (s : State) (f : TimeUnit → TimeUnit) : (s.onTime f).jrn = s.jrn := rfl
@[simp] theorem State.onTime_jwBase (s : State) (f : TimeUnit → TimeUnit) : (s.onTime f).jwBase = s.jwBase := rfl
@[simp] theorem State.onTime_nor (s : State) (f : TimeUnit → TimeUnit) : (s.onTime f).nor = s.nor := rfl
@[simp] theorem State.onTime_img (s : State) (f : TimeUnit → TimeUnit) : (s.onTime f).img = s.img := rfl
@[simp] theorem State.onTime_com (s : State) (f : TimeUnit → TimeUnit) : (s.onTime f).com = s.com := rfl
@[simp] theorem State.onTime_shadow (s : State) (f : TimeUnit → TimeUnit) : (s.onTime f).shadow = s.shadow := rfl
@[simp] theorem State.onTime_fw (s : State) (f : TimeUnit → TimeUnit) : (s.onTime f).fw = s.fw := rfl
@[simp] theorem State.onTime_av (s : State) (f : TimeUnit → TimeUnit) : (s.onTime f).av = s.av := rfl
@[simp] theorem State.onTime_cap (s : State) (f : TimeUnit → TimeUnit) : (s.onTime f).cap = s.cap := rfl
@[simp] theorem State.onTime_eth (s : State) (f : TimeUnit → TimeUnit) : (s.onTime f).eth = s.eth := rfl
@[simp] theorem State.onTime_time (s : State) (f : TimeUnit → TimeUnit) : (s.onTime f).time = f s.time := rfl
@[simp] theorem State.onTime_can (s : State) (f : TimeUnit → TimeUnit) : (s.onTime f).can = s.can := rfl
@[simp] theorem State.onTime_onyx (s : State) (f : TimeUnit → TimeUnit) : (s.onTime f).onyx = s.onyx := rfl
@[simp] theorem State.onTime_latches (s : State) (f : TimeUnit → TimeUnit) : (s.onTime f).latches = s.latches := rfl

end Sys2Proof.Machine
end

