-- ==== Sys2Proof/WellFormed.lean ====
section
/-! DEFINITION. Which commands are well formed: what the types of the operands leave open, and the spec bounds. -/

namespace Sys2Proof

open Sys2Proof.Machine

/-- The payload bytes that an item of LEN entries can hold: 56 in the first and 64 in each further one (R280). -/
def payloadMax (len : Fin 4) (fence : Bool) : Nat := if fence then 56 else 56 + 64 * len.1

/-- The data lengths of a CAN frame (R384): as many bytes as the data length code says, none in a remote frame. -/
def canLenOk (f : CanFrame) : Bool :=
  let n := f.dlc.toNat
  let len := if n ≤ 8 then n else if !f.fdf then 8 else if n ≤ 12 then 4 * (n - 6) else if n = 13 then 32 else if n = 14 then 48 else 64
  f.data.length == (if f.rtr then 0 else len) && !(f.rtr && f.fdf) && !(f.brs && !f.fdf)

/-- A mailbox block lies in the half of the host, at a multiple of 64 bytes (R299). -/
def blockOk (blk : BitVec 16) : Bool := decide (blk.toNat < 0x8000) && blk.toNat % 64 == 0

/-- A command is well formed. -/
def Instr.wf : Instr → Bool
  | .evrecEntry code _ _ _ data => decide (data.length ≤ 16) && decide (code.toNat ≤ 0x0DFF)
  | .clockMonitorWindow count => decide (count ≤ 511)
  | .sampleConversionDone _ _ code => decide (-65536 ≤ code) && decide (code ≤ 65535)
  | .fabricPost _ _ len fence _ payload => decide (payload.length ≤ payloadMax len fence)
  | .hostFlowPost _ len fence _ payload => decide (payload.length ≤ payloadMax len fence)
  | .safeFrameCopy _ _ bytes => bytes.length == 20
  | .canFrameReceived _ f _ endAgo => canLenOk f && decide (endAgo < 2 ^ 64)
  | .registerWrite _ _ size _ => size == 1 || size == 2 || size == 4
  | .mailboxSetpoint blk _ _ _ => blockOk blk
  | .mailboxCommand blk _ _ _ => blockOk blk
  | .mailboxRead blk _ _ _ => blockOk blk
  | .mailboxWrite blk _ _ _ => blockOk blk
  | .mailboxOtherType blk _ typ => blockOk blk && !(decide (1 ≤ typ.toNat) && decide (typ.toNat ≤ 4))
  | .ringFrameArrival _ _ _ f _ => decide (f.pos < 8)
  | .shoot _ _ a b _ _ => a != b
  | _ => true

end Sys2Proof
end

