-- ==== Sys2Proof/Tests/Slice0.lean ====
section
/-! SUPPORT. The model's own tests: a smoke test of the checks on commands, values published outside the model, single steps on small
states, and for every statement with hypotheses a state and operands that meet them, clause by clause. -/

namespace Sys2Proof.Tests

open Sys2Proof Sys2Proof.Machine

set_option Elab.async false
set_option linter.unusedVariables false

/-- A table whose rows are all the first row, changed. -/
def every {α : Type} {n : Nat} (v : Vector α (n + 1)) (f : α → α) : Vector α (n + 1) := tbl (n + 1) (f v[0])

/-! ## Small inputs and parts of states -/

def aCommit : CommitRec := ⟨1, .bank, false, false, false, false, false, false, 1, 0, [], 0⟩
def aPkg : Package :=
  { delta := false, magicOk := true, format := 1, product := true, ownerId := [], wrapOk := true, form := 1, tagOk := true, sigOk := true
    signer := 1, cfgSeq := 1, baseSeq := 0, hdrLen := 512, bodyLen := 0, hash := [], recs := [] }
def aRec : RawRec := ⟨1, 0, false, []⟩
def aStaged : Staged := ⟨1, aRec, [], [], none⟩
def aToStash : ToStash := ⟨1, aRec⟩
def aFw : FwPackage := ⟨1, true, true, true⟩
def aCert : OwnerCert := ⟨true, 0, 0, 7, []⟩
def anEnrol : EnrolStmt := ⟨true, Config.devsn, tbl 4 0, [], 7, true, aCert⟩
def aRelease : ReleaseStmt := ⟨true, Config.devsn, tbl 4 0, [], 7, true⟩
def aToken : DebugToken := ⟨true, Config.devsn, tbl 4 0, 0, 1, true⟩
def anEth : EthFrame := ⟨0, 0, 1, 0, 0, none, true, 64, none, false, none, [], 0⟩
def aCan : CanFrame := ⟨false, 0, false, false, false, false, 0, []⟩
def aTx : CanTx := ⟨aCan, true, 0, 0, 0, false, 0⟩
def anItem : Item := ⟨1, false, false, 0, 0, []⟩
def aPost : Post := ⟨0, 0, anItem, 0⟩
def aTxn : Txn := ⟨0, 30, false, none⟩
def anUpset : FlowUpset := ⟨false, 0, 0, 0, 0⟩
def aPos : Vector PosRaw 8 := tbl 8 ⟨0, 0⟩
def aLog : SafeLogEntry := ⟨0, 1, 0, 0, [], 0, [], []⟩
def aCopy : WaitCopy := ⟨0, [], false⟩
def aSs : SsRun := ⟨false, .output, 0, 0, false⟩

def aDelta : Package := { aPkg with delta := true, baseSeq := 0, cfgSeq := 1 }
def aSafe : Staged := ⟨1, ⟨11, 0, false, [⟨0x0B10, 1, 0, 0, 1, .num 0⟩]⟩, [], [], none⟩
def cvSpare : Converter := { State.reset.cells[(0 : Fin 8)].cv[(0 : Fin 5)] with role := .spare }
def cvCal : Converter := { cvSpare with role := .calibrating }
def aStopReact : React := ⟨some Ev.BLACKOUT, 0, .rampStop, true, false⟩
def aCycle : GarnetIn := ⟨0, 0, 0, tbl 4 ⟨0, 0, true, true⟩⟩
def aPdu : List Byte := let b : List Byte := [0, 0, 1, 0, 0, 0, 0, 1] ++ List.replicate 8 0; b ++ bytesLE 4 (crc32c b).toNat

/-! ## Ill-formed commands, each refused by the check it breaks -/

theorem test_wf_entry_data : (Instr.evrecEntry 0x0200 0 0 0 (List.replicate 17 0)).wf = false := by decide +kernel
theorem test_wf_entry_code : (Instr.evrecEntry 0x0E00 0 0 0 []).wf = false := by decide +kernel
theorem test_wf_monitor_count : (Instr.clockMonitorWindow 512).wf = false := by decide +kernel
theorem test_wf_code_low : (Instr.sampleConversionDone 0 0 (-65537)).wf = false := by decide +kernel
theorem test_wf_code_high : (Instr.sampleConversionDone 0 0 65536).wf = false := by decide +kernel
theorem test_wf_payload : (Instr.fabricPost 0 0 0 false 0 (List.replicate 57 0)).wf = false := by decide +kernel
theorem test_wf_fence_payload : (Instr.hostFlowPost 0 1 true 0 (List.replicate 57 0)).wf = false := by decide +kernel
theorem test_wf_pdu_length : (Instr.safeFrameCopy 0 false (List.replicate 19 0)).wf = false := by decide +kernel
theorem test_wf_can_length : (Instr.canFrameReceived 0 { aCan with dlc := 3, data := [1, 2] } 0 0).wf = false := by decide +kernel
theorem test_wf_can_remote_fd : (Instr.canFrameReceived 0 { aCan with rtr := true, fdf := true } 0 0).wf = false := by decide +kernel
theorem test_wf_can_age : (Instr.canFrameReceived 0 aCan 0 (2 ^ 64)).wf = false := by decide +kernel
theorem test_wf_access_size : (Instr.registerWrite 0 0 3 0).wf = false := by decide +kernel
theorem test_wf_block_half : (Instr.mailboxSetpoint 0x8000 1 0 0).wf = false := by decide +kernel
theorem test_wf_block_step : (Instr.mailboxCommand 0x0020 1 0 0).wf = false := by decide +kernel
theorem test_wf_read_block : (Instr.mailboxRead 0x8040 1 0 1).wf = false := by decide +kernel
theorem test_wf_write_block : (Instr.mailboxWrite 0x0001 1 0 0).wf = false := by decide +kernel
theorem test_wf_other_type : (Instr.mailboxOtherType 0 1 2).wf = false := by decide +kernel
theorem test_wf_shoot_pair : (Instr.shoot 0 0 3 3 0 false).wf = false := by decide +kernel
theorem test_wf_good : (Instr.canFrameReceived 0 { aCan with fdf := true, dlc := 9, data := List.replicate 12 0 } 0 0).wf = true := by
  decide +kernel

/-! ## No word spells a command -/

theorem test_no_word : decodeTableWord 32 0 = none := rfl

/-! ## Arithmetic against published values -/

/-- The check value of CRC-32C: the bytes of "123456789". -/
theorem test_crc32c_check : crc32c [0x31, 0x32, 0x33, 0x34, 0x35, 0x36, 0x37, 0x38, 0x39] = 0xE3069283 := by decide +kernel
theorem test_f32_third : toF32 (1 / 3) = 0x3EAAAAAB := by decide +kernel
theorem test_f32_tie_to_even : toF32 16777217 = 0x4B800000 := by decide +kernel
theorem test_f32_minus_two_and_half : toF32 (-5 / 2) = 0xC0200000 := by decide +kernel

/-! ## One step on a small state -/

/-- The state after one step with this command in front; the state itself where the step stops. -/
def after (c : Instr) (s : State) : State :=
  match step { s with pending := [c] } with
  | .next t => t
  | _ => s

/-- Flow 3 with 8 credits, owned by port 5 and read by port 6, after start-up. -/
def flowState : State :=
  { State.reset with
    rst := { State.reset.rst with stage := 9, mgmtRun := true },
    fab := { State.reset.fab with
      flows := State.reset.fab.flows.set 3 { Flow.reset with plane := .mgmt, prod := 5, cons := 6, depth := 8, free := 8 } } }

/-- R282: an item of two entries takes two credits. -/
theorem test_post_takes_credit : (after (.fabricPost 5 3 1 false 0 []) flowState).fab.flows[3].free = 6 := by decide +kernel
/-- R281: a port that does not own the flow takes none, and REFUSE counts. -/
theorem test_post_of_another_port :
    (after (.fabricPost 7 3 1 false 0 []) flowState).fab.flows[3].free = 8 ∧
    (after (.fabricPost 7 3 1 false 0 []) flowState).fab.flows[3].refuse.n = 1 := by decide +kernel
/-- R304: the module waits in reset while LPO is not qualified. -/
theorem test_lpo_timeout_asserts_clkfail :
    (after .lpoQualifyTimeout { State.reset with rst := { State.reset.rst with stage := 1 } }).clk.clkFail = true := by
  decide +kernel
/-- R48: a trigger to a sequencer whose reference buffer is not ready is not converted and counts. -/
theorem test_trigger_without_reference :
    (after (.softwareRegularTrigger 0 0) { flowState with used := [(fieldKey Fld.CELL_SQ_LEN 0 0 0, .num 1)] }).cells[(0 : Fin 8)].trgMiss.n = 1 := by decide +kernel
/-- R27: a motor object that nothing feeds is not armed. -/
theorem test_arm_refused : (after (.armCommand 2) flowState).armed[2] = false := by decide +kernel
/-- R107: a run of a motor object that is not armed starts nothing. -/
theorem test_run_refused : (after (.runCommand 1) flowState).start[1].state = .idle := by decide +kernel
/-- R312: a gate with work stays open. -/
theorem test_gate_stays_open : (after (.islandGateClose 0 false) flowState).clk.gateOpen = 0xFFFFFF := by decide +kernel
/-- R11: a write to a register of the wrong width changes nothing but the recorder's open entries. -/
theorem test_write_rejected :
    let t := after (.registerWrite 0 0x50000 2 1) { flowState with recd := { flowState.recd with on := true } }
    t.cmd = flowState.cmd ∧ t.start = flowState.start ∧ t.armed = flowState.armed := by decide +kernel
/-- A queue of two commands: the second stays for the next step. -/
theorem test_queue_order :
    (match step { State.reset with pending := [.vbatLow true, .vbatLow false] } with
     | .next t => t.pending
     | _ => []) = [.vbatLow false] := by decide +kernel
/-- An empty queue: 50 ns pass. -/
theorem test_idle_step :
    (match step State.reset with
     | .next t => t.up
     | _ => 0) = 50 := by decide +kernel

/-! ## Facts about the opaque circle constant that the witnesses need -/

theorem absQ_nonneg (x : Rat) : 0 ≤ absQ x := by
  unfold absQ
  split <;> grind

theorem le_abs_of_zero {q x : Rat} (h : q = 0) : 3 / 100 * q ≤ absQ x := by
  have := absQ_nonneg x
  subst h
  grind

theorem ratedEmf_zero {s : State} {m : Fin 4} (hr : s.q Fld.MOTOR_PSIR m = 0) (hp : s.q Fld.MOTOR_PSI m = 0) :
    s.ratedEmf m = 0 := by
  simp only [State.ratedEmf, hr, hp, ite_self, Rat.zero_mul]

theorem below_no_emf {s : State} {m : Fin 4} (hr : s.q Fld.MOTOR_PSIR m = 0) (hp : s.q Fld.MOTOR_PSI m = 0)
    (h : s.start[m].emfMag < 0) : s.start[m].emfMag < s.ratedEmf m / 100 := by
  rw [ratedEmf_zero hr hp]
  grind

theorem residual_no_flux {s : State} {m : Fin 4} (hr : s.q Fld.MOTOR_PSIR m = 0) (hp : s.q Fld.MOTOR_PSI m = 0) :
    s.residual m = decide (0 ≤ s.start[m].emfMag) := by
  rw [State.residual, ratedEmf_zero hr hp]
  congr 2
  grind

/-- A stop of category 1 that runs, from a speed of 0 at time 0. -/
def lateStop : State :=
  { State.reset with
    em := every State.reset.em fun e => { e with mode := .cat1, stopped := false, since := 0, w0 := 0 }
    start := every State.reset.start fun e => { e with state := .run } }

/-- The quotient by a rated speed in the time limit of a stop, R205. -/
def lateQuot (s : State) (m : Fin 4) : Rat :=
  qdiv (s.q Fld.EMERGENCY_STOPT m * absQ s.em[m].w0) (s.omegaRated m)

/-- A time at which a stop that began at 0 with this quotient is late. -/
def lateUp (d : Rat) : Nat := ((3 / 2 * d + 1) * 1000000000).ceil.toNat

theorem le_lateUp (d : Rat) : 3 / 2 * d + 1 ≤ ((lateUp d : Rat) - (0 : Nat)) / (sec : Nat) := by
  have h : (3 / 2 * d + 1) * 1000000000 ≤ ((((3 / 2 * d + 1) * 1000000000).ceil : Int) : Rat) := Rat.le_ceil
  have h2 := Rat.intCast_le_intCast.mpr (Int.self_le_toNat ((3 / 2 * d + 1) * 1000000000).ceil)
  rw [Rat.intCast_natCast] at h2
  have h3 : ((sec : Nat) : Rat) = 1000000000 := by decide +kernel
  have h4 : ((0 : Nat) : Rat) = 0 := rfl
  rw [h3, h4]
  unfold lateUp
  grind

theorem stopLate_lateStop :
    { lateStop with up := lateUp (lateQuot lateStop 0) }.stopLate 0 = true :=
  decide_eq_true (le_lateUp (lateQuot lateStop 0))

/-! ## What the hypotheses of each statement ask for can be met

Each theorem takes the clauses of one statement in their order; a clause without hypotheses is left out. -/

theorem test_meets_step_runs_front :
    ∃ (c : Instr) (rest : List Instr) (s : State), s.pending = c :: rest :=
  ⟨.vbatLow true, [], { State.reset with pending := ((.vbatLow true) :: ([])) }, by decide +kernel⟩

theorem test_meets_idle_step_passes_quantum :
    ∃ (s : State), s.pending = [] :=
  ⟨{ State.reset with pending := [] }, by decide +kernel⟩

theorem test_meets_queue_keeps_order :
    (∃ (c : Instr) (rest : List Instr) (s : State) (t : State), s.pending = c :: rest ∧ step s = .next t) ∧
    (∃ (s : State) (t : State), s.pending = [] ∧ step s = .next t) :=
  ⟨⟨.vbatLow true, [], { State.reset with pending := ((.vbatLow true) :: ([])) }, _, by decide +kernel, rfl⟩,
   ⟨{ State.reset with pending := [] }, _, by decide +kernel, rfl⟩⟩

theorem test_meets_stores_stay_bounded :
    ∃ (s : State) (t : State), s.Bounded ∧ step s = .next t :=
  ⟨State.reset, _,
    ⟨by decide +kernel, by decide +kernel, by decide +kernel, by decide +kernel, by decide +kernel, by simp only [Can.bounded]; decide +kernel, by decide +kernel, by decide +kernel, by decide +kernel⟩,
    rfl⟩

theorem test_meets_drive_commands_leave_the_rest_alone :
    (∃ (n : Fin 8) (pos : Vector PosRaw 8) (s : State) (t : State), exec (.carrierTurningPoint n pos) s = .next t) ∧
    (∃ (n : Fin 8) (s : State) (t : State), exec (.currentLoopTaskStart n) s = .next t) ∧
    (∃ (n : Fin 8) (s : State) (t : State), exec (.npUnbal n) s = .next t) ∧
    (∃ (m : Fin 4) (s : State) (t : State), exec (.circHigh m) s = .next t) ∧
    (∃ (k : Fin 8) (s : State) (t : State), exec (.piLineBreak k) s = .next t) ∧
    (∃ (k : Fin 8) (count : Nat) (s : State) (t : State), exec (.piIllegalTransitions k count) s = .next t) ∧
    (∃ (k : Fin 8) (s : State) (t : State), exec (.excFault k) s = .next t) ∧
    (∃ (k : Fin 8) (s : State) (t : State), exec (.piErrorClear k) s = .next t) ∧
    (∃ (m : Fin 4) (s : State) (t : State), exec (.measureDecision m) s = .next t) ∧
    (∃ (m : Fin 4) (plus : Rat) (minus : Rat) (s : State) (t : State), exec (.hfiPolarityDone m plus minus) s = .next t) ∧
    (∃ (m : Fin 4) (s : State) (t : State), exec (.hfiNoconvTimeout m) s = .next t) ∧
    (∃ (m : Fin 4) (s : State) (t : State), exec (.obsNolockTimeout m) s = .next t) ∧
    (∃ (m : Fin 4) (s : State) (t : State), exec (.searchLost m) s = .next t) ∧
    (∃ (m : Fin 4) (s : State) (t : State), exec (.outerLoopPeriod m) s = .next t) ∧
    (∃ (m : Fin 4) (s : State) (t : State), exec (.faultClearCommand m) s = .next t) ∧
    (∃ (k : Fin 8) (s : State) (t : State), exec (.axisClear k) s = .next t) ∧
    (∃ (k : Fin 8) (s : State) (t : State), exec (.axisStandstillDelayEnd k) s = .next t) ∧
    (∃ (k : Fin 8) (s : State) (t : State), exec (.axDrvFault k) s = .next t) ∧
    (∃ (k : Fin 8) (s : State) (t : State), exec (.lwFollow k) s = .next t) ∧
    (∃ (m : Fin 4) (s : State) (t : State), exec (.renderOverload m) s = .next t) ∧
    (∃ (s : State) (t : State), exec .ringArrivalDeadline s = .next t) ∧
    (∃ (s : State) (t : State), exec .ringCycleBoundary s = .next t) ∧
    (∃ (s : State) (t : State), exec .quorumRestored s = .next t) ∧
    (∃ (m : Fin 4) (s : State) (t : State), exec (.stop0Command m) s = .next t) ∧
    (∃ (m : Fin 4) (s : State) (t : State), exec (.stop1Command m) s = .next t) ∧
    (∃ (m : Fin 4) (s : State) (t : State), exec (.quickStopCommand m) s = .next t) ∧
    (∃ (m : Fin 4) (s : State) (t : State), exec (.stop2Command m) s = .next t) ∧
    (∃ (m : Fin 4) (s : State) (t : State), exec (.stopTimeout m) s = .next t) ∧
    (∃ (m : Fin 4) (s : State) (t : State), exec (.eqrInputRequest m) s = .next t) ∧
    (∃ (m : Fin 4) (s : State) (t : State), exec (.croEntry m) s = .next t) ∧
    (∃ (m : Fin 4) (s : State) (t : State), exec (.croExit m) s = .next t) ∧
    (∃ (m : Fin 4) (s : State) (t : State), exec (.blackoutDetect m) s = .next t) ∧
    (∃ (m : Fin 4) (s : State) (t : State), exec (.blackoutRecoveryQualified m) s = .next t) ∧
    (∃ (m : Fin 4) (s : State) (t : State), exec (.blackoutRestart m) s = .next t) ∧
    (∃ (m : Fin 4) (s : State) (t : State), exec (.isolatorOpen m) s = .next t) ∧
    (∃ (m : Fin 4) (s : State) (t : State), exec (.isolatorTimeout m) s = .next t) ∧
    (∃ (i : Fin 96) (high : Bool) (stamp : BitVec 64) (s : State) (t : State), exec (.comparatorLevel2Trip i high stamp) s = .next t) ∧
    (∃ (i : Fin 96) (s : State) (t : State), exec (.comparatorReturn i) s = .next t) ∧
    (∃ (g : Fin 52) (s : State) (t : State), exec (.gateStatusDesat g) s = .next t) ∧
    (∃ (g : Fin 52) (s : State) (t : State), exec (.gateStatusUv g) s = .next t) ∧
    (∃ (g : Fin 52) (freq : Rat) (s : State) (t : State), exec (.gateTrainReady g freq) s = .next t) ∧
    (∃ (n : Fin 8) (phase : Fin 3) (a : Fin 12) (b : Fin 12) (pattern : BitVec 12) (gap : Bool) (s : State) (t : State),
      exec (.shoot n phase a b pattern gap) s = .next t) ∧
    (∃ (n : Fin 8) (s : State) (t : State), exec (.faultWindowEnd n) s = .next t) ∧
    (∃ (c : Fin 4) (s : State) (t : State), exec (.chopperPeriod c) s = .next t) ∧
    (∃ (s : State) (t : State), exec .garnetSelfFault s = .next t) ∧
    (∃ (bad : Bool) (s : State) (t : State), exec (.garnetSramScrub bad) s = .next t) ∧
    (∃ (m : Fin 4) (s : State) (t : State), exec (.sfPosDisc m) s = .next t) ∧
    (∃ (m : Fin 4) (s : State) (t : State), exec (.sfTensDisc m) s = .next t) ∧
    (∃ (m : Fin 4) (s : State) (t : State), exec (.ss1TimeEnd m) s = .next t) ∧
    (∃ (m : Fin 4) (s : State) (t : State), exec (.sltStage2 m) s = .next t) ∧
    (∃ (m : Fin 4) (s : State) (t : State), exec (.safetyAck m) s = .next t) :=
  ⟨⟨0, aPos, State.reset, _, rfl⟩,
   ⟨0, State.reset, _, rfl⟩,
   ⟨0, State.reset, _, rfl⟩,
   ⟨0, State.reset, _, rfl⟩,
   ⟨0, State.reset, _, rfl⟩,
   ⟨0, 0, State.reset, _, rfl⟩,
   ⟨0, State.reset, _, rfl⟩,
   ⟨0, State.reset, _, rfl⟩,
   ⟨0, State.reset, _, rfl⟩,
   ⟨0, 0, 0, State.reset, _, rfl⟩,
   ⟨0, State.reset, _, rfl⟩,
   ⟨0, State.reset, _, rfl⟩,
   ⟨0, State.reset, _, rfl⟩,
   ⟨0, State.reset, _, rfl⟩,
   ⟨0, State.reset, _, rfl⟩,
   ⟨0, State.reset, _, rfl⟩,
   ⟨0, State.reset, _, rfl⟩,
   ⟨0, State.reset, _, rfl⟩,
   ⟨0, State.reset, _, rfl⟩,
   ⟨0, State.reset, _, rfl⟩,
   ⟨State.reset, _, rfl⟩,
   ⟨State.reset, _, rfl⟩,
   ⟨State.reset, _, rfl⟩,
   ⟨0, State.reset, _, rfl⟩,
   ⟨0, State.reset, _, rfl⟩,
   ⟨0, State.reset, _, rfl⟩,
   ⟨0, State.reset, _, rfl⟩,
   ⟨0, State.reset, _, rfl⟩,
   ⟨0, State.reset, _, rfl⟩,
   ⟨0, State.reset, _, rfl⟩,
   ⟨0, State.reset, _, rfl⟩,
   ⟨0, State.reset, _, rfl⟩,
   ⟨0, State.reset, _, rfl⟩,
   ⟨0, State.reset, _, rfl⟩,
   ⟨0, State.reset, _, rfl⟩,
   ⟨0, State.reset, _, rfl⟩,
   ⟨0, false, 0, State.reset, _, rfl⟩,
   ⟨0, State.reset, _, rfl⟩,
   ⟨0, State.reset, _, rfl⟩,
   ⟨0, State.reset, _, rfl⟩,
   ⟨0, 0, State.reset, _, rfl⟩,
   ⟨0, 0, 0, 0, 0, false, State.reset, _, rfl⟩,
   ⟨0, State.reset, _, rfl⟩,
   ⟨0, State.reset, _, rfl⟩,
   ⟨State.reset, _, rfl⟩,
   ⟨false, State.reset, _, rfl⟩,
   ⟨0, State.reset, _, rfl⟩,
   ⟨0, State.reset, _, rfl⟩,
   ⟨0, State.reset, _, rfl⟩,
   ⟨0, State.reset, _, rfl⟩,
   ⟨0, State.reset, _, rfl⟩⟩

theorem test_meets_module_commands_leave_the_rest_alone :
    (∃ (s : State) (t : State), exec .srstnPulse s = .next t) ∧
    (∃ (s : State) (t : State), exec .lpoQualifyTimeout s = .next t) ∧
    (∃ (irc : Nat) (inTime : Bool) (s : State) (t : State), exec (.xinAttemptEnd irc inTime) s = .next t) ∧
    (∃ (locked : BitVec 5) (trim : Int) (s : State) (t : State), exec (.pllLockDone locked trim) s = .next t) ∧
    (∃ (readA : Bool) (readB : Bool) (s : State) (t : State), exec (.imageLoadDone readA readB) s = .next t) ∧
    (∃ (s : State) (t : State), exec .s6Done s = .next t) ∧
    (∃ (s : State) (t : State), exec .s7Done s = .next t) ∧
    (∃ (garnetOk : Bool) (tpBad : BitVec 8) (soBadH : BitVec 8) (soBadL : BitVec 8) (brOk : BitVec 8) (chOk : BitVec 4) (failItem : Nat) (s : State) (t : State),
      exec (.s8Done garnetOk tpBad soBadH soBadL brOk chOk failItem) s = .next t) ∧
    (∃ (s : State) (t : State), exec .s9Entry s = .next t) ∧
    (∃ (p : Fin 4) (s : State) (t : State), exec (.pllUnlock p) s = .next t) ∧
    (∃ (s : State) (t : State), exec .analogClockLoss s = .next t) ∧
    (∃ (s : State) (t : State), exec .managementRestart s = .next t) ∧
    (∃ (s : State) (t : State), exec .managementRestartDone s = .next t) ∧
    (∃ (s : State) (t : State), exec .managementSliceEnd s = .next t) ∧
    (∃ (c : Fin 9) (s : State) (t : State), exec (.refReady c) s = .next t) ∧
    (∃ (c : Fin 9) (offs : Vector Int 5) (gains : Vector Rat 5) (mis : Vector (Vector Int 6) 5) (s : State) (t : State),
      exec (.fullCalibrationDone c offs gains mis) s = .next t) ∧
    (∃ (s : State) (t : State), exec .dieShutdownRecordDone s = .next t) ∧
    (∃ (s : State) (t : State), exec .safeChange s = .next t) ∧
    (∃ (sess : Nat) (sigOk : Bool) (index : Nat) (hash : List Byte) (actor : List Byte) (s : State) (t : State),
      exec (.safelogArchive sess sigOk index hash actor) s = .next t) ∧
    (∃ (k : Fin 28) (s : State) (t : State), exec (.flowMigrated k) s = .next t) ∧
    (∃ (upset : Option FlowUpset) (s : State) (t : State), exec (.jasperAuditRound upset) s = .next t) ∧
    (∃ (upset : FlowUpset) (s : State) (t : State), exec (.countParityError upset) s = .next t) ∧
    (∃ (f : Fin 256) (len : Fin 4) (fence : Bool) (epoch : BitVec 8) (payload : List Byte) (s : State) (t : State),
      exec (.hostFlowPost f len fence epoch payload) s = .next t) ∧
    (∃ (f : Fin 256) (s : State) (t : State), exec (.hostFlowRead f) s = .next t) ∧
    (∃ (s : State) (t : State), exec .hostFenceDone s = .next t) ∧
    (∃ (blk : BitVec 16) (seq : Word) (mo : Byte) (v : Word) (s : State) (t : State), exec (.mailboxSetpoint blk seq mo v) s = .next t) ∧
    (∃ (blk : BitVec 16) (seq : Word) (mo : Byte) (bits : Byte) (s : State) (t : State), exec (.mailboxCommand blk seq mo bits) s = .next t) ∧
    (∃ (blk : BitVec 16) (seq : Word) (addr : Word) (v : Word) (s : State) (t : State), exec (.mailboxWrite blk seq addr v) s = .next t) ∧
    (∃ (k : Nat) (s : State) (t : State), exec (.deltaRecordEffect k) s = .next t) ∧
    (∃ (s : State) (t : State), exec .commitDelayExpiry s = .next t) ∧
    (∃ (ok : Bool) (s : State) (t : State), exec (.commitReadbackDone ok) s = .next t) ∧
    (∃ (s : State) (t : State), exec .fwTrial s = .next t) ∧
    (∃ (s : State) (t : State), exec .fwProbationEnd s = .next t) ∧
    (∃ (s : State) (t : State), exec .fwRevertCommand s = .next t) ∧
    (∃ (p : Fin 8) (up : Bool) (half : Bool) (speed : BitVec 2) (s : State) (t : State), exec (.ethLinkChange p up half speed) s = .next t) ∧
    (∃ (c : Fin 4) (f : CanFrame) (sofAgo : Nat) (endAgo : Nat) (s : State) (t : State),
      exec (.canFrameReceived c f sofAgo endAgo) s = .next t) ∧
    (∃ (c : Fin 4) (r : TxResult) (dataPhase : Bool) (stamp : Word) (s : State) (t : State),
      exec (.canTxAttemptEnd c r dataPhase stamp) s = .next t) ∧
    (∃ (s : State) (t : State), exec .zeroiseNvmErased s = .next t) ∧
    (∃ (p : Fin 4) (s : State) (t : State), exec (.pllRelock p) s = .next t) ∧
    (∃ (s : State) (t : State), exec .ircQualifyFail s = .next t) :=
  ⟨⟨State.reset, _, rfl⟩,
   ⟨State.reset, _, rfl⟩,
   ⟨0, false, State.reset, _, rfl⟩,
   ⟨0, 0, State.reset, _, rfl⟩,
   ⟨false, false, State.reset, _, rfl⟩,
   ⟨State.reset, _, rfl⟩,
   ⟨State.reset, _, rfl⟩,
   ⟨false, 0, 0, 0, 0, 0, 0, State.reset, _, rfl⟩,
   ⟨State.reset, _, rfl⟩,
   ⟨0, State.reset, _, rfl⟩,
   ⟨State.reset, _, rfl⟩,
   ⟨State.reset, _, rfl⟩,
   ⟨State.reset, _, rfl⟩,
   ⟨State.reset, _, rfl⟩,
   ⟨0, State.reset, _, rfl⟩,
   ⟨0, tbl 5 0, tbl 5 1, tbl 5 (tbl 6 0), State.reset, _, rfl⟩,
   ⟨State.reset, _, rfl⟩,
   ⟨State.reset, _, rfl⟩,
   ⟨0, false, 0, [], [], State.reset, _, rfl⟩,
   ⟨0, State.reset, _, rfl⟩,
   ⟨none, State.reset, _, rfl⟩,
   ⟨anUpset, State.reset, _, rfl⟩,
   ⟨0, 0, false, 0, [], State.reset, _, rfl⟩,
   ⟨0, State.reset, _, rfl⟩,
   ⟨State.reset, _, rfl⟩,
   ⟨0, 0, 0, 0, State.reset, _, rfl⟩,
   ⟨0, 0, 0, 0, State.reset, _, rfl⟩,
   ⟨0, 0, 0, 0, State.reset, _, rfl⟩,
   ⟨0, State.reset, _, rfl⟩,
   ⟨State.reset, _, rfl⟩,
   ⟨false, State.reset, _, rfl⟩,
   ⟨State.reset, _, rfl⟩,
   ⟨State.reset, _, rfl⟩,
   ⟨State.reset, _, rfl⟩,
   ⟨0, false, false, 0, State.reset, _, rfl⟩,
   ⟨0, aCan, 0, 0, State.reset, _, rfl⟩,
   ⟨0, .sent, false, 0, State.reset, _, rfl⟩,
   ⟨State.reset, _, rfl⟩,
   ⟨0, State.reset, _, rfl⟩,
   ⟨State.reset, _, rfl⟩⟩

theorem test_meets_cold_resets_start_at_s0 :
    (∃ (s : State) (rail : Fin 9), rail ≠ 8) ∧
    (∃ (s : State) (c : RstCause), s.rst.flushing = some c) :=
  ⟨⟨State.reset, 0, by decide +kernel⟩,
   ⟨{ State.reset with rst := { State.reset.rst with flushing := (some .porn) } }, .porn, by decide +kernel⟩⟩

theorem test_meets_warm_resets_enter_safe :
    (∃ (s : State), s.rst.held = false ∧ s.rst.flushing = none ∧ s.die.hold = false) ∧
    (∃ (s : State), s.rst.held = false ∧ s.rst.flushing = none ∧ s.die.hold = true ∧ (∀ i : Fin 6, s.die.code[i] < 8000)) ∧
    (∃ (s : State), s.die.hold = true ∧ (∃ i : Fin 6, 8000 ≤ s.die.code[i])) :=
  ⟨⟨{ State.reset with
       rst := { State.reset.rst with held := false, flushing := none }, die := { State.reset.die with hold := false } }, by decide +kernel⟩,
   ⟨{ State.reset with
       rst := { State.reset.rst with held := false, flushing := none }, die := { State.reset.die with hold := true } }, by decide +kernel⟩,
   ⟨{ State.reset with
       die := { State.reset.die with hold := true, code := (every State.reset.die.code fun _ => 8000) } }, by decide +kernel⟩⟩

theorem test_meets_software_restart :
    (∃ (s : State) (force : Bool), s.rst.held = false ∧ s.rst.flushing = none ∧ (s.anyGate = false ∨ force = true)) ∧
    (∃ (s : State), s.rst.held = false ∧ s.rst.flushing = none ∧ s.anyGate = true) ∧
    (∃ (s : State) (acc : Nat) (force : Bool), s.rst.held = false ∧ s.rst.flushing = none ∧ (acc = 0 ∨ s.session (acc - 1) = true)) ∧
    (∃ (s : State) (acc : Nat) (v : Word), v.toNat / 65536 ≠ 0xA5C3 ∧ s.busOpen acc = true) ∧
    (∃ (s : State) (acc : Nat) (v : Word), acc ≠ 0 ∧ s.session (acc - 1) = false) ∧
    (∃ (s : State) (key : BitVec 16) (force : Bool), key ≠ 0xA5C3) :=
  ⟨⟨{ State.reset with rst := { State.reset.rst with held := false, flushing := none } }, false, by decide +kernel⟩,
   ⟨{ State.reset with
       rst := { State.reset.rst with held := false, flushing := none },
       br := (every State.reset.br fun e1 => { e1 with enabled := true }) }, by decide +kernel⟩,
   ⟨{ State.reset with rst := { State.reset.rst with held := false, flushing := none } }, 0, false, by decide +kernel⟩,
   ⟨State.reset, 0, 0, by decide +kernel⟩,
   ⟨State.reset, 1, 0, by decide +kernel⟩,
   ⟨State.reset, 0, false, by decide +kernel⟩⟩

theorem test_meets_supply_and_management :
    (∃ (s : State) (legacy : Bool), s.rst.held = true) ∧
    (∃ (s : State), s.inStage 0 = true) ∧
    (∃ (s : State), s.rst.mgmtRun = true) ∧
    (∃ (s : State), s.rst.mgmtRun = false ∧ 4 ≤ s.rst.stage) ∧
    (∃ (s : State), s.rst.mgmtRun = true ∧ s.rst.stage = 9) :=
  ⟨⟨{ State.reset with rst := { State.reset.rst with held := true } }, false, by decide +kernel⟩,
   ⟨{ State.reset with rst := { State.reset.rst with stage := 0 } }, by decide +kernel⟩,
   ⟨{ State.reset with rst := { State.reset.rst with mgmtRun := true } }, by decide +kernel⟩,
   ⟨{ State.reset with rst := { State.reset.rst with mgmtRun := false, stage := 4 } }, by decide +kernel⟩,
   ⟨{ State.reset with rst := { State.reset.rst with mgmtRun := true, stage := 9 } }, by decide +kernel⟩⟩

theorem test_meets_startup_stages :
    (∃ (s : State), s.inStage 4 = true ∧ s.onyx.nvmKeys = true ∧ s.onyx.certOk = true ∧ s.onyx.zero = false ∧ s.onyx.zlatch = false ∧
      s.onyx.zcellDue = false ∧ s.onyx.zeroing = false ∧ (∀ x : Fin 4, s.onyx.due[x] = false)) ∧
    (∃ (s : State) (onyxOk : Bool) (rngOk : Bool) (kroot : Bool) (dramOk : Bool) (chainOk : Bool), s.inStage 4 = true ∧
      (onyxOk = false ∨ rngOk = false)) ∧
    (∃ (s : State), s.inStage 6 = true) ∧
    (∃ (s : State), s.inStage 7 = true ∧ (∀ c : Fin 8, s.yes Fld.CELL_REFEN c = true → s.cells[c].calibrated = true ∧
      s.cells[c].fullPend = false ∧ s.cells[c].offline = false)) ∧
    (∃ (s : State) (c : Fin 8), s.yes Fld.CELL_REFEN c = true ∧ s.cells[c].calibrated = false) ∧
    (∃ (s : State) (g : Bool) (tp : BitVec 8) (soH : BitVec 8) (soL : BitVec 8) (br : BitVec 8) (ch : BitVec 4) (item : Nat),
      s.inStage 8 = true ∧ s.rst.s8Done = false) ∧
    (∃ (s : State), s.inStage 8 = true ∧ s.rst.s8Done = true) :=
  ⟨⟨{ State.reset with
       rst := { State.reset.rst with stage := 4 },
       onyx := { State.reset.onyx with nvmKeys := true, certOk := true, zero := false, zlatch := false, zcellDue := false, zeroing := false } },
     by decide +kernel⟩,
   ⟨{ State.reset with rst := { State.reset.rst with stage := 4 } }, false, false, false, false, false, by decide +kernel⟩,
   ⟨{ State.reset with rst := { State.reset.rst with stage := 6 } }, by decide +kernel⟩,
   ⟨{ State.reset with
       rst := { State.reset.rst with stage := 7, hold := 0 }, die := { State.reset.die with hold := false },
       cells := (every State.reset.cells fun e1 => { e1 with calibrated := true }) }, by decide +kernel⟩,
   ⟨{ State.reset with
       cells := (every State.reset.cells fun e1 => { e1 with calibrated := false }), used := [(fieldKey Fld.CELL_REFEN 0 0 0, .num 1)] }, 0,
     by decide +kernel⟩,
   ⟨{ State.reset with rst := { State.reset.rst with stage := 8, s8Done := false } }, false, 0, 0, 0, 0, 0, 0, by decide +kernel⟩,
   ⟨{ State.reset with rst := { State.reset.rst with stage := 8, s8Done := true } }, by decide +kernel⟩⟩

theorem test_meets_clock_reference :
    (∃ (s : State), s.rst.stage = 1 ∧ s.rst.held = false) ∧
    (∃ (s : State), s.inStage 1 = true ∧ s.clk.lpoQ = false) ∧
    (∃ (s : State), s.rst.stage = 1 ∧ s.clk.lpoQ = true ∧ s.rst.held = false) ∧
    (∃ (s : State) (irc : Nat), s.inStage 2 = true ∧ s.clk.early16 = none ∧ 246416 ≤ irc ∧ irc ≤ 277872) ∧
    (∃ (s : State) (irc : Nat) (inTime : Bool), s.inStage 2 = true ∧ s.clk.early16 = none ∧ (inTime = false ∨ irc < 246416 ∨ 277872 < irc)) ∧
    (∃ (s : State) (trim : Int), s.inStage 3 = true ∧ s.clk.src ≠ .degraded) ∧
    (∃ (s : State) (locked : BitVec 5) (trim : Int), s.inStage 3 = true ∧ locked ≠ 0x1F) ∧
    (∃ (s : State) (count : Nat), count ≤ 511) ∧
    (∃ (s : State) (count : Nat), s.clk.ircQ = true ∧ s.clk.cmArm = true ∧ s.clk.early16 = none ∧ 4 ≤ s.rst.stage ∧ s.clk.src = .xin ∧
      (count < 235 ∨ 265 < count)) ∧
    (∃ (s : State), s.clk.src ≠ .xin) ∧
    (∃ (s : State), s.clk.src = .xin) ∧
    (∃ (s : State) (k : Nat), s.clk.ret = some k ∧ 1001 ≤ k) ∧
    (∃ (s : State) (k : Nat) (ok : Bool), s.clk.ret = some k ∧ (ok = false ∨ k ≤ 1000)) ∧
    (∃ (s : State) (count : Nat), (20 * count < 19 * 1000977 ∨ 21 * 1000977 < 20 * count)) ∧
    (∃ (s : State) (count : Nat), 19 * 1000977 ≤ 20 * count ∧ 20 * count ≤ 21 * 1000977 ∧ s.clk.ircBad = false) ∧
    (∃ (s : State) (trim : Int), 4 ≤ s.rst.stage ∧ s.clk.src = .xin) ∧
    (∃ (s : State) (trim : Int), 4 ≤ s.rst.stage ∧ s.clk.src ≠ .xin ∧ (s.ring.tlock || s.time.asLock) = true) :=
  ⟨⟨{ State.reset with rst := { State.reset.rst with stage := 1, held := false } }, by decide +kernel⟩,
   ⟨{ State.reset with rst := { State.reset.rst with stage := 1 }, clk := { State.reset.clk with lpoQ := false } }, by decide +kernel⟩,
   ⟨{ State.reset with
       rst := { State.reset.rst with stage := 1, held := false }, clk := { State.reset.clk with lpoQ := true } }, by decide +kernel⟩,
   ⟨{ State.reset with
       rst := { State.reset.rst with stage := 2 }, clk := { State.reset.clk with early16 := none } }, 246416, by decide +kernel⟩,
   ⟨{ State.reset with
       rst := { State.reset.rst with stage := 2 }, clk := { State.reset.clk with early16 := none } }, 0, false, by decide +kernel⟩,
   ⟨{ State.reset with rst := { State.reset.rst with stage := 3 } }, 0, by decide +kernel⟩,
   ⟨{ State.reset with rst := { State.reset.rst with stage := 3 } }, 0, 0, by decide +kernel⟩,
   ⟨State.reset, 0, by decide +kernel⟩,
   ⟨{ State.reset with
       clk := { State.reset.clk with ircQ := true, cmArm := true, early16 := none, src := .xin },
       rst := { State.reset.rst with stage := 4 } }, 0, by decide +kernel⟩,
   ⟨{ State.reset with clk := { State.reset.clk with src := .fallback } }, by decide +kernel⟩,
   ⟨{ State.reset with clk := { State.reset.clk with src := .xin } }, by decide +kernel⟩,
   ⟨{ State.reset with clk := { State.reset.clk with ret := some 1001 } }, 1001, by decide +kernel⟩,
   ⟨{ State.reset with clk := { State.reset.clk with ret := some 0 } }, 0, false, by decide +kernel⟩,
   ⟨State.reset, 0, by decide +kernel⟩,
   ⟨{ State.reset with clk := { State.reset.clk with ircBad := false } }, 1000977, by decide +kernel⟩,
   ⟨{ State.reset with rst := { State.reset.rst with stage := 4 }, clk := { State.reset.clk with src := .xin } }, 0, by decide +kernel⟩,
   ⟨{ State.reset with
       rst := { State.reset.rst with stage := 4 }, clk := { State.reset.clk with src := .fallback },
       ring := { State.reset.ring with tlock := true } }, 0, by decide +kernel⟩⟩

theorem test_meets_clock_islands :
    (∃ (s : State), s.clk.mgPend = none ∧ mgFreqOf s.dieTemp ≠ s.die.mgFreq) ∧
    (∃ (s : State) (f : Nat), s.clk.mgPend = some f) ∧
    (∃ (s : State), s.clk.fm.gate ≠ 0 ∧ s.clk.fm.meas.toNat ≤ 16 ∧ s.clk.fm.ref.toNat ≤ 16) ∧
    (∃ (s : State), (s.clk.fm.gate = 0 ∨ 16 < s.clk.fm.meas.toNat ∨ 16 < s.clk.fm.ref.toNat)) ∧
    (∃ (s : State) (count : Word) (timeout : Bool), s.clk.fm.busy = true) ∧
    (∃ (s : State) (g : Fin 24), s.clk.gateReg.getLsbD g = false) :=
  ⟨⟨{ State.reset with clk := { State.reset.clk with mgPend := none }, die := { State.reset.die with mgFreq := 2 } }, by decide +kernel⟩,
   ⟨{ State.reset with clk := { State.reset.clk with mgPend := (some 0) } }, 0, by decide +kernel⟩,
   ⟨{ State.reset with clk := { State.reset.clk with fm := { State.reset.clk.fm with gate := 1 } } }, by decide +kernel⟩,
   ⟨{ State.reset with clk := { State.reset.clk with fm := { State.reset.clk.fm with gate := 0 } } }, by decide +kernel⟩,
   ⟨{ State.reset with clk := { State.reset.clk with fm := { State.reset.clk.fm with busy := true } } }, 0, false, by decide +kernel⟩,
   ⟨State.reset, 0, by decide +kernel⟩⟩

theorem test_meets_image_load :
    (∃ (s : State) (r : CommitRec) (p : Package) (readA : Bool) (readB : Bool), s.inStage 5 = true ∧ 64 ≤ s.nor.sizeMiB ∧
      s.nor.newest = some r ∧ s.nor.bank r.bank = some p ∧
      s.bankFail r.bank (if r.bank then readB else readA) (.equal r.cfgSeq) (some r.imgHash) = 0) ∧
    (∃ (s : State) (r : CommitRec) (p : Package) (readA : Bool) (readB : Bool), s.inStage 5 = true ∧ 64 ≤ s.nor.sizeMiB ∧
      s.nor.newest = some r ∧ s.bankFail r.bank (if r.bank then readB else readA) (.equal r.cfgSeq) (some r.imgHash) ≠ 0 ∧
      s.nor.bank (!r.bank) = some p ∧ s.bankFail (!r.bank) (if r.bank then readA else readB) (.below r.cfgSeq) none = 0) ∧
    (∃ (s : State) (readA : Bool) (readB : Bool), s.inStage 5 = true ∧ s.nor.sizeMiB < 64) ∧
    (∃ (s : State) (r : CommitRec) (readA : Bool) (readB : Bool), s.inStage 5 = true ∧ 64 ≤ s.nor.sizeMiB ∧ s.nor.newest = some r ∧
      s.nor.bankA = none ∧ s.nor.bankB = none) :=
  ⟨⟨{ State.reset with
       rst := { State.reset.rst with stage := 5 }, nor := { State.reset.nor with sizeMiB := 64, crs := [aCommit], bankA := some aPkg },
       onyx := { State.reset.onyx with owned := true } }, aCommit, aPkg, true, true, by decide +kernel⟩,
   ⟨{ State.reset with
       rst := { State.reset.rst with stage := 5 },
       nor := { State.reset.nor with sizeMiB := 64, crs := [aCommit], bankB := some { aPkg with cfgSeq := 0 } },
       onyx := { State.reset.onyx with owned := true } }, aCommit, { aPkg with cfgSeq := 0 }, true, true, by decide +kernel⟩,
   ⟨{ State.reset with
       rst := { State.reset.rst with stage := 5 }, nor := { State.reset.nor with sizeMiB := 32 } }, false, false, by decide +kernel⟩,
   ⟨{ State.reset with
       rst := { State.reset.rst with stage := 5 },
       nor := { State.reset.nor with sizeMiB := 64, crs := [aCommit], bankA := none, bankB := none } }, aCommit, false, false,
     by decide +kernel⟩⟩

theorem test_meets_submissions_and_staging :
    (∃ (s : State) (sess : Nat) (p : Package), s.rst.mgmtRun = true ∧ s.session sess = true ∧ s.deltaFault (s.wouldBe p) p = 0 ∧
      p.safety = false) ∧
    (∃ (s : State) (sess : Nat) (p : Package), s.rst.mgmtRun = true ∧ s.session sess = true ∧ s.deltaFault (s.wouldBe p) p ≠ 0) ∧
    (∃ (s : State) (sess : Nat) (p : Package), s.rst.mgmtRun = true ∧ s.session sess = true ∧ s.imageFault p = 0 ∧ s.com.step = .idle) ∧
    (∃ (s : State) (sess : Nat) (p : Package), s.rst.mgmtRun = true ∧ s.session sess = true ∧ s.imageFault p ≠ 0) ∧
    (∃ (s : State) (sess : Nat) (e : SafeLogEntry) (l : List SafeLogEntry) (actor : List Byte), s.rst.mgmtRun = true ∧
      s.session sess = true ∧ s.slog.entries = e :: l ∧ s.keysUsable = true ∧ s.com.step = .idle) ∧
    (∃ (s : State) (k : Nat) (x : Staged), s.img.staged[k]? = some x ∧ s.groupMay false (s.groupOf x.rec_.typ x.rec_.inst) = true ∧
      (∀ y ∈ s.groupOf x.rec_.typ x.rec_.inst, y.rec_.safety = false)) ∧
    (∃ (s : State) (slice : Bool) (typ : Nat) (inst : Nat), recOfCode typ ≠ some .bridge) ∧
    (∃ (s : State) (k : Nat), s.img.staged.length ≤ k) ∧
    (∃ (s : State) (k : Nat) (x : Staged), s.img.staged[k]? = some x ∧
      (s.groupMay false (s.groupOf x.rec_.typ x.rec_.inst) = false ∨ x.rec_.safety = true)) ∧
    (∃ (s : State) (x : Staged), s.img.staged = [x] ∧ s.safetyMay [x] = true) ∧
    (∃ (s : State), (∀ x ∈ s.img.staged, s.safetyMay (s.groupOf x.rec_.typ x.rec_.inst) = false)) ∧
    (∃ (s : State) (x : Staged) (m : Fin 4), s.img.staged = [x] ∧ s.garnet.mo[m].sto = false ∧ (∃ f ∈ x.rec_.fields,
      isSafety x.rec_.typ f.fid = true ∧ s.namesItem m x.rec_.typ x.rec_.inst f = true)) :=
  ⟨⟨{ State.reset with
       rst := { State.reset.rst with mgmtRun := true, stage := 9 },
       onyx := { State.reset.onyx with sessions := [⟨0, 0, 0, 0⟩], keys := true, owned := true } }, 0, aDelta, by decide +kernel⟩,
   ⟨{ State.reset with
       rst := { State.reset.rst with mgmtRun := true }, onyx := { State.reset.onyx with sessions := [⟨0, 0, 0, 0⟩] } }, 0, aPkg,
     by decide +kernel⟩,
   ⟨{ State.reset with
       rst := { State.reset.rst with mgmtRun := true, stage := 9 },
       onyx := { State.reset.onyx with sessions := [⟨0, 0, 0, 0⟩], keys := true, owned := true },
       com := { State.reset.com with step := .idle } }, 0, aPkg, by decide +kernel⟩,
   ⟨{ State.reset with
       rst := { State.reset.rst with mgmtRun := true }, onyx := { State.reset.onyx with sessions := [⟨0, 0, 0, 0⟩] } }, 0, aPkg,
     by decide +kernel⟩,
   ⟨{ State.reset with
       rst := { State.reset.rst with mgmtRun := true }, onyx := { State.reset.onyx with sessions := [⟨0, 0, 0, 0⟩], keys := true },
       slog := { State.reset.slog with entries := (aLog :: ([])) }, com := { State.reset.com with step := .idle } }, 0, aLog, [], [],
     by decide +kernel⟩,
   ⟨{ State.reset with
       rst := { State.reset.rst with stage := 9, mgmtRun := true }, img := { State.reset.img with staged := [aStaged] } }, 0, aStaged,
     by decide +kernel⟩,
   ⟨State.reset, false, 0, 0, by decide +kernel⟩,
   ⟨State.reset, 0, by decide +kernel⟩,
   ⟨{ State.reset with img := { State.reset.img with staged := [aSafe] } }, 0, aSafe, by decide +kernel⟩,
   ⟨{ State.reset with
       img := { State.reset.img with staged := [aSafe] }, rst := { State.reset.rst with stage := 9, mgmtRun := true },
       garnet := { State.reset.garnet with run := true, mo := (every State.reset.garnet.mo fun e1 => { e1 with sto := true }) } }, aSafe,
     by decide +kernel⟩,
   ⟨State.reset, by decide +kernel⟩,
   ⟨{ State.reset with
       img := { State.reset.img with staged := [aSafe] },
       garnet := { State.reset.garnet with mo := (every State.reset.garnet.mo fun e1 => { e1 with sto := false }) } }, aSafe, 0,
     by decide +kernel⟩⟩

theorem test_meets_commit_sequence :
    (∃ (s : State), s.mayCommit = true) ∧
    (∃ (s : State) (t0 : Nat), s.com.delay = some t0 ∧ s.n Fld.SERVICE_COMMITDLY 0 * 1000000000 ≤ s.up - t0 ∧ s.mayCommit = true) ∧
    (∃ (s : State) (t0 : Nat), s.com.delay = some t0 ∧ s.up - t0 < s.n Fld.SERVICE_COMMITDLY 0 * 1000000000) ∧
    (∃ (s : State) (x : ToStash) (rest : List ToStash), s.img.toStash = x :: rest ∧ s.rst.mgmtRun = true ∧ s.keysUsable = true ∧
      stashBytes (s.nor.stash s.stashHalf ++ [⟨x.cfgSeq, x.rec_.typ, x.rec_.inst, x.rec_.fields, true⟩]) ≤ 786432) ∧
    (∃ (s : State) (r : CommitRec), s.com.step = .snapshot ∧ s.com.owner = none ∧ s.nor.newest = some r) ∧
    (∃ (s : State), s.com.step = .erase) ∧
    (∃ (s : State), s.com.step = .write) ∧
    (∃ (s : State) (p : Package) (r : CommitRec), s.com.step = .readBack ∧ s.nor.bank s.com.target = some p ∧ s.nor.newest = some r ∧
      s.com.waiting = none ∧ s.com.archive = none) ∧
    (∃ (s : State), s.com.step = .readBack ∧ s.com.repeated = false) :=
  ⟨⟨{ State.reset with
       rst := { State.reset.rst with stage := 9, mgmtRun := true }, onyx := { State.reset.onyx with keys := true } }, by decide +kernel⟩,
   ⟨{ State.reset with
       com := { State.reset.com with delay := some 0 }, up := 1000000000000000, rst := { State.reset.rst with stage := 9, mgmtRun := true },
       onyx := { State.reset.onyx with keys := true } }, 0, by decide +kernel⟩,
   ⟨{ State.reset with com := { State.reset.com with delay := some 0 } }, 0, by decide +kernel⟩,
   ⟨{ State.reset with
       img := { State.reset.img with toStash := (aToStash :: ([])) }, rst := { State.reset.rst with mgmtRun := true },
       onyx := { State.reset.onyx with keys := true } }, aToStash, [], by decide +kernel⟩,
   ⟨{ State.reset with
       com := { State.reset.com with step := .snapshot, owner := none }, nor := { State.reset.nor with crs := [aCommit] } }, aCommit,
     by decide +kernel⟩,
   ⟨{ State.reset with com := { State.reset.com with step := .erase } }, by decide +kernel⟩,
   ⟨{ State.reset with com := { State.reset.com with step := .write } }, by decide +kernel⟩,
   ⟨{ State.reset with
       com := { State.reset.com with step := .readBack, waiting := none, archive := none },
       nor := { State.reset.nor with bankA := some aPkg, bankB := some aPkg, crs := [aCommit] } }, aPkg, aCommit, by decide +kernel⟩,
   ⟨{ State.reset with com := { State.reset.com with step := .readBack, repeated := false } }, by decide +kernel⟩⟩

theorem test_meets_shadow_slots :
    (∃ (s : State) (sl : Fin 2) (task : Byte) (kind : BitVec 2) (target : Fin 16) (k : ShadowKind), s.rst.stage = 9 ∧ (kind = 0 ∧
      k = .move ∨ kind = 1 ∧ k = .current ∨ kind = 2 ∧ k = .outer) ∧ s.shadowRefusal sl task.toNat k target = 0) ∧
    (∃ (s : State) (sl : Fin 2) (task : Byte) (kind : BitVec 2) (target : Fin 16) (k : ShadowKind), s.rst.stage = 9 ∧ (kind = 0 ∧
      k = .move ∨ kind = 1 ∧ k = .current ∨ kind = 2 ∧ k = .outer) ∧ s.shadowRefusal sl task.toNat k target ≠ 0) ∧
    (∃ (s : State) (sl : Fin 2), s.shadow[sl].state = .prep) ∧
    (∃ (s : State) (sl : Fin 2), s.shadow[sl].state = .ready) ∧
    (∃ (s : State) (sl : Fin 2), s.shadow[sl].state ≠ .ready) ∧
    (∃ (s : State) (sl : Fin 2), (s.shadow[sl].state = .prep ∨ s.shadow[sl].state = .shadow ∨ s.shadow[sl].state = .ready)) ∧
    (∃ (s : State) (sl : Fin 2), s.shadow[sl].state = .shadow ∧ s.shadow[sl].since + s.n Fld.SERVICE_SHTMAX 0 * 1000000000 ≤ s.up) ∧
    (∃ (s : State) (sl : Fin 2), (s.shadow[sl].state ≠ .shadow ∨ s.up < s.shadow[sl].since + s.n Fld.SERVICE_SHTMAX 0 * 1000000000)) ∧
    (∃ (s : State) (sl : Fin 2), s.up < s.shadow[sl].since + 20000) ∧
    (∃ (s : State) (sl : Fin 2), s.shadow[sl].state = .switch ∧ s.shadow[sl].since + 20000 ≤ s.up ∧
      (s.shadowTasks s.shadow[sl]).any s.moveRefused = true ∧ s.shadow[sl].tries < 99) ∧
    (∃ (s : State) (sl : Fin 2) (k : Fin 28), s.shadow[sl].state = .switch ∧ s.shadow[sl].since + 20000 ≤ s.up ∧
      s.shadow[sl].kind = .move ∧ s.shadow[sl].task = k.1 ∧ s.moveRefused k = false ∧ s.carriedBy sl = [] ∧ s.rst.mgmtRun = true) :=
  ⟨⟨{ State.reset with rst := { State.reset.rst with stage := 9 } }, 0, 0, 0, 0, .move, by decide +kernel⟩,
   ⟨{ State.reset with
       rst := { State.reset.rst with stage := 9 }, shadow := (every State.reset.shadow fun e1 => { e1 with state := .ready }) }, 0, 0, 0, 0,
     .move, by decide +kernel⟩,
   ⟨{ State.reset with shadow := (every State.reset.shadow fun e1 => { e1 with state := .prep }) }, 0, by decide +kernel⟩,
   ⟨{ State.reset with shadow := (every State.reset.shadow fun e1 => { e1 with state := .ready }) }, 0, by decide +kernel⟩,
   ⟨State.reset, 0, by decide +kernel⟩,
   ⟨{ State.reset with shadow := (every State.reset.shadow fun e1 => { e1 with state := .prep }) }, 0, by decide +kernel⟩,
   ⟨{ State.reset with
       shadow := (every State.reset.shadow fun e1 => { e1 with state := .shadow }), up := 1000000000000000 }, 0, by decide +kernel⟩,
   ⟨State.reset, 0, by decide +kernel⟩,
   ⟨State.reset, 0, by decide +kernel⟩,
   ⟨{ State.reset with
       shadow := (every State.reset.shadow fun e1 => { e1 with state := .switch }), up := 1000000000000000,
       fab := { State.reset.fab with flows := (every State.reset.fab.flows fun e1 => { e1 with frozen := true, prod := 0 }) } }, 0,
     by decide +kernel⟩,
   ⟨{ State.reset with
       shadow := (every State.reset.shadow fun e1 => { e1 with state := .switch, kind := .move, task := 0 }),
       rst := { State.reset.rst with mgmtRun := true }, up := 1000000000000000 }, 0, 0, by decide +kernel⟩⟩

theorem test_meets_firmware_and_availability :
    (∃ (s : State) (sess : Nat) (p : FwPackage), s.rst.mgmtRun = true ∧ s.session sess = true ∧ s.keysUsable = true ∧
      s.onyx.sealed_ = false ∧ p.sigOk = true ∧ p.chainOk = true ∧ (s.yes Fld.SECURITY_FWOWNERSIG 0 = true → p.ownerOk = true) ∧
      s.onyx.fwMin.toNat ≤ p.version.toNat ∧ s.fw.step = .idle ∧ s.fw.trial = false ∧ s.fw.oldCode = []) ∧
    (∃ (s : State) (sess : Nat) (p : FwPackage), s.rst.mgmtRun = true ∧ s.session sess = true ∧
      (s.keysUsable = false ∨ s.onyx.sealed_ = true ∨ p.sigOk = false ∨ p.chainOk = false ∨ (s.yes Fld.SECURITY_FWOWNERSIG 0 = true ∧
      p.ownerOk = false) ∨ p.version.toNat < s.onyx.fwMin.toNat)) ∧
    (∃ (s : State) (p : FwPackage), s.fw.step = .writing ∧ s.fw.pkg = some p) ∧
    (∃ (s : State), s.fw.step = .writing ∧ s.fw.repeated = false) ∧
    (∃ (s : State), s.fw.step = .writing ∧ s.fw.repeated = true) ∧
    (∃ (s : State), s.fw.step = .waiting ∧ s.com.step = .idle ∧ s.rst.mgmtRun = true) ∧
    (∃ (s : State), s.fw.trial = true ∧ s.rst.mgmtRun = false ∧ s.fw.since + 2000000000 ≤ s.up) ∧
    (∃ (s : State), s.up < s.fw.since + 2000000000) ∧
    (∃ (s : State), s.fw.step = .probation ∧ s.rst.mgmtRun = true ∧ s.com.again = false ∧
      s.fw.since + s.n Fld.SERVICE_FWPROB 0 * 1000000000 ≤ s.up) ∧
    (∃ (s : State), s.fw.step = .probation) ∧
    (∃ (s : State), s.rst.stage = 9 ∧ s.av.insvc + 1 < 18446744073709551616 ∧ s.av.lost + 1 < 4294967296 ∧
      s.av.excl + 1 < 4294967296000 ∧ s.av.void + 1 < 4294967296000) ∧
    (∃ (s : State), s.rst.stage = 9 ∧ s.voidCause ≠ 0 ∧ s.av.void + 1 = 4294967296000) ∧
    (∃ (s : State), s.rst.stage < 9) ∧
    (∃ (s : State), s.rst.stage = 9) :=
  ⟨⟨{ State.reset with
       rst := { State.reset.rst with mgmtRun := true },
       onyx := { State.reset.onyx with sessions := [⟨0, 0, 0, 0⟩], keys := true, sealed_ := false },
       fw := { State.reset.fw with step := .idle, trial := false, oldCode := [] },
       used := [(fieldKey Fld.SECURITY_FWOWNERSIG 0 0 0, .num 0)] }, 0, { aFw with sigOk := true, chainOk := true }, by decide +kernel⟩,
   ⟨{ State.reset with
       rst := { State.reset.rst with mgmtRun := true }, onyx := { State.reset.onyx with sessions := [⟨0, 0, 0, 0⟩] } }, 0, aFw,
     by decide +kernel⟩,
   ⟨{ State.reset with fw := { State.reset.fw with step := .writing, pkg := (some aFw) } }, aFw, by decide +kernel⟩,
   ⟨{ State.reset with fw := { State.reset.fw with step := .writing, repeated := false } }, by decide +kernel⟩,
   ⟨{ State.reset with fw := { State.reset.fw with step := .writing, repeated := true } }, by decide +kernel⟩,
   ⟨{ State.reset with
       fw := { State.reset.fw with step := .waiting }, com := { State.reset.com with step := .idle },
       rst := { State.reset.rst with mgmtRun := true } }, by decide +kernel⟩,
   ⟨{ State.reset with
       fw := { State.reset.fw with trial := true }, rst := { State.reset.rst with mgmtRun := false }, up := 1000000000000000 },
     by decide +kernel⟩,
   ⟨State.reset, by decide +kernel⟩,
   ⟨{ State.reset with
       fw := { State.reset.fw with step := .probation }, rst := { State.reset.rst with mgmtRun := true },
       com := { State.reset.com with again := false }, up := 1000000000000000 }, by decide +kernel⟩,
   ⟨{ State.reset with fw := { State.reset.fw with step := .probation } }, by decide +kernel⟩,
   ⟨{ State.reset with rst := { State.reset.rst with stage := 9 } }, by decide +kernel⟩,
   ⟨{ State.reset with
       rst := { State.reset.rst with stage := 9, low := 1 }, av := { State.reset.av with void := 4294967295999 } }, by decide +kernel⟩,
   ⟨State.reset, by decide +kernel⟩,
   ⟨{ State.reset with rst := { State.reset.rst with stage := 9 } }, by decide +kernel⟩⟩

theorem test_meets_ownership_and_keys :
    (∃ (s : State) (acc : Nat), s.onyxUp = true ∧ s.onyx.rngFlt = false) ∧
    (∃ (s : State) (w : Vector Word 4) (t0 : Nat), s.onyx.nonce = some (w, t0) ∧ t0 + 600000000000 ≤ s.up) ∧
    (∃ (s : State) (w : Vector Word 4) (t0 : Nat), s.onyx.nonce = some (w, t0) ∧ s.up < t0 + 600000000000) ∧
    (∃ (s : State) (st : EnrolStmt) (at_ : Nat), s.onyxUp = true ∧ s.keysUsable = true ∧ s.onyx.owned = false ∧ st.magicOk = true ∧
      st.serial = Config.devsn ∧ s.onyx.nonce = some (st.nonce, at_) ∧ s.up < at_ + 600000000000 ∧ st.sigOk = true ∧
      s.certGood st.cert = true ∧ st.hash = st.cert.hash ∧ st.signer = st.cert.key) ∧
    (∃ (s : State) (st : EnrolStmt) (at_ : Nat), s.onyxUp = true ∧ s.keysUsable = true ∧ s.onyx.owned = true ∧ st.magicOk = true ∧
      st.serial = Config.devsn ∧ s.onyx.nonce = some (st.nonce, at_) ∧ s.up < at_ + 600000000000 ∧ st.sigOk = true ∧
      s.certGood st.cert = true ∧ st.hash = st.cert.hash ∧ st.signer = s.onyx.ownerKey) ∧
    (∃ (s : State) (st : EnrolStmt) (w : Vector Word 4) (t0 : Nat), s.onyxUp = true ∧ s.onyx.nonce = some (w, t0) ∧
      (t0 + 600000000000 ≤ s.up ∨ w ≠ st.nonce)) ∧
    (∃ (s : State) (st : EnrolStmt), s.onyxUp = true ∧ s.onyx.owned = true ∧ st.signer ≠ s.onyx.ownerKey ∧ s.onyx.release = none) ∧
    (∃ (s : State) (st : ReleaseStmt) (at_ : Nat), s.onyxUp = true ∧ s.keysUsable = true ∧ s.onyx.owned = true ∧ s.onyx.sealed_ = false ∧
      st.magicOk = true ∧ st.serial = Config.devsn ∧ s.onyx.nonce = some (st.nonce, at_) ∧ s.up < at_ + 600000000000 ∧ st.sigOk = true ∧
      st.signer = s.onyx.ownerKey) ∧
    (∃ (s : State) (h : List Byte) (t0 : Nat), s.onyx.release = some (h, t0) ∧ t0 + 3600000000000 ≤ s.up) ∧
    (∃ (s : State), s.onyxUp = true ∧ s.onyx.keys = false ∧ s.onyx.zeroing = false ∧ s.onyx.rngFlt = false ∧ s.onyx.zepoch < 64) ∧
    (∃ (s : State), s.onyxUp = true ∧ 64 ≤ s.onyx.zepoch) ∧
    (∃ (s : State), s.onyxUp = true ∧ s.onyx.provGen = true) ∧
    (∃ (s : State), s.onyxUp = true) ∧
    (∃ (s : State) (sess : Nat), s.session sess = true) ∧
    (∃ (s : State), s.onyxUp = true ∧ s.onyx.rngFlt = false) :=
  ⟨⟨{ State.reset with
       rst := { State.reset.rst with stage := 9 }, onyx := { State.reset.onyx with rngFlt := false } }, 0, by decide +kernel⟩,
   ⟨{ State.reset with
       onyx := { State.reset.onyx with nonce := some (tbl 4 0, 0) }, up := 1000000000000000 }, tbl 4 0, 0, by decide +kernel⟩,
   ⟨{ State.reset with onyx := { State.reset.onyx with nonce := some (tbl 4 0, 0) } }, tbl 4 0, 0, by decide +kernel⟩,
   ⟨{ State.reset with
       onyx := { State.reset.onyx with owned := false, nonce := some (anEnrol.nonce, 0), keys := true },
       rst := { State.reset.rst with stage := 9 } }, anEnrol, 0,
     by refine ⟨?_, ?_, ?_, ?_, ?_, ?_, ?_, ?_, ?_, ?_, ?_⟩ <;> first | rfl | decide +kernel⟩,
   ⟨{ State.reset with
       onyx := { State.reset.onyx with owned := true, nonce := some (anEnrol.nonce, 0), keys := true, ownerKey := 7 },
       rst := { State.reset.rst with stage := 9 } }, anEnrol, 0,
     by refine ⟨?_, ?_, ?_, ?_, ?_, ?_, ?_, ?_, ?_, ?_, ?_⟩ <;> first | rfl | decide +kernel⟩,
   ⟨{ State.reset with
       onyx := { State.reset.onyx with nonce := some (tbl 4 0, 0) }, up := 1000000000000000, rst := { State.reset.rst with stage := 9 } },
     anEnrol, tbl 4 0, 0, by decide +kernel⟩,
   ⟨{ State.reset with
       rst := { State.reset.rst with stage := 9 }, onyx := { State.reset.onyx with owned := true, release := none } }, anEnrol,
     by decide +kernel⟩,
   ⟨{ State.reset with
       onyx := { State.reset.onyx with owned := true, sealed_ := false, nonce := some (aRelease.nonce, 0), keys := true, ownerKey := 7 },
       rst := { State.reset.rst with stage := 9 } }, aRelease, 0,
     by refine ⟨?_, ?_, ?_, ?_, ?_, ?_, ?_, ?_, ?_, ?_⟩ <;> first | rfl | decide +kernel⟩,
   ⟨{ State.reset with onyx := { State.reset.onyx with release := some ([], 0) }, up := 1000000000000000 }, [], 0, by decide +kernel⟩,
   ⟨{ State.reset with
       rst := { State.reset.rst with stage := 9 }, onyx := { State.reset.onyx with keys := false, zeroing := false, rngFlt := false } },
     by decide +kernel⟩,
   ⟨{ State.reset with rst := { State.reset.rst with stage := 9 }, onyx := { State.reset.onyx with zepoch := 64 } }, by decide +kernel⟩,
   ⟨{ State.reset with rst := { State.reset.rst with stage := 9 }, onyx := { State.reset.onyx with provGen := true } }, by decide +kernel⟩,
   ⟨{ State.reset with rst := { State.reset.rst with stage := 9 } }, by decide +kernel⟩,
   ⟨{ State.reset with onyx := { State.reset.onyx with sessions := [⟨0, 0, 0, 0⟩] } }, 0, by decide +kernel⟩,
   ⟨{ State.reset with rst := { State.reset.rst with stage := 9 }, onyx := { State.reset.onyx with rngFlt := false } }, by decide +kernel⟩⟩

theorem test_meets_debug_and_tamper :
    (∃ (s : State) (k : DebugToken) (at_ : Nat), s.onyxUp = true ∧ s.keysUsable = true ∧ s.onyx.owned = true ∧ s.onyx.sealed_ = false ∧
      k.magicOk = true ∧ k.serial = Config.devsn ∧ s.onyx.nonce = some (k.nonce, at_) ∧ s.up < at_ + 600000000000 ∧ k.sigOk = true ∧
      k.scope.toNat < 4 ∧ 1 ≤ k.minutes ∧ k.minutes ≤ 1440 ∧ (k.scope.getLsbD 1 = true → s.anyGate = false)) ∧
    (∃ (s : State) (k : DebugToken), s.onyxUp = true ∧
      (s.onyx.sealed_ = true ∨ k.sigOk = false ∨ 4 ≤ k.scope.toNat ∨ (k.scope.getLsbD 1 = true ∧ s.anyGate = true))) ∧
    (∃ (s : State), s.onyx.dbg.isSome = true) ∧
    (∃ (s : State) (a : Bool) (b : Bool) (t0 : Nat), s.onyx.dbg = some (a, b, t0) ∧ s.up < t0) ∧
    (∃ (s : State) (a : Bool) (b : Bool) (t0 : Nat), s.onyx.dbg = some (a, b, t0) ∧ t0 ≤ s.up) ∧
    (∃ (s : State) (x : Fin 4), s.rst.held = false ∧ 4 ≤ s.rst.stage) ∧
    (∃ (s : State) (x : Fin 4), (s.rst.held = true ∨ s.rst.stage < 4)) ∧
    (∃ (s : State), s.onyx.zcellDue = true) ∧
    (∃ (s : State), s.onyx.zeroing = true) ∧
    (∃ (s : State), (∀ d, s.onyx.dbg = some d → d.1 = false)) ∧
    (∃ (s : State) (b : BallGroup), s.scanDrives b = true) :=
  ⟨⟨{ State.reset with
       onyx := { State.reset.onyx with owned := true, sealed_ := false, nonce := some (aToken.nonce, 0), keys := true },
       rst := { State.reset.rst with stage := 9 } }, aToken, 0,
     by refine ⟨?_, ?_, ?_, ?_, ?_, ?_, ?_, ?_, ?_, ?_, ?_, ?_, ?_⟩ <;> first | rfl | decide +kernel⟩,
   ⟨{ State.reset with
       rst := { State.reset.rst with stage := 9 }, onyx := { State.reset.onyx with sealed_ := true } }, aToken, by decide +kernel⟩,
   ⟨{ State.reset with onyx := { State.reset.onyx with dbg := some default } }, by decide +kernel⟩,
   ⟨{ State.reset with onyx := { State.reset.onyx with dbg := some (false, false, 1) } }, false, false, 1, by decide +kernel⟩,
   ⟨{ State.reset with onyx := { State.reset.onyx with dbg := some (false, false, 0) } }, false, false, 0, by decide +kernel⟩,
   ⟨{ State.reset with rst := { State.reset.rst with held := false, stage := 4 } }, 0, by decide +kernel⟩,
   ⟨{ State.reset with rst := { State.reset.rst with held := true } }, 0, by decide +kernel⟩,
   ⟨{ State.reset with onyx := { State.reset.onyx with zcellDue := true } }, by decide +kernel⟩,
   ⟨{ State.reset with onyx := { State.reset.onyx with zeroing := true } }, by decide +kernel⟩,
   ⟨State.reset, by decide +kernel⟩,
   ⟨{ State.reset with
       tap := { State.reset.tap with instr := .extest }, onyx := { State.reset.onyx with dbg := some (true, false, 0) } }, .other,
     by decide +kernel⟩⟩

theorem test_meets_sessions :
    (∃ (s : State) (addr : Nat), s.rst.mgmtRun = true ∧ s.onyxUp = true ∧ s.tlsBlocked addr = false ∧ s.onyx.sessions.length < 8 ∧
      s.keysUsable = true ∧ s.onyx.owned = true ∧ s.onyx.rngFlt = false) ∧
    (∃ (s : State) (addr : Nat) (a : Byte), s.rst.mgmtRun = true ∧ s.onyxUp = true ∧ s.tlsBlocked addr = false) ∧
    (∃ (s : State) (addr : Nat), s.rst.mgmtRun = true ∧ s.onyxUp = true ∧ s.tlsBlocked addr = false ∧ s.onyx.sessions.length = 8) ∧
    (∃ (s : State) (addr : Nat) (alert : Option Byte), s.tlsBlocked addr = true) ∧
    (∃ (s : State) (sess : Nat), (∃ x ∈ s.onyx.sessions, x.id = sess ∧ x.opened + 86400000000000 ≤ s.up)) :=
  ⟨⟨{ State.reset with
       rst := { State.reset.rst with mgmtRun := true, stage := 9 },
       onyx := { State.reset.onyx with keys := true, owned := true, rngFlt := false } }, 0, by decide +kernel⟩,
   ⟨{ State.reset with rst := { State.reset.rst with mgmtRun := true, stage := 9 } }, 0, 0, by decide +kernel⟩,
   ⟨{ State.reset with
       rst := { State.reset.rst with mgmtRun := true, stage := 9 },
       onyx := { State.reset.onyx with sessions := [⟨0, 0, 0, 0⟩, ⟨1, 0, 0, 0⟩, ⟨2, 0, 0, 0⟩, ⟨3, 0, 0, 0⟩, ⟨4, 0, 0, 0⟩, ⟨5, 0, 0, 0⟩, ⟨6, 0, 0, 0⟩, ⟨7, 0, 0, 0⟩] } },
     0, by decide +kernel⟩,
   ⟨{ State.reset with onyx := { State.reset.onyx with blocked := [⟨0, 0⟩] } }, 0, none, by decide +kernel⟩,
   ⟨{ State.reset with up := 1000000000000000, onyx := { State.reset.onyx with sessions := [⟨0, 0, 0, 0⟩] } }, 0, by decide +kernel⟩⟩

theorem test_meets_fabric_posts_and_pops :
    (∃ (s : State) (port : Fin 64) (f : Fin 256) (len : Fin 4) (epoch : BitVec 8) (b : List Byte), s.fab.flows[f].takesFrom port = true ∧
      heldBack s.fab.waiting port f false = false ∧ len.1 + 1 ≤ s.fab.flows[f].free ∧ s.fenceOpen port = false ∧
      (∀ i ∈ s.fab.flows[f].items, i.epoch = s.fab.flows[f].epoch) ∧ epoch = s.fab.flows[f].epoch) ∧
    (∃ (s : State) (port : Fin 64) (f : Fin 256) (len : Fin 4) (fence : Bool) (epoch : BitVec 8) (b : List Byte),
      s.fab.flows[f].takesFrom port = false ∧ s.awaitsMove port f = false) ∧
    (∃ (s : State) (port : Fin 64) (f : Fin 256) (len : Fin 4) (fence : Bool) (epoch : BitVec 8) (b : List Byte),
      s.fab.flows[f].takesFrom port = false ∧ s.awaitsMove port f = true) ∧
    (∃ (s : State) (port : Fin 64) (f : Fin 256) (len : Fin 4) (epoch : BitVec 8) (b : List Byte), s.fab.flows[f].takesFrom port = true ∧
      heldBack s.fab.waiting port f false = false ∧ s.fab.flows[f].free < len.1 + 1) ∧
    (∃ (s : State) (g : Fin 256) (p : Post), s.fab.waiting = [p] ∧ s.fab.flows[p.flow].takesFrom p.port = true ∧ p.item.fence = false ∧
      p.item.len ≤ s.fab.flows[p.flow].free ∧ s.fenceOpen p.port = false ∧ p.item.epoch = s.fab.flows[p.flow].epoch ∧
      (∀ i ∈ s.fab.flows[p.flow].items, i.epoch = s.fab.flows[p.flow].epoch)) ∧
    (∃ (s : State) (port : Fin 64) (f : Fin 256) (i : Item) (rest : List Item), s.fab.flows[f].plane ≠ .unconf ∧
      s.fab.flows[f].frozen = false ∧ s.fab.flows[f].cons = port ∧ port.1 ≠ 63 ∧ s.fab.flows[f].items = i :: rest ∧
      s.fab.flows[f].held = none ∧ (∀ x ∈ rest, x.epoch = s.fab.flows[f].epoch)) ∧
    (∃ (s : State) (port : Fin 64) (f : Fin 256) (i : Item) (rest : List Item), s.fab.flows[f].plane ≠ .unconf ∧
      s.fab.flows[f].frozen = false ∧ s.fab.flows[f].cons = port ∧ port.1 ≠ 63 ∧ s.fab.flows[f].items = i :: rest) ∧
    (∃ (s : State) (port : Fin 64) (f : Fin 256) (ecc : BitVec 2), s.fab.flows[f].items = []) ∧
    (∃ (s : State) (port : Fin 64) (f : Fin 256) (i : Item), s.fab.flows[f].cons = port ∧ s.fab.flows[f].held = some i) :=
  ⟨⟨{ State.reset with
       fab := { State.reset.fab with flows := (every State.reset.fab.flows fun e1 => { e1 with plane := .fast, free := 8, depth := 8, prod := 0 }) } },
     0, 0, 0, 0, [], by decide +kernel⟩,
   ⟨State.reset, 0, 0, 0, false, 0, [], by decide +kernel⟩,
   ⟨{ State.reset with
       fab := { State.reset.fab with flows := (every State.reset.fab.flows fun e1 => { e1 with plane := .fast, prod := 1, depth := 8 }), moves := [⟨0, 0⟩] } },
     0, 16, 0, false, 0, [], by decide +kernel⟩,
   ⟨{ State.reset with
       fab := { State.reset.fab with flows := (every State.reset.fab.flows fun e1 => { e1 with plane := .fast, free := 0, depth := 8, prod := 0 }) } },
     0, 0, 0, 0, [], by decide +kernel⟩,
   ⟨{ State.reset with
       fab := { State.reset.fab with waiting := [aPost], flows := (every State.reset.fab.flows fun e1 => { e1 with free := 8, plane := .fast, depth := 8, prod := 0 }) } },
     0, aPost, by decide +kernel⟩,
   ⟨{ State.reset with
       fab := { State.reset.fab with flows := (every State.reset.fab.flows fun e1 => { e1 with frozen := false, cons := 0, items := (anItem :: ([])), held := none, plane := .fast, free := 8, depth := 8, prod := 0 }) } },
     0, 0, anItem, [], by decide +kernel⟩,
   ⟨{ State.reset with
       fab := { State.reset.fab with flows := (every State.reset.fab.flows fun e1 => { e1 with frozen := false, cons := 0, items := (anItem :: ([])), plane := .fast, free := 8, depth := 8, prod := 0 }) } },
     0, 0, anItem, [], by decide +kernel⟩,
   ⟨{ State.reset with
       fab := { State.reset.fab with flows := (every State.reset.fab.flows fun e1 => { e1 with items := [] }) } }, 0, 0, 0,
     by decide +kernel⟩,
   ⟨{ State.reset with
       fab := { State.reset.fab with flows := (every State.reset.fab.flows fun e1 => { e1 with cons := 0, held := (some anItem) }) } }, 0,
     0, anItem, by decide +kernel⟩⟩

theorem test_meets_credits_conserved :
    (∃ (s : State) (port : Fin 64) (f : Fin 256) (len : Fin 4) (fence : Bool) (epoch : BitVec 8) (b : List Byte), (∀ f : Fin 256,
      s.fab.flows[f].balanced)) ∧
    (∃ (s : State) (g : Fin 256), (∀ f : Fin 256, s.fab.flows[f].balanced)) ∧
    (∃ (s : State) (port : Fin 64) (f : Fin 256) (ecc : BitVec 2), (∀ f : Fin 256, s.fab.flows[f].balanced)) ∧
    (∃ (s : State) (port : Fin 64) (f : Fin 256), (∀ f : Fin 256, s.fab.flows[f].balanced)) ∧
    (∃ (s : State) (f : Fin 256), (∀ f : Fin 256, s.fab.flows[f].balanced)) ∧
    (∃ (s : State) (f : Fin 256) (len : Fin 4) (fence : Bool) (epoch : BitVec 8) (b : List Byte), (∀ f : Fin 256, s.fab.flows[f].balanced)) :=
  ⟨⟨State.reset, 0, 0, 0, false, 0, [], by simp only [Flow.balanced, Flow.law]; decide +kernel⟩,
   ⟨State.reset, 0, by simp only [Flow.balanced, Flow.law]; decide +kernel⟩,
   ⟨State.reset, 0, 0, 0, by simp only [Flow.balanced, Flow.law]; decide +kernel⟩,
   ⟨State.reset, 0, 0, by simp only [Flow.balanced, Flow.law]; decide +kernel⟩,
   ⟨State.reset, 0, by simp only [Flow.balanced, Flow.law]; decide +kernel⟩,
   ⟨State.reset, 0, 0, false, 0, [], by simp only [Flow.balanced, Flow.law]; decide +kernel⟩⟩

theorem test_meets_fences_and_tracker :
    (∃ (s : State) (f : Fin 256) (it : Item), s.fab.flows[f].ingress = [it] ∧ it.fence = true ∧ (∀ x ∈ s.fab.txns,
      x.write = true → it.seq.toNat ≤ x.id ∨ (x.req ≠ s.fab.flows[f].prod ∧ x.req ≠ s.fab.flows[f].prod2)) ∧ s.fab.waiting = [] ∧
      (∀ i ∈ s.fab.flows[f].items, i.epoch = s.fab.flows[f].epoch) ∧ it.epoch = s.fab.flows[f].epoch) ∧
    (∃ (s : State) (f : Fin 256) (it : Item) (rest : List Item) (x : Txn), s.fab.flows[f].ingress = it :: rest ∧ x ∈ s.fab.txns ∧
      x.write = true ∧ x.id < it.seq.toNat ∧ (x.req = s.fab.flows[f].prod ∨ x.req = s.fab.flows[f].prod2)) ∧
    (∃ (s : State) (port : Fin 64) (f : Fin 256) (epoch : BitVec 8) (b : List Byte), s.fab.flows[f].takesFrom port = true ∧
      valueStream port = false ∧ s.fenceOpen port = true) ∧
    (∃ (s : State) (req : Fin 64) (write : Bool), s.fab.mayIssue req = true ∧ s.fab.stalled.any (fun x => x.req == req.1) = false) ∧
    (∃ (s : State) (req : Fin 64) (write : Bool), txnQuota req ≠ 0 ∧ s.fab.mayIssue req = false) ∧
    (∃ (s : State) (id : Nat), s.fab.stalled = []) ∧
    (∃ (s : State) (id : Nat) (x : Txn), s.fab.txns.find? (fun y => y.id == id) = some x ∧ x.frame = none ∧ s.fab.stalled = []) :=
  ⟨⟨{ State.reset with
       fab := { State.reset.fab with waiting := [], flows := (every State.reset.fab.flows fun e1 => { e1 with ingress := [{ anItem with fence := true }] }) } },
     0, { anItem with fence := true }, by decide +kernel⟩,
   ⟨{ State.reset with
       fab := { State.reset.fab with flows := (every State.reset.fab.flows fun e1 => { e1 with ingress := [{ anItem with seq := 9 }], prod := 0 }), txns := [{ aTxn with id := 1, req := 0, write := true }] } },
     0, { anItem with seq := 9 }, [], { aTxn with id := 1, req := 0, write := true }, by decide +kernel⟩,
   ⟨{ State.reset with
       fab := { State.reset.fab with flows := (every State.reset.fab.flows fun e1 => { e1 with plane := .fast, prod := 0, ingress := [{ anItem with fence := true }] }) } },
     0, 0, 0, [], by decide +kernel⟩,
   ⟨State.reset, 0, false, by decide +kernel⟩,
   ⟨{ State.reset with fab := { State.reset.fab with badReq := [0] } }, 0, false, by decide +kernel⟩,
   ⟨{ State.reset with fab := { State.reset.fab with stalled := [] } }, 0, by decide +kernel⟩,
   ⟨{ State.reset with fab := { State.reset.fab with stalled := [], txns := [aTxn] } }, 0, { aTxn with frame := none }, by decide +kernel⟩⟩

theorem test_meets_moves_and_checks :
    (∃ (s : State) (k : Fin 28) (v : Move), s.fab.moves.find? (fun v => v.task == k) = some v ∧ s.moveRefused k = true) ∧
    (∃ (s : State) (k : Fin 28) (v : Move), s.fab.moves.find? (fun v => v.task == k) = some v ∧ s.moveRefused k = false) ∧
    (∃ (s : State) (k : Fin 28) (p : Nat), s.fab.oldPort[k] = some p) ∧
    (∃ (s : State) (u : FlowUpset), s.fab.run = true ∧ u.tracker = false ∧ s.fab.flows[u.index].plane = .fast ∧
      s.fab.flows[u.index].frozen = false ∧ u.free + u.buf + u.infl ≠ s.fab.flows[u.index].depth) ∧
    (∃ (s : State), (∀ f : Fin 256, s.fab.flows[f].plane = .unconf ∨ s.fab.flows[f].frozen = true ∨ s.fab.flows[f].law)) ∧
    (∃ (s : State) (u : FlowUpset), u.tracker = false ∧ s.fab.flows[u.index].plane = .fast ∧ s.fab.flows[u.index].frozen = false) ∧
    (∃ (s : State) (f : Fin 256), s.fab.flows[f].frozen = true ∧ s.fab.flows[f].plane ≠ .mgmt ∧ s.flowIdle f = true) ∧
    (∃ (s : State) (f : Fin 256), (s.fab.flows[f].frozen = false ∨ s.fab.flows[f].plane = .mgmt ∨ s.flowIdle f = false)) :=
  ⟨⟨{ State.reset with
       fab := { State.reset.fab with moves := [⟨0, 1⟩], flows := (every State.reset.fab.flows fun e1 => { e1 with frozen := true, prod := 0 }) } },
     0, ⟨0, 1⟩, by decide +kernel⟩,
   ⟨{ State.reset with fab := { State.reset.fab with moves := [⟨0, 1⟩] } }, 0, ⟨0, 1⟩, by decide +kernel⟩,
   ⟨{ State.reset with
       fab := { State.reset.fab with oldPort := (every State.reset.fab.oldPort fun _ => (some 0)) } }, 0, 0, by decide +kernel⟩,
   ⟨{ State.reset with
       fab := { State.reset.fab with run := true, flows := (every State.reset.fab.flows fun e1 => { e1 with plane := .fast, frozen := false }) } },
     { anUpset with free := 9 }, by decide +kernel⟩,
   ⟨State.reset, by simp only [Flow.law]; decide +kernel⟩,
   ⟨{ State.reset with
       fab := { State.reset.fab with flows := (every State.reset.fab.flows fun e1 => { e1 with plane := .fast, frozen := false }) } },
     { anUpset with tracker := false }, by decide +kernel⟩,
   ⟨{ State.reset with
       fab := { State.reset.fab with flows := (every State.reset.fab.flows fun e1 => { e1 with frozen := true }) } }, 0, by decide +kernel⟩,
   ⟨{ State.reset with
       fab := { State.reset.fab with flows := (every State.reset.fab.flows fun e1 => { e1 with frozen := false }) } }, 0, by decide +kernel⟩⟩

theorem test_meets_host_mode_and_fences :
    (∃ (s : State), s.rst.held = false) ∧
    (∃ (s : State) (tok : Word), s.fab.run = true) ∧
    (∃ (s : State) (tok : Word) (l : List Word), s.fab.hostToks = tok :: l ∧ s.rst.mgmtRun = true ∧ (∀ f ∈ lanes,
      (untilFence s.fab.flows[f].items).isSome = true)) ∧
    (∃ (s : State) (f : Fin 256) (len : Fin 4) (fence : Bool) (epoch : BitVec 8) (b : List Byte), s.fab.mode = false) ∧
    (∃ (s : State) (f : Fin 256), s.fab.mode = false) ∧
    (∃ (s : State) (f : Fin 256) (len : Fin 4) (fence : Bool) (epoch : BitVec 8) (b : List Byte), s.fab.mode = true) :=
  ⟨⟨{ State.reset with rst := { State.reset.rst with held := false } }, by decide +kernel⟩,
   ⟨{ State.reset with fab := { State.reset.fab with run := true } }, 0, by decide +kernel⟩,
   ⟨{ State.reset with
       fab := { State.reset.fab with hostToks := (0 :: ([])), flows := (every State.reset.fab.flows fun e1 => { e1 with items := [{ anItem with fence := true }] }) },
       rst := { State.reset.rst with mgmtRun := true } }, 0, [], by decide +kernel⟩,
   ⟨{ State.reset with fab := { State.reset.fab with mode := false } }, 0, 0, false, 0, [], by decide +kernel⟩,
   ⟨{ State.reset with fab := { State.reset.fab with mode := false } }, 0, by decide +kernel⟩,
   ⟨{ State.reset with fab := { State.reset.fab with mode := true } }, 0, 0, false, 0, [], by decide +kernel⟩⟩

theorem test_meets_mailbox_messages :
    (∃ (s : State) (blk : BitVec 16) (seq : Word) (v : Word) (m : Fin 4), s.mailFresh blk.toNat seq = true) ∧
    (∃ (s : State) (blk : BitVec 16) (seq : Word) (m : Fin 4) (b : Byte), s.mailFresh blk.toNat seq = true ∧ b.getLsbD 3 = true) ∧
    (∃ (s : State) (blk : BitVec 16) (seq : Word) (m : Fin 4) (b : Byte), s.mailFresh blk.toNat seq = true ∧ b.getLsbD 3 = false ∧
      b.getLsbD 2 = true) ∧
    (∃ (s : State) (blk : BitVec 16) (seq : Word) (m : Fin 4), s.mailFresh blk.toNat seq = true) ∧
    (∃ (s : State) (blk : BitVec 16) (seq : Word) (addr : Word) (v : Word), s.mailFresh blk.toNat seq = true) ∧
    (∃ (s : State) (blk : BitVec 16) (seq : Word) (addr : Word) (count : Word), s.mailFresh blk.toNat seq = true ∧
      (count = 0 ∨ 12 < count.toNat) ∧ (s.fab.mbox.image.map Prod.fst).Pairwise (· < ·)) ∧
    (∃ (s : State) (blk : BitVec 16) (seq : Word) (typ : BitVec 16), s.mailFresh blk.toNat seq = true) ∧
    (∃ (s : State) (blk : BitVec 16) (seq : Word) (a : Word) (b : Word) (mo : Byte) (c : Byte) (typ : BitVec 16),
      s.mailFresh blk.toNat seq = false) ∧
    (∃ (s : State), s.fab.mode = true ∧ s.rst.mgmtRun = true) ∧
    (∃ (s : State), (s.fab.mode = false ∨ s.rst.mgmtRun = false)) :=
  ⟨⟨{ State.reset with
       fab := { State.reset.fab with mode := true }, rst := { State.reset.rst with mgmtRun := true } }, 0, 0, 0, 0, by decide +kernel⟩,
   ⟨{ State.reset with
       fab := { State.reset.fab with mode := true }, rst := { State.reset.rst with mgmtRun := true } }, 0, 0, 0, 8, by decide +kernel⟩,
   ⟨{ State.reset with
       fab := { State.reset.fab with mode := true }, rst := { State.reset.rst with mgmtRun := true } }, 0, 0, 0, 4, by decide +kernel⟩,
   ⟨{ State.reset with
       fab := { State.reset.fab with mode := true }, rst := { State.reset.rst with mgmtRun := true } }, 0, 0, 0, by decide +kernel⟩,
   ⟨{ State.reset with
       fab := { State.reset.fab with mode := true }, rst := { State.reset.rst with mgmtRun := true } }, 0, 0, 0, 0, by decide +kernel⟩,
   ⟨{ State.reset with
       fab := { State.reset.fab with mode := true }, rst := { State.reset.rst with mgmtRun := true } }, 0, 0, 0, 0, by decide +kernel⟩,
   ⟨{ State.reset with
       fab := { State.reset.fab with mode := true }, rst := { State.reset.rst with mgmtRun := true } }, 0, 0, 0, by decide +kernel⟩,
   ⟨State.reset, 0, 0, 0, 0, 0, 0, 0, by decide +kernel⟩,
   ⟨{ State.reset with fab := { State.reset.fab with mode := true }, rst := { State.reset.rst with mgmtRun := true } }, by decide +kernel⟩,
   ⟨{ State.reset with fab := { State.reset.fab with mode := false } }, by decide +kernel⟩⟩

theorem test_meets_register_writes :
    (∃ (s : State) (acc : Nat) (m : Fin 4) (v : Word), s.busOpen acc = true) ∧
    (∃ (s : State) (acc : Nat) (m : Fin 4), s.busOpen acc = true) ∧
    (∃ (s : State) (acc : Nat) (k : Fin 8), s.busOpen acc = true) ∧
    (∃ (s : State) (acc : Nat), s.busOpen acc = true) ∧
    (∃ (s : State) (acc : Nat) (addr : Word) (v : Word) (size : BitVec 3), s.busOpen acc = true ∧
      (size ≠ 4 ∨ addr.toNat % 4 ≠ 0 ∨ barEnd ≤ addr.toNat)) ∧
    (∃ (s : State) (acc : Nat) (v : Word) (o : Fin 0x2200), s.busOpen acc = true ∧ o.1 % 4 = 0) ∧
    (∃ (s : State) (acc : Nat) (addr : Word) (v : Word) (size : BitVec 3), s.busOpen acc = false) :=
  ⟨⟨State.reset, 0, 0, 0, by decide +kernel⟩,
   ⟨State.reset, 0, 0, by decide +kernel⟩,
   ⟨State.reset, 0, 0, by decide +kernel⟩,
   ⟨State.reset, 0, by decide +kernel⟩,
   ⟨State.reset, 0, 0, 0, 0, by decide +kernel⟩,
   ⟨State.reset, 0, 0, 0, by decide +kernel⟩,
   ⟨{ State.reset with rst := { State.reset.rst with held := true } }, 0, 0, 0, 0, by decide +kernel⟩⟩

theorem test_meets_recorder_and_capture :
    (∃ (s : State) (code : BitVec 16) (unit : Byte) (aux : Byte) (stamp : BitVec 64) (data : List Byte),
      (s.recd.on = true → s.recd.ring.length + 64 ≤ ringMax)) ∧
    (∃ (s : State) (t0 : BitVec 64), earliest s.recd.open_ = some t0 ∧ s.recd.ring.length + s.recd.open_.length ≤ ringMax ∧
      s.recd.next.toNat + s.recd.open_.length < 2 ^ 32) ∧
    (∃ (s : State), s.recd.open_ = []) ∧
    (∃ (s : State), s.jrn.ready = true ∧ (8 - s.jrn.wpos % 8 ≤ s.recd.ring.length ∨ s.recd.lastAt + 1000000 ≤ s.up) ∧ s.recd.ring ≠ [] ∧
      s.jrn.wpos < jrnSlots ∧ s.recd.spell = none) ∧
    (∃ (s : State), (s.jrn.ready = false ∨ s.recd.ring = [] ∨ (s.recd.ring.length < 8 - s.jrn.wpos % 8 ∧ s.up < s.recd.lastAt + 1000000))) ∧
    (∃ (s : State) (k : Fin 8), s.cap[k].config = true ∧ s.rst.stage = 9) ∧
    (∃ (s : State) (k : Fin 8), s.rst.stage < 9) ∧
    (∃ (s : State) (k : Fin 8), s.cap[k].run = true ∧ s.cap[k].trigged = false) ∧
    (∃ (s : State) (k : Fin 8), s.cap[k].run = true) :=
  ⟨⟨State.reset, 0, 0, 0, 0, [], by decide +kernel⟩,
   ⟨{ State.reset with recd := { State.reset.recd with open_ := [⟨0x0202, 0, 0, 0, []⟩] } }, 0, by decide +kernel⟩,
   ⟨{ State.reset with recd := { State.reset.recd with open_ := [] } }, by decide +kernel⟩,
   ⟨{ State.reset with
       up := 1000000000000000, jrn := { State.reset.jrn with ahead := true },
       recd := { State.reset.recd with ring := [(0, ⟨0x0202, 0, 0, 0, []⟩)] } }, by decide +kernel⟩,
   ⟨State.reset, by decide +kernel⟩,
   ⟨{ State.reset with
       cap := (every State.reset.cap fun e1 => { e1 with config := true }), rst := { State.reset.rst with stage := 9 } }, 0,
     by decide +kernel⟩,
   ⟨State.reset, 0, by decide +kernel⟩,
   ⟨{ State.reset with cap := (every State.reset.cap fun e1 => { e1 with run := true, trigged := false }) }, 0, by decide +kernel⟩,
   ⟨{ State.reset with cap := (every State.reset.cap fun e1 => { e1 with run := true }) }, 0, by decide +kernel⟩⟩

theorem test_meets_conversion_results :
    (∃ (s : State) (c : Fin 8) (k : Fin 4) (v : Fin 5) (e : Fin 16) (code : Int), s.cells[c].sq[k].conv = some v ∧ (∀ j : Fin 4,
      s.cells[c].sq[j].conv = some v → j = k) ∧ s.cells[c].sq[k].inj.active = false ∧ s.cells[c].sq[k].reg.active = true ∧
      s.cells[c].sq[k].reg.entry = e ∧ e.1 < s.n Fld.CELL_SQ_LEN c k ∧ s.cells[c].offline = false ∧ s.cells[c].fullPend = false ∧
      s.n Fld.CELL_SQ_E_AVG c k e = 0 ∧ s.cells[c].sq[k].reg.acc = 0 ∧ s.cells[c].sq[k].reg.sample = 0) ∧
    (∃ (s : State) (c : Fin 8) (k : Fin 4) (v : Fin 5) (code : Int), s.cells[c].offline = true) ∧
    (∃ (s : State) (c : Fin 8) (k : Fin 4), s.cells[c].sq[k].reg.active = true ∧ s.n Fld.CELL_SQ_LEN c k ≤ s.cells[c].sq[k].reg.entry) ∧
    (∃ (s : State) (c : Fin 8) (k : Fin 4), s.cells[c].sq[k].inj.active = true ∧ s.n Fld.CELL_SQ_ILEN c k ≤ s.cells[c].sq[k].inj.entry) :=
  ⟨⟨{ State.reset with
       cells := (every State.reset.cells fun e1 => { e1 with sq := (tbl 4 .reset).set 0 { Sequencer.reset with conv := some 0, reg := { SeqRun.idle with active := true } } }),
       used := [(fieldKey Fld.CELL_SQ_E_AVG 0 0 0, .num 0), (fieldKey Fld.CELL_SQ_LEN 0 0 0, .num 1)] }, 0, 0, 0, 0, 0, by decide +kernel⟩,
   ⟨{ State.reset with cells := (every State.reset.cells fun e1 => { e1 with offline := true }) }, 0, 0, 0, 0, by decide +kernel⟩,
   ⟨{ State.reset with
       cells := (every State.reset.cells fun e1 => { e1 with sq := (every e1.sq fun e2 => { e2 with reg := { e2.reg with active := true } }) }) },
     0, 0, by decide +kernel⟩,
   ⟨{ State.reset with
       cells := (every State.reset.cells fun e1 => { e1 with sq := (every e1.sq fun e2 => { e2 with inj := { e2.inj with active := true } }) }) },
     0, 0, by decide +kernel⟩⟩

theorem test_meets_sequence_triggers :
    (∃ (s : State) (c : Fin 8) (k : Fin 4), s.n Fld.CELL_SQ_LEN c k ≠ 0 ∧ s.continuous c k = false ∧
      s.cells[c].sq[k].conv.isSome = true ∧ s.cells[c].rdy = true ∧ s.calibrating c = false ∧ s.cells[c].sq[k].reg.active = false ∧
      s.cells[c].sq[k].regPend = false ∧ s.cells[c].sq[k].inj.active = false ∧ s.seqWaits c k = false) ∧
    (∃ (s : State) (c : Fin 8) (k : Fin 4), s.n Fld.CELL_SQ_LEN c k ≠ 0 ∧ s.continuous c k = false ∧
      (s.cells[c].sq[k].conv = none ∨ s.cells[c].rdy = false ∨ s.calibrating c = true)) ∧
    (∃ (s : State) (c : Fin 8) (k : Fin 4), s.n Fld.CELL_SQ_LEN c k ≠ 0 ∧ s.continuous c k = false ∧
      s.cells[c].sq[k].conv.isSome = true ∧ s.cells[c].rdy = true ∧ s.calibrating c = false ∧
      (s.cells[c].sq[k].reg.active = true ∨ s.cells[c].sq[k].regPend = true ∨ s.seqWaits c k = true)) ∧
    (∃ (s : State) (c : Fin 8) (k : Fin 4), s.n Fld.CELL_SQ_ILEN c k ≠ 0 ∧ s.cells[c].sq[k].conv.isSome = true ∧ s.cells[c].rdy = true ∧
      s.calibrating c = false ∧ s.cells[c].sq[k].inj.active = false) ∧
    (∃ (s : State) (c : Fin 8) (k : Fin 4), s.n Fld.CELL_SQ_UTRIG c k = 4) ∧
    (∃ (s : State) (c : Fin 8) (k : Fin 4), s.n Fld.CELL_SQ_ILEN c k ≠ 0 ∧ s.cells[c].sq[k].conv.isSome = true ∧ s.cells[c].rdy = true ∧
      s.calibrating c = false ∧ s.cells[c].sq[k].inj.active = false ∧ s.n Fld.CELL_SQ_UTRIG c k = 5) ∧
    (∃ (s : State) (c : Fin 8) (k : Fin 4), s.n Fld.CELL_SQ_ILEN c k ≠ 0 ∧ s.cells[c].rdy = false ∧ s.calibrating c = false) ∧
    (∃ (s : State) (c : Fin 8) (k : Fin 4), s.n Fld.CELL_SQ_ILEN c k ≠ 0 ∧ (s.calibrating c = true ∨ (s.cells[c].rdy = true ∧
      s.cells[c].sq[k].conv = none))) :=
  ⟨⟨{ State.reset with
       cells := (every State.reset.cells fun e1 => { e1 with sq := (every e1.sq fun e2 => { e2 with conv := some default, reg := { e2.reg with active := false }, regPend := false, inj := { e2.inj with active := false } }), rdy := true }),
       used := [(fieldKey Fld.CELL_SQ_LEN 0 0 0, .num 1)] }, 0, 0, by decide +kernel⟩,
   ⟨{ State.reset with
       cells := (every State.reset.cells fun e1 => { e1 with sq := (every e1.sq fun e2 => { e2 with conv := none }) }),
       used := [(fieldKey Fld.CELL_SQ_LEN 0 0 0, .num 1)] }, 0, 0, by decide +kernel⟩,
   ⟨{ State.reset with
       cells := (every State.reset.cells fun e1 => { e1 with sq := (every e1.sq fun e2 => { e2 with conv := some default, reg := { e2.reg with active := true } }), rdy := true }),
       used := [(fieldKey Fld.CELL_SQ_LEN 0 0 0, .num 1)] }, 0, 0, by decide +kernel⟩,
   ⟨{ State.reset with
       cells := (every State.reset.cells fun e1 => { e1 with sq := (every e1.sq fun e2 => { e2 with conv := some default, inj := { e2.inj with active := false } }), rdy := true }),
       used := [(fieldKey Fld.CELL_SQ_ILEN 0 0 0, .num 1)] }, 0, 0, by decide +kernel⟩,
   ⟨{ State.reset with used := [(fieldKey Fld.CELL_SQ_UTRIG 0 0 0, .num 4)] }, 0, 0, by decide +kernel⟩,
   ⟨{ State.reset with
       cells := (every State.reset.cells fun e1 => { e1 with sq := (every e1.sq fun e2 => { e2 with conv := some default, inj := { e2.inj with active := false } }), rdy := true }),
       used := [(fieldKey Fld.CELL_SQ_ILEN 0 0 0, .num 1), (fieldKey Fld.CELL_SQ_UTRIG 0 0 0, .num 5)] }, 0, 0, by decide +kernel⟩,
   ⟨{ State.reset with
       cells := (every State.reset.cells fun e1 => { e1 with rdy := false }), used := [(fieldKey Fld.CELL_SQ_ILEN 0 0 0, .num 1)] }, 0, 0,
     by decide +kernel⟩,
   ⟨{ State.reset with
       cells := (every State.reset.cells fun e1 => { e1 with rdy := true, sq := (every e1.sq fun e2 => { e2 with conv := none }) }),
       used := [(fieldKey Fld.CELL_SQ_ILEN 0 0 0, .num 1)] }, 0, 0, by decide +kernel⟩⟩

theorem test_meets_references_and_calibration :
    (∃ (s : State) (c : Fin 8), s.cells[c].refen = false) ∧
    (∃ (s : State) (c : Fin 8), s.cells[c].refen = true ∧ s.cellInUse c = false) ∧
    (∃ (s : State) (c : Fin 8), s.cells[c].refen = true ∧ s.cells[c].rdy = false) ∧
    (∃ (s : State) (c : Fin 8), s.cells[c].rdy = true ∧ s.calibrating c = false ∧ s.cellInUse c = false ∧ s.cells[c].bgAct = false) ∧
    (∃ (s : State) (c : Fin 8), s.cells[c].rdy = true ∧ s.calibrating c = false ∧ s.cellInUse c = true) ∧
    (∃ (s : State) (c : Fin 8), (s.cells[c].rdy = false ∨ s.calibrating c = true)) ∧
    (∃ (s : State) (c : Fin 8), s.cells[c].fullPend = true ∧ (∀ k : Fin 4, s.cells[c].sq[k].inj.active = false)) ∧
    (∃ (s : State) (c : Fin 8), (s.cells[c].fullPend = false ∨ (∃ k : Fin 4, s.cells[c].sq[k].inj.active = true))) ∧
    (∃ (s : State) (c : Fin 8) (offs : Vector Int 5) (gains : Vector Rat 5) (mis : Vector (Vector Int 6) 5), s.cells[c].offline = true) ∧
    (∃ (s : State) (c : Fin 8), s.bgCan c = true) ∧
    (∃ (s : State) (c : Fin 8), s.bgCan c = false) ∧
    (∃ (s : State) (c : Fin 8), s.cells[c].bgAct = true) ∧
    (∃ (s : State) (c : Fin 8), s.cells[c].bgAct = false) ∧
    (∃ (s : State) (c : Fin 8), s.rst.stage = 9 ∧ s.rst.mgmtRun = true ∧ s.bgWants c = true ∧ s.bgCan c = true ∧ (∀ d : Fin 8,
      s.cells[d].bgNow = false) ∧ (∀ d : Fin 8, d.1 < c.1 → (s.bgWants d && s.bgCan d) = false)) ∧
    (∃ (s : State) (c : Fin 8), s.bgWants c = false) ∧
    (∃ (s : State) (c : Fin 8), s.rst.stage = 9 ∧ s.rst.mgmtRun = true ∧ s.bgWants c = true ∧ s.bgCan c = false) ∧
    (∃ (s : State) (c : Fin 8) (v : Fin 5) (off : Int) (gain : Rat) (mis : Vector Int 6), s.cells[c].bgAct = true ∧
      s.cells[c].cv[v].role = .calibrating ∧ (∀ w : Fin 5, w ≠ v → s.cells[c].cv[w].role ≠ .calibrating) ∧ factorsOk off gain mis = true) ∧
    (∃ (s : State) (c : Fin 8) (v : Fin 5) (off : Int) (gain : Rat) (mis : Vector Int 6), s.cells[c].bgAct = true ∧
      s.cells[c].cv[v].role = .calibrating ∧ (∀ w : Fin 5, w ≠ v → s.cells[c].cv[w].role ≠ .calibrating) ∧ factorsOk off gain mis = false) ∧
    (∃ (s : State) (c : Fin 8) (sp : Fin 5) (v : Fin 5) (k : Fin 4), s.cells[c].bgAct = true ∧ s.cells[c].bgStep ≠ 0 ∧
      s.cells[c].spare = some sp ∧ s.cells[c].oldest = some (v, k) ∧ s.cells[c].cv[v].role = .bound k ∧ sp ≠ v ∧
      s.cells[c].sq[k].between = true) ∧
    (∃ (s : State) (c : Fin 8) (v : Fin 5) (k : Fin 4), s.cells[c].oldest = some (v, k) ∧ s.cells[c].sq[k].between = false) :=
  ⟨⟨{ State.reset with cells := (every State.reset.cells fun e1 => { e1 with refen := false }) }, 0, by decide +kernel⟩,
   ⟨{ State.reset with cells := (every State.reset.cells fun e1 => { e1 with refen := true }) }, 0, by decide +kernel⟩,
   ⟨{ State.reset with cells := (every State.reset.cells fun e1 => { e1 with refen := true, rdy := false }) }, 0, by decide +kernel⟩,
   ⟨{ State.reset with cells := (every State.reset.cells fun e1 => { e1 with rdy := true, bgAct := false }) }, 0, by decide +kernel⟩,
   ⟨{ State.reset with
       cells := (every State.reset.cells fun e1 => { e1 with rdy := true }),
       br := (every State.reset.br fun e1 => { e1 with rec_ := some 0, mo := 0 }), armed := (every State.reset.armed fun _ => true) }, 0,
     by decide +kernel⟩,
   ⟨{ State.reset with cells := (every State.reset.cells fun e1 => { e1 with rdy := false }) }, 0, by decide +kernel⟩,
   ⟨{ State.reset with cells := (every State.reset.cells fun e1 => { e1 with fullPend := true }) }, 0, by decide +kernel⟩,
   ⟨{ State.reset with cells := (every State.reset.cells fun e1 => { e1 with fullPend := false }) }, 0, by decide +kernel⟩,
   ⟨{ State.reset with
       cells := (every State.reset.cells fun e1 => { e1 with offline := true }) }, 0, tbl 5 0, tbl 5 1, tbl 5 (tbl 6 0), by decide +kernel⟩,
   ⟨{ State.reset with
       cells := (every State.reset.cells fun e1 => { e1 with calibrated := true, cv := (every e1.cv fun e2 => { e2 with role := .spare }) }) },
     0, by decide +kernel⟩,
   ⟨State.reset, 0, by decide +kernel⟩,
   ⟨{ State.reset with cells := (every State.reset.cells fun e1 => { e1 with bgAct := true }) }, 0, by decide +kernel⟩,
   ⟨{ State.reset with cells := (every State.reset.cells fun e1 => { e1 with bgAct := false }) }, 0, by decide +kernel⟩,
   ⟨{ State.reset with
       rst := { State.reset.rst with stage := 9, mgmtRun := true }, up := 1000000000000000,
       cells := (every State.reset.cells fun e1 => { e1 with calibrated := true, cv := (every e1.cv fun e2 => { e2 with role := .spare }) }),
       used := [(fieldKey Fld.CELL_BGINT 0 0 0, .num 1)] }, 0, by decide +kernel⟩,
   ⟨State.reset, 0, by decide +kernel⟩,
   ⟨{ State.reset with
       rst := { State.reset.rst with stage := 9, mgmtRun := true }, up := 1000000000000000,
       used := [(fieldKey Fld.CELL_BGINT 0 0 0, .num 1)] }, 0, by decide +kernel⟩,
   ⟨{ State.reset with
       cells := (every State.reset.cells fun e1 => { e1 with bgAct := true, cv := (tbl 5 cvSpare).set 0 cvCal }) }, 0, 0, 0, 1, tbl 6 0,
     by decide +kernel⟩,
   ⟨{ State.reset with
       cells := (every State.reset.cells fun e1 => { e1 with bgAct := true, cv := (tbl 5 cvSpare).set 0 cvCal }) }, 0, 0, 0, 0, tbl 6 0,
     by decide +kernel⟩,
   ⟨{ State.reset with
       cells := (every State.reset.cells fun e1 => { e1 with bgAct := true, bgStep := 1, cv := ((tbl 5 cvCal).set 0 { cvSpare with role := .bound 0 }).set 1 cvSpare }) },
     0, 1, 0, 0, by decide +kernel⟩,
   ⟨{ State.reset with
       cells := (every State.reset.cells fun e1 => { e1 with cv := ((tbl 5 cvCal).set 0 { cvSpare with role := .bound 0 }).set 1 cvSpare, sq := (every e1.sq fun e2 => { e2 with reg := { e2.reg with active := true, sample := 1 } }) }) },
     0, 0, 0, by decide +kernel⟩⟩

theorem test_meets_reference_and_trim_refusals :
    ∃ (s : State) (c : Fin 8), s.cells[c].refen = true ∧ s.cellInUse c = true :=
  ⟨{ State.reset with
      cells := (every State.reset.cells fun e1 => { e1 with refen := true }),
      br := (every State.reset.br fun e1 => { e1 with rec_ := some 0, mo := 0 }), armed := (every State.reset.armed fun _ => true) }, 0,
    by decide +kernel⟩

theorem test_meets_housekeeping_and_rails :
    (∃ (s : State) (ch : Fin 32) (code : Int), 8 ≤ ch.1 ∧ ch.1 ≠ 31) ∧
    (∃ (s : State) (ch : Fin 32) (code : Int), (ch.1 < 8 ∨ ch.1 = 31)) ∧
    (∃ (s : State), s.rst.ok.getLsbD 7 = true) ∧
    (∃ (s : State) (ch : Fin 32), 24 ≤ ch.1 ∧ ch.1 ≤ 29) ∧
    (∃ (s : State) (ch : Fin 32), 25 ≤ ch.1 ∧ ch.1 ≤ 29 ∧ s.die.prevHot = true ∧ s.die.shut = false ∧ s.die.hold = false) ∧
    (∃ (s : State), s.die.shut = true ∧ s.die.hold = false) ∧
    (∃ (s : State) (c : Fin 8) (j : Fin 12), s.cells[c].orail[j] = false) ∧
    (∃ (s : State) (c : Fin 8) (j : Fin 12) (w : RailWindow), s.cells[c].orail[j] = true ∧ s.cells[c].window[j] = some w) ∧
    (∃ (s : State) (c : Fin 8) (j : Fin 12), s.cells[c].orail[j] = true) ∧
    (∃ (s : State) (c : Fin 8) (j : Fin 12) (w : RailWindow), s.cells[c].orail[j] = false ∧ s.cells[c].window[j] = some w ∧
      w.open_ = true ∧ w.at_ + 2000 ≤ s.up) :=
  ⟨⟨State.reset, 8, 0, by decide +kernel⟩,
   ⟨State.reset, 0, 0, by decide +kernel⟩,
   ⟨{ State.reset with rst := { State.reset.rst with ok := 0x80 } }, by decide +kernel⟩,
   ⟨State.reset, 24, by decide +kernel⟩,
   ⟨{ State.reset with die := { State.reset.die with prevHot := true, shut := false, hold := false } }, 25, by decide +kernel⟩,
   ⟨{ State.reset with die := { State.reset.die with shut := true, hold := false } }, by decide +kernel⟩,
   ⟨{ State.reset with
       cells := (every State.reset.cells fun e1 => { e1 with orail := (every e1.orail fun _ => false) }) }, 0, 0, by decide +kernel⟩,
   ⟨{ State.reset with
       cells := (every State.reset.cells fun e1 => { e1 with orail := (every e1.orail fun _ => true), window := (every e1.window fun _ => some ⟨true, 0, 0⟩) }) },
     0, 0, ⟨true, 0, 0⟩, by decide +kernel⟩,
   ⟨{ State.reset with
       cells := (every State.reset.cells fun e1 => { e1 with orail := (every e1.orail fun _ => true) }) }, 0, 0, by decide +kernel⟩,
   ⟨{ State.reset with
       cells := (every State.reset.cells fun e1 => { e1 with orail := (every e1.orail fun _ => false), window := (every e1.window fun _ => some ⟨true, 0, 0⟩) }),
       up := 1000000000000000 }, 0, 0, ⟨true, 0, 0⟩, by decide +kernel⟩⟩

theorem test_meets_current_loops :
    (∃ (s : State) (n : Fin 8) (pos : Vector PosRaw 8) (c : CmpSet), s.conf n = true ∧ s.pwm[n].run = true ∧ s.pwm[n].posted = some c ∧
      (s.pwm[n].single = false ∨ s.pwm[n].atPeak = true) ∧ (s.pwm[n].atPeak = false ∨ s.ring.on = false ∨ ∃ j ∈ s.bridges s.br[n].mo,
      s.br[j].form ≠ .pblk)) ∧
    (∃ (s : State) (n : Fin 8) (pos : Vector PosRaw 8), s.conf n = true ∧ s.pwm[n].run = true ∧ s.pwm[n].posted = none ∧
      (s.pwm[n].single = false ∨ s.pwm[n].atPeak = true) ∧ (s.pwm[n].atPeak = false ∨ s.ring.on = false ∨ ∃ j ∈ s.bridges s.br[n].mo,
      s.br[j].form ≠ .pblk)) ∧
    (∃ (s : State) (n : Fin 8) (pos : Vector PosRaw 8), (s.conf n = false ∨ s.pwm[n].run = false)) ∧
    (∃ (s : State) (n : Fin 8), s.conf n = true ∧ s.pwm[n].run = true ∧ s.switching n = true ∧ s.pwm[n].missed = false) ∧
    (∃ (s : State) (n : Fin 8), s.conf n = true ∧ s.pwm[n].run = true ∧ s.switching n = true ∧ s.pwm[n].missed = true ∧
      s.pwm[n].npUnbal = false ∧ s.loops[s.br[n].mo].circHi = false) ∧
    (∃ (s : State) (n : Fin 8), s.conf n = true ∧ s.pwm[n].run = true ∧ s.switching n = false ∧ s.pwm[n].npUnbal = false ∧
      s.loops[s.br[n].mo].circHi = false) ∧
    (∃ (s : State) (n : Fin 8), (s.conf n = false ∨ s.pwm[n].run = false)) ∧
    (∃ (s : State) (n : Fin 8), s.conf n = true ∧ s.pwm[n].run = true ∧ s.switching n = true ∧ s.pwm[n].posted.isSome = true) ∧
    (∃ (s : State) (n : Fin 8), s.conf n = true ∧ s.pwm[n].run = true ∧ s.switching n = true ∧ s.pwm[n].posted = none) ∧
    (∃ (s : State) (n : Fin 8), s.conf n = true ∧ s.br[n].npc = true ∧ s.pwm[n].npUnbal = false) ∧
    (∃ (s : State) (n : Fin 8), (s.br[n].npc = false ∨ s.pwm[n].npUnbal = true)) ∧
    (∃ (s : State) (m : Fin 4), s.loops[m].circHi = false ∧ s.n Fld.MOTOR_BRMODE m = 0 ∧ 2 ≤ (s.feeding m).length) :=
  ⟨⟨{ State.reset with
       br := (every State.reset.br fun e1 => { e1 with rec_ := some 0 }),
       pwm := (every State.reset.pwm fun e1 => { e1 with run := true, posted := some CmpSet.reset, chalf := 10000 }) }, 0, aPos,
     CmpSet.reset, by decide +kernel⟩,
   ⟨{ State.reset with
       br := (every State.reset.br fun e1 => { e1 with rec_ := some 0 }),
       pwm := (every State.reset.pwm fun e1 => { e1 with run := true, posted := none, chalf := 10000 }) }, 0, aPos, by decide +kernel⟩,
   ⟨{ State.reset with br := (every State.reset.br fun e1 => { e1 with rec_ := none }) }, 0, aPos, by decide +kernel⟩,
   ⟨{ State.reset with
       pwm := (every State.reset.pwm fun e1 => { e1 with run := true, missed := false }),
       br := (every State.reset.br fun e1 => { e1 with rec_ := some 0, mo := 0, enabled := true, form := .run, latch := false }),
       armed := (every State.reset.armed fun _ => true),
       garnet := { State.reset.garnet with mo := (every State.reset.garnet.mo fun e1 => { e1 with sto := false }) } }, 0, by decide +kernel⟩,
   ⟨{ State.reset with
       pwm := (every State.reset.pwm fun e1 => { e1 with run := true, missed := true, npUnbal := false }),
       br := (every State.reset.br fun e1 => { e1 with rec_ := some 0, mo := 0, enabled := true, form := .run, latch := false }),
       armed := (every State.reset.armed fun _ => true),
       garnet := { State.reset.garnet with mo := (every State.reset.garnet.mo fun e1 => { e1 with sto := false }) } }, 0, by decide +kernel⟩,
   ⟨{ State.reset with
       br := (every State.reset.br fun e1 => { e1 with rec_ := some 0 }),
       pwm := (every State.reset.pwm fun e1 => { e1 with run := true, npUnbal := false }) }, 0, by decide +kernel⟩,
   ⟨{ State.reset with br := (every State.reset.br fun e1 => { e1 with rec_ := none }) }, 0, by decide +kernel⟩,
   ⟨{ State.reset with
       br := (every State.reset.br fun e1 => { e1 with rec_ := some 0, form := .run, enabled := true }),
       pwm := (every State.reset.pwm fun e1 => { e1 with run := true, posted := some CmpSet.reset }),
       armed := tbl 4 true, garnet := { State.reset.garnet with mo := (every State.reset.garnet.mo fun e1 => { e1 with sto := false }) } },
     0, by decide +kernel⟩,
   ⟨{ State.reset with
       br := (every State.reset.br fun e1 => { e1 with rec_ := some 0, form := .run, enabled := true }),
       pwm := (every State.reset.pwm fun e1 => { e1 with run := true, posted := none }),
       armed := tbl 4 true, garnet := { State.reset.garnet with mo := (every State.reset.garnet.mo fun e1 => { e1 with sto := false }) } },
     0, by decide +kernel⟩,
   ⟨{ State.reset with
       br := (every State.reset.br fun e1 => { e1 with rec_ := some 0, npc := true }),
       pwm := (every State.reset.pwm fun e1 => { e1 with npUnbal := false }) }, 0, by decide +kernel⟩,
   ⟨{ State.reset with br := (every State.reset.br fun e1 => { e1 with npc := false }) }, 0, by decide +kernel⟩,
   ⟨{ State.reset with
       loops := (every State.reset.loops fun e1 => { e1 with circHi := false }),
       br := (every State.reset.br fun e1 => { e1 with rec_ := some 0, mo := 0 }), used := [(fieldKey Fld.MOTOR_BRMODE 0 0 0, .num 0)] }, 0,
     by decide +kernel⟩⟩

theorem test_meets_arm_and_disarm :
    (∃ (s : State) (m : Fin 4), s.rst.stage = 9 ∧ s.unmet m = 0) ∧
    (∃ (s : State) (m : Fin 4), s.unmet m ≠ 0) ∧
    (∃ (s : State) (m : Fin 4), s.rst.stage < 9 ∧ s.unmet m = 0) ∧
    (∃ (s : State) (m : Fin 4), s.start[m].state = .idle ∧ (∀ n ∈ s.feeding m, s.br[n].form = .pblk)) ∧
    (∃ (s : State) (m : Fin 4), (s.start[m].state ≠ .idle ∨ (∃ n ∈ s.feeding m, s.br[n].form ≠ .pblk))) ∧
    (∃ (s : State) (n : Fin 8) (ns : Nat), s.armed[s.br[n].mo] = false) :=
  ⟨⟨{ State.reset with
       rst := { State.reset.rst with stage := 9 }, br := (every State.reset.br fun e1 => { e1 with rec_ := some 0, mo := 0 }),
       cells := (every State.reset.cells fun e1 => { e1 with calibrated := true }) }, 0, by decide +kernel⟩,
   ⟨State.reset, 0, by decide +kernel⟩,
   ⟨{ State.reset with
       br := (every State.reset.br fun e1 => { e1 with rec_ := some 0, mo := 0 }),
       cells := (every State.reset.cells fun e1 => { e1 with calibrated := true }) }, 0, by decide +kernel⟩,
   ⟨{ State.reset with start := (every State.reset.start fun e1 => { e1 with state := .idle }) }, 0, by decide +kernel⟩,
   ⟨{ State.reset with start := (every State.reset.start fun e1 => { e1 with state := .run }) }, 0, by decide +kernel⟩,
   ⟨State.reset, 0, 0, by decide +kernel⟩⟩

theorem test_meets_position_interfaces :
    (∃ (s : State) (k : Fin 8) (frame : Word), s.posIf[k].on = true ∧ s.n Fld.PI_MODE (8 + k) = 4 ∧ s.q Fld.PI_SSIDLY (8 + k) = 0) ∧
    (∃ (s : State) (k : Fin 8) (frame : Word), (s.posIf[k].on = false ∨ s.n Fld.PI_MODE (8 + k) ≠ 4)) ∧
    (∃ (s : State) (k : Fin 8), s.posIf[k].on = true ∧ (s.n Fld.PI_MODE (8 + k) = 1 ∨ s.n Fld.PI_MODE (8 + k) = 2)) ∧
    (∃ (s : State) (k : Fin 8) (count : Nat), s.posIf[k].on = true ∧ s.n Fld.PI_MODE (8 + k) = 1 ∧ 5 ≤ count) ∧
    (∃ (s : State) (k : Fin 8) (count : Nat), s.posIf[k].on = true ∧ s.n Fld.PI_MODE (8 + k) = 1 ∧ count ≤ 4 ∧ (∀ x ∈ s.posIf[k].badAt,
      x + 1000000 ≤ s.up)) ∧
    (∃ (s : State) (k : Fin 8) (amp : Rat), s.posIf[k].on = true ∧ (s.n Fld.PI_MODE (8 + k) = 2 ∨ s.n Fld.PI_MODE (8 + k) = 3) ∧
      (amp < 1 / 2 ∨ 3 / 2 < amp)) ∧
    (∃ (s : State) (k : Fin 8) (amp : Rat), (s.n Fld.PI_MODE (8 + k) = 2 ∨ s.n Fld.PI_MODE (8 + k) = 3) ∧ 1 / 2 ≤ amp ∧ amp ≤ 3 / 2) ∧
    (∃ (s : State) (k : Fin 8), s.posIf[k].on = true ∧ s.n Fld.PI_MODE (8 + k) = 4 ∧ s.posIf[k].ssiBad = 0) ∧
    (∃ (s : State) (k : Fin 8), s.posIf[k].on = true ∧ s.n Fld.PI_MODE (8 + k) = 4 ∧ 1 ≤ s.posIf[k].ssiBad) ∧
    (∃ (s : State) (k : Fin 8), s.posIf[k].on = true ∧ s.n Fld.PI_MODE (8 + k) = 3) ∧
    (∃ (s : State) (k : Fin 8) (m : Fin 4), s.posIf[k].on = true ∧ s.n Fld.PI_MODE (8 + k) = 3 ∧ m ∈ s.namingPi k ∧
      s.n Fld.MOTOR_POSMODE m = 0 ∧ s.start[m].fallback = false ∧ s.rc Fld.MOTOR_POSREACT m ≠ .log) ∧
    (∃ (s : State) (k : Fin 8) (x : Int), s.posIf[k].on = true ∧ (s.n Fld.PI_MODE (8 + k) = 1 ∨ s.n Fld.PI_MODE (8 + k) = 2) ∧
      s.yes Fld.PI_ZUSE (8 + k) = true ∧ s.posIf[k].lastZ = none ∧ s.posIf[k].found = false) ∧
    (∃ (s : State) (k : Fin 8) (x : Int) (z : Int), s.posIf[k].on = true ∧ (s.n Fld.PI_MODE (8 + k) = 1 ∨ s.n Fld.PI_MODE (8 + k) = 2) ∧
      s.yes Fld.PI_ZUSE (8 + k) = true ∧ s.posIf[k].lastZ = some z) ∧
    (∃ (s : State) (m : Fin 4), s.n Fld.MOTOR_POSMODE m = 2 ∧ s.start[m].locked = true ∧ s.start[m].fallback = false) :=
  ⟨⟨{ State.reset with
       posIf := (every State.reset.posIf fun e1 => { e1 with on := true }),
       used := [(fieldKey Fld.PI_MODE 8 0 0, .num 4), (fieldKey Fld.PI_SSIDLY 8 0 0, .num 0)] }, 0, 0, by decide +kernel⟩,
   ⟨{ State.reset with posIf := (every State.reset.posIf fun e1 => { e1 with on := false }) }, 0, 0, by decide +kernel⟩,
   ⟨{ State.reset with
       posIf := (every State.reset.posIf fun e1 => { e1 with on := true }), used := [(fieldKey Fld.PI_MODE (8 + 0) 0 0, .num 1)] }, 0,
     by decide +kernel⟩,
   ⟨{ State.reset with
       posIf := (every State.reset.posIf fun e1 => { e1 with on := true }), used := [(fieldKey Fld.PI_MODE 8 0 0, .num 1)] }, 0, 5,
     by decide +kernel⟩,
   ⟨{ State.reset with
       posIf := (every State.reset.posIf fun e1 => { e1 with on := true }), used := [(fieldKey Fld.PI_MODE 8 0 0, .num 1)] }, 0, 0,
     by decide +kernel⟩,
   ⟨{ State.reset with
       posIf := (every State.reset.posIf fun e1 => { e1 with on := true }), used := [(fieldKey Fld.PI_MODE (8 + 0) 0 0, .num 2)] }, 0, 0,
     by decide +kernel⟩,
   ⟨{ State.reset with used := [(fieldKey Fld.PI_MODE (8 + 0) 0 0, .num 2)] }, 0, 1, by decide +kernel⟩,
   ⟨{ State.reset with
       posIf := (every State.reset.posIf fun e1 => { e1 with on := true, ssiBad := 0 }),
       used := [(fieldKey Fld.PI_MODE (8 + 0) 0 0, .num 4)] }, 0, by decide +kernel⟩,
   ⟨{ State.reset with
       posIf := (every State.reset.posIf fun e1 => { e1 with on := true, ssiBad := 1 }),
       used := [(fieldKey Fld.PI_MODE (8 + 0) 0 0, .num 4)] }, 0, by decide +kernel⟩,
   ⟨{ State.reset with
       posIf := (every State.reset.posIf fun e1 => { e1 with on := true }), used := [(fieldKey Fld.PI_MODE (8 + 0) 0 0, .num 3)] }, 0,
     by decide +kernel⟩,
   ⟨{ State.reset with
       posIf := (every State.reset.posIf fun e1 => { e1 with on := true }),
       start := (every State.reset.start fun e1 => { e1 with fallback := false }),
       br := (every State.reset.br fun e1 => { e1 with rec_ := some 0, mo := 0 }),
       used := [(fieldKey Fld.PI_MODE (8 + 0) 0 0, .num 3), (fieldKey Fld.MOTOR_POSMODE 0 0 0, .num 0)] }, 0, 0, by decide +kernel⟩,
   ⟨{ State.reset with
       posIf := (every State.reset.posIf fun e1 => { e1 with on := true, lastZ := none, found := false }),
       used := [(fieldKey Fld.PI_MODE 8 0 0, .num 1), (fieldKey Fld.PI_ZUSE 8 0 0, .num 1)] }, 0, 0, by decide +kernel⟩,
   ⟨{ State.reset with
       posIf := (every State.reset.posIf fun e1 => { e1 with on := true, lastZ := some 0 }),
       used := [(fieldKey Fld.PI_MODE 8 0 0, .num 1), (fieldKey Fld.PI_ZUSE 8 0 0, .num 1)] }, 0, 0, 0, by decide +kernel⟩,
   ⟨{ State.reset with
       start := (every State.reset.start fun e1 => { e1 with locked := true, fallback := false }),
       used := [(fieldKey Fld.MOTOR_POSMODE 0 0 0, .num 2)] }, 0, by decide +kernel⟩⟩

theorem test_meets_start_measurement :
    (∃ (s : State) (m : Fin 4), s.start[m].state ≠ .measure) ∧
    (∃ (s : State) (m : Fin 4), s.yes Fld.MOTOR_HOIST m = true ∧ s.hasSpeedSource m = false) ∧
    (∃ (s : State) (m : Fin 4), s.start[m].state = .measure ∧ s.induction m = false ∧ s.hasSpeedSource m = true ∧ s.sourceAbs m = true ∧
      3 / 100 * s.q Fld.MOTOR_NRATED m ≤ absQ (s.sourceRpm m)) ∧
    (∃ (s : State) (m : Fin 4), s.start[m].state = .measure ∧ s.induction m = false ∧ s.hasSpeedSource m = true ∧ s.sourceAbs m = false ∧
      3 / 100 * s.q Fld.MOTOR_NRATED m ≤ absQ (s.sourceRpm m)) ∧
    (∃ (s : State) (m : Fin 4), s.start[m].state = .measure ∧ s.induction m = false ∧ s.hasSpeedSource m = false ∧
      s.yes Fld.MOTOR_HOIST m = false ∧ 3 / 100 * s.q Fld.MOTOR_NRATED m ≤ absQ (s.rpmOf m (s.emfSpeed m))) ∧
    (∃ (s : State) (m : Fin 4), s.start[m].state = .measure ∧ s.induction m = false ∧ s.hasSpeedSource m = true ∧ s.sourceAbs m = true ∧
      absQ (s.sourceRpm m) < 3 / 100 * s.q Fld.MOTOR_NRATED m) ∧
    (∃ (s : State) (m : Fin 4), s.start[m].state = .measure ∧ s.n Fld.MOTOR_TYPE m = 0 ∧ s.hasSpeedSource m = false ∧
      s.yes Fld.MOTOR_HOIST m = false ∧ 0 < s.q Fld.MOTOR_NRATED m ∧ s.start[m].emfMag < s.ratedEmf m / 100) ∧
    (∃ (s : State) (m : Fin 4), s.start[m].state = .measure ∧ s.n Fld.MOTOR_TYPE m = 1 ∧ s.hasSpeedSource m = false ∧
      s.yes Fld.MOTOR_HOIST m = false ∧ 0 < s.q Fld.MOTOR_NRATED m ∧ s.start[m].emfMag < s.ratedEmf m / 100) ∧
    (∃ (s : State) (m : Fin 4), s.start[m].state = .measure ∧ s.induction m = true ∧ s.hasSpeedSource m = true ∧
      3 / 100 * s.q Fld.MOTOR_NRATED m ≤ absQ (s.sourceRpm m)) ∧
    (∃ (s : State) (m : Fin 4), s.start[m].state = .measure ∧ s.induction m = true ∧ s.hasSpeedSource m = true ∧
      absQ (s.sourceRpm m) < 3 / 100 * s.q Fld.MOTOR_NRATED m) ∧
    (∃ (s : State) (m : Fin 4), s.start[m].state = .measure ∧ s.induction m = true ∧ s.hasSpeedSource m = false ∧
      s.yes Fld.MOTOR_HOIST m = false ∧ s.residual m = true) ∧
    (∃ (s : State) (m : Fin 4), s.start[m].state = .measure ∧ s.induction m = true ∧ s.hasSpeedSource m = false ∧
      s.yes Fld.MOTOR_HOIST m = false ∧ s.residual m = false) :=
  ⟨⟨State.reset, 0, by decide +kernel⟩,
   ⟨{ State.reset with used := [(fieldKey Fld.MOTOR_HOIST 0 0 0, .num 1)] }, 0, by decide +kernel⟩,
   ⟨{ State.reset with
       start := (every State.reset.start fun e1 => { e1 with state := .measure }),
       posIf := (every State.reset.posIf fun e1 => { e1 with valid := true, abs := true, on := true, spd := 1 }),
       used := [(fieldKey Fld.MOTOR_TYPE 0 0 0, .num 0), (fieldKey Fld.MOTOR_NRATED 0 0 0, .num 1)] }, 0, by decide +kernel⟩,
   ⟨{ State.reset with
       start := (every State.reset.start fun e1 => { e1 with state := .measure }),
       posIf := (every State.reset.posIf fun e1 => { e1 with valid := true, abs := false, on := true, spd := 1 }),
       used := [(fieldKey Fld.MOTOR_TYPE 0 0 0, .num 0), (fieldKey Fld.MOTOR_NRATED 0 0 0, .num 1)] }, 0, by decide +kernel⟩,
   ⟨{ State.reset with
       start := (every State.reset.start fun e1 => { e1 with state := .measure }),
       used := [(fieldKey Fld.MOTOR_HOIST 0 0 0, .num 0), (fieldKey Fld.MOTOR_TYPE 0 0 0, .num 0), (fieldKey Fld.MOTOR_NRATED 0 0 0, .num 0)] },
     0, by
        refine ⟨by decide +kernel, by decide +kernel, by decide +kernel, by decide +kernel, ?_⟩
        exact le_abs_of_zero (by decide +kernel)⟩,
   ⟨{ State.reset with
       start := (every State.reset.start fun e1 => { e1 with state := .measure }),
       posIf := (every State.reset.posIf fun e1 => { e1 with valid := true, abs := true, on := true, spd := 0 }),
       used := [(fieldKey Fld.MOTOR_TYPE 0 0 0, .num 0), (fieldKey Fld.MOTOR_NRATED 0 0 0, .num 1000)] }, 0, by decide +kernel⟩,
   ⟨{ State.reset with
       start := (every State.reset.start fun e1 => { e1 with state := .measure, emfMag := -1 }),
       used := [(fieldKey Fld.MOTOR_TYPE 0 0 0, .num 0), (fieldKey Fld.MOTOR_HOIST 0 0 0, .num 0), (fieldKey Fld.MOTOR_NRATED 0 0 0, .num 1), (fieldKey Fld.MOTOR_PSI 0 0 0, .num 0), (fieldKey Fld.MOTOR_PSIR 0 0 0, .num 0)] },
     0, by
        refine ⟨by decide +kernel, by decide +kernel, by decide +kernel, by decide +kernel, by decide +kernel, ?_⟩
        exact below_no_emf (by decide +kernel) (by decide +kernel) (by decide +kernel)⟩,
   ⟨{ State.reset with
       start := (every State.reset.start fun e1 => { e1 with state := .measure, emfMag := -1 }),
       used := [(fieldKey Fld.MOTOR_TYPE 0 0 0, .num 1), (fieldKey Fld.MOTOR_HOIST 0 0 0, .num 0), (fieldKey Fld.MOTOR_NRATED 0 0 0, .num 1), (fieldKey Fld.MOTOR_PSI 0 0 0, .num 0), (fieldKey Fld.MOTOR_PSIR 0 0 0, .num 0)] },
     0, by
        refine ⟨by decide +kernel, by decide +kernel, by decide +kernel, by decide +kernel, by decide +kernel, ?_⟩
        exact below_no_emf (by decide +kernel) (by decide +kernel) (by decide +kernel)⟩,
   ⟨{ State.reset with
       start := (every State.reset.start fun e1 => { e1 with state := .measure }),
       posIf := (every State.reset.posIf fun e1 => { e1 with valid := true, abs := true, on := true, spd := 1 }),
       used := [(fieldKey Fld.MOTOR_TYPE 0 0 0, .num 2), (fieldKey Fld.MOTOR_NRATED 0 0 0, .num 1)] }, 0, by decide +kernel⟩,
   ⟨{ State.reset with
       start := (every State.reset.start fun e1 => { e1 with state := .measure }),
       posIf := (every State.reset.posIf fun e1 => { e1 with valid := true, abs := true, on := true, spd := 0 }),
       used := [(fieldKey Fld.MOTOR_TYPE 0 0 0, .num 2), (fieldKey Fld.MOTOR_NRATED 0 0 0, .num 1000)] }, 0, by decide +kernel⟩,
   ⟨{ State.reset with
       start := (every State.reset.start fun e1 => { e1 with state := .measure, emfMag := 1 }),
       used := [(fieldKey Fld.MOTOR_HOIST 0 0 0, .num 0), (fieldKey Fld.MOTOR_TYPE 0 0 0, .num 2), (fieldKey Fld.MOTOR_PSIR 0 0 0, .num 0), (fieldKey Fld.MOTOR_PSI 0 0 0, .num 0)] },
     0, by
        refine ⟨by decide +kernel, by decide +kernel, by decide +kernel, by decide +kernel, ?_⟩
        exact (residual_no_flux (by decide +kernel) (by decide +kernel)).trans (by decide +kernel)⟩,
   ⟨{ State.reset with
       start := (every State.reset.start fun e1 => { e1 with state := .measure, emfMag := -1 }),
       used := [(fieldKey Fld.MOTOR_HOIST 0 0 0, .num 0), (fieldKey Fld.MOTOR_TYPE 0 0 0, .num 2), (fieldKey Fld.MOTOR_PSIR 0 0 0, .num 0), (fieldKey Fld.MOTOR_PSI 0 0 0, .num 0)] },
     0, by
        refine ⟨by decide +kernel, by decide +kernel, by decide +kernel, by decide +kernel, ?_⟩
        exact (residual_no_flux (by decide +kernel) (by decide +kernel)).trans (by decide +kernel)⟩⟩

theorem test_meets_start_progress :
    (∃ (s : State) (n : Fin 8), s.start[s.br[n].mo].state = .sync ∧ n ∈ s.feeding s.br[n].mo ∧ s.br[n].enabled = true ∧
      s.br[n].exec_.rank < 4) ∧
    (∃ (s : State) (n : Fin 8), (s.start[s.br[n].mo].state ≠ .sync ∨ n ∉ s.feeding s.br[n].mo)) ∧
    (∃ (s : State) (m : Fin 4), s.start[m].state = .sync ∧ s.start[m].peak2 ≤ 25 / 10000 * s.imaxEff m * s.imaxEff m ∧
      s.induction m = false) ∧
    (∃ (s : State) (m : Fin 4), s.start[m].state = .sync ∧ s.start[m].peak2 ≤ 25 / 10000 * s.imaxEff m * s.imaxEff m ∧ s.induction m = true) ∧
    (∃ (s : State) (m : Fin 4), s.start[m].state = .sync ∧ 1 / 100 * s.imaxEff m * s.imaxEff m < s.start[m].peak2 ∧
      25 / 10000 * s.imaxEff m * s.imaxEff m < s.start[m].peak2 ∧ s.start[m].retry < s.n Fld.MOTOR_STARTRETRY m) ∧
    (∃ (s : State) (m : Fin 4) (plus : Rat) (minus : Rat), s.start[m].state = .hfi ∧ 17 ≤ s.start[m].polN ∧ 0 ≤ minus ∧ minus < plus ∧
      1 / 10 * plus ≤ plus - minus) ∧
    (∃ (s : State) (m : Fin 4) (plus : Rat) (minus : Rat), s.start[m].state = .hfi ∧ 17 ≤ s.start[m].polN ∧ 0 ≤ plus ∧ plus < minus ∧
      1 / 10 * minus ≤ minus - plus) ∧
    (∃ (s : State) (m : Fin 4) (plus : Rat) (minus : Rat), s.start[m].polN < 17) ∧
    (∃ (s : State) (m : Fin 4), s.start[m].state = .hfi ∧ 17 ≤ s.start[m].polN ∧ s.start[m].retry < s.n Fld.MOTOR_STARTRETRY m) ∧
    (∃ (s : State) (m : Fin 4), s.start[m].polN ≠ 0) ∧
    (∃ (s : State) (m : Fin 4), s.start[m].state = .hfi ∧ s.start[m].polN = 0 ∧ s.n Fld.MOTOR_STARTRETRY m ≤ s.start[m].retry) ∧
    (∃ (s : State) (m : Fin 4), s.n Fld.MOTOR_POSMODE m ≠ 0 ∧ s.start[m].state = .iframp ∧ s.start[m].locked = true) ∧
    (∃ (s : State) (m : Fin 4), (s.start[m].state ≠ .iframp ∨ s.start[m].locked = false)) ∧
    (∃ (s : State) (m : Fin 4), s.start[m].state = .align ∧ s.induction m = false ∧ s.hasSpeedSource m = false) ∧
    (∃ (s : State) (m : Fin 4), s.start[m].state = .align ∧ s.induction m = false ∧ s.hasSpeedSource m = true) ∧
    (∃ (s : State) (m : Fin 4), s.start[m].state = .align ∧ s.induction m = true) ∧
    (∃ (s : State) (m : Fin 4), s.start[m].state = .iframp ∧ s.start[m].retry < s.n Fld.MOTOR_STARTRETRY m) ∧
    (∃ (s : State) (m : Fin 4), s.start[m].state = .search ∧ s.start[m].cross = none) ∧
    (∃ (s : State) (m : Fin 4) (f : Rat), s.start[m].state = .search ∧ s.start[m].cross = some f) ∧
    (∃ (s : State) (m : Fin 4), s.start[m].state = .flux ∧ s.hasSpeedSource m = true) ∧
    (∃ (s : State) (m : Fin 4), s.start[m].state = .flux ∧ s.hasSpeedSource m = false ∧ s.slower m (5 / 100) = true) ∧
    (∃ (s : State) (m : Fin 4), s.start[m].state = .flux ∧ s.start[m].retry < s.n Fld.MOTOR_STARTRETRY m) ∧
    (∃ (s : State) (m : Fin 4), s.start[m].state = .pause) :=
  ⟨⟨{ State.reset with
       start := (every State.reset.start fun e1 => { e1 with state := .sync }),
       br := (every State.reset.br fun e1 => { e1 with rec_ := some 0, mo := 0, enabled := true, form := .run, latch := false }),
       armed := (every State.reset.armed fun _ => true) }, 0, by decide +kernel⟩,
   ⟨State.reset, 0, by decide +kernel⟩,
   ⟨{ State.reset with
       start := (every State.reset.start fun e1 => { e1 with state := .sync }), used := [(fieldKey Fld.MOTOR_TYPE 0 0 0, .num 0)] }, 0,
     by decide +kernel⟩,
   ⟨{ State.reset with
       start := (every State.reset.start fun e1 => { e1 with state := .sync }), used := [(fieldKey Fld.MOTOR_TYPE 0 0 0, .num 2)] }, 0,
     by decide +kernel⟩,
   ⟨{ State.reset with start := (every State.reset.start fun e1 => { e1 with state := .sync, peak2 := 1000000 }) }, 0, by decide +kernel⟩,
   ⟨{ State.reset with start := (every State.reset.start fun e1 => { e1 with state := .hfi, polN := 17 }) }, 0, 1, 0, by decide +kernel⟩,
   ⟨{ State.reset with start := (every State.reset.start fun e1 => { e1 with state := .hfi, polN := 17 }) }, 0, 0, 1, by decide +kernel⟩,
   ⟨State.reset, 0, 0, 0, by decide +kernel⟩,
   ⟨{ State.reset with
       start := (every State.reset.start fun e1 => { e1 with state := .hfi, polN := 17 }),
       used := [(fieldKey Fld.MOTOR_STARTRETRY 0 0 0, .num 3)] }, 0, by decide +kernel⟩,
   ⟨{ State.reset with start := (every State.reset.start fun e1 => { e1 with polN := 1 }) }, 0, by decide +kernel⟩,
   ⟨{ State.reset with
       start := (every State.reset.start fun e1 => { e1 with state := .hfi, polN := 0, retry := 9 }) }, 0, by decide +kernel⟩,
   ⟨{ State.reset with
       start := (every State.reset.start fun e1 => { e1 with state := .iframp, locked := true }),
       used := [(fieldKey Fld.MOTOR_POSMODE 0 0 0, .num 1)] }, 0, by decide +kernel⟩,
   ⟨State.reset, 0, by decide +kernel⟩,
   ⟨{ State.reset with
       start := (every State.reset.start fun e1 => { e1 with state := .align }), used := [(fieldKey Fld.MOTOR_TYPE 0 0 0, .num 0)] }, 0,
     by decide +kernel⟩,
   ⟨{ State.reset with
       start := (every State.reset.start fun e1 => { e1 with state := .align }),
       posIf := (every State.reset.posIf fun e1 => { e1 with valid := true, abs := true, on := true }),
       used := [(fieldKey Fld.MOTOR_TYPE 0 0 0, .num 0)] }, 0, by decide +kernel⟩,
   ⟨{ State.reset with
       start := (every State.reset.start fun e1 => { e1 with state := .align }), used := [(fieldKey Fld.MOTOR_TYPE 0 0 0, .num 2)] }, 0,
     by decide +kernel⟩,
   ⟨{ State.reset with start := (every State.reset.start fun e1 => { e1 with state := .iframp }) }, 0, by decide +kernel⟩,
   ⟨{ State.reset with start := (every State.reset.start fun e1 => { e1 with state := .search, cross := none }) }, 0, by decide +kernel⟩,
   ⟨{ State.reset with
       start := (every State.reset.start fun e1 => { e1 with state := .search, cross := some 0 }) }, 0, 0, by decide +kernel⟩,
   ⟨{ State.reset with
       start := (every State.reset.start fun e1 => { e1 with state := .flux }),
       posIf := (every State.reset.posIf fun e1 => { e1 with valid := true, abs := true, on := true }) }, 0, by decide +kernel⟩,
   ⟨{ State.reset with start := (every State.reset.start fun e1 => { e1 with state := .flux }) }, 0, by decide +kernel⟩,
   ⟨{ State.reset with start := (every State.reset.start fun e1 => { e1 with state := .flux }) }, 0, by decide +kernel⟩,
   ⟨{ State.reset with start := (every State.reset.start fun e1 => { e1 with state := .pause }) }, 0, by decide +kernel⟩⟩

theorem test_meets_command_sources :
    (∃ (s : State) (m : Fin 4) (v : Word) (q : Rat), ofF32 v = .num q ∧ (∀ j : Fin 4, s.n Fld.LOOP_SRC m j ≠ 33)) ∧
    (∃ (s : State) (m : Fin 4) (v : Word) (q : Rat), ofF32 v = .num q ∧ (∀ j : Fin 4, s.n Fld.LOOP_SRC m j = 33 ↔ j = s.cmd[m].actSrc) ∧
      s.cmd[m].xfer = none ∧ s.cmd[m].lost = false) ∧
    (∃ (s : State) (m : Fin 4) (j : Fin 4), (s.source m j).isSome = true ∧ s.sourceFresh m j = true) ∧
    (∃ (s : State) (m : Fin 4) (j : Fin 4), (s.source m j = none ∨ s.sourceFresh m j = false)) ∧
    (∃ (s : State) (m : Fin 4) (j : Fin 4) (at_ : Nat), s.cmd[m].xfer = some (j, at_)) ∧
    (∃ (s : State) (m : Fin 4), s.cmd[m].xfer = none) ∧
    (∃ (s : State) (m : Fin 4) (x : Rat) (at_ : Nat), s.source m s.cmd[m].actSrc = some (x, some at_) ∧ s.cmd[m].lost = false ∧
      s.sourceFresh m s.cmd[m].actSrc = false ∧ s.em[m].mode.ownsReference = false ∧ s.n Fld.LOOP_LOSSACT m = 0) ∧
    (∃ (s : State) (m : Fin 4) (x : Rat) (at_ : Nat), s.source m s.cmd[m].actSrc = some (x, some at_) ∧ s.cmd[m].lost = false ∧
      s.sourceFresh m s.cmd[m].actSrc = false ∧ s.em[m].mode.ownsReference = true) ∧
    (∃ (s : State) (m : Fin 4), (s.cmd[m].lost = true ∨ s.sourceFresh m s.cmd[m].actSrc = true)) :=
  ⟨⟨State.reset, 0, 0, 0, by decide +kernel⟩,
   ⟨{ State.reset with
       cmd := (every State.reset.cmd fun e1 => { e1 with xfer := none, lost := false }), used := [(fieldKey Fld.LOOP_SRC 0 0 0, .num 33)] },
     0, 0, 0, by decide +kernel⟩,
   ⟨{ State.reset with
       cmd := (every State.reset.cmd fun e1 => { e1 with setptAt := some 0 }), used := [(fieldKey Fld.LOOP_SRC 0 0 0, .num 33)] }, 0, 0,
     by decide +kernel⟩,
   ⟨State.reset, 0, 0, by decide +kernel⟩,
   ⟨{ State.reset with cmd := (every State.reset.cmd fun e1 => { e1 with xfer := some (0, 0) }) }, 0, 0, 0, by decide +kernel⟩,
   ⟨{ State.reset with cmd := (every State.reset.cmd fun e1 => { e1 with xfer := none }) }, 0, by decide +kernel⟩,
   ⟨{ State.reset with
       up := 1000000000000000, cmd := (every State.reset.cmd fun e1 => { e1 with setptAt := some 0 }),
       used := [(fieldKey Fld.LOOP_LOSSACT 0 0 0, .num 0), (fieldKey Fld.LOOP_SRC 0 0 0, .num 33)] }, 0, 0, 0, by decide +kernel⟩,
   ⟨{ State.reset with
       up := 1000000000000000, cmd := (every State.reset.cmd fun e1 => { e1 with setptAt := some 0 }),
       em := (every State.reset.em fun e1 => { e1 with mode := .eqr }), used := [(fieldKey Fld.LOOP_SRC 0 0 0, .num 33)] }, 0, 0, 0,
     by decide +kernel⟩,
   ⟨{ State.reset with cmd := (every State.reset.cmd fun e1 => { e1 with lost := true }) }, 0, by decide +kernel⟩⟩

theorem test_meets_outer_loop_modes :
    (∃ (s : State) (m : Fin 4) (mode : BitVec 2), s.shock[m].render = false ∧ s.heave[m].g ≤ 0 ∧ s.heave[m].ofs = 0 ∧
      s.outer[m].spoolOk = true ∧ (s.brake[m].state = .closed ∨ s.brake[m].state = .open_ ∨ s.brake[m].state = .holdFault)) ∧
    (∃ (s : State) (m : Fin 4) (mode : BitVec 2), s.shock[m].render = true) ∧
    (∃ (s : State) (m : Fin 4) (mode : BitVec 2), s.shock[m].render = false ∧ (0 < s.heave[m].g ∨ s.heave[m].ofs ≠ 0)) ∧
    (∃ (s : State) (m : Fin 4) (q : Rat), s.shock[m].render = false ∧ s.runsHere m = true ∧ ofF32 s.outer[m].spoolSet = .num q) ∧
    (∃ (s : State) (m : Fin 4), s.shock[m].render = true) ∧
    (∃ (s : State) (m : Fin 4) (md : OlMode), s.bridges m ≠ [] ∧ s.fab.tasks[8 + m.1].engine.isSome = true ∧ s.runsHere m = true ∧
      s.outer[m].modePend = some md) ∧
    (∃ (s : State) (m : Fin 4), s.bridges m ≠ [] ∧ s.fab.tasks[8 + m.1].engine.isSome = true ∧ s.inGroup m = false ∧
      s.start[m].state ≠ .run) ∧
    (∃ (s : State) (m : Fin 4), (s.bridges m = [] ∨ s.fab.tasks[8 + m.1].engine = none)) :=
  ⟨⟨{ State.reset with
       shock := (every State.reset.shock fun e1 => { e1 with render := false }),
       heave := (every State.reset.heave fun e1 => { e1 with ofs := 0 }),
       outer := (every State.reset.outer fun e1 => { e1 with spoolOk := true }),
       brake := (every State.reset.brake fun e1 => { e1 with state := .closed }) }, 0, 0, by decide +kernel⟩,
   ⟨{ State.reset with shock := (every State.reset.shock fun e1 => { e1 with render := true }) }, 0, 0, by decide +kernel⟩,
   ⟨{ State.reset with
       shock := (every State.reset.shock fun e1 => { e1 with render := false }),
       heave := (every State.reset.heave fun e1 => { e1 with g := 1 }) }, 0, 0, by decide +kernel⟩,
   ⟨{ State.reset with shock := (every State.reset.shock fun e1 => { e1 with render := false }) }, 0, 0, by decide +kernel⟩,
   ⟨{ State.reset with shock := (every State.reset.shock fun e1 => { e1 with render := true }) }, 0, by decide +kernel⟩,
   ⟨{ State.reset with
       br := (every State.reset.br fun e1 => { e1 with rec_ := some 0 }),
       fab := { State.reset.fab with tasks := (every State.reset.fab.tasks fun e1 => { e1 with engine := some default }) },
       outer := (every State.reset.outer fun e1 => { e1 with modePend := (some .speed) }) }, 0, .speed, by decide +kernel⟩,
   ⟨{ State.reset with
       br := (every State.reset.br fun e1 => { e1 with rec_ := some 0 }),
       fab := { State.reset.fab with tasks := (every State.reset.fab.tasks fun e1 => { e1 with engine := some default }) } }, 0,
     by decide +kernel⟩,
   ⟨State.reset, 0, by decide +kernel⟩⟩

theorem test_meets_run_stop_and_clear :
    (∃ (s : State) (m : Fin 4), s.inGroup m = false ∧ s.start[m].state = .idle ∧ s.outer[m].short = false ∧ s.startRefusal m = 0 ∧
      s.gatesReady m = true) ∧
    (∃ (s : State) (m : Fin 4), s.inGroup m = false ∧ s.start[m].state = .idle ∧ s.outer[m].short = false ∧ s.startRefusal m ≠ 0) ∧
    (∃ (s : State) (m : Fin 4), s.inGroup m = false ∧ s.start[m].state = .run ∧ s.brake[m].state = .open_ ∧ s.em[m].mode = .modeLaw) ∧
    (∃ (s : State) (m : Fin 4), s.inGroup m = false ∧ s.start[m].state = .idle ∧ s.em[m].mode = .modeLaw ∧ s.em[m].free = false) ∧
    (∃ (s : State) (m : Fin 4), s.inGroup m = false ∧ (s.start[m].state = .align ∨ s.start[m].state = .sync ∨ s.start[m].state = .pause)) ∧
    (∃ (s : State) (m : Fin 4), s.start[m].state = .failed) ∧
    (∃ (s : State) (m : Fin 4), s.slowLong m = false) ∧
    (∃ (s : State) (m : Fin 4), s.slowLong m = true ∧ s.em[m].mode = .cat1 ∧ s.em[m].stopped = false ∧ s.em[m].stopBy = .command ∧
      s.em[m].pend = [] ∧ s.em[m].free = false ∧ s.inGroup m = false ∧ s.start[m].state = .run ∧ s.braked m = false ∧
      s.yes Fld.MOTOR_HOIST m = false ∧ s.n Fld.MOTOR_STANDSTILL m ≠ 1) ∧
    (∃ (s : State) (m : Fin 4), s.slowLong m = true ∧ s.em[m].mode = .cat2 ∧ s.em[m].stopped = false ∧ s.inGroup m = false ∧
      s.start[m].state = .run) ∧
    (∃ (s : State) (m : Fin 4), s.slowLong m = true ∧ s.em[m].mode = .eqr ∧ s.em[m].eqrEnding = true ∧ s.braked m = true) ∧
    (∃ (s : State) (m : Fin 4), s.em[m].mode = .modeLaw) :=
  ⟨⟨{ State.reset with
       start := (every State.reset.start fun e1 => { e1 with state := .idle }),
       outer := (every State.reset.outer fun e1 => { e1 with short := false }),
       br := (every State.reset.br fun e1 => { e1 with rec_ := some 0, mo := 0, enabled := true }),
       armed := (every State.reset.armed fun _ => true) }, 0, by decide +kernel⟩,
   ⟨{ State.reset with
       start := (every State.reset.start fun e1 => { e1 with state := .idle }),
       outer := (every State.reset.outer fun e1 => { e1 with short := false }) }, 0, by decide +kernel⟩,
   ⟨{ State.reset with
       start := (every State.reset.start fun e1 => { e1 with state := .run }),
       brake := (every State.reset.brake fun e1 => { e1 with state := .open_ }),
       em := (every State.reset.em fun e1 => { e1 with mode := .modeLaw }) }, 0, by decide +kernel⟩,
   ⟨{ State.reset with
       start := (every State.reset.start fun e1 => { e1 with state := .idle }),
       em := (every State.reset.em fun e1 => { e1 with mode := .modeLaw, free := false }) }, 0, by decide +kernel⟩,
   ⟨{ State.reset with start := (every State.reset.start fun e1 => { e1 with state := .align }) }, 0, by decide +kernel⟩,
   ⟨{ State.reset with start := (every State.reset.start fun e1 => { e1 with state := .failed }) }, 0, by decide +kernel⟩,
   ⟨State.reset, 0, by decide +kernel⟩,
   ⟨{ State.reset with
       em := (every State.reset.em fun e1 => { e1 with mode := .cat1, stopped := false, stopBy := .command, pend := [], free := false }),
       start := (every State.reset.start fun e1 => { e1 with state := .run }), up := 1000000000000000,
       outer := (every State.reset.outer fun e1 => { e1 with slow := some 0 }),
       used := [(fieldKey Fld.MOTOR_HOIST 0 0 0, .num 0), (fieldKey Fld.MOTOR_STANDSTILL 0 0 0, .num 0)] }, 0, by decide +kernel⟩,
   ⟨{ State.reset with
       em := (every State.reset.em fun e1 => { e1 with mode := .cat2, stopped := false }),
       start := (every State.reset.start fun e1 => { e1 with state := .run }), up := 1000000000000000,
       outer := (every State.reset.outer fun e1 => { e1 with slow := some 0 }) }, 0, by decide +kernel⟩,
   ⟨{ State.reset with
       em := (every State.reset.em fun e1 => { e1 with mode := .eqr, eqrEnding := true }), up := 1000000000000000,
       outer := (every State.reset.outer fun e1 => { e1 with slow := some 0 }), used := [(fieldKey Fld.MOTOR_BRAKE0 0 0 0, .num 1)] }, 0,
     by decide +kernel⟩,
   ⟨{ State.reset with em := (every State.reset.em fun e1 => { e1 with mode := .modeLaw }) }, 0, by decide +kernel⟩⟩

theorem test_meets_brake_sequence :
    (∃ (s : State) (m : Fin 4), s.brake[m].state = .proving ∧ s.brake[m].abort = false ∧ s.proveMoved m = false ∧ s.proveHeld m = true) ∧
    (∃ (s : State) (m : Fin 4), s.brake[m].state = .proving ∧ s.brake[m].abort = false ∧ (s.proveMoved m = true ∨ s.proveHeld m = false)) ∧
    (∃ (s : State) (m : Fin 4), s.brake[m].state ≠ .proving) ∧
    (∃ (s : State) (m : Fin 4), s.brake[m].state = .opening ∧ s.pairReads (s.n Fld.MOTOR_BRKFB m) = true) ∧
    (∃ (s : State) (m : Fin 4), (s.brake[m].state ≠ .opening ∨ s.pairReads (s.n Fld.MOTOR_BRKFB m) = false)) ∧
    (∃ (s : State) (m : Fin 4), s.brake[m].state = .opening ∧ s.n Fld.MOTOR_BRKFB m = 0) ∧
    (∃ (s : State) (m : Fin 4), s.brake[m].state = .opening ∧ s.n Fld.MOTOR_BRKFB m ≠ 0) ∧
    (∃ (s : State) (m : Fin 4), s.brake[m].state = .closing) ∧
    (∃ (s : State) (m : Fin 4), s.brake[m].state = .slipTest ∧ s.proveMoved m = true) ∧
    (∃ (s : State) (m : Fin 4), s.brake[m].state = .slipTest ∧ s.proveMoved m = false ∧ s.brake[m].runNext = false ∧
      s.inGroup m = false ∧ (s.em[m].mode = .modeLaw ∨ s.em[m].mode = .cat1 ∧ s.em[m].stopBy = .command)) ∧
    (∃ (s : State) (m : Fin 4), s.brake[m].state = .slipTest ∧ s.proveMoved m = false ∧ s.brake[m].runNext = true ∧ s.em[m].mode = .modeLaw) :=
  ⟨⟨{ State.reset with
       brake := (every State.reset.brake fun e1 => { e1 with state := .proving, abort := false }),
       loops := (every State.reset.loops fun e1 => { e1 with iq := 1000000 }),
       used := [(fieldKey Fld.MOTOR_PROVEMOV 0 0 0, .num 1), (fieldKey Fld.MOTOR_PSI 0 0 0, .num 1), (fieldKey Fld.MOTOR_POLEPAIRS 0 0 0, .num 1)] },
     0, by decide +kernel⟩,
   ⟨{ State.reset with brake := (every State.reset.brake fun e1 => { e1 with state := .proving, abort := false }) }, 0, by decide +kernel⟩,
   ⟨State.reset, 0, by decide +kernel⟩,
   ⟨{ State.reset with
       brake := (every State.reset.brake fun e1 => { e1 with state := .opening }),
       garnet := { State.reset.garnet with si := (every State.reset.garnet.si fun e1 => { e1 with level := true }) },
       used := [(fieldKey Fld.MOTOR_BRKFB 0 0 0, .num 1)] }, 0, by decide +kernel⟩,
   ⟨State.reset, 0, by decide +kernel⟩,
   ⟨{ State.reset with
       brake := (every State.reset.brake fun e1 => { e1 with state := .opening }), used := [(fieldKey Fld.MOTOR_BRKFB 0 0 0, .num 0)] }, 0,
     by decide +kernel⟩,
   ⟨{ State.reset with
       brake := (every State.reset.brake fun e1 => { e1 with state := .opening }), used := [(fieldKey Fld.MOTOR_BRKFB 0 0 0, .num 1)] }, 0,
     by decide +kernel⟩,
   ⟨{ State.reset with brake := (every State.reset.brake fun e1 => { e1 with state := .closing }) }, 0, by decide +kernel⟩,
   ⟨{ State.reset with
       brake := (every State.reset.brake fun e1 => { e1 with state := .slipTest }), used := [(fieldKey Fld.MOTOR_PROVEMOV 0 0 0, .num 0)] },
     0, by decide +kernel⟩,
   ⟨{ State.reset with
       brake := (every State.reset.brake fun e1 => { e1 with state := .slipTest, runNext := false }),
       em := (every State.reset.em fun e1 => { e1 with mode := .modeLaw }) }, 0, by decide +kernel⟩,
   ⟨{ State.reset with
       brake := (every State.reset.brake fun e1 => { e1 with state := .slipTest, runNext := true }),
       em := (every State.reset.em fun e1 => { e1 with mode := .modeLaw }) }, 0, by decide +kernel⟩⟩

theorem test_meets_emergency_stops :
    (∃ (s : State) (m : Fin 4), s.inGroup m = false ∧ s.start[m].state = .run ∧ s.brake[m].state = .open_ ∧ s.em[m].mode = .modeLaw) ∧
    (∃ (s : State) (m : Fin 4), s.inGroup m = false ∧ s.start[m].state = .run ∧ s.brake[m].state = .open_ ∧ s.em[m].mode = .quick) ∧
    (∃ (s : State) (m : Fin 4), s.em[m].mode.isStop = true ∧ s.em[m].stopped = false ∧ s.start[m].state ≠ .idle ∧ s.stopLate m = true) ∧
    (∃ (s : State) (m : Fin 4), (s.em[m].mode.isStop = false ∨ s.em[m].stopped = true ∨ s.stopLate m = false)) :=
  ⟨⟨{ State.reset with
       start := (every State.reset.start fun e1 => { e1 with state := .run }),
       brake := (every State.reset.brake fun e1 => { e1 with state := .open_ }),
       em := (every State.reset.em fun e1 => { e1 with mode := .modeLaw }) }, 0, by decide +kernel⟩,
   ⟨{ State.reset with
       start := (every State.reset.start fun e1 => { e1 with state := .run }),
       brake := (every State.reset.brake fun e1 => { e1 with state := .open_ }),
       em := (every State.reset.em fun e1 => { e1 with mode := .quick }) }, 0, by decide +kernel⟩,
   ⟨{ lateStop with up := lateUp (lateQuot lateStop 0) }, 0, by
        refine ⟨by decide +kernel, by decide +kernel, by decide +kernel, ?_⟩
        exact stopLate_lateStop⟩,
   ⟨State.reset, 0, by decide +kernel⟩⟩

theorem test_meets_drum_emergencies :
    (∃ (s : State) (m : Fin 4), s.runsHere m = true ∧ s.yes Fld.EMERGENCY_EQREN m = true ∧ s.em[m].mode ≠ .cat0 ∧ s.blocked m = false ∧
      s.yes Fld.SAFETY_MO_EQRHOLD 0 m = true ∧ s.em[m].mode ≠ .eqr) ∧
    (∃ (s : State) (m : Fin 4), (s.yes Fld.EMERGENCY_EQREN m = false ∨ s.runsHere m = false ∨ s.em[m].mode = .cat0 ∨ s.blocked m = true)) ∧
    (∃ (s : State) (m : Fin 4), s.runsHere m = true ∧ s.yes Fld.EMERGENCY_EQREN m = true ∧ s.em[m].mode ≠ .cat0 ∧ s.blocked m = false ∧
      s.yes Fld.SAFETY_MO_EQRHOLD 0 m = false) ∧
    (∃ (s : State) (m : Fin 4), s.pairReads (s.n Fld.EMERGENCY_EQRIN m) = true ∧ s.runsHere m = true ∧
      s.yes Fld.EMERGENCY_EQREN m = true ∧ s.em[m].mode ≠ .cat0 ∧ s.blocked m = false ∧ s.yes Fld.SAFETY_MO_EQRHOLD 0 m = true ∧
      s.em[m].mode ≠ .eqr) ∧
    (∃ (s : State) (m : Fin 4), s.pairReads (s.n Fld.EMERGENCY_EQRIN m) = false) ∧
    (∃ (s : State) (m : Fin 4), s.em[m].mode = .eqr) ∧
    (∃ (s : State) (m : Fin 4), s.em[m].mode ≠ .eqr ∧ s.em[m].free = true) ∧
    (∃ (s : State) (m : Fin 4), s.yes Fld.EMERGENCY_CROEN m = true ∧ s.drumLive m = true ∧ s.outer[m].mode ≠ .torque ∧
      s.below m .cro = true ∧ heldFor s.em[m].over_ s.up (s.n Fld.EMERGENCY_CRODLY m * 1000000) = true) ∧
    (∃ (s : State) (m : Fin 4),
      (s.yes Fld.EMERGENCY_CROEN m = false ∨ s.drumLive m = false ∨ heldFor s.em[m].over_ s.up (s.n Fld.EMERGENCY_CRODLY m * 1000000) = false)) ∧
    (∃ (s : State) (m : Fin 4), s.em[m].mode = .cro ∧ s.em[m].pend = [] ∧ s.em[m].free = false ∧
      heldFor s.em[m].under s.up (natQ (s.q Fld.EMERGENCY_CROHOLD m * 1000000000)) = true) ∧
    (∃ (s : State) (m : Fin 4), (s.em[m].mode ≠ .cro ∨ s.em[m].under = none)) ∧
    (∃ (s : State) (m : Fin 4), s.yes Fld.EMERGENCY_SLKEN m = true ∧ s.drumLive m = true ∧ s.em[m].mode ≠ .eqr ∧ s.below m .sla = true ∧
      s.slackNow m = true) ∧
    (∃ (s : State) (m : Fin 4), s.yes Fld.EMERGENCY_SLKEN m = true ∧ s.drumLive m = true ∧ s.em[m].mode = .eqr ∧ s.slackNow m = true ∧
      s.em[m].slackTold = false) ∧
    (∃ (s : State) (m : Fin 4), (s.yes Fld.EMERGENCY_SLKEN m = false ∨ s.drumLive m = false ∨ s.slackNow m = false)) ∧
    (∃ (s : State) (m : Fin 4), s.em[m].mode = .sla ∧ s.em[m].pend = [] ∧ s.em[m].free = false ∧ s.q Fld.EMERGENCY_SLKF m ≤ s.drumF m ∧
      s.pairReads (s.n Fld.EMERGENCY_SLKIN m) = false) ∧
    (∃ (s : State) (m : Fin 4),
      (s.em[m].mode ≠ .sla ∨ s.drumF m < s.q Fld.EMERGENCY_SLKF m ∨ s.pairReads (s.n Fld.EMERGENCY_SLKIN m) = true)) ∧
    (∃ (s : State) (m : Fin 4), s.renderSpent m = true) ∧
    (∃ (s : State) (m : Fin 4), s.renderSpent m = false) :=
  ⟨⟨{ State.reset with
       used := [(fieldKey Fld.EMERGENCY_EQREN 0 0 0, .num 1), (fieldKey Fld.SAFETY_MO_EQRHOLD 0 0 0, .num 1)] }, 0, by decide +kernel⟩,
   ⟨{ State.reset with used := [(fieldKey Fld.EMERGENCY_EQREN 0 0 0, .num 0)] }, 0, by decide +kernel⟩,
   ⟨{ State.reset with
       used := [(fieldKey Fld.EMERGENCY_EQREN 0 0 0, .num 1), (fieldKey Fld.SAFETY_MO_EQRHOLD 0 0 0, .num 0)] }, 0, by decide +kernel⟩,
   ⟨{ State.reset with
       garnet := { State.reset.garnet with si := (every State.reset.garnet.si fun e1 => { e1 with level := true }) },
       used := [(fieldKey Fld.EMERGENCY_EQREN 0 0 0, .num 1), (fieldKey Fld.SAFETY_MO_EQRHOLD 0 0 0, .num 1), (fieldKey Fld.EMERGENCY_EQRIN 0 0 0, .num 1)] },
     0, by decide +kernel⟩,
   ⟨State.reset, 0, by decide +kernel⟩,
   ⟨{ State.reset with em := (every State.reset.em fun e1 => { e1 with mode := .eqr }) }, 0, by decide +kernel⟩,
   ⟨{ State.reset with em := (every State.reset.em fun e1 => { e1 with free := true }) }, 0, by decide +kernel⟩,
   ⟨{ State.reset with
       up := 1000000000000000, start := (every State.reset.start fun e1 => { e1 with state := .run }),
       em := (every State.reset.em fun e1 => { e1 with over_ := some 0 }), used := [(fieldKey Fld.EMERGENCY_CROEN 0 0 0, .num 1)] }, 0,
     by decide +kernel⟩,
   ⟨{ State.reset with used := [(fieldKey Fld.EMERGENCY_CROEN 0 0 0, .num 0)] }, 0, by decide +kernel⟩,
   ⟨{ State.reset with
       em := (every State.reset.em fun e1 => { e1 with mode := .cro, pend := [], free := false, under := some 0 }),
       up := 1000000000000000 }, 0, by decide +kernel⟩,
   ⟨State.reset, 0, by decide +kernel⟩,
   ⟨{ State.reset with
       up := 1000000000000000, start := (every State.reset.start fun e1 => { e1 with state := .run }),
       em := (every State.reset.em fun e1 => { e1 with slack := some 0 }), used := [(fieldKey Fld.EMERGENCY_SLKEN 0 0 0, .num 1)] }, 0,
     by decide +kernel⟩,
   ⟨{ State.reset with
       em := (every State.reset.em fun e1 => { e1 with mode := .eqr, slackTold := false, slack := some 0 }), up := 1000000000000000,
       start := (every State.reset.start fun e1 => { e1 with state := .run }), used := [(fieldKey Fld.EMERGENCY_SLKEN 0 0 0, .num 1)] }, 0,
     by decide +kernel⟩,
   ⟨{ State.reset with used := [(fieldKey Fld.EMERGENCY_SLKEN 0 0 0, .num 0)] }, 0, by decide +kernel⟩,
   ⟨{ State.reset with
       em := (every State.reset.em fun e1 => { e1 with mode := .sla, pend := [], free := false }),
       used := [(fieldKey Fld.EMERGENCY_SLKF 0 0 0, .num 0)] }, 0, by decide +kernel⟩,
   ⟨State.reset, 0, by decide +kernel⟩,
   ⟨{ State.reset with
       up := 1000000000000000, shock := (every State.reset.shock fun e1 => { e1 with render := true, hot := some 0 }) }, 0,
     by decide +kernel⟩,
   ⟨State.reset, 0, by decide +kernel⟩⟩

theorem test_meets_thrust_blackout_degraded :
    (∃ (s : State) (m : Fin 4), s.em[m].etAct = false ∧ s.yes Fld.EMERGENCY_ETEN m = true ∧ 1000 ≤ s.etAvailMs m) ∧
    (∃ (s : State) (m : Fin 4), s.em[m].etAct = false ∧ (s.yes Fld.EMERGENCY_ETEN m = false ∨ s.etAvailMs m < 1000)) ∧
    (∃ (s : State) (m : Fin 4), s.em[m].etAct = true) ∧
    (∃ (s : State) (m : Fin 4), s.em[m].etAct = true ∧ s.etAvailMs m = 0) ∧
    (∃ (s : State) (m : Fin 4), s.em[m].etAct = false ∧ s.em[m].etFade = true ∧
      s.em[m].etAt + natQ (s.q Fld.EMERGENCY_ETFADE m * 1000000000) ≤ s.up) ∧
    (∃ (s : State) (m : Fin 4), s.cmd[m].lost = true ∧ s.em[m].escDone = false ∧
      s.em[m].lossAt + s.n Fld.EMERGENCY_LOSSTMAX m * 1000000000 ≤ s.up ∧ s.n Fld.EMERGENCY_LOSSESC m = 0) ∧
    (∃ (s : State) (m : Fin 4), s.cmd[m].lost = true ∧ s.em[m].escDone = false ∧
      s.em[m].lossAt + s.n Fld.EMERGENCY_LOSSTMAX m * 1000000000 ≤ s.up ∧ s.n Fld.EMERGENCY_LOSSESC m = 1) ∧
    (∃ (s : State) (m : Fin 4), s.inBlackout m = false ∧ s.linkBelow m (s.q Fld.EMERGENCY_BOUV m) = true) ∧
    (∃ (s : State) (m : Fin 4), (s.inBlackout m = true ∨ s.linkBelow m (s.q Fld.EMERGENCY_BOUV m) = false)) ∧
    (∃ (s : State) (m : Fin 4), s.inBlackout m = true ∧ s.linkBelow m (s.q Fld.EMERGENCY_BORECOV m) = false) ∧
    (∃ (s : State) (m : Fin 4), s.em[m].boWait = true ∧ heldFor s.em[m].boGoodAt s.up (s.restartDelay m) = true) ∧
    (∃ (s : State) (m : Fin 4), (s.em[m].boWait = false ∨ s.em[m].boGoodAt = none)) ∧
    (∃ (s : State) (m : Fin 4), s.em[m].boAt + s.n Fld.EMERGENCY_BOMEM m * 1000000000 ≤ s.up) ∧
    (∃ (s : State) (m : Fin 4) (rank : Fin 4) (n : Fin 8), s.yes Fld.EMERGENCY_DEGRADE m = true ∧ 2 ≤ (s.feeding m).length ∧
      s.em[m].degr = .none_ ∧ s.start[m].state = .idle ∧ (s.feeding m)[rank.1]? = some n) ∧
    (∃ (s : State) (m : Fin 4) (rank : Fin 4), s.yes Fld.EMERGENCY_DEGRADE m = false) ∧
    (∃ (s : State) (m : Fin 4) (n : Fin 8), s.em[m].degr = .waiting ∧ (s.feeding m)[s.em[m].degrRank]? = some n ∧
      s.pairReads (s.n Fld.BRIDGE_ISOIN (s.recOf n)) = true) ∧
    (∃ (s : State) (m : Fin 4), s.em[m].degr = .waiting) ∧
    (∃ (s : State) (m : Fin 4), s.start[m].state = .idle ∧ (s.em[m].degr = .on ∨ s.em[m].degr = .failed)) ∧
    (∃ (s : State) (m : Fin 4), (s.start[m].state ≠ .idle ∨ s.em[m].degr = .none_ ∨ s.em[m].degr = .waiting)) :=
  ⟨⟨{ State.reset with
       em := (every State.reset.em fun e1 => { e1 with etAct := false }), used := [(fieldKey Fld.EMERGENCY_ETEN 0 0 0, .num 1)] }, 0,
     by decide +kernel⟩,
   ⟨{ State.reset with
       em := (every State.reset.em fun e1 => { e1 with etAct := false }), used := [(fieldKey Fld.EMERGENCY_ETEN 0 0 0, .num 0)] }, 0,
     by decide +kernel⟩,
   ⟨{ State.reset with em := (every State.reset.em fun e1 => { e1 with etAct := true }) }, 0, by decide +kernel⟩,
   ⟨{ State.reset with
       em := (every State.reset.em fun e1 => { e1 with etAct := true }), used := [(fieldKey Fld.EMERGENCY_ETBUD 0 0 0, .num 0)] }, 0,
     by decide +kernel⟩,
   ⟨{ State.reset with
       em := (every State.reset.em fun e1 => { e1 with etAct := false, etFade := true }), up := 1000000000000000 }, 0, by decide +kernel⟩,
   ⟨{ State.reset with
       cmd := (every State.reset.cmd fun e1 => { e1 with lost := true }),
       em := (every State.reset.em fun e1 => { e1 with escDone := false }), up := 1000000000000000,
       used := [(fieldKey Fld.EMERGENCY_LOSSESC 0 0 0, .num 0)] }, 0, by decide +kernel⟩,
   ⟨{ State.reset with
       cmd := (every State.reset.cmd fun e1 => { e1 with lost := true }),
       em := (every State.reset.em fun e1 => { e1 with escDone := false }), up := 1000000000000000,
       used := [(fieldKey Fld.EMERGENCY_LOSSESC 0 0 0, .num 1)] }, 0, by decide +kernel⟩,
   ⟨{ State.reset with
       br := (every State.reset.br fun e1 => { e1 with rec_ := some 0, mo := 0 }),
       used := [(fieldKey Fld.EMERGENCY_VDCNOM 0 0 0, .num 1), (fieldKey Fld.EMERGENCY_BOUV 0 0 0, .num 50), (fieldKey Fld.BRIDGE_VDCGAIN 0 0 0, .num 0), (fieldKey Fld.BRIDGE_VDCOFS 0 0 0, .num 0)] },
     0, by decide +kernel⟩,
   ⟨State.reset, 0, by decide +kernel⟩,
   ⟨{ State.reset with reacts := (every State.reset.reacts fun _ => [aStopReact]) }, 0, by decide +kernel⟩,
   ⟨{ State.reset with
       em := (every State.reset.em fun e1 => { e1 with boWait := true, boGoodAt := some 0 }), up := 1000000000000000 }, 0,
     by decide +kernel⟩,
   ⟨{ State.reset with em := (every State.reset.em fun e1 => { e1 with boWait := false }) }, 0, by decide +kernel⟩,
   ⟨{ State.reset with up := 1000000000000000 }, 0, by decide +kernel⟩,
   ⟨{ State.reset with
       em := (every State.reset.em fun e1 => { e1 with degr := .none_ }),
       start := (every State.reset.start fun e1 => { e1 with state := .idle }),
       br := (every State.reset.br fun e1 => { e1 with rec_ := some 0, mo := 0 }),
       used := [(fieldKey Fld.EMERGENCY_DEGRADE 0 0 0, .num 1)] }, 0, 0, 0, by decide +kernel⟩,
   ⟨{ State.reset with used := [(fieldKey Fld.EMERGENCY_DEGRADE 0 0 0, .num 0)] }, 0, 0, by decide +kernel⟩,
   ⟨{ State.reset with
       em := (every State.reset.em fun e1 => { e1 with degr := .waiting }),
       br := (every State.reset.br fun e1 => { e1 with rec_ := some 0, mo := 0 }),
       garnet := { State.reset.garnet with si := (every State.reset.garnet.si fun e1 => { e1 with level := true }) },
       used := [(fieldKey Fld.BRIDGE_ISOIN 0 0 0, .num 1)] }, 0, 0, by decide +kernel⟩,
   ⟨{ State.reset with em := (every State.reset.em fun e1 => { e1 with degr := .waiting }) }, 0, by decide +kernel⟩,
   ⟨{ State.reset with
       start := (every State.reset.start fun e1 => { e1 with state := .idle }),
       em := (every State.reset.em fun e1 => { e1 with degr := .on }) }, 0, by decide +kernel⟩,
   ⟨State.reset, 0, by decide +kernel⟩⟩

theorem test_meets_shock_and_render :
    (∃ (s : State) (m : Fin 4), s.yes Fld.LOOP_SHKEN m = true ∧ s.runsHere m = true ∧ s.pinFlags m = (false, false) ∧
      s.shock[m].baseSet = true ∧ s.shock[m].render = false ∧ s.shock[m].n + 1 ≠ s.n Fld.LOOP_SHKN m ∧ 0 < s.n Fld.LOOP_SHKN m) ∧
    (∃ (s : State) (m : Fin 4), s.yes Fld.LOOP_SHKEN m = true ∧ s.runsHere m = true ∧ s.pinFlags m = (false, false) ∧
      s.shock[m].baseSet = true ∧ s.shock[m].n + 1 = s.n Fld.LOOP_SHKN m ∧ s.q Fld.LOOP_SHKDF m < s.shockF m - s.shock[m].base ∧
      s.shockArmed m = true) ∧
    (∃ (s : State) (m : Fin 4) (sus : Bool), s.yes Fld.LOOP_SHKEN m = true ∧ s.runsHere m = true ∧ s.pinFlags m = (true, sus) ∧
      s.shock[m].ovrRun < 2) ∧
    (∃ (s : State) (m : Fin 4) (sus : Bool), s.yes Fld.LOOP_SHKEN m = true ∧ s.runsHere m = true ∧ s.pinFlags m = (true, sus) ∧
      s.shock[m].ovrRun = 2) ∧
    (∃ (s : State) (m : Fin 4), s.yes Fld.LOOP_SHKEN m = false) ∧
    (∃ (s : State) (m : Fin 4), s.n Fld.LOOP_SHKSRC m = 0 ∧ s.shock[m].srcfb = false ∧ s.yes Fld.LOOP_SHKEN m = true) ∧
    (∃ (s : State) (m : Fin 4), s.shock[m].srcfb = true) ∧
    (∃ (s : State) (m : Fin 4), s.renderCalm m = true) ∧
    (∃ (s : State) (m : Fin 4), s.renderCalm m = false) :=
  ⟨⟨{ State.reset with
       shock := (every State.reset.shock fun e1 => { e1 with baseSet := true, render := false }),
       used := [(fieldKey Fld.LOOP_SHKEN 0 0 0, .num 1)] }, 0, by decide +kernel⟩,
   ⟨{ State.reset with
       shock := (every State.reset.shock fun e1 => { e1 with baseSet := true, base := -1000000000 }),
       start := (every State.reset.start fun e1 => { e1 with state := .run }),
       used := [(fieldKey Fld.LOOP_SHKEN 0 0 0, .num 1), (fieldKey Fld.LOOP_SHKN 0 0 0, .num 1), (fieldKey Fld.LOOP_SHKPIN 0 0 0, .num 1), (fieldKey Fld.CELL_SQ_MODE 0 0 0, .num 1), (fieldKey Fld.CELL_SQ_LEN 0 0 0, .num 1), (fieldKey Fld.CELL_SQ_E_IN 0 0 0, .num 0), (fieldKey Fld.LOOP_SHKSRC 0 0 0, .num 0)] },
     0, by decide +kernel⟩,
   ⟨{ State.reset with
       cells := (every State.reset.cells fun e1 => { e1 with sq := (every e1.sq fun e2 => { e2 with res := (every e2.res fun e3 => { e3 with ovr := true }) }) }),
       used := [(fieldKey Fld.LOOP_SHKEN 0 0 0, .num 1), (fieldKey Fld.LOOP_SHKPIN 0 0 0, .num 1), (fieldKey Fld.CELL_SQ_MODE 0 0 0, .num 1), (fieldKey Fld.CELL_SQ_LEN 0 0 0, .num 1), (fieldKey Fld.CELL_SQ_E_IN 0 0 0, .num 0), (fieldKey Fld.LOOP_SHKSRC 0 0 0, .num 0)] },
     0, false, by decide +kernel⟩,
   ⟨{ State.reset with
       shock := (every State.reset.shock fun e1 => { e1 with ovrRun := 2 }),
       cells := (every State.reset.cells fun e1 => { e1 with sq := (every e1.sq fun e2 => { e2 with res := (every e2.res fun e3 => { e3 with ovr := true }) }) }),
       used := [(fieldKey Fld.LOOP_SHKEN 0 0 0, .num 1), (fieldKey Fld.LOOP_SHKPIN 0 0 0, .num 1), (fieldKey Fld.CELL_SQ_MODE 0 0 0, .num 1), (fieldKey Fld.CELL_SQ_LEN 0 0 0, .num 1), (fieldKey Fld.CELL_SQ_E_IN 0 0 0, .num 0), (fieldKey Fld.LOOP_SHKSRC 0 0 0, .num 0)] },
     0, false, by decide +kernel⟩,
   ⟨{ State.reset with used := [(fieldKey Fld.LOOP_SHKEN 0 0 0, .num 0)] }, 0, by decide +kernel⟩,
   ⟨{ State.reset with
       shock := (every State.reset.shock fun e1 => { e1 with srcfb := false }),
       used := [(fieldKey Fld.LOOP_SHKSRC 0 0 0, .num 0), (fieldKey Fld.LOOP_SHKEN 0 0 0, .num 1)] }, 0, by decide +kernel⟩,
   ⟨{ State.reset with shock := (every State.reset.shock fun e1 => { e1 with srcfb := true }) }, 0, by decide +kernel⟩,
   ⟨{ State.reset with
       up := 1000000000000000, shock := (every State.reset.shock fun e1 => { e1 with render := true, calm := some 0 }) }, 0,
     by decide +kernel⟩,
   ⟨State.reset, 0, by decide +kernel⟩⟩

theorem test_meets_heave_compensation :
    (∃ (s : State) (m : Fin 4) (at_ : Nat), s.mruNext m = some at_ ∧ s.runsHere m = true) ∧
    (∃ (s : State) (m : Fin 4), (s.mruNext m = none ∨ s.runsHere m = false)) ∧
    (∃ (s : State) (m : Fin 4), s.n Fld.LOOP_HVMRUZ m = 0) ∧
    (∃ (s : State) (m : Fin 4), s.heave[m].mruOk = true ∧ heldFor s.heave[m].fitFrom s.up 120000000000 = true) ∧
    (∃ (s : State) (m : Fin 4), s.runsHere m = true ∧ s.outer[m].mode = .position ∧ s.outer[m].spoolOk = true ∧
      (s.braked m = false ∨ s.brake[m].state = .open_) ∧ s.heave[m].mruOk = true ∧ s.heave[m].ready = true) ∧
    (∃ (s : State) (m : Fin 4),
      (s.outer[m].mode ≠ .position ∨ s.outer[m].spoolOk = false ∨ s.heave[m].mruOk = false ∨ s.heave[m].ready = false ∨ s.runsHere m = false ∨ (s.braked m = true ∧ s.brake[m].state ≠ .open_))) ∧
    (∃ (s : State) (m : Fin 4), s.heave[m].mruOk = true ∧ s.mruFresh m = false) ∧
    (∃ (s : State) (m : Fin 4), (s.heave[m].mruOk = false ∨ s.mruFresh m = true)) ∧
    (∃ (s : State) (m : Fin 4), s.heave[m].coast = true ∧ s.heave[m].g = 0) ∧
    (∃ (s : State) (m : Fin 4), (s.heave[m].coast = false ∨ s.heave[m].g ≠ 0)) ∧
    (∃ (s : State) (m : Fin 4), s.n Fld.LOOP_HVMRUZ m ≠ 0 ∧ s.runsHere m = true) ∧
    (∃ (s : State) (m : Fin 4), s.n Fld.LOOP_HVMRUZ m ≠ 0 ∧ s.runsHere m = true ∧ s.rst.mgmtRun = true ∧ s.hist[m] = [] ∧
      0 < s.n Fld.LOOP_HVSTATWIN m) ∧
    (∃ (s : State) (m : Fin 4), s.n Fld.LOOP_HVMRUZ m ≠ 0 ∧ s.runsHere m = true ∧ s.rst.mgmtRun = true ∧
      2 * s.n Fld.LOOP_HVSTATWIN m ≤ s.hist[m].length ∧ (∀ x ∈ s.hist[m], x.invalid = false)) :=
  ⟨⟨{ State.reset with
       spc := (every State.reset.spc fun e1 => { e1 with at_ := some 0 }), used := [(fieldKey Fld.LOOP_HVMRUZ 0 0 0, .num 1)] }, 0, 0,
     by decide +kernel⟩,
   ⟨State.reset, 0, by decide +kernel⟩,
   ⟨{ State.reset with used := [(fieldKey Fld.LOOP_HVMRUZ 0 0 0, .num 0)] }, 0, by decide +kernel⟩,
   ⟨{ State.reset with
       heave := (every State.reset.heave fun e1 => { e1 with mruOk := true, fitFrom := some 0 }), up := 1000000000000000 }, 0,
     by decide +kernel⟩,
   ⟨{ State.reset with
       outer := (every State.reset.outer fun e1 => { e1 with mode := .position, spoolOk := true }),
       heave := (every State.reset.heave fun e1 => { e1 with mruOk := true, ready := true }) }, 0, by decide +kernel⟩,
   ⟨State.reset, 0, by decide +kernel⟩,
   ⟨{ State.reset with heave := (every State.reset.heave fun e1 => { e1 with mruOk := true }) }, 0, by decide +kernel⟩,
   ⟨{ State.reset with heave := (every State.reset.heave fun e1 => { e1 with mruOk := false }) }, 0, by decide +kernel⟩,
   ⟨{ State.reset with heave := (every State.reset.heave fun e1 => { e1 with coast := true, g := 0 }) }, 0, by decide +kernel⟩,
   ⟨{ State.reset with heave := (every State.reset.heave fun e1 => { e1 with coast := false }) }, 0, by decide +kernel⟩,
   ⟨{ State.reset with used := [(fieldKey Fld.LOOP_HVMRUZ 0 0 0, .num 1)] }, 0, by decide +kernel⟩,
   ⟨{ State.reset with
       rst := { State.reset.rst with mgmtRun := true }, hist := (every State.reset.hist fun _ => []),
       used := [(fieldKey Fld.LOOP_HVMRUZ 0 0 0, .num 1), (fieldKey Fld.LOOP_HVSTATWIN 0 0 0, .num 1)] }, 0, by decide +kernel⟩,
   ⟨{ State.reset with
       rst := { State.reset.rst with mgmtRun := true },
       used := [(fieldKey Fld.LOOP_HVMRUZ 0 0 0, .num 1), (fieldKey Fld.LOOP_HVSTATWIN 0 0 0, .num 0)] }, 0, by decide +kernel⟩⟩

theorem test_meets_axis_requests :
    (∃ (s : State) (k : Fin 8) (hi : Word), s.axes[k].state = .ready ∧ s.axes[k].uncert = false ∧
      s.z Fld.AXIS_SWLIMN k ≤ (hi ++ s.axes[k].tgtLow).toInt ∧ (hi ++ s.axes[k].tgtLow).toInt ≤ s.z Fld.AXIS_SWLIMP k ∧
      s.axes[k].inputs[1].qualified = false ∧ s.axes[k].inputs[2].qualified = false ∧ hi ++ s.axes[k].tgtLow ≠ s.axes[k].pos) ∧
    (∃ (s : State) (k : Fin 8) (hi : Word), s.axes[k].uncert = true) ∧
    (∃ (s : State) (k : Fin 8) (hi : Word), s.axes[k].uncert = false ∧ s.axes[k].state = .standstill ∧ s.axes[k].en = true ∧
      s.axActive k 3 = false) ∧
    (∃ (s : State) (k : Fin 8), s.axes[k].state = .standstill ∧ s.axes[k].pend = some .home) ∧
    (∃ (s : State) (k : Fin 8), (s.axes[k].state ≠ .standstill ∨ s.axes[k].pend = none)) ∧
    (∃ (s : State) (k : Fin 8), s.axes[k].state = .ready) ∧
    (∃ (s : State) (k : Fin 8), (s.axes[k].state = .moving ∨ s.axes[k].state = .homing ∨ s.axes[k].state = .sync)) ∧
    (∃ (s : State) (k : Fin 8),
      (s.axes[k].state = .off ∨ s.axes[k].state = .standstill ∨ s.axes[k].state = .ready ∨ s.axes[k].state = .fault)) ∧
    (∃ (s : State) (k : Fin 8), (s.axes[k].state = .moving ∨ s.axes[k].state = .sync)) ∧
    (∃ (s : State) (k : Fin 8), s.axes[k].state = .moving) ∧
    (∃ (s : State) (k : Fin 8), s.axes[k].uncert = false ∧ s.axMaySync k = true ∧ s.axes[k].state = .ready) ∧
    (∃ (s : State) (k : Fin 8), s.axes[k].uncert = false ∧ s.axMaySync k = false) ∧
    (∃ (s : State) (k : Fin 8), s.axes[k].state = .sync) ∧
    (∃ (s : State) (k : Fin 8), s.axes[k].state = .fault ∧ s.axActive k 3 = false ∧ (∀ m : Fin 4,
      s.axLink k = some m → s.blocked m = false)) ∧
    (∃ (s : State) (k : Fin 8), s.axes[k].state = .fault ∧ s.axActive k 3 = true) ∧
    (∃ (s : State) (k : Fin 8), s.axes[k].state ≠ .ready) :=
  ⟨⟨{ State.reset with
       axes := (every State.reset.axes fun e1 => { e1 with state := .ready, uncert := false, inputs := (every e1.inputs fun e2 => { e2 with qualified := false }), tgtLow := 1 }),
       used := [(fieldKey Fld.AXIS_SWLIMN 0 0 0, .num (-10)), (fieldKey Fld.AXIS_SWLIMP 0 0 0, .num 10)] }, 0, 0, by decide +kernel⟩,
   ⟨{ State.reset with axes := (every State.reset.axes fun e1 => { e1 with uncert := true }) }, 0, 0, by decide +kernel⟩,
   ⟨{ State.reset with
       axes := (every State.reset.axes fun e1 => { e1 with uncert := false, state := .standstill, en := true }) }, 0, 0, by decide +kernel⟩,
   ⟨{ State.reset with
       axes := (every State.reset.axes fun e1 => { e1 with state := .standstill, pend := (some .home) }) }, 0, by decide +kernel⟩,
   ⟨State.reset, 0, by decide +kernel⟩,
   ⟨{ State.reset with axes := (every State.reset.axes fun e1 => { e1 with state := .ready }) }, 0, by decide +kernel⟩,
   ⟨{ State.reset with axes := (every State.reset.axes fun e1 => { e1 with state := .moving }) }, 0, by decide +kernel⟩,
   ⟨{ State.reset with axes := (every State.reset.axes fun e1 => { e1 with state := .off }) }, 0, by decide +kernel⟩,
   ⟨{ State.reset with axes := (every State.reset.axes fun e1 => { e1 with state := .moving }) }, 0, by decide +kernel⟩,
   ⟨{ State.reset with axes := (every State.reset.axes fun e1 => { e1 with state := .moving }) }, 0, by decide +kernel⟩,
   ⟨{ State.reset with
       axes := (every State.reset.axes fun e1 => { e1 with uncert := false, state := .ready }),
       outer := (every State.reset.outer fun e1 => { e1 with spoolOk := true }),
       used := [(fieldKey Fld.AXIS_MODE 0 0 0, .num 2), (fieldKey Fld.AXIS_LINKMO 0 0 0, .num 1)] }, 0, by decide +kernel⟩,
   ⟨{ State.reset with axes := (every State.reset.axes fun e1 => { e1 with uncert := false }) }, 0, by decide +kernel⟩,
   ⟨{ State.reset with axes := (every State.reset.axes fun e1 => { e1 with state := .sync }) }, 0, by decide +kernel⟩,
   ⟨{ State.reset with axes := (every State.reset.axes fun e1 => { e1 with state := .fault }) }, 0, by decide +kernel⟩,
   ⟨{ State.reset with
       axes := (every State.reset.axes fun e1 => { e1 with state := .fault, inputs := (every e1.inputs fun e2 => { e2 with ball := true }) }) },
     0, by decide +kernel⟩,
   ⟨State.reset, 0, by decide +kernel⟩⟩

theorem test_meets_axis_motion_and_inputs :
    (∃ (s : State) (k : Fin 8) (g : Gen) (notes : GenNotes), s.axes[k].state ≠ .off ∧
      s.axes[k].gen.periodLate (s.axLimits k) (s.axDwell k) (5 / 100000) = (g, notes) ∧ g.still = false) ∧
    (∃ (s : State) (k : Fin 8), s.axes[k].state = .off) ∧
    (∃ (s : State) (k : Fin 8), (s.axes[k].state ≠ .off ∧ s.axes[k].state ≠ .fault)) ∧
    (∃ (s : State) (k : Fin 8) (i : Fin 4) (level : Bool), s.axes[k].inputs[i].window.isSome = true) ∧
    (∃ (s : State) (k : Fin 8) (level : Bool), s.axes[k].state = .ready ∧ s.axes[k].inputs[0].window = none ∧
      (level != (s.n Fld.AXIS_INPOL k).testBit 0) = true ∧ s.axes[k].inputs[0].ball ≠ level ∧ s.axes[k].inputs[0].qualified = false) ∧
    (∃ (s : State) (k : Fin 8) (i : Fin 4), s.axes[k].inputs[i].window.isSome = true ∧ s.axActive k i = true) ∧
    (∃ (s : State) (k : Fin 8) (i : Fin 4), s.axes[k].inputs[i].window.isSome = true ∧ s.axActive k i = false ∧
      s.axes[k].inputs[i].qualified = false) ∧
    (∃ (s : State) (k : Fin 8) (i : Fin 4), s.axes[k].inputs[i].window = none) ∧
    (∃ (s : State) (k : Fin 8), s.axes[k].state = .homing) ∧
    (∃ (s : State) (k : Fin 8), s.axes[k].state ≠ .homing) ∧
    (∃ (s : State) (k : Fin 8) (m : Fin 4), s.axLink k = some m ∧ s.axes[k].state = .sync ∧ s.axes[k].lwErr = false ∧
      heldFor s.axes[k].lwOver s.up 100000000 = true) ∧
    (∃ (s : State) (k : Fin 8), (s.axLink k = none ∨ s.axes[k].state ≠ .sync ∨ s.axes[k].lwErr = true ∨ s.axes[k].lwOver = none)) :=
  ⟨⟨{ State.reset with
       axes := (every State.reset.axes fun e1 => { e1 with state := .moving, gen := { e1.gen with kind := .speed, target := 1, replan := true } }) },
     0, _, _, by decide +kernel, rfl, by decide +kernel⟩,
   ⟨{ State.reset with axes := (every State.reset.axes fun e1 => { e1 with state := .off }) }, 0, by decide +kernel⟩,
   ⟨{ State.reset with axes := (every State.reset.axes fun e1 => { e1 with state := .ready }) }, 0, by decide +kernel⟩,
   ⟨{ State.reset with
       axes := (every State.reset.axes fun e1 => { e1 with inputs := (every e1.inputs fun e2 => { e2 with window := some default }) }) }, 0,
     0, false, by decide +kernel⟩,
   ⟨{ State.reset with
       axes := (every State.reset.axes fun e1 => { e1 with state := .ready, inputs := (every e1.inputs fun e2 => { e2 with window := none, qualified := false }) }) },
     0, true, by decide +kernel⟩,
   ⟨{ State.reset with
       axes := (every State.reset.axes fun e1 => { e1 with inputs := (every e1.inputs fun e2 => { e2 with window := some default, ball := true }) }) },
     0, 0, by decide +kernel⟩,
   ⟨{ State.reset with
       axes := (every State.reset.axes fun e1 => { e1 with inputs := (every e1.inputs fun e2 => { e2 with window := some default, qualified := false }) }) },
     0, 0, by decide +kernel⟩,
   ⟨{ State.reset with
       axes := (every State.reset.axes fun e1 => { e1 with inputs := (every e1.inputs fun e2 => { e2 with window := none }) }) }, 0, 0,
     by decide +kernel⟩,
   ⟨{ State.reset with axes := (every State.reset.axes fun e1 => { e1 with state := .homing }) }, 0, by decide +kernel⟩,
   ⟨State.reset, 0, by decide +kernel⟩,
   ⟨{ State.reset with
       axes := (every State.reset.axes fun e1 => { e1 with state := .sync, lwErr := false, lwOver := some 0 }), up := 1000000000000000,
       used := [(fieldKey Fld.AXIS_LINKMO 0 0 0, .num 1)] }, 0, 0, by decide +kernel⟩,
   ⟨State.reset, 0, by decide +kernel⟩⟩

theorem test_meets_ring_cycle :
    (∃ (s : State), s.ring.on = true) ∧
    (∃ (s : State), s.ring.on = false) ∧
    (∃ (s : State) (portB : Bool) (crcOk : Bool) (typeOk : Bool) (f : RingFrame) (delay : Nat), s.ring.on = true ∧
      (crcOk = false ∨ typeOk = false ∨ f.cycle ≠ BitVec.ofNat 16 s.cycleNo)) ∧
    (∃ (s : State) (portB : Bool) (f : RingFrame) (delay : Nat), s.ring.on = true ∧ s.ring.rx = false ∧
      f.cycle = BitVec.ofNat 16 s.cycleNo ∧ f.pos < 8 ∧ f.pos ≠ s.ownPos.1) ∧
    (∃ (s : State) (portB : Bool) (f : RingFrame) (delay : Nat), s.ring.on = true ∧ f.cycle = BitVec.ofNat 16 s.cycleNo ∧
      f.pos = s.ownPos.1 ∧ f = s.ring.own) ∧
    (∃ (s : State) (portB : Bool) (f : RingFrame) (delay : Nat), s.ring.on = true ∧ f.cycle = BitVec.ofNat 16 s.cycleNo ∧
      f.pos = s.ownPos.1 ∧ f ≠ s.ring.own ∧ s.ring.conflict = false) ∧
    (∃ (s : State) (p : Fin 8) (portB : Bool) (f : RingFrame) (delay : Nat), s.ring.on = true ∧ s.ring.rx = true ∧
      f.cycle = BitVec.ofNat 16 s.cycleNo ∧ f.pos = p.1 ∧ p ≠ s.ownPos) ∧
    (∃ (s : State), s.ring.on = true ∧ s.ring.quorum = true ∧ s.ring.loseQuorum = false ∧ 100 ≤ s.ring.quorumN) ∧
    (∃ (s : State), (s.ring.on = false ∨ s.ring.quorum = false ∨ s.ring.loseQuorum = true ∨ s.ring.quorumN < 100)) ∧
    (∃ (s : State) (a : Nat) (b : Nat), s.ring.on = true) :=
  ⟨⟨{ State.reset with ring := { State.reset.ring with on := true } }, by decide +kernel⟩,
   ⟨{ State.reset with ring := { State.reset.ring with on := false } }, by decide +kernel⟩,
   ⟨{ State.reset with ring := { State.reset.ring with on := true } }, false, false, false, RingFrame.reset, 0, by decide +kernel⟩,
   ⟨{ State.reset with
       ring := { State.reset.ring with on := true, rx := false } }, false, { RingFrame.reset with pos := 1 }, 0, by decide +kernel⟩,
   ⟨{ State.reset with ring := { State.reset.ring with on := true } }, false, RingFrame.reset, 0, by decide +kernel⟩,
   ⟨{ State.reset with
       ring := { State.reset.ring with on := true, conflict := false } }, false, { RingFrame.reset with lead := true }, 0,
     by decide +kernel⟩,
   ⟨{ State.reset with
       ring := { State.reset.ring with on := true, rx := true } }, 1, false, { RingFrame.reset with pos := 1 }, 0, by decide +kernel⟩,
   ⟨{ State.reset with
       ring := { State.reset.ring with on := true, quorum := true, loseQuorum := false, quorumN := 100 } }, by decide +kernel⟩,
   ⟨{ State.reset with ring := { State.reset.ring with on := false } }, by decide +kernel⟩,
   ⟨{ State.reset with ring := { State.reset.ring with on := true } }, 0, 0, by decide +kernel⟩⟩

theorem test_meets_ring_members :
    (∃ (s : State) (m : Fin 4), s.ring.on = true ∧ s.ring.mbr[m].state = .idle ∧ (s.ring.group = .starting ∨ s.ring.group = .running) ∧
      s.armed[m] = true ∧ s.ring.tlock = true ∧ s.ring.conflict = false ∧ s.cfgAgrees = true ∧ s.carrierOk m = true ∧
      s.startRefusal m = 0 ∧ s.gatesReady m = true ∧ s.start[m].state = .idle) ∧
    (∃ (s : State) (m : Fin 4), s.ring.on = true ∧ s.ring.mbr[m].state = .idle ∧ (s.ring.group = .starting ∨ s.ring.group = .running) ∧
      s.armed[m] = true ∧ (∀ n ∈ s.feeding m, s.br[n].enabled = true) ∧ s.ring.tlock = true ∧ s.ring.conflict = false ∧
      (s.cfgAgrees = false ∨ s.carrierOk m = false)) ∧
    (∃ (s : State) (m : Fin 4),
      (s.ring.on = false ∨ s.ring.mbr[m].state ≠ .idle ∨ s.ring.group = .stopped ∨ s.ring.group = .stopping ∨ s.armed[m] = false ∨ s.ring.tlock = false ∨ s.ring.conflict = true)) ∧
    (∃ (s : State) (m : Fin 4), s.ring.mbr[m].state = .share) ∧
    (∃ (s : State) (m : Fin 4), s.ring.mbr[m].state ≠ .share) ∧
    (∃ (s : State) (m : Fin 4), s.ring.mbr[m].state = .draining) ∧
    (∃ (s : State) (m : Fin 4), (s.ring.mbr[m].state = .drained ∨ s.ring.mbr[m].state = .service) ∧ (∀ n ∈ s.bridges m,
      s.br[n].passed = true) ∧ s.ring.tlock = true ∧ s.startRefusal m = 0 ∧ s.gatesReady m = true ∧ s.start[m].state = .idle ∧
      s.ring.conflict = false ∧ s.cfgAgrees = true ∧ s.carrierOk m = true) ∧
    (∃ (s : State) (m : Fin 4),
      (s.ring.mbr[m].state = .none_ ∨ s.ring.mbr[m].state = .idle ∨ s.ring.mbr[m].state = .joining ∨ s.ring.mbr[m].state = .share ∨ s.ring.mbr[m].state = .out ∨ s.ring.mbr[m].state = .isolated ∨ ((s.ring.mbr[m].state = .drained ∨ s.ring.mbr[m].state = .service) ∧ (s.ring.tlock = false ∨ s.ring.conflict = true ∨ ∃ n ∈ s.bridges m,
      s.br[n].passed = false)))) ∧
    (∃ (s : State) (m : Fin 4), s.ring.mbr[m].state = .drained) ∧
    (∃ (s : State) (m : Fin 4), s.ring.mbr[m].state ≠ .drained) ∧
    (∃ (s : State) (m : Fin 4), s.ring.mbr[m].state = .share ∧ s.ring.mbr[m].ramp = true ∧ s.joinFactor m = 1) ∧
    (∃ (s : State) (m : Fin 4), (s.ring.mbr[m].state ≠ .share ∨ s.ring.mbr[m].ramp = false ∨ s.joinFactor m ≠ 1)) ∧
    (∃ (s : State) (m : Fin 4), s.ring.mbr[m].state = .draining ∧ s.ring.mbr[m].dhold = true ∧ s.reacts[m] = [] ∧
      heldFor s.ring.mbr[m].holdAt s.up (s.n Fld.RING_DRAINMAX 0 * 1000000000) = true) ∧
    (∃ (s : State) (m : Fin 4) (r : React), s.ring.mbr[m].state = .draining ∧ s.ring.mbr[m].dhold = true ∧ r ∈ s.reacts[m] ∧
      (r.sev = .rampStop ∨ r.sev = .quickStop) ∧ heldFor s.ring.mbr[m].holdAt s.up (s.n Fld.RING_DRAINMAX 0 * 1000000000) = true) ∧
    (∃ (s : State) (m : Fin 4), (s.ring.mbr[m].state ≠ .draining ∨ s.ring.mbr[m].dhold = false ∨ s.ring.mbr[m].holdAt = none)) :=
  ⟨⟨{ State.reset with
       ring := { State.reset.ring with on := true, mbr := (every State.reset.ring.mbr fun e1 => { e1 with state := .idle }), group := .starting, tlock := true, conflict := false, leadPos := some 0 },
       armed := (every State.reset.armed fun _ => true), start := (every State.reset.start fun e1 => { e1 with state := .idle }),
       br := (every State.reset.br fun e1 => { e1 with rec_ := some 0, mo := 0, enabled := true }),
       used := [(fieldKey Fld.RING_CARRALIGN 0 0 0, .num 0)] }, 0, by decide +kernel⟩,
   ⟨{ State.reset with
       ring := { State.reset.ring with on := true, mbr := (every State.reset.ring.mbr fun e1 => { e1 with state := .idle }), group := .starting, tlock := true, conflict := false },
       armed := (every State.reset.armed fun _ => true) }, 0, by decide +kernel⟩,
   ⟨{ State.reset with ring := { State.reset.ring with on := false } }, 0, by decide +kernel⟩,
   ⟨{ State.reset with
       ring := { State.reset.ring with mbr := (every State.reset.ring.mbr fun e1 => { e1 with state := .share }) } }, 0, by decide +kernel⟩,
   ⟨State.reset, 0, by decide +kernel⟩,
   ⟨{ State.reset with
       ring := { State.reset.ring with mbr := (every State.reset.ring.mbr fun e1 => { e1 with state := .draining }) } }, 0,
     by decide +kernel⟩,
   ⟨{ State.reset with
       ring := { State.reset.ring with mbr := (every State.reset.ring.mbr fun e1 => { e1 with state := .drained }), tlock := true, conflict := false, on := true, leadPos := some 0 },
       start := (every State.reset.start fun e1 => { e1 with state := .idle }),
       br := (every State.reset.br fun e1 => { e1 with rec_ := some 0, mo := 0, enabled := true, passed := true }),
       armed := (every State.reset.armed fun _ => true), used := [(fieldKey Fld.RING_CARRALIGN 0 0 0, .num 0)] }, 0, by decide +kernel⟩,
   ⟨{ State.reset with
       ring := { State.reset.ring with mbr := (every State.reset.ring.mbr fun e1 => { e1 with state := .none_ }) } }, 0, by decide +kernel⟩,
   ⟨{ State.reset with
       ring := { State.reset.ring with mbr := (every State.reset.ring.mbr fun e1 => { e1 with state := .drained }) } }, 0,
     by decide +kernel⟩,
   ⟨State.reset, 0, by decide +kernel⟩,
   ⟨{ State.reset with
       ring := { State.reset.ring with mbr := (every State.reset.ring.mbr fun e1 => { e1 with state := .share, ramp := true }) },
       up := 1000000000000000 }, 0, by decide +kernel⟩,
   ⟨State.reset, 0, by decide +kernel⟩,
   ⟨{ State.reset with
       ring := { State.reset.ring with mbr := (every State.reset.ring.mbr fun e1 => { e1 with state := .draining, dhold := true, holdAt := some 0 }) },
       reacts := (every State.reset.reacts fun _ => []), up := 1000000000000000 }, 0, by decide +kernel⟩,
   ⟨{ State.reset with
       ring := { State.reset.ring with mbr := (every State.reset.ring.mbr fun e1 => { e1 with state := .draining, dhold := true, holdAt := some 0 }) },
       up := 1000000000000000, reacts := (every State.reset.reacts fun _ => [aStopReact]) }, 0, aStopReact, by decide +kernel⟩,
   ⟨State.reset, 0, by decide +kernel⟩⟩

theorem test_meets_hardware_protection :
    (∃ (s : State) (i : Fin 96) (hi : Bool) (stamp : BitVec 64), s.sideOff i hi = false ∧ s.inputInTest i = false ∧
      s.recd.ring.length + 64 ≤ ringMax) ∧
    (∃ (s : State) (i : Fin 96) (hi : Bool) (stamp : BitVec 64), (s.sideOff i hi = true ∨ s.inputInTest i = true)) ∧
    (∃ (s : State) (i : Fin 96) (hi : Bool), (s.atEnd i hi (s.level1 i hi) = true ∨ s.inputInTest i = true)) ∧
    (∃ (s : State) (i : Fin 96) (hi : Bool), s.atEnd i hi (s.level1 i hi) = false ∧ s.inputInTest i = false) ∧
    (∃ (s : State) (g : Fin 52), s.channelInTest g = true) ∧
    (∃ (s : State) (g : Fin 52) (n : Fin 8), s.channelInTest g = false ∧ s.bridgeWith g = some n ∧ s.br[n].form ≠ .asc) ∧
    (∃ (s : State) (g : Fin 52) (n : Fin 8), s.channelInTest g = false ∧ s.chan[g].ready = true ∧ s.bridgeWith g = some n ∧
      s.br[n].form ≠ .asc) ∧
    (∃ (s : State) (c : Fin 4), s.channelInTest (48 + c.1) = false ∧ s.chop[c].config = true ∧ s.chop[c].fault = false) ∧
    (∃ (s : State) (g : Fin 52), s.chan[g].ready = false) ∧
    (∃ (s : State) (g : Fin 52) (freq : Rat), (freq * 111 < 1000000 ∨ 1000000 < freq * 32)) ∧
    (∃ (s : State) (g : Fin 52) (freq : Rat), 1000000 ≤ freq * 111 ∧ freq * 32 ≤ 1000000) ∧
    (∃ (s : State) (n : Fin 8) (phase : Fin 3) (a : Fin 12) (b : Fin 12) (pattern : BitVec 12) (gap : Bool), s.conf n = true) ∧
    (∃ (s : State) (n : Fin 8) (phase : Fin 3) (a : Fin 12) (b : Fin 12) (pattern : BitVec 12) (gap : Bool), s.conf n = false) ∧
    (∃ (s : State) (n : Fin 8), s.br[n].window.isSome = true) ∧
    (∃ (s : State) (n : Fin 8), s.br[n].window = none) :=
  ⟨⟨{ State.reset with used := [(fieldKey Fld.PROTECT_CMP_L2HI 0 0 0, .num 1000)] }, 0, true, 0, by decide +kernel⟩,
   ⟨State.reset, 0, false, 0, by decide +kernel⟩,
   ⟨State.reset, 0, false, by decide +kernel⟩,
   ⟨{ State.reset with used := [(fieldKey Fld.PROTECT_CMP_L1HI 0 0 0, .num 1000)] }, 0, true, by decide +kernel⟩,
   ⟨{ State.reset with
       br := (every State.reset.br fun e1 => { e1 with rec_ := some 0, mo := 0 }), stest := { State.reset.stest with busy := some 0 } }, 0,
     by decide +kernel⟩,
   ⟨{ State.reset with br := (every State.reset.br fun e1 => { e1 with rec_ := some 0, mo := 0 }) }, 0, 0, by decide +kernel⟩,
   ⟨{ State.reset with
       chan := (every State.reset.chan fun e1 => { e1 with ready := true }),
       br := (every State.reset.br fun e1 => { e1 with rec_ := some 0, mo := 0 }) }, 0, 0, by decide +kernel⟩,
   ⟨{ State.reset with chop := (every State.reset.chop fun e1 => { e1 with config := true, fault := false }) }, 0, by decide +kernel⟩,
   ⟨{ State.reset with chan := (every State.reset.chan fun e1 => { e1 with ready := false }) }, 0, by decide +kernel⟩,
   ⟨State.reset, 0, 0, by decide +kernel⟩,
   ⟨State.reset, 0, 20000, by decide +kernel⟩,
   ⟨{ State.reset with br := (every State.reset.br fun e1 => { e1 with rec_ := some 0 }) }, 0, 0, 0, 0, 0, false, by decide +kernel⟩,
   ⟨State.reset, 0, 0, 0, 0, 0, false, by decide +kernel⟩,
   ⟨{ State.reset with br := (every State.reset.br fun e1 => { e1 with window := some default }) }, 0, by decide +kernel⟩,
   ⟨{ State.reset with br := (every State.reset.br fun e1 => { e1 with window := none }) }, 0, by decide +kernel⟩⟩

theorem test_meets_enables_and_choppers :
    (∃ (s : State) (n : Fin 8), s.debugFast = false ∧ s.br[n].enabled = false ∧ s.enableFails n = none) ∧
    (∃ (s : State) (n : Fin 8) (x : Nat), s.debugFast = false ∧ s.br[n].enabled = false ∧ s.enableFails n = some x) ∧
    (∃ (s : State) (n : Fin 8), s.debugFast = false ∧ s.br[n].enabled = true) ∧
    (∃ (s : State) (n : Fin 8) (en : Bool), s.debugFast = true) ∧
    (∃ (s : State) (c : Fin 4), s.debugFast = false ∧ s.chop[c].config = true ∧ s.chop[c].stok = true ∧ s.rst.stage = 9) ∧
    (∃ (s : State) (c : Fin 4), s.debugFast = false ∧ (s.chop[c].config = false ∨ s.chop[c].stok = false ∨ s.rst.stage ≠ 9)) ∧
    (∃ (s : State) (c : Fin 4), s.debugFast = false) ∧
    (∃ (s : State) (n : Fin 8), s.br[n].dcopen = true ∧ s.br[n].conFail = false ∧ s.n Fld.BRIDGE_DCFB (s.recOf n) ≠ 0 ∧
      s.pairReads (s.n Fld.BRIDGE_DCFB (s.recOf n)) = false) ∧
    (∃ (s : State) (n : Fin 8),
      (s.br[n].dcopen = false ∨ s.br[n].conFail = true ∨ s.n Fld.BRIDGE_DCFB (s.recOf n) = 0 ∨ s.pairReads (s.n Fld.BRIDGE_DCFB (s.recOf n)) = true)) ∧
    (∃ (s : State) (c : Fin 4), s.chop[c].config = true) ∧
    (∃ (s : State) (c : Fin 4), s.chop[c].config = false) ∧
    (∃ (s : State) (c : Fin 4), s.chop[c].config = true ∧ s.chop[c].enabled = true ∧ s.chop[c].removed = false ∧ s.chop[c].forced = false) ∧
    (∃ (s : State) (c : Fin 4), (s.chop[c].enabled = false ∨ s.chop[c].removed = true ∨ s.chop[c].forced = true)) ∧
    (∃ (s : State) (c : Fin 4), s.chop[c].forced = true) ∧
    (∃ (s : State) (x : BitVec 4), s.testable x.toNat = true) ∧
    (∃ (s : State) (x : BitVec 4), s.testable x.toNat = false) ∧
    (∃ (s : State) (n : Fin 8), s.stest.busy = some n.1) ∧
    (∃ (s : State) (n : Fin 8) (item : BitVec 16), s.stest.busy = some n.1) ∧
    (∃ (s : State) (c : Fin 4), s.stest.busy = some (8 + c.1)) ∧
    (∃ (s : State) (c : Fin 4) (item : BitVec 16), s.stest.busy = some (8 + c.1)) ∧
    (∃ (s : State) (fail : Option (BitVec 16)), s.stest.busy = none) :=
  ⟨⟨{ State.reset with
       br := (every State.reset.br fun e1 => { e1 with enabled := false, rec_ := some 0, mo := 0, passed := true }),
       armed := (every State.reset.armed fun _ => true), chan := (every State.reset.chan fun e1 => { e1 with ready := true }), rst := { State.reset.rst with stage := 9 } }, 0,
     by decide +kernel⟩,
   ⟨{ State.reset with br := (every State.reset.br fun e1 => { e1 with enabled := false }) }, 0, 255, by decide +kernel⟩,
   ⟨{ State.reset with br := (every State.reset.br fun e1 => { e1 with enabled := true }) }, 0, by decide +kernel⟩,
   ⟨{ State.reset with onyx := { State.reset.onyx with dbg := some (0, true, 0) } }, 0, false, by decide +kernel⟩,
   ⟨{ State.reset with
       chop := (every State.reset.chop fun e1 => { e1 with config := true, stok := true }), rst := { State.reset.rst with stage := 9 } }, 0,
     by decide +kernel⟩,
   ⟨{ State.reset with chop := (every State.reset.chop fun e1 => { e1 with config := false }) }, 0, by decide +kernel⟩,
   ⟨State.reset, 0, by decide +kernel⟩,
   ⟨{ State.reset with
       br := (every State.reset.br fun e1 => { e1 with dcopen := true, conFail := false }),
       used := [(fieldKey Fld.BRIDGE_DCFB 0 0 0, .num 1)] }, 0, by decide +kernel⟩,
   ⟨{ State.reset with br := (every State.reset.br fun e1 => { e1 with dcopen := false }) }, 0, by decide +kernel⟩,
   ⟨{ State.reset with chop := (every State.reset.chop fun e1 => { e1 with config := true }) }, 0, by decide +kernel⟩,
   ⟨{ State.reset with chop := (every State.reset.chop fun e1 => { e1 with config := false }) }, 0, by decide +kernel⟩,
   ⟨{ State.reset with
       chop := (every State.reset.chop fun e1 => { e1 with config := true, enabled := true, forced := false, fault := false }) }, 0,
     by decide +kernel⟩,
   ⟨{ State.reset with chop := (every State.reset.chop fun e1 => { e1 with enabled := false }) }, 0, by decide +kernel⟩,
   ⟨{ State.reset with chop := (every State.reset.chop fun e1 => { e1 with forced := true }) }, 0, by decide +kernel⟩,
   ⟨{ State.reset with br := (every State.reset.br fun e1 => { e1 with rec_ := some 0, mo := 0 }) }, 0, by decide +kernel⟩,
   ⟨State.reset, 0, by decide +kernel⟩,
   ⟨{ State.reset with stest := { State.reset.stest with busy := some 0 } }, 0, by decide +kernel⟩,
   ⟨{ State.reset with stest := { State.reset.stest with busy := some 0 } }, 0, 0, by decide +kernel⟩,
   ⟨{ State.reset with stest := { State.reset.stest with busy := some 8 } }, 0, by decide +kernel⟩,
   ⟨{ State.reset with stest := { State.reset.stest with busy := some 8 } }, 0, 0, by decide +kernel⟩,
   ⟨{ State.reset with stest := { State.reset.stest with busy := none } }, default, by decide +kernel⟩⟩

theorem test_meets_safety_functions :
    (∃ (s : State) (g : GarnetIn), (s.garnet.run = false ∨ s.garnet.safe = true)) ∧
    (∃ (s : State) (g : GarnetIn), s.garnet.run = true ∧ s.garnet.safe = false ∧ s.rst.stage ≠ 9) ∧
    (∃ (s : State) (g : GarnetIn) (m : Fin 4), s.garnet.run = true ∧ s.garnet.safe = false ∧ s.rst.stage = 9 ∧
      (s.n Fld.SAFETY_MO_STOSEL 0 m = 1 ∨ ∃ k : Fin 12, s.n Fld.SAFETY_MO_STOSEL 0 m = 2 + k.1 ∧ s.garnet.pair[k].demand = true ∧
      g.si.getLsbD (2 * k.1) = false)) ∧
    (∃ (s : State), s.garnet.safe = false) ∧
    (∃ (s : State), s.garnet.safe = true) ∧
    (∃ (s : State) (m : Fin 4),
      (s.garnet.run = false ∨ s.garnet.mo[m].posDisc = true ∨ s.heldMs s.garnet.mo[m].posSince Fld.SAFETY_MO_POSDISC m = false)) ∧
    (∃ (s : State) (m : Fin 4),
      (s.garnet.run = false ∨ s.garnet.mo[m].tensDisc = true ∨ s.heldMs s.garnet.mo[m].tensSince Fld.SAFETY_MO_POSDISC m = false)) ∧
    (∃ (s : State) (m : Fin 4), s.garnet.run = true ∧ s.garnet.mo[m].posDisc = false ∧
      s.heldMs s.garnet.mo[m].posSince Fld.SAFETY_MO_POSDISC m = true) ∧
    (∃ (s : State) (m : Fin 4), s.garnet.run = true ∧ s.garnet.mo[m].tensDisc = false ∧
      s.heldMs s.garnet.mo[m].tensSince Fld.SAFETY_MO_POSDISC m = true) ∧
    (∃ (s : State) (m : Fin 4) (r : SsRun), s.garnet.run = true ∧ s.garnet.mo[m].ss = some r ∧ r.ss2 = false ∧
      s.garnet.mo[m].sto = false ∧ (r.since : Rat) + s.q Fld.SAFETY_MO_SS1T 0 m * sec ≤ s.up) ∧
    (∃ (s : State) (m : Fin 4) (r : SsRun), s.garnet.run = true ∧ s.garnet.mo[m].ss = some r ∧ r.ss2 = true ∧
      s.garnet.mo[m].sto = false ∧ (r.since : Rat) + s.q Fld.SAFETY_MO_SS1T 0 m * sec ≤ s.up ∧ s.n Fld.SAFETY_MO_VIOLREACT 0 m = 0) ∧
    (∃ (s : State) (m : Fin 4) (r : SsRun), s.garnet.run = true ∧ s.garnet.mo[m].ss = some r ∧ r.ss2 = true ∧
      s.garnet.mo[m].sto = false ∧ (r.since : Rat) + s.q Fld.SAFETY_MO_SS1T 0 m * sec ≤ s.up ∧ s.n Fld.SAFETY_MO_VIOLREACT 0 m ≠ 0) ∧
    (∃ (s : State) (m : Fin 4), (s.garnet.mo[m].ss = none ∨ s.garnet.run = false ∨ ∃ r, s.garnet.mo[m].ss = some r ∧
      (s.up : Rat) < r.since + s.q Fld.SAFETY_MO_SS1T 0 m * sec)) ∧
    (∃ (s : State) (m : Fin 4),
      (s.garnet.run = false ∨ s.garnet.mo[m].slt1 = true ∨ s.heldMs s.garnet.mo[m].over1 Fld.SAFETY_MO_SLTDLY m = false)) ∧
    (∃ (s : State) (m : Fin 4), s.garnet.run = true ∧ s.garnet.mo[m].slt1 = false ∧
      s.heldMs s.garnet.mo[m].over1 Fld.SAFETY_MO_SLTDLY m = true) ∧
    (∃ (s : State) (m : Fin 4), s.garnet.run = true ∧ StoHold.viol .slt ∉ s.garnet.mo[m].holds ∧
      s.heldMs s.garnet.mo[m].over2 Fld.SAFETY_MO_SLTDLY m = true) ∧
    (∃ (s : State) (m : Fin 4),
      (s.garnet.run = false ∨ StoHold.viol .slt ∈ s.garnet.mo[m].holds ∨ s.heldMs s.garnet.mo[m].over2 Fld.SAFETY_MO_SLTDLY m = false)) ∧
    (∃ (s : State) (m : Fin 4), heldFor s.garnet.mo[m].low1 s.up (500 * ms) = false) ∧
    (∃ (s : State) (m : Fin 4), heldFor s.garnet.mo[m].low1 s.up (500 * ms) = true) ∧
    (∃ (s : State) (m : Fin 4), s.garnet.mo[m].hold = true ∧ s.q Fld.SAFETY_MO_EQRTMAX 0 m * sec ≤ (s.up : Rat) - s.garnet.mo[m].holdAt) ∧
    (∃ (s : State) (m : Fin 4), (s.garnet.mo[m].hold = false ∨ (s.up : Rat) - s.garnet.mo[m].holdAt < s.q Fld.SAFETY_MO_EQRTMAX 0 m * sec)) ∧
    (∃ (s : State) (m : Fin 4), s.garnet.mo[m].brkSet = true ∧ s.garnet.mo[m].fbDue = true) ∧
    (∃ (s : State) (m : Fin 4), s.garnet.run = true ∧ s.rst.stage = 9 ∧ s.garnet.mo[m].ss = none ∧ s.stoFree m = true) ∧
    (∃ (s : State) (m : Fin 4), (s.garnet.run = false ∨ s.rst.stage ≠ 9 ∨ (s.garnet.mo[m].ss = none ∧ s.stoFree m = false))) ∧
    (∃ (s : State) (m : Fin 4), s.garnet.run = true ∧ s.n Fld.SAFETY_MO_STOSEL 0 m ≠ 0 ∧ s.stoOverdue m = true) ∧
    (∃ (s : State) (m : Fin 4), (s.garnet.run = false ∨ s.n Fld.SAFETY_MO_STOSEL 0 m = 0 ∨ s.stoOverdue m = false)) :=
  ⟨⟨{ State.reset with garnet := { State.reset.garnet with run := false } }, aCycle, by decide +kernel⟩,
   ⟨{ State.reset with garnet := { State.reset.garnet with run := true, safe := false } }, aCycle, by decide +kernel⟩,
   ⟨{ State.reset with
       garnet := { State.reset.garnet with run := true, safe := false }, rst := { State.reset.rst with stage := 9 },
       used := [(fieldKey Fld.SAFETY_MO_STOSEL 0 0 0, .num 1)] }, aCycle, 0, by decide +kernel⟩,
   ⟨{ State.reset with garnet := { State.reset.garnet with safe := false } }, by decide +kernel⟩,
   ⟨{ State.reset with garnet := { State.reset.garnet with safe := true } }, by decide +kernel⟩,
   ⟨{ State.reset with garnet := { State.reset.garnet with run := false } }, 0, by decide +kernel⟩,
   ⟨{ State.reset with garnet := { State.reset.garnet with run := false } }, 0, by decide +kernel⟩,
   ⟨{ State.reset with
       garnet := { State.reset.garnet with run := true, mo := (every State.reset.garnet.mo fun e1 => { e1 with posDisc := false, posSince := some 0 }) },
       up := 1000000000000000 }, 0, by decide +kernel⟩,
   ⟨{ State.reset with
       garnet := { State.reset.garnet with run := true, mo := (every State.reset.garnet.mo fun e1 => { e1 with tensDisc := false, tensSince := some 0 }) },
       up := 1000000000000000 }, 0, by decide +kernel⟩,
   ⟨{ State.reset with
       garnet := { State.reset.garnet with run := true, mo := (every State.reset.garnet.mo fun e1 => { e1 with ss := some aSs, sto := false }) },
       up := 1000000000000000 }, 0, aSs, by decide +kernel⟩,
   ⟨{ State.reset with
       garnet := { State.reset.garnet with run := true, mo := (every State.reset.garnet.mo fun e1 => { e1 with sto := false, ss := some { aSs with ss2 := true } }) },
       up := 1000000000000000, used := [(fieldKey Fld.SAFETY_MO_VIOLREACT 0 0 0, .num 0)] }, 0, { aSs with ss2 := true }, by decide +kernel⟩,
   ⟨{ State.reset with
       garnet := { State.reset.garnet with run := true, mo := (every State.reset.garnet.mo fun e1 => { e1 with sto := false, ss := some { aSs with ss2 := true } }) },
       up := 1000000000000000, used := [(fieldKey Fld.SAFETY_MO_VIOLREACT 0 0 0, .num 1)] }, 0, { aSs with ss2 := true }, by decide +kernel⟩,
   ⟨{ State.reset with
       garnet := { State.reset.garnet with mo := (every State.reset.garnet.mo fun e1 => { e1 with ss := none }) } }, 0, by decide +kernel⟩,
   ⟨{ State.reset with garnet := { State.reset.garnet with run := false } }, 0, by decide +kernel⟩,
   ⟨{ State.reset with
       garnet := { State.reset.garnet with run := true, mo := (every State.reset.garnet.mo fun e1 => { e1 with slt1 := false, over1 := some 0 }) },
       up := 1000000000000000 }, 0, by decide +kernel⟩,
   ⟨{ State.reset with
       garnet := { State.reset.garnet with run := true, mo := (every State.reset.garnet.mo fun e1 => { e1 with over2 := some 0 }) },
       up := 1000000000000000 }, 0, by decide +kernel⟩,
   ⟨{ State.reset with garnet := { State.reset.garnet with run := false } }, 0, by decide +kernel⟩,
   ⟨State.reset, 0, by decide +kernel⟩,
   ⟨{ State.reset with
       up := 1000000000000000,
       garnet := { State.reset.garnet with mo := (every State.reset.garnet.mo fun e1 => { e1 with low1 := some 0 }) } }, 0,
     by decide +kernel⟩,
   ⟨{ State.reset with
       garnet := { State.reset.garnet with mo := (every State.reset.garnet.mo fun e1 => { e1 with hold := true, holdAt := 0 }) },
       up := 1000000000000000 }, 0, by decide +kernel⟩,
   ⟨{ State.reset with
       garnet := { State.reset.garnet with mo := (every State.reset.garnet.mo fun e1 => { e1 with hold := false }) } }, 0,
     by decide +kernel⟩,
   ⟨{ State.reset with
       garnet := { State.reset.garnet with mo := (every State.reset.garnet.mo fun e1 => { e1 with brkSet := true, fbDue := true }) } }, 0,
     by decide +kernel⟩,
   ⟨{ State.reset with
       garnet := { State.reset.garnet with run := true, mo := (every State.reset.garnet.mo fun e1 => { e1 with ss := none }) },
       rst := { State.reset.rst with stage := 9 } }, 0, by decide +kernel⟩,
   ⟨{ State.reset with garnet := { State.reset.garnet with run := false } }, 0, by decide +kernel⟩,
   ⟨{ State.reset with
       garnet := { State.reset.garnet with run := true, mo := (every State.reset.garnet.mo fun e1 => { e1 with sto := false }) },
       up := 1000000000000000000, used := [(fieldKey Fld.SAFETY_MO_STOSEL 0 0 0, .num 1)] }, 0, by decide +kernel⟩,
   ⟨{ State.reset with garnet := { State.reset.garnet with run := false } }, 0, by decide +kernel⟩⟩

theorem test_meets_safety_inputs_and_outputs :
    (∃ (s : State) (tpBad : BitVec 8) (own : Vector Bool 24) (foreign : Vector (Option (Fin 8)) 24), s.garnet.run = true) ∧
    (∃ (s : State) (tpBad : BitVec 8) (own : Vector Bool 24) (foreign : Vector (Option (Fin 8)) 24), s.garnet.run = false) ∧
    (∃ (s : State) (k : Fin 12), s.garnet.run = true) ∧
    (∃ (s : State) (k : Fin 12), s.garnet.run = true ∧ s.garnet.pair[k].disc = false ∧ s.chanShows k false ≠ s.chanShows k true) ∧
    (∃ (s : State) (k : Fin 12), s.garnet.run = false) ∧
    (∃ (s : State) (k : Fin 12), (s.garnet.pair[k].disc = true ∨ s.chanShows k false = s.chanShows k true)) ∧
    (∃ (s : State) (j : Fin 8), s.garnet.run = true ∧ s.yes Fld.SAFETY_SO_PULSE 0 j = true ∧ s.garnet.so[j].on = true) ∧
    (∃ (s : State) (sess : Nat) (pw : List Byte), s.session sess = true ∧ s.garnet.pwLock = false ∧ s.pwOk pw = true) ∧
    (∃ (s : State) (sess : Nat) (pw : List Byte), s.session sess = true ∧ s.garnet.pwLock = false ∧ s.pwOk pw = false ∧
      (s.garnet.wrong.filter fun a => decide (s.up < a + 600 * sec)).length < 4) ∧
    (∃ (s : State) (sess : Nat) (pw : List Byte), s.session sess = true ∧ s.garnet.pwLock = false ∧ s.pwOk pw = false ∧
      4 ≤ (s.garnet.wrong.filter fun a => decide (s.up < a + 600 * sec)).length) ∧
    (∃ (s : State) (sess : Nat) (pw : List Byte), (s.session sess = false ∨ s.garnet.pwLock = true)) :=
  ⟨⟨{ State.reset with garnet := { State.reset.garnet with run := true } }, 0, tbl 24 false, tbl 24 none, by decide +kernel⟩,
   ⟨{ State.reset with garnet := { State.reset.garnet with run := false } }, 0, tbl 24 false, tbl 24 none, by decide +kernel⟩,
   ⟨{ State.reset with garnet := { State.reset.garnet with run := true } }, 0, by decide +kernel⟩,
   ⟨{ State.reset with
       garnet := { State.reset.garnet with run := true, pair := (every State.reset.garnet.pair fun e1 => { e1 with disc := false }), si := (tbl 24 .reset).set 0 { SafeIn.reset with level := true } } },
     0, by decide +kernel⟩,
   ⟨{ State.reset with garnet := { State.reset.garnet with run := false } }, 0, by decide +kernel⟩,
   ⟨{ State.reset with
       garnet := { State.reset.garnet with pair := (every State.reset.garnet.pair fun e1 => { e1 with disc := true }) } }, 0,
     by decide +kernel⟩,
   ⟨{ State.reset with
       garnet := { State.reset.garnet with run := true, so := (every State.reset.garnet.so fun e1 => { e1 with on := true }) },
       used := [(fieldKey Fld.SAFETY_SO_PULSE 0 0 0, .num 1)] }, 0, by decide +kernel⟩,
   ⟨{ State.reset with
       onyx := { State.reset.onyx with sessions := [⟨0, 0, 0, 0⟩] },
       used := [(fieldKey Fld.SAFETY_PWHASH 0 0 0, .bytes (List.replicate 32 0 ++ Config.sha384 (List.replicate 32 0 ++ List.replicate 8 0x21)))] },
     0, List.replicate 8 0x21, by decide +kernel, by decide +kernel, by simp [State.pwOk, State.str, State.cv, cfgFind, Config.sha384]⟩,
   ⟨{ State.reset with
       onyx := { State.reset.onyx with sessions := [⟨0, 0, 0, 0⟩] }, garnet := { State.reset.garnet with pwLock := false } }, 0, [],
     by decide +kernel⟩,
   ⟨{ State.reset with
       onyx := { State.reset.onyx with sessions := [⟨0, 0, 0, 0⟩] },
       garnet := { State.reset.garnet with pwLock := false, wrong := [0, 0, 0, 0] } }, 0, [], by decide +kernel⟩,
   ⟨State.reset, 0, [], by decide +kernel⟩⟩

theorem test_meets_safe_frames :
    (∃ (s : State) (c : Fin 4) (portB : Bool) (b : List Byte), s.garnet.run = true ∧ s.n Fld.SAFETY_CONN_NET 0 c ≠ 0 ∧
      (s.pduOk c b = false ∨ (s.garnet.conn[c].everAcc = true ∧
      ((pdu16 b 2 - s.garnet.conn[c].lastSeq).toNat < 1 ∨ 8 < (pdu16 b 2 - s.garnet.conn[c].lastSeq).toNat)))) ∧
    (∃ (s : State) (c : Fin 4) (portB : Bool) (b : List Byte), s.garnet.run = true ∧ s.n Fld.SAFETY_CONN_NET 0 c ≠ 0 ∧
      s.pduOk c b = true ∧ (s.garnet.conn[c].everAcc = true → 1 ≤ (pdu16 b 2 - s.garnet.conn[c].lastSeq).toNat ∧
      (pdu16 b 2 - s.garnet.conn[c].lastSeq).toNat ≤ 8) ∧ (∀ w ∈ s.garnet.conn[c].waiting, w.seq ≠ pdu16 b 2)) ∧
    (∃ (s : State) (c : Fin 4) (portB : Bool) (b : List Byte) (w : WaitCopy), s.garnet.run = true ∧ s.n Fld.SAFETY_CONN_NET 0 c ≠ 0 ∧
      s.pduOk c b = true ∧ (s.garnet.conn[c].everAcc = true → 1 ≤ (pdu16 b 2 - s.garnet.conn[c].lastSeq).toNat ∧
      (pdu16 b 2 - s.garnet.conn[c].lastSeq).toNat ≤ 8) ∧ s.garnet.conn[c].waiting = [w] ∧ w.seq = pdu16 b 2 ∧ w.portB = (!portB) ∧
      w.bytes = b) ∧
    (∃ (s : State) (c : Fin 4) (portB : Bool) (b : List Byte) (w : WaitCopy), s.garnet.run = true ∧ s.n Fld.SAFETY_CONN_NET 0 c ≠ 0 ∧
      s.pduOk c b = true ∧ (s.garnet.conn[c].everAcc = true → 1 ≤ (pdu16 b 2 - s.garnet.conn[c].lastSeq).toNat ∧
      (pdu16 b 2 - s.garnet.conn[c].lastSeq).toNat ≤ 8) ∧ s.garnet.conn[c].waiting = [w] ∧ w.seq = pdu16 b 2 ∧ w.portB = (!portB) ∧
      w.bytes ≠ b) ∧
    (∃ (s : State) (c : Fin 4) (portB : Bool) (b : List Byte), (s.garnet.run = false ∨ s.n Fld.SAFETY_CONN_NET 0 c = 0)) ∧
    (∃ (s : State) (c : Fin 4) (q : BitVec 16), (∃ w ∈ s.garnet.conn[c].waiting, w.seq = q)) ∧
    (∃ (s : State) (c : Fin 4) (q : BitVec 16), (∀ w ∈ s.garnet.conn[c].waiting, w.seq ≠ q)) ∧
    (∃ (s : State) (c : Fin 4), s.garnet.run = true ∧ s.garnet.conn[c].watch = true) ∧
    (∃ (s : State) (c : Fin 4), (s.garnet.run = false ∨ s.garnet.conn[c].watch = false)) :=
  ⟨⟨{ State.reset with
       garnet := { State.reset.garnet with run := true }, used := [(fieldKey Fld.SAFETY_CONN_NET 0 0 0, .num 1)] }, 0, false, [],
     by decide +kernel⟩,
   ⟨{ State.reset with
       garnet := { State.reset.garnet with run := true },
       used := [(fieldKey Fld.SAFETY_CONN_NET 0 0 0, .num 1), (fieldKey Fld.SAFETY_CONN_CONNID 0 0 0, .num 0)] }, 0, false, aPdu,
     by decide +kernel⟩,
   ⟨{ State.reset with
       garnet := { State.reset.garnet with run := true, conn := (every State.reset.garnet.conn fun e1 => { e1 with waiting := [⟨1, aPdu, true⟩] }) },
       used := [(fieldKey Fld.SAFETY_CONN_NET 0 0 0, .num 1), (fieldKey Fld.SAFETY_CONN_CONNID 0 0 0, .num 0)] }, 0, false, aPdu,
     ⟨1, aPdu, true⟩, by decide +kernel⟩,
   ⟨{ State.reset with
       garnet := { State.reset.garnet with run := true, conn := (every State.reset.garnet.conn fun e1 => { e1 with waiting := [⟨1, [], true⟩] }) },
       used := [(fieldKey Fld.SAFETY_CONN_NET 0 0 0, .num 1), (fieldKey Fld.SAFETY_CONN_CONNID 0 0 0, .num 0)] }, 0, false, aPdu,
     ⟨1, [], true⟩, by decide +kernel⟩,
   ⟨{ State.reset with garnet := { State.reset.garnet with run := false } }, 0, false, [], by decide +kernel⟩,
   ⟨{ State.reset with
       garnet := { State.reset.garnet with conn := (every State.reset.garnet.conn fun e1 => { e1 with waiting := [aCopy] }) } }, 0, 0,
     by decide +kernel⟩,
   ⟨State.reset, 0, 0, by decide +kernel⟩,
   ⟨{ State.reset with
       garnet := { State.reset.garnet with run := true, conn := (every State.reset.garnet.conn fun e1 => { e1 with watch := true }) } }, 0,
     by decide +kernel⟩,
   ⟨{ State.reset with garnet := { State.reset.garnet with run := false } }, 0, by decide +kernel⟩⟩

theorem test_meets_ethernet_and_time :
    (∃ (s : State) (p : Fin 8) (f : EthFrame) (full : BitVec 9),
      (s.eth.port[p.castSucc].en = false ∨ s.eth.port[p.castSucc].link = false ∨ f.fcsOk = false ∨ (f.vid = 0 ∧
      1518 < f.len) ∨ 1522 < f.len)) ∧
    (∃ (s : State) (p : Fin 8) (f : EthFrame) (full : BitVec 9), s.portLive p.castSucc = true ∧ f.fcsOk = true ∧ f.len ≤ 1518 ∧
      s.lanOf p.castSucc = none ∧ s.safeConnOf p f = none ∧ f.asMsg = none ∧ (∀ j : Fin 32, s.netMatches p f j = false)) ∧
    (∃ (s : State) (p : Fin 8) (f : EthFrame) (full : BitVec 9) (j : Fin 32) (raw : Nat), s.portLive p.castSucc = true ∧ f.fcsOk = true ∧
      f.len ≤ 1518 ∧ s.lanOf p.castSucc = none ∧ s.safeConnOf p f = none ∧ f.asMsg = none ∧ (∀ i : Fin 32,
      s.netMatches p f i = true ↔ i = j) ∧ s.n Fld.NET_SPC_FMT 0 j = 0 ∧ s.n Fld.NET_SPC_SEQOFS 0 j = 0xFF ∧
      numAt f.payload (s.n Fld.NET_SPC_OFS 0 j) 2 false = some raw) ∧
    (∃ (s : State) (p : Fin 8) (f : EthFrame) (full : BitVec 9) (k : Fin 4) (b : Bool) (seq : BitVec 16), s.portLive p.castSucc = true ∧
      f.fcsOk = true ∧ f.len ≤ 1518 ∧ s.lanOf p.castSucc = some (k, b) ∧ s.safeConnOf p f = none ∧ f.prp = some (seq, b) ∧
      (∃ x ∈ s.eth.prp[k].seen, x.mac = f.src ∧ x.seq = seq ∧ s.up < x.at_ + 400 * ms)) ∧
    (∃ (s : State) (p : Fin 8) (f : EthFrame) (full : BitVec 9) (d : Nat), s.portLive p.castSucc = true ∧ f.fcsOk = true ∧ f.len ≤ 1518 ∧
      s.lanOf p.castSucc = none ∧ s.safeConnOf p f = none ∧ f.asMsg = some (.pdelay d)) ∧
    (∃ (s : State) (p : Fin 8) (f : EthFrame) (full : BitVec 9) (a : BitVec 112), s.portLive p.castSucc = true ∧ f.fcsOk = true ∧
      f.len ≤ 1518 ∧ s.lanOf p.castSucc = none ∧ s.safeConnOf p f = none ∧ f.asMsg = some (.announce a) ∧ s.time.gmPort ≠ p ∧
      betterThan a s.ownIdent = true ∧ betterThan a s.time.gm = true ∧ s.time.gm ≠ some a) ∧
    (∃ (s : State) (p : Fin 8) (f : EthFrame) (full : BitVec 9) (ofs : Rat), s.portLive p.castSucc = true ∧ f.fcsOk = true ∧
      f.len ≤ 1518 ∧ s.lanOf p.castSucc = none ∧ s.safeConnOf p f = none ∧ f.asMsg = some (.sync ofs) ∧ s.timeSource = .as_ ∧
      s.time.gmPort = p) ∧
    (∃ (s : State) (p : Fin 8) (speed : BitVec 2), s.eth.port[p.castSucc].en = true ∧ s.eth.port[p.castSucc].link = false ∧
      s.n Fld.NET_PORT_SPEED 0 p = 0) ∧
    (∃ (s : State) (p : Fin 8) (up : Bool) (half : Bool) (speed : BitVec 2), s.eth.port[p.castSucc].en = true ∧
      s.eth.port[p.castSucc].link = true ∧ (up = false ∨ half = true)) ∧
    (∃ (s : State) (p : Fin 8) (up : Bool) (half : Bool) (speed : BitVec 2), s.eth.port[p.castSucc].en = false) ∧
    (∃ (s : State) (p : Fin 8), s.eth.port[p.castSucc].gclOn = true) ∧
    (∃ (s : State) (k : Fin 4) (b : Bool), s.lanPort k b ≠ none ∧ (if b then s.eth.prp[k].bUp else s.eth.prp[k].aUp) = true ∧
      s.lanSilent k b = true) ∧
    (∃ (s : State) (k : Fin 4) (b : Bool),
      (s.lanPort k b = none ∨ (if b then s.eth.prp[k].bUp else s.eth.prp[k].aUp) = false ∨ s.lanSilent k b = false)) ∧
    (∃ (s : State), (s.time.gm.isSome = true ∨ s.ownIdent.isSome = true)) ∧
    (∃ (s : State), s.time.gm = none ∧ s.ownIdent = none) ∧
    (∃ (s : State), s.time.gm.isSome = true ∧ s.time.syncAt + 3 * s.syncEvery ≤ s.up) ∧
    (∃ (s : State), (s.time.gm = none ∨ s.up < s.time.syncAt + 3 * s.syncEvery)) ∧
    (∃ (s : State), (∀ x ∈ s.eth.mac, s.up < x.seen + s.n Fld.NET_AGE 0 * sec)) ∧
    (∃ (s : State), (∃ x ∈ s.eth.mac, x.seen + s.n Fld.NET_AGE 0 * sec ≤ s.up)) :=
  ⟨⟨{ State.reset with
       eth := { State.reset.eth with port := (every State.reset.eth.port fun e1 => { e1 with en := false }) } }, 0, anEth, 0,
     by decide +kernel⟩,
   ⟨{ State.reset with
       eth := { State.reset.eth with port := (every State.reset.eth.port fun e1 => { e1 with en := true, link := true }) } }, 0,
     { anEth with fcsOk := true, asMsg := none }, 0, by decide +kernel⟩,
   ⟨{ State.reset with
       eth := { State.reset.eth with port := (every State.reset.eth.port fun e1 => { e1 with en := true, link := true }) },
       used := [(fieldKey Fld.NET_SPC_FMT 0 0 0, .num 0), (fieldKey Fld.NET_SPC_SEQOFS 0 0 0, .num 0xFF), (fieldKey Fld.NET_SPC_PORTS 0 0 0, .num 1), (fieldKey Fld.NET_SPC_VID 0 0 0, .num 1), (fieldKey Fld.NET_SPC_ETYPE 0 0 0, .num 0x88B5), (fieldKey Fld.NET_SPC_OFS 0 0 0, .num 0)] },
     0, { anEth with etype := 0x88B5, payload := [1, 2] }, 0, 0, 258, by decide +kernel⟩,
   ⟨{ State.reset with
       eth := { State.reset.eth with port := (every State.reset.eth.port fun e1 => { e1 with en := true, link := true }), prp := (every State.reset.eth.prp fun e1 => { e1 with seen := [⟨0, 0, 0⟩] }) },
       used := [(fieldKey Fld.NET_PRP_PORTA 0 0 0, .num 1)] }, 0, { anEth with prp := some (0, false) }, 0, 0, false, 0, by decide +kernel⟩,
   ⟨{ State.reset with
       eth := { State.reset.eth with port := (every State.reset.eth.port fun e1 => { e1 with en := true, link := true }) } }, 0,
     { anEth with asMsg := some (.pdelay 0) }, 0, 0, by decide +kernel⟩,
   ⟨{ State.reset with
       eth := { State.reset.eth with port := (every State.reset.eth.port fun e1 => { e1 with en := true, link := true }) },
       time := { State.reset.time with gmPort := 1 }, used := [(fieldKey Fld.NET_ASPRIO1 0 0 0, .num 255)] }, 0,
     { anEth with asMsg := some (.announce 0) }, 0, 0, by decide +kernel⟩,
   ⟨{ State.reset with
       eth := { State.reset.eth with port := (every State.reset.eth.port fun e1 => { e1 with en := true, link := true }) },
       time := { State.reset.time with gmPort := 0, gm := some 0 }, used := [(fieldKey Fld.NET_ASEN 0 0 0, .num 1)] }, 0,
     { anEth with asMsg := some (.sync 0) }, 0, 0, by decide +kernel⟩,
   ⟨{ State.reset with
       eth := { State.reset.eth with port := (every State.reset.eth.port fun e1 => { e1 with en := true, link := false }) },
       used := [(fieldKey Fld.NET_PORT_SPEED 0 0 0, .num 0)] }, 0, 0, by decide +kernel⟩,
   ⟨{ State.reset with
       eth := { State.reset.eth with port := (every State.reset.eth.port fun e1 => { e1 with en := true, link := true }) } }, 0, false,
     false, 0, by decide +kernel⟩,
   ⟨{ State.reset with
       eth := { State.reset.eth with port := (every State.reset.eth.port fun e1 => { e1 with en := false }) } }, 0, false, false, 0,
     by decide +kernel⟩,
   ⟨{ State.reset with
       eth := { State.reset.eth with port := (every State.reset.eth.port fun e1 => { e1 with gclOn := true }) } }, 0, by decide +kernel⟩,
   ⟨{ State.reset with
       up := 1000000000000000,
       eth := { State.reset.eth with prp := (every State.reset.eth.prp fun e1 => { e1 with aUp := true, aLast := 0, bLast := 1 }) },
       used := [(fieldKey Fld.NET_PRP_PORTA 0 0 0, .num 1)] }, 0, false, by decide +kernel⟩,
   ⟨State.reset, 0, false, by decide +kernel⟩,
   ⟨{ State.reset with time := { State.reset.time with gm := some default } }, by decide +kernel⟩,
   ⟨{ State.reset with
       time := { State.reset.time with gm := none }, used := [(fieldKey Fld.NET_ASPRIO1 0 0 0, .num 255)] }, by decide +kernel⟩,
   ⟨{ State.reset with time := { State.reset.time with gm := some default }, up := 1000000000000000 }, by decide +kernel⟩,
   ⟨{ State.reset with time := { State.reset.time with gm := none } }, by decide +kernel⟩,
   ⟨State.reset, by decide +kernel⟩,
   ⟨{ State.reset with up := 1000000000000000, eth := { State.reset.eth with mac := [⟨0, 0, 0, 0⟩] } }, by decide +kernel⟩⟩

theorem test_meets_can_controllers :
    (∃ (s : State) (c : Fin 4) (f : CanFrame) (sofAgo : Nat) (endAgo : Nat),
      (s.can[c].on = false ∨ s.can[c].busOff = true ∨ (f.fdf = true ∧ s.yes Fld.CAN_FDEN c = false))) ∧
    (∃ (s : State) (c : Fin 4) (f : CanFrame) (sofAgo : Nat) (endAgo : Nat), s.can[c].live = true ∧
      (f.fdf = true → s.yes Fld.CAN_FDEN c = true) ∧ s.canSafe c f = none ∧ (∀ i < 64, s.filterHit c f i = false)) ∧
    (∃ (s : State) (c : Fin 4) (f : CanFrame) (sofAgo : Nat) (endAgo : Nat) (i : Nat), s.can[c].live = true ∧
      (f.fdf = true → s.yes Fld.CAN_FDEN c = true) ∧ s.canSafe c f = none ∧ i < 64 ∧ s.filterHit c f i = true ∧ (∀ j < i,
      s.filterHit c f j = false) ∧ s.n Fld.CAN_FLT_Q c i = 0 ∧ s.n Fld.CAN_RXQ_CONS c 0 ≠ 0) ∧
    (∃ (s : State) (c : Fin 4) (f : CanFrame) (sofAgo : Nat) (endAgo : Nat) (i : Nat) (raw : Nat) (j : Fin 32), s.can[c].live = true ∧
      (f.fdf = true → s.yes Fld.CAN_FDEN c = true) ∧ s.canSafe c f = none ∧ i < 64 ∧ s.filterHit c f i = true ∧ (∀ k < i,
      s.filterHit c f k = false) ∧ s.n Fld.CAN_FLT_Q c i = 0 ∧ s.n Fld.CAN_RXQ_CONS c 0 = 0 ∧ s.canBinds c j = true ∧
      s.n Fld.CAN_SPC_ID c j = f.id.toNat ∧ (s.n Fld.CAN_SPC_IDE c j == 1) = f.ide ∧ f.rtr = false ∧ s.n Fld.CAN_SPC_FMT c j = 1 ∧
      s.n Fld.CAN_SPC_SEQOFS c j = 0xFF ∧ numAt f.data (s.n Fld.CAN_SPC_OFS c j) 2 (s.n Fld.CAN_SPC_ORDER c j == 0) = some raw) ∧
    (∃ (s : State) (c : Fin 4) (x : Fin 4) (b : Bool) (f : CanFrame) (sofAgo : Nat) (endAgo : Nat), s.can[c].live = true ∧
      s.can[c].mon = true ∧ (f.fdf = true → s.yes Fld.CAN_FDEN c = true) ∧ s.canSafe c f = some (x, b)) ∧
    (∃ (s : State) (c : Fin 4) (err : BitVec 3) (dataPhase : Bool) (recN : Nat), s.can[c].live = true ∧ s.can[c].mon = false) ∧
    (∃ (s : State) (c : Fin 4) (err : BitVec 3) (dataPhase : Bool) (recN : Nat), (s.can[c].live = false ∨ s.can[c].mon = true)) ∧
    (∃ (s : State) (c : Fin 4) (host : Bool), s.can[c].tx.length < 32 ∧
      (tst (if host then s.can[c].stage[1] else s.can[c].stage[0]).ctl 8 = true → s.yes Fld.CAN_FDEN c = true)) ∧
    (∃ (s : State) (c : Fin 4) (host : Bool),
      (32 ≤ s.can[c].tx.length ∨ (tst (if host then s.can[c].stage[1] else s.can[c].stage[0]).ctl 8 = true ∧ s.yes Fld.CAN_FDEN c = false))) ∧
    (∃ (s : State) (c : Fin 4) (x : CanTx) (l : List CanTx) (dataPhase : Bool) (stamp : Word), s.can[c].live = true ∧
      s.can[c].mon = false ∧ s.can[c].safeTx = false ∧ s.can[c].tx = x :: l ∧ s.can[c].done.length < 32 ∧ x.cancel = false) ∧
    (∃ (s : State) (c : Fin 4) (x : CanTx) (l : List CanTx) (dataPhase : Bool) (stamp : Word), s.can[c].live = true ∧
      s.can[c].mon = false ∧ s.can[c].safeTx = false ∧ s.can[c].tx = x :: l ∧ s.can[c].done.length < 32 ∧ x.cancel = true) ∧
    (∃ (s : State) (c : Fin 4) (x : CanTx) (l : List CanTx) (dataPhase : Bool) (stamp : Word), s.can[c].live = true ∧
      s.can[c].mon = false ∧ s.can[c].safeTx = false ∧ s.can[c].tx = x :: l ∧ s.can[c].done.length < 32 ∧ x.cancel = false ∧
      s.n Fld.CAN_RETRY c ≠ 0 ∧ s.n Fld.CAN_RETRY c ≤ x.fails) ∧
    (∃ (s : State) (c : Fin 4) (x : CanTx) (l : List CanTx) (dataPhase : Bool) (stamp : Word), s.can[c].live = true ∧
      s.can[c].mon = false ∧ s.can[c].safeTx = false ∧ s.can[c].tx = x :: l ∧ s.can[c].done.length < 32 ∧ x.cancel = false ∧
      (s.n Fld.CAN_RETRY c = 0 ∨ x.fails < s.n Fld.CAN_RETRY c)) ∧
    (∃ (s : State) (c : Fin 4) (x : CanTx) (l : List CanTx) (dataPhase : Bool) (stamp : Word), s.can[c].live = true ∧
      s.can[c].mon = false ∧ s.can[c].safeTx = false ∧ s.can[c].tx = x :: l ∧ s.can[c].done.length < 32 ∧ s.can[c].passive = true) ∧
    (∃ (s : State) (c : Fin 4) (x : CanTx) (l : List CanTx) (dataPhase : Bool) (stamp : Word), s.can[c].live = true ∧
      s.can[c].mon = false ∧ s.can[c].safeTx = false ∧ s.can[c].tx = x :: l ∧ s.can[c].done.length < 32 ∧ s.can[c].passive = false) ∧
    (∃ (s : State) (c : Fin 4) (x : CanTx) (l : List CanTx) (dataPhase : Bool) (stamp : Word) (lec : BitVec 3), s.can[c].live = true ∧
      s.can[c].mon = false ∧ s.can[c].safeTx = false ∧ s.can[c].tx = x :: l ∧ s.can[c].done.length < 32 ∧ 247 < s.can[c].tec) ∧
    (∃ (s : State) (c : Fin 4) (x : CanFrame) (dataPhase : Bool) (stamp : Word), s.can[c].live = true ∧ s.can[c].mon = false ∧
      s.can[c].safeTx = true ∧ s.can[c].safe = some x) ∧
    (∃ (s : State) (c : Fin 4) (r : TxResult) (dataPhase : Bool) (stamp : Word), (s.can[c].live = false ∨ s.can[c].mon = true)) ∧
    (∃ (s : State) (c : Fin 4) (tag : BitVec 8) (x : CanTx) (a : List CanTx) (l : List CanTx), s.can[c].tx = a ++ x :: l ∧ a ≠ [] ∧
      x.tag = tag ∧ (∀ y ∈ a, y.tag ≠ tag) ∧ s.can[c].done.length < 32) ∧
    (∃ (s : State) (c : Fin 4) (tag : BitVec 8), (∀ y ∈ s.can[c].tx, y.tag ≠ tag)) ∧
    (∃ (s : State) (c : Fin 4), s.can[c].busOff = true ∧ s.can[c].recover = none) ∧
    (∃ (s : State) (c : Fin 4), s.can[c].busOff = false) ∧
    (∃ (s : State) (c : Fin 4), (s.can[c].recover = none ∨ ∃ a, s.can[c].recover = some a ∧ s.up < a + s.canQuiet c)) ∧
    (∃ (s : State) (c : Fin 4) (a : Nat), s.can[c].busOff = true ∧ s.can[c].recover = some a ∧ a + s.canQuiet c ≤ s.up) ∧
    (∃ (s : State) (c : Fin 4) (q : Fin 2), s.n Fld.CAN_RXQ_CONS c q ≠ 0) ∧
    (∃ (s : State) (c : Fin 4) (q : Fin 2), s.n Fld.CAN_RXQ_CONS c q = 0) ∧
    (∃ (s : State) (c : Fin 4), 7 ≤ s.rst.stage ∧ s.can[c].on = false ∧ s.yes Fld.CAN_EN c = true) ∧
    (∃ (s : State) (c : Fin 4), (s.rst.stage < 7 ∨ s.can[c].on = true ∨ s.yes Fld.CAN_EN c = false)) ∧
    (∃ (s : State), (s.garnet.run = true ∨ s.garnet.safe = true)) ∧
    (∃ (s : State), s.garnet.run = false ∧ s.garnet.safe = false) :=
  ⟨⟨{ State.reset with can := (every State.reset.can fun e1 => { e1 with on := false }) }, 0, aCan, 0, 0, by decide +kernel⟩,
   ⟨{ State.reset with can := (every State.reset.can fun e1 => { e1 with on := true }) }, 0, aCan, 0, 0, by decide +kernel⟩,
   ⟨{ State.reset with
       can := (every State.reset.can fun e1 => { e1 with on := true }),
       used := [(fieldKey Fld.CAN_FLT_Q 0 0 0, .num 0), (fieldKey Fld.CAN_RXQ_CONS 0 0 0, .num 1), (fieldKey Fld.CAN_FLT_EN 0 0 0, .num 1), (fieldKey Fld.CAN_FLT_IDE 0 0 0, .num 2), (fieldKey Fld.CAN_FLT_FDF 0 0 0, .num 2)] },
     0, aCan, 0, 0, 0, by decide +kernel⟩,
   ⟨{ State.reset with
       can := (every State.reset.can fun e1 => { e1 with on := true }),
       used := [(fieldKey Fld.CAN_FLT_Q 0 0 0, .num 0), (fieldKey Fld.CAN_RXQ_CONS 0 0 0, .num 0), (fieldKey Fld.CAN_FLT_EN 0 0 0, .num 1), (fieldKey Fld.CAN_FLT_IDE 0 0 0, .num 2), (fieldKey Fld.CAN_FLT_FDF 0 0 0, .num 2), (fieldKey Fld.CAN_SPC_FMT 0 0 0, .num 1), (fieldKey Fld.CAN_SPC_SEQOFS 0 0 0, .num 0xFF), (fieldKey Fld.CAN_SPC_FS 0 0 0, .num 2)] },
     0, { aCan with dlc := 8, data := List.replicate 8 0 }, 0, 0, 0, 0, 0, by decide +kernel⟩,
   ⟨{ State.reset with
       can := (every State.reset.can fun e1 => { e1 with on := true, mon := true }),
       used := [(fieldKey Fld.SAFETY_CONN_NET 0 0 0, .num 2), (fieldKey Fld.SAFETY_CONN_PORTA 0 0 0, .num 8), (fieldKey Fld.CAN_FDEN 0 0 0, .num 1), (fieldKey Fld.SAFETY_CONN_CANID 0 0 0, .num 0)] },
     0, 0, false, { aCan with fdf := true, dlc := 11, data := List.replicate 20 0 }, 0, 0, by decide +kernel⟩,
   ⟨{ State.reset with can := (every State.reset.can fun e1 => { e1 with on := true, mon := false }) }, 0, 0, false, 0, by decide +kernel⟩,
   ⟨{ State.reset with can := (every State.reset.can fun e1 => { e1 with on := false }) }, 0, 0, false, 0, by decide +kernel⟩,
   ⟨State.reset, 0, false, by decide +kernel⟩,
   ⟨{ State.reset with can := (every State.reset.can fun e1 => { e1 with tx := List.replicate 32 aTx }) }, 0, false, by decide +kernel⟩,
   ⟨{ State.reset with
       can := (every State.reset.can fun e1 => { e1 with on := true, tx := [aTx] }) }, 0, aTx, [], false, 0, by decide +kernel⟩,
   ⟨{ State.reset with
       can := (every State.reset.can fun e1 => { e1 with on := true, tx := [{ aTx with cancel := true }] }) }, 0,
     { aTx with cancel := true }, [], false, 0, by decide +kernel⟩,
   ⟨{ State.reset with
       can := (every State.reset.can fun e1 => { e1 with on := true, tx := [{ aTx with fails := 1 }] }),
       used := [(fieldKey Fld.CAN_RETRY 0 0 0, .num 1)] }, 0, { aTx with fails := 1 }, [], false, 0, by decide +kernel⟩,
   ⟨{ State.reset with
       can := (every State.reset.can fun e1 => { e1 with on := true, tx := [aTx] }), used := [(fieldKey Fld.CAN_RETRY 0 0 0, .num 0)] }, 0,
     aTx, [], false, 0, by decide +kernel⟩,
   ⟨{ State.reset with
       can := (every State.reset.can fun e1 => { e1 with on := true, passive := true, tx := [aTx] }) }, 0, aTx, [], false, 0,
     by decide +kernel⟩,
   ⟨{ State.reset with
       can := (every State.reset.can fun e1 => { e1 with on := true, passive := false, tx := [aTx] }) }, 0, aTx, [], false, 0,
     by decide +kernel⟩,
   ⟨{ State.reset with
       can := (every State.reset.can fun e1 => { e1 with on := true, tec := 248, tx := [aTx] }) }, 0, aTx, [], false, 0, 0,
     by decide +kernel⟩,
   ⟨{ State.reset with
       can := (every State.reset.can fun e1 => { e1 with on := true, mon := false, safeTx := true, safe := (some aCan) }) }, 0, aCan, false,
     0, by decide +kernel⟩,
   ⟨{ State.reset with can := (every State.reset.can fun e1 => { e1 with on := false }) }, 0, .sent, false, 0, by decide +kernel⟩,
   ⟨{ State.reset with
       can := (every State.reset.can fun e1 => { e1 with tx := [{ aTx with tag := 1 }, aTx] }) }, 0, 0, aTx, [{ aTx with tag := 1 }], [],
     by decide +kernel⟩,
   ⟨State.reset, 0, 0, by decide +kernel⟩,
   ⟨{ State.reset with can := (every State.reset.can fun e1 => { e1 with busOff := true, recover := none }) }, 0, by decide +kernel⟩,
   ⟨{ State.reset with can := (every State.reset.can fun e1 => { e1 with busOff := false }) }, 0, by decide +kernel⟩,
   ⟨{ State.reset with can := (every State.reset.can fun e1 => { e1 with recover := none }) }, 0, by decide +kernel⟩,
   ⟨{ State.reset with
       can := (every State.reset.can fun e1 => { e1 with busOff := true, recover := some 0 }), up := 1000000000000000 }, 0, 0,
     by decide +kernel⟩,
   ⟨{ State.reset with used := [(fieldKey Fld.CAN_RXQ_CONS 0 0 0, .num 1)] }, 0, 0, by decide +kernel⟩,
   ⟨{ State.reset with used := [(fieldKey Fld.CAN_RXQ_CONS 0 0 0, .num 0)] }, 0, 0, by decide +kernel⟩,
   ⟨{ State.reset with
       rst := { State.reset.rst with stage := 7 }, can := (every State.reset.can fun e1 => { e1 with on := false }),
       used := [(fieldKey Fld.CAN_EN 0 0 0, .num 1)] }, 0, by decide +kernel⟩,
   ⟨State.reset, 0, by decide +kernel⟩,
   ⟨{ State.reset with garnet := { State.reset.garnet with run := true } }, by decide +kernel⟩,
   ⟨{ State.reset with garnet := { State.reset.garnet with run := false, safe := false } }, by decide +kernel⟩⟩

end Sys2Proof.Tests
end

section
/-! SUPPORT. A reading of the state that every pass of a loop leaves as it is, the loop leaves as it is; and a reading that passes over the
recorder and the capture buffers is left by every event raised. -/

namespace Sys2Proof.Machine

section
variable {α γ σ : Type}

theorem reads_foldl {k : σ → α} {f : σ → γ → σ} (hf : ∀ s x, k (f s x) = k s) (l : List γ) (s : σ) : k (l.foldl f s) = k s := by
  induction l generalizing s with
  | nil => rfl
  | cons x l ih => exact (ih (f s x)).trans (hf s x)

theorem reads_forFin {n : Nat} {k : σ → α} {f : Fin n → σ → σ} (hf : ∀ i s, k (f i s) = k s) (s : σ) : k (forFin n f s) = k s :=
  reads_foldl (fun s i => hf i s) _ s

variable {k : State → α}

/-- A reading that neither the recorder nor the capture buffers change. -/
def Silent (k : State → α) : Prop := ∀ s r c, k { s with recd := r, cap := c } = k s

theorem reads_raise (hk : Silent k) (s : State) (ev : Ev) (u a : Nat) (d : List Byte) : k (s.raise ev u a d) = k s := by
  obtain ⟨r, c, h⟩ := raise_recOnly s ev u a d
  rw [h]
  exact hk s r c

theorem reads_raiseIf (hk : Silent k) (s : State) (b : Bool) (ev : Ev) (u a : Nat) (d : List Byte) :
    k (s.raiseIf b ev u a d) = k s := by
  unfold State.raiseIf
  split
  · exact reads_raise hk s ev u a d
  · rfl

end

end Sys2Proof.Machine
end

section
/-! SUPPORT. The credits of a flow (R5, R281): an operation that takes entries off the counts owes them until it has put them back. -/

namespace Sys2Proof.Machine

/-! ## Entries -/

theorem entries_eq_sum (l : List Item) : entries l = (l.map Item.len).sum := by
  rw [entries, ← List.foldl_map (f := Item.len) (g := (· + ·)), List.sum_eq_foldl]

@[simp] theorem entries_nil : entries [] = 0 := rfl

@[simp] theorem entries_cons (i : Item) (l : List Item) : entries (i :: l) = i.len + entries l := by simp [entries_eq_sum]

@[simp] theorem entries_append (l r : List Item) : entries (l ++ r) = entries l + entries r := by simp [entries_eq_sum]

theorem entries_takeWhile_dropWhile (p : Item → Bool) (l : List Item) :
    entries (l.takeWhile p) + entries (l.dropWhile p) = entries l := by
  rw [← entries_append, List.takeWhile_append_dropWhile]

/-! ## A flow that owes entries -/

/-- The entries of the item that the consumer holds. -/
def Flow.heldLen (f : Flow) : Nat := match f.held with | some i => i.len | none => 0

/-- The flow is in balance but for `n` entries of INFL that no item of it stands for: their item is on its way. -/
structure Flow.Owes (f : Flow) (n : Nat) : Prop where
  buf  : f.buf = entries f.items
  infl : f.infl = entries f.ingress + f.heldLen + n
  law  : f.free + f.buf + f.infl = f.depth

theorem Flow.balanced_iff (f : Flow) : f.balanced ↔ f.Owes 0 :=
  ⟨fun ⟨hb, hi, hl⟩ => ⟨hb, hi, hl⟩, fun ⟨hb, hi, hl⟩ => ⟨hb, hi, hl⟩⟩

namespace Flow.Owes
variable {f : Flow} {n : Nat}

theorem take (h : f.Owes 0) (hn : n ≤ f.free) : (f.take n).Owes n := by
  obtain ⟨hb, hi, hl⟩ := h
  refine ⟨hb, ?_, ?_⟩ <;> simp only [Flow.take, Flow.heldLen] at * <;> omega

/-- What is owed waits in ingress. -/
theorem wait {it : Item} (h : f.Owes it.len) : ({ f with ingress := f.ingress ++ [it] } : Flow).Owes 0 := by
  obtain ⟨hb, hi, hl⟩ := h
  refine ⟨hb, ?_, hl⟩
  simp only [Flow.heldLen, entries_append, entries_cons, entries_nil] at *
  omega

theorem write {it : Item} (h : f.Owes (n + it.len)) : (f.write it).Owes n := by
  obtain ⟨hb, hi, hl⟩ := h
  refine ⟨?_, ?_, ?_⟩ <;> simp only [Flow.write, Flow.heldLen, entries_append, entries_cons, entries_nil] at * <;> omega

theorem foldl_write (l : List Item) {f : Flow} (h : f.Owes (entries l)) : (l.foldl Flow.write f).Owes 0 := by
  induction l generalizing f with
  | nil => exact h
  | cons it l ih => exact ih (write (by simpa [Nat.add_comm] using h))

/-- The items of ingress are taken off it to be written. -/
theorem unqueue {l r : List Item} (h : f.Owes 0) (hf : f.ingress = l ++ r) : ({ f with ingress := r } : Flow).Owes (entries l) := by
  obtain ⟨hb, hi, hl⟩ := h
  refine ⟨hb, ?_, hl⟩
  simp only [Flow.heldLen, hf, entries_append] at *
  omega

theorem purge (h : f.Owes n) : f.purge.Owes n := by
  obtain ⟨hb, hi, hl⟩ := h
  have he := entries_takeWhile_dropWhile (fun i => i.epoch != f.epoch) f.items
  refine ⟨?_, hi, ?_⟩ <;> simp only [Flow.purge] <;> omega

theorem refused (h : f.Owes n) : f.refused.Owes n := ⟨h.buf, h.infl, h.law⟩

theorem release (h : f.Owes n) : f.release.Owes n := by
  obtain ⟨hb, hi, hl⟩ := h
  unfold Flow.release
  split
  next i hd =>
    simp only [Flow.heldLen, hd] at hi
    refine ⟨hb, ?_, ?_⟩ <;> simp only [Flow.heldLen] <;> omega
  next => exact ⟨hb, hi, hl⟩

theorem popped {i : Item} {rest : List Item} (h : f.Owes n) (hf : f.items = i :: rest) : (f.popped i rest).Owes n := by
  have hr : f.release.held = none ∧ f.release.items = f.items := by
    unfold Flow.release
    split
    · exact ⟨rfl, rfl⟩
    next hd => exact ⟨hd, rfl⟩
  obtain ⟨hheld, hitems⟩ := hr
  obtain ⟨hb, hi, hl⟩ := h.release
  rw [hitems, hf, entries_cons] at hb
  simp only [Flow.heldLen, hheld] at hi
  refine purge ⟨?_, ?_, ?_⟩ <;> simp only [Flow.heldLen] <;> omega

/-- A mark on the held item changes no count. -/
theorem markHeld (h : f.Owes n) : ({ f with held := f.held.map fun i => { i with poison := true } } : Flow).Owes n := by
  refine ⟨h.buf, h.infl.trans ?_, h.law⟩
  cases hd : f.held <;> simp [Flow.heldLen, hd]

end Flow.Owes

/-! ## Every flow of a state -/

/-- Every flow is in balance. -/
def State.Credits (s : State) : Prop := ∀ g : Fin 256, (s.fab.flows[g]).Owes 0

namespace State.Credits
variable {s t : State}

/-- Balance is a matter of the flows alone. -/
theorem of_flows (h : s.Credits) (hf : t.fab.flows = s.fab.flows) : t.Credits := by
  intro g
  rw [hf]
  exact h g

theorem onFlow (h : s.Credits) (f : Fin 256) {c : Flow → Flow} (hc : (s.fab.flows[f]).Owes 0 → (c s.fab.flows[f]).Owes 0) :
    (s.onFlow f c).Credits := by
  intro g
  rw [State.onFlow_fab]
  by_cases hg : g = f
  · subst hg
    rw [vmod_self]
    exact hc (h g)
  · rw [vmod_ne _ _ _ _ hg]
    exact h g

/-- A loop whose every pass keeps the credits. -/
theorem foldl {γ : Type} {f : State → γ → State} (hf : ∀ s x, s.Credits → (f s x).Credits) (l : List γ) (h : s.Credits) :
    (l.foldl f s).Credits :=
  foldl_keeps (R := fun s t => s.Credits → t.Credits) (fun _ h => h) (fun _ _ _ a b h => b (a h)) f hf l s h

/-! ### Posts -/

theorem commitPost {p : Post} (h : s.Credits) (hp : p.item.len ≤ s.fab.flows[p.flow].free) : (s.commitPost p).Credits := by
  refine h.onFlow p.flow fun hf => ?_
  have ht := hf.take hp
  dsimp only
  split
  · exact Flow.Owes.wait (it := { p.item with seq := _ }) ht
  · exact (Flow.Owes.write (n := 0) (by simpa using ht)).purge

theorem postFrom (h : s.Credits) (src port : Nat) (f : Fin 256) (it : Item) : (s.postFrom src port f it).Credits := by
  unfold State.postFrom
  dsimp only
  split
  · split
    · exact h
    · exact h.onFlow f Flow.Owes.refused
  · split
    · split
      · refine onFlow (s := s.onFab _) ?_ f Flow.Owes.refused
        exact h
      · exact h
    · split
      next hle => exact h.commitPost hle
      next => exact h

theorem retryPost (h : s.Credits) (p : Post) : (s.retryPost p).Credits := by
  unfold State.retryPost
  dsimp only
  split
  · split
    · exact h
    · exact h.onFlow p.flow Flow.Owes.refused
  · split
    next => exact h
    next hgo => exact h.commitPost (by omega)

theorem drainPosts (h : s.Credits) : s.drainPosts.Credits :=
  foldl (s := s.onFab fun b => { b with waiting := [] }) (fun _ p h => h.retryPost p) _ h

theorem fenceWritten (h : s.Credits) (f : Fin 256) : (s.fenceWritten f).Credits := by
  unfold State.fenceWritten
  dsimp only
  split
  next it rest hin =>
    split
    · refine (foldl (fun t g ht => ?_) _ (h.onFlow f fun hf => ?_)).drainPosts
      · dsimp only
        split
        · refine ht.onFlow g fun hg => (Flow.Owes.foldl_write _ ?_).purge
          exact hg.unqueue (List.append_nil _).symm
        · exact ht
      · have hu := hf.unqueue (l := [it]) hin
        exact (Flow.Owes.write (n := 0) (by simpa using hu)).purge
    · exact h
  next => exact h

/-! ### Pops and releases -/

theorem mirrorItem_flows (s : State) (f : Fin 256) : (s.mirrorItem f).fab.flows = s.fab.flows := by
  unfold State.mirrorItem
  refine reads_forFin (k := fun s => s.fab.flows) (fun i s => ?_) s
  dsimp only
  split <;> rfl

theorem pop (h : s.Credits) (port : Nat) (f : Fin 256) : (s.pop port f).2.Credits := by
  unfold State.pop
  dsimp only
  split
  · exact h
  · split
    next => exact h
    next i rest hit => exact (h.onFlow f fun hf => hf.popped hit).of_flows (mirrorItem_flows _ f)

theorem raise (h : s.Credits) (ev : Ev) (u a : Nat) (d : List Byte) : (s.raise ev u a d).Credits :=
  h.of_flows (by rw [State.raise_fab])

theorem popEcc (h : s.Credits) (port : Nat) (f : Fin 256) (ecc : BitVec 2) : (s.popEcc port f ecc).Credits := by
  have hp := h.pop port f
  unfold State.popEcc
  generalize s.pop port f = r at hp
  obtain ⟨_ | i, s1⟩ := r
  · exact hp
  · dsimp only at hp ⊢
    split
    · exact hp
    · split
      · refine raise ?_ _ _ _ _
        exact hp.onFlow f Flow.Owes.markHeld
      · exact hp

theorem releaseItem (h : s.Credits) (port : Nat) (f : Fin 256) : (s.releaseItem port f).Credits := by
  unfold State.releaseItem
  split
  · exact h.onFlow f Flow.Owes.release
  · exact h

end State.Credits

/-- Settles O24: each command is one of the operations above, and each of them keeps what it owes. -/
theorem creditsConserved : Obligations.CreditsConserved := by
  intro s h
  have hs : s.Credits := fun g => (Flow.balanced_iff _).1 (h g)
  have runs {c : Instr} {t : State} (hc : exec c s = .next t) (ht : t.Credits) :
      Runs c s fun t => ∀ g : Fin 256, t.fab.flows[g].balanced := ⟨t, hc, fun g => (Flow.balanced_iff _).2 (ht g)⟩
  refine ⟨?_, ?_, ?_, ?_, ?_, ?_, ?_⟩
  · exact fun port f len fence epoch b => runs rfl (hs.postFrom 0 port f _)
  · exact fun _ => runs rfl hs.drainPosts
  · exact fun port f ecc => runs rfl (hs.popEcc port f ecc)
  · exact fun port f => runs rfl (hs.releaseItem port f)
  · exact fun f => runs rfl (hs.fenceWritten f)
  · intro f len fence epoch b
    refine runs rfl ?_
    split
    · exact hs
    · exact hs.postFrom 0 24 f _
  · intro f
    refine runs rfl ?_
    split
    · exact hs
    · exact hs.pop 24 f

end Sys2Proof.Machine
end

section
/-! SUPPORT. Register writes (R442): where an open accessor's aligned write arrives, and what becomes of any other. -/

namespace Sys2Proof.Machine

/-! ## The bus -/

/-- A write of an accessor that cannot reach the bus has no effect. -/
theorem State.regWrite_closed {s : State} {acc : Nat} (h : s.busOpen acc = false) (a size : Nat) (v : Word) :
    s.regWrite acc a size v = s := by
  simp [State.regWrite, h]

/-- An aligned write of a word does what its register means. -/
theorem State.regWrite_word {s t : State} {acc a : Nat} {v : Word} (h : s.busOpen acc = true) (ha : a % 4 = 0) (hb : a < barEnd)
    (hw : s.writeWord acc a v = some t) : s.regWrite acc a 4 v = t := by
  simp [State.regWrite, h, ha, hb, hw]

/-- An aligned write where no register can be written is rejected. -/
theorem State.regWrite_unmapped {s : State} {acc a : Nat} {v : Word} (h : s.busOpen acc = true) (hw : s.writeWord acc a v = none) :
    s.regWrite acc a 4 v = s.rejectWrite a v.toNat := by
  simp [State.regWrite, h, hw]

/-- A write that is no aligned write of a word of BAR0 is rejected. -/
theorem State.regWrite_odd {s : State} {acc a size : Nat} {v : Word} (h : s.busOpen acc = true)
    (ho : ¬(size = 4 ∧ a % 4 = 0 ∧ a < barEnd)) : s.regWrite acc a size v = s.rejectWrite a v.toNat := by
  simp [State.regWrite, h, ho]

/-- A rejected write is journaled with its address and value, and changes nothing else. -/
theorem rejectWrite_spec (s : State) (a v : Nat) :
    Logged s (s.rejectWrite a v) .WRITE_REJECTED 0xFF 0 (bytesLE 4 a ++ bytesLE 4 v) ∧
      s.rejectWrite a v = { s with recd := (s.rejectWrite a v).recd, cap := (s.rejectWrite a v).cap } := by
  refine ⟨raise_logged _ _ _ _ _, ?_⟩
  obtain ⟨r, c, h⟩ := raise_recOnly s .WRITE_REJECTED 0xFF 0 (bytesLE 4 a ++ bytesLE 4 v)
  unfold State.rejectWrite
  rw [h]

/-! ## Addresses -/

/-- A register of a motor object. -/
theorem State.writeWord_mo (s : State) (acc : Nat) (m : Fin 4) {o : Nat} (ho : o < 0x1000) (v : Word) :
    s.writeWord acc (0x00050000 + 0x1000 * m.1 + o) v = s.writeMo m o v := by
  have hblk : (0x00050000 + 0x1000 * m.1 + o) / 0x10000 = 5 := by omega
  have hlow : (0x00050000 + 0x1000 * m.1 + o) % 0x10000 = 0x1000 * m.1 + o := by omega
  have hm : (0x1000 * m.1 + o) / 0x1000 = m.1 := by omega
  have ho' : (0x1000 * m.1 + o) % 0x1000 = o := by omega
  have hin : 0x1000 * m.1 + o < 0x4000 := by omega
  simp [State.writeWord, State.writeDrive, hblk, hlow, hm, ho', hin]

/-- The control word of a position interface. -/
theorem State.writeWord_pi (s : State) (acc : Nat) (k : Fin 8) (v : Word) :
    s.writeWord acc (0x00058004 + 0x100 * k.1) v = some (s.onBit v 0 fun s => s.piClear k) := by
  have hblk : (0x00058004 + 0x100 * k.1) / 0x10000 = 5 := by omega
  have hlow : (0x00058004 + 0x100 * k.1) % 0x10000 = 0x8004 + 0x100 * k.1 := by omega
  have hout : ¬0x8004 + 0x100 * k.1 < 0x4000 := by omega
  have hin : 0x8000 ≤ 0x8004 + 0x100 * k.1 ∧ 0x8004 + 0x100 * k.1 < 0x8800 ∧ (0x8004 + 0x100 * k.1) % 0x100 = 4 := by omega
  have hk : (0x8004 + 0x100 * k.1 - 0x8000) / 0x100 = k.1 := by omega
  simp [State.writeWord, State.writeDrive, hblk, hlow, hout, hin, hk]

/-- The block of PWM and gates has no writable register below `GATEEN`. -/
theorem State.writeWord_pwm (s : State) (acc : Nat) {o : Nat} (ho : o < 0x2200) (v : Word) :
    s.writeWord acc (0x00040000 + o) v = none := by
  have hblk : (0x00040000 + o) / 0x10000 = 4 := by omega
  have hlow : (0x00040000 + o) % 0x10000 = o := by omega
  simp [State.writeWord, State.writeDrive, hblk, hlow, Nat.ne_of_lt ho]

/-! ## Words of one bit -/

theorem cmdCtl_one (s : State) (m : Fin 4) : s.cmdCtl m 1 = s.runCommand m := rfl

theorem emCtl_one (s : State) (m : Fin 4) : s.emCtl m 1 = s.stop0 m := rfl

theorem exec_registerWrite (acc : Nat) (addr v : Word) (size : BitVec 3) (s : State) :
    exec (.registerWrite acc addr size v) s = .next (s.regWrite acc addr.toNat size.toNat v) := rfl

/-- A command that writes as the register does. -/
theorem Runs.regWrite {s t : State} {acc a : Nat} {v : Word} {c : Instr} (h : s.busOpen acc = true) (ha : a % 4 = 0) (hb : a < barEnd)
    (hw : s.writeWord acc a v = some t) (hc : exec c s = .next t) :
    Runs (.registerWrite acc (BitVec.ofNat 32 a) 4 v) s fun t => exec c s = .next t := by
  refine ⟨t, ?_, hc⟩
  have ha' : (BitVec.ofNat 32 a).toNat = a := by
    rw [BitVec.toNat_ofNat]
    exact Nat.mod_eq_of_lt (hb.trans (by decide))
  rw [exec_registerWrite, ha']
  exact congrArg Host.Outcome.next (State.regWrite_word h ha hb hw)

/-- A rejected write is carried out. -/
theorem Runs.rejected {s : State} {acc : Nat} {addr v : Word} {size : BitVec 3}
    (h : s.regWrite acc addr.toNat size.toNat v = s.rejectWrite addr.toNat v.toNat) :
    Runs (.registerWrite acc addr size v) s fun t =>
      Logged s t .WRITE_REJECTED 0xFF 0 (bytesLE 4 addr.toNat ++ bytesLE 4 v.toNat) ∧ t = { s with recd := t.recd, cap := t.cap } :=
  ⟨_, (exec_registerWrite ..).trans (congrArg Host.Outcome.next h), rejectWrite_spec ..⟩

/-- Settles O29: the address leads to the register, the register to its command; every other write is rejected. -/
theorem registerWrites : Obligations.RegisterWrites := by
  refine ⟨?_, ?_, ?_, ?_, ?_, ?_, ?_, ?_⟩
  · intro s acc m v h
    have e : 0x00050208 + 0x1000 * m.1 = 0x00050000 + 0x1000 * m.1 + 0x208 := by omega
    rw [e]
    exact .regWrite h (by omega) (by unfold barEnd; omega) (s.writeWord_mo acc m (by decide) v) rfl
  · intro s acc m h
    have e : 0x00050204 + 0x1000 * m.1 = 0x00050000 + 0x1000 * m.1 + 0x204 := by omega
    rw [e]
    exact .regWrite h (by omega) (by unfold barEnd; omega) (s.writeWord_mo acc m (by decide) 1) (congrArg Host.Outcome.next (cmdCtl_one s m).symm)
  · intro s acc m h
    have e : 0x00050804 + 0x1000 * m.1 = 0x00050000 + 0x1000 * m.1 + 0x804 := by omega
    rw [e]
    exact .regWrite h (by omega) (by unfold barEnd; omega) (s.writeWord_mo acc m (by decide) 1) (congrArg Host.Outcome.next (emCtl_one s m).symm)
  · exact fun s acc k h => .regWrite h (by omega) (by unfold barEnd; omega) (s.writeWord_pi acc k 1) rfl
  · exact fun s acc h => .regWrite (t := s.fabClear) h (by decide) (by decide) rfl rfl
  · intro s acc addr v size h hodd
    refine .rejected (State.regWrite_odd h ?_)
    rintro ⟨hsize, hal, hin⟩
    rcases hodd with hs | hs | hs
    · exact hs (BitVec.eq_of_toNat_eq hsize)
    · exact hs hal
    · omega
  · intro s acc v o h _
    have ha : (BitVec.ofNat 32 (0x00040000 + o.1)).toNat = 0x00040000 + o.1 := by
      rw [BitVec.toNat_ofNat]
      exact Nat.mod_eq_of_lt (by omega)
    have hr := Runs.rejected (s := s) (acc := acc) (addr := BitVec.ofNat 32 (0x00040000 + o.1)) (v := v) (size := 4)
      (by rw [ha]; exact State.regWrite_unmapped h (s.writeWord_pwm acc o.2 v))
    rwa [ha] at hr
  · exact fun s acc addr v size h => congrArg Host.Outcome.next (State.regWrite_closed h _ _ v)

end Sys2Proof.Machine
end

section
/-! SUPPORT. What executing a reaction may change (R15, R107, R134, R153, R203, R227 to R230, R359): the drive, its ring share, the shadows
and the recorder, and never the list of reactions itself. -/

namespace Sys2Proof.Machine

/-! ## The parts of a reaction -/

/-- The parts that executing a reaction may change, taken from `t`: those of `State.settledFrom` but the list of reactions. That
`t.actedFrom = s.actedFrom` says that `s` and `t` agree on every other part. -/
def State.actedFrom (s t : State) : State :=
  { s with
    pwm := t.pwm, loops := t.loops, start := t.start, outer := t.outer, brake := t.brake, axes := t.axes, shock := t.shock
    heave := t.heave, ring := t.ring, em := t.em, br := t.br, recd := t.recd, img := t.img, shadow := t.shadow, cap := t.cap }

/-- What does not read the parts of a reaction reads the same. -/
theorem acted_reads {α : Type} {s t : State} (h : t.actedFrom = s.actedFrom) (k : State → α)
    (hk : ∀ s, k (s.actedFrom State.reset) = k s) : k t = k s := by
  rw [← hk t, ← hk s, h]

theorem silent_actedFrom : Silent State.actedFrom := fun _ _ _ => rfl

@[simp] theorem acted_onBr (s : State) (n : Fin 8) (f : Bridge → Bridge) : (s.onBr n f).actedFrom = s.actedFrom := rfl
@[simp] theorem acted_onPwm (s : State) (n : Fin 8) (f : Pwm → Pwm) : (s.onPwm n f).actedFrom = s.actedFrom := rfl
@[simp] theorem acted_onLoop (s : State) (m : Fin 4) (f : LoopSt → LoopSt) : (s.onLoop m f).actedFrom = s.actedFrom := rfl
@[simp] theorem acted_onStart (s : State) (m : Fin 4) (f : Start → Start) : (s.onStart m f).actedFrom = s.actedFrom := rfl
@[simp] theorem acted_onOuter (s : State) (m : Fin 4) (f : Outer → Outer) : (s.onOuter m f).actedFrom = s.actedFrom := rfl
@[simp] theorem acted_onAxis (s : State) (k : Fin 8) (f : Axis → Axis) : (s.onAxis k f).actedFrom = s.actedFrom := rfl
@[simp] theorem acted_onShock (s : State) (m : Fin 4) (f : Shock → Shock) : (s.onShock m f).actedFrom = s.actedFrom := rfl
@[simp] theorem acted_onHeave (s : State) (m : Fin 4) (f : Heave → Heave) : (s.onHeave m f).actedFrom = s.actedFrom := rfl
@[simp] theorem acted_onRing (s : State) (f : Ring → Ring) : (s.onRing f).actedFrom = s.actedFrom := rfl
@[simp] theorem acted_onEm (s : State) (m : Fin 4) (f : Emerg → Emerg) : (s.onEm m f).actedFrom = s.actedFrom := rfl
@[simp] theorem acted_onImg (s : State) (f : Image → Image) : (s.onImg f).actedFrom = s.actedFrom := rfl
@[simp] theorem acted_onShadow (s : State) (i : Fin 2) (f : Shadow → Shadow) : (s.onShadow i f).actedFrom = s.actedFrom := rfl
@[simp] theorem acted_raise (s : State) (ev : Ev) (u a : Nat) (d : List Byte) : (s.raise ev u a d).actedFrom = s.actedFrom :=
  reads_raise silent_actedFrom s ev u a d
@[simp] theorem acted_raiseIf (s : State) (b : Bool) (ev : Ev) (u a : Nat) (d : List Byte) :
    (s.raiseIf b ev u a d).actedFrom = s.actedFrom := reads_raiseIf silent_actedFrom s b ev u a d

/-! ## Axes and shadows -/

@[simp] theorem acted_axisImmediate (s : State) (k : Fin 8) (b : Bool) : (s.axisImmediate k b).actedFrom = s.actedFrom := by
  simp [State.axisImmediate, State.axisUncertain]

@[simp] theorem acted_stopLinkedAxes (s : State) (m : Fin 4) : (s.stopLinkedAxes m).actedFrom = s.actedFrom := by
  refine reads_forFin (fun k s => ?_) s
  split <;> simp

@[simp] theorem acted_endRender (s : State) (m : Fin 4) : (s.endRender m).actedFrom = s.actedFrom := by
  unfold State.endRender
  split <;> simp

@[simp] theorem acted_dropHeave (s : State) (m : Fin 4) : (s.dropHeave m).actedFrom = s.actedFrom := rfl

@[simp] theorem acted_abortShadow (s : State) (i : Fin 2) (r : Nat) : (s.abortShadow i r).actedFrom = s.actedFrom := by
  simp [State.abortShadow]

@[simp] theorem acted_abortShadowsOf (s : State) (m : Fin 4) : (s.abortShadowsOf m).actedFrom = s.actedFrom := by
  refine reads_forFin (fun i s => ?_) s
  split
  case h_4 => rfl
  all_goals split <;> simp

/-! ## The start machine, the brake and the member -/

@[simp] theorem acted_startToIdle (s : State) (m : Fin 4) : (s.startToIdle m).actedFrom = s.actedFrom := by
  unfold State.startToIdle
  dsimp only
  split <;> simp

@[simp] theorem acted_brakeToClosed (s : State) (m : Fin 4) : (s.brakeToClosed m).actedFrom = s.actedFrom := rfl

@[simp] theorem acted_memberOut (s : State) (m : Fin 4) (c : OutCause) : (s.memberOut m c).actedFrom = s.actedFrom := rfl

@[simp] theorem acted_drainMember (s : State) (m : Fin 4) : (s.drainMember m).actedFrom = s.actedFrom := rfl

/-! ## Stops -/

@[simp] theorem acted_enterStop (s : State) (m : Fin 4) (e : EMode) (b : StopBy) : (s.enterStop m e b).actedFrom = s.actedFrom := by
  simp [State.enterStop]

@[simp] theorem acted_requestStop (s : State) (m : Fin 4) (e : EMode) (b : StopBy) :
    (s.requestStop m e b).actedFrom = s.actedFrom := by
  unfold State.requestStop
  dsimp only
  split
  · simp
  · split <;> simp

@[simp] theorem acted_resumePending (s : State) (m : Fin 4) : (s.resumePending m).actedFrom = s.actedFrom := by
  unfold State.resumePending
  dsimp only
  split
  · simp
  · split <;> simp

/-! ## Bridges -/

@[simp] theorem acted_circReset (s : State) (m : Fin 4) : (s.circReset m).actedFrom = s.actedFrom := rfl

@[simp] theorem acted_offBridge (s : State) (n : Fin 8) (f : Bridge → Bridge) : (s.offBridge n f).actedFrom = s.actedFrom := by
  unfold State.offBridge
  split <;> simp

@[simp] theorem acted_bridgeTrip (s : State) (n : Fin 8) : (s.bridgeTrip n).actedFrom = s.actedFrom := by simp [State.bridgeTrip]

@[simp] theorem acted_bridgeBlock (s : State) (n : Fin 8) : (s.bridgeBlock n).actedFrom = s.actedFrom := by
  simp [State.bridgeBlock]

@[simp] theorem acted_bridgeAsc (s : State) (n : Fin 8) : (s.bridgeAsc n).actedFrom = s.actedFrom := by
  unfold State.bridgeAsc
  split <;> simp

@[simp] theorem acted_bridgeExec (s : State) (n : Fin 8) : (s.bridgeExec n).actedFrom = s.actedFrom := by
  unfold State.bridgeExec
  split
  · split <;> simp
  · split
    · simp
    · split
      · simp
      · split <;> simp
  · simp
  · dsimp only
    split <;> simp

@[simp] theorem acted_foldl_bridgeExec (s : State) (l : List (Fin 8)) :
    (l.foldl (fun s n => s.bridgeExec n) s).actedFrom = s.actedFrom := reads_foldl acted_bridgeExec l s

@[simp] theorem acted_bridgesExec (s : State) (m : Fin 4) : (s.bridgesExec m).actedFrom = s.actedFrom :=
  acted_foldl_bridgeExec s _

/-! ## A reaction executed -/

@[simp] theorem acted_drumOff (s : State) (m : Fin 4) : (s.drumOff m).actedFrom = s.actedFrom := by simp [State.drumOff]

@[simp] theorem acted_gatesOff (s : State) (m : Fin 4) (c : OutCause) : (s.gatesOff m c).actedFrom = s.actedFrom := by
  unfold State.gatesOff
  dsimp only
  split <;> simp

@[simp] theorem acted_execReact (s : State) (m : Fin 4) (r : Reaction) (c : OutCause) :
    (s.execReact m r c).actedFrom = s.actedFrom := by
  unfold State.execReact
  dsimp only
  split
  case h_1 | h_2 => simp
  case h_3 | h_4 =>
    split
    · simp
    · rw [acted_foldl_bridgeExec]
      split <;> simp
  case h_5 => simp

end Sys2Proof.Machine
end

section
/-! SUPPORT. What follows from the layer of reactions: what a request, its end and a stop leave, and the gates of a motor object that comes
to rest. -/

namespace Sys2Proof.Machine

/-! ## Reactions requested and ended -/

/-- What executing a reaction may change is among the parts of `State.settledFrom`. -/
theorem settled_of_acted {s t : State} (h : t.actedFrom = s.actedFrom) : t.settledFrom = s.settledFrom :=
  acted_reads h State.settledFrom fun _ => rfl

@[simp] theorem settled_bridgesExec (s : State) (m : Fin 4) : (s.bridgesExec m).settledFrom = s.settledFrom :=
  settled_of_acted (acted_bridgesExec s m)

@[simp] theorem settled_execReact (s : State) (m : Fin 4) (r : Reaction) (c : OutCause) :
    (s.execReact m r c).settledFrom = s.settledFrom := settled_of_acted (acted_execReact s m r c)

@[simp] theorem settled_react (s : State) (m : Fin 4) (r : React) (c : OutCause) : (s.react m r c).settledFrom = s.settledFrom := by
  unfold State.react
  dsimp only
  split
  · rfl
  · split
    · rw [settled_execReact]
      rfl
    · rfl

/-- The end of reactions takes away those whose cause is gone, or none; the rest of it is executing what is left. -/
theorem settle_acts (s : State) (m : Fin 4) (old : Reaction) :
    (s.settle m old).actedFrom = s.actedFrom ∨
      (s.settle m old).actedFrom = State.actedFrom { s with reacts := vmod s.reacts m fun l => l.filter fun r => r.present } := by
  unfold State.settle
  dsimp only
  split
  · right
    split
    · exact acted_execReact ..
    · rw [acted_execReact]
      split
      · exact acted_resumePending ..
      · rfl
  · left
    exact acted_foldl_bridgeExec s _

@[simp] theorem settled_settle (s : State) (m : Fin 4) (old : Reaction) : (s.settle m old).settledFrom = s.settledFrom := by
  rcases settle_acts s m old with h | h
  · exact settled_of_acted h
  · exact (settled_of_acted h).trans rfl

@[simp] theorem settled_dropOwn (s : State) (m : Fin 4) (u : Nat) : (s.dropOwn m u).settledFrom = s.settledFrom := by
  simp only [State.dropOwn, settled_bridgesExec, settled_settle]
  rfl

/-! ## Stops -/

/-- The parts that a stop may change as it takes over or gives way, taken from `t`. -/
def State.stoppedFrom (s t : State) : State :=
  { s with shock := t.shock, heave := t.heave, em := t.em, recd := t.recd, cap := t.cap }

theorem silent_stoppedFrom : Silent State.stoppedFrom := fun _ _ _ => rfl

@[simp] theorem stopped_onHeave (s : State) (m : Fin 4) (f : Heave → Heave) : (s.onHeave m f).stoppedFrom = s.stoppedFrom := rfl
@[simp] theorem stopped_onEm (s : State) (m : Fin 4) (f : Emerg → Emerg) : (s.onEm m f).stoppedFrom = s.stoppedFrom := rfl

@[simp] theorem stopped_endRender (s : State) (m : Fin 4) : (s.endRender m).stoppedFrom = s.stoppedFrom := by
  unfold State.endRender
  split
  · rw [reads_raise silent_stoppedFrom]
    rfl
  · rfl

@[simp] theorem stopped_enterStop (s : State) (m : Fin 4) (e : EMode) (b : StopBy) :
    (s.enterStop m e b).stoppedFrom = s.stoppedFrom := by simp [State.enterStop]

@[simp] theorem stopped_requestStop (s : State) (m : Fin 4) (e : EMode) (b : StopBy) :
    (s.requestStop m e b).stoppedFrom = s.stoppedFrom := by
  unfold State.requestStop
  dsimp only
  split
  · simp
  · split <;> simp

/-- What does not read the parts of a stop reads the same. -/
theorem stopped_reads {α : Type} {s t : State} (h : t.stoppedFrom = s.stoppedFrom) (k : State → α)
    (hk : ∀ s, k (s.stoppedFrom State.reset) = k s) : k t = k s := by
  rw [← hk t, ← hk s, h]

theorem requestStop_start (s : State) (m : Fin 4) (e : EMode) (b : StopBy) : (s.requestStop m e b).start = s.start :=
  stopped_reads (stopped_requestStop s m e b) State.start fun _ => rfl
theorem requestStop_br (s : State) (m : Fin 4) (e : EMode) (b : StopBy) : (s.requestStop m e b).br = s.br :=
  stopped_reads (stopped_requestStop s m e b) State.br fun _ => rfl
theorem requestStop_av (s : State) (m : Fin 4) (e : EMode) (b : StopBy) : (s.requestStop m e b).av = s.av :=
  stopped_reads (stopped_requestStop s m e b) State.av fun _ => rfl

@[simp] theorem endRender_em (s : State) (m : Fin 4) : (s.endRender m).em = s.em := by
  unfold State.endRender
  split <;> simp

/-- A stop requested over a lower entry takes over (R203, R205). -/
theorem requestStop_em (s : State) (m : Fin 4) (e : EMode) (b : StopBy) (h : e.prio < s.em[m].mode.prio) :
    (s.requestStop m e b).em[m].mode = e ∧ (s.requestStop m e b).em[m].stopBy = b ∧ (s.requestStop m e b).em[m].stopped = false := by
  simp [State.requestStop, h, State.enterStop, -Fin.getElem_fin]

/-- A pending list that is empty ends in the law of the mode (R203). -/
theorem resumePending_none (s : State) (m : Fin 4) (hp : s.em[m].pend = []) (hf : s.em[m].free = false) :
    s.resumePending m = s.onEm m fun x => { x with pend := [], mode := .modeLaw, stopped := false, free := false } := by
  simp [State.resumePending, hp, hf, -Fin.getElem_fin]

/-! ## Gates of a motor object at rest -/

/-- The form of a bridge that goes to PULSE_BLOCK as it is, and of the others. -/
theorem offBridge_form (s : State) (n j : Fin 8) :
    (s.offBridge n id).br[j].form = if j = n then .pblk else s.br[j].form := by
  unfold State.offBridge
  by_cases hj : j = n
  · subst hj
    split <;> simp [State.circReset, -Fin.getElem_fin]
  · split <;> simp [State.circReset, vmod_ne _ _ _ _ hj, -Fin.getElem_fin]

/-- Gates off: a bridge of the list does not switch, and one that does not switch stays so. -/
theorem foldl_offBridge_form (l : List (Fin 8)) (s : State) (j : Fin 8) (h : j ∈ l ∨ s.br[j].form ≠ .run) :
    (l.foldl (fun s n => if s.br[n].form = .run ∨ s.br[n].form = .short then s.offBridge n id else s) s).br[j].form ≠ .run := by
  induction l generalizing s with
  | nil => simpa using h
  | cons n l ih =>
    refine ih _ ?_
    by_cases hj : j = n
    · right
      subst hj
      dsimp only
      split
      · simp [offBridge_form, -Fin.getElem_fin]
      next hn => exact fun hr => hn (.inl hr)
    · rcases h with h | h
      · exact .inl ((List.mem_cons.1 h).resolve_left hj)
      · right
        dsimp only
        split
        · simpa [offBridge_form, hj, -Fin.getElem_fin] using h
        · exact h

theorem gatesIdle_form (s : State) (m : Fin 4) {n : Fin 8} (h : n ∈ s.feeding m) : (s.gatesIdle m).br[n].form ≠ .run :=
  foldl_offBridge_form _ s n (.inl h)

/-- The parts that gates going off change, taken from `t`. -/
def State.idledFrom (s t : State) : State := { s with br := t.br, pwm := t.pwm, loops := t.loops }

theorem idled_gatesIdle (s : State) (m : Fin 4) : (s.gatesIdle m).idledFrom = s.idledFrom := by
  have off (s : State) (n : Fin 8) :
      (if s.br[n].form = .run ∨ s.br[n].form = .short then s.offBridge n id else s).idledFrom = s.idledFrom := by
    unfold State.offBridge
    split
    · split <;> rfl
    · rfl
  exact reads_foldl (k := State.idledFrom) off (s.feeding m) s

/-- What does not read the gates reads the same when they go off. -/
theorem gatesIdle_reads {α : Type} (k : State → α) (hk : ∀ s, k (s.idledFrom State.reset) = k s) (s : State) (m : Fin 4) :
    k (s.gatesIdle m) = k s := by
  rw [← hk (s.gatesIdle m), ← hk s, idled_gatesIdle]

@[simp] theorem gatesIdle_start (s : State) (m : Fin 4) : (s.gatesIdle m).start = s.start :=
  gatesIdle_reads State.start (fun _ => rfl) s m
@[simp] theorem gatesIdle_em (s : State) (m : Fin 4) : (s.gatesIdle m).em = s.em := gatesIdle_reads State.em (fun _ => rfl) s m
@[simp] theorem gatesIdle_av (s : State) (m : Fin 4) : (s.gatesIdle m).av = s.av := gatesIdle_reads State.av (fun _ => rfl) s m

end Sys2Proof.Machine
end

section
/-! SUPPORT. Run, stop and fault clear (R107, R134 to R137, R203 to R205, R207): what each command does in each state of the start machine, of
the brake and of the mode in force. -/

namespace Sys2Proof.Machine

/-! ## A motor object in no group -/

theorem runState_alone {s : State} {m : Fin 4} (h : s.inGroup m = false) : s.runState m = s.start[m].state := by
  simp [State.runState, h, -Fin.getElem_fin]

theorem runsHere_alone {s : State} {m : Fin 4} (h : s.inGroup m = false) : s.runsHere m = true := by
  simp [State.runsHere, h]

theorem followers_alone {s : State} {m : Fin 4} (h : s.inGroup m = false) : s.followers m = [m] := by
  simp [State.followers, h]

/-! ## The owner's command -/

@[simp] theorem commanded_inGroup (s : State) (m : Fin 4) (b : Bool) : (s.commanded m b).inGroup m = s.inGroup m := rfl
@[simp] theorem commanded_runState (s : State) (m : Fin 4) (b : Bool) : (s.commanded m b).runState m = s.runState m := rfl
@[simp] theorem commanded_start (s : State) (m : Fin 4) (b : Bool) : (s.commanded m b).start = s.start := rfl
@[simp] theorem commanded_em (s : State) (m : Fin 4) (b : Bool) : (s.commanded m b).em = s.em := rfl
@[simp] theorem commanded_brake (s : State) (m : Fin 4) (b : Bool) : (s.commanded m b).brake = s.brake := rfl
@[simp] theorem commanded_outer (s : State) (m : Fin 4) (b : Bool) : (s.commanded m b).outer = s.outer := rfl

theorem commanded_owner (s : State) (m : Fin 4) (b : Bool) : (s.commanded m b).av.owner[m] = !b := by
  simp [State.commanded]

theorem commanded_run (s : State) (m : Fin 4) : (s.commanded m true).av.cmdRun[m] = true := by
  simp [State.commanded]

/-! ## Run (R107) -/

theorem runCommand_alone {s : State} {m : Fin 4} (hg : s.inGroup m = false) (hi : s.start[m].state = .idle)
    (hs : s.outer[m].short = false) : s.runCommand m = (s.commanded m true).startCommand m := by
  simp [State.runCommand, runState_alone hg, hg, hi, hs, -Fin.getElem_fin]

theorem startCommand_accepted {s : State} {m : Fin 4} (hr : s.startRefusal m = 0) (hg : s.gatesReady m = true) :
    (s.startCommand m).start[m].state = .measure ∧ (s.startCommand m).start[m].since = s.up ∧ (s.startCommand m).start[m].retry = 0 ∧
      (s.startCommand m).start[m].reason = 0 ∧ s.startCommand m = { s with start := (s.startCommand m).start } := by
  have e : s.startCommand m = s.onStart m fun x => { x with
      state := .measure, since := s.up, retry := 0, reason := 0, reverse := false, caught := false, extended := false
      fallback := false, turning := false, ramp := none, emfAng := 0, emfW := 0, emfMag := 0 } := by
    simp [State.startCommand, hr, hg, State.toMeasure, State.toStart, State.onStart, vmod]
  rw [e]
  refine ⟨?_, ?_, ?_, ?_, rfl⟩ <;> rw [State.onStart_start, vmod_self]

/-- A start that is refused is journaled with its reason. -/
theorem startCommand_refused {s : State} {m : Fin 4} (hr : s.startRefusal m ≠ 0) :
    (s.startCommand m).start[m] = { s.start[m] with reason := s.startRefusal m } ∧
      Logged s (s.startCommand m) .START_REFUSED m (s.startRefusal m) ∧
      s.startCommand m = { s with start := (s.startCommand m).start, recd := (s.startCommand m).recd, cap := (s.startCommand m).cap } := by
  have e : s.startCommand m = (s.onStart m fun x => { x with reason := s.startRefusal m }).raise .START_REFUSED m (s.startRefusal m) := by
    simp [State.startCommand, hr]
  rw [e]
  refine ⟨?_, raise_logged_of s _ _ _ _ _ rfl rfl, ?_⟩
  · rw [State.raise_start, State.onStart_start, vmod_self]
  · obtain ⟨r, c, h⟩ := raise_recOnly (s.onStart m fun x => { x with reason := s.startRefusal m }) .START_REFUSED m (s.startRefusal m) []
    rw [h]
    rfl

/-! ## Stops (R203 to R206, R135) -/

@[simp] theorem leaveFailed_of_ne {s : State} {m : Fin 4} (h : s.start[m].state ≠ .failed) : s.leaveFailed m = s := by
  simp [State.leaveFailed, h, -Fin.getElem_fin]

/-- Neither an EQR in force nor one below a category 0: nothing ends. -/
theorem eqrEnds_none {s : State} {m : Fin 4} (hm : s.em[m].mode ≠ .eqr) (hf : s.em[m].free = false) : s.eqrEnds m = s := by
  simp [State.eqrEnds, hm, hf, -Fin.getElem_fin]

theorem eqrEnds_start (s : State) (m : Fin 4) : (s.eqrEnds m).start = s.start := by
  unfold State.eqrEnds
  split
  · rfl
  · split
    · rw [State.raise_start]
      rfl
    · rfl

theorem eqrEnds_br (s : State) (m : Fin 4) : (s.eqrEnds m).br = s.br := by
  unfold State.eqrEnds
  split
  · rfl
  · split
    · rw [State.raise_br]
      rfl
    · rfl

theorem eqrEnds_av (s : State) (m : Fin 4) : (s.eqrEnds m).av = s.av := by
  unfold State.eqrEnds
  split
  · rfl
  · split
    · rw [State.raise_av]
      rfl
    · rfl

theorem stopCommand_idle {s : State} {m : Fin 4} {e : EMode} (hg : s.inGroup m = false) (hi : s.start[m].state = .idle) :
    s.stopCommand m e = (s.commanded m false).eqrEnds m := by
  simp [State.stopCommand, runsHere_alone hg, runState_alone hg, hi, -Fin.getElem_fin]

/-- A motor object that is starting stops at once. -/
theorem stopCommand_starting {s : State} {m : Fin 4} {e : EMode} (hg : s.inGroup m = false)
    (hst : s.start[m].state = .align ∨ s.start[m].state = .sync ∨ s.start[m].state = .pause) :
    s.stopCommand m e = ((s.commanded m false).stopStart m).eqrEnds m := by
  rcases hst with h | h | h <;> simp [State.stopCommand, runsHere_alone hg, runState_alone hg, h, -Fin.getElem_fin]

/-- A running motor object with its brake open is stopped by the category. -/
theorem stopCommand_running {s : State} {m : Fin 4} {e : EMode} (hg : s.inGroup m = false) (hr : s.start[m].state = .run)
    (hb : s.brake[m].state = .open_) (hm : s.em[m].mode = .modeLaw) :
    s.stopCommand m e = (s.commanded m false).requestStop m e .command := by
  simp [State.stopCommand, runsHere_alone hg, runState_alone hg, hr, hb, hm, hg, -Fin.getElem_fin]

theorem stopStart_state (s : State) (m : Fin 4) : (s.stopStart m).start[m].state = .idle := by
  unfold State.stopStart
  dsimp only
  split <;> simp [-Fin.getElem_fin]

theorem stopStart_br (s : State) (m : Fin 4) : (s.stopStart m).br = (s.gatesIdle m).br := by
  unfold State.stopStart
  dsimp only
  split <;> simp

theorem stopStart_av (s : State) (m : Fin 4) : (s.stopStart m).av = s.av := by
  unfold State.stopStart
  dsimp only
  split <;> simp

theorem leaveFailed_failed {s : State} {m : Fin 4} (h : s.start[m].state = .failed) :
    (s.leaveFailed m).start[m].state = .idle ∧ (s.leaveFailed m).av = s.av := by
  simp [State.leaveFailed, h, -Fin.getElem_fin]

/-- A stop ends FAILED, whatever the group of the motor object then does. -/
theorem stopCommand_failed {s : State} {m : Fin 4} {e : EMode} (h : s.start[m].state = .failed) :
    (s.stopCommand m e).start[m].state = .idle ∧ (s.stopCommand m e).av.owner[m] = true := by
  obtain ⟨hi, ha⟩ := leaveFailed_failed (s := s.commanded m false) (m := m) h
  have ho : ((s.commanded m false).leaveFailed m).av.owner[m] = true := by rw [ha, commanded_owner]; rfl
  unfold State.stopCommand
  generalize (s.commanded m false).leaveFailed m = x at hi ho
  have quiet (t : State) (hs : t.start = x.start) (ha : t.av = x.av) : t.start[m].state = .idle ∧ t.av.owner[m] = true := by
    rw [hs, ha]
    exact ⟨hi, ho⟩
  rw [if_pos h]
  dsimp only
  split
  · exact ⟨hi, ho⟩
  · split
    case h_1 | h_2 => exact quiet (x.eqrEnds m) (eqrEnds_start x m) (eqrEnds_av x m)
    case h_4 =>
      have hs : (x.stopStart m).start[m].state = .idle ∧ (x.stopStart m).av.owner[m] = true :=
        ⟨stopStart_state x m, by rw [stopStart_av]; exact ho⟩
      rw [← eqrEnds_start, ← eqrEnds_av (x.stopStart m) m] at hs
      exact hs
    case h_3 =>
      split
      · exact quiet (x.eqrEnds m) (eqrEnds_start x m) (eqrEnds_av x m)
      · split
        · unfold State.proveAbort
          split <;> exact ⟨hi, ho⟩
        case h_6 =>
          split
          · exact ⟨hi, ho⟩
          · refine quiet _ ((requestStop_start ..).trans ?_) ((requestStop_av ..).trans ?_) <;> split <;> rfl
        all_goals exact ⟨hi, ho⟩

/-! ## The end of a stop (R136, R204, R205, R207) -/

theorem stopDoneAll_alone {s : State} {m : Fin 4} {b : Bool} (hg : s.inGroup m = false) : s.stopDoneAll m b = s.stopDone m b := by
  simp [State.stopDoneAll, followers_alone hg, hg]

theorem standstill_off {s : State} {m : Fin 4} (h : s.n Fld.MOTOR_STANDSTILL m ≠ 1) : s.standstill m = s.gatesIdle m := by
  simp [State.standstill, h]

/-- With no stop pending the mode's own law comes into force, and the gates stay off. -/
theorem resumePending_gatesIdle {s : State} {m : Fin 4} (hi : s.start[m].state = .idle) (hp : s.em[m].pend = [])
    (hf : s.em[m].free = false) :
    ((s.gatesIdle m).resumePending m).start[m].state = .idle ∧ ((s.gatesIdle m).resumePending m).em[m].mode = .modeLaw ∧
      ∀ n ∈ s.feeding m, ((s.gatesIdle m).resumePending m).br[n].form ≠ .run := by
  rw [resumePending_none _ m (by rw [gatesIdle_em]; exact hp) (by rw [gatesIdle_em]; exact hf)]
  refine ⟨?_, ?_, fun n hn => ?_⟩
  · rw [State.onEm_start, gatesIdle_start]
    exact hi
  · rw [State.onEm_em, vmod_self]
  · rw [State.onEm_br]
    exact gatesIdle_form s m hn

/-- A commanded stop with nothing pending ends in IDLE with the gates off and the mode's own law. -/
theorem stopDone_command {s : State} {m : Fin 4} (hm : s.em[m].mode.isStop = true) (hb : s.em[m].stopBy = .command)
    (hp : s.em[m].pend = []) (hf : s.em[m].free = false) (hs : s.n Fld.MOTOR_STANDSTILL m ≠ 1) :
    (s.stopDone m).start[m].state = .idle ∧ (s.stopDone m).em[m].mode = .modeLaw ∧
      ∀ n ∈ s.feeding m, (s.stopDone m).br[n].form ≠ .run := by
  have hnot : ¬(s.em[m].mode.isStop = true ∧ s.em[m].stopBy = .reaction) := by simp [hb, -Fin.getElem_fin]
  unfold State.stopDone
  dsimp only
  rw [if_neg hnot, if_neg Bool.false_ne_true, if_pos hm, standstill_off]
  · exact resumePending_gatesIdle (congrArg Start.state (vmod_self s.start m _)) hp hf
  · exact hs

theorem stopComplete_early {s : State} {m : Fin 4} (h : s.slowLong m = false) : s.stopComplete m = s := by
  simp [State.stopComplete, h]

theorem stopComplete_none {s : State} {m : Fin 4} (h : s.em[m].mode = .modeLaw) : s.stopComplete m = s := by
  simp [State.stopComplete, h, EMode.isStop, -Fin.getElem_fin]

/-- A category 1 stop of a motor object without a brake, which is no hoist, is done. -/
theorem stopComplete_cat1 {s : State} {m : Fin 4} (hl : s.slowLong m = true) (hm : s.em[m].mode = .cat1)
    (hs : s.em[m].stopped = false) (hg : s.inGroup m = false) (hr : s.start[m].state = .run) (hb : s.braked m = false)
    (hh : s.yes Fld.MOTOR_HOIST m = false) : s.stopComplete m = s.stopDone m := by
  have hlive : s.live m = true := by simp [State.live, runState_alone hg, hr, -Fin.getElem_fin]
  simp [State.stopComplete, hl, hm, EMode.isStop, hs, hlive, hb, hh, stopDoneAll_alone hg, -Fin.getElem_fin]

/-- A category 2 stop is held at standstill. -/
theorem stopComplete_cat2 {s : State} {m : Fin 4} (hl : s.slowLong m = true) (hm : s.em[m].mode = .cat2)
    (hs : s.em[m].stopped = false) (hg : s.inGroup m = false) (hr : s.start[m].state = .run) :
    s.stopComplete m = (s.onEm m fun x => { x with stopped := true }).onOuter m fun o =>
      if o.mode = .position then { o with hold := some s.em[m].payAt } else o := by
  have hlive : s.live m = true := by simp [State.live, runState_alone hg, hr, -Fin.getElem_fin]
  simp [State.stopComplete, hl, hm, EMode.isStop, hs, hlive, -Fin.getElem_fin]

/-- The end of EQR becomes the end of a category 1 stop (log 33): with a brake, the brake sets. -/
theorem stopComplete_eqr {s : State} {m : Fin 4} (hl : s.slowLong m = true) (hm : s.em[m].mode = .eqr)
    (he : s.em[m].eqrEnding = true) (hb : s.braked m = true) :
    s.stopComplete m = (((s.onEm m fun x => { x with mode := .cat1, stopBy := .command, eqrEnding := false, stopped := false }).raise
      .EQR_END m).brakeClose m) := by
  simp [State.stopComplete, hl, hm, he, hb, -Fin.getElem_fin]

/-! ## Clearing reactions (R137) -/

/-- A reaction that a clear command leaves: its cause is there, it is a LOG or a DERATE, or it ends by itself. -/
def React.stays (r : React) : Bool := r.present || decide (r.sev.rank ≤ 1) || r.selfEnd

theorem settle_reacts (s : State) (m : Fin 4) (old : Reaction) :
    (s.settle m old).reacts = s.reacts ∨ (s.settle m old).reacts = vmod s.reacts m fun l => l.filter fun r => r.present := by
  rcases settle_acts s m old with h | h
  · exact .inl (acted_reads h State.reacts fun _ => rfl)
  · exact .inr (acted_reads h State.reacts fun _ => rfl)

/-- An event of the fast plane waits for its grid point to close, or for the recorder to run: it is on record for every state of the
same time. -/
theorem raise_logged_fast {s x : State} {ev : Ev} (hd : x.dev = s.dev) (hl : ev.code < 0x0C00) (u a : Nat) (d : List Byte) :
    Logged s (x.raise ev u a d) ev u a d := by
  have he : s.entry ev u a d = x.entry ev u a d := by simp [State.entry, State.stamp, hd]
  intro _
  rw [he]
  refine capTrigger_keepsAll _ _ _ _ ?_
  unfold State.record
  split
  · exact .inl (by simp)
  · have hlate : (x.entry ev u a d).late = false := decide_eq_false (Nat.not_le.2 hl)
    rw [if_neg (by rw [hlate]; exact Bool.false_ne_true)]
    exact .inr (.inl (by simp))

theorem Logged.of_recd {s t t' : State} {ev : Ev} {u a : Nat} {d : List Byte} (h : Logged s t ev u a d) (hr : t'.recd = t.recd) :
    Logged s t' ev u a d := by
  intro hk
  have hx := h hk
  unfold State.keeps at hx ⊢
  rwa [hr]

@[simp] theorem dropMarks_recd (s : State) : s.dropMarks.recd = s.recd := rfl
@[simp] theorem dropMarks_reacts (s : State) : s.dropMarks.reacts = s.reacts := rfl

/-- The two passes of a clear: what stays, and of that, where the rest has become milder, what is present. -/
theorem faultClear_reacts (s : State) (m : Fin 4) :
    (s.faultClear m).reacts = vmod s.reacts m (fun l => l.filter React.stays) ∨
      (s.faultClear m).reacts =
        vmod (vmod s.reacts m fun l => l.filter React.stays) m (fun l => l.filter fun r => r.present) := by
  have key (x : State) (old : Reaction) : ((x.settle m old).bridgesExec m).reacts = (x.settle m old).reacts :=
    acted_reads (acted_bridgesExec _ m) State.reacts fun _ => rfl
  unfold State.faultClear
  dsimp only
  split
  all_goals
    simp only [State.onMbr_reacts, dropMarks_reacts, State.raise_reacts, key]
    exact settle_reacts ..

theorem faultClear_logged (s : State) (m : Fin 4) : ∃ n d, Logged s (s.faultClear m) .REACT_CLEARED m n d := by
  have hdev (x : State) (old : Reaction) : ((x.settle m old).bridgesExec m).dev = x.dev := by
    have h : ((x.settle m old).bridgesExec m).settledFrom = x.settledFrom := by simp
    exact congrArg (fun k => (k x).dev) h
  have hlog (x : State) (old : Reaction) (hx : x.dev = s.dev) (n : Nat) (d : List Byte) :
      Logged s (((x.settle m old).bridgesExec m).raise .REACT_CLEARED m n d).dropMarks .REACT_CLEARED m n d :=
    (raise_logged_fast ((hdev x old).trans hx) (by decide) m n d).of_recd (dropMarks_recd _)
  unfold State.faultClear
  dsimp only
  split
  · refine ⟨_, _, hlog _ _ ?_ _ _⟩
    rfl
  · refine ⟨_, _, (hlog _ _ ?_ _ _).of_recd (State.onMbr_recd ..)⟩
    rfl

/-- A clear leaves of the reactions of its motor object what stays, keeps every one whose cause is there, and touches no other's. -/
theorem faultClear_lists (s : State) (m : Fin 4) :
    (∀ r ∈ (s.faultClear m).reacts[m], r.stays = true) ∧
      (∀ r ∈ s.reacts[m], r.present = true → r ∈ (s.faultClear m).reacts[m]) ∧
      ∀ j : Fin 4, j ≠ m → (s.faultClear m).reacts[j] = s.reacts[j] := by
  rcases faultClear_reacts s m with h | h
  · rw [h]
    refine ⟨fun r hr => ?_, fun r hr hp => ?_, fun j hj => vmod_ne _ _ _ _ hj⟩
    · rw [vmod_self] at hr
      exact (List.mem_filter.1 hr).2
    · rw [vmod_self]
      exact List.mem_filter.2 ⟨hr, by simp [React.stays, hp]⟩
  · rw [h]
    refine ⟨fun r hr => ?_, fun r hr hp => ?_, fun j hj => (vmod_ne _ _ _ _ hj).trans (vmod_ne _ _ _ _ hj)⟩
    · rw [vmod_self, vmod_self] at hr
      exact (List.mem_filter.1 (List.mem_filter.1 hr).1).2
    · rw [vmod_self, vmod_self]
      exact List.mem_filter.2 ⟨List.mem_filter.2 ⟨hr, by simp [React.stays, hp]⟩, hp⟩

/-! ## The statement -/

/-- A start of a motor object in no group, taken or refused (R107). -/
theorem runCommand_spec {s : State} {m : Fin 4} (hg : s.inGroup m = false) (hi : s.start[m].state = .idle)
    (hs : s.outer[m].short = false) :
    (s.startRefusal m = 0 → s.gatesReady m = true → Runs (.runCommand m) s fun t =>
      t.start[m].state = .measure ∧ t.start[m].since = s.up ∧ t.start[m].retry = 0 ∧ t.start[m].reason = 0 ∧
      t.av.cmdRun[m] = true ∧ t.av.owner[m] = false ∧ t = { s with start := t.start, av := t.av }) ∧
    (s.startRefusal m ≠ 0 → Runs (.runCommand m) s fun t =>
      t.start[m] = { s.start[m] with reason := s.startRefusal m } ∧ Logged s t .START_REFUSED m (s.startRefusal m) ∧
      t = { s with start := t.start, av := t.av, recd := t.recd, cap := t.cap }) := by
  have e := runCommand_alone hg hi hs
  refine ⟨fun hr hgr => ⟨s.runCommand m, rfl, ?_⟩, fun hr => ⟨s.runCommand m, rfl, ?_⟩⟩
  · obtain ⟨h1, h2, h3, h4, h5⟩ := startCommand_accepted (s := s.commanded m true) hr hgr
    rw [e]
    refine ⟨h1, h2, h3, h4, ?_, ?_, ?_⟩
    · rw [h5]
      exact commanded_run s m
    · rw [h5]
      exact commanded_owner s m true
    · rw [h5]
      rfl
  · obtain ⟨h1, h2, h3⟩ := startCommand_refused (s := s.commanded m true) hr
    rw [e]
    refine ⟨h1, h2, ?_⟩
    rw [h3]
    rfl

theorem stopCommand_running_spec {s : State} {m : Fin 4} {e : EMode} (he : e.prio < 9) (hg : s.inGroup m = false)
    (hr : s.start[m].state = .run) (hb : s.brake[m].state = .open_) (hm : s.em[m].mode = .modeLaw) :
    (s.stopCommand m e).em[m].mode = e ∧ (s.stopCommand m e).em[m].stopBy = .command ∧ (s.stopCommand m e).em[m].stopped = false ∧
      (s.stopCommand m e).start[m].state = .run ∧ (s.stopCommand m e).br = s.br ∧ (s.stopCommand m e).av.owner[m] = true := by
  obtain ⟨h1, h2, h3⟩ := requestStop_em (s.commanded m false) m e .command (by rw [commanded_em, hm]; exact he)
  rw [stopCommand_running hg hr hb hm]
  refine ⟨h1, h2, h3, ?_, ?_, ?_⟩
  · rw [requestStop_start]
    exact hr
  · exact requestStop_br ..
  · rw [requestStop_av]
    exact commanded_owner s m false

theorem stopCommand_starting_spec {s : State} {m : Fin 4} {e : EMode} (hg : s.inGroup m = false)
    (hst : s.start[m].state = .align ∨ s.start[m].state = .sync ∨ s.start[m].state = .pause) :
    (s.stopCommand m e).start[m].state = .idle ∧ ∀ n ∈ s.feeding m, (s.stopCommand m e).br[n].form ≠ .run := by
  rw [stopCommand_starting hg hst, eqrEnds_start, eqrEnds_br, stopStart_br]
  exact ⟨stopStart_state .., fun n hn => gatesIdle_form (s.commanded m false) m hn⟩

theorem stopComplete_eqr_spec {s : State} {m : Fin 4} (hl : s.slowLong m = true) (hm : s.em[m].mode = .eqr)
    (he : s.em[m].eqrEnding = true) (hb : s.braked m = true) :
    Runs (.stopComplete m) s fun t => t.em[m].mode = .cat1 ∧ t.brake[m].state = .closing ∧ Logged s t .EQR_END m ∧
      t = { s with em := t.em, outer := t.outer, brake := t.brake, recd := t.recd, cap := t.cap } := by
  refine ⟨s.stopComplete m, rfl, ?_⟩
  rw [stopComplete_eqr hl hm he hb]
  have hlog := raise_logged_of s (s.onEm m fun x => { x with mode := .cat1, stopBy := .command, eqrEnding := false, stopped := false })
    .EQR_END m 0 [] rfl rfl
  obtain ⟨r, c, h⟩ := raise_recOnly
    (s.onEm m fun x => { x with mode := .cat1, stopBy := .command, eqrEnding := false, stopped := false }) .EQR_END m 0 []
  rw [h] at hlog ⊢
  refine ⟨?_, ?_, hlog, rfl⟩
  · exact congrArg Emerg.mode (vmod_self s.em m _)
  · exact congrArg Brake.state (vmod_self s.brake m _)

/-- Settles O43: one equation per command and state of the motor object, and for the fault clear the two passes over its reactions. -/
theorem runStopAndClear : Obligations.RunStopAndClear := by
  refine ⟨?run, ?refused, ?running, ?idle, ?starting, ?failed, ?clear, ?early, ?cat1, ?cat2, ?eqr, ?none⟩
  case run => exact fun s m hg hi hs hr hgr => (runCommand_spec hg hi hs).1 hr hgr
  case refused => exact fun s m hg hi hs hr => (runCommand_spec hg hi hs).2 hr
  case running =>
    intro s m hg hr hb hm
    exact ⟨s.stopByCat m, rfl, stopCommand_running_spec (by split <;> decide) hg hr hb hm⟩
  case idle =>
    intro s m hg hi hm hf
    refine ⟨s.commanded m false, ?_, commanded_owner s m false, rfl⟩
    exact congrArg Host.Outcome.next ((stopCommand_idle hg hi).trans (eqrEnds_none (by simp [hm, -Fin.getElem_fin]) hf))
  case starting => exact fun s m hg hst => ⟨s.stopByCat m, rfl, stopCommand_starting_spec hg hst⟩
  case failed => exact fun s m h => ⟨s.stopByCat m, rfl, stopCommand_failed h⟩
  case clear =>
    intro s m
    obtain ⟨h1, h2, h3⟩ := faultClear_lists s m
    refine ⟨s.faultClear m, rfl, fun r hr => ?_, h2, faultClear_logged s m, h3⟩
    have h := h1 r hr
    simpa [React.stays, or_assoc] using h
  case early => exact fun s m h => congrArg Host.Outcome.next (stopComplete_early h)
  case cat1 =>
    intro s m hl hm hst hb hp hf hg hr hbr hh hs
    refine ⟨s.stopDone m, congrArg Host.Outcome.next (stopComplete_cat1 hl hm hst hg hr hbr hh), ?_⟩
    exact stopDone_command (by rw [hm]; rfl) hb hp hf hs
  case cat2 =>
    intro s m hl hm hst hg hr
    refine ⟨_, congrArg Host.Outcome.next (stopComplete_cat2 hl hm hst hg hr), ?_, rfl, rfl, rfl⟩
    rw [State.onOuter_em, State.onEm_em, vmod_self]
  case eqr => exact fun s m hl hm he hb => stopComplete_eqr_spec hl hm he hb
  case none => exact fun s m h => congrArg Host.Outcome.next (stopComplete_none h)

end Sys2Proof.Machine
end

section
/-! SUPPORT. The taking effect of staged records (R345) leaves reset, start-up and the queue of commands as they are, through the check of the
configuration, the carriers, the placement of tasks, what each record acts on, and arming. -/

namespace Sys2Proof.Machine

/-- Reset and start-up, and the commands that wait: what a change of the configuration does not touch. -/
def State.calm (s : State) : Rst × List Instr := (s.rst, s.pending)

theorem silent_calm : Silent State.calm := fun _ _ _ => rfl

@[simp] theorem calm_raise (s : State) (ev : Ev) (u a : Nat) (d : List Byte) : (s.raise ev u a d).calm = s.calm :=
  reads_raise silent_calm s ev u a d

theorem calm_of_settled {s t : State} (h : t.settledFrom = s.settledFrom) : t.calm = s.calm :=
  congrArg (fun k => (k State.reset).calm) h

@[simp] theorem calm_onFab (s : State) (f : Fabric → Fabric) : (s.onFab f).calm = s.calm := rfl
@[simp] theorem calm_onImg (s : State) (f : Image → Image) : (s.onImg f).calm = s.calm := rfl

/-! ## The check of the configuration (R340) -/

/-- What the check has of `State.calm`. -/
def Chk.calm (c : Chk) : Rst × List Instr := c.s.calm

section
variable (c : Chk) (f : Field) (inst i j : Nat)

@[simp] theorem calm_find (ev : Ev) (kind : Nat) (used : Word) (unit : Option Nat) :
    (c.find ev kind f inst i j used unit).calm = c.calm := rfl
@[simp] theorem calm_clamp (v : Rat) (ev : Ev) : (c.clamp f inst v i j ev).calm = c.calm := rfl
@[simp] theorem calm_refuse (ev : Ev) (unit : Option Nat) : (c.refuse ev f inst i j unit).calm = c.calm := rfl
@[simp] theorem calm_bad (m : Fin 4) : (c.bad m).calm = c.calm := rfl
@[simp] theorem calm_badMap (m : Fin 4) : (c.badMap m).calm = c.calm := rfl

@[simp] theorem calm_clampIf (b : Bool) (v : Rat) (ev : Ev) : (c.clampIf b f inst v i j ev).calm = c.calm := by
  unfold Chk.clampIf
  split <;> rfl

end

section
variable (c : Chk)

theorem calm_range (key : Nat) (v : CfgVal) : (c.range key v).calm = c.calm := by
  unfold Chk.range
  split
  · rfl
  · split
    · rfl
    · split
      · rfl
      · split <;> rfl

theorem calm_ranges (l : List (Nat × CfgVal)) : (l.foldl (fun c x => c.range x.1 x.2) c).calm = c.calm := by
  refine reads_foldl (fun c x => ?_) l c
  exact calm_range c x.1 x.2

theorem calm_map : c.map.calm = c.calm :=
  reads_foldl (k := Chk.calm) (fun c x => by rw [calm_badMap, calm_refuse]) _ _

theorem calm_bounds : c.bounds.calm = c.calm := by
  refine reads_forFin (fun m c => ?_) c
  split
  · split <;> rfl
  · rfl

theorem calm_ctrig : c.ctrig.calm = c.calm := by
  refine reads_foldl (fun c n => ?_) _ c
  dsimp only
  split <;> rfl

theorem calm_modulation : c.modulation.calm = c.calm := reads_foldl (fun c _ => calm_clampIf c ..) _ c

theorem calm_motors : c.motors.calm = c.calm := by
  refine reads_forFin (fun m c => ?_) c
  extract_lets ld c1
  have h1 : c1.calm = c.calm := calm_clampIf ..
  split
  · exact (calm_clampIf ..).trans h1
  · exact h1

theorem calm_position : c.position.calm = c.calm := by
  refine reads_forFin (fun m c => ?_) c
  extract_lets c1
  have h1 : c1.calm = c.calm := by
    unfold c1
    split <;> rfl
  split
  · exact h1
  · split
    · rw [calm_bad, calm_refuse, h1]
    · rw [calm_clampIf, h1]

theorem calm_curves : c.curves.calm = c.calm := by
  unfold Chk.curves
  extract_lets c1
  have h1 : c1.calm = c.calm := by
    refine reads_foldl (fun c k => ?_) _ c
    split <;> rfl
  refine (reads_forFin (fun m c => ?_) c1).trans h1
  split <;> rfl

theorem calm_outerLoops : c.outerLoops.calm = c.calm := by
  refine reads_forFin (fun m c => ?_) c
  extract_lets top c1 slt c2
  calc (c2.clampIf _ _ _ _ _ _ _).calm = c2.calm := calm_clampIf ..
    _ = c1.calm := calm_clampIf ..
    _ = c.calm := calm_clampIf ..

theorem calm_axes : c.axes.calm = c.calm := by
  refine reads_forFin (fun k c => ?_) c
  extract_lets mode p top vmax c1 v c2 ok
  split
  · rfl
  · have h1 : c1.calm = c.calm := by
      unfold c1
      split <;> rfl
    have h2 : c2.calm = c.calm := (calm_clampIf ..).trans h1
    split
    · exact (calm_clamp ..).trans h2
    · exact h2

theorem calm_drums : c.drums.calm = c.calm := by
  refine reads_forFin (fun m c => ?_) c
  extract_lets away c1 c2 pin c3 c4 slt ceil
  have h3 : c3.calm = c.calm := (calm_clampIf ..).trans ((calm_clampIf ..).trans (calm_clampIf ..))
  have h4 : c4.calm = c.calm := by
    unfold c4
    split
    · split
      · rw [calm_find, h3]
      · exact h3
    · exact h3
  split <;> exact (calm_clampIf ..).trans h4

theorem calm_ring : c.ring.calm = c.calm := by
  unfold Chk.ring
  split
  · rfl
  · split
    · refine (reads_forFin (fun m c => ?_) _).trans (calm_refuse ..)
      split <;> rfl
    · refine reads_forFin (fun m c => ?_) c
      split <;> rfl

theorem calm_emergencies : c.emergencies.calm = c.calm := by
  refine reads_forFin (fun m c => ?_) c
  extract_lets away off c1 top c2
  have hoff (c : Chk) (f : Field) : (off c f).calm = c.calm := calm_clampIf ..
  have h1 : c1.calm = c.calm := by
    unfold c1
    rw [hoff, hoff, hoff]
  have h2 : c2.calm = c.calm := (calm_clampIf ..).trans h1
  rw [calm_clampIf, h2]

theorem calm_interlocks : c.interlocks.calm = c.calm := reads_foldl (fun c _ => calm_clampIf c ..) _ c

theorem calm_levels : c.levels.calm = c.calm := by
  unfold Chk.levels
  extract_lets ov3 lower c1
  have hlower (c : Chk) (f : Field) (i : Nat) (top : Rat) : (lower c f i top).calm = c.calm := calm_clampIf ..
  have h1 : c1.calm = c.calm := by
    refine reads_forFin (fun h c => ?_) c
    extract_lets vin l c2
    exact (reads_foldl (fun _ _ => hlower ..) l c2).trans (reads_foldl (fun _ _ => hlower ..) l c)
  exact (reads_foldl (fun _ _ => hlower ..) _ c1).trans h1

theorem calm_gates : c.gates.calm = c.calm := reads_forFin (fun _ c => calm_clampIf c ..) c

theorem calm_channels : c.channels.calm = c.calm := by
  refine reads_forFin (fun k c => ?_) c
  refine reads_forFin (fun j c => ?_) c
  split <;> rfl

theorem calm_cans : c.cans.calm = c.calm := by
  unfold Chk.cans
  extract_lets c1
  have h1 : c1.calm = c.calm := by
    refine reads_forFin (fun k c => ?_) c
    extract_lets c2
    have h2 : c2.calm = c.calm := calm_clampIf ..
    split <;> exact h2
  refine (reads_forFin (fun x c => ?_) c1).trans h1
  dsimp only
  split <;> rfl

theorem calm_sources : c.sources.calm = c.calm := by
  refine reads_forFin (fun k c => ?_) c
  refine reads_forFin (fun h c => ?_) c
  split <;> rfl

end

/-- The check takes values in place of those given, and leaves reset, start-up and the queue. -/
theorem calm_check (s : State) : s.check.s.calm = s.calm := by
  change s.check.calm = s.calm
  simp only [State.check, calm_sources, calm_cans, calm_channels, calm_gates, calm_levels, calm_interlocks, calm_emergencies, calm_ring,
    calm_drums, calm_axes, calm_outerLoops, calm_curves, calm_position, calm_motors, calm_modulation, calm_ctrig, calm_bounds, calm_map,
    calm_ranges]
  rfl

end Sys2Proof.Machine
end

section
/-! SUPPORT. The management cluster goes down and comes back (R2, R3, R346, R351, R356, R359 to R361): the parts of the state that each
may change, and with them what stands. -/

namespace Sys2Proof.Machine

/-! ## The cluster goes down -/

/-- The parts that the cluster's work leaves behind as it stops, taken from `t`: staged records, a commit, shadows, a trial firmware. -/
def State.downFrom (s t : State) : State :=
  { s with img := t.img, com := t.com, shadow := t.shadow, fw := t.fw, recd := t.recd, cap := t.cap }

theorem silent_downFrom : Silent State.downFrom := fun _ _ _ => rfl

@[simp] theorem down_raise (s : State) (ev : Ev) (u a : Nat) (d : List Byte) : (s.raise ev u a d).downFrom = s.downFrom :=
  reads_raise silent_downFrom s ev u a d
@[simp] theorem down_raiseIf (s : State) (b : Bool) (ev : Ev) (u a : Nat) (d : List Byte) :
    (s.raiseIf b ev u a d).downFrom = s.downFrom := reads_raiseIf silent_downFrom s b ev u a d
@[simp] theorem down_onImg (s : State) (f : Image → Image) : (s.onImg f).downFrom = s.downFrom := rfl
@[simp] theorem down_onShadow (s : State) (i : Fin 2) (f : Shadow → Shadow) : (s.onShadow i f).downFrom = s.downFrom := rfl

theorem down_discardStaged (s : State) : s.discardStaged.downFrom = s.downFrom := by
  unfold State.discardStaged
  exact (reads_foldl (fun s q => down_raise s ..) _ _).trans (down_onImg ..)

theorem down_abandonCommit (s : State) : s.abandonCommit.downFrom = s.downFrom := by
  unfold State.abandonCommit
  split
  · rfl
  · dsimp only
    rw [down_raiseIf, down_raiseIf]
    rfl

theorem down_abortShadow (s : State) (i : Fin 2) (reason : Nat) : (s.abortShadow i reason).downFrom = s.downFrom := by
  simp [State.abortShadow]

theorem down_abortShadows (s : State) (reason : Nat) : (s.abortShadows reason).downFrom = s.downFrom := by
  refine reads_forFin (fun i s => ?_) s
  split
  case h_4 => rfl
  all_goals exact down_abortShadow ..

theorem down_fwRevert (s : State) : s.fwRevert.downFrom = s.downFrom := by
  unfold State.fwRevert
  split
  · rw [down_raise]
    rfl
  · rfl

theorem down_closed {s t : State} (h : t.downFrom = s.downFrom) :
    (t.closeSessions.onRst fun r => { r with mgmtRun := false }).downFrom =
      (s.closeSessions.onRst fun r => { r with mgmtRun := false }).downFrom :=
  congrArg (fun k b => (State.closeSessions (k b)).onRst fun r => { r with mgmtRun := false }) h

/-- With the cluster down, its sessions are closed; beside what its work leaves behind, nothing else differs. -/
theorem mgmtRestart_eq {s : State} (h : s.rst.mgmtRun = true) :
    s.mgmtRestart = (s.closeSessions.onRst fun r => { r with mgmtRun := false }).downFrom s.mgmtRestart := by
  have hwork : (s.discardStaged.abandonCommit.abortShadows 9).downFrom = s.downFrom := by
    rw [down_abortShadows, down_abandonCommit, down_discardStaged]
  have hdown : s.mgmtDown.downFrom = (s.closeSessions.onRst fun r => { r with mgmtRun := false }).downFrom := by
    unfold State.mgmtDown
    exact down_closed hwork
  have ht : s.mgmtRestart = s.mgmtDown.fwRevert := by rw [State.mgmtRestart, if_pos h]
  have hall : s.mgmtRestart.downFrom = (s.closeSessions.onRst fun r => { r with mgmtRun := false }).downFrom := by
    rw [ht, down_fwRevert, hdown]
  exact congrFun hall s.mgmtRestart

/-! ## The cluster comes back -/

/-- The parts that the cluster takes up again, taken from `t`: the journal, its flows, the calibration rounds, a trial firmware, a
commit. -/
def State.upFrom (s t : State) : State :=
  { s with recd := t.recd, cap := t.cap, fab := t.fab, cells := t.cells, fw := t.fw, nor := t.nor, com := t.com }

theorem silent_upFrom : Silent State.upFrom := fun _ _ _ => rfl

theorem up_recordLate (s : State) (e : Entry) : (s.recordLate e).upFrom = s.upFrom := by
  unfold State.recordLate State.store
  split
  · dsimp only
    split <;> rfl
  · rfl

theorem up_tell (s : State) (x : Note) : (s.tell x).upFrom = s.upFrom := reads_raise silent_upFrom ..

theorem up_onFlow (s : State) (i : Fin 256) (f : Flow → Flow) : (s.onFlow i f).upFrom = s.upFrom := rfl

theorem up_onFab (s : State) (f : Fabric → Fabric) : (s.onFab f).upFrom = s.upFrom := rfl

theorem up_flowRebuilt (s : State) (f : Fin 256) : (s.flowRebuilt f).upFrom = s.upFrom := by
  unfold State.flowRebuilt
  extract_lets s0 s1
  have h0 : s0.upFrom = s.upFrom := up_onFlow s f _
  rw [up_onFab]
  unfold s1
  split
  · exact h0
  · split
    · rw [up_onFlow, h0]
    · rw [up_tell, h0]

theorem up_mgmtFlows (s : State) : s.mgmtFlows.upFrom = s.upFrom := by
  refine reads_forFin (fun f s => ?_) s
  split
  · exact up_flowRebuilt s f
  · rfl

theorem up_bgMissed (s : State) : s.bgMissed.upFrom = s.upFrom := by
  refine reads_forFin (fun c s => ?_) s
  dsimp only
  split <;> rfl

theorem up_commitStart (s : State) : s.commitStart.upFrom = s.upFrom := by
  unfold State.commitStart State.commitBegin
  split
  · exact (reads_raise silent_upFrom ..).trans rfl
  · split <;> rfl

theorem up_heldDrained (s : State) (l : List Entry) :
    (l.foldl State.recordLate { s with recd := { s.recd with held := [] } }).upFrom = s.upFrom :=
  (reads_foldl up_recordLate l _).trans rfl

theorem up_withFw (s : State) (f : Firmware) : State.upFrom { s with fw := f } = s.upFrom := rfl

theorem up_withCom (s : State) (c : Commit) : State.upFrom { s with com := c } = s.upFrom := rfl

/-- The cluster runs again; beside what it takes up, nothing else differs. -/
theorem mgmtUp_eq {s : State} (h : s.rst.mgmtRun = false) (hs : 4 ≤ s.rst.stage) :
    s.mgmtUp = (s.onRst fun r => { r with mgmtRun := true }).upFrom s.mgmtUp := by
  have hup : s.mgmtUp.upFrom = (s.onRst fun r => { r with mgmtRun := true }).upFrom := by
    unfold State.mgmtUp
    rw [if_neg (by simp [h]; omega)]
    extract_lets s1 rcd s2 s3 fw s4 com
    have h3 : s3.upFrom = s1.upFrom := by
      unfold s3
      rw [up_bgMissed, up_mgmtFlows]
      exact up_heldDrained s1 _
    have h4 : s4.upFrom = s1.upFrom := by
      unfold s4
      split
      · rw [up_withFw, h3]
      · exact h3
    change _ = s1.upFrom
    split
    · rfl
    · split
      · rw [up_commitStart, h4]
      · rw [up_withCom, h4]
  exact congrFun hup s.mgmtUp

end Sys2Proof.Machine
end

section
/-! SUPPORT. The taking effect of staged records (R345), part by part: none of it touches reset, start-up or the queue of commands. -/

namespace Sys2Proof.Machine

/-! ## Values and findings (R341) -/

@[simp] theorem calm_tell (s : State) (x : Note) : (s.tell x).calm = s.calm := calm_raise ..

theorem calm_take (s : State) (l : List Placed) : (s.take l).calm = s.calm := by
  refine reads_foldl (fun s p => ?_) l s
  rfl

theorem calm_takeStaged (s : State) (g : List Staged) : (s.takeStaged g).calm = s.calm :=
  reads_foldl (fun s _ => calm_take s _) g s

theorem calm_recheck (s : State) (before : List Note) : (s.recheck before).calm = s.calm :=
  (reads_foldl calm_tell _ _).trans (calm_check s)

/-! ## Carriers (R66) -/

theorem calm_carriersAt (s : State) (m : Fin 4) (count : Nat) : (s.carriersAt m count).calm = s.calm := by
  refine reads_foldl (fun s n => ?_) _ s
  rfl

theorem calm_alignCarriers (s : State) (m : Fin 4) : (s.alignCarriers m).calm = s.calm := by
  unfold State.alignCarriers
  split
  · dsimp only
    split
    · exact calm_carriersAt ..
    · rfl
  · rfl

theorem calm_startCarriers (s : State) (m : Fin 4) : (s.startCarriers m).calm = s.calm :=
  (calm_alignCarriers _ m).trans (calm_carriersAt s m 0)

theorem calm_stopCarriers (s : State) : s.stopCarriers.calm = s.calm := by
  refine reads_forFin (fun n s => ?_) s
  split <;> rfl

theorem calm_carriersFollow (s old : State) : (s.carriersFollow old).calm = s.calm := by
  refine (calm_stopCarriers _).trans (reads_forFin (fun m s => ?_) s)
  split
  · rfl
  · split
    · exact calm_startCarriers s m
    · refine reads_foldl (fun s n => ?_) _ s
      dsimp only
      split <;> rfl

/-! ## Placement (R91, R466) -/

theorem calm_setEngine (s : State) (t : Nat) (e : Fin 16) : (s.setEngine t e).calm = s.calm := calm_onFab s _

theorem calm_wantTasks (s : State) : s.wantTasks.calm = s.calm := calm_onFab s _

theorem calm_placeOne (s : State) (fit : List Nat → Bool) (t : Nat) : (s.placeOne fit t).calm = s.calm := by
  unfold State.placeOne
  split <;> rfl

theorem calm_placeShock (s : State) (t : Nat) : (s.placeShock t).calm = s.calm := by
  unfold State.placeShock
  split
  · rfl
  · split <;> rfl

theorem calm_placeLoops (s : State) (m : Fin 4) : (s.placeLoops m).calm = s.calm := by
  unfold State.placeLoops
  dsimp only
  split
  · rfl
  · split
    · exact reads_foldl (fun s t => calm_setEngine s t _) _ s
    · exact reads_foldl (fun s t => calm_placeOne s s.loopsFit t) _ s

theorem calm_placeOther (s : State) (t : Nat) : (s.placeOther t).calm = s.calm := by
  unfold State.placeOther
  split
  · exact calm_placeOne ..
  · rfl

theorem calm_placeWanted (s : State) : s.placeWanted.calm = s.calm :=
  (reads_foldl calm_placeOther _ _).trans ((reads_forFin (fun m s => calm_placeLoops s m) _).trans (reads_foldl calm_placeShock _ s))

theorem calm_bindFlows (s : State) : s.bindFlows.calm = s.calm := by
  refine reads_forFin (fun f s => ?_) s
  dsimp only
  split
  · rfl
  · split
    · split <;> rfl
    · split <;> rfl

theorem calm_placeAgain (s : State) (mine : Nat → Bool) : (s.placeAgain mine).calm = s.calm := by
  unfold State.placeAgain
  extract_lets s0 keep s1 tried s2 fw s3
  have h1 : s1.calm = s.calm := by
    unfold s1
    rw [calm_onFab]
    exact calm_wantTasks s
  have h2 : s2.calm = s.calm := by
    unfold s2
    rw [calm_bindFlows, calm_wantTasks, calm_placeWanted, h1]
  clear_value s2
  have h3 : s3.calm = s.calm := h2
  refine Eq.trans ?_ h3
  refine reads_foldl (fun s t => ?_) _ s3
  exact calm_tell ..

/-! ## What records act on -/

theorem calm_mpcTables (s : State) (m : Fin 4) : (s.mpcTables m).calm = s.calm := by
  unfold State.mpcTables
  split <;> rfl

theorem calm_onSeq (s : State) (c k : Nat) (f : Sequencer → Sequencer) : (s.onSeq c k f).calm = s.calm := by
  unfold State.onSeq
  split <;> rfl

theorem calm_startContinuous (s : State) (c : Nat) : (s.startContinuous c).calm = s.calm := by
  refine reads_foldl (fun s k => ?_) _ s
  dsimp only
  split
  · exact calm_onSeq ..
  · rfl

theorem calm_cellActs (s old : State) (c : Nat) : (s.cellActs old c).calm = s.calm := by
  refine (calm_startContinuous _ c).trans (reads_foldl (fun s k => ?_) _ s)
  split
  · exact calm_onSeq ..
  · rfl

theorem calm_lanSet (s : State) (k : Fin 4) (b up : Bool) : (s.lanSet k b up).calm = s.calm := by
  unfold State.lanSet
  dsimp only
  rw [apply_ite State.calm, calm_raise]
  exact ite_self _

theorem calm_linkDown (s : State) (p : Fin 9) (aux : Nat) : (s.linkDown p aux).calm = s.calm := by
  have h : ((s.onPort p fun x => { x with link := false, asCap := false }).raise .ETH_LINK_DOWN p aux).calm = s.calm := by
    rw [calm_raise]
    rfl
  unfold State.linkDown
  dsimp only
  split
  · exact (calm_lanSet ..).trans h
  · exact h

theorem calm_flowRebuilt (s : State) (f : Fin 256) : (s.flowRebuilt f).calm = s.calm :=
  congrArg (fun k => (k s).calm) (up_flowRebuilt s f)

theorem calm_capStop (s : State) (k : Fin 8) : (s.capStop k).calm = s.calm := by
  unfold State.capStop
  split <;> rfl

theorem calm_capArm (s : State) (k : Fin 8) : (s.capArm k).calm = s.calm := by
  unfold State.capArm
  split <;> rfl

theorem calm_chopConf (s : State) : s.chopConf.calm = s.calm := by
  simp only [State.chopConf, State.calm]

theorem calm_chanConf (s : State) : s.chanConf.calm = s.calm := by
  simp only [State.chanConf, State.calm]

theorem calm_recordActs (s old : State) (rt : Option RecT) (inst : Nat) (l : List RawField) :
    (s.recordActs old rt inst l).calm = s.calm := by
  unfold State.recordActs
  split
  · extract_lets m s1 s2
    have h1 : s1.calm = s.calm := calm_mpcTables _ m
    have h2 : s2.calm = s.calm := by
      unfold s2
      split <;> exact h1
    split <;> exact h2
  · exact calm_mpcTables ..
  · exact reads_forFin (fun m s => calm_mpcTables s m) s
  · exact calm_cellActs ..
  · split <;> rfl
  · rfl
  · rfl
  · dsimp only
    split <;> rfl
  · refine reads_forFin (fun p s => ?_) s
    split
    · split
      · exact calm_linkDown ..
      · rfl
    · rfl
  · refine (reads_forFin (fun k s => ?_) _).trans (reads_forFin (fun f s => ?_) s)
    · split
      · dsimp only
        split
        · exact (calm_capArm ..).trans (calm_capStop ..)
        · rfl
      · rfl
    · split
      · exact calm_flowRebuilt s f
      · rfl
  · rfl

/-! ## Arming (R27) -/

theorem calm_evalArm (s : State) : s.evalArm.calm = s.calm := by
  unfold State.evalArm State.armNow
  split
  · rfl
  · refine (reads_forFin (fun m t => ?_) { s with armed := _ }).trans rfl
    split
    · split
      · rfl
      · exact calm_of_settled (settled_dropOwn ..)
    · split
      · exact calm_of_settled (settled_react ..)
      · rfl

/-! ## A group, and the end of a slice (R345, R347, R363) -/

theorem calm_toStash (s : State) (g : List Staged) : (s.toStash g).calm = s.calm := by
  unfold State.toStash
  split <;> rfl

theorem calm_tellInEffect (s : State) (g : List Staged) : (s.tellInEffect g).calm = s.calm := by
  refine reads_foldl (fun s q => ?_) _ s
  split
  · rfl
  · exact calm_raise ..

theorem calm_effect (s : State) (typ inst : Nat) (g : List Staged) : (s.effect typ inst g).calm = s.calm := by
  unfold State.effect
  extract_lets rt l s1 s2 s3 mine
  have h1 : s1.calm = s.calm := calm_onImg ..
  have h2 : s2.calm = s.calm := by
    unfold s2
    rw [calm_recheck, calm_takeStaged, h1]
  have h3 : s3.calm = s.calm := by
    unfold s3
    rw [calm_recordActs, calm_chanConf, calm_chopConf, calm_carriersFollow, h2]
  calc (((s3.placeAgain mine).evalArm.toStash g).tellInEffect g).calm
      = ((s3.placeAgain mine).evalArm.toStash g).calm := calm_tellInEffect ..
    _ = (s3.placeAgain mine).evalArm.calm := calm_toStash ..
    _ = (s3.placeAgain mine).calm := calm_evalArm ..
    _ = s3.calm := calm_placeAgain ..
    _ = s.calm := h3

theorem calm_sliceEffects (s : State) : s.sliceEffects.calm = s.calm := by
  refine reads_foldl (fun s x => ?_) _ s
  dsimp only
  split
  · exact calm_effect ..
  · rfl

theorem calm_bgSlice (s : State) : s.bgSlice.calm = s.calm := by
  refine reads_forFin (fun c s => ?_) s
  rfl

end Sys2Proof.Machine
end

section
/-! SUPPORT. Supplies and the management cluster (R2, R3, R318, R324, R345, R429): one lemma for each command. -/

namespace Sys2Proof.Machine

/-! ## Supplies (R318, R324, R429) -/

theorem pornRelease_spec {s : State} (legacy : Bool) (h : s.rst.held = true) : Runs (.pornRelease legacy) s fun t =>
    t.rst = { s.rst with held := false, relAt := s.up } ∧ t.fab = { s.fab with pin := legacy, legacy := legacy, mode := legacy } ∧
      t.clk = { s.clk with cmEarly := false } ∧ Logged s t .HOST_MODE 0xFF (bit 0 legacy) ∧
      t = { s with rst := t.rst, fab := t.fab, clk := t.clk, recd := t.recd, cap := t.cap } := by
  refine ⟨s.pornRelease legacy, rfl, ?_⟩
  unfold State.pornRelease
  rw [if_pos h]
  refine ⟨State.raise_rst .., State.raise_fab .., State.raise_clk .., raise_logged_of s _ _ _ _ _ ?_ ?_, ?_⟩
  · rfl
  · rfl
  obtain ⟨r, c, hr⟩ := raise_recOnly { s with
    rst := { s.rst with held := false, relAt := s.up }, clk := { s.clk with cmEarly := false }
    fab := { s.fab with pin := legacy, legacy := legacy, mode := legacy } } .HOST_MODE 0xFF (bit 0 legacy) []
  rw [hr]

/-- With the rails confirmed the supervisor's bits of VDD and, unless it is latched low, of VBAT are set (R318, R324). -/
theorem railsConfirmed_ok {s : State} (h : s.inStage 0 = true) : s.railsConfirmed true =
    s.onRst fun r => { r with stage := 1, ok := r.ok ||| (if r.low.getLsbD 8 then 0x008 else 0x108) } := by
  simp [State.railsConfirmed, h]

theorem railsConfirmed_bits (ok low : BitVec 9) :
    (ok ||| (if low.getLsbD 8 then 0x008 else 0x108)).getLsbD 3 = true ∧
      (ok ||| (if low.getLsbD 8 then 0x008 else 0x108)).getLsbD 8 = !(low.getLsbD 8 && !ok.getLsbD 8) := by
  cases hl : low.getLsbD 8 <;> simp

theorem holdAt_spec (s : State) (k : Nat) : (s.holdAt k).rst = { s.rst with hold := k } ∧ Logged s (s.holdAt k) .STAGE_HOLD 0xFF k ∧
    s.holdAt k = { s with rst := (s.holdAt k).rst, recd := (s.holdAt k).recd, cap := (s.holdAt k).cap } := by
  unfold State.holdAt
  refine ⟨State.raise_rst .., raise_logged_of s _ _ _ _ _ ?_ ?_, ?_⟩
  · rfl
  · rfl
  obtain ⟨r, c, hr⟩ := raise_recOnly (s.onRst fun r => { r with hold := k }) .STAGE_HOLD 0xFF k []
  rw [hr]
  rfl

theorem raiseIf_logged_of {s x : State} {b : Bool} (hb : b = true) (hr : x.recd = s.recd) (hd : x.dev = s.dev) (ev : Ev) (u a : Nat)
    (d : List Byte) : Logged s (x.raiseIf b ev u a d) ev u a d := by
  unfold State.raiseIf
  rw [if_pos hb]
  exact raise_logged_of s x ev u a d hr hd

/-- The fall of VBAT below 2.5 V is an event where the domain was not known to be low (R318). -/
theorem vbatLow_spec (s : State) : (s.vbatLow true).rst.low = s.rst.low ||| 0x100 ∧ (s.vbatLow true).rst.ok = s.rst.ok &&& 0x0FF ∧
    ((s.rst.low.getLsbD 8 = false ∨ s.rst.ok.getLsbD 8 = true) → Logged s (s.vbatLow true) .VBAT_LOW) ∧
    s.vbatLow true = { s with
      rst := { s.rst with low := (s.vbatLow true).rst.low, ok := (s.vbatLow true).rst.ok }
      recd := (s.vbatLow true).recd, cap := (s.vbatLow true).cap } := by
  have e : s.vbatLow true = (s.onRst fun r => { r with low := r.low ||| 0x100, ok := r.ok &&& 0x0FF }).raiseIf
      (!(s.rst.low.getLsbD 8 && !s.rst.ok.getLsbD 8)) .VBAT_LOW := rfl
  rw [e]
  refine ⟨?_, ?_, fun hk => ?_, ?_⟩
  · rw [State.raiseIf_rst]
    rfl
  · rw [State.raiseIf_rst]
    rfl
  · have hb : (!(s.rst.low.getLsbD 8 && !s.rst.ok.getLsbD 8)) = true := by
      rcases hk with hk | hk <;> rw [hk] <;> simp
    refine raiseIf_logged_of hb ?_ ?_ _ _ _ _ <;> rfl
  · obtain ⟨r, c, hr⟩ := raiseIf_recOnly (s.onRst fun r => { r with low := r.low ||| 0x100, ok := r.ok &&& 0x0FF })
      (!(s.rst.low.getLsbD 8 && !s.rst.ok.getLsbD 8)) .VBAT_LOW 0xFF 0 []
    generalize State.raiseIf _ _ _ _ _ _ = t at hr ⊢
    subst hr
    rfl

/-! ## Slices (R345, R356) -/

/-- One pass of the loop over the shadow slots at the end of a slice. -/
theorem freeShadow_state (s : State) (j i : Fin 2) (h : i = j ∨ s.shadow[i].state ≠ .abort) :
    (if s.shadow[j].state = .abort then s.onShadow j fun h => { h with state := .idle } else s).shadow[i].state ≠ .abort := by
  by_cases hij : i = j
  · subst hij
    split
    · simp only [State.onShadow_shadow, vmod_self]
      simp
    next hn => exact hn
  · have hi : s.shadow[i].state ≠ .abort := h.resolve_left hij
    split
    · simp only [State.onShadow_shadow, vmod_ne _ _ _ _ hij]
      exact hi
    · exact hi

/-- An aborted shadow is freed where the loop passes it, and none is aborted by it. -/
theorem foldl_freeShadow (l : List (Fin 2)) (s : State) (i : Fin 2) (h : i ∈ l ∨ s.shadow[i].state ≠ .abort) :
    (l.foldl (fun s i => if s.shadow[i].state = .abort then s.onShadow i fun h => { h with state := .idle } else s) s).shadow[i].state ≠
      .abort := by
  induction l generalizing s with
  | nil => simpa using h
  | cons j l ih =>
    refine ih _ ?_
    by_cases hij : i = j
    · exact .inr (freeShadow_state s j i (.inl hij))
    · rcases h with h | h
      · exact .inl ((List.mem_cons.1 h).resolve_left hij)
      · exact .inr (freeShadow_state s j i (.inr h))

theorem sliceEnd_spec {s : State} (hm : s.rst.mgmtRun = true) (hs : s.rst.stage = 9) :
    (∀ i : Fin 2, s.sliceEnd.shadow[i].state ≠ .abort) ∧ s.sliceEnd.calm = s.calm := by
  unfold State.sliceEnd
  rw [if_neg (by simp [hm, hs])]
  refine ⟨fun i => foldl_freeShadow (List.finRange 2) _ i (.inl (List.mem_finRange i)), ?_⟩
  have hx : s.sliceEffects.bgSlice.calm = s.calm := (calm_bgSlice _).trans (calm_sliceEffects s)
  refine (reads_forFin (fun i s => ?_) _).trans hx
  split <;> rfl

/-! ## The statement -/

/-- Settles O11: the supplies command by command, the cluster by the parts that its going down and coming back may change, and a slice end
by what the taking effect of records leaves. -/
theorem supplyAndManagement : Obligations.SupplyAndManagement := by
  refine ⟨?release, ?confirmed, ?unconfirmed, ?vbatFalls, ?vbatRises, ?down, ?up, ?slice⟩
  case release => exact fun s legacy h => pornRelease_spec legacy h
  case confirmed =>
    intro s h
    obtain ⟨h3, h8⟩ := railsConfirmed_bits s.rst.ok s.rst.low
    exact ⟨_, congrArg Host.Outcome.next (railsConfirmed_ok h), rfl, h3, h8, rfl⟩
  case unconfirmed =>
    intro s h
    refine ⟨s.holdAt 1, congrArg Host.Outcome.next ?_, holdAt_spec s 1⟩
    simp [State.railsConfirmed, h]
  case vbatFalls => exact fun s => ⟨s.vbatLow true, rfl, vbatLow_spec s⟩
  case vbatRises => exact fun s => ⟨s.vbatLow false, rfl, rfl⟩
  case down =>
    intro s h
    refine ⟨s.mgmtRestart, rfl, ?_⟩
    rw [mgmtRestart_eq h]
    simp only [State.downFrom, State.onRst, State.closeSessions, and_self]
  case up =>
    intro s h hs
    refine ⟨s.mgmtUp, rfl, ?_⟩
    rw [mgmtUp_eq h hs]
    simp only [State.upFrom, State.onRst, and_self]
  case slice =>
    intro s hm hs
    obtain ⟨hfree, hcalm⟩ := sliceEnd_spec hm hs
    exact ⟨s.sliceEnd, rfl, hfree, congrArg Prod.fst hcalm, congrArg Prod.snd hcalm⟩

end Sys2Proof.Machine
end

section
/-! SUPPORT. Measurement cells (chapter 02): a control cell and its sequencers by number, and what a change of one cell, with the events it
raises, leaves as it is. -/

namespace Sys2Proof.Machine

/-! ## Tables by number -/

section
variable {α : Type} {n : Nat}

@[simp] theorem vat_fin (v : Vector α n) (d : α) (i : Fin n) : vat v d i = v[i] := dif_pos i.2

@[simp] theorem vmodN_fin (v : Vector α n) (i : Fin n) (f : α → α) : vmodN v i f = vmod v i f := dif_pos i.2

@[simp] theorem vgen_get (f : Fin n → α) (i : Fin n) : (vgen n f)[i] = f i := by simp [vgen]

theorem vmap_get {β : Type} (v : Vector α n) (f : α → β) (i : Fin n) : (v.map f)[i] = f v[i] := by simp

theorem vset_self (v : Vector α n) (i : Fin n) (x : α) : (v.set i x)[i] = x := by simp

theorem vset_ne (v : Vector α n) (i j : Fin n) (x : α) (h : j ≠ i) : (v.set i x)[j] = v[j] := vmod_ne v i j (fun _ => x) h

theorem vmod_vmod (v : Vector α n) (i : Fin n) (f g : α → α) : vmod (vmod v i f) i g = vmod v i (g ∘ f) := by simp [vmod]

end

/-! ## Control cells and their sequencers -/

section
variable (s : State) (c : Fin 8) (k : Fin 4)

@[simp] theorem cell_fin : s.cell c = s.cells[c] := vat_fin ..

@[simp] theorem onCellN_fin (f : Cell → Cell) : s.onCellN c f = s.onCell c f := by simp [State.onCellN, State.onCell]

theorem fin8_ne_hk : (c : Nat) ≠ 8 := Nat.ne_of_lt c.2

@[simp] theorem seq_fin : s.seq c k = s.cells[c].sq[k] := by simp [State.seq, fin8_ne_hk, -Fin.getElem_fin]

@[simp] theorem onSeq_fin (f : Sequencer → Sequencer) :
    s.onSeq c k f = s.onCell c fun x => { x with sq := vmod x.sq k f } := by
  simp [State.onSeq, State.onCell, fin8_ne_hk]

@[simp] theorem refReady_fin : s.refReady c = s.cells[c].rdy := by simp [State.refReady, fin8_ne_hk, -Fin.getElem_fin]

@[simp] theorem seqExists_fin : seqExists c k = true := by simp [seqExists]

theorem calibrating_fin : s.calibrating c = (s.cells[c].fullPend || s.cells[c].offline) := by
  simp [State.calibrating, -Fin.getElem_fin]

theorem onCell_onCell (f g : Cell → Cell) : (s.onCell c f).onCell c g = s.onCell c (g ∘ f) := by
  simp only [State.onCell, vmod_vmod]

end

/-! ## One cell changed -/

/-- A state that differs from another in one cell, changed by `f`, and in the recorder and the capture buffers at most. -/
structure CellStep (s t : State) (c : Fin 8) (f : Cell → Cell) : Prop where
  here   : t.cells[c] = f s.cells[c]
  others : ∀ d : Fin 8, d ≠ c → t.cells[d] = s.cells[d]
  rest   : t = { s with cells := t.cells, recd := t.recd, cap := t.cap }

theorem RecOnly.eq {s t : State} (h : RecOnly s t) : t = { s with recd := t.recd, cap := t.cap } := by
  obtain ⟨r, c, rfl⟩ := h
  rfl

section
variable {s t u : State} {c : Fin 8} {f g : Cell → Cell}

theorem CellStep.trans (h : CellStep s t c f) (k : CellStep t u c g) : CellStep s u c (g ∘ f) where
  here := by rw [k.here, h.here]; rfl
  others d hd := (k.others d hd).trans (h.others d hd)
  rest := by
    obtain ⟨_, _, hr⟩ := h
    obtain ⟨_, _, kr⟩ := k
    rw [hr] at kr
    exact kr

theorem RecOnly.cellStep (h : RecOnly s t) : CellStep s t c id := by
  obtain ⟨r, x, rfl⟩ := h
  exact ⟨rfl, fun _ _ => rfl, rfl⟩

theorem onCell_step (s : State) (c : Fin 8) (f : Cell → Cell) : CellStep s (s.onCell c f) c f :=
  ⟨vmod_self .., fun _ hd => vmod_ne _ _ _ _ hd, rfl⟩

theorem onCell_raiseIf_step (s : State) (c : Fin 8) (f : Cell → Cell) (b : Bool) (ev : Ev) (u a : Nat) (d : List Byte) :
    CellStep s ((s.onCell c f).raiseIf b ev u a d) c f := (onCell_step s c f).trans (raiseIf_recOnly ..).cellStep

theorem onCell_raise_step (s : State) (c : Fin 8) (f : Cell → Cell) (ev : Ev) (u a : Nat) (d : List Byte) :
    CellStep s ((s.onCell c f).raise ev u a d) c f := (onCell_step s c f).trans (raise_recOnly ..).cellStep

theorem onCell_raiseIf_logged (s : State) (c : Fin 8) (f : Cell → Cell) {b : Bool} (hb : b = true) (ev : Ev) (u a : Nat) (d : List Byte) :
    Logged s ((s.onCell c f).raiseIf b ev u a d) ev u a d := raiseIf_logged_of (x := s.onCell c f) hb rfl rfl ev u a d

theorem onCell_raise_logged (s : State) (c : Fin 8) (f : Cell → Cell) (ev : Ev) (u a : Nat) (d : List Byte) :
    Logged s ((s.onCell c f).raise ev u a d) ev u a d := raise_logged_of s (s.onCell c f) ev u a d rfl rfl

end

/-! ## Answers to calibration commands -/

theorem calAnswer_fin (s : State) (c : Fin 8) (k : Nat) : s.calAnswer c k = s.onCell c fun x => { x with calLast := k } := by
  simp [State.calAnswer, fin8_ne_hk]

theorem calReject_fin (s : State) (c : Fin 8) : s.calReject c = (s.onCell c fun x => { x with calLast := 3 }).raise .CAL_REJECTED c := by
  rw [State.calReject, calAnswer_fin]

theorem calReject_spec (s : State) (c : Fin 8) : (s.calReject c).cells[c] = { s.cells[c] with calLast := 3 } ∧
    Logged s (s.calReject c) .CAL_REJECTED c ∧
    s.calReject c = { s with cells := (s.calReject c).cells, recd := (s.calReject c).recd, cap := (s.calReject c).cap } := by
  rw [calReject_fin]
  have h := onCell_raise_step s c (fun x => { x with calLast := 3 }) .CAL_REJECTED c 0 []
  exact ⟨h.here, onCell_raise_logged s c _ _ _ _ _, h.rest⟩

/-- A rejected command to the HK cell leaves an answer and an event. -/
theorem calReject_hk (s : State) : (s.calReject 8).hk = { s.hk with calLast := 3 } ∧ Logged s (s.calReject 8) .CAL_REJECTED 8 ∧
    s.calReject 8 = { s with hk := (s.calReject 8).hk, recd := (s.calReject 8).recd, cap := (s.calReject 8).cap } := by
  have e : s.calReject 8 = ({ s with hk := { s.hk with calLast := 3 } } : State).raise .CAL_REJECTED 8 := rfl
  refine ⟨?_, ?_, ?_⟩
  · rw [e, State.raise_hk]
  · rw [e]
    exact raise_logged_of s _ _ _ _ _ rfl rfl
  · obtain ⟨r, x, h⟩ := raise_recOnly { s with hk := { s.hk with calLast := 3 } } .CAL_REJECTED 8 0 []
    rw [e, h]

theorem fullCommand_hk (s : State) : s.fullCommand 8 = s.calReject 8 := if_pos (.inl (le_refl 8))
theorem bgCommand_hk (s : State) : s.bgCommand 8 = s.calReject 8 := if_pos (.inl (le_refl 8))
theorem bgAbortCommand_hk (s : State) : s.bgAbortCommand 8 = s.calReject 8 := if_pos (le_refl 8)

/-- A reference in use stays on. -/
theorem refenWrite_busy {s : State} {c : Fin 8} (hr : s.cells[c].refen = true) (hu : s.cellInUse c = true) :
    s.refenWrite c false = s.raise .REF_BUSY c := by simp [State.refenWrite, hr, hu, -Fin.getElem_fin]

/-- Settles O34: a reference in use raises one event, and the HK cell rejects every command as it rejects any. -/
theorem referenceAndTrimRefusals : Obligations.ReferenceAndTrimRefusals := by
  refine ⟨?busy, ?full, ?start, ?abort⟩
  case busy =>
    intro s c hr hu
    exact ⟨s.raise .REF_BUSY c, congrArg Host.Outcome.next (refenWrite_busy hr hu), raise_logged s _ _ _ _, (raise_recOnly ..).eq⟩
  case full => exact fun s => ⟨_, congrArg Host.Outcome.next (fullCommand_hk s), calReject_hk s⟩
  case start => exact fun s => ⟨_, congrArg Host.Outcome.next (bgCommand_hk s), calReject_hk s⟩
  case abort => exact fun s => ⟨_, congrArg Host.Outcome.next (bgAbortCommand_hk s), calReject_hk s⟩

end Sys2Proof.Machine
end

section
/-! SUPPORT. Triggers of sequences (R45, R47, R48): what each trigger does to a sequencer of a control cell, by the state of the cell. -/

namespace Sys2Proof.Machine

/-! ## Times -/

theorem devIn_nat (s : State) (n : Nat) : s.devIn (n : Rat) = (s.dev + BitVec.ofNat 64 n).toNat := by
  rw [State.devIn, ← Int.cast_natCast, Rat.floor_intCast, BitVec.ofInt_natCast]

/-! ## Triggers that are not converted -/

section
variable (s : State) (c : Fin 8)

theorem trgMissed_fin : s.trgMissed c =
    (s.onCell c fun x => { x with trgMiss := bump x.trgMiss, missSeen := true }).raiseIf (!s.cells[c].missSeen) .TRG_MISSED c := by
  simp [State.trgMissed, fin8_ne_hk, -Fin.getElem_fin]

theorem regOverrun_fin : s.regOverrun c =
    (s.onCell c fun x => { x with regOvr := bump x.regOvr, regOvrSeen := true }).raiseIf (!s.cells[c].regOvrSeen) .REG_OVERRUN c := by
  simp [State.regOverrun, fin8_ne_hk, -Fin.getElem_fin]

theorem injMissed_fin : s.injMissed c =
    (s.onCell c fun x => { x with injMiss := bump x.injMiss, injMissSeen := true }).raiseIf (!s.cells[c].injMissSeen) .INJ_MISSED c := by
  simp [State.injMissed, -Fin.getElem_fin]

/-- A trigger that is counted in its cell is an event where it is the first. -/
theorem counted_spec (f : Cell → Cell) (seen : Bool) (ev : Ev) :
    ((s.onCell c f).raiseIf (!seen) ev c).cells[c] = f s.cells[c] ∧ (seen = false → Logged s ((s.onCell c f).raiseIf (!seen) ev c) ev c) ∧
    (s.onCell c f).raiseIf (!seen) ev c = { s with
      cells := ((s.onCell c f).raiseIf (!seen) ev c).cells
      recd := ((s.onCell c f).raiseIf (!seen) ev c).recd, cap := ((s.onCell c f).raiseIf (!seen) ev c).cap } := by
  obtain ⟨hh, _, hr⟩ := onCell_raiseIf_step s c f (!seen) ev c 0 []
  exact ⟨hh, fun h => onCell_raiseIf_logged s c f (by rw [h]; rfl) ev c 0 [], hr⟩

theorem trgMissed_spec : (s.trgMissed c).cells[c].trgMiss = bump s.cells[c].trgMiss ∧ (s.trgMissed c).cells[c].sq = s.cells[c].sq ∧
    (s.cells[c].missSeen = false → Logged s (s.trgMissed c) .TRG_MISSED c) ∧
    s.trgMissed c = { s with cells := (s.trgMissed c).cells, recd := (s.trgMissed c).recd, cap := (s.trgMissed c).cap } := by
  rw [trgMissed_fin]
  obtain ⟨hh, hrest⟩ := counted_spec s c (fun x => { x with trgMiss := bump x.trgMiss, missSeen := true })
    s.cells[c].missSeen .TRG_MISSED
  exact ⟨by rw [hh], by rw [hh], hrest⟩

theorem regOverrun_spec : (s.regOverrun c).cells[c].regOvr = bump s.cells[c].regOvr ∧
    (s.regOverrun c).cells[c].sq = s.cells[c].sq ∧
    (s.cells[c].regOvrSeen = false → Logged s (s.regOverrun c) .REG_OVERRUN c) ∧
    s.regOverrun c = { s with cells := (s.regOverrun c).cells, recd := (s.regOverrun c).recd, cap := (s.regOverrun c).cap } := by
  rw [regOverrun_fin]
  obtain ⟨hh, hrest⟩ := counted_spec s c (fun x => { x with regOvr := bump x.regOvr, regOvrSeen := true })
    s.cells[c].regOvrSeen .REG_OVERRUN
  exact ⟨by rw [hh], by rw [hh], hrest⟩

theorem injMissed_spec : (s.injMissed c).cells[c].injMiss = bump s.cells[c].injMiss ∧ (s.injMissed c).cells[c].sq = s.cells[c].sq ∧
    (s.cells[c].injMissSeen = false → Logged s (s.injMissed c) .INJ_MISSED c) ∧
    s.injMissed c = { s with cells := (s.injMissed c).cells, recd := (s.injMissed c).recd, cap := (s.injMissed c).cap } := by
  rw [injMissed_fin]
  obtain ⟨hh, hrest⟩ := counted_spec s c (fun x => { x with injMiss := bump x.injMiss, injMissSeen := true })
    s.cells[c].injMissSeen .INJ_MISSED
  exact ⟨by rw [hh], by rw [hh], hrest⟩

end

/-! ## Regular triggers -/

section
variable {s : State} {c : Fin 8} {k : Fin 4} {ofs : Rat} (hlen : s.n Fld.CELL_SQ_LEN c k ≠ 0) (hcont : s.continuous c k = false)
include hlen hcont

/-- A cell that cannot convert misses the trigger. -/
theorem regTrigger_missed (h : s.cells[c].sq[k].conv = none ∨ s.cells[c].rdy = false ∨ s.calibrating c = true) :
    s.regTrigger c k ofs = s.trgMissed c := by
  simp [State.regTrigger, hlen, hcont, h, -Fin.getElem_fin]

variable (hconv : s.cells[c].sq[k].conv.isSome = true) (hrdy : s.cells[c].rdy = true) (hcal : s.calibrating c = false)
include hconv hrdy hcal

/-- A sequencer with a regular sequence under way, pending or waiting for credit discards the trigger. -/
theorem regTrigger_overrun (h : s.cells[c].sq[k].reg.active = true ∨ s.cells[c].sq[k].regPend = true ∨ s.seqWaits c k = true) :
    s.regTrigger c k ofs = s.regOverrun c := by
  simp [State.regTrigger, hlen, hcont, Option.isSome_iff_ne_none.1 hconv, hrdy, hcal, h, -Fin.getElem_fin]

/-- An idle sequencer begins its sequence. -/
theorem regTrigger_starts (hreg : s.cells[c].sq[k].reg.active = false) (hpend : s.cells[c].sq[k].regPend = false)
    (hinj : s.cells[c].sq[k].inj.active = false) (hwait : s.seqWaits c k = false) : s.regTrigger c k ofs = s.startReg c k ofs := by
  simp [State.regTrigger, hlen, hcont, Option.isSome_iff_ne_none.1 hconv, hrdy, hcal, hreg, hpend, hinj, hwait, -Fin.getElem_fin]

end

/-- A regular sequence begins with entry 0 held at a device time; an older trigger is no longer pending. -/
def Sequencer.began (q : Sequencer) (hold : Nat) (late : Bool) : Sequencer :=
  { q with reg := SeqRun.begin_ hold late, regPend := false }

section
variable {s : State} {c : Fin 8} {k : Fin 4}

/-- Entry 0 is held 5 ns after the edge where its input has been tracked long enough by then (R42, log 128). -/
theorem startReg_tracked (h : s.cells[c].sq[k].track + s.n Fld.CELL_SQ_E_TACQ c k 0 ≤ s.up + 5) :
    s.startReg c k 0 = s.onSeq c k fun q => q.began (s.dev + 5).toNat false := by
  have hle : ¬(5 : Rat) < (s.cells[c].sq[k].track : Rat) + s.n Fld.CELL_SQ_E_TACQ c k 0 - s.up := by
    have : (s.cells[c].sq[k].track : Rat) + s.n Fld.CELL_SQ_E_TACQ c k 0 ≤ s.up + 5 := by exact_mod_cast h
    linarith
  have h5 : s.devIn (5 : Rat) = (s.dev + 5).toNat := devIn_nat s 5
  simp only [State.startReg, seq_fin, zero_add, maxQ, if_neg hle, decide_eq_false hle, h5, Sequencer.began]

/-- Else it is held late, when the input has been tracked. -/
theorem startReg_late (h : s.up + 5 < s.cells[c].sq[k].track + s.n Fld.CELL_SQ_E_TACQ c k 0) :
    s.startReg c k 0 = s.onSeq c k fun q =>
      q.began (s.dev + BitVec.ofNat 64 (s.cells[c].sq[k].track + s.n Fld.CELL_SQ_E_TACQ c k 0 - s.up)).toNat true := by
  have he : (s.cells[c].sq[k].track : Rat) + s.n Fld.CELL_SQ_E_TACQ c k 0 - s.up =
      ((s.cells[c].sq[k].track + s.n Fld.CELL_SQ_E_TACQ c k 0 - s.up : Nat) : Rat) := by
    rw [Nat.cast_sub (by omega), Nat.cast_add]
  have hlt : (5 : Rat) < ((s.cells[c].sq[k].track + s.n Fld.CELL_SQ_E_TACQ c k 0 - s.up : Nat) : Rat) := by
    exact_mod_cast (by omega : 5 < s.cells[c].sq[k].track + s.n Fld.CELL_SQ_E_TACQ c k 0 - s.up)
  simp only [State.startReg, seq_fin, zero_add, maxQ, he, if_pos hlt, decide_eq_true hlt, devIn_nat, Sequencer.began]

/-- What changes one sequencer of a cell leaves its others, and every other cell. -/
theorem onSeq_spec (s : State) (c : Fin 8) (k : Fin 4) (f : Sequencer → Sequencer) :
    (s.onSeq c k f).cells[c].sq[k] = f s.cells[c].sq[k] ∧ (∀ j : Fin 4, j ≠ k → (s.onSeq c k f).cells[c].sq[j] = s.cells[c].sq[j]) ∧
    (∀ d : Fin 8, d ≠ c → (s.onSeq c k f).cells[d] = s.cells[d]) ∧ s.onSeq c k f = { s with cells := (s.onSeq c k f).cells } := by
  rw [onSeq_fin]
  obtain ⟨hh, ho, _⟩ := onCell_step s c fun x => { x with sq := vmod x.sq k f }
  refine ⟨by rw [hh, vmod_self], fun j hj => by rw [hh, vmod_ne _ _ _ _ hj], ho, rfl⟩

/-- What a regular sequence that begins leaves: its sequencer's injected sequence, the other sequencers and the other cells. -/
theorem startReg_spec (s : State) (c : Fin 8) (k : Fin 4) (ofs : Rat) :
    (s.startReg c k ofs).cells[c].sq[k].inj = s.cells[c].sq[k].inj ∧
    (∀ j : Fin 4, j ≠ k → (s.startReg c k ofs).cells[c].sq[j] = s.cells[c].sq[j]) ∧
    (∀ d : Fin 8, d ≠ c → (s.startReg c k ofs).cells[d] = s.cells[d]) ∧
    s.startReg c k ofs = { s with cells := (s.startReg c k ofs).cells } := by
  obtain ⟨hh, hj, hd, hr⟩ := onSeq_spec s c k fun q =>
    q.began (s.devIn (maxQ (ofs + 5) ((s.seq c k).track + s.n Fld.CELL_SQ_E_TACQ c k 0 - s.up)))
      (decide (ofs + 5 < (s.seq c k).track + s.n Fld.CELL_SQ_E_TACQ c k 0 - s.up))
  exact ⟨(congrArg Sequencer.inj hh :), hj, hd, hr⟩

end

/-! ## Urgent triggers -/

/-- The injected sequence begins; a regular entry under way is converted again from its first sample. -/
def Sequencer.preempted (q : Sequencer) (hold : Nat) : Sequencer :=
  { q with
    inj := SeqRun.begin_ hold false
    reg := if q.reg.active then
        { q.reg with sample := 0, acc := 0, ovr := false, sus := false, rerun := true, late := q.reg.late || q.reg.entry == 0 }
      else q.reg }

section
variable {s : State} {c : Fin 8} {k : Fin 4} (hlen : s.n Fld.CELL_SQ_ILEN c k ≠ 0)
include hlen

theorem urgTrigger_missed (hrdy : s.cells[c].rdy = false) (hcal : s.calibrating c = false) : s.urgTrigger c k = s.trgMissed c := by
  simp [State.urgTrigger, hlen, hrdy, hcal, -Fin.getElem_fin]

theorem urgTrigger_rejected (h : s.calibrating c = true ∨ (s.cells[c].rdy = true ∧ s.cells[c].sq[k].conv = none)) :
    s.urgTrigger c k = s.injMissed c := by
  rcases h with hcal | ⟨hrdy, hconv⟩
  · simp [State.urgTrigger, hlen, hcal, -Fin.getElem_fin]
  · simp [State.urgTrigger, hlen, hrdy, hconv, -Fin.getElem_fin]

/-- An urgent trigger preempts; injected entry 0 is held 20 ns and its acquisition after the edge. -/
theorem urgTrigger_starts (hconv : s.cells[c].sq[k].conv.isSome = true) (hrdy : s.cells[c].rdy = true)
    (hcal : s.calibrating c = false) (hinj : s.cells[c].sq[k].inj.active = false) :
    s.urgTrigger c k = s.onSeq c k fun q =>
      q.preempted (s.dev + BitVec.ofNat 64 (20 + max (s.n Fld.CELL_SQ_I_TACQ c k 0) 100)).toNat := by
  have hh : s.devIn (0 + 20 + acqAfter (s.n Fld.CELL_SQ_I_TACQ c k 0)) =
      (s.dev + BitVec.ofNat 64 (20 + max (s.n Fld.CELL_SQ_I_TACQ c k 0) 100)).toNat := by
    rw [← devIn_nat, acqAfter, zero_add, Nat.cast_add, Nat.cast_ofNat]
  simp only [State.urgTrigger, seq_fin, refReady_fin, hlen, hrdy, hcal, hinj, Option.isNone_eq_false_iff.2 hconv, hh, Sequencer.preempted,
    Nat.not_le.2 c.2, or_self, Bool.not_true, Bool.false_eq_true, if_false]

end

/-- A software urgent trigger acts where UTRIG is SW. -/
theorem swUrgent_sw {s : State} {c : Fin 8} {k : Fin 4} (h : s.n Fld.CELL_SQ_UTRIG c k = 5) : s.swUrgent c k = s.urgTrigger c k :=
  if_pos (.inl h)

theorem swUrgent_cmp {s : State} {c : Fin 8} {k : Fin 4} (h : s.n Fld.CELL_SQ_UTRIG c k = 4) : s.swUrgent c k = s := by
  simp [State.swUrgent, h]

/-- Settles O32: each trigger by the state of its sequencer, and each of the outcomes by what it does to the cell. -/
theorem sequenceTriggers : Obligations.SequenceTriggers := by
  refine ⟨?starts, ?missed, ?overrun, ?urgent, ?ignored, ?software, ?urgMissed, ?urgRejected, ?cleared, ?clearedHk⟩
  case starts =>
    intro s c k hlen hcont hconv hrdy hcal hreg hpend hinj hwait
    have e := regTrigger_starts (ofs := 0) hlen hcont hconv hrdy hcal hreg hpend hinj hwait
    refine ⟨_, congrArg Host.Outcome.next e, ?_, ?_, startReg_spec s c k 0⟩
    · intro h
      rw [startReg_tracked h, (onSeq_spec ..).1]
      rfl
    · intro h
      rw [startReg_late h, (onSeq_spec ..).1]
      rfl
  case missed =>
    intro s c k hlen hcont h
    exact ⟨_, congrArg Host.Outcome.next (regTrigger_missed hlen hcont h), trgMissed_spec s c⟩
  case overrun =>
    intro s c k hlen hcont hconv hrdy hcal h
    exact ⟨_, congrArg Host.Outcome.next (regTrigger_overrun hlen hcont hconv hrdy hcal h), regOverrun_spec s c⟩
  case urgent =>
    intro s c k hlen hconv hrdy hcal hinj
    refine ⟨⟨_, congrArg Host.Outcome.next (urgTrigger_starts hlen hconv hrdy hcal hinj), ?_⟩,
      fun h => congrArg Host.Outcome.next (swUrgent_sw h)⟩
    obtain ⟨hh, _, _, hr⟩ := onSeq_spec s c k fun q =>
      q.preempted (s.dev + BitVec.ofNat 64 (20 + max (s.n Fld.CELL_SQ_I_TACQ c k 0) 100)).toNat
    refine ⟨by rw [hh]; rfl, ?_, ?_, hr⟩
    · rw [hh]
      unfold Sequencer.preempted
      split <;> rfl
    · intro ha
      rw [hh]
      simp [Sequencer.preempted, ha, -Fin.getElem_fin]
  case ignored => exact fun s c k h => congrArg Host.Outcome.next (swUrgent_cmp h)
  case software =>
    intro s c k hlen hconv hrdy hcal hinj hsw
    refine ⟨_, congrArg Host.Outcome.next ((swUrgent_sw hsw).trans (urgTrigger_starts hlen hconv hrdy hcal hinj)), ?_⟩
    obtain ⟨hh, _, ho, hr⟩ := onSeq_spec s c k fun q =>
      q.preempted (s.dev + BitVec.ofNat 64 (20 + max (s.n Fld.CELL_SQ_I_TACQ c k 0) 100)).toNat
    exact ⟨by rw [hh]; rfl, by rw [hh]; rfl, ho, hr⟩
  case urgMissed =>
    intro s c k hlen hrdy hcal
    obtain ⟨hm, hq, _, hr⟩ := trgMissed_spec s c
    exact ⟨_, congrArg Host.Outcome.next (urgTrigger_missed hlen hrdy hcal), hm, hq, hr⟩
  case urgRejected =>
    intro s c k hlen h
    exact ⟨_, congrArg Host.Outcome.next (urgTrigger_rejected hlen h), injMissed_spec s c⟩
  case cleared =>
    intro s c
    have e : s.cellClear c = s.onCell c fun x => { x with
        trgMiss := .zero, injMiss := .zero, regOvr := .zero, injOvr := .zero, regOvrSeen := false, injOvrSeen := false } := by
      simp [State.cellClear, fin8_ne_hk]
    obtain ⟨hh, ho, _⟩ := onCell_step s c fun x => { x with
        trgMiss := .zero, injMiss := .zero, regOvr := .zero, injOvr := .zero, regOvrSeen := false, injOvrSeen := false }
    exact ⟨_, congrArg Host.Outcome.next e, hh, ho, rfl⟩
  case clearedHk => exact fun s => ⟨_, rfl, rfl⟩

end Sys2Proof.Machine
end

section
/-! SUPPORT. What a cell does by itself beside a conversion: items posted to the fabric change nothing else, and continuous sequences that
start change the regular runs of their cell's sequencers at most (R45, R46). -/

namespace Sys2Proof.Machine

/-! ## Items posted -/

/-- Every part of the state but the fabric. -/
def State.noFab (s : State) : State := { s with fab := Fabric.reset }

@[simp] theorem noFab_onFab (s : State) (f : Fabric → Fabric) : (s.onFab f).noFab = s.noFab := rfl
@[simp] theorem noFab_onFlow (s : State) (i : Fin 256) (f : Flow → Flow) : (s.onFlow i f).noFab = s.noFab := rfl

theorem postFrom_noFab (s : State) (src port : Nat) (f : Fin 256) (it : Item) : (s.postFrom src port f it).noFab = s.noFab := by
  unfold State.postFrom
  dsimp only
  split
  · split <;> simp
  · split
    · split <;> simp
    · split
      · exact noFab_onFlow ..
      · simp

theorem postResults_noFab (s : State) (c k : Nat) (ins : List Nat) (b : List Byte) : (s.postResults c k ins b).noFab = s.noFab := by
  unfold State.postResults
  dsimp only
  split
  · refine reads_forFin (fun n s => ?_) s
    split
    · exact postFrom_noFab ..
    · rfl
  · refine reads_forFin (fun f s => ?_) s
    split
    · exact postFrom_noFab ..
    · rfl

/-- What does not read the fabric reads the same after the results are posted. -/
theorem postResults_reads {α : Type} (r : State → α) (hr : ∀ s, r s.noFab = r s) (s : State) (c k : Nat) (ins : List Nat)
    (b : List Byte) : r (s.postResults c k ins b) = r s := by
  rw [← hr (s.postResults c k ins b), ← hr s, postResults_noFab]

theorem postResults_eq (s : State) (c k : Nat) (ins : List Nat) (b : List Byte) :
    s.postResults c k ins b = { s with fab := (s.postResults c k ins b).fab } :=
  postResults_reads (fun t => ({ t with fab := (s.postResults c k ins b).fab } : State)) (fun _ => rfl) s c k ins b

@[simp] theorem postResults_cells (s : State) (c k : Nat) (ins : List Nat) (b : List Byte) : (s.postResults c k ins b).cells = s.cells :=
  postResults_reads State.cells (fun _ => rfl) ..

@[simp] theorem postResults_continuous (s : State) (c k : Nat) (ins : List Nat) (b : List Byte) (d j : Nat) :
    (s.postResults c k ins b).continuous d j = s.continuous d j := postResults_reads (State.continuous · d j) (fun _ => rfl) ..

/-! ## Continuous sequences -/

/-- A sequencer but for its regular run and the trigger pending for it. -/
def Sequencer.noRun (q : Sequencer) : Sequencer := { q with reg := .idle, regPend := false }

/-- A cell with its sequencers so. -/
def Cell.noRuns (x : Cell) : Cell := { x with sq := x.sq.map Sequencer.noRun }

/-- The state with its cells so. -/
def State.noRuns (s : State) : State := { s with cells := s.cells.map Cell.noRuns }

theorem vmod_map {α β : Type} {n : Nat} (v : Vector α n) (i : Fin n) (f : α → α) (g : α → β) (h : ∀ x, g (f x) = g x) :
    (vmod v i f).map g = v.map g := by
  ext j hj
  by_cases e : i.1 = j <;> simp [vmod, e, h]

theorem noRuns_began (s : State) (c : Fin 8) (k : Fin 4) (hold : Nat) (late : Bool) :
    (s.onSeq c k fun q => q.began hold late).noRuns = s.noRuns := by
  rw [onSeq_fin, State.noRuns, State.onCell_cells, vmod_map]
  · rfl
  · intro x
    rw [Cell.noRuns, vmod_map]
    · rfl
    · exact fun _ => rfl

/-- A continuous sequence that is not under way, of a cell that can convert. -/
def State.starts (s : State) (c k : Nat) : Prop :=
  seqExists c k ∧ s.continuous c k ∧ s.n Fld.CELL_SQ_LEN c k ≠ 0 ∧ !(s.seq c k).reg.active ∧ !(s.seq c k).inj.active ∧
    (s.seq c k).conv.isSome ∧ s.refReady c ∧ !s.calibrating c

/-- One pass over the sequencers of a cell: the sequence begins where it is to start. -/
theorem startContinuous_induct (c : Fin 8) {R : State → State → Prop} (hr : ∀ s, R s s) (ht : ∀ s t u, R s t → R t u → R s u)
    (hs : ∀ (s : State) (k : Fin 4), s.starts c k → R s (s.onSeq c k fun q => q.began (s.freshHold c k) false)) (s : State) :
    R s (s.startContinuous c) := by
  unfold State.startContinuous
  have hpass : ∀ l : List Nat, (∀ k ∈ l, k < 4) → ∀ s, R s (l.foldl (fun s k =>
      let q := s.seq c k
      if seqExists c k ∧ s.continuous c k ∧ s.n Fld.CELL_SQ_LEN c k ≠ 0 ∧ !q.reg.active ∧ !q.inj.active ∧ q.conv.isSome
          ∧ s.refReady c ∧ !s.calibrating c then
        s.onSeq c k fun q => { q with reg := SeqRun.begin_ (s.freshHold c k) false, regPend := false }
      else s) s) := by
    intro l
    induction l with
    | nil => exact fun _ s => hr s
    | cons k l ih =>
      intro hk s
      refine ht _ _ _ ?_ (ih (fun j hj => hk j (List.mem_cons_of_mem _ hj)) _)
      dsimp only
      split
      next h => exact hs s ⟨k, hk k List.mem_cons_self⟩ h
      next => exact hr s
  exact hpass _ (fun k hk => List.mem_range.1 hk) s

theorem startContinuous_noRuns (s : State) (c : Fin 8) : (s.startContinuous c).noRuns = s.noRuns :=
  startContinuous_induct c (R := fun s t => t.noRuns = s.noRuns) (fun _ => rfl) (fun _ _ _ h k => k.trans h)
    (fun s k _ => noRuns_began s c k _ _) s

/-- What does not read the regular runs reads the same when continuous sequences start. -/
theorem startContinuous_reads {α : Type} (r : State → α) (hr : ∀ s, r s.noRuns = r s) (s : State) (c : Fin 8) :
    r (s.startContinuous c) = r s := by
  rw [← hr (s.startContinuous c), ← hr s, startContinuous_noRuns]

theorem startContinuous_eq (s : State) (c : Fin 8) : s.startContinuous c = { s with cells := (s.startContinuous c).cells } :=
  startContinuous_reads (fun t => ({ t with cells := (s.startContinuous c).cells } : State)) (fun _ => rfl) s c

theorem startContinuous_others (s : State) (c d : Fin 8) (hd : d ≠ c) : (s.startContinuous c).cells[d] = s.cells[d] :=
  startContinuous_induct c (R := fun s t => t.cells[d] = s.cells[d]) (fun _ => rfl) (fun _ _ _ h k => k.trans h)
    (fun s k _ => (onSeq_spec s c k _).2.2.1 d hd) s

theorem startContinuous_noRun (s : State) (c : Fin 8) (k : Fin 4) :
    (s.startContinuous c).cells[c].sq[k].noRun = s.cells[c].sq[k].noRun :=
  startContinuous_reads (fun s => s.cells[c].sq[k].noRun) (fun s => by simp only [State.noRuns, Cell.noRuns, vmap_get]; rfl) s c

/-- No trigger becomes pending when continuous sequences start. -/
theorem startContinuous_regPend (s : State) (c : Fin 8) (k : Fin 4) (h : s.cells[c].sq[k].regPend = false) :
    (s.startContinuous c).cells[c].sq[k].regPend = false := by
  refine startContinuous_induct c (R := fun s t => s.cells[c].sq[k].regPend = false → t.cells[c].sq[k].regPend = false)
    (fun _ h => h) (fun _ _ _ h k => k ∘ h) (fun s j _ h => ?_) s h
  obtain ⟨hh, ho, _⟩ := onSeq_spec s c j fun q => q.began (s.freshHold c j) false
  by_cases hj : k = j
  · subst hj
    exact (congrArg Sequencer.regPend hh :)
  · rw [ho k hj]
    exact h

theorem noRuns_calibrating (s : State) (c : Fin 8) : s.noRuns.calibrating c = s.calibrating c := by
  rw [calibrating_fin, calibrating_fin, State.noRuns, vmap_get]
  rfl

/-- The sequence of a sequencer is under way, or not continuous, or its cell calibrates: it does not start. -/
def State.stays (s : State) (c : Fin 8) (k : Fin 4) : Prop :=
  s.cells[c].sq[k].reg.active = true ∨ s.continuous c k = false ∨ s.calibrating c = true

theorem stays_not_starts {s : State} {c : Fin 8} {k : Fin 4} (h : s.stays c k) : ¬s.starts c k := by
  rintro ⟨_, hcont, _, hact, _, _, _, hcal⟩
  rw [seq_fin] at hact
  rcases h with h | h | h <;> simp_all [-Fin.getElem_fin]

/-- A sequencer whose sequence does not start is left as it is. -/
theorem startContinuous_stays {s : State} {c : Fin 8} {k : Fin 4} (h : s.stays c k) :
    (s.startContinuous c).cells[c].sq[k] = s.cells[c].sq[k] := by
  refine (startContinuous_induct c (R := fun s t => s.stays c k → t.stays c k ∧ t.cells[c].sq[k] = s.cells[c].sq[k])
    (fun _ h => ⟨h, rfl⟩) (fun s t u hst htu hs => ?_) (fun s j hj hs => ?_) s h).2
  · obtain ⟨ht, hts⟩ := hst hs
    exact ⟨(htu ht).1, (htu ht).2.trans hts⟩
  · have hne : k ≠ j := by
      rintro rfl
      exact stays_not_starts hs hj
    have hq := (onSeq_spec s c j fun q => q.began (s.freshHold c j) false).2.1 k hne
    refine ⟨?_, hq⟩
    rcases hs with h | h | h
    · exact .inl (by rw [hq]; exact h)
    · exact .inr (.inl (by rw [onSeq_fin]; exact h))
    · refine .inr (.inr ?_)
      rw [← noRuns_calibrating, noRuns_began, noRuns_calibrating]
      exact h

end Sys2Proof.Machine
end

section
/-! SUPPORT. Conversions (R40, R45 to R51): a sample of an entry, and the end of a regular or injected sequence. -/

namespace Sys2Proof.Machine

/-! ## A sample -/

/-- A converter bound to one sequencer alone belongs to it. -/
theorem seqOf_bound {s : State} {c : Fin 8} {k : Fin 4} {v : Fin 5} (hv : s.cells[c].sq[k].conv = some v)
    (hu : ∀ j : Fin 4, s.cells[c].sq[j].conv = some v → j = k) : s.seqOf c v = some k.1 := by
  rw [State.seqOf, List.find?_range_eq_some]
  refine ⟨by simp [hv, -Fin.getElem_fin], List.mem_range.2 k.2, fun j hj => ?_⟩
  have hj4 : j < 4 := hj.trans k.2
  have hseq : s.seq c j = s.cells[c].sq[(⟨j, hj4⟩ : Fin 4)] := seq_fin s c ⟨j, hj4⟩
  rw [hseq]
  cases hw : s.cells[c].sq[(⟨j, hj4⟩ : Fin 4)].conv with
  | none => simp
  | some w =>
    have hne : w ≠ v := by
      rintro rfl
      exact absurd (congrArg Fin.val (hu _ hw)) (Nat.ne_of_lt hj)
    simp [Fin.val_ne_of_ne hne]

/-- The only sample of an entry that averages nothing writes its result. -/
theorem sampled_single {r : SeqRun} {e : Fin 16} (he : r.entry = e) (hs : r.sample = 0) (ha : r.acc = 0) (cvt shift : Nat) (code : Int)
    (beyond sus : Bool) :
    (r.sampled cvt 0 shift code beyond sus).entry = e.1 + 1 ∧
    ((r.sampled cvt 0 shift code beyond sus).work[e]).value = code / (2 : Int) ^ shift ∧
    ((r.sampled cvt 0 shift code beyond sus).work[e]).cv = cvt := by
  simp [SeqRun.sampled, hs, ha, he, -Fin.getElem_fin]

/-- The bookkeeping of beyond-range events changes one mark of the cell (R51). -/
theorem noteResult_step (s : State) (c : Fin 8) (i : Nat) (r : AdcRes) : CellStep s (s.noteResult c i r) c fun x =>
    { x with clean := vmodN x.clean i fun _ =>
      if r.ovr then false else if r.suspect then vat s.cells[c].clean true i else true } := by
  simp only [State.noteResult, if_neg (Nat.not_le.2 c.2), onCellN_fin, cell_fin]
  exact onCell_raiseIf_step ..

/-- A code lies beyond the range of an input (R40). -/
def State.beyond (s : State) (c i : Nat) (code : Int) : Bool :=
  decide (code < (s.codeRange c i).1) || decide ((s.codeRange c i).2 < code)

/-- The input of the regular entry under way. -/
def State.regInput (s : State) (c : Fin 8) (k : Fin 4) : Nat := s.n Fld.CELL_SQ_E_IN c k s.cells[c].sq[k].reg.entry

/-- A sample of the regular entry under way, as the sequence takes it up. -/
def State.regSample (s : State) (c : Fin 8) (k : Fin 4) (v : Fin 5) (code : Int) : SeqRun :=
  let r := s.cells[c].sq[k].reg
  let i := s.regInput c k
  r.sampled v (s.n Fld.CELL_SQ_E_AVG c k r.entry) (s.n Fld.CELL_SQ_E_SHIFT c k r.entry)
    (clampI (s.codeRange c i).1 (s.codeRange c i).2 code) (s.beyond c i code)
    (s.cells[c].cv[v].susNext || (railSuspect s.cells[c] i (s.up - 150) || !s.cells[c].calibrated))

/-- A cell that has taken up a sample: the run of its sequencer, and the mark of the converter's next sample (R51). -/
def Cell.sampled (x : Cell) (k : Fin 4) (v : Fin 5) (r : SeqRun) (beyond : Bool) : Cell :=
  { x with
    sq := vmod x.sq k fun q => { q with reg := r }
    cv := vmod x.cv v fun y => { y with susNext := beyond } }

/-- A sample is of the regular sequence where no injected one runs; here it is the last of its entry (R46, R49). -/
theorem sampleDone_regular {s : State} {c : Fin 8} {k : Fin 4} {v : Fin 5} {code : Int} (hv : s.seqOf c v = some k.1)
    (hinj : s.cells[c].sq[k].inj.active = false) (hreg : s.cells[c].sq[k].reg.active = true)
    (hlen : s.cells[c].sq[k].reg.entry < s.n Fld.CELL_SQ_LEN c k) (hoff : s.cells[c].offline = false)
    (hpend : s.cells[c].fullPend = false) (hnext : (s.regSample c k v code).entry ≠ s.cells[c].sq[k].reg.entry) :
    s.sampleDone c v code =
      (s.onCell c fun x => x.sampled k v (s.regSample c k v code) (s.beyond c (s.regInput c k) code)).noteResult c (s.regInput c k)
        (vat (s.regSample c k v code).work .reset s.cells[c].sq[k].reg.entry) := by
  unfold State.regSample State.beyond State.regInput at *
  simp only [State.sampleDone, hv, seq_fin, cell_fin, hinj, hreg, hoff, hpend, vat_fin, vmodN_fin, Bool.false_eq_true, if_false, Bool.not_true,
    Nat.not_le.2 hlen, false_or, and_false, fin8_ne_hk, Bool.and_false, Bool.false_and, onSeq_fin, onCellN_fin, onCell_onCell,
    decide_eq_true c.2, Bool.true_and, hnext]
  rfl

/-- The only sample of a regular entry that averages nothing: the code clamped, shifted and written as the entry's result. -/
theorem regSample_single {s : State} {c : Fin 8} {k : Fin 4} {e : Fin 16} (he : s.cells[c].sq[k].reg.entry = e)
    (havg : s.n Fld.CELL_SQ_E_AVG c k e = 0) (ha : s.cells[c].sq[k].reg.acc = 0) (hs : s.cells[c].sq[k].reg.sample = 0)
    (v : Fin 5) (code : Int) :
    (s.regSample c k v code).entry = e.1 + 1 ∧
    ((s.regSample c k v code).work[e]).value =
      clampI (s.codeRange c (s.n Fld.CELL_SQ_E_IN c k e)).1 (s.codeRange c (s.n Fld.CELL_SQ_E_IN c k e)).2 code /
        (2 : Int) ^ s.n Fld.CELL_SQ_E_SHIFT c k e ∧
    ((s.regSample c k v code).work[e]).cv = v := by
  unfold State.regSample State.regInput
  simp only [he, havg]
  exact sampled_single he hs ha ..

/-- An offline cell takes up no sample. -/
theorem sampleDone_offline {s : State} {c : Fin 8} (h : s.cells[c].offline = true) (v : Nat) (code : Int) :
    s.sampleDone c v code = s := by
  unfold State.sampleDone
  cases s.seqOf c v with
  | none => rfl
  | some k => exact if_pos (.inr (.inr ⟨c.2, by rw [cell_fin]; exact h⟩))

/-! ## The end of a sequence -/

/-- A sequencer whose finished regular sequence of `len` entries has moved its results and its stamp to the registers (R46). -/
def Sequencer.regStored (q : Sequencer) (len now : Nat) (next : SeqRun) : Sequencer :=
  { q with
    res := vgen 16 fun e => if e.1 < len then q.reg.work[e] else q.res[e]
    stamp := q.reg.hold, track := now, reg := next }

/-- The same of an injected sequence (R46, R47). -/
def Sequencer.injStored (q : Sequencer) (len now : Nat) (next : SeqRun) : Sequencer :=
  { q with
    injRes := vgen 4 fun e => if e.1 < len then vat q.inj.work .reset e else q.injRes[e]
    injStamp := q.inj.hold
    inj := .idle, regPend := false, track := now, reg := next }

/-- What the regular sequence of a sequencer does after its end (R45, R56). -/
def State.regNext (s : State) (c k : Nat) : SeqRun :=
  if s.continuous c k && !s.calibrating c then SeqRun.begin_ (s.freshHold c k) false else .idle

section
variable {s : State} {c : Fin 8} {k : Fin 4}

theorem regDone_done (hact : s.cells[c].sq[k].reg.active = true) (hlen : s.n Fld.CELL_SQ_LEN c k ≤ s.cells[c].sq[k].reg.entry) :
    ∃ ins b, s.regDone c k =
      (s.onSeq c k fun q => q.regStored (s.n Fld.CELL_SQ_LEN c k) s.up (s.regNext c k)).postResults c k ins b := by
  have hgo : ¬(!seqExists c k ∨ !(s.seq c k).reg.active ∨ (s.seq c k).reg.entry < s.n Fld.CELL_SQ_LEN c k) := by
    simp [hact, Nat.not_lt.2 hlen, -Fin.getElem_fin]
  unfold State.regDone
  dsimp only
  rw [if_neg hgo]
  exact ⟨_, _, rfl⟩

theorem injDone_done (hact : s.cells[c].sq[k].inj.active = true) (hlen : s.n Fld.CELL_SQ_ILEN c k ≤ s.cells[c].sq[k].inj.entry) :
    ∃ ins b, s.injDone c k =
      ((s.onSeq c k fun q => q.injStored (s.n Fld.CELL_SQ_ILEN c k) s.up (s.regAfter c k)).postResults c k ins b).startContinuous c := by
  have hgo : ¬(8 ≤ c.1 ∨ !(s.seq c k).inj.active ∨ (s.seq c k).inj.entry < s.n Fld.CELL_SQ_ILEN c k) := by
    simp [hact, Nat.not_lt.2 hlen, -Fin.getElem_fin]
  unfold State.injDone
  dsimp only
  rw [if_neg hgo]
  exact ⟨_, _, rfl⟩

end

/-- The end of a regular sequence, sequencer by sequencer. -/
theorem regDone_spec {s : State} {c : Fin 8} {k : Fin 4} (hact : s.cells[c].sq[k].reg.active = true)
    (hlen : s.n Fld.CELL_SQ_LEN c k ≤ s.cells[c].sq[k].reg.entry) :
    (s.regDone c k).cells[c].sq[k] = s.cells[c].sq[k].regStored (s.n Fld.CELL_SQ_LEN c k) s.up (s.regNext c k) ∧
    (∀ j : Fin 4, j ≠ k → (s.regDone c k).cells[c].sq[j] = s.cells[c].sq[j]) ∧
    (∀ d : Fin 8, d ≠ c → (s.regDone c k).cells[d] = s.cells[d]) ∧
    s.regDone c k = { s with cells := (s.regDone c k).cells, fab := (s.regDone c k).fab } := by
  obtain ⟨ins, b, h⟩ := regDone_done hact hlen
  obtain ⟨hk, hj, hd, hr⟩ := onSeq_spec s c k fun q => q.regStored (s.n Fld.CELL_SQ_LEN c k) s.up (s.regNext c k)
  rw [h]
  simp only [postResults_cells]
  refine ⟨hk, hj, hd, ?_⟩
  rw [postResults_eq, hr]

/-- The end of an injected sequence: its sequencer has stored the results, and continuous sequences of the cell may start. -/
theorem injDone_spec {s : State} {c : Fin 8} {k : Fin 4} (hact : s.cells[c].sq[k].inj.active = true)
    (hlen : s.n Fld.CELL_SQ_ILEN c k ≤ s.cells[c].sq[k].inj.entry) :
    ∃ x : State, s.injDone c k = x.startContinuous c ∧
      x.cells[c].sq[k] = s.cells[c].sq[k].injStored (s.n Fld.CELL_SQ_ILEN c k) s.up (s.regAfter c k) ∧
      x.continuous c k = s.continuous c k ∧ x.calibrating c = s.calibrating c ∧ x = { s with cells := x.cells, fab := x.fab } := by
  obtain ⟨ins, b, h⟩ := injDone_done hact hlen
  refine ⟨_, h, ?_, ?_, ?_, ?_⟩
  · rw [postResults_cells]
    exact (onSeq_spec ..).1
  · rw [postResults_continuous, onSeq_fin]
    rfl
  · rw [calibrating_fin, calibrating_fin, postResults_cells, onSeq_fin, (onCell_step ..).here]
  · rw [postResults_eq, (onSeq_spec ..).2.2.2]

section
variable {s : State} {c : Fin 8} {k : Fin 4}

theorem regAfter_calibrating (h : s.calibrating c = true) : s.regAfter c k = .idle := if_pos h

variable (hcal : s.calibrating c = false)
include hcal

theorem regAfter_pending (hp : s.cells[c].sq[k].regPend = true) : s.regAfter c k = SeqRun.begin_ (s.freshHold c k) true := by
  simp [State.regAfter, hcal, hp, -Fin.getElem_fin]

/-- An interrupted sequence goes on where it was; its entry 0 acquires afresh. -/
theorem regAfter_running (hp : s.cells[c].sq[k].regPend = false) (hact : s.cells[c].sq[k].reg.active = true) :
    s.regAfter c k =
      if s.cells[c].sq[k].reg.entry = 0 then { s.cells[c].sq[k].reg with hold := s.freshHold c k } else s.cells[c].sq[k].reg := by
  simp [State.regAfter, hcal, hp, hact, -Fin.getElem_fin]

end

theorem regAfter_idle {s : State} {c : Fin 8} {k : Fin 4} (hp : s.cells[c].sq[k].regPend = false)
    (hidle : s.cells[c].sq[k].reg = .idle) : s.regAfter c k = .idle := by
  simp [State.regAfter, hp, hidle, SeqRun.idle, -Fin.getElem_fin]

/-- Settles O31: a sample and the end of a sequence as one change of the sequencer, which posting the results and starting continuous
sequences leave. -/
theorem conversionResults : Obligations.ConversionResults := by
  refine ⟨?sample, ?offline, ?regular, ?injected⟩
  case sample =>
    rintro s c k v e code hconv huniq hinj hreg he hlen hoff hpend havg hacc hsamp
    obtain ⟨hent, hval, hcv⟩ := regSample_single he havg hacc hsamp v code
    have hdone := sampleDone_regular (code := code) (seqOf_bound hconv huniq) hinj hreg (he ▸ hlen) hoff hpend (by omega)
    have hi : s.regInput c k = s.n Fld.CELL_SQ_E_IN c k e := by rw [State.regInput, he]
    obtain ⟨hh, ho, hr⟩ := (onCell_step s c fun x => x.sampled k v (s.regSample c k v code) (s.beyond c (s.regInput c k) code)).trans
      (noteResult_step _ c (s.regInput c k) (vat (s.regSample c k v code).work .reset s.cells[c].sq[k].reg.entry))
    rw [← hdone] at hh ho hr
    have hq := congrArg (·.sq[k]) hh
    have hy := congrArg (·.cv[v]) hh
    simp only [Function.comp_apply, Cell.sampled, vmod_self] at hq hy
    refine ⟨s.sampleDone c v code, rfl, ?_, ?_, ?_, ?_, ?_, ho, hr⟩
    · rw [hq, hent]
    · rw [hq, hval]
    · rw [hq, hcv]
    · rw [hq]
    · rw [hy, hi]
      rfl
  case offline => exact fun s c k v code hoff => congrArg Host.Outcome.next (sampleDone_offline hoff v code)
  case regular =>
    intro s c k hact hlen
    obtain ⟨hk, hj, hd, hr⟩ := regDone_spec hact hlen
    refine ⟨s.regDone c k, rfl, fun e => ?_, ?_, fun hc => ?_, fun hc hcal => ?_, hj, hd, hr⟩ <;> rw [hk]
    · exact vgen_get ..
    · rfl
    · exact if_neg (by simp [hc])
    · have hn : s.regNext c k = SeqRun.begin_ (s.freshHold c k) false := if_pos (by simp [hc, hcal])
      exact ⟨congrArg SeqRun.active hn, congrArg SeqRun.entry hn⟩
  case injected =>
    intro s c k hact hlen
    obtain ⟨x, hx, hk, hcont, hcal, hr⟩ := injDone_spec hact hlen
    have hfix := startContinuous_noRun x c k
    rw [hk] at hfix
    have hpend := startContinuous_regPend x c k (congrArg Sequencer.regPend hk)
    have hreg (h : x.stays c k) : (x.startContinuous c).cells[c].sq[k].reg = s.regAfter c k := by
      rw [startContinuous_stays h, hk]
      rfl
    have hruns (h : (s.regAfter c k).active = true) : x.stays c k := .inl (by rw [hk]; exact h)
    refine ⟨x.startContinuous c, congrArg Host.Outcome.next hx, fun e => ?_, ?_, ?_, hpend, ?_, ?_, ?_, ?_, ?_⟩
    · refine (congrArg (fun q : Sequencer => q.injRes[e]) hfix).trans ((vgen_get ..).trans ?_)
      rw [vat, dif_pos]
    · exact (congrArg Sequencer.injStamp hfix :)
    · exact (congrArg Sequencer.inj hfix :)
    · intro hp hc
      have hn := regAfter_pending hc hp
      rw [hreg (hruns (by rw [hn]; rfl)), hn]
      exact ⟨rfl, rfl, rfl⟩
    · intro hp hc ha
      have hn := regAfter_running hc hp ha
      have hact : (s.regAfter c k).active = true := by
        rw [hn]
        split <;> exact ha
      rw [hreg (hruns hact)]
      refine ⟨hact, ?_, fun he => by rw [hn, if_neg he]⟩
      rw [hn]
      split <;> rfl
    · intro hp hi hc
      rw [hreg (.inr (.inl (hcont.trans hc)))]
      exact regAfter_idle hp hi
    · intro hc
      rw [hreg (.inr (.inr (hcal.trans hc)))]
      exact regAfter_calibrating hc
    · rw [startContinuous_eq, hr]

end Sys2Proof.Machine
end

section
/-! SUPPORT. The reference of a cell, its full calibration and its background rounds (R53, R56 to R61, R363). -/

namespace Sys2Proof.Machine

/-! ## What reactions and arming leave of the cells -/

section
variable {α : Type} {r : State → α} (hr : ∀ s, r (s.settledFrom State.reset) = r s)
include hr

/-- What does not read the parts of `State.settledFrom` reads the same. -/
theorem settled_reads {s t : State} (h : t.settledFrom = s.settledFrom) : r t = r s := by
  rw [← hr t, ← hr s, h]

theorem settled_silent : Silent r := fun s a b => (hr { s with recd := a, cap := b }).symm.trans (hr s)

theorem causeGone_reads (s : State) (m : Fin 4) (ev : Ev) (u : Nat) : r (s.causeGone m ev u) = r s := by
  refine settled_reads hr ?_
  simp only [State.causeGone, settled_bridgesExec, settled_settle]
  rfl

theorem causeGoneAll_reads (s : State) (ev : Ev) (u : Nat) : r (s.causeGoneAll ev u) = r s := by
  refine reads_forFin (fun m s => ?_) s
  split
  · exact causeGone_reads hr ..
  · rfl

theorem foldl_reactEv_reads (s : State) (l : List (Fin 4)) (ev : Ev) (u : Nat) (f : State → Reaction) :
    r (l.foldl (fun s m => s.reactEv m ev u (f s)) s) = r s :=
  reads_foldl (fun s m => settled_reads hr (settled_react s m _ _)) l s

theorem evalArm_reads (ha : ∀ (s : State) a, r { s with armed := a } = r s) (s : State) : r s.evalArm = r s := by
  unfold State.evalArm State.armNow
  split
  · rfl
  · refine (reads_forFin (fun m t => ?_) _).trans (ha s _)
    split
    · split
      · rfl
      · exact settled_reads hr (settled_dropOwn ..)
    · split
      · exact settled_reads hr (settled_react ..)
      · rfl

end

/-! ## The reference -/

section
variable {s : State} {c : Fin 8}

theorem refenWrite_on (h : s.cells[c].refen = false) :
    s.refenWrite c true = s.onCell c fun x => { x with refen := true, rdy := false, missSeen := false } := by
  simp [State.refenWrite, h, -Fin.getElem_fin]

theorem refenWrite_off (h : s.cells[c].refen = true) (hu : s.cellInUse c = false) :
    s.refenWrite c false = s.onCell c fun x => { x with refen := false, rdy := false } := by
  simp [State.refenWrite, h, hu, -Fin.getElem_fin]

/-- A full calibration is accepted, and a round under way ends (R56, R60). -/
theorem fullAccept_step (s : State) (c : Fin 8) : ∃ f, CellStep s (s.fullAccept c) c f ∧
    (∀ x, (f x).rdy = x.rdy ∧ (f x).fullPend = true) := by
  unfold State.fullAccept State.bgAbort
  simp only [onCellN_fin]
  split
  · exact ⟨_, (onCell_raise_step ..).trans (onCell_step ..), fun x => ⟨rfl, rfl⟩⟩
  · exact ⟨_, onCell_step .., fun x => ⟨rfl, rfl⟩⟩

theorem fullAccept_idle (h : s.cells[c].bgAct = false) : s.fullAccept c =
    s.onCell c fun x => { x with calLast := 1, fullPend := true, missSeen := false, injMissSeen := false } := by
  simp [State.fullAccept, State.bgAbort, h, -Fin.getElem_fin]

theorem refReadyNow_on (hr : s.cells[c].refen = true) (h : s.cells[c].rdy = false) : s.refReadyNow c =
    if 7 ≤ s.rst.stage ∧ s.cells[c].calibrated = false then (s.onCell c fun x => { x with rdy := true }).fullAccept c
    else (s.onCell c fun x => { x with rdy := true }).startContinuous c := by
  simp [State.refReadyNow, hr, h, -Fin.getElem_fin]

/-- A reference that becomes ready starts the full calibration of a cell that never had one (R53, R58). -/
theorem refReadyNow_spec (hr : s.cells[c].refen = true) (h : s.cells[c].rdy = false) : (s.refReadyNow c).cells[c].rdy = true ∧
    (7 ≤ s.rst.stage → s.cells[c].calibrated = false → (s.refReadyNow c).cells[c].fullPend = true) ∧
    (∀ d : Fin 8, d ≠ c → (s.refReadyNow c).cells[d] = s.cells[d]) := by
  have hon := onCell_step s c fun x => { x with rdy := true }
  rw [refReadyNow_on hr h]
  split
  next =>
    obtain ⟨f, hf, hk⟩ := fullAccept_step (s.onCell c fun x => { x with rdy := true }) c
    obtain ⟨hh, ho, _⟩ := hon.trans hf
    refine ⟨?_, fun _ _ => ?_, ho⟩
    · rw [hh]
      exact (hk _).1
    · rw [hh]
      exact (hk _).2
  next hn =>
    refine ⟨?_, fun h7 hc => absurd ⟨h7, hc⟩ hn, fun d hd => (startContinuous_others _ c d hd).trans (hon.others d hd)⟩
    rw [startContinuous_reads (fun s => s.cells[c].rdy) (fun s => by simp only [State.noRuns, vmap_get]; rfl), hon.here]

/-! ## Full calibration -/

theorem fullCommand_accepted (hr : s.cells[c].rdy = true) (hc : s.calibrating c = false) (hu : s.cellInUse c = false) :
    s.fullCommand c = s.fullAccept c := by
  simp [State.fullCommand, hr, hc, hu, -Fin.getElem_fin]

theorem fullCommand_busy (hr : s.cells[c].rdy = true) (hc : s.calibrating c = false) (hu : s.cellInUse c = true) :
    s.fullCommand c = (s.onCell c fun x => { x with calLast := 2 }).raise .CAL_BUSY c := by
  simp [State.fullCommand, hr, hc, hu, calAnswer_fin, -Fin.getElem_fin]

theorem fullCommand_rejected (h : s.cells[c].rdy = false ∨ s.calibrating c = true) : s.fullCommand c = s.calReject c := by
  simp [State.fullCommand, h, -Fin.getElem_fin]

/-- No injected sequence of the cell runs. -/
theorem injected_done_iff : (s.cells[c].sq.toList.all fun q => !q.inj.active) = true ↔
    ∀ k : Fin 4, s.cells[c].sq[k].inj.active = false := by
  simp only [Vector.all_toList, Vector.all_eq_true, Bool.not_eq_true']
  exact ⟨fun h k => h k.1 k.2, fun h i hi => h ⟨i, hi⟩⟩

theorem calDrained_offline (hp : s.cells[c].fullPend = true) (hi : ∀ k : Fin 4, s.cells[c].sq[k].inj.active = false) :
    s.calDrained c = s.onCell c fun x => { x with
      fullPend := false, offline := true
      cv := x.cv.map fun v => { v with role := .calibrating }
      sq := x.sq.map fun q => { q with reg := .idle, inj := .idle, regPend := false } } := by
  rw [← injected_done_iff] at hi
  simp only [State.calDrained, cell_fin, hp, hi, onCellN_fin, and_self, if_true]

theorem calDrained_waits (h : s.cells[c].fullPend = false ∨ ∃ k : Fin 4, s.cells[c].sq[k].inj.active = true) : s.calDrained c = s := by
  refine if_neg ?_
  rw [cell_fin]
  rintro ⟨hp, hi⟩
  rw [injected_done_iff] at hi
  rcases h with h | ⟨k, h⟩
  · exact Bool.false_ne_true (h.symm.trans hp)
  · exact Bool.false_ne_true ((hi k).symm.trans h)

end

/-- What a full calibration leaves in a cell: it is back online, and its converters have their factors. -/
def Cell.calib (x : Cell) : Bool × Bool × Vector Converter 5 := (x.offline, x.calibrated, x.cv)

/-- Binding the converters anew changes their roles alone. -/
theorem rebind_cv (x : Cell) (v : Fin 5) : ∃ r, x.rebind.cv[v] = { x.cv[v] with role := r } := ⟨_, vgen_get ..⟩

/-- The converters of a cell with the factors that a full calibration found, bound anew. -/
def Cell.calDone (x : Cell) (t : Nat) (offs : Vector Int 5) (gains : Vector Rat 5) (mis : Vector (Vector Int 6) 5) : Cell :=
  ({ x with
    offline := false, calibrated := true
    cv := vgen 5 fun v => x.cv[v].with_ t offs[v] gains[v] mis[v] } : Cell).rebind.tracking t

theorem calDone_cv (x : Cell) (t : Nat) (offs : Vector Int 5) (gains : Vector Rat 5) (mis : Vector (Vector Int 6) 5) (v : Fin 5) :
    ∃ r, (x.calDone t offs gains mis).cv[v] = { x.cv[v].with_ t offs[v] gains[v] mis[v] with role := r } := by
  obtain ⟨r, hr⟩ := rebind_cv { x with
    offline := false, calibrated := true
    cv := vgen 5 fun v => x.cv[v].with_ t offs[v] gains[v] mis[v] } v
  exact ⟨r, by rw [vgen_get] at hr; exact hr⟩

/-- What follows a full calibration, its events, reactions, sequences and the conditions of arming, leaves the calibration of the cell and
the commands that wait. -/
theorem fullDone_reads {s : State} {c : Fin 8} (ho : s.cells[c].offline = true) (offs : Vector Int 5) (gains : Vector Rat 5)
    (mis : Vector (Vector Int 6) 5) {α : Type} (r : State → α) (hr : ∀ s, r (s.settledFrom State.reset) = r s)
    (ha : ∀ (s : State) a, r { s with armed := a } = r s) (hn : ∀ s, r s.noRuns = r s)
    (hm : ∀ s : State, r (s.onCell c fun x => { x with missSeen := false, injMissSeen := false }) = r s) :
    r (s.fullDone c offs gains mis) = r (s.onCell c fun x => x.calDone s.up offs gains mis) := by
  have hsil := settled_silent hr
  have hgo : ¬(!(s.cell c).offline ∨ 8 ≤ c.1) := by simp [ho, -Fin.getElem_fin]
  unfold State.fullDone
  rw [if_neg hgo]
  simp only [onCellN_fin]
  rw [evalArm_reads hr ha, startContinuous_reads r hn, reads_raise hsil]
  split
  · rw [foldl_reactEv_reads hr, reads_raise hsil, hm]
    exact reads_foldl (fun s v => reads_raise hsil ..) _ _
  · rw [causeGoneAll_reads hr]
    exact reads_foldl (fun s v => reads_raise hsil ..) _ _

/-! ## Background rounds -/

section
variable {s : State} {c : Fin 8}

theorem bgStart_fin : s.bgStart c = s.onCell c fun x => { x.bgNext with bgAct := true, bgStep := 0, bgTemp := some s.die.code } :=
  onCellN_fin ..

theorem bgCommand_accepted (h : s.bgCan c = true) : s.bgCommand c = s.onCell c fun x =>
    { x.bgNext with calLast := 1, bgAct := true, bgStep := 0, bgTemp := some s.die.code } := by
  simp only [State.bgCommand, h, Nat.not_le.2 c.2, Bool.not_true, Bool.false_eq_true, or_self, if_false, calAnswer_fin, bgStart_fin,
    onCell_onCell]
  rfl

theorem bgCommand_rejected (h : s.bgCan c = false) : s.bgCommand c = s.calReject c := by simp [State.bgCommand, h]

theorem bgAbortCommand_running (h : s.cells[c].bgAct = true) : s.bgAbortCommand c =
    (s.onCell c fun x => { x with
      calLast := 1, bgAct := false
      cv := x.cv.map fun v => if v.role = .calibrating then { v with role := .spare } else v }).raise .BGCAL_ABORTED c := by
  have hact : ((s.onCell c fun x => { x with calLast := 1 }).cells[c]).bgAct = true := by rw [(onCell_step ..).here, h]
  simp only [State.bgAbortCommand, Nat.not_le.2 c.2, if_false, calAnswer_fin, State.bgAbort, cell_fin, hact, if_true, onCellN_fin, onCell_onCell]
  rfl

theorem bgAbortCommand_none (h : s.cells[c].bgAct = false) : s.bgAbortCommand c = s.onCell c fun x => { x with calLast := 1 } := by
  have hact : ((s.onCell c fun x => { x with calLast := 1 }).cells[c]).bgAct = false := by rw [(onCell_step ..).here, h]
  simp only [State.bgAbortCommand, Nat.not_le.2 c.2, if_false, calAnswer_fin, State.bgAbort, cell_fin, hact, Bool.false_eq_true]

theorem bgMark_fin : s.bgMark c = s.onCell c fun x => { x with bgLast := some (min (s.bgDueAt c) s.up) } := by
  simp only [State.bgMark, onCellN_fin, Nat.min_def]

theorem bgSchedule_idle (h : s.bgWants c = false) : s.bgSchedule c = s := by simp [State.bgSchedule, h]

section
variable (hs : s.rst.stage = 9) (hm : s.rst.mgmtRun = true) (hw : s.bgWants c = true)
include hs hm hw

theorem bgSchedule_skips (hc : s.bgCan c = false) :
    s.bgSchedule c = s.onCell c fun x => { x with bgLast := some (min (s.bgDueAt c) s.up), bgTemp := none } := by
  simp only [State.bgSchedule, hs, hm, hw, hc, Nat.not_le.2 c.2, bgMark_fin, onCellN_fin, onCell_onCell, Bool.not_true, Bool.not_false,
    Bool.false_eq_true, lt_irrefl, or_self, if_false, if_true]
  rfl

theorem bgSchedule_starts (hc : s.bgCan c = true) (hn : ∀ d : Fin 8, s.cells[d].bgNow = false)
    (hl : ∀ d : Fin 8, d.1 < c.1 → (s.bgWants d && s.bgCan d) = false) :
    s.bgSchedule c = s.onCell c fun x => { x.bgNext with
      bgLast := some (min (s.bgDueAt c) s.up), bgAct := true, bgStep := 0, bgTemp := some s.die.code, bgNow := true } := by
  have hnow : (List.range 8).any (fun j => (s.cell j).bgNow) = false := by
    rw [List.any_eq_false]
    intro j hj
    rw [cell_fin s ⟨j, List.mem_range.1 hj⟩, hn]
    exact Bool.false_ne_true
  have hlow : (List.range c.1).any (fun j => s.bgWants j && s.bgCan j) = false := by
    rw [List.any_eq_false]
    intro j hj
    rw [hl ⟨j, (List.mem_range.1 hj).trans c.2⟩ (List.mem_range.1 hj)]
    exact Bool.false_ne_true
  simp only [State.bgSchedule, hs, hm, hw, hc, hnow, hlow, Nat.not_le.2 c.2, bgMark_fin, bgStart_fin, onCellN_fin, onCell_onCell,
    Bool.not_true, Bool.false_eq_true, lt_irrefl, or_self, if_false]
  rfl

end

/-! ## The rotation of a round -/

/-- The only index that meets a test is the one found. -/
theorem find_finRange_only {n : Nat} {p : Fin n → Bool} {v : Fin n} (hv : p v = true) (hu : ∀ w, w ≠ v → p w = false) :
    (List.finRange n).find? p = some v := by
  cases hf : (List.finRange n).find? p with
  | none => exact absurd hv (List.find?_eq_none.1 hf v (List.mem_finRange v))
  | some w =>
    have hw := List.find?_some hf
    by_contra hne
    have hwv : w ≠ v := fun h => hne (by rw [h])
    exact Bool.false_ne_true ((hu w hwv).symm.trans hw)

/-- The spare with new factors; the fifth ends the round (R59, R61). -/
def Cell.spareDone (x : Cell) (v : Fin 5) (y : Converter) : Cell :=
  let z := { x with cv := x.cv.set v { y with role := .spare } }
  if 5 ≤ x.bgStep + 1 then
    { z with bgAct := false, bgStep := 5
             bgRounds := if x.bgRounds.n + 1 < 32767 then ⟨x.bgRounds.n + 1, x.bgRounds.sat⟩ else ⟨32767, true⟩ }
  else { z with bgStep := x.bgStep + 1 }

theorem cell_spareDone_spec (x : Cell) (v : Fin 5) (y : Converter) : (x.spareDone v y).cv[v] = { y with role := .spare } ∧
    (x.spareDone v y).bgStep = min 5 (x.bgStep + 1) ∧ (x.spareDone v y).bgAct = (x.bgAct && decide (x.bgStep < 4)) := by
  unfold Cell.spareDone
  dsimp only
  split
  next h => exact ⟨vset_self .., (min_eq_left h).symm, by simp [Nat.le_of_succ_le_succ h]⟩
  next h => exact ⟨vset_self .., (min_eq_right (show x.bgStep + 1 ≤ 5 by omega)).symm, by simp [show x.bgStep < 4 by omega]⟩

section
variable {off : Int} {gain : Rat} {mis : Vector Int 6} {v : Fin 5} (hact : s.cells[c].bgAct = true)
  (hv : s.cells[c].cv[v].role = .calibrating) (hu : ∀ w : Fin 5, w ≠ v → s.cells[c].cv[w].role ≠ .calibrating)
include hact hv hu

theorem spareDone_calibrated : s.spareDone c off gain mis =
    if !factorsOk off gain mis then
      (s.onCell c fun x => { x with
        cv := x.cv.set v { s.cells[c].cv[v].with_ s.up off gain mis with role := .failed }, bgAct := false }).raise .CAL_FAIL c v
    else s.onCell c fun x => x.spareDone v (s.cells[c].cv[v].with_ s.up off gain mis) := by
  have hfind : ((List.finRange 5).find? fun v => s.cells[c].cv[v].role == .calibrating) = some v :=
    find_finRange_only (by simp [hv, -Fin.getElem_fin]) fun w hw => by simp [hu w hw, -Fin.getElem_fin]
  simp only [State.spareDone, cell_fin, hact, Nat.not_le.2 c.2, Bool.not_true, Bool.false_eq_true, or_self, if_false, hfind, onCellN_fin]
  rfl

end

/-- The spare takes over a sequencer, and the converter it relieves is calibrated next (R59). -/
def Cell.handedOver (x : Cell) (sp v : Fin 5) (k : Fin 4) (now : Nat) : Cell :=
  { x with
    cv := (x.cv.set sp { x.cv[sp] with role := .bound k }).set v { x.cv[v] with role := .calibrating }
    sq := x.sq.set k { x.sq[k] with conv := some sp, track := now } }

theorem handover_between {sp v : Fin 5} {k : Fin 4} (hact : s.cells[c].bgAct = true) (hstep : s.cells[c].bgStep ≠ 0)
    (hsp : s.cells[c].spare = some sp) (hold : s.cells[c].oldest = some (v, k)) (hb : s.cells[c].sq[k].between = true) :
    s.handover c = s.onCell c fun x => x.handedOver sp v k s.up := by
  simp only [State.handover, cell_fin, hact, hstep, hsp, hold, hb, Nat.not_le.2 c.2, Bool.not_true, Bool.false_eq_true, or_self, if_false,
    onCellN_fin]
  rfl

/-- Inside an entry's burst no converter is handed over. -/
theorem handover_burst {v : Fin 5} {k : Fin 4} (hold : s.cells[c].oldest = some (v, k)) (hb : s.cells[c].sq[k].between = false) :
    s.handover c = s := by
  unfold State.handover
  simp only [cell_fin, hold]
  split
  · rfl
  · cases s.cells[c].spare with
    | none => rfl
    | some sp => exact if_pos (by rw [hb]; rfl)

end

/-- Settles O33: each command by the state of its cell, and each change of the cell by what it leaves in it. -/
theorem referencesAndCalibration : Obligations.ReferencesAndCalibration := by
  refine ⟨?on, ?off, ?ready, ?full, ?busy, ?rejected, ?drained, ?waits, ?done, ?start, ?noStart, ?abort, ?noAbort, ?due, ?notDue, ?skipped,
    ?spare, ?spareFails, ?handover, ?burst⟩
  case on => exact fun s c h => ⟨_, congrArg Host.Outcome.next (refenWrite_on h), (onCell_step ..).here, rfl⟩
  case off => exact fun s c h hu => ⟨_, congrArg Host.Outcome.next (refenWrite_off h hu), (onCell_step ..).here, rfl⟩
  case ready => exact fun s c hr h => ⟨s.refReadyNow c, rfl, refReadyNow_spec hr h⟩
  case full =>
    intro s c hr hc hu hb
    exact ⟨_, congrArg Host.Outcome.next ((fullCommand_accepted hr hc hu).trans (fullAccept_idle hb)), (onCell_step ..).here, rfl⟩
  case busy =>
    intro s c hr hc hu
    obtain ⟨hh, _, hrest⟩ := onCell_raise_step s c (fun x => { x with calLast := 2 }) .CAL_BUSY c 0 []
    exact ⟨_, congrArg Host.Outcome.next (fullCommand_busy hr hc hu), hh, onCell_raise_logged s c _ _ _ _ _, hrest⟩
  case rejected => exact fun s c h => ⟨_, congrArg Host.Outcome.next (fullCommand_rejected h), calReject_spec s c⟩
  case drained =>
    intro s c hp hi
    refine ⟨_, congrArg Host.Outcome.next (calDrained_offline hp hi), ?_, ?_, fun v => ?_, fun k => ?_, rfl⟩ <;>
      rw [(onCell_step ..).here]
    · rw [vmap_get]
    · rw [vmap_get]
      exact ⟨rfl, rfl, rfl⟩
  case waits => exact fun s c h => congrArg Host.Outcome.next (calDrained_waits h)
  case done =>
    intro s c offs gains mis ho
    have hcell : (s.fullDone c offs gains mis).cells[c].calib = (s.cells[c].calDone s.up offs gains mis).calib := by
      rw [fullDone_reads ho offs gains mis (fun s => s.cells[c].calib) (fun _ => rfl) (fun _ _ => rfl)
        (fun s => by simp only [State.noRuns, vmap_get]; rfl) (fun s => by rw [(onCell_step ..).here]; rfl), (onCell_step ..).here]
    have hpend : (s.fullDone c offs gains mis).pending = s.pending :=
      fullDone_reads ho offs gains mis State.pending (fun _ => rfl) (fun _ _ => rfl) (fun _ => rfl) (fun _ => rfl)
    refine ⟨s.fullDone c offs gains mis, rfl, (congrArg Prod.fst hcell :), (congrArg (·.2.1) hcell :), fun v => ?_, hpend⟩
    obtain ⟨r, hv⟩ := calDone_cv s.cells[c] s.up offs gains mis v
    have hcv := (congrArg (fun p : Bool × Bool × Vector Converter 5 => p.2.2[v]) hcell).trans hv
    exact ⟨(congrArg Converter.ofs hcv :), (congrArg Converter.fail hcv :), (congrArg Converter.calAt hcv :)⟩
  case start =>
    intro s c h
    refine ⟨_, congrArg Host.Outcome.next (bgCommand_accepted h), ?_, ?_, ?_, ?_, fun v => ?_, rfl⟩ <;> rw [(onCell_step ..).here]
    simp only [Cell.bgNext, vmap_get]
    split <;> rfl
  case noStart => exact fun s c h => ⟨_, congrArg Host.Outcome.next (bgCommand_rejected h), calReject_spec s c⟩
  case abort =>
    intro s c h
    obtain ⟨hh, _, hrest⟩ := onCell_raise_step s c (fun x => { x with
      calLast := 1, bgAct := false
      cv := x.cv.map fun v => if v.role = .calibrating then { v with role := .spare } else v }) .BGCAL_ABORTED c 0 []
    refine ⟨_, congrArg Host.Outcome.next (bgAbortCommand_running h), ?_, ?_, fun v => ?_, onCell_raise_logged s c _ _ _ _ _, hrest⟩
    · rw [hh]
    · rw [hh]
    · rw [hh, vmap_get]
      split <;> rfl
  case noAbort => exact fun s c h => ⟨_, congrArg Host.Outcome.next (bgAbortCommand_none h), (onCell_step ..).here, rfl⟩
  case due =>
    intro s c hs hm hw hc hn hl
    refine ⟨_, congrArg Host.Outcome.next (bgSchedule_starts hs hm hw hc hn hl), ?_, ?_, ?_, ?_, ?_, ?_, (onCell_step ..).others, rfl⟩ <;>
      rw [(onCell_step ..).here]
    rfl
  case notDue => exact fun s c h => congrArg Host.Outcome.next (bgSchedule_idle h)
  case skipped =>
    exact fun s c hs hm hw hc => ⟨_, congrArg Host.Outcome.next (bgSchedule_skips hs hm hw hc), (onCell_step ..).here, rfl⟩
  case spare =>
    intro s c v off gain mis hact hv hu hok
    have e := (spareDone_calibrated hact hv hu).trans (if_neg (by rw [hok]; exact Bool.false_ne_true))
    obtain ⟨hcv, hstep, hbg⟩ := cell_spareDone_spec s.cells[c] v (s.cells[c].cv[v].with_ s.up off gain mis)
    refine ⟨_, congrArg Host.Outcome.next e, ?_, ?_, ?_, ?_, ?_, ?_, rfl⟩ <;> rw [(onCell_step ..).here]
    · rw [hcv]
    · rw [hcv]
      rfl
    · rw [hcv]
      rfl
    · rw [hcv]
      rfl
    · exact hstep
    · rw [hbg, hact, Bool.true_and, decide_eq_false_iff_not, Nat.not_lt]
  case spareFails =>
    intro s c v off gain mis hact hv hu hok
    have e := (spareDone_calibrated hact hv hu).trans (if_pos (by rw [hok]; rfl))
    obtain ⟨hh, _, hrest⟩ := onCell_raise_step s c (fun x => { x with
      cv := x.cv.set v { s.cells[c].cv[v].with_ s.up off gain mis with role := .failed }, bgAct := false }) .CAL_FAIL c v []
    refine ⟨_, congrArg Host.Outcome.next e, ?_, ?_, onCell_raise_logged s c _ _ _ _ _, hrest⟩
    · rw [hh, vset_self]
    · rw [hh]
  case handover =>
    intro s c sp v k hact hstep hsp hold _ hne hb
    refine ⟨_, congrArg Host.Outcome.next (handover_between hact hstep hsp hold hb), ?_, ?_, ?_, fun j hj => ?_, rfl⟩ <;>
      rw [(onCell_step ..).here, Cell.handedOver]
    · rw [vset_ne _ _ _ _ hne, vset_self]
    · rw [vset_self]
    · rw [vset_self]
    · rw [vset_ne _ _ _ _ hj]
  case burst => exact fun s c v k hold hb => congrArg Host.Outcome.next (handover_burst hold hb)

end Sys2Proof.Machine
end

section
/-! SUPPORT. What is on record stays on record while a reaction is executed (R14 to R16, R20). -/

namespace Sys2Proof.Machine

theorem KeepsAll.refl (s : State) : KeepsAll s s := fun _ h => h

theorem KeepsAll.trans {s t u : State} (h : KeepsAll s t) (k : KeepsAll t u) : KeepsAll s u := fun e he => k e (h e he)

theorem KeepsAll.of_recd {s t : State} (h : t.recd = s.recd) : KeepsAll s t := by
  intro e he
  unfold State.keeps at he ⊢
  rwa [h]

/-- The same from a state with the same recorder. -/
theorem KeepsAll.fromRecd {s x t : State} (h : KeepsAll x t) (hr : x.recd = s.recd) : KeepsAll s t := (KeepsAll.of_recd hr).trans h

/-- The same to a state with the same recorder. -/
theorem KeepsAll.toRecd {s x t : State} (h : KeepsAll s x) (hr : t.recd = x.recd) : KeepsAll s t := h.trans (.of_recd hr)

/-- An event on record stays there while nothing is taken off the record. -/
theorem Logged.keeps {s t u : State} {ev : Ev} {n a : Nat} {d : List Byte} (h : Logged s t ev n a d) (k : KeepsAll t u) :
    Logged s u ev n a d := fun hl => k _ (h hl)

theorem KeepsAll.raise {s x : State} {ev : Ev} {u a : Nat} {d : List Byte} (h : x.recd = s.recd) : KeepsAll s (x.raise ev u a d) :=
  (KeepsAll.of_recd h).trans (raise_keepsAll x ev u a d)

theorem KeepsAll.raiseIf {s x : State} {b : Bool} {ev : Ev} {u a : Nat} {d : List Byte} (h : x.recd = s.recd) :
    KeepsAll s (x.raiseIf b ev u a d) := by
  unfold State.raiseIf
  split
  · exact .raise h
  · exact .of_recd h

theorem keeps_foldl {γ : Type} {f : State → γ → State} (hf : ∀ s x, KeepsAll s (f s x)) (l : List γ) (s : State) :
    KeepsAll s (l.foldl f s) := foldl_keeps KeepsAll.refl (fun _ _ _ => KeepsAll.trans) f hf l s

theorem keeps_forFin {n : Nat} {f : Fin n → State → State} (hf : ∀ i s, KeepsAll s (f i s)) (s : State) : KeepsAll s (forFin n f s) :=
  keeps_foldl (fun s i => hf i s) _ s

section
variable {s : State} {m : Fin 4}

/-! ## Axes and shadows -/

theorem keeps_axisImmediate {k : Fin 8} {b : Bool} : KeepsAll s (s.axisImmediate k b) := by
  have h : KeepsAll s (s.axisUncertain k) := .raise rfl
  exact h.toRecd (State.onAxis_recd ..)

theorem keeps_stopLinkedAxes : KeepsAll s (s.stopLinkedAxes m) := by
  refine keeps_forFin (fun k s => ?_) s
  split
  · exact keeps_axisImmediate
  · exact .of_recd rfl

theorem keeps_endRender : KeepsAll s (s.endRender m) := by
  unfold State.endRender
  split
  · exact .raise rfl
  · exact .of_recd rfl

theorem keeps_abortShadowsOf : KeepsAll s (s.abortShadowsOf m) := by
  refine keeps_forFin (fun i s => ?_) s
  split
  case h_4 => exact .of_recd rfl
  all_goals
    split
    · exact .raise rfl
    · exact .of_recd rfl

/-! ## Stops -/

theorem keeps_startToIdle : KeepsAll s (s.startToIdle m) := by
  unfold State.startToIdle
  dsimp only
  split
  case h_4 => exact .raise rfl
  all_goals exact .of_recd rfl

theorem keeps_enterStop {e : EMode} {b : StopBy} : KeepsAll s (s.enterStop m e b) := keeps_endRender.trans (.of_recd rfl)

theorem keeps_requestStop {e : EMode} {b : StopBy} : KeepsAll s (s.requestStop m e b) := by
  unfold State.requestStop
  dsimp only
  split
  · exact keeps_enterStop
  · split <;> exact .of_recd rfl

/-! ## Bridges -/

theorem keeps_offBridge {n : Fin 8} {f : Bridge → Bridge} : KeepsAll s (s.offBridge n f) := by
  unfold State.offBridge
  split <;> exact .of_recd rfl

theorem keeps_bridgeAsc {n : Fin 8} : KeepsAll s (s.bridgeAsc n) := by
  unfold State.bridgeAsc
  split
  · refine KeepsAll.trans (t := (s.onBr n _).bridgeTrip n) ?_ (.raise rfl)
    exact keeps_offBridge.fromRecd (State.onBr_recd ..)
  · exact keeps_offBridge.trans (.raise (State.onBr_recd ..))

theorem keeps_bridgeExec {n : Fin 8} : KeepsAll s (s.bridgeExec n) := by
  unfold State.bridgeExec
  split
  · split
    · exact .of_recd rfl
    · exact keeps_offBridge
  · split
    · exact keeps_offBridge
    · split
      · exact keeps_offBridge
      · split
        · exact .of_recd rfl
        · exact keeps_bridgeAsc
  · exact keeps_offBridge
  · dsimp only
    split
    · exact keeps_offBridge.trans (.of_recd rfl)
    · exact .of_recd rfl

theorem keeps_bridgesDo {l : List (Fin 8)} : KeepsAll s (l.foldl (fun s n => s.bridgeExec n) s) := keeps_foldl (fun _ _ => keeps_bridgeExec) l s

/-! ## A reaction executed -/

theorem keeps_drumOff : KeepsAll s (s.drumOff m) := by
  have h : KeepsAll s ((s.brakeToClosed m).endRender m) := keeps_endRender.fromRecd (State.onBrake_recd ..)
  unfold State.drumOff
  exact h.trans (.raiseIf (by simp [State.dropHeave]))

theorem keeps_gatesOff {c : OutCause} : KeepsAll s (s.gatesOff m c) := by
  have hstart : KeepsAll s (((s.startToIdle m).stopLinkedAxes m).memberOut m c) :=
    (keeps_startToIdle.trans keeps_stopLinkedAxes).toRecd (State.onMbr_recd ..)
  have hshadow := hstart.trans (keeps_abortShadowsOf (m := m))
  unfold State.gatesOff
  dsimp only
  split
  · exact hshadow.toRecd (State.onLoop_recd ..)
  · exact (hshadow.toRecd (State.onLoop_recd ..)).trans keeps_drumOff

theorem keeps_execReact {r : Reaction} {c : OutCause} : KeepsAll s (s.execReact m r c) := by
  have hend : KeepsAll s (((s.abortShadowsOf m).endRender m).dropHeave m) :=
    (keeps_abortShadowsOf.trans keeps_endRender).toRecd (State.onHeave_recd ..)
  unfold State.execReact
  dsimp only
  split
  case h_1 | h_2 => exact keeps_bridgesDo
  case h_3 | h_4 =>
    split
    · exact (hend.toRecd (State.onMbr_recd ..)).trans keeps_bridgesDo
    · refine KeepsAll.trans ?_ keeps_bridgesDo
      split
      · exact (hend.trans keeps_requestStop).toRecd (State.onRing_recd ..)
      · exact hend.trans keeps_requestStop
  case h_5 => exact keeps_gatesOff.trans keeps_bridgesDo

theorem keeps_react {r : React} {c : OutCause} : KeepsAll s (s.react m r c) := by
  unfold State.react
  dsimp only
  split
  · exact .of_recd rfl
  · split
    · exact keeps_execReact.fromRecd rfl
    · exact .of_recd rfl

end

end Sys2Proof.Machine
end

section
/-! SUPPORT. The housekeeping scan (R52, R55, R63, R244 to R247, R318): what a result is used for, the shutdown of the die and the hold after
it, and the rail clamps of the control cells. -/

namespace Sys2Proof.Machine

/-! ## A result of the scan -/

/-- The word of a result of the scan (R51, R63). -/
def State.hkRes (s : State) (code : Int) : AdcRes :=
  { AdcRes.reset with
    fresh := true, ovr := decide (code < 0) || decide (16383 < code), suspect := s.hk.scanSus, value := clampI 0 16383 code }

/-- The result stored, with the mark of the next one, before it is used. -/
def State.hkStore (s : State) (ch : Fin 32) (code : Int) : State :=
  ({ s with hk := { s.hk with
    res := s.hk.res.set ch (s.hkRes code), scanSus := (s.hkRes code).ovr, seen := s.hk.seen.set ch true } }).noteResult 8 ch (s.hkRes code)

theorem hkResult_unused {s : State} {ch : Fin 32} (h : ch.1 < 8 ∨ ch.1 = 31) (code : Int) : s.hkResult ch code = s := if_pos h

theorem hkResult_used {s : State} {ch : Fin 32} (h : 8 ≤ ch.1) (h' : ch.1 ≠ 31) (code : Int) : s.hkResult ch code =
    if 9 ≤ ch.1 ∧ ch.1 ≤ 16 then (s.hkStore ch code).refCheck (ch.1 - 9) (clampI 0 16383 code)
    else if 24 ≤ ch.1 ∧ ch.1 ≤ 29 then (s.hkStore ch code).dieCheck ch (clampI 0 16383 code)
    else (s.hkStore ch code).railCheck ch (clampI 0 16383 code) := if_neg (by omega)

theorem noteResult_hk (s : State) (i : Nat) (r : AdcRes) : s.noteResult 8 i r =
    ({ s with hk := { s.hk with clean := vmodN s.hk.clean i fun _ =>
      if r.ovr then false else if r.suspect then vat s.hk.clean true i else true } } : State).raiseIf (r.ovr && vat s.hk.clean true i)
        .ANA_OVR (96 + i) := by
  simp [State.noteResult]

/-- What the use of a result leaves: the results, which channels have one, the mark of the next, and the commands that wait. -/
def State.scan (s : State) : Vector AdcRes 32 × Vector Bool 32 × Bool × List Instr := (s.hk.res, s.hk.seen, s.hk.scanSus, s.pending)

theorem scan_settled (s : State) : (s.settledFrom State.reset).scan = s.scan := rfl

theorem hkStore_scan (s : State) (ch : Fin 32) (code : Int) : (s.hkStore ch code).scan =
    (s.hk.res.set ch (s.hkRes code), s.hk.seen.set ch true, (s.hkRes code).ovr, s.pending) := by
  rw [State.hkStore, noteResult_hk, reads_raiseIf (settled_silent scan_settled)]
  rfl

/-- A result within the range of the converter is stored without an event. -/
theorem hkStore_quiet {s : State} {ch : Fin 32} {code : Int} (h : (s.hkRes code).ovr = false) :
    ∃ k, s.hkStore ch code = { s with hk := k } := by
  rw [State.hkStore, noteResult_hk, h]
  exact ⟨_, rfl⟩

/-! ## The checks leave the scan -/

section
variable {α : Type} {r : State → α} (hr : ∀ s, r (s.settledFrom State.reset) = r s)
include hr

theorem refCheck_reads (hc : ∀ (s : State) c f, r (s.onCellN c f) = r s) (s : State) (c : Nat) (code : Int) :
    r (s.refCheck c code) = r s := by
  unfold State.refCheck
  dsimp only
  split
  · split
    · rw [causeGoneAll_reads hr, hc, hc]
    · rw [hc]
  · split
    · rw [foldl_reactEv_reads hr, reads_raise (settled_silent hr), hc, hc]
    · rw [hc]

theorem railCheck_reads (hc : ∀ (s : State) f, r (s.onRst f) = r s) (s : State) (ch : Nat) (code : Int) :
    r (s.railCheck ch code) = r s := by
  unfold State.railCheck
  split
  · rfl
  · dsimp only
    split
    · rw [hc]
    · rw [reads_raiseIf (settled_silent hr), hc]

theorem axisImmediate_reads (s : State) (k : Fin 8) (b : Bool) : r (s.axisImmediate k b) = r s :=
  settled_reads hr (settled_of_acted (acted_axisImmediate s k b))

end

/-! ## The shutdown of the die (R245) -/

/-- The shutdown is on record. -/
def State.dieShut (s : State) : State := ({ s with die := { s.die with shut := true } } : State).raise .DIE_SHUTDOWN 0xFF s.die.firstHot

/-- Every motor object with bridges executes a reaction to the shutdown, and every axis in use stops. -/
def State.dieStops (s : State) (sev : Reaction) : State :=
  forFin 8 (fun k s => if s.axes[k].state = .off then s else s.axisImmediate k false)
    (forFin 4 (fun m s => if s.bridges m = [] then s else s.reactEv m .DIE_SHUTDOWN 0xFF sev) s)

def Chopper.off (c : Chopper) : Chopper := { c with on := false, forced := false, enabled := false }

/-- The choppers go off, and the record is made up. -/
def State.dieOff (s : State) (en : List Bool) (react : Nat) : State :=
  let t := { s with chop := s.chop.map Chopper.off }
  { t with die := { t.die with record := t.shutdownRecord en react } }

theorem dieOff_recd (s : State) (en : List Bool) (react : Nat) : (s.dieOff en react).recd = s.recd := rfl

theorem dieOff_shut (s : State) (en : List Bool) (react : Nat) : (s.dieOff en react).die.shut = s.die.shut := rfl

theorem dieShutdown_eq (s : State) : s.dieShutdown = (s.dieShut.dieStops (s.rc Fld.THERMAL_DIEREACT 0)).dieOff
    ((List.finRange 8).map fun n => s.br[n].enabled) (s.rc Fld.THERMAL_DIEREACT 0).rank := by
  unfold State.dieShutdown
  extract_lets _ s1 sev en s2 s3 off s4 _
  have h : s3 = s.dieShut.dieStops (s.rc Fld.THERMAL_DIEREACT 0) := rfl
  rw [← h]
  rfl

theorem dieStops_reads {α : Type} {r : State → α} (hr : ∀ s, r (s.settledFrom State.reset) = r s) (s : State) (sev : Reaction) :
    r (s.dieStops sev) = r s := by
  refine (reads_forFin (fun k s => ?_) _).trans (reads_forFin (fun m s => ?_) _)
  · split
    · rfl
    · exact axisImmediate_reads hr ..
  · split
    · rfl
    · exact settled_reads hr (settled_react ..)

theorem dieStops_keeps (s : State) (sev : Reaction) : KeepsAll s (s.dieStops sev) := by
  refine (keeps_forFin (fun m s => ?_) s).trans (keeps_forFin (fun k s => ?_) _)
  · split
    · exact .refl s
    · exact keeps_react
  · split
    · exact .refl s
    · exact keeps_axisImmediate

theorem dieShutdown_reads {α : Type} {r : State → α} (hr : ∀ s, r (s.settledFrom State.reset) = r s)
    (hd : ∀ (s : State) d, r { s with die := d } = r s) (hc : ∀ (s : State) x, r { s with chop := x } = r s) (s : State) :
    r s.dieShutdown = r s := by
  rw [dieShutdown_eq]
  refine ((hd _ _).trans (hc _ _)).trans ?_
  rw [dieStops_reads hr, State.dieShut, reads_raise (settled_silent hr), hd]

/-- The shutdown is on record, and no chopper is on. -/
theorem dieShutdown_spec {s x : State} (hx : x.dev = s.dev) : x.dieShutdown.die.shut = true ∧
    Logged s x.dieShutdown .DIE_SHUTDOWN 0xFF x.die.firstHot ∧
    ∀ c : Fin 4, x.dieShutdown.chop[c].on = false ∧ x.dieShutdown.chop[c].enabled = false := by
  rw [dieShutdown_eq]
  refine ⟨?_, ?_, fun c => ?_⟩
  · rw [dieOff_shut, dieStops_reads (r := fun s => s.die.shut) (fun _ => rfl), State.dieShut, State.raise_die]
  · have h : Logged s x.dieShut .DIE_SHUTDOWN 0xFF x.die.firstHot := by
      unfold State.dieShut
      refine raise_logged_fast ?_ (by decide) _ _ _
      exact hx
    exact (h.keeps (dieStops_keeps _ _)).of_recd (dieOff_recd ..)
  · simp only [State.dieOff, vmap_get, Chopper.off, and_self]

/-! ## A die temperature (R63, R244, R245) -/

/-- A die code at the shutdown level, after one in the scan before, shuts the die down. -/
def State.dieTrips (s : State) (ch : Nat) (code : Int) : Prop :=
  decide (9000 ≤ code) ∧ (if ch = 24 then s.die.nowHot else s.die.prevHot) ∧ !s.die.shut ∧ !s.die.hold

/-- A die code is taken up, and then the die may be shut down. -/
theorem dieCheck_cases (s : State) (ch : Nat) (code : Int) : ∃ x : State,
    (s.dieTrips ch code → s.dieCheck ch code = x.dieShutdown) ∧ (¬s.dieTrips ch code → s.dieCheck ch code = x) ∧
    x.die.code = vmodN s.die.code (ch - 24) (fun _ => code) ∧ x.die.shut = s.die.shut ∧
    (ch ≠ 24 → s.die.prevHot = true → x.die.firstHot = s.die.firstHot) ∧ x.br = s.br ∧ x.dev = s.dev ∧ x.scan = s.scan := by
  refine ⟨_, fun h => if_pos h, fun h => if_neg h, ?_⟩
  simp only [State.raiseIf_die, State.raiseIf_br, State.raiseIf_dev, reads_raiseIf (settled_silent scan_settled), true_and]
  refine ⟨fun hc hp => ?_, rfl⟩
  simp [hc, hp]

theorem dieCheck_scan (s : State) (ch : Nat) (code : Int) : (s.dieCheck ch code).scan = s.scan := by
  obtain ⟨x, htrip, hnot, _, _, _, _, _, hx⟩ := dieCheck_cases s ch code
  by_cases h : s.dieTrips ch code
  · rw [htrip h, ← hx]
    exact dieShutdown_reads scan_settled (fun _ _ => rfl) (fun _ _ => rfl) x
  · rw [hnot h, hx]

/-! ## The hold after a shutdown (R245, R323) -/

/-- The outputs of the module: bridges, choppers and Garnet. -/
def State.outs (s : State) : Vector Bridge 8 × Vector Chopper 4 × Garnet := (s.br, s.chop, s.garnet)

theorem axisImmediate_silent {α : Type} {r : State → α} (hr : Silent r) (hx : ∀ (s : State) k f, r (s.onAxis k f) = r s) (s : State)
    (k : Fin 8) (b : Bool) : r (s.axisImmediate k b) = r s := by
  unfold State.axisImmediate State.axisUncertain
  rw [hx, reads_raise hr, hx]

/-- The entry to a reset changes the outputs, the axes and what is on record. -/
theorem resetEntry_reads {α : Type} {r : State → α} (hr : Silent r) (hx : ∀ (s : State) k f, r (s.onAxis k f) = r s)
    (ho : ∀ (s : State) b c g, r { s with br := b, chop := c, garnet := g } = r s) (s : State) : r s.resetEntry = r s := by
  unfold State.resetEntry
  refine (reads_forFin (fun k s => ?_) _).trans (ho ..)
  split
  · rfl
  · exact axisImmediate_silent hr hx ..

theorem resetEntry_outs (s : State) : s.resetEntry.outs =
    (s.br.map fun b => { b with latch := true, form := .pblk, enabled := false, window := none },
     s.chop.map Chopper.off,
     { s.garnet with
       run := false, so := s.garnet.so.map fun o => o.offNow s.up, mo := s.garnet.mo.map fun x => { x with brkSet := true } }) := by
  unfold State.resetEntry
  refine (reads_forFin (k := State.outs) (fun k s => ?_) _).trans rfl
  split
  · rfl
  · exact axisImmediate_silent (fun _ _ _ => rfl) (fun _ _ _ => rfl) ..

theorem resetSafe_held (s : State) (d : Die) (r : Rst) (h : s.resetSafe) : ({ s with die := d, rst := r } : State).resetSafe := h

/-- At the entry to a reset every gate, chopper and safety output is off. -/
theorem resetEntry_safe (s : State) : s.resetEntry.resetSafe := by
  have h := resetEntry_outs s
  have hb := congrArg Prod.fst h
  have hc := congrArg (·.2.1) h
  have hg := congrArg (·.2.2) h
  simp only [State.outs] at hb hc hg
  unfold State.resetSafe State.gatesOffAll State.outputsOff
  rw [hb, hc, hg]
  refine ⟨fun n => ?_, ⟨fun n => ?_, fun c => ?_, fun j => ?_⟩, rfl⟩
  · rw [vmap_get]
  · rw [vmap_get]
  · rw [vmap_get]
    exact ⟨rfl, rfl⟩
  · rw [vmap_get]
    rfl

/-- With the record in its slot the module holds itself in reset. -/
theorem dieHold_spec {s : State} (hs : s.die.shut = true) (hh : s.die.hold = false) : s.dieHold.die.hold = true ∧
    s.dieHold.nor.shutRec = s.die.record ∧ s.dieHold.rst.mgmtRun = false ∧ s.dieHold.resetSafe ∧ s.dieHold.pending = s.pending := by
  unfold State.dieHold
  rw [if_pos (by simp [hs, hh])]
  extract_lets e _ _ s1 s2
  have hnor : s2.nor = s1.nor := resetEntry_reads (fun _ _ _ => rfl) (fun _ _ _ => rfl) (fun _ _ _ _ => rfl) s1
  have hpend : s2.pending = s.pending := resetEntry_reads (fun _ _ _ => rfl) (fun _ _ _ => rfl) (fun _ _ _ _ => rfl) s1
  have hrec : s2.nor.shutRec = s.die.record := by rw [hnor]
  have hsafe : s2.resetSafe := resetEntry_safe s1
  clear_value s2
  exact ⟨rfl, hrec, rfl, resetSafe_held s2 _ _ hsafe, hpend⟩

/-! ## Rails of the scan (R63, R318) -/

/-- At 8191 the 5 V rail reads 3.12 V, below its range. -/
theorem railCheck_low {s : State} (h : s.rst.ok.getLsbD 7 = true) : s.railCheck 23 8191 =
    (s.onRst fun x => { x with ok := x.ok &&& ~~~(1#9 <<< 7), low := x.low ||| 1#9 <<< 7 }).raise .SUPPLY_LOW 7 := by
  have hlow : ¬(475 / 100 ≤ hkVolts 8191 * 5 / 2 ∧ hkVolts 8191 * 5 / 2 ≤ 525 / 100) := by
    unfold hkVolts
    norm_num
  have hset : (s.rst.ok &&& 1#9 <<< 7 != 0) = true := by
    rw [bne_iff_ne]
    intro h0
    have h7 : (s.rst.ok &&& 1#9 <<< 7).getLsbD 7 = true := by
      rw [BitVec.getLsbD_and, h]
      rfl
    rw [h0] at h7
    exact Bool.false_ne_true h7
  simp only [State.railCheck, railOf, if_neg hlow, hset, Bool.true_or, State.raiseIf, if_true]

/-! ## Rail clamps (R52) -/

/-- The window of an input whose ORAIL sets or clears. -/
def railTurn (beyond was : Bool) (now : Nat) (w : Option RailWindow) : Option RailWindow :=
  let x := w.getD ⟨false, 0, 0⟩
  if beyond ∧ !was then some (if x.open_ then x else ⟨true, now, now⟩)
  else if !beyond ∧ was then some { x with at_ := now }
  else w

/-- An input that goes beyond a rail has its window open. -/
theorem railTurn_opens (now : Nat) (w : Option RailWindow) : ((railTurn true false now w).any fun w => w.open_) = true := by
  unfold railTurn
  dsimp only
  rw [if_pos ⟨rfl, rfl⟩, Option.any_some]
  split
  next h => exact h
  next => rfl

section
variable (s : State) (c : Fin 8) (j : Fin 12)

/-- Input j of cell c, among the 96. -/
def railInput : Fin 96 := ⟨12 * c.1 + j.1, by omega⟩

theorem railInput_cell : (railInput c j).1 / 12 = c.1 := by unfold railInput; dsimp only; omega
theorem railInput_index : (railInput c j).1 % 12 = j.1 := by unfold railInput; dsimp only; omega

theorem railSet_input (b : Bool) : s.railSet (railInput c j) b = (s.onCell c fun x => { x with
    orail := x.orail.set j b
    window := vmod x.window j (railTurn b s.cells[c].orail[j] s.up) }).raiseIf (b && !s.cells[c].orail[j]) .ANA_ORAIL (railInput c j) := by
  simp only [State.railSet, railInput_cell, railInput_index, cell_fin, vat_fin, vmodN_fin, onCellN_fin]
  rfl

variable {s c j}

theorem railSet_rises (h : s.cells[c].orail[j] = false) : s.railSet (railInput c j) true = (s.onCell c fun x => { x with
    orail := x.orail.set j true, window := vmod x.window j (railTurn true false s.up) }).raise .ANA_ORAIL (railInput c j) := by
  rw [railSet_input, h]
  exact if_pos rfl

theorem railSet_falls (h : s.cells[c].orail[j] = true) : s.railSet (railInput c j) false = s.onCell c fun x => { x with
    orail := x.orail.set j false, window := vmod x.window j (railTurn false true s.up) } := by
  rw [railSet_input, h]
  exact if_neg Bool.false_ne_true

/-- The window of an input, closed 2 µs after its ORAIL cleared. -/
def RailWindow.closed (w : RailWindow) (now : Nat) : RailWindow :=
  if w.open_ ∧ w.at_ + 2 * us ≤ now then { w with open_ := false, at_ := w.at_ + 2 * us } else w

theorem railClose_input (s : State) (c : Fin 8) (j : Fin 12) : s.railClose (railInput c j) = if s.cells[c].orail[j] then s else
    s.onCell c fun x => { x with window := vmod x.window j fun w => w.map fun y => y.closed s.up } := by
  simp only [State.railClose, railInput_cell, railInput_index, cell_fin, vat_fin, vmodN_fin, onCellN_fin]
  rfl

end

/-- A stored result stays as it is while it is used. -/
theorem hkResult_scan {s : State} {ch : Fin 32} (h : 8 ≤ ch.1) (h' : ch.1 ≠ 31) (code : Int) : (s.hkResult ch code).scan =
    (s.hk.res.set ch (s.hkRes code), s.hk.seen.set ch true, (s.hkRes code).ovr, s.pending) := by
  rw [hkResult_used h h', ← hkStore_scan]
  split
  · exact refCheck_reads scan_settled (fun _ _ _ => rfl) ..
  · split
    · exact dieCheck_scan ..
    · exact railCheck_reads scan_settled (fun _ _ => rfl) ..

/-- A code of a die channel within the range of the converter. -/
theorem hkResult_die {s : State} {ch : Fin 32} (h : 24 ≤ ch.1) (h' : ch.1 ≤ 29) {code : Int} (h0 : 0 ≤ code) (h1 : code ≤ 16383) :
    ∃ k, s.hkResult ch code = ({ s with hk := k } : State).dieCheck ch code := by
  have hclamp : clampI 0 16383 code = code := by
    unfold clampI
    rw [if_neg (by omega), if_neg (by omega)]
  obtain ⟨k, hk⟩ := hkStore_quiet (s := s) (ch := ch) (code := code) (by simp [State.hkRes, h0, h1])
  refine ⟨k, ?_⟩
  rw [hkResult_used (by omega) (by omega), if_neg (by omega), if_pos ⟨h, h'⟩, hk, hclamp]

/-- Settles O35: a result is stored whatever it is used for; what the rail, the die and the clamps do with it is stated for each. -/
theorem housekeepingAndRails : Obligations.HousekeepingAndRails := by
  refine ⟨?stored, ?unused, ?rail, ?cool, ?hot, ?hold, ?beyond, ?back, ?kept, ?closed⟩
  case stored =>
    intro s ch code h h'
    have hscan := hkResult_scan (s := s) h h' code
    have hres : (s.hkResult ch code).hk.res = s.hk.res.set ch (s.hkRes code) := congrArg Prod.fst hscan
    have hseen : (s.hkResult ch code).hk.seen = s.hk.seen.set ch true := congrArg (·.2.1) hscan
    have hsus : (s.hkResult ch code).hk.scanSus = (s.hkRes code).ovr := congrArg (·.2.2.1) hscan
    have hch : (s.hkResult ch code).hk.res[ch] = s.hkRes code := by rw [hres, vset_self]
    refine ⟨s.hkResult ch code, rfl, ?_, ?_, ?_, ?_, ?_, fun d hd => ?_, congrArg (·.2.2.2) hscan⟩
    · rw [hch]
      rfl
    · rw [hch]
      rfl
    · rw [hch]
      rfl
    · rw [hch, hsus]
    · rw [hseen, vset_self]
    · rw [hres, vset_ne _ _ _ _ hd]
  case unused => exact fun s ch code h => congrArg Host.Outcome.next (hkResult_unused h code)
  case rail =>
    intro s h
    obtain ⟨k, hk⟩ := hkStore_quiet (s := s) (ch := 23) (code := 8191) rfl
    have e : s.hkResult 23 8191 = (State.onRst { s with hk := k } fun x =>
        { x with ok := x.ok &&& ~~~(1#9 <<< 7), low := x.low ||| 1#9 <<< 7 }).raise .SUPPLY_LOW 7 := by
      rw [← railCheck_low (s := { s with hk := k }) h, ← hk]
      rfl
    refine ⟨_, congrArg Host.Outcome.next e, ?_, ?_, raise_logged_of s _ _ _ _ _ rfl rfl, ?_⟩
    · rw [State.raise_rst]
      simp
    · rw [State.raise_rst]
      simp
    · obtain ⟨r, c, hr⟩ := raise_recOnly (State.onRst { s with hk := k } fun x =>
        { x with ok := x.ok &&& ~~~(1#9 <<< 7), low := x.low ||| 1#9 <<< 7 }) .SUPPLY_LOW 7 0 []
      rw [hr]
      rfl
  case cool =>
    intro s ch h h'
    obtain ⟨k, hk⟩ := hkResult_die (s := s) h h' (code := 8999) (by decide) (by decide)
    obtain ⟨x, _, hnot, hcode, hshut, _, hbr, _⟩ := dieCheck_cases { s with hk := k } ch 8999
    have hx := hk.trans (hnot fun ht => absurd ht.1 (by decide))
    refine ⟨x, congrArg Host.Outcome.next hx, ?_, hshut, hbr⟩
    rw [hcode]
    have hi : ch.1 - 24 < 6 := by omega
    simp [vmodN, hi]
  case hot =>
    intro s ch h h' hp hs hh
    obtain ⟨k, hk⟩ := hkResult_die (s := s) (by omega) h' (code := 9000) (by decide) (by decide)
    obtain ⟨x, htrip, _, _, _, hfirst, _, hdev, _⟩ := dieCheck_cases { s with hk := k } ch 9000
    have ht : State.dieTrips { s with hk := k } ch 9000 :=
      ⟨by decide, by rw [if_neg (by omega)]; exact hp, by rw [hs]; rfl, by rw [hh]; rfl⟩
    have hspec := dieShutdown_spec (s := s) hdev
    rw [hfirst (by omega) hp] at hspec
    exact ⟨_, congrArg Host.Outcome.next (hk.trans (htrip ht)), hspec⟩
  case hold => exact fun s hs hh => ⟨s.dieHold, rfl, dieHold_spec hs hh⟩
  case beyond =>
    intro s c j h
    obtain ⟨hh, ho, hr⟩ := onCell_raise_step s c (fun x => { x with
      orail := x.orail.set j true, window := vmod x.window j (railTurn true false s.up) }) .ANA_ORAIL (railInput c j) 0 []
    refine ⟨_, congrArg Host.Outcome.next (railSet_rises h), ?_, ?_, onCell_raise_logged s c _ _ _ _ _, ho, hr⟩
    · rw [hh]
    · rw [hh, vmod_self]
      exact railTurn_opens ..
  case back =>
    intro s c j w h hw
    obtain ⟨hh, ho, _⟩ := onCell_step s c fun x => { x with
      orail := x.orail.set j false, window := vmod x.window j (railTurn false true s.up) }
    refine ⟨_, congrArg Host.Outcome.next (railSet_falls h), ?_, ?_, ho, rfl⟩
    · rw [hh]
    · rw [hh, vmod_self, hw]
      rfl
  case kept =>
    intro s c j h
    exact congrArg Host.Outcome.next ((railClose_input s c j).trans (if_pos h))
  case closed =>
    intro s c j w h hw hopen hat
    have e := (railClose_input s c j).trans (if_neg (by rw [h]; exact Bool.false_ne_true))
    obtain ⟨hh, ho, _⟩ := onCell_step s c fun x => { x with window := vmod x.window j fun w => w.map fun y => y.closed s.up }
    refine ⟨_, congrArg Host.Outcome.next e, ?_, ?_, fun i hi => ?_, ho, rfl⟩
    · rw [hh, vmod_self, hw, Option.map_some, RailWindow.closed, if_pos ⟨hopen, hat⟩]
      rfl
    · rw [hh]
    · rw [hh, vmod_ne _ _ _ _ hi]

end Sys2Proof.Machine
end

section
/-! SUPPORT. Carriers and loops beside which a command works: what posts an item, raises an event, triggers a sequence, writes a capture
frame, stops a motor object or compares a shadow leaves the carriers, the loop registers and the queue as they are. -/

namespace Sys2Proof.Machine

/-- The carriers, the loop registers and the queue. -/
def State.drives (s : State) : Vector Pwm 8 × Vector LoopSt 4 × List Instr := (s.pwm, s.loops, s.pending)

theorem drives_iff {s t : State} : t.drives = s.drives ↔ t.pwm = s.pwm ∧ t.loops = s.loops ∧ t.pending = s.pending := by
  simp only [State.drives, Prod.mk.injEq]

theorem silent_drives : Silent State.drives := fun _ _ _ => rfl

@[simp] theorem drives_onBr (s : State) (n : Fin 8) (f : Bridge → Bridge) : (s.onBr n f).drives = s.drives := rfl
@[simp] theorem drives_onStart (s : State) (m : Fin 4) (f : Start → Start) : (s.onStart m f).drives = s.drives := rfl
@[simp] theorem drives_onCmd (s : State) (m : Fin 4) (f : Command → Command) : (s.onCmd m f).drives = s.drives := rfl
@[simp] theorem drives_onOuter (s : State) (m : Fin 4) (f : Outer → Outer) : (s.onOuter m f).drives = s.drives := rfl
@[simp] theorem drives_onAxis (s : State) (k : Fin 8) (f : Axis → Axis) : (s.onAxis k f).drives = s.drives := rfl
@[simp] theorem drives_onShock (s : State) (m : Fin 4) (f : Shock → Shock) : (s.onShock m f).drives = s.drives := rfl
@[simp] theorem drives_onHeave (s : State) (m : Fin 4) (f : Heave → Heave) : (s.onHeave m f).drives = s.drives := rfl
@[simp] theorem drives_onRing (s : State) (f : Ring → Ring) : (s.onRing f).drives = s.drives := rfl
@[simp] theorem drives_onEm (s : State) (m : Fin 4) (f : Emerg → Emerg) : (s.onEm m f).drives = s.drives := rfl
@[simp] theorem drives_onImg (s : State) (f : Image → Image) : (s.onImg f).drives = s.drives := rfl
@[simp] theorem drives_onShadow (s : State) (i : Fin 2) (f : Shadow → Shadow) : (s.onShadow i f).drives = s.drives := rfl
@[simp] theorem drives_onCap (s : State) (k : Fin 8) (f : Cap → Cap) : (s.onCap k f).drives = s.drives := rfl
@[simp] theorem drives_raise (s : State) (ev : Ev) (u a : Nat) (d : List Byte) : (s.raise ev u a d).drives = s.drives :=
  reads_raise silent_drives s ev u a d
@[simp] theorem drives_raiseIf (s : State) (b : Bool) (ev : Ev) (u a : Nat) (d : List Byte) :
    (s.raiseIf b ev u a d).drives = s.drives := reads_raiseIf silent_drives s b ev u a d

/-! ## Stops, axes and shadows -/

@[simp] theorem drives_stopLinkedAxes (s : State) (m : Fin 4) : (s.stopLinkedAxes m).drives = s.drives := by
  refine reads_forFin (fun k s => ?_) s
  split
  · simp [State.axisImmediate, State.axisUncertain]
  · rfl

@[simp] theorem drives_endRender (s : State) (m : Fin 4) : (s.endRender m).drives = s.drives := by
  unfold State.endRender
  split <;> simp

@[simp] theorem drives_abortShadow (s : State) (i : Fin 2) (r : Nat) : (s.abortShadow i r).drives = s.drives := by
  simp [State.abortShadow]

@[simp] theorem drives_abortShadowsOf (s : State) (m : Fin 4) : (s.abortShadowsOf m).drives = s.drives := by
  refine reads_forFin (fun i s => ?_) s
  split
  case h_4 => rfl
  all_goals split <;> simp

@[simp] theorem drives_memberOut (s : State) (m : Fin 4) (c : OutCause) : (s.memberOut m c).drives = s.drives := rfl

@[simp] theorem drives_startToIdle (s : State) (m : Fin 4) : (s.startToIdle m).drives = s.drives := by
  unfold State.startToIdle
  dsimp only
  split <;> simp

@[simp] theorem drives_enterStop (s : State) (m : Fin 4) (e : EMode) (b : StopBy) : (s.enterStop m e b).drives = s.drives := by
  simp [State.enterStop]

@[simp] theorem drives_requestStop (s : State) (m : Fin 4) (e : EMode) (b : StopBy) : (s.requestStop m e b).drives = s.drives := by
  unfold State.requestStop
  dsimp only
  split
  · simp
  · split <;> simp

theorem drives_resumePending (s : State) (m : Fin 4) : (s.resumePending m).drives = s.drives := by
  unfold State.resumePending
  dsimp only
  split
  · simp
  · split <;> simp

theorem drives_drumOff (s : State) (m : Fin 4) : (s.drumOff m).drives = s.drives := by
  simp only [State.drumOff, drives_raiseIf, drives_onOuter, drives_onEm]
  exact drives_endRender (s.brakeToClosed m) m

/-! ## Items, triggers and capture frames -/

theorem drives_post (s : State) (port : Nat) (f : Fin 256) (it : Item) : (s.post port f it).drives = s.drives := by
  have h := congrArg State.drives (postFrom_noFab s 0 port f it)
  exact h

theorem drives_onSeq (s : State) (c k : Nat) (f : Sequencer → Sequencer) : (s.onSeq c k f).drives = s.drives := by
  unfold State.onSeq
  split <;> rfl

theorem drives_trgMissed (s : State) (c : Nat) : (s.trgMissed c).drives = s.drives := by
  unfold State.trgMissed
  split <;> exact drives_raiseIf ..

theorem drives_regTrigger (s : State) (c k : Nat) (ofs : Rat) : (s.regTrigger c k ofs).drives = s.drives := by
  have overrun : (s.regOverrun c).drives = s.drives := by
    unfold State.regOverrun
    split <;> exact drives_raiseIf ..
  unfold State.regTrigger
  dsimp only
  repeat' split
  · rfl
  · exact drives_trgMissed ..
  · exact overrun
  · exact drives_onSeq ..
  · exact drives_onSeq ..

theorem drives_urgTrigger (s : State) (c k : Nat) (ofs : Rat) : (s.urgTrigger c k ofs).drives = s.drives := by
  have missed : (s.injMissed c).drives = s.drives := drives_raiseIf ..
  unfold State.urgTrigger
  dsimp only
  repeat' split
  · rfl
  · exact missed
  · exact drives_trgMissed ..
  · exact missed
  · exact drives_raiseIf ..
  · exact drives_onSeq ..

theorem drives_ctrigEdge (s : State) (j : Nat) (ofs : Rat) : (s.ctrigEdge j ofs).drives = s.drives := by
  refine (reads_foldl (fun s x => ?_) _ _).trans (reads_foldl (fun s x => ?_) _ s)
  · dsimp only
    split
    · exact drives_regTrigger ..
    · rfl
  · dsimp only
    split
    · exact drives_urgTrigger ..
    · rfl

theorem drives_driveTrigger (s : State) (n : Fin 8) : (s.driveTrigger n).drives = s.drives := by
  unfold State.driveTrigger
  extract_lets b point here
  clear_value here
  split
  · exact drives_ctrigEdge ..
  · rfl

theorem drives_latencyEnd (s : State) (m : Fin 4) (n : Fin 8) : (s.latencyEnd m n).drives = s.drives := by
  unfold State.latencyEnd
  split
  · exact (reads_foldl (fun s r => by simp) _ _).trans (drives_onCmd ..)
  · rfl

theorem drives_txnIssue (s : State) (req : Nat) (w : Bool) (fr : Option (Fin 8 × Nat)) : (s.txnIssue req w fr).drives = s.drives := by
  unfold State.txnIssue
  split <;> rfl

theorem drives_capFinish (s : State) (k : Fin 8) : (s.capFinish k).drives = s.drives := by simp [State.capFinish]

theorem drives_capFrame (s : State) (k : Fin 8) : (s.capFrame k).drives = s.drives := by
  unfold State.capFrame
  dsimp only
  split
  · rw [drives_capFinish, drives_txnIssue, drives_onCap]
  · rw [drives_txnIssue, drives_onCap]

theorem drives_captureInstant (s : State) (n : Fin 8) : (s.captureInstant n).drives = s.drives := by
  refine reads_forFin (fun k s => ?_) s
  repeat' split
  · exact drives_capFinish ..
  · rfl
  · rw [drives_capFrame, drives_onCap]
  · rfl

/-! ## Shadows -/

theorem drives_shadowJudge (s : State) (i : Fin 2) (d tol : Rat) : (s.shadowJudge i d tol).drives = s.drives := by
  unfold State.shadowJudge
  dsimp only
  split
  · simp
  · split <;> simp

theorem drives_shadowMove (s : State) (t : Nat) : (s.shadowMove t).drives = s.drives := by
  refine reads_forFin (fun i s => ?_) s
  dsimp only
  split
  · exact drives_shadowJudge ..
  · rfl

theorem drives_compareLoop (s t : State) (sl : Fin 2) (n : Fin 8) : (s.compareLoop t sl n).drives = t.drives := by
  unfold State.compareLoop
  dsimp only
  split
  · rw [drives_shadowJudge]
    rfl
  · rfl

/-- The shadows that run beside a current loop leave what the live task has done. -/
theorem loopTask_drives (s : State) (n : Fin 8) : (s.loopTask n).drives = (s.currentLoop n).drives := by
  unfold State.loopTask
  dsimp only
  split
  · rfl
  · refine (reads_forFin (fun sl t => ?_) _).trans (drives_shadowMove ..)
    split
    · exact drives_compareLoop ..
    · rfl

end Sys2Proof.Machine
end

section
/-! SUPPORT. What reactions leave of the carriers and of the loops (R15, R68, R77, R92): gates that go off take the posted values and the
circulating-current integrators with them, and nothing else of a carrier. -/

namespace Sys2Proof.Machine

/-! ## Carriers that run on -/

/-- A carrier but for its posted values, its circulating-current integrators, its gates and its latched angle. -/
def Pwm.steady (p : Pwm) : Pwm :=
  { p with posted := none, xc := tbl 3 0, gates := .reset, minp := false, minpCnt := .zero, th := 0 }

/-- The loop registers of a motor object but for RUN. -/
def LoopSt.steady (l : LoopSt) : LoopSt := { l with run := false }

/-- From `s` to `t` every carrier runs on, no values are posted, and no counter or latched condition of a loop changes. -/
structure Steady (s t : State) : Prop where
  pwm     : ∀ j : Fin 8, t.pwm[j].steady = s.pwm[j].steady
  posted  : ∀ j : Fin 8, s.pwm[j].posted = none → t.pwm[j].posted = none
  loops   : ∀ m : Fin 4, t.loops[m].steady = s.loops[m].steady
  pending : t.pending = s.pending

namespace Steady

theorem refl (s : State) : Steady s s := ⟨fun _ => rfl, fun _ => id, fun _ => rfl, rfl⟩

theorem trans {s t u : State} (h : Steady s t) (k : Steady t u) : Steady s u where
  pwm j := (k.pwm j).trans (h.pwm j)
  posted j e := k.posted j (h.posted j e)
  loops m := (k.loops m).trans (h.loops m)
  pending := k.pending.trans h.pending

theorem of_drives {s t : State} (h : t.drives = s.drives) : Steady s t := by
  obtain ⟨hp, hl, hq⟩ := drives_iff.1 h
  exact ⟨fun j => by rw [hp], fun j => by rw [hp]; exact id, fun m => by rw [hl], hq⟩

section
variable {s t : State} (h : Steady s t)
include h

theorem pwm_reads {α : Type} (k : Pwm → α) (hk : ∀ p, k p.steady = k p) (j : Fin 8) : k t.pwm[j] = k s.pwm[j] := by
  rw [← hk, ← hk s.pwm[j], h.pwm]

theorem loops_reads {α : Type} (k : LoopSt → α) (hk : ∀ l, k l.steady = k l) (m : Fin 4) : k t.loops[m] = k s.loops[m] := by
  rw [← hk, ← hk s.loops[m], h.loops]

theorem active (j : Fin 8) : t.pwm[j].active = s.pwm[j].active := h.pwm_reads Pwm.active (fun _ => rfl) j
theorem turnAt (j : Fin 8) : t.pwm[j].turnAt = s.pwm[j].turnAt := h.pwm_reads Pwm.turnAt (fun _ => rfl) j
theorem atPeak (j : Fin 8) : t.pwm[j].atPeak = s.pwm[j].atPeak := h.pwm_reads Pwm.atPeak (fun _ => rfl) j
theorem hold (j : Fin 8) : t.pwm[j].hold = s.pwm[j].hold := h.pwm_reads Pwm.hold (fun _ => rfl) j
theorem prim (j : Fin 8) : t.pwm[j].prim = s.pwm[j].prim := h.pwm_reads Pwm.prim (fun _ => rfl) j
theorem missed (j : Fin 8) : t.pwm[j].missed = s.pwm[j].missed := h.pwm_reads Pwm.missed (fun _ => rfl) j
theorem misses (j : Fin 8) : t.pwm[j].misses = s.pwm[j].misses := h.pwm_reads Pwm.misses (fun _ => rfl) j
theorem npUnbal (j : Fin 8) : t.pwm[j].npUnbal = s.pwm[j].npUnbal := h.pwm_reads Pwm.npUnbal (fun _ => rfl) j
theorem ovr (m : Fin 4) : t.loops[m].ovr = s.loops[m].ovr := h.loops_reads LoopSt.ovr (fun _ => rfl) m
theorem ovr3 (m : Fin 4) : t.loops[m].ovr3 = s.loops[m].ovr3 := h.loops_reads LoopSt.ovr3 (fun _ => rfl) m
theorem circHi (m : Fin 4) : t.loops[m].circHi = s.loops[m].circHi := h.loops_reads LoopSt.circHi (fun _ => rfl) m

end

/-- The same from a state with the same drives. -/
theorem fromDrives {s x t : State} (h : Steady x t) (k : x.drives = s.drives) : Steady s t := (of_drives k).trans h

/-- The same to a state with the same drives. -/
theorem toDrives {s x t : State} (h : Steady s x) (k : t.drives = x.drives) : Steady s t := h.trans (of_drives k)

theorem foldl {γ : Type} {f : State → γ → State} (hf : ∀ s x, Steady s (f s x)) (l : List γ) (s : State) : Steady s (l.foldl f s) :=
  foldl_keeps refl (fun _ _ _ => trans) f hf l s

theorem onPwm (s : State) (n : Fin 8) {f : Pwm → Pwm} (hf : ∀ p, (f p).steady = p.steady)
    (hn : ∀ p, p.posted = none → (f p).posted = none) : Steady s (s.onPwm n f) where
  pwm j := by
    by_cases e : j = n
    · rw [e, State.onPwm_pwm, vmod_self, hf]
    · rw [State.onPwm_pwm, vmod_ne _ _ _ _ e]
  posted j := by
    by_cases e : j = n
    · rw [e, State.onPwm_pwm, vmod_self]
      exact hn _
    · rw [State.onPwm_pwm, vmod_ne _ _ _ _ e]
      exact id
  loops _ := rfl
  pending := rfl

theorem onLoop (s : State) (m : Fin 4) {f : LoopSt → LoopSt} (hf : ∀ l, (f l).steady = l.steady) : Steady s (s.onLoop m f) where
  pwm _ := rfl
  posted _ := id
  loops k := by
    by_cases e : k = m
    · rw [e, State.onLoop_loops, vmod_self, hf]
    · rw [State.onLoop_loops, vmod_ne _ _ _ _ e]
  pending := rfl

/-! ## Bridges -/

section
variable {s : State} {n : Fin 8} {m : Fin 4}

theorem circReset : Steady s (s.circReset m) where
  pwm j := by
    simp only [State.circReset, vgen_get]
    split <;> rfl
  posted j := by
    simp only [State.circReset, vgen_get]
    split <;> exact id
  loops _ := rfl
  pending := rfl

theorem offBridge {f : Bridge → Bridge} : Steady s (s.offBridge n f) := by
  unfold State.offBridge
  split
  · exact of_drives rfl
  · refine Steady.trans ?_ circReset
    exact (onPwm _ n (f := fun p => { p with posted := none }) (fun _ => rfl) fun _ _ => rfl).fromDrives (drives_onBr ..)

theorem bridgeAsc : Steady s (s.bridgeAsc n) := by
  unfold State.bridgeAsc
  split
  · refine Steady.toDrives ?_ (drives_raise ..)
    exact offBridge.fromDrives (drives_onBr ..)
  · refine Steady.toDrives ?_ ((drives_raise ..).trans (drives_onBr ..))
    exact offBridge

theorem bridgeExec : Steady s (s.bridgeExec n) := by
  unfold State.bridgeExec
  split
  · split
    · exact refl s
    · exact offBridge
  · split
    · exact offBridge
    · split
      · exact offBridge
      · split
        · exact refl s
        · exact bridgeAsc
  · exact offBridge
  · dsimp only
    split
    · exact offBridge.toDrives (drives_onBr ..)
    · exact of_drives (drives_onBr ..)

theorem bridgesDo {l : List (Fin 8)} : Steady s (l.foldl (fun s n => s.bridgeExec n) s) := foldl (fun _ _ => bridgeExec) l s

/-! ## Reactions -/

theorem gatesOff {c : OutCause} : Steady s (s.gatesOff m c) := by
  have ends : ((((s.startToIdle m).stopLinkedAxes m).memberOut m c).abortShadowsOf m).drives = s.drives := by simp
  have run := (onLoop _ m (f := fun l => { l with run := false }) fun _ => rfl).fromDrives ends
  unfold State.gatesOff
  dsimp only
  split
  · exact run
  · exact run.toDrives (drives_drumOff ..)

theorem execReact {r : Reaction} {c : OutCause} : Steady s (s.execReact m r c) := by
  have ends : (((s.abortShadowsOf m).endRender m).dropHeave m).drives = s.drives := by
    simp [State.dropHeave]
  unfold State.execReact
  dsimp only
  split
  case h_1 | h_2 => exact bridgesDo
  case h_3 | h_4 =>
    split
    · exact bridgesDo.fromDrives ends
    · refine bridgesDo.fromDrives (Eq.trans ?_ ends)
      split
      · exact (drives_onRing ..).trans (drives_requestStop ..)
      · exact drives_requestStop ..
  case h_5 => exact gatesOff.trans bridgesDo

theorem react {r : React} {c : OutCause} : Steady s (s.react m r c) := by
  unfold State.react
  dsimp only
  split
  · exact refl s
  · split
    · exact execReact.fromDrives rfl
    · exact of_drives rfl

theorem degradeStart {auto : Bool} : Steady s (s.degradeStart m n auto) := by
  refine Steady.trans ?_ react
  exact offBridge.fromDrives (drives_onEm ..)

theorem reactBridge {ev : Ev} {u : Nat} {r : Reaction} {b : Bool} : Steady s (s.reactBridge n ev u r b) := by
  unfold State.reactBridge
  dsimp only
  split
  · split
    · exact bridgeExec.fromDrives (drives_onBr ..)
    · refine Steady.trans ?_ degradeStart
      exact bridgeExec.fromDrives (drives_onBr ..)
  · exact react

theorem settle {old : Reaction} : Steady s (s.settle m old) := by
  unfold State.settle
  dsimp only
  split
  · split
    · exact execReact.fromDrives rfl
    · refine execReact.fromDrives ?_
      split
      · exact drives_resumePending ..
      · rfl
  · exact bridgesDo

theorem causeGone {ev : Ev} {u : Nat} : Steady s (s.causeGone m ev u) := by
  refine Steady.trans ?_ bridgesDo
  exact settle.fromDrives rfl

end

end Steady

/-! ## Requests -/

/-- A request that joins a list stands in it, as hard as it is or harder (R15). -/
theorem addReact_asks (l : List React) (r : React) :
    ∃ x ∈ addReact l r, x.cause = r.cause ∧ x.unit = r.unit ∧ r.sev.rank ≤ x.sev.rank ∧ x.present = r.present := by
  unfold addReact
  split
  next o _ =>
    refine ⟨{ r with sev := harder o.sev r.sev }, by simp, rfl, rfl, ?_, rfl⟩
    unfold harder
    split <;> dsimp only <;> omega
  next => exact ⟨r, by simp, rfl, rfl, le_refl _, rfl⟩

/-- A request harder than LOG joins the list of the motor object. -/
theorem react_reacts {s : State} {m : Fin 4} {r : React} (h : r.sev ≠ .log) (c : OutCause) :
    (s.react m r c).reacts[m] = addReact s.reacts[m] r := by
  have joined : (s.react m r c).reacts = vmod s.reacts m fun l => addReact l r := by
    unfold State.react
    rw [if_neg h]
    dsimp only
    split
    · exact acted_reads (acted_execReact ..) State.reacts fun _ => rfl
    · rfl
  rw [joined, vmod_self]

/-- A request that an event makes stands (R15). -/
theorem reactEv_asks {s : State} {r : Reaction} (h : r ≠ .log) (m : Fin 4) (ev : Ev) (u : Nat) (b : Bool) :
    ∃ x ∈ (s.reactEv m ev u r b).reacts[m], x.cause = some ev ∧ x.unit = u ∧ r.rank ≤ x.sev.rank ∧ x.present = b := by
  rw [State.reactEv, react_reacts h]
  exact addReact_asks _ ⟨some ev, u, r, b, false⟩

end Sys2Proof.Machine
end

section
/-! SUPPORT. Deadlines, balance and counters of the loops (R68, R75, R77, R92): one equation per outcome of each command. -/

namespace Sys2Proof.Machine

/-! ## Compare deadlines -/

/-- Beyond the miss a deadline ends shadows (R359) and does nothing else. -/
theorem deadlinePass_keeps {R : State → State → Prop} (hr : ∀ s, R s s) (ht : ∀ s t u, R s t → R t u → R s u)
    (ha : ∀ s i r, R s (s.abortShadow i r)) (s : State) (n : Fin 8) : R (s.deadline n) (s.deadlinePass n) := by
  unfold State.deadlinePass
  dsimp only
  split
  · exact hr _
  · refine foldl_keeps hr ht _ (fun t sl => ?_) _ _
    dsimp only
    split
    case h_4 => exact hr t
    all_goals
      split
      · exact ha ..
      · exact hr t

theorem deadlinePass_reads {α : Type} {k : State → α} (hk : ∀ s i r, k (State.abortShadow s i r) = k s) (s : State) (n : Fin 8) :
    k (s.deadlinePass n) = k (s.deadline n) :=
  deadlinePass_keeps (R := fun s t => k t = k s) (fun _ => rfl) (fun _ _ _ h h' => h'.trans h) hk s n

theorem deadlinePass_drives (s : State) (n : Fin 8) : (s.deadlinePass n).drives = (s.deadline n).drives :=
  deadlinePass_reads drives_abortShadow s n

theorem deadlinePass_reacts (s : State) (n : Fin 8) : (s.deadlinePass n).reacts = (s.deadline n).reacts :=
  deadlinePass_reads (k := State.reacts) (fun _ _ _ => State.raise_reacts ..) s n

theorem deadlinePass_keepsAll (s : State) (n : Fin 8) : KeepsAll (s.deadline n) (s.deadlinePass n) :=
  deadlinePass_keeps KeepsAll.refl (fun _ _ _ => KeepsAll.trans) (fun _ _ _ => .raise rfl) s n

/-- Values that are posted in time end a row of misses. -/
theorem deadlinePass_posted {s : State} {n : Fin 8} (hc : s.conf n = true) (hr : s.pwm[n].run = true) (hs : s.switching n = true)
    (hp : s.pwm[n].posted.isSome = true) : s.deadlinePass n = s.onPwm n fun p => { p with misses := 0 } := by
  have h : s.deadline n = s.onPwm n fun p => { p with misses := 0 } := by
    simp only [State.deadline, hc, hr, hs, hp, Bool.not_true, Bool.false_eq_true, or_self, if_false, if_true]
  unfold State.deadlinePass
  rw [h]
  exact if_pos rfl

/-- The state in which a miss has been counted and told (R92). -/
def State.missCounted (s : State) (n : Fin 8) : State :=
  ((s.onPwm n fun p => { p with misses := min 3 (s.pwm[n].misses + 1), missed := true }).onLoop s.br[n].mo fun l =>
    { l with ovr := bump l.ovr, ovrSeen := true }).raiseIf (!s.loops[s.br[n].mo].ovrSeen) .LOOP_OVERRUN s.br[n].mo

theorem missCounted_pwm (s : State) (n : Fin 8) :
    (s.missCounted n).pwm[n] = { s.pwm[n] with misses := min 3 (s.pwm[n].misses + 1), missed := true } := by
  rw [State.missCounted, State.raiseIf_pwm, State.onLoop_pwm, State.onPwm_pwm, vmod_self]

theorem missCounted_loops (s : State) (n : Fin 8) : (s.missCounted n).loops[s.br[n].mo] =
    { s.loops[s.br[n].mo] with ovr := bump s.loops[s.br[n].mo].ovr, ovrSeen := true } := by
  rw [State.missCounted, State.raiseIf_loops, State.onLoop_loops, vmod_self, State.onPwm_loops]

theorem missCounted_logged {s : State} {n : Fin 8} (h : s.loops[s.br[n].mo].ovrSeen = false) :
    Logged s (s.missCounted n) .LOOP_OVERRUN s.br[n].mo := by
  unfold State.missCounted
  apply raiseIf_logged_of
  · rw [h]
    rfl
  · rfl
  · rfl

theorem missCounted_dev (s : State) (n : Fin 8) : (s.missCounted n).dev = s.dev := by rw [State.missCounted, State.raiseIf_dev]; rfl

/-- The fault of the third miss in a row (R92). -/
def State.missFault (s : State) (m : Fin 4) (n : Fin 8) (sev : Reaction) : State :=
  ((s.onLoop m fun l => { l with ovr3 := true }).raise .LOOP_DEADLINE m n).reactEv m .LOOP_DEADLINE m sev false

section
variable {s : State} {m : Fin 4} {n : Fin 8} {sev : Reaction}

theorem missFault_steady : Steady (s.onLoop m fun l => { l with ovr3 := true }) (s.missFault m n sev) :=
  Steady.react.fromDrives (drives_raise ..)

theorem missFault_keeps : KeepsAll s (s.missFault m n sev) := (KeepsAll.raise (State.onLoop_recd ..)).trans keeps_react

theorem missFault_ovr3 : (s.missFault m n sev).loops[m].ovr3 = true := by
  rw [missFault_steady.ovr3, State.onLoop_loops, vmod_self]

theorem missFault_logged {x : State} (hd : x.dev = s.dev) : Logged s (x.missFault m n sev) .LOOP_DEADLINE m n :=
  (raise_logged_fast ((State.onLoop_dev ..).trans hd) (by decide) _ _ _).keeps keeps_react

theorem missFault_asks (h : sev ≠ .log) : ∃ r ∈ (s.missFault m n sev).reacts[m], r.cause = some .LOOP_DEADLINE := by
  obtain ⟨r, hr, hcause, -⟩ := reactEv_asks h m .LOOP_DEADLINE m false
  exact ⟨r, hr, hcause⟩

end

section
variable {s : State} {n : Fin 8} (hc : s.conf n = true) (hr : s.pwm[n].run = true) (hs : s.switching n = true)
  (hp : s.pwm[n].posted = none)
include hc hr hs hp

/-- A miss is counted, and the third in a row is a fault. -/
theorem deadline_missed : s.deadline n = if s.pwm[n].misses = 2 then
    (s.missCounted n).missFault s.br[n].mo n (s.rc Fld.LOOP_OVRREACT s.br[n].mo) else s.missCounted n := by
  simp only [State.deadline, hc, hr, hs, hp, Bool.not_true, Bool.false_eq_true, or_self, if_false, Option.isSome_none, Nat.reduceEqDiff]
  rfl

theorem deadline_counts : (s.deadline n).pwm[n].misses = min 3 (s.pwm[n].misses + 1) ∧ (s.deadline n).pwm[n].missed = true ∧
    (s.deadline n).loops[s.br[n].mo].ovr = bump s.loops[s.br[n].mo].ovr := by
  rw [deadline_missed hc hr hs hp]
  split
  · rw [missFault_steady.misses, missFault_steady.missed, missFault_steady.ovr, State.onLoop_pwm, missCounted_pwm, State.onLoop_loops,
      vmod_self, missCounted_loops]
    exact ⟨rfl, rfl, rfl⟩
  · rw [missCounted_pwm, missCounted_loops]
    exact ⟨rfl, rfl, rfl⟩

theorem deadline_logged (h : s.loops[s.br[n].mo].ovrSeen = false) : Logged s (s.deadline n) .LOOP_OVERRUN s.br[n].mo := by
  rw [deadline_missed hc hr hs hp]
  split
  · exact (missCounted_logged h).keeps missFault_keeps
  · exact missCounted_logged h

end

/-! ## Balance -/

/-- An event that requests its reaction: the carriers run on, the event is on record, and the request stands (R15). -/
theorem raise_reactEv_spec {s x : State} (hr : x.recd = s.recd) (hd : x.dev = s.dev) (m : Fin 4) (ev : Ev) (u a : Nat) (d : List Byte)
    (sev : Reaction) : Steady x ((x.raise ev u a d).reactEv m ev u sev) ∧ Logged s ((x.raise ev u a d).reactEv m ev u sev) ev u a d ∧
      (sev ≠ .log → ((x.raise ev u a d).reactEv m ev u sev).asked m ev u sev) := by
  refine ⟨Steady.react.fromDrives (drives_raise ..), (raise_logged_of s x ev u a d hr hd).keeps keeps_react, fun h => ?_⟩
  obtain ⟨r, hmem, hcause, hunit, hsev, hpresent⟩ := reactEv_asks (s := x.raise ev u a d) h m ev u true
  exact ⟨r, hmem, hcause, hunit, hsev, hpresent⟩

theorem npUnbalance_spec {s : State} {n : Fin 8} (hc : s.conf n = true) (hn : s.br[n].npc = true) (hu : s.pwm[n].npUnbal = false) :
    (s.npUnbalance n).pwm[n].npUnbal = true ∧ Logged s (s.npUnbalance n) .NP_UNBAL n ∧
      (s.rc Fld.BRIDGE_NPREACT (s.recOf n) ≠ .log →
        (s.npUnbalance n).asked s.br[n].mo .NP_UNBAL n (s.rc Fld.BRIDGE_NPREACT (s.recOf n))) := by
  have h : s.npUnbalance n = ((s.onPwm n fun p => { p with npUnbal := true }).raise .NP_UNBAL n).reactEv s.br[n].mo .NP_UNBAL n
      (s.rc Fld.BRIDGE_NPREACT (s.recOf n)) := if_pos ⟨hc, hn, by rw [hu]; rfl⟩
  rw [h]
  obtain ⟨steady, logged, asked⟩ := raise_reactEv_spec (s := s) (x := s.onPwm n fun p => { p with npUnbal := true }) rfl rfl
    s.br[n].mo .NP_UNBAL n 0 [] (s.rc Fld.BRIDGE_NPREACT (s.recOf n))
  refine ⟨?_, logged, asked⟩
  rw [steady.npUnbal, State.onPwm_pwm, vmod_self]

theorem circHigh_spec {s : State} {m : Fin 4} (hh : s.loops[m].circHi = false) (hb : s.n Fld.MOTOR_BRMODE m = 0)
    (hf : 2 ≤ (s.feeding m).length) : (s.circHigh m).loops[m].circHi = true ∧ Logged s (s.circHigh m) .CIRC_HIGH m ∧
      (s.rc Fld.MOTOR_CIRCREACT m ≠ .log → (s.circHigh m).asked m .CIRC_HIGH m (s.rc Fld.MOTOR_CIRCREACT m)) := by
  have h : s.circHigh m = ((s.onLoop m fun l => { l with circHi := true }).raise .CIRC_HIGH m).reactEv m .CIRC_HIGH m
      (s.rc Fld.MOTOR_CIRCREACT m) := if_neg
      (not_or.2 ⟨by rw [hh]; exact Bool.false_ne_true, not_or.2 ⟨not_not_intro hb, Nat.not_lt.2 hf⟩⟩)
  rw [h]
  obtain ⟨steady, logged, asked⟩ := raise_reactEv_spec (s := s) (x := s.onLoop m fun l => { l with circHi := true }) rfl rfl
    m .CIRC_HIGH m 0 [] (s.rc Fld.MOTOR_CIRCREACT m)
  refine ⟨?_, logged, asked⟩
  rw [steady.circHi, State.onLoop_loops, vmod_self]

end Sys2Proof.Machine
end

section
/-! SUPPORT. A turning point of a carrier (R66, R68, R79, R186): the phase of the group is left alone while a bridge of the motor object is
out of PULSE_BLOCK, the posted values load, and what the instant judges afterwards lets the carriers run on. -/

namespace Sys2Proof.Machine

/-! ## Items popped -/

/-- Every part of the state but the fabric and the shadows, whose mirrors take copies of what is popped. -/
def State.noItems (s : State) : State := { s with fab := Fabric.reset, shadow := State.reset.shadow }

theorem noItems_mirrorItem (s : State) (f : Fin 256) : (s.mirrorItem f).noItems = s.noItems := by
  refine reads_forFin (fun i s => ?_) s
  dsimp only
  split <;> rfl

theorem noItems_pop (s : State) (port : Nat) (f : Fin 256) : (s.pop port f).2.noItems = s.noItems := by
  unfold State.pop
  dsimp only
  split
  · rfl
  · split
    · rfl
    · exact noItems_mirrorItem ..

theorem noItems_popAll (s : State) (port : Nat) (f : Fin 256) : (s.popAll port f).2.noItems = s.noItems := by
  refine reads_foldl (k := fun x : List Item × State => x.2.noItems) (fun x _ => ?_) _ ([], s)
  have h := noItems_pop x.2 port f
  dsimp only
  generalize x.2.pop port f = r at h ⊢
  obtain ⟨_ | i, s1⟩ := r <;> exact h

/-- What does not read the fabric and the shadows reads the same after a flow has been popped until EMPTY. -/
theorem popAll_reads {α : Type} (k : State → α) (hk : ∀ s, k s.noItems = k s) (s : State) (port : Nat) (f : Fin 256) :
    k (s.popAll port f).2 = k s := by
  rw [← hk (s.popAll port f).2, ← hk s, noItems_popAll]

/-! ## What an instant judges -/

namespace Steady

variable {s : State} {n : Fin 8}

theorem driveHalf {old : CmpSet} : Steady s (s.driveHalf n old) := by
  unfold State.driveHalf
  dsimp only
  repeat' split
  all_goals exact onPwm _ _ (fun _ => rfl) fun _ h => h

theorem postPosition {k : Fin 8} {t : BitVec 64} : Steady s (s.postPosition n k t) := by
  refine Steady.toDrives ?_ (drives_post ..)
  exact onPwm _ _ (fun _ => rfl) fun _ h => h

theorem posLatch {pos : Vector PosRaw 8} : Steady s (s.posLatch n pos) := by
  unfold State.posLatch
  split
  next k _ =>
    dsimp only
    split
    · exact refl s
    · split
      · exact of_drives rfl
      · exact postPosition.fromDrives rfl
  · exact refl s

theorem ov1Step : Steady s (s.ov1Step n) := by
  unfold State.ov1Step
  dsimp only
  split
  · exact react.fromDrives (drives_raise ..)
  · exact of_drives (drives_onBr ..)

theorem switchThermal : Steady s (s.switchThermal n) := by
  unfold State.switchThermal
  extract_lets b m warn trip base cnt s1 ts drv top was tripped s2 s3 standing s4
  have h1 : s1.drives = (s.pwm, s.loops, s.pending) := rfl
  have h2 : Steady s s2 := of_drives ((drives_onBr ..).trans h1)
  clear_value s2
  have h3 : Steady s s3 := by
    unfold s3
    split
    · exact h2.trans (react.fromDrives (drives_raise ..))
    · split
      · exact h2.trans (causeGone.trans causeGone)
      · exact h2
  clear_value s3
  refine Steady.toDrives ?_ (drives_onEm ..)
  unfold s4
  split
  · exact h3.trans (reactBridge.fromDrives (drives_raise ..))
  · exact h3

theorem windThermal {m : Fin 4} {dt : Rat} : Steady s (s.windThermal m dt) := by
  unfold State.windThermal
  extract_lets w l p th amb model tw warn trip s1 s2 standing s3
  have h1 : Steady s s1 := of_drives rfl
  clear_value s1
  have h2 : Steady s s2 := by
    unfold s2
    split
    · exact h1.trans (react.fromDrives (drives_raise ..))
    · split
      · exact h1.trans (causeGone.trans causeGone)
      · exact h1
  clear_value s2
  refine Steady.toDrives ?_ (drives_onEm ..)
  unfold s3
  split
  · exact h2.trans (react.fromDrives (drives_raise ..))
  · exact h2

end Steady

/-! ## Loading -/

/-- A carrier whose posted values load at an instant; `on` says that its bridge switches (R68). -/
def Pwm.loaded (p : Pwm) (on : Bool) : Pwm :=
  { p with
    missed := false, hold := on && p.posted.isNone, prim := on && (p.prim || p.posted.isSome), posted := none
    active := p.posted.getD p.active, vab := if on && p.prim then p.active.vab else p.vab }

theorem loadCompare_drives (s : State) (n : Fin 8) :
    (s.loadCompare n).drives = (s.onPwm n fun p => p.loaded (s.switching n)).drives := by
  have h := popAll_reads State.drives (fun _ => rfl) s 17 (bridgeFlow 2 n)
  unfold State.loadCompare
  generalize (s.popAll 17 (bridgeFlow 2 n)).2 = x at h ⊢
  obtain ⟨hp, hl, hq⟩ := drives_iff.1 h
  dsimp only
  split
  all_goals
    simp only [State.drives, State.onCmd_pwm, State.onCmd_loops, State.onCmd_pending, State.onPwm_pwm, State.onPwm_loops,
      State.onPwm_pending, hp, hl, hq]
    rfl

/-- From the instant at which the posted values have loaded the carriers run on. -/
theorem loopInstant_steady (s : State) (n : Fin 8) (pos : Vector PosRaw 8) :
    Steady (s.onPwm n fun p => ({ p with stamp := s.instantStamp }).loaded (s.switching n)) (s.loopInstant n pos) := by
  unfold State.loopInstant
  extract_lets m old s0 s1 s2 s3
  have hload : (s0.loadCompare n).drives = (s.onPwm n fun p => ({ p with stamp := s.instantStamp }).loaded (s.switching n)).drives := by
    rw [loadCompare_drives]
    simp only [s0, State.drives, State.onPwm_pwm, vmod_vmod, State.onPwm_loops, State.onPwm_pending]
    rfl
  have h1 : Steady (s0.loadCompare n) s1 := by
    refine Steady.trans ?_ Steady.posLatch
    exact (Steady.driveHalf.toDrives (drives_latencyEnd ..)).toDrives (drives_driveTrigger ..)
  clear_value s1
  have h2 : Steady s1 s2 := Steady.ov1Step.trans Steady.switchThermal
  clear_value s2
  have h3 : Steady s2 s3 := by
    unfold s3
    split
    · exact Steady.windThermal
    · exact .refl _
  exact (((h1.trans h2).trans h3).toDrives (drives_captureInstant ..)).fromDrives hload

/-! ## The turning point -/

/-- A carrier that turns at a time. -/
def Pwm.turned (p : Pwm) (up : Nat) : Pwm := { p with atPeak := !p.atPeak, turnAt := up }

/-- A member does not take the phase of its group outside the ring, or while a bridge of it is out of PULSE_BLOCK (R186). -/
theorem alignCarriers_off {s : State} {m : Fin 4} (h : s.ring.on = false ∨ ∃ j ∈ s.bridges m, s.br[j].form ≠ .pblk) :
    s.alignCarriers m = s := by
  unfold State.alignCarriers
  split
  · dsimp only
    refine if_neg fun hc => ?_
    obtain ⟨hon, -, -, -, -, hall, -⟩ := hc
    rcases h with h | ⟨j, hj, hf⟩
    · rw [h] at hon
      exact Bool.false_ne_true hon
    · exact hf (beq_iff_eq.1 (List.all_eq_true.1 hall j hj))
  · rfl

/-- A period boundary lets gates that switch go on (R36). -/
theorem latchRelease_switching {s : State} {n : Fin 8} (h : s.switching n = true) : (s.latchRelease n).switching n = true := by
  simp only [State.switching, State.disabled, Bool.and_eq_true, Bool.not_eq_true', Bool.or_eq_false_iff] at h ⊢
  obtain ⟨⟨⟨⟨hform, hen⟩, hlatch⟩, harmed⟩, hdis, hsto⟩ := h
  simp only [State.latchRelease, State.onBr_br, State.onBr_armed, State.onBr_garnet, vmod_self]
  exact ⟨⟨⟨⟨hform, hen⟩, by rw [hlatch]; rfl⟩, harmed⟩, hsto, hsto⟩

/-- The state in which the carrier of a bridge has turned, and a period boundary has passed where it is at a valley (R36, R66). -/
def State.turnedAt (s : State) (n : Fin 8) : State :=
  if s.pwm[n].atPeak then (s.onPwm n fun p => p.turned s.up).latchRelease n else s.onPwm n fun p => p.turned s.up

theorem turnedAt_drives (s : State) (n : Fin 8) : (s.turnedAt n).drives = (s.onPwm n fun p => p.turned s.up).drives := by
  unfold State.turnedAt
  split <;> rfl

theorem turnedAt_switching {s : State} {n : Fin 8} (h : s.switching n = true) : (s.turnedAt n).switching n = true := by
  unfold State.turnedAt
  split
  · exact latchRelease_switching h
  · exact h

/-- A turning point that is a loop instant: its carrier turns, and the instant is judged from there. -/
theorem turningPoint_instant {s : State} {n : Fin 8} (hc : s.conf n = true) (hr : s.pwm[n].run = true)
    (hi : s.pwm[n].single = false ∨ s.pwm[n].atPeak = true)
    (ha : s.pwm[n].atPeak = false ∨ s.ring.on = false ∨ ∃ j ∈ s.bridges s.br[n].mo, s.br[j].form ≠ .pblk) (pos : Vector PosRaw 8) :
    s.turningPoint n pos = (s.turnedAt n).loopInstant n pos := by
  have hpwm : (s.turnedAt n).pwm[n] = s.pwm[n].turned s.up := by
    rw [(drives_iff.1 (turnedAt_drives s n)).1, State.onPwm_pwm, vmod_self]
  have hinst : ¬((s.turnedAt n).pwm[n].single = true ∧ (s.turnedAt n).pwm[n].atPeak = true) := by
    rw [hpwm]
    rintro ⟨hsingle, hpeak⟩
    rcases hi with h | h
    · exact Bool.false_ne_true (h.symm.trans hsingle)
    · rw [Pwm.turned, h] at hpeak
      exact Bool.false_ne_true hpeak
  unfold State.turningPoint
  rw [if_neg (by simp [hc, hr, -Fin.getElem_fin])]
  extract_lets s1 m s2
  have hturn : s1.pwm[n] = s.pwm[n].turned s.up := vmod_self ..
  have hvalley : s2 = s.turnedAt n := by
    unfold s2 State.turnedAt
    rw [hturn]
    cases hp : s.pwm[n].atPeak
    case false => exact if_pos (by rw [Pwm.turned, hp]; rfl)
    case true =>
      have hoff : s1.alignCarriers m = s1 := alignCarriers_off (ha.resolve_left (by rw [hp]; exact Bool.false_ne_true.symm))
      rw [if_neg (by rw [Pwm.turned, hp]; exact Bool.false_ne_true), hoff, if_pos rfl]
      exact ite_self _
  rw [hvalley]
  exact if_neg hinst

/-- A turning point that is a loop instant, seen from the state before it: the carrier has turned and the posted values have loaded, for a
bridge that switches at the instant (`on`), and from there the carriers run on. -/
theorem turningPoint_steady {s : State} {n : Fin 8} (hc : s.conf n = true) (hr : s.pwm[n].run = true)
    (hi : s.pwm[n].single = false ∨ s.pwm[n].atPeak = true)
    (ha : s.pwm[n].atPeak = false ∨ s.ring.on = false ∨ ∃ j ∈ s.bridges s.br[n].mo, s.br[j].form ≠ .pblk) (pos : Vector PosRaw 8) :
    ∃ (on : Bool) (st : BitVec 64), (s.switching n = true → on = true) ∧
      Steady (s.onPwm n fun p => ({ p.turned s.up with stamp := st }).loaded on) (s.turningPoint n pos) := by
  refine ⟨(s.turnedAt n).switching n, (s.turnedAt n).instantStamp, turnedAt_switching, ?_⟩
  rw [turningPoint_instant hc hr hi ha]
  refine (loopInstant_steady (s.turnedAt n) n pos).fromDrives ?_
  obtain ⟨hp, hl, hq⟩ := drives_iff.1 (turnedAt_drives s n)
  simp only [State.drives, State.onPwm_pwm, State.onPwm_loops, State.onPwm_pending, hp, hl, hq, vmod_vmod]
  rfl

/-- What a loop instant of a bridge shows in `t` of the state `s` before its turning point; `on` says that the bridge switches at it (R68). -/
structure TurnsTo (s : State) (n : Fin 8) (on : Bool) (t : State) : Prop where
  atPeak  : t.pwm[n].atPeak = !s.pwm[n].atPeak
  turnAt  : t.pwm[n].turnAt = s.up
  active  : t.pwm[n].active = s.pwm[n].posted.getD s.pwm[n].active
  posted  : t.pwm[n].posted = none
  hold    : t.pwm[n].hold = (on && s.pwm[n].posted.isNone)
  missed  : t.pwm[n].missed = false
  prim    : t.pwm[n].prim = (on && (s.pwm[n].prim || s.pwm[n].posted.isSome))
  others  : ∀ j : Fin 8, j ≠ n → t.pwm[j].active = s.pwm[j].active ∧ t.pwm[j].turnAt = s.pwm[j].turnAt
  pending : t.pending = s.pending

theorem turningPoint_turns {s : State} {n : Fin 8} (hc : s.conf n = true) (hr : s.pwm[n].run = true)
    (hi : s.pwm[n].single = false ∨ s.pwm[n].atPeak = true)
    (ha : s.pwm[n].atPeak = false ∨ s.ring.on = false ∨ ∃ j ∈ s.bridges s.br[n].mo, s.br[j].form ≠ .pblk) (pos : Vector PosRaw 8) :
    ∃ on, (s.switching n = true → on = true) ∧ TurnsTo s n on (s.turningPoint n pos) := by
  obtain ⟨on, st, hon, steady⟩ := turningPoint_steady hc hr hi ha pos
  have self : (s.onPwm n fun p => ({ p.turned s.up with stamp := st }).loaded on).pwm[n] =
      ({ s.pwm[n].turned s.up with stamp := st } : Pwm).loaded on := vmod_self ..
  have other {j : Fin 8} (hj : j ≠ n) :
      (s.onPwm n fun p => ({ p.turned s.up with stamp := st }).loaded on).pwm[j] = s.pwm[j] := vmod_ne _ _ _ _ hj
  refine ⟨on, hon, ?_, ?_, ?_, steady.posted n ?_, ?_, ?_, ?_, fun j hj => ⟨?_, ?_⟩, steady.pending⟩
  · rw [steady.atPeak, self]
    rfl
  · rw [steady.turnAt, self]
    rfl
  · rw [steady.active, self]
    rfl
  · rw [self]
    rfl
  · rw [steady.hold, self]
    rfl
  · rw [steady.missed, self]
    rfl
  · rw [steady.prim, self]
    rfl
  · rw [steady.active, other hj]
  · rw [steady.turnAt, other hj]

end Sys2Proof.Machine
end

section
/-! SUPPORT. The current-loop task (R79, R80, R101 to R103, R109): what it reads, observes and controls leaves the posted values, the counters
and latched conditions of the loop, and the integrators of bridges that do not switch. -/

namespace Sys2Proof.Machine

/-- Of a carrier what the task leaves until it posts: the posted values, the latched neutral point, and the integrators and the voltage
limit while its bridge does not switch. -/
def Pwm.spared (p : Pwm) (on : Bool) : Pwm :=
  { Pwm.reset with
    posted := p.posted, npUnbal := p.npUnbal
    xd := if on then 0 else p.xd, xq := if on then 0 else p.xq, vsat := if on then false else p.vsat }

/-- Of the loop registers what the task leaves until it posts. -/
def LoopSt.spared (l : LoopSt) : LoopSt := { LoopSt.reset with stale := l.stale, circHi := l.circHi }

/-- What the current-loop task leaves until it posts. -/
def State.spared (s : State) : State :=
  { State.reset with
    pwm := vgen 8 fun j => s.pwm[j].spared (s.switching j), loops := s.loops.map LoopSt.spared
    br := s.br, garnet := s.garnet, armed := s.armed, pending := s.pending }

theorem silent_spared : Silent State.spared := fun _ _ _ => rfl

@[simp] theorem spared_onStart (s : State) (m : Fin 4) (f : Start → Start) : (s.onStart m f).spared = s.spared := rfl
@[simp] theorem spared_raiseIf (s : State) (b : Bool) (ev : Ev) (u a : Nat) (d : List Byte) :
    (s.raiseIf b ev u a d).spared = s.spared := reads_raiseIf silent_spared s b ev u a d

theorem spared_onLoop (s : State) (m : Fin 4) {f : LoopSt → LoopSt} (hf : ∀ l, (f l).spared = l.spared) :
    (s.onLoop m f).spared = s.spared := by
  have h : (vmod s.loops m f).map LoopSt.spared = s.loops.map LoopSt.spared := vmod_map s.loops m f _ hf
  unfold State.spared
  rw [State.onLoop_loops, h]
  rfl

theorem spared_onPwm_at (s : State) (n : Fin 8) {f : Pwm → Pwm}
    (hf : (f s.pwm[n]).spared (s.switching n) = s.pwm[n].spared (s.switching n)) : (s.onPwm n f).spared = s.spared := by
  have h : (vgen 8 fun j => (s.onPwm n f).pwm[j].spared ((s.onPwm n f).switching j)) = vgen 8 fun j => s.pwm[j].spared (s.switching j) := by
    congr 1
    funext j
    by_cases e : j = n
    · subst e
      rw [State.onPwm_pwm, vmod_self]
      exact hf
    · rw [State.onPwm_pwm, vmod_ne _ _ _ _ e]
      rfl
  unfold State.spared
  rw [h]
  rfl

theorem spared_onPwm (s : State) (n : Fin 8) {f : Pwm → Pwm} (hf : ∀ p on, (f p).spared on = p.spared on) :
    (s.onPwm n f).spared = s.spared := spared_onPwm_at s n (hf _ _)

/-- What reads only what the task leaves reads the same. -/
theorem spared_reads {α : Type} {s t : State} (h : t.spared = s.spared) (k : State → α) (hk : ∀ s, k s.spared = k s) : k t = k s := by
  rw [← hk t, ← hk s, h]

section
variable {s t : State} (h : t.spared = s.spared)
include h

theorem spared_pending : t.pending = s.pending := spared_reads h State.pending fun _ => rfl

theorem spared_switching (j : Fin 8) : t.switching j = s.switching j := spared_reads h (State.switching · j) fun _ => rfl

theorem spared_pwm (j : Fin 8) : t.pwm[j].spared (t.switching j) = s.pwm[j].spared (s.switching j) := by
  have k := congrArg (fun x => (State.pwm x)[j]) h
  simpa only [State.spared, vgen_get] using k

theorem spared_posted (j : Fin 8) : t.pwm[j].posted = s.pwm[j].posted := by
  have k := congrArg Pwm.posted (spared_pwm h j)
  exact k

theorem spared_npUnbal (j : Fin 8) : t.pwm[j].npUnbal = s.pwm[j].npUnbal := by
  have k := congrArg Pwm.npUnbal (spared_pwm h j)
  exact k

theorem spared_stale (m : Fin 4) : t.loops[m].stale = s.loops[m].stale :=
  spared_reads h (fun s => s.loops[m].stale) fun s => by
    rw [State.spared, vmap_get]
    rfl

theorem spared_circHi (m : Fin 4) : t.loops[m].circHi = s.loops[m].circHi :=
  spared_reads h (fun s => s.loops[m].circHi) fun s => by
    rw [State.spared, vmap_get]
    rfl

end

/-! ## Samples -/

theorem spared_popLoopFlows (s : State) (n : Fin 8) : (s.popLoopFlows n).2.spared = s.spared := by
  have h : ((s.popAll (s.taskPort n) (bridgeFlow 0 n)).2.popAll (s.taskPort n) (bridgeFlow 1 n)).2.spared = s.spared :=
    (popAll_reads State.spared (fun _ => rfl) ..).trans (popAll_reads State.spared (fun _ => rfl) ..)
  unfold State.popLoopFlows
  dsimp only
  split
  · exact Eq.trans (spared_onLoop _ _ fun _ => rfl) h
  · exact h

theorem spared_sampleBridge (s : State) (n : Fin 8) (l : List Nat) : (s.sampleBridge n l).spared = s.spared := by
  unfold State.sampleBridge
  dsimp only
  exact Eq.trans (spared_onPwm _ _ fun _ _ => rfl) (spared_onPwm _ _ fun _ _ => rfl)

/-! ## The rank-0 bridge -/

/-- Integrators preset on bridges that switch (R113) are not among what the task leaves. -/
theorem spared_foldl_switching {l : List (Fin 8)} {f : State → Fin 8 → Pwm → Pwm}
    (hf : ∀ s n p, (f s n p).spared true = p.spared true) {s : State} (hl : ∀ n ∈ l, s.switching n = true) :
    (l.foldl (fun s n => s.onPwm n (f s n)) s).spared = s.spared := by
  induction l generalizing s with
  | nil => rfl
  | cons n l ih =>
    have h : (s.onPwm n (f s n)).spared = s.spared := by
      refine spared_onPwm_at s n ?_
      rw [hl n List.mem_cons_self]
      exact hf ..
    refine (ih fun j hj => ?_).trans h
    rw [spared_switching h]
    exact hl j (List.mem_cons_of_mem n hj)

theorem spared_keepVoltage (s : State) (m : Fin 4) (a d : Rat) : (s.keepVoltage m a d).spared = s.spared := by
  unfold State.keepVoltage
  refine spared_foldl_switching ?_ fun _ hn => (List.mem_filter.1 hn).2
  exact fun _ _ _ => rfl

theorem spared_sourceChange (s : State) (m : Fin 4) (src : AngleSrc) (a : Rat) : (s.sourceChange m src a).spared = s.spared := by
  unfold State.sourceChange
  dsimp only
  split
  · rw [spared_onStart]
    split
    · exact spared_keepVoltage ..
    · rfl
  · rfl

theorem spared_backEmfStep (s : State) (m : Fin 4) (iA iB vA vB tl : Rat) : (s.backEmfStep m iA iB vA vB tl).spared = s.spared := by
  unfold State.backEmfStep
  dsimp only
  repeat' split
  all_goals rfl

theorem spared_angleStep (s : State) (m : Fin 4) (n : Fin 8) (iA iB tl : Rat) : (s.angleStep m n iA iB tl).spared = s.spared := by
  unfold State.angleStep
  extract_lets src x st from_ f s0 s1 s2
  have h0 : s0.spared = s.spared := spared_sourceChange ..
  clear_value s0 src
  have h1 : s1.spared = s.spared := by
    refine Eq.trans ?_ h0
    unfold s1
    split
    · exact spared_onStart ..
    · split <;> exact spared_onStart ..
    · exact (spared_onStart ..).trans (spared_onStart ..)
    · exact spared_onStart ..
  have h2 : s2.spared = s.spared := (spared_onStart ..).trans h1
  split
  · exact Eq.trans (spared_onStart ..) (Eq.trans (spared_onLoop _ _ fun _ => rfl) h2)
  · exact h2

theorem spared_weaken (s : State) (m : Fin 4) (vdc tl t : Rat) : (s.weaken m vdc tl t).spared = s.spared :=
  Eq.trans (spared_raiseIf ..) (spared_onLoop _ _ fun _ => rfl)

theorem spared_refStep (s : State) (m : Fin 4) : (s.refStep m).spared = s.spared :=
  Eq.trans (spared_raiseIf ..) (spared_onLoop _ _ fun _ => rfl)

theorem spared_rank0Step (s : State) (m : Fin 4) (n : Fin 8) (tl : Rat) : (s.rank0Step m n tl).spared = s.spared := by
  have watch (a b : Rat) : (if s.start[m].state = .measure then s.emfStep m s.pwm[n].vab[0] s.pwm[n].vab[1] tl
      else s.searchStep m (s.pwm[n].vab[0] * a + s.pwm[n].vab[1] * b)).spared = s.spared := by
    split <;> exact spared_onStart ..
  unfold State.rank0Step
  generalize s.motorAB m = i
  obtain ⟨iA, iB⟩ := i
  dsimp -zeta only
  extract_lets v s0 s2 th id iq s3 tab s4
  have h0 : s0.spared = s.spared := watch iA iB
  clear_value s0
  have h2 : s2.spared = s.spared := ((spared_angleStep ..).trans (spared_backEmfStep ..)).trans h0
  clear_value s2
  have h3 : s3.spared = s.spared := Eq.trans (spared_onStart ..) (Eq.trans (spared_onLoop _ _ fun _ => rfl) h2)
  clear_value s3
  have h4 : s4.spared = s3.spared := by
    unfold s4
    split
    · exact spared_weaken ..
    · exact spared_onLoop _ _ fun _ => rfl
  exact (spared_refStep ..).trans (h4.trans h3)

/-! ## The controller -/

theorem modulate_spared (s : State) (n : Fin 8) (a b c : Rat) : (s.modulate n a b c).1.spared true = s.pwm[n].spared true := by
  unfold State.modulate
  rfl

theorem spared_controlBridge {s : State} {n : Fin 8} (h : s.switching n = true) (m : Fin 4) (tl : Rat) :
    (s.controlBridge m n tl).1.spared = s.spared := by
  have onPwm {x : State} (hx : x.spared = s.spared) {f : Pwm → Pwm} (hf : (f x.pwm[n]).spared true = x.pwm[n].spared true) :
      (x.onPwm n f).spared = s.spared := by
    refine (spared_onPwm_at x n ?_).trans hx
    rw [spared_switching hx, h]
    exact hf
  unfold State.controlBridge
  extract_lets cnt th hz w i id iq out inter was
  split
  next vd vq s1 hctl =>
  have h1 : s1.spared = s.spared := by
    split at hctl
    all_goals
      split at hctl
      cases hctl
      exact onPwm rfl rfl
  extract_lets inj vA vB
  split
  next xc ic dv _ =>
  extract_lets s2
  have h2 : s2.spared = s.spared := onPwm h1 rfl
  split
  next p set hmod =>
  have hp : p.spared true = s2.pwm[n].spared true := by
    rw [← modulate_spared s2 n, hmod]
  extract_lets s3 any s4
  have h3 : s3.spared = s.spared := onPwm h2 hp
  exact Eq.trans (spared_raiseIf ..) (Eq.trans (spared_onLoop _ _ fun _ => rfl) h3)

end Sys2Proof.Machine
end

section
/-! SUPPORT. The three outcomes of the current-loop task (R68, R79, R92): values posted in time, values that come late and are discarded, and
the presets of a bridge that does not switch. -/

namespace Sys2Proof.Machine

/-- The state of an instant before the controller: sampled, a bridge at rest at its presets, and the motor object brought to the instant
by its rank-0 bridge (R79, R80). -/
def State.instant (s : State) (n : Fin 8) : State :=
  let m := s.br[n].mo
  let s1 := (s.popLoopFlows n).2.sampleBridge n (s.popLoopFlows n).1
  let s2 := if s.switching n then s1 else s1.idleBridge m n
  if s.rank0 m = some n then s2.rank0Step m n s.pwm[n].tl else s2

/-- The state and the compare values with which the controller of a bridge leaves an instant. -/
def State.controlled (s : State) (n : Fin 8) : State × CmpSet := (s.instant n).controlBridge s.br[n].mo n s.pwm[n].tl

/-- The task of a running carrier, from its instant on. -/
theorem currentLoop_runs {s : State} {n : Fin 8} (hc : s.conf n = true) (hr : s.pwm[n].run = true) : s.currentLoop n =
    if (s.instant n).switching n then
      if s.pwm[n].missed then
        ((s.controlled n).1.balanceBack n s.br[n].mo).onLoop s.br[n].mo fun l => { l with stale := bump l.stale }
      else ((((s.controlled n).1.balanceBack n s.br[n].mo).onPwm n fun p => { p with posted := some (s.controlled n).2 }).onCmd
        s.br[n].mo fun c => { c with latRuns := c.latRuns.map fun r => r.posts n }).post (s.taskPort n) (bridgeFlow 2 n)
          (itemOf 0 false (s.taskEpoch n) (cmpBytes (s.controlled n).2))
    else ((s.instant n).onLoop s.br[n].mo fun l =>
      { l with run := (s.feeding s.br[n].mo).any fun j => (s.instant n).switching j }).balanceBack n s.br[n].mo := by
  unfold State.currentLoop
  rw [if_neg (by simp [hc, hr, -Fin.getElem_fin])]
  extract_lets m tl
  split
  next stamps s0 hpop =>
  extract_lets s1 s2 s3
  have h3 : s.instant n = s3 := by
    unfold State.instant
    rw [hpop]
  have hset : s.controlled n = s3.controlBridge m n tl := congrArg (State.controlBridge · m n tl) h3
  rw [h3, hset]

/-! ## The instant -/

theorem sampled_spared (s : State) (n : Fin 8) :
    ((s.popLoopFlows n).2.sampleBridge n (s.popLoopFlows n).1).spared = s.spared :=
  (spared_sampleBridge ..).trans (spared_popLoopFlows ..)

/-- The instant of a bridge that switches. -/
theorem instant_spared {s : State} {n : Fin 8} (h : s.switching n = true) : (s.instant n).spared = s.spared := by
  unfold State.instant
  dsimp only
  rw [if_pos h]
  split
  · exact (spared_rank0Step ..).trans (sampled_spared s n)
  · exact sampled_spared s n

/-- A bridge at rest: its integrators stand at their presets. -/
theorem idleBridge_pwm (s : State) (m : Fin 4) (n : Fin 8) : (s.idleBridge m n).pwm[n].spared false =
    { s.pwm[n].spared false with xd := 0, xq := 0, vsat := false } := by
  simp only [State.idleBridge, State.onLoop_pwm, State.onPwm_pwm, vmod_self]
  rfl

theorem idleBridge_circHi (s : State) (m : Fin 4) (n : Fin 8) : (s.idleBridge m n).loops[m].circHi = s.loops[m].circHi := by
  simp only [State.idleBridge, State.onLoop_loops, State.onPwm_loops, vmod_self]

/-- The instant of a bridge that does not switch. -/
theorem instant_idle {s : State} {n : Fin 8} (h : s.switching n = false) : (s.instant n).switching n = false ∧
    (s.instant n).pwm[n].spared false = { s.pwm[n].spared false with xd := 0, xq := 0, vsat := false } ∧
      (s.instant n).loops[s.br[n].mo].circHi = s.loops[s.br[n].mo].circHi := by
  have hs1 := sampled_spared s n
  have hinst : (s.instant n).spared =
      (((s.popLoopFlows n).2.sampleBridge n (s.popLoopFlows n).1).idleBridge s.br[n].mo n).spared := by
    unfold State.instant
    dsimp only
    simp only [h, Bool.false_eq_true, if_false]
    split
    · exact spared_rank0Step ..
    · rfl
  generalize (s.popLoopFlows n).2.sampleBridge n (s.popLoopFlows n).1 = s1 at hs1 hinst
  have hsw : s1.switching n = false := (spared_switching hs1 n).trans h
  have hidle : (s1.idleBridge s.br[n].mo n).switching n = false := hsw
  have hswitch : (s.instant n).switching n = false := (spared_switching hinst n).trans hidle
  have hp := spared_pwm hinst n
  have hp1 := spared_pwm hs1 n
  rw [hswitch, hidle, idleBridge_pwm] at hp
  rw [hsw, h] at hp1
  rw [hp1] at hp
  exact ⟨hswitch, hp, (spared_circHi hinst _).trans ((idleBridge_circHi ..).trans (spared_circHi hs1 _))⟩

/-! ## Outcomes -/

/-- Where no latched condition of balance stands none ends (R75, R77). -/
theorem balanceBack_none {s : State} {n : Fin 8} {m : Fin 4} (hu : s.pwm[n].npUnbal = false) (hh : s.loops[m].circHi = false) :
    s.balanceBack n m = s := by
  unfold State.balanceBack
  extract_lets lim s1 quiet
  have h1 : s1 = s := if_neg fun h => Bool.false_ne_true (hu.symm.trans h.1)
  rw [h1]
  exact if_neg fun h => Bool.false_ne_true (hh.symm.trans h.1)

/-- The end of a latched condition lets the carriers run on. -/
theorem balanceBack_pending (s : State) (n : Fin 8) (m : Fin 4) : (s.balanceBack n m).pending = s.pending := by
  unfold State.balanceBack
  extract_lets lim s1 quiet
  have h1 : s1.pending = s.pending := by
    unfold s1
    split
    · exact Steady.causeGone.pending
    · rfl
  split
  · exact Steady.causeGone.pending.trans h1
  · exact h1

theorem controlled_spared {s : State} {n : Fin 8} (hs : s.switching n = true) : (s.controlled n).1.spared = s.spared :=
  (spared_controlBridge ((spared_switching (instant_spared hs) n).trans hs) ..).trans (instant_spared hs)

section
variable {s : State} {n : Fin 8} (hc : s.conf n = true) (hr : s.pwm[n].run = true)
include hc hr

/-- Values in time are posted. -/
theorem loopTask_posts (hs : s.switching n = true) (hm : s.pwm[n].missed = false) : (s.loopTask n).drives =
    (((s.controlled n).1.balanceBack n s.br[n].mo).onPwm n fun p => { p with posted := some (s.controlled n).2 }).drives := by
  rw [loopTask_drives, currentLoop_runs hc hr, if_pos ((spared_switching (instant_spared hs) n).trans hs),
    if_neg (by rw [hm]; exact Bool.false_ne_true), drives_post, drives_onCmd]

/-- Values that come after the deadline are discarded and counted. -/
theorem loopTask_late (hs : s.switching n = true) (hm : s.pwm[n].missed = true) (hu : s.pwm[n].npUnbal = false)
    (hh : s.loops[s.br[n].mo].circHi = false) : (s.loopTask n).drives =
      ((s.controlled n).1.onLoop s.br[n].mo fun l => { l with stale := bump l.stale }).drives := by
  have spared := controlled_spared hs
  rw [loopTask_drives, currentLoop_runs hc hr, if_pos ((spared_switching (instant_spared hs) n).trans hs), if_pos hm,
    balanceBack_none ((spared_npUnbal spared n).trans hu) ((spared_circHi spared _).trans hh)]

/-- A bridge that does not switch posts nothing. -/
theorem loopTask_rests (hs : s.switching n = false) (hu : s.pwm[n].npUnbal = false) (hh : s.loops[s.br[n].mo].circHi = false) :
    (s.loopTask n).pwm = (s.instant n).pwm := by
  obtain ⟨hswitch, hidle, hcirc⟩ := instant_idle hs
  have hbalance : (s.instant n).pwm[n].npUnbal = false := by
    have kept := congrArg Pwm.npUnbal hidle
    exact kept.trans hu
  rw [(drives_iff.1 (loopTask_drives s n)).1, currentLoop_runs hc hr, if_neg (by rw [hswitch]; exact Bool.false_ne_true), balanceBack_none]
  · exact State.onLoop_pwm ..
  · exact hbalance
  · rw [State.onLoop_loops, vmod_self]
    exact hcirc.trans hh

end

/-- Settles O36: the turning point by what loads and what runs on from there, the task by its three outcomes, and the deadline, the
balance and the counters by one equation each. -/
theorem currentLoops : Obligations.CurrentLoops := by
  refine ⟨?loads, ?holds, ?still, ?posts, ?late, ?rests, ?noTask, ?inTime, ?misses, ?unbalance, ?balanced, ?circ, ?clear⟩
  case loads =>
    intro s n pos c hc hr hp hi ha
    obtain ⟨on, hon, turn⟩ := turningPoint_turns hc hr hi ha pos
    refine ⟨_, rfl, turn.atPeak, turn.turnAt, ?_, turn.posted, ?_, turn.missed, fun hs => ?_, turn.others, turn.pending⟩
    · rw [turn.active, hp]
      rfl
    · rw [turn.hold, hp]
      exact Bool.and_false on
    · rw [turn.prim, hp, hon hs]
      exact Bool.or_true _
  case holds =>
    intro s n pos hc hr hp hi ha
    obtain ⟨on, hon, turn⟩ := turningPoint_turns hc hr hi ha pos
    refine ⟨_, rfl, ?_, turn.posted, turn.atPeak, fun hs => ?_⟩
    · rw [turn.active, hp]
      rfl
    · rw [turn.hold, hp, hon hs]
      rfl
  case still =>
    intro s n pos h
    refine congrArg Host.Outcome.next (if_pos ?_)
    simpa using h
  case posts =>
    intro s n hc hr hs hm
    obtain ⟨hp, hl, hq⟩ := drives_iff.1 (loopTask_posts hc hr hs hm)
    refine ⟨s.loopTask n, rfl, ?_, ?_, fun hu hh => ?_⟩
    · rw [hp, State.onPwm_pwm, vmod_self]
      rfl
    · rw [hq, State.onPwm_pending, balanceBack_pending, spared_pending (controlled_spared hs)]
    · have spared := controlled_spared hs
      rw [hl, State.onPwm_loops, balanceBack_none ((spared_npUnbal spared n).trans hu) ((spared_circHi spared _).trans hh),
        spared_stale spared]
  case late =>
    intro s n hc hr hs hm hu hh
    have spared := controlled_spared hs
    obtain ⟨hp, hl, -⟩ := drives_iff.1 (loopTask_late hc hr hs hm hu hh)
    refine ⟨s.loopTask n, rfl, ?_, ?_⟩
    · rw [hp, State.onLoop_pwm, spared_posted spared]
    · rw [hl, State.onLoop_loops, vmod_self, spared_stale spared]
  case rests =>
    intro s n hc hr hs hu hh
    obtain ⟨-, idle, -⟩ := instant_idle hs
    refine ⟨s.loopTask n, rfl, ?_⟩
    dsimp only
    rw [loopTask_rests hc hr hs hu hh]
    have hposted := congrArg Pwm.posted idle
    exact ⟨congrArg Pwm.xd idle, congrArg Pwm.xq idle, congrArg Pwm.vsat idle, hposted⟩
  case noTask =>
    intro s n h
    have hstop : (!s.conf n) = true ∨ (!s.pwm[n].run) = true := by simpa using h
    have hloop : s.currentLoop n = s := if_pos hstop
    exact congrArg Host.Outcome.next ((if_pos hstop).trans hloop)
  case inTime =>
    intro s n hc hr hs hp
    refine ⟨_, congrArg Host.Outcome.next (deadlinePass_posted hc hr hs hp), vmod_self .., fun j hj => vmod_ne _ _ _ _ hj, rfl⟩
  case misses =>
    intro s n hc hr hs hp
    obtain ⟨hpwm, hloops, -⟩ := drives_iff.1 (deadlinePass_drives s n)
    obtain ⟨hmisses, hmissed, hovr⟩ := deadline_counts hc hr hs hp
    have hkeeps := deadlinePass_keepsAll s n
    have hreacts := deadlinePass_reacts s n
    refine ⟨s.deadlinePass n, rfl, ?_, ?_, fun h => ?_, ?_, fun h => (deadline_logged hc hr hs hp h).keeps hkeeps, fun h => ?_⟩
    · rw [hpwm, hmisses]
    · rw [hpwm, hmissed]
    · rw [hpwm, deadline_missed hc hr hs hp, if_neg h, missCounted_pwm]
    · rw [hloops, hovr]
    · rw [deadline_missed hc hr hs hp, if_pos h] at hloops hkeeps hreacts
      refine ⟨?_, (missFault_logged (missCounted_dev s n)).keeps hkeeps, fun hsev => ?_⟩
      · rw [hloops, missFault_ovr3]
      · rw [hreacts]
        exact missFault_asks hsev
  case unbalance => exact fun s n hc hn hu => ⟨s.npUnbalance n, rfl, npUnbalance_spec hc hn hu⟩
  case balanced =>
    intro s n h
    refine congrArg Host.Outcome.next (if_neg ?_)
    rintro ⟨-, hn, hu⟩
    rcases h with h | h
    · exact Bool.false_ne_true (h.symm.trans hn)
    · rw [h] at hu
      exact Bool.false_ne_true hu
  case circ => exact fun s m hh hb hf => ⟨s.circHigh m, rfl, circHigh_spec hh hb hf⟩
  case clear =>
    intro s m
    refine ⟨s.loopClear m, rfl, vmod_self .., fun j hj => vmod_ne _ _ _ _ hj, fun n => ?_, rfl⟩
    simp [State.loopClear, -Fin.getElem_fin]

end Sys2Proof.Machine
end

section
/-! SUPPORT. What a reaction does to the start machines (R107): it leaves them, or brings the one of its motor object to IDLE. -/

namespace Sys2Proof.Machine

section
variable (s : State) (m : Fin 4)

/-! ## What does not reach a start machine -/

@[simp] theorem stopLinkedAxes_start : (s.stopLinkedAxes m).start = s.start := by
  refine reads_forFin (k := State.start) (fun k s => ?_) s
  split
  · simp [State.axisImmediate, State.axisUncertain]
  · rfl

@[simp] theorem endRender_start : (s.endRender m).start = s.start :=
  stopped_reads (stopped_endRender s m) State.start fun _ => rfl

@[simp] theorem dropHeave_start : (s.dropHeave m).start = s.start := rfl

@[simp] theorem memberOut_start (c : OutCause) : (s.memberOut m c).start = s.start := rfl

@[simp] theorem drainMember_start : (s.drainMember m).start = s.start := rfl

@[simp] theorem brakeToClosed_start : (s.brakeToClosed m).start = s.start := rfl

@[simp] theorem abortShadowsOf_start : (s.abortShadowsOf m).start = s.start := by
  refine reads_forFin (k := State.start) (fun i s => ?_) s
  split
  case h_4 => rfl
  all_goals split <;> simp [State.abortShadow]

@[simp] theorem drumOff_start : (s.drumOff m).start = s.start := by simp [State.drumOff]

/-! ## Bridges -/

theorem offBridge_start (n : Fin 8) (f : Bridge → Bridge) : (s.offBridge n f).start = s.start := by
  unfold State.offBridge
  split <;> rfl

theorem bridgeAsc_start (n : Fin 8) : (s.bridgeAsc n).start = s.start := by
  unfold State.bridgeAsc
  split
  · rw [State.raise_start]
    exact offBridge_start ..
  · rw [State.raise_start]
    exact offBridge_start ..

theorem bridgeExec_start (n : Fin 8) : (s.bridgeExec n).start = s.start := by
  unfold State.bridgeExec
  split
  · split
    · rfl
    · exact offBridge_start ..
  · split
    · exact offBridge_start ..
    · split
      · exact offBridge_start ..
      · split
        · rfl
        · exact bridgeAsc_start ..
  · exact offBridge_start ..
  · dsimp only
    split
    · exact offBridge_start ..
    · rfl

theorem foldl_bridgeExec_start (l : List (Fin 8)) : (l.foldl (fun s n => s.bridgeExec n) s).start = s.start :=
  reads_foldl (k := State.start) bridgeExec_start l s

/-! ## Reactions -/

theorem gatesOff_start (c : OutCause) : (s.gatesOff m c).start = (s.startToIdle m).start := by
  unfold State.gatesOff
  dsimp only
  split <;> simp

theorem execReact_start (r : Reaction) (c : OutCause) :
    (s.execReact m r c).start = s.start ∨ (s.execReact m r c).start = (s.startToIdle m).start := by
  unfold State.execReact
  dsimp only
  split
  case h_1 | h_2 => exact .inl (foldl_bridgeExec_start ..)
  case h_3 | h_4 =>
    left
    split
    · simp [foldl_bridgeExec_start]
    · rw [foldl_bridgeExec_start]
      split <;> simp [requestStop_start]
  case h_5 => exact .inr ((foldl_bridgeExec_start ..).trans (gatesOff_start ..))

theorem react_start (r : React) (c : OutCause) :
    (s.react m r c).start = s.start ∨ (s.react m r c).start = (s.startToIdle m).start := by
  have idle (l : Vector (List React) 4) : ({ s with reacts := l }.startToIdle m).start = (s.startToIdle m).start := by
    unfold State.startToIdle
    dsimp only
    split <;> simp [State.onStart]
  unfold State.react
  dsimp only
  split
  · exact .inl rfl
  · split
    · rw [← idle]
      exact execReact_start ..
    · exact .inl rfl

end

/-! ## The fallback (R104) -/

/-- What a change of one start machine leaves of every machine, the change of the state leaves. -/
theorem onStart_reads {α : Type} {k : Start → α} {f : Start → Start} (hf : ∀ x, k (f x) = k x) (s : State) (m j : Fin 4) :
    k (s.onStart m f).start[j] = k s.start[j] := by
  rw [State.onStart_start]
  by_cases h : j = m
  · rw [h, vmod_self]
    exact hf _
  · rw [vmod_ne _ _ _ _ h]

theorem startToIdle_fallback (s : State) (m j : Fin 4) : (s.startToIdle m).start[j].fallback = s.start[j].fallback := by
  unfold State.startToIdle
  dsimp only
  split
  · rfl
  case h_2 | h_3 =>
    refine onStart_reads (k := Start.fallback) ?_ s m j
    exact fun _ => rfl
  · refine (reads_raise (k := fun s => s.start[j].fallback) (fun _ _ _ => rfl) ..).trans (onStart_reads (k := Start.fallback) ?_ s m j)
    exact fun _ => rfl

theorem reactEv_fallback (s : State) (m j : Fin 4) (ev : Ev) (u : Nat) (sev : Reaction) :
    (s.reactEv m ev u sev).start[j].fallback = s.start[j].fallback := by
  unfold State.reactEv
  rcases react_start s m ⟨some ev, u, sev, true, false⟩ .reaction with h | h
  · rw [h]
  · rw [h, startToIdle_fallback]

end Sys2Proof.Machine
end

section
/-! SUPPORT. Sensor faults (R95, R100, R104): what the motor objects on an interface do when it fails, and what a fault leaves of the
interfaces and on record. -/

namespace Sys2Proof.Machine

/-! ## Requests that stand -/

/-- A request for one motor object leaves those of the others. -/
theorem react_reacts_ne (s : State) {m j : Fin 4} (h : j ≠ m) (r : React) (c : OutCause) :
    (s.react m r c).reacts[j] = s.reacts[j] := by
  unfold State.react
  dsimp only
  split
  · rfl
  · have joined : (vmod s.reacts m fun l => addReact l r)[j] = s.reacts[j] := vmod_ne _ _ _ _ h
    split
    · exact (congrArg (fun v : Vector (List React) 4 => v[j]) (acted_reads (acted_execReact ..) State.reacts fun _ => rfl)).trans joined
    · exact joined

/-- A request of another cause stays in the list that a request joins. -/
theorem mem_addReact {l : List React} {x r : React} (hx : x ∈ l) (hc : x.cause ≠ r.cause) : x ∈ addReact l r := by
  unfold addReact
  split
  · simp [hx, hc]
  · exact List.mem_append_left _ hx

/-- A request that stands is left by a request for another motor object or of another event. -/
theorem reactEv_asked {s : State} {m j : Fin 4} {e ev : Ev} {u : Nat} {sev : Reaction} (h : s.asked m e u sev) (hne : m ≠ j ∨ e ≠ ev)
    (k : Nat) (r : Reaction) : (s.reactEv j ev k r).asked m e u sev := by
  obtain ⟨x, hx, hcause, hrest⟩ := h
  refine ⟨x, ?_, hcause, hrest⟩
  unfold State.reactEv
  by_cases hmj : m = j
  · subst hmj
    by_cases hr : r = .log
    · rwa [State.react, if_pos hr]
    · rw [react_reacts hr]
      refine mem_addReact hx ?_
      rw [hcause]
      exact fun he => hne.elim (fun h => h rfl) fun h => h (Option.some.inj he)
  · rwa [react_reacts_ne s hmj]

/-! ## The decision of a motor object (R104) -/

/-- The motor object goes on with the observer. -/
def State.fallsBack (s : State) (m : Fin 4) : State :=
  (s.onStart m fun x => { x with fallback := true, asrc := .observer }).raise .POS_FALLBACK m

theorem sensorLost_cases (s : State) (m : Fin 4) (ev : Ev) (k : Nat) : s.sensorLost m ev k = s ∨ s.sensorLost m ev k = s.fallsBack m ∨
    s.sensorLost m ev k = s.reactEv m ev k (s.rc Fld.MOTOR_POSREACT m) := by
  unfold State.sensorLost
  dsimp only
  split
  · exact .inl rfl
  · split
    · exact .inr (.inl rfl)
    · exact .inr (.inr rfl)

/-- A motor object that follows its sensor alone reacts. -/
theorem sensorLost_reacts {s : State} {m : Fin 4} (hp : s.n Fld.MOTOR_POSMODE m = 0) (hf : s.start[m].fallback = false) (ev : Ev) (k : Nat) :
    s.sensorLost m ev k = s.reactEv m ev k (s.rc Fld.MOTOR_POSREACT m) := by
  simp [State.sensorLost, hp, hf, -Fin.getElem_fin]

theorem sensorLost_settled (s : State) (m : Fin 4) (ev : Ev) (k : Nat) : (s.sensorLost m ev k).settledFrom = s.settledFrom := by
  rcases sensorLost_cases s m ev k with h | h | h
  · rw [h]
  · rw [h]
    exact reads_raise (k := State.settledFrom) (fun _ _ _ => rfl) ..
  · rw [h]
    exact settled_react ..

theorem sensorLost_keeps (s : State) (m : Fin 4) (ev : Ev) (k : Nat) : KeepsAll s (s.sensorLost m ev k) := by
  rcases sensorLost_cases s m ev k with h | h | h
  · rw [h]
    exact KeepsAll.refl s
  · rw [h]
    exact .raise rfl
  · rw [h]
    exact keeps_react

theorem sensorLost_fallback_ne (s : State) {m j : Fin 4} (hj : j ≠ m) (ev : Ev) (k : Nat) :
    (s.sensorLost m ev k).start[j].fallback = s.start[j].fallback := by
  rcases sensorLost_cases s m ev k with h | h | h
  · rw [h]
  · rw [h]
    refine (reads_raise (k := fun s => s.start[j].fallback) (fun _ _ _ => rfl) ..).trans ?_
    exact congrArg Start.fallback (vmod_ne _ _ _ _ hj)
  · rw [h]
    exact reactEv_fallback ..

theorem sensorLost_asked {s : State} {m j : Fin 4} {e ev : Ev} {u : Nat} {sev : Reaction} (h : s.asked m e u sev) (hne : m ≠ j ∨ e ≠ ev)
    (k : Nat) : (s.sensorLost j ev k).asked m e u sev := by
  rcases sensorLost_cases s j ev k with hc | hc | hc
  · rwa [hc]
  · rw [hc]
    unfold State.asked State.fallsBack
    rwa [State.raise_reacts]
  · rw [hc]
    exact reactEv_asked h hne k _

/-! ## The decisions of all motor objects on an interface -/

/-- The motor objects of a list decide, each for itself. -/
def State.allLost (s : State) (l : List (Fin 4)) (ev : Ev) (k : Nat) : State := l.foldl (fun s m => s.sensorLost m ev k) s

theorem allLost_settled (s : State) (l : List (Fin 4)) (ev : Ev) (k : Nat) : (s.allLost l ev k).settledFrom = s.settledFrom :=
  reads_foldl (k := State.settledFrom) (fun s m => sensorLost_settled s m ev k) l s

theorem allLost_keeps (s : State) (l : List (Fin 4)) (ev : Ev) (k : Nat) : KeepsAll s (s.allLost l ev k) :=
  keeps_foldl (fun s m => sensorLost_keeps s m ev k) l s

theorem allLost_asked {l : List (Fin 4)} {s : State} {m : Fin 4} {e ev : Ev} {u : Nat} {sev : Reaction} (h : s.asked m e u sev)
    (hne : m ∉ l ∨ e ≠ ev) (k : Nat) : (s.allLost l ev k).asked m e u sev := by
  induction l generalizing s with
  | nil => exact h
  | cons j l ih =>
    refine ih (sensorLost_asked h (hne.imp_left fun hm hj => hm (hj ▸ List.mem_cons_self)) k) ?_
    exact hne.imp_left fun hm hl => hm (List.mem_cons_of_mem j hl)

/-- Every motor object of the list that follows its sensor alone has requested its reaction. -/
theorem allLost_asks {l : List (Fin 4)} (hl : l.Nodup) {s : State} {m : Fin 4} (hm : m ∈ l) (hp : s.n Fld.MOTOR_POSMODE m = 0)
    (hf : s.start[m].fallback = false) (hr : s.rc Fld.MOTOR_POSREACT m ≠ .log) (ev : Ev) (k : Nat) :
    (s.allLost l ev k).asked m ev k (s.rc Fld.MOTOR_POSREACT m) := by
  induction l generalizing s with
  | nil => cases hm
  | cons j l ih =>
    obtain ⟨hj, hl⟩ := List.nodup_cons.1 hl
    by_cases hmj : m = j
    · subst hmj
      refine allLost_asked ?_ (.inl hj) k
      dsimp only
      rw [sensorLost_reacts hp hf]
      exact reactEv_asks hr m ev k true
    · have hrest := sensorLost_settled s j ev k
      have hmode : (s.sensorLost j ev k).n Fld.MOTOR_POSMODE m = s.n Fld.MOTOR_POSMODE m :=
        settled_reads (r := fun s => s.n Fld.MOTOR_POSMODE m) (fun _ => rfl) hrest
      have hreact : (s.sensorLost j ev k).rc Fld.MOTOR_POSREACT m = s.rc Fld.MOTOR_POSREACT m :=
        settled_reads (r := fun s => s.rc Fld.MOTOR_POSREACT m) (fun _ => rfl) hrest
      have asked := ih hl ((List.mem_cons.1 hm).resolve_left hmj) (hmode.trans hp) ((sensorLost_fallback_ne s hmj ev k).trans hf)
        (hreact ▸ hr)
      rwa [hreact] at asked

/-! ## A sensor fault (R100) -/

/-- An interface that has failed: VALID is gone, and Z is waited for where the index is used. -/
def PosIf.failed (p : PosIf) (waits : Bool) : PosIf := { p with valid := false, fault := true, needZ := waits }

/-- The fault on record, before the motor objects decide. -/
def State.piFaulted (s : State) (k : Fin 8) (ev : Ev) (trace : PosIf → PosIf) : State :=
  (s.onPi k fun p => (trace p).failed (s.waitsZ k)).raise ev k

theorem namingPi_nodup (s : State) (k : Fin 8) : (s.namingPi k).Nodup := (List.nodup_finRange 4).filter _

theorem posFault_eq (s : State) (k : Fin 8) (ev : Ev) (trace : PosIf → PosIf) : s.posFault k ev trace =
    if s.posIf[k].on ∧ s.n Fld.PI_MODE (8 + k) ≠ 0 then (s.piFaulted k ev trace).allLost (s.namingPi k) ev k else s := rfl

section
variable {s x : State} {k : Fin 8} {ev : Ev} {trace : PosIf → PosIf}

theorem posFault_on (ho : s.posIf[k].on = true) (hm : s.n Fld.PI_MODE (8 + k) ≠ 0) (ev : Ev) (trace : PosIf → PosIf) :
    s.posFault k ev trace = (s.piFaulted k ev trace).allLost (s.namingPi k) ev k := if_pos ⟨ho, hm⟩

theorem piFaulted_reads {α : Type} {r : State → α} (hr : Silent r) (s : State) (k : Fin 8) (ev : Ev) (trace : PosIf → PosIf) :
    r (s.piFaulted k ev trace) = r (s.onPi k fun p => (trace p).failed (s.waitsZ k)) := reads_raise hr ..

theorem piFaulted_keeps (s : State) (k : Fin 8) (ev : Ev) (trace : PosIf → PosIf) : KeepsAll s (s.piFaulted k ev trace) :=
  .raise (State.onPi_recd ..)

theorem piFaulted_reacts (s : State) (k : Fin 8) (ev : Ev) (trace : PosIf → PosIf) : (s.piFaulted k ev trace).reacts = s.reacts :=
  piFaulted_reads (r := State.reacts) (fun _ _ _ => rfl) ..

/-- What the decisions of the motor objects do not reach reads as the fault leaves it. -/
theorem posFault_reads {α : Type} {r : State → α} (hr : ∀ s, r (s.settledFrom State.reset) = r s) (ho : s.posIf[k].on = true)
    (hm : s.n Fld.PI_MODE (8 + k) ≠ 0) (ev : Ev) (trace : PosIf → PosIf) :
    r (s.posFault k ev trace) = r (s.onPi k fun p => (trace p).failed (s.waitsZ k)) := by
  rw [posFault_on ho hm]
  exact (settled_reads hr (allLost_settled ..)).trans (piFaulted_reads (settled_silent hr) ..)

theorem posFault_keeps (s : State) (k : Fin 8) (ev : Ev) (trace : PosIf → PosIf) : KeepsAll s (s.posFault k ev trace) := by
  rw [posFault_eq]
  split
  · exact KeepsAll.trans (piFaulted_keeps s k ev trace) (allLost_keeps _ _ _ _)
  · exact KeepsAll.refl s

/-- The failed interface, and the others as they were. -/
theorem posFault_posIf (ho : s.posIf[k].on = true) (hm : s.n Fld.PI_MODE (8 + k) ≠ 0) (ev : Ev) (trace : PosIf → PosIf) :
    (s.posFault k ev trace).posIf = vmod s.posIf k fun p => (trace p).failed (s.waitsZ k) :=
  posFault_reads (r := State.posIf) (fun _ => rfl) ho hm ev trace

/-- A sensor fault is on record. -/
theorem posFault_logged (ho : x.posIf[k].on = true) (hm : x.n Fld.PI_MODE (8 + k) ≠ 0) (hd : x.dev = s.dev) (hl : ev.code < 0x0C00)
    (trace : PosIf → PosIf) : Logged s (x.posFault k ev trace) ev k := by
  have raised : Logged s (x.piFaulted k ev trace) ev k := by
    unfold State.piFaulted
    exact raise_logged_fast (s := s) (x := x.onPi k _) hd hl k 0 []
  rw [posFault_on ho hm]
  exact raised.keeps (allLost_keeps _ _ _ _)

/-- A fault of one event leaves the requests of another. -/
theorem posFault_asked {m : Fin 4} {e : Ev} {u : Nat} {sev : Reaction} (h : s.asked m e u sev) (hne : e ≠ ev) (k : Fin 8)
    (trace : PosIf → PosIf) : (s.posFault k ev trace).asked m e u sev := by
  rw [posFault_eq]
  split
  · refine allLost_asked ?_ (.inr hne) k
    unfold State.asked
    rwa [piFaulted_reacts]
  · exact h

/-- A motor object on the interface that follows its sensor alone has requested its reaction (R104). -/
theorem posFault_asks {m : Fin 4} (ho : s.posIf[k].on = true) (hm : s.n Fld.PI_MODE (8 + k) ≠ 0) (hn : m ∈ s.namingPi k)
    (hp : s.n Fld.MOTOR_POSMODE m = 0) (hf : s.start[m].fallback = false) (hr : s.rc Fld.MOTOR_POSREACT m ≠ .log) (ev : Ev)
    (trace : PosIf → PosIf) : (s.posFault k ev trace).asked m ev k (s.rc Fld.MOTOR_POSREACT m) := by
  have hreact : (s.piFaulted k ev trace).rc Fld.MOTOR_POSREACT m = s.rc Fld.MOTOR_POSREACT m :=
    piFaulted_reads (r := fun s => s.rc Fld.MOTOR_POSREACT m) (fun _ _ _ => rfl) ..
  have hmode : (s.piFaulted k ev trace).n Fld.MOTOR_POSMODE m = s.n Fld.MOTOR_POSMODE m :=
    piFaulted_reads (r := fun s => s.n Fld.MOTOR_POSMODE m) (fun _ _ _ => rfl) ..
  have hfall : (s.piFaulted k ev trace).start[m].fallback = s.start[m].fallback :=
    piFaulted_reads (r := fun s => s.start[m].fallback) (fun _ _ _ => rfl) ..
  rw [posFault_on ho hm, ← hreact]
  rw [← hreact] at hr
  exact allLost_asks (namingPi_nodup s k) hn (hmode.trans hp) (hfall.trans hf) hr ev k

end

end Sys2Proof.Machine
end

section
/-! SUPPORT. Position interfaces (R95 to R100, R104): a reading of an SSI frame, each fault by what it leaves of its interface, the index, and
VALID where it comes back. -/

namespace Sys2Proof.Machine

/-! ## Readings of an SSI frame (R96, R97) -/

/-- What reads neither the carriers nor the fabric reads the same after a position is posted. -/
theorem postPosition_reads {α : Type} {r : State → α} (hp : ∀ s p, r { s with pwm := p } = r s) (hf : ∀ s, r s.noFab = r s) (s : State)
    (n k : Fin 8) (t : BitVec 64) : r (s.postPosition n k t) = r s := by
  have posted (x : State) (f : Fin 256) (it : Item) : r (x.post 20 f it) = r x := by
    rw [← hf, ← hf x]
    exact congrArg r (postFrom_noFab ..)
  exact (posted ..).trans (hp ..)

/-- The reading of a frame. -/
def State.ssiRead (s : State) (k : Fin 8) (frame : Word) : State :=
  (s.piRead k (s.ssiSteps k frame) 0 (s.q Fld.PI_SSIDLY (8 + k) / 1000000)).onPi k fun p => { p with ssiBad := 0, latFor := tbl 8 false }

theorem ssiDone_reads {α : Type} {r : State → α} (hp : ∀ s p, r { s with pwm := p } = r s) (hf : ∀ s, r s.noFab = r s) {s : State}
    {k : Fin 8} (ho : s.posIf[k].on = true) (hm : s.n Fld.PI_MODE (8 + k) = 4) (frame : Word) :
    r (s.ssiDone k frame) = r (s.ssiRead k frame) := by
  have h : s.ssiDone k frame = forFin 8 (fun n t => if s.posIf[k].latFor[n] then t.postPosition n k s.posIf[k].latAt else t)
    (s.ssiRead k frame) := if_pos ⟨ho, hm⟩
  rw [h]
  refine reads_forFin (fun n t => ?_) _
  split
  · exact postPosition_reads hp hf ..
  · rfl

/-- The parts that a latched position changes, taken from `t`. -/
def State.latchedFrom (s t : State) : State := { s with posIf := t.posIf, pwm := t.pwm, fab := t.fab }

theorem ssiDone_latched {s : State} {k : Fin 8} (ho : s.posIf[k].on = true) (hm : s.n Fld.PI_MODE (8 + k) = 4) (frame : Word) :
    s.ssiDone k frame = s.latchedFrom (s.ssiDone k frame) :=
  ssiDone_reads (r := fun x => x.latchedFrom (s.ssiDone k frame)) (fun _ _ => rfl) (fun _ => rfl) ho hm frame

theorem ssiRead_posIf (s : State) (k : Fin 8) (frame : Word) : (s.ssiRead k frame).posIf[k].ssiBad = 0 ∧
    ∀ j : Fin 8, j ≠ k → (s.ssiRead k frame).posIf[j] = s.posIf[j] := by
  unfold State.ssiRead State.piRead
  refine ⟨?_, fun j hj => ?_⟩
  · rw [State.onPi_posIf, vmod_self]
  · rw [State.onPi_posIf, vmod_ne _ _ _ _ hj]
    exact vmod_ne _ _ _ _ hj

/-- Without a delay of the frame the position is that of the counted steps. -/
theorem ssiRead_pos {s : State} {k : Fin 8} (hm : s.n Fld.PI_MODE (8 + k) = 4) (hd : s.q Fld.PI_SSIDLY (8 + k) = 0) (frame : Word) :
    (s.ssiRead k frame).posIf[k].pos =
      BitVec.ofInt 64 (posCount (s.yes Fld.PI_DIR (8 + k)) (s.piSteps k) (s.posIf[k].count 4 (s.piSteps k) (s.ssiSteps k frame))) := by
  have still (x : Rat) : (x * (0 / 1000000) * 4294967296).floor = 0 := by
    rw [zero_div, mul_zero, zero_mul]
    rfl
  unfold State.ssiRead State.piRead
  rw [State.onPi_posIf, vmod_self, hm, hd]
  dsimp only
  rw [State.onPi_posIf, vmod_self]
  dsimp only
  rw [still, add_zero]

/-! ## One interface changed -/

theorem onPi_congr {s : State} {k : Fin 8} {f g : PosIf → PosIf} (h : f s.posIf[k] = g s.posIf[k]) : s.onPi k f = s.onPi k g := by
  have e : vmod s.posIf k f = vmod s.posIf k g := congrArg (s.posIf.set k.1 · k.2) h
  unfold State.onPi
  rw [e]

theorem onPi_same {s : State} {k : Fin 8} {f : PosIf → PosIf} (h : f s.posIf[k] = s.posIf[k]) : s.onPi k f = s := by
  rw [onPi_congr (g := id) h]
  simp [State.onPi, vmod]

/-! ## VALID comes back (R100) -/

/-- An interface against which nothing of R100 stands any more is VALID. -/
def PosIf.rechecked (p : PosIf) : PosIf :=
  { p with valid := p.valid || (p.on && !p.first && !p.fault && !p.ampBad && !p.needZ) }

/-- What the end of a reaction does not reach reads as VALID leaves it. -/
theorem posRecheck_reads {α : Type} {r : State → α} (hr : ∀ s, r (s.settledFrom State.reset) = r s) (s : State) (k : Fin 8) :
    r (s.posRecheck k) = r (s.onPi k PosIf.rechecked) := by
  unfold State.posRecheck
  dsimp only
  split
  next h =>
    obtain ⟨on, first, -, fault, amp, z⟩ := h
    have back (x : State) : r (x.posBack k) = r x := (causeGoneAll_reads hr ..).trans (causeGoneAll_reads hr ..)
    rw [back]
    refine congrArg r (onPi_congr ?_)
    simp only [PosIf.rechecked, on, first, fault, amp, z, Bool.and_self, Bool.or_true]
  next h =>
    refine congrArg r (onPi_same ?_).symm
    have stays : s.posIf[k].valid = true ∨ (s.posIf[k].on && !s.posIf[k].first && !s.posIf[k].fault && !s.posIf[k].ampBad &&
        !s.posIf[k].needZ) = false := by
      by_contra hc
      simp only [not_or, Bool.not_eq_true, Bool.not_eq_false, Bool.and_eq_true] at hc
      obtain ⟨valid, ⟨⟨⟨on, first⟩, fault⟩, amp⟩, z⟩ := hc
      exact h ⟨on, first, by rw [valid]; rfl, fault, amp, z⟩
    unfold PosIf.rechecked
    rcases stays with h | h
    · rw [h, Bool.true_or, ← h]
    · rw [h, Bool.or_false]

theorem posRecheck_posIf (s : State) (k : Fin 8) : (s.posRecheck k).posIf = vmod s.posIf k PosIf.rechecked :=
  posRecheck_reads (r := State.posIf) (fun _ => rfl) s k

/-! ## Faults by their traces (R100) -/

/-- A fault of an interface that has just been changed. -/
theorem onPi_posFault {s : State} {k : Fin 8} (ho : s.posIf[k].on = true) (hm : s.n Fld.PI_MODE (8 + k) ≠ 0) {f : PosIf → PosIf}
    (hf : ∀ p, (f p).on = p.on) {ev : Ev} (hl : ev.code < 0x0C00) (trace : PosIf → PosIf) :
    ((s.onPi k f).posFault k ev trace).posIf[k] = (trace (f s.posIf[k])).failed (s.waitsZ k) ∧
      Logged s ((s.onPi k f).posFault k ev trace) ev k := by
  have changed : (s.onPi k f).posIf[k] = f s.posIf[k] := vmod_self ..
  have on : (s.onPi k f).posIf[k].on = true := by
    rw [changed, hf]
    exact ho
  refine ⟨?_, posFault_logged on hm rfl hl trace⟩
  rw [posFault_posIf on hm, vmod_self, changed]
  rfl

/-! ### Illegal transitions -/

/-- The illegal transitions of the last millisecond, with those of now. -/
def State.illegals (s : State) (k : Fin 8) (count : Nat) : List Nat :=
  (s.posIf[k].badAt.filter fun t => decide (s.up < t + ms)) ++ List.replicate count s.up

/-- An interface with illegal transitions counted, of which the last five are kept. -/
def PosIf.illegalCounted (p : PosIf) (recent : List Nat) (count : Nat) : PosIf :=
  { p with err := bumpBy p.err count, badAt := recent.drop (recent.length - 5) }

section
variable {s : State} {k : Fin 8} {count : Nat}

theorem illegal_eq (s : State) (k : Fin 8) (count : Nat) : s.illegal k count =
    if s.n Fld.PI_MODE (8 + k) = 1 ∧ 4 < (s.illegals k count).length then
      (s.onPi k fun p => p.illegalCounted (s.illegals k count) count).posFault k .POS_FAULT fun p => { p with illegal := true }
    else s.onPi k fun p => p.illegalCounted (s.illegals k count) count := rfl

/-- More than four within a millisecond are a fault. -/
theorem illegal_fault (ho : s.posIf[k].on = true) (hm : s.n Fld.PI_MODE (8 + k) = 1) (hc : 4 < (s.illegals k count).length) :
    (s.illegal k count).posIf[k] =
        PosIf.failed { s.posIf[k].illegalCounted (s.illegals k count) count with illegal := true } (s.waitsZ k) ∧
      Logged s (s.illegal k count) .POS_FAULT k := by
  rw [illegal_eq, if_pos ⟨hm, hc⟩]
  refine onPi_posFault ho ?_ ?_ (by decide) _
  · rw [hm]
    exact Nat.one_ne_zero
  · exact fun _ => rfl

/-- What an illegal transition leaves of an interface beside its trace. -/
theorem illegal_counts (ho : s.posIf[k].on = true) : (s.illegal k count).posIf[k].zSeen = s.posIf[k].zSeen ∧
    (s.illegal k count).posIf[k].zOfs = s.posIf[k].zOfs ∧ (s.illegal k count).posIf[k].lastZ = s.posIf[k].lastZ ∧
      (s.illegal k count).posIf[k].err = bumpBy s.posIf[k].err count := by
  by_cases h : s.n Fld.PI_MODE (8 + k) = 1 ∧ 4 < (s.illegals k count).length
  · rw [(illegal_fault ho h.1 h.2).1]
    exact ⟨rfl, rfl, rfl, rfl⟩
  · have counted : (s.illegal k count).posIf[k] = s.posIf[k].illegalCounted (s.illegals k count) count := by
      rw [illegal_eq, if_neg h]
      exact vmod_self ..
    rw [counted]
    exact ⟨rfl, rfl, rfl, rfl⟩

theorem illegals_many (h : 5 ≤ count) : 4 < (s.illegals k count).length := by
  unfold State.illegals
  rw [List.length_append, List.length_replicate]
  omega

/-- Transitions that are a millisecond old do not count. -/
theorem illegals_old (h : ∀ x ∈ s.posIf[k].badAt, x + 1000000 ≤ s.up) : s.illegals k count = List.replicate count s.up := by
  have gone : (s.posIf[k].badAt.filter fun t => decide (s.up < t + ms)) = [] :=
    List.filter_eq_nil_iff.2 fun x hx => by
      rw [decide_eq_true_eq]
      exact Nat.not_lt.2 (h x hx)
  rw [State.illegals, gone, List.nil_append]

theorem illegal_few (hc : count ≤ 4) (hb : ∀ x ∈ s.posIf[k].badAt, x + 1000000 ≤ s.up) : s.illegal k count =
    s.onPi k fun p => { p with err := bumpBy p.err count, badAt := List.replicate count s.up } := by
  have few : ¬(s.n Fld.PI_MODE (8 + k) = 1 ∧ 4 < (s.illegals k count).length) := by
    rw [illegals_old hb, List.length_replicate]
    omega
  have all : (List.replicate count s.up).drop ((List.replicate count s.up).length - 5) = List.replicate count s.up := by
    rw [List.length_replicate, Nat.sub_eq_zero_of_le (by omega), List.drop_zero]
  rw [illegal_eq, if_neg few, illegals_old hb]
  unfold PosIf.illegalCounted
  rw [all]

end

/-! ### The amplitude, frames and the excitation -/

section
variable {s : State} {k : Fin 8}

theorem amplitude_inside {amp : Rat} (h0 : 1 / 2 ≤ amp) (h1 : amp ≤ 3 / 2) : s.amplitude k amp =
    s.onPi k fun p => { p with amp := amp, ampLo := false, ampBad := false } := by
  have inside : decide (amp < 1 / 2 ∨ 3 / 2 < amp) = false := decide_eq_false (not_or.2 ⟨not_lt.2 h0, not_lt.2 h1⟩)
  unfold State.amplitude
  simp only [inside, Bool.false_eq_true, if_false]

theorem amplitude_outside {amp : Rat} (h : amp < 1 / 2 ∨ 3 / 2 < amp) : s.amplitude k amp =
    (s.onPi k fun p => { p with amp := amp, ampBad := true, ampLo := true }).posFault k .POS_FAULT id := by
  unfold State.amplitude
  simp only [decide_eq_true h, if_true]

/-- A failed excitation is a fault of its own and a sensor fault too (R95). -/
def State.excited (s : State) (k : Fin 8) : State :=
  (s.posFault k .EXC_FAULT fun p => { p with excf := true }).posFault k .POS_FAULT id

section
variable (ho : s.posIf[k].on = true) (hm : s.n Fld.PI_MODE (8 + k) ≠ 0)
include ho hm

/-- The fault of the excitation leaves the interface on and of its kind. -/
theorem excFirst_here : (s.posFault k .EXC_FAULT fun p => { p with excf := true }).posIf[k] =
      PosIf.failed { s.posIf[k] with excf := true } (s.waitsZ k) ∧
    (s.posFault k .EXC_FAULT fun p => { p with excf := true }).n Fld.PI_MODE (8 + k) ≠ 0 := by
  constructor
  · rw [posFault_posIf ho hm, vmod_self]
  · rw [posFault_reads (r := fun s => s.n Fld.PI_MODE (8 + k)) (fun _ => rfl) ho hm]
    exact hm

theorem excited_spec : (s.excited k).posIf[k].excf = true ∧ (s.excited k).posIf[k].valid = false ∧ Logged s (s.excited k) .EXC_FAULT k := by
  obtain ⟨here, mode⟩ := excFirst_here ho hm
  have on : (s.posFault k .EXC_FAULT fun p => { p with excf := true }).posIf[k].on = true := by
    rw [here]
    exact ho
  have both := posFault_posIf on mode .POS_FAULT id
  have logged : Logged s (s.excited k) .EXC_FAULT k :=
    (posFault_logged ho hm rfl (by decide) _).keeps (posFault_keeps _ _ _ _)
  refine ⟨?_, ?_, logged⟩
  all_goals
    unfold State.excited
    rw [both, vmod_self, here]
    rfl

theorem excited_asks {m : Fin 4} (hn : m ∈ s.namingPi k) (hp : s.n Fld.MOTOR_POSMODE m = 0) (hf : s.start[m].fallback = false)
    (hr : s.rc Fld.MOTOR_POSREACT m ≠ .log) : (s.excited k).asked m .EXC_FAULT k (s.rc Fld.MOTOR_POSREACT m) :=
  posFault_asked (posFault_asks ho hm hn hp hf hr .EXC_FAULT _) (by decide) k id

end

end

/-! ## The index (R99) -/

section
variable {s : State} {k : Fin 8} {x : Int}

/-- The position of a count in turns. -/
def State.turnsAt (s : State) (k : Fin 8) (x : Int) : Rat :=
  (posCount (s.yes Fld.PI_DIR (8 + k)) (s.piSteps k) x : Rat) / 4294967296

/-- An interface that has seen Z. -/
def PosIf.indexed (p : PosIf) (x : Int) : PosIf := { p with zSeen := true, lastZ := some x, needZ := false }

section
variable (ho : s.posIf[k].on = true) (hm : s.n Fld.PI_MODE (8 + k) = 1 ∨ s.n Fld.PI_MODE (8 + k) = 2)
  (hz : s.yes Fld.PI_ZUSE (8 + k) = true)
include ho hm hz

theorem indexPulse_used : ¬((!s.posIf[k].on) = true ∨ (s.n Fld.PI_MODE (8 + k) ≠ 1 ∧ s.n Fld.PI_MODE (8 + k) ≠ 2) ∨
    (!s.yes Fld.PI_ZUSE (8 + k)) = true) := by
  rw [ho, hz]
  rintro (h | ⟨h1, h2⟩ | h)
  · exact Bool.false_ne_true h
  · exact hm.elim h1 h2
  · exact Bool.false_ne_true h

/-- The first Z sets the offset. -/
theorem indexPulse_first (hl : s.posIf[k].lastZ = none) (hf : s.posIf[k].found = false) : (s.indexPulse k x).posIf =
    vmod s.posIf k fun p => PosIf.rechecked { p.indexed x with zOfs := s.turnsAt k x, abs := true, found := true } := by
  have e : s.indexPulse k x =
      ((s.onPi k fun p => p.indexed x).onPi k fun p => { p with zOfs := s.turnsAt k x, abs := true, found := true }).posRecheck k := by
    unfold State.indexPulse
    dsimp only
    rw [if_neg (indexPulse_used ho hm hz), hl, hf]
    rfl
  rw [e, posRecheck_posIf, State.onPi_posIf, State.onPi_posIf, vmod_vmod, vmod_vmod]
  rfl

/-- A later Z is checked for its place. -/
theorem indexPulse_later {z : Int} (hl : s.posIf[k].lastZ = some z) : s.indexPulse k x =
    (if s.zInPlace k z x then s.onPi k fun p => p.indexed x else (s.onPi k fun p => p.indexed x).illegal k 1).posRecheck k := by
  unfold State.indexPulse
  dsimp only
  rw [if_neg (indexPulse_used ho hm hz), hl]
  rfl

theorem indexPulse_checks {z : Int} (hl : s.posIf[k].lastZ = some z) : (s.indexPulse k x).posIf[k].zSeen = true ∧
    (s.indexPulse k x).posIf[k].zOfs = s.posIf[k].zOfs ∧ (s.indexPulse k x).posIf[k].lastZ = some x ∧
      (s.indexPulse k x).posIf[k].err = if s.zInPlace k z x then s.posIf[k].err else bumpBy s.posIf[k].err 1 := by
  have seen : (s.onPi k fun p => p.indexed x).posIf[k] = s.posIf[k].indexed x := vmod_self ..
  by_cases place : s.zInPlace k z x = true
  · rw [indexPulse_later ho hm hz hl, if_pos place, if_pos place, posRecheck_posIf, vmod_self, seen]
    exact ⟨rfl, rfl, rfl, rfl⟩
  · have on : (s.onPi k fun p => p.indexed x).posIf[k].on = true := by
      rw [seen]
      exact ho
    obtain ⟨hseen, hofs, hlast, herr⟩ := illegal_counts (count := 1) on
    rw [seen] at hseen hofs hlast herr
    rw [indexPulse_later ho hm hz hl, if_neg place, if_neg place, posRecheck_posIf, vmod_self]
    exact ⟨hseen, hofs, hlast, herr⟩

end

end

/-! ## A mismatch, and the error clear (R100, R104) -/

/-- A change of one start machine that is told. -/
theorem onStart_raise_spec (s : State) (m : Fin 4) (f : Start → Start) (ev : Ev) (u a : Nat) (d : List Byte) :
    ((s.onStart m f).raise ev u a d).start = vmod s.start m f ∧ Logged s ((s.onStart m f).raise ev u a d) ev u a d ∧
      (s.onStart m f).raise ev u a d = { s with
        start := ((s.onStart m f).raise ev u a d).start, recd := ((s.onStart m f).raise ev u a d).recd
        cap := ((s.onStart m f).raise ev u a d).cap } := by
  refine ⟨State.raise_start .., raise_logged_of s _ _ _ _ _ rfl rfl, ?_⟩
  obtain ⟨r, c, h⟩ := raise_recOnly (s.onStart m f) ev u a d
  rw [h]
  rfl

/-- An interface with its errors cleared. -/
def PosIf.errorsCleared (p : PosIf) : PosIf :=
  { p with excf := false, illegal := false, lineBrk := false, ssiErr := false, fault := false, zSeen := false, err := .zero }

theorem piClear_posIf (s : State) (k : Fin 8) : (s.piClear k).posIf = vmod s.posIf k fun p => p.errorsCleared.rechecked := by
  have e : s.piClear k = (s.onPi k PosIf.errorsCleared).posRecheck k := rfl
  rw [e, posRecheck_posIf, State.onPi_posIf, vmod_vmod]
  rfl

/-! ## The statement -/

/-- Settles O38: a frame by its reading, each fault as a fault of an interface just changed, the index by its two cases, and what the end of
a request does not reach for the two commands that may bring VALID back. -/
theorem positionInterfaces : Obligations.PositionInterfaces := by
  refine ⟨?frame, ?noFrame, ?lineBreak, ?illegalMany, ?illegalFew, ?ampOut, ?ampIn, ?badFrame, ?badFrames, ?exc, ?excAsks, ?index, ?laterIndex,
    ?mismatch, ?clear⟩
  case frame =>
    intro s k frame ho hm hd
    have pis := ssiDone_reads (r := State.posIf) (fun _ _ => rfl) (fun _ => rfl) ho hm frame
    obtain ⟨bad, others⟩ := ssiRead_posIf s k frame
    refine ⟨s.ssiDone k frame, rfl, ?_, ?_, ?_, ssiDone_latched ho hm frame⟩
    · rw [pis]
      exact ssiRead_pos hm hd frame
    · rw [pis]
      exact bad
    · rw [pis]
      exact others
  case noFrame =>
    intro s k frame h
    refine congrArg Host.Outcome.next (if_neg ?_)
    rintro ⟨ho, hm⟩
    rcases h with h | h
    · exact Bool.false_ne_true (h.symm.trans ho)
    · exact h hm
  case lineBreak =>
    intro s k ho hm
    have mode : s.n Fld.PI_MODE (8 + k) ≠ 0 := hm.elim (·.trans_ne one_ne_zero) (·.trans_ne two_ne_zero)
    have here := posFault_posIf ho mode .POS_FAULT fun p => { p with lineBrk := true }
    refine ⟨_, congrArg Host.Outcome.next (if_pos hm), ?_, posFault_logged ho mode rfl (by decide) _, fun j hj => ?_⟩
    · rw [here, vmod_self]
      rfl
    · rw [here, vmod_ne _ _ _ _ hj]
  case illegalMany =>
    intro s k count ho hm hc
    obtain ⟨here, logged⟩ := illegal_fault ho hm (illegals_many hc)
    obtain ⟨-, -, -, err⟩ := illegal_counts (count := count) ho
    refine ⟨s.illegal k count, congrArg Host.Outcome.next (if_pos ⟨hm, ho⟩), ?_, err, ?_, logged⟩ <;> rw [here] <;> rfl
  case illegalFew =>
    intro s k count ho hm hc hb
    exact ⟨_, congrArg Host.Outcome.next ((if_pos ⟨hm, ho⟩).trans (illegal_few hc hb)), vmod_self .., fun j hj => vmod_ne _ _ _ _ hj, rfl⟩
  case ampOut =>
    intro s k amp ho hm ha
    have mode : s.n Fld.PI_MODE (8 + k) ≠ 0 := hm.elim (·.trans_ne two_ne_zero) (·.trans_ne three_ne_zero)
    obtain ⟨here, logged⟩ := onPi_posFault ho mode (f := fun p => { p with amp := amp, ampBad := true, ampLo := true }) (fun _ => rfl)
      (ev := .POS_FAULT) (by decide) id
    refine ⟨_, congrArg Host.Outcome.next ((if_pos hm).trans (amplitude_outside ha)), ?_, ?_, ?_, logged⟩ <;> rw [here] <;> rfl
  case ampIn =>
    intro s k amp hm h0 h1
    exact ⟨_, congrArg Host.Outcome.next ((if_pos hm).trans (amplitude_inside h0 h1)), vmod_self .., rfl⟩
  case badFrame =>
    intro s k _ hm hb
    refine ⟨s.onPi k fun p => { p with err := bump p.err, ssiBad := p.ssiBad + 1 },
      congrArg Host.Outcome.next ((if_pos hm).trans (if_neg ?_)), ?_, rfl⟩
    · rw [hb]
      decide
    · rw [State.onPi_posIf, vmod_self, hb]
  case badFrames =>
    intro s k ho hm hb
    obtain ⟨here, logged⟩ := onPi_posFault ho (hm.trans_ne four_ne_zero) (f := fun p => { p with err := bump p.err, ssiBad := p.ssiBad + 1 })
      (fun _ => rfl) (ev := .POS_FAULT) (by decide) fun p => { p with ssiErr := true }
    refine ⟨_, congrArg Host.Outcome.next ((if_pos hm).trans (if_pos (Nat.succ_le_succ hb))), ?_, ?_, logged⟩ <;> rw [here] <;> rfl
  case exc =>
    exact fun s k ho hm => ⟨s.excited k, congrArg Host.Outcome.next (if_pos hm), excited_spec ho (hm.trans_ne three_ne_zero)⟩
  case excAsks =>
    exact fun s k m ho hm hn hp hf hr =>
      ⟨s.excited k, congrArg Host.Outcome.next (if_pos hm), excited_asks ho (hm.trans_ne three_ne_zero) hn hp hf hr⟩
  case index =>
    intro s k x ho hm hz hl hf
    have here := indexPulse_first (x := x) ho hm hz hl hf
    refine ⟨s.indexPulse k x, rfl, ?_⟩
    dsimp only
    rw [here, vmod_self]
    exact ⟨rfl, rfl, rfl, rfl, rfl, fun j hj => vmod_ne _ _ _ _ hj⟩
  case laterIndex => exact fun s k x z ho hm hz hl => ⟨s.indexPulse k x, rfl, indexPulse_checks ho hm hz hl⟩
  case mismatch =>
    intro s m hp hlock hf
    have acts : s.mismatch m = (s.onStart m fun x => { x with mismAt := some s.up }).raise .POS_MISMATCH m :=
      if_pos ⟨hp, hlock, by rw [hf]; rfl⟩
    obtain ⟨start, logged, rest⟩ := onStart_raise_spec s m (fun x => { x with mismAt := some s.up }) .POS_MISMATCH m 0 []
    refine ⟨_, congrArg Host.Outcome.next acts, ?_, fun j hj => ?_, logged, rest⟩
    · rw [start, vmod_self]
    · rw [start, vmod_ne _ _ _ _ hj]
  case clear =>
    intro s k
    refine ⟨s.piClear k, rfl, ?_, fun j hj => ?_⟩
    · rw [piClear_posIf, vmod_self]
      simp only [PosIf.rechecked, PosIf.errorsCleared, Bool.not_false, Bool.and_true]
    · rw [piClear_posIf, vmod_ne _ _ _ _ hj]

end Sys2Proof.Machine
end

section
/-! SUPPORT. The operations of a start (R107 to R113): what entering RUN leaves, gates that go on, and a failed attempt. -/

namespace Sys2Proof.Machine

section
variable (s : State) (m : Fin 4)

/-! ## Entering RUN (R108, R134, R147) -/

theorem toStart_here (st : StartState) : (s.toStart m st).start[m] = { s.start[m] with state := st, since := s.up } := vmod_self ..

/-- A start machine in RUN, entered at a time with an electrical frequency. -/
def Start.running (x : Start) (up : Nat) (hz : Rat) : Start :=
  { x with state := .run, since := up, turning := false, caught := x.caught || x.turning, fHz := hz }

/-- The outer loop takes over at the measured speed. -/
def State.takenOver (s : State) (m : Fin 4) : State :=
  (((s.toStart m .run).onStart m fun x => { x with
      turning := false, caught := x.caught || s.start[m].turning, fHz := s.elecHz m x.spd }).onCmd m fun c => { c with
        latRuns := [], refSpd := s.rpm m, ref := if s.outer[m].mode = .speed then s.rpm m else c.ref }).onOuter m fun o => { o with
          wRefPrev := s.omega m, wPrev := s.omega m, wHat := s.omega m, tLoad := o.tPrev }

/-- RUN, before the brake sequence begins. -/
def State.ran (s : State) (m : Fin 4) : State := ((s.takenOver m).raiseIf s.start[m].turning .CATCH_DONE m).genMeasured m

/-- What the brake sequence, the generator and the recorder do not reach reads as the outer loop leaves it. -/
theorem ran_reads {α : Type} {k : State → α} (hk : Silent k) (hg : ∀ s f, k (State.onGen s m f) = k s) : k (s.ran m) = k (s.takenOver m) :=
  (hg ..).trans (reads_raiseIf hk ..)

theorem enterRun_eq : s.enterRun m = if s.braked m ∧ s.runsHere m ∧ (s.ran m).brake[m].state = .closed then
    (s.ran m).onBrake m fun b => { b with state := .proving, since := s.up, proved := false, start := s.shaft m } else s.ran m := by
  have brake : (s.ran m).brake = s.brake := ran_reads s m (k := State.brake) (fun _ _ _ => rfl) fun _ _ => rfl
  rw [brake]
  rfl

theorem enterRun_reads {α : Type} {k : State → α} (hk : ∀ s f, k (State.onBrake s m f) = k s) : k (s.enterRun m) = k (s.ran m) := by
  rw [enterRun_eq]
  split
  · exact hk ..
  · rfl

theorem enterRun_start : (s.enterRun m).start[m] = s.start[m].running s.up (s.elecHz m (s.rpm m)) := by
  have taken : (s.takenOver m).start[m] = s.start[m].running s.up (s.elecHz m (s.rpm m)) := by
    have e : (s.takenOver m).start = vmod (vmod s.start m fun x => { x with state := .run, since := s.up }) m fun x => { x with
      turning := false, caught := x.caught || s.start[m].turning, fHz := s.elecHz m x.spd } := rfl
    rw [e, vmod_self, vmod_self]
    rfl
  have ran := (enterRun_reads s m (k := State.start) fun _ _ => rfl).trans (ran_reads s m (fun _ _ _ => rfl) fun _ _ => rfl)
  rw [ran, taken]

theorem enterRun_br : (s.enterRun m).br = s.br :=
  (enterRun_reads s m (k := State.br) fun _ _ => rfl).trans (ran_reads s m (k := State.br) (fun _ _ _ => rfl) fun _ _ => rfl)

/-- A motor that turns has been caught. -/
theorem enterRun_logged (h : s.start[m].turning = true) : Logged s (s.enterRun m) .CATCH_DONE m := by
  have told : Logged s ((s.takenOver m).raiseIf s.start[m].turning .CATCH_DONE m) .CATCH_DONE m :=
    raiseIf_logged_of (s := s) (x := s.takenOver m) h rfl rfl .CATCH_DONE m 0 []
  exact told.of_recd (enterRun_reads s m (k := State.recd) fun _ _ => rfl)

/-- A closed brake is proved where the brake sequence runs. -/
theorem enterRun_proves (hb : s.braked m = true) (hr : s.runsHere m = true) (hc : s.brake[m].state = .closed) :
    (s.enterRun m).brake[m].state = .proving := by
  have brake : (s.ran m).brake = s.brake := ran_reads s m (k := State.brake) (fun _ _ _ => rfl) fun _ _ => rfl
  have closed : (s.ran m).brake[m].state = .closed := by
    rw [brake]
    exact hc
  rw [enterRun_eq, if_pos ⟨hb, hr, closed⟩, State.onBrake_brake, vmod_self]

/-! ## The observer and the count offset placed (R99, R102) -/

/-- A start machine with the observer placed. -/
def Start.placed (x : Start) (th w lamA lamB : Rat) : Start :=
  { x with obsAng := th, wPll := w, lamA := lamA, lamB := lamB, obsErr := 0, lockCnt := 0, locked := false }

theorem obsPlace_eq (th w iA iB : Rat) : ∃ lamA lamB, s.obsPlace m th w iA iB = s.onStart m fun x => x.placed th w lamA lamB :=
  ⟨_, _, rfl⟩

theorem obsPlace_here (th w iA iB : Rat) : ∃ lamA lamB, (s.obsPlace m th w iA iB).start[m] = s.start[m].placed th w lamA lamB :=
  ⟨_, _, vmod_self ..⟩

theorem setOffset_reads {α : Type} {k : State → α} (hk : ∀ s j f, k (State.onPi s j f) = k s) (a : Rat) : k (s.setOffset m a) = k s := by
  unfold State.setOffset
  split
  · exact hk ..
  · rfl

/-! ## Gates (R107) -/

/-- The modulator drives a bridge that is enabled and under no reaction of PULSE_BLOCK or harder. -/
def Bridge.driven (b : Bridge) : Bridge := if b.enabled && decide (b.exec_.rank < 4) then { b with form := .run } else b

theorem driven_form {b : Bridge} (he : b.enabled = true) (hr : b.exec_.rank < 4) : b.driven.form = .run := by
  simp [Bridge.driven, he, hr]

theorem driven_keeps (b : Bridge) : b.driven.enabled = b.enabled ∧ b.driven.exec_ = b.exec_ := by
  unfold Bridge.driven
  split <;> exact ⟨rfl, rfl⟩

/-- A bridge of the list that can be driven is, and one that is driven stays so. -/
theorem foldl_driven_form (l : List (Fin 8)) (s : State) {j : Fin 8} (he : s.br[j].enabled = true) (hr : s.br[j].exec_.rank < 4)
    (h : j ∈ l ∨ s.br[j].form = .run) : (l.foldl (fun s n => s.onBr n Bridge.driven) s).br[j].form = .run := by
  induction l generalizing s with
  | nil => simpa using h
  | cons n l ih =>
    dsimp only [List.foldl_cons]
    by_cases hj : j = n
    · have here : (s.onBr n Bridge.driven).br[j] = s.br[j].driven := by
        subst hj
        exact vmod_self ..
      obtain ⟨enabled, exec_⟩ := driven_keeps s.br[j]
      rw [← here] at enabled exec_
      exact ih _ (enabled.trans he) (exec_ ▸ hr) (.inr (here ▸ driven_form he hr))
    · have other : (s.onBr n Bridge.driven).br[j] = s.br[j] := vmod_ne _ _ _ _ hj
      rw [← other] at he hr h
      exact ih _ he hr (h.imp_left fun h => (List.mem_cons.1 h).resolve_left hj)

theorem gatesOn_form {n : Fin 8} (hn : n ∈ s.feeding m) (he : s.br[n].enabled = true) (hr : s.br[n].exec_.rank < 4) :
    (s.gatesOn m).br[n].form = .run := foldl_driven_form (s.feeding m) s he hr (.inl hn)

/-- What does not read the bridges reads the same when gates go on. -/
theorem gatesOn_reads {α : Type} {k : State → α} (hk : ∀ s n f, k (State.onBr s n f) = k s) : k (s.gatesOn m) = k s :=
  reads_foldl (fun s n => hk s n _) (s.feeding m) s

/-! ## A failed attempt (R107, R111) -/

/-- A start machine whose attempt has failed. -/
def Start.attemptFailed (x : Start) (reason : Nat) : Start := { x with reason := reason, fail := bump x.fail, turning := false }

/-- Gates off, and the failed attempt on record. -/
def State.attemptOver (s : State) (m : Fin 4) (reason : Nat) : State :=
  ((s.gatesIdle m).onStart m fun x => x.attemptFailed reason).raise .START_ATTEMPT_FAILED m reason

theorem attemptFails_eq (reason : Nat) : s.attemptFails m reason =
    if s.start[m].retry < s.n Fld.MOTOR_STARTRETRY m then
      ((s.attemptOver m reason).onStart m fun x => { x with retry := x.retry + 1 }).toStart m .pause
    else ((s.attemptOver m reason).toStart m .failed).raise .START_FAILED m := rfl

theorem attemptOver_dev (reason : Nat) : (s.attemptOver m reason).dev = s.dev := by
  rw [State.attemptOver, State.raise_dev, State.onStart_dev]
  exact gatesIdle_reads State.dev (fun _ => rfl) s m

theorem attemptOver_spec (reason : Nat) : (s.attemptOver m reason).start[m] = s.start[m].attemptFailed reason ∧
    Logged s (s.attemptOver m reason) .START_ATTEMPT_FAILED m reason ∧
      ∀ n ∈ s.feeding m, (s.attemptOver m reason).br[n].form ≠ .run := by
  have same : ((s.gatesIdle m).onStart m fun x => x.attemptFailed reason).dev = s.dev := gatesIdle_reads State.dev (fun _ => rfl) s m
  refine ⟨?_, raise_logged_fast (s := s) same (by decide) m reason [], fun n hn => ?_⟩
  · rw [State.attemptOver, State.raise_start, State.onStart_start, vmod_self, gatesIdle_start]
  · rw [State.attemptOver, State.raise_br]
    exact gatesIdle_form s m hn

end

section
variable {s : State} {m : Fin 4} {reason : Nat}

/-- An attempt that may be repeated. -/
theorem attemptFails_pause (h : s.start[m].retry < s.n Fld.MOTOR_STARTRETRY m) :
    (s.attemptFails m reason).start[m] =
        { s.start[m].attemptFailed reason with retry := s.start[m].retry + 1, state := .pause, since := (s.attemptOver m reason).up } ∧
      Logged s (s.attemptFails m reason) .START_ATTEMPT_FAILED m reason ∧
        ∀ n ∈ s.feeding m, (s.attemptFails m reason).br[n].form ≠ .run := by
  obtain ⟨here, logged, off⟩ := attemptOver_spec s m reason
  rw [attemptFails_eq, if_pos h]
  generalize s.attemptOver m reason = x at here logged off ⊢
  refine ⟨?_, logged.of_recd rfl, off⟩
  rw [toStart_here, State.onStart_start, vmod_self, here]
  rfl

/-- The last attempt. -/
theorem attemptFails_failed (h : s.n Fld.MOTOR_STARTRETRY m ≤ s.start[m].retry) :
    (s.attemptFails m reason).start[m] = { s.start[m].attemptFailed reason with state := .failed, since := (s.attemptOver m reason).up } ∧
      Logged s (s.attemptFails m reason) .START_ATTEMPT_FAILED m reason ∧ Logged s (s.attemptFails m reason) .START_FAILED m ∧
        ∀ n ∈ s.feeding m, (s.attemptFails m reason).br[n].form ≠ .run := by
  obtain ⟨here, logged, off⟩ := attemptOver_spec s m reason
  have same := attemptOver_dev s m reason
  rw [attemptFails_eq, if_neg (Nat.not_lt.2 h)]
  generalize s.attemptOver m reason = x at here logged off same ⊢
  have ended : Logged s (x.toStart m .failed) .START_ATTEMPT_FAILED m reason := logged.of_recd rfl
  have failed : Logged s ((x.toStart m .failed).raise .START_FAILED m) .START_FAILED m :=
    raise_logged_fast (x := x.toStart m .failed) same (by decide : Ev.START_FAILED.code < 0x0C00) m 0 []
  refine ⟨?_, ended.raise .START_FAILED m 0 [], failed, fun n hn => ?_⟩
  · rw [State.raise_start, toStart_here, here]
  · rw [State.raise_br]
    exact off n hn

end

end Sys2Proof.Machine
end

section
/-! SUPPORT. The measurement before a start (R107 to R110, R114): what it finds, and the state that each finding leads to. -/

namespace Sys2Proof.Machine

/-! ## What the measurement finds (R108) -/

section
variable (s : State) (m : Fin 4)

/-- The speed: of the source, else of the terminal voltages. -/
def State.foundSpeed : Rat := if s.hasSpeedSource m then s.sourceRpm m else s.rpmOf m (s.emfSpeed m)

/-- The motor turns: at 3 % of rated speed or more. -/
def State.foundTurning : Bool := decide (3 / 100 * s.q Fld.MOTOR_NRATED m ≤ absQ (s.foundSpeed m))

/-- The motor turns against the command. -/
def State.foundReverse : Bool := s.foundTurning m && decide (s.foundSpeed m * s.cmdSign m < 0)

/-- The speed is known: of an induction motor only from a source or a residual voltage (R109). -/
def State.foundKnown : Bool := !s.induction m || s.hasSpeedSource m || s.residual m

/-- The angle: of the sensor where it may be used, else of the terminal voltages. -/
def State.foundAngle : Rat :=
  if s.hasSpeedSource m ∧ (s.induction m ∨ s.sourceAbs m) then wrapQ 1 (s.sensorAngle m) else s.emfTheta m

/-- The start machine with what has been found. -/
def State.noted (s : State) (m : Fin 4) : State :=
  s.onStart m fun x => { x with
    spd := if s.foundKnown m then s.foundSpeed m else 0, ang := s.foundAngle m
    catchSpd := if s.foundTurning m && s.foundKnown m then s.foundSpeed m else x.catchSpd
    reverse := s.foundReverse m && s.foundKnown m, peak2 := 0, extended := false, turning := s.foundTurning m && s.foundKnown m }

/-- The state after the measurement, with the observer placed on what has been found. -/
def State.found (s : State) (m : Fin 4) : State :=
  ((s.noted m).raiseIf (s.foundReverse m && s.foundKnown m) .CATCH_REVERSE m).obsPlace m (s.foundAngle m)
    (2 * Config.pi * s.elecHz m (if s.foundKnown m then s.foundSpeed m else 0)) 0 0

/-- The next state by what has been found. -/
theorem measure_eq (hs : s.start[m].state = .measure) (hh : s.yes Fld.MOTOR_HOIST m = true → s.hasSpeedSource m = true) : s.measure m =
    if s.induction m then
      if s.hasSpeedSource m then
        if s.foundTurning m then (s.found m).toStart m .sync else ((s.found m).gatesOn m).toStart m .flux
      else if s.foundKnown m then (s.found m).toStart m .sync
      else (((s.found m).gatesOn m).onStart m fun x => { x with pPos := false, cross := none }).toStart m .search
    else if s.foundTurning m then
      (if s.hasSpeedSource m ∧ !s.sourceAbs m then (s.found m).setOffset m (s.foundAngle m) else s.found m).toStart m .sync
    else if s.hasSpeedSource m ∧ s.sourceAbs m then ((s.found m).gatesOn m).enterRun m
    else if s.n Fld.MOTOR_TYPE m = 1 then ((s.found m).gatesOn m).toHfi m
    else ((s.found m).gatesOn m).toStart m .align := by
  have goes : ¬(s.start[m].state ≠ .measure ∨ (s.yes Fld.MOTOR_HOIST m = true ∧ (!s.hasSpeedSource m) = true)) := by
    rintro (h | ⟨h, hn⟩)
    · exact h hs
    · rw [hh h] at hn
      exact Bool.false_ne_true hn
  unfold State.measure
  dsimp only
  rw [if_neg goes]
  rfl

/-- What neither the start machines nor the recorder hold reads the same after the measurement. -/
theorem found_reads {α : Type} {k : State → α} (hk : Silent k) (ho : ∀ s f, k (State.onStart s m f) = k s) : k (s.found m) = k s :=
  (ho ..).trans ((reads_raiseIf hk ..).trans (ho ..))

theorem found_start : (s.found m).start[m].spd = (if s.foundKnown m then s.foundSpeed m else 0) ∧
    (s.found m).start[m].ang = s.foundAngle m ∧ (s.found m).start[m].reverse = (s.foundReverse m && s.foundKnown m) ∧
      ∀ j : Fin 4, j ≠ m → (s.found m).start[j] = s.start[j] := by
  have noted : ((s.noted m).raiseIf (s.foundReverse m && s.foundKnown m) .CATCH_REVERSE m).start = (s.noted m).start := State.raiseIf_start ..
  unfold State.found
  generalize (s.noted m).raiseIf (s.foundReverse m && s.foundKnown m) .CATCH_REVERSE m = x at noted ⊢
  obtain ⟨lamA, lamB, placed⟩ := obsPlace_eq x m (s.foundAngle m) (2 * Config.pi * s.elecHz m (if s.foundKnown m then s.foundSpeed m else 0)) 0 0
  have found : (s.noted m).start[m] = _ := vmod_self ..
  rw [placed, State.onStart_start, noted, vmod_self, found]
  refine ⟨rfl, rfl, rfl, fun j hj => ?_⟩
  rw [vmod_ne _ _ _ _ hj]
  exact vmod_ne _ _ _ _ hj

theorem found_logged (h : (s.foundReverse m && s.foundKnown m) = true) : Logged s (s.found m) .CATCH_REVERSE m := by
  have told : Logged s ((s.noted m).raiseIf (s.foundReverse m && s.foundKnown m) .CATCH_REVERSE m) .CATCH_REVERSE m :=
    raiseIf_logged_of (x := s.noted m) h rfl rfl .CATCH_REVERSE m 0 []
  exact told.of_recd rfl

end

/-! ## Where it leads (R107 to R110) -/

section
variable {s : State} {m : Fin 4} (hs : s.start[m].state = .measure)
  (hh : s.yes Fld.MOTOR_HOIST m = true → s.hasSpeedSource m = true)

/-- A catch: the machine synchronises at the speed and angle that it has found, with the gates as they are. -/
structure Synchronises (s t : State) (m : Fin 4) : Prop where
  state   : t.start[m].state = .sync
  spd     : t.start[m].spd = s.foundSpeed m
  ang     : t.start[m].ang = s.foundAngle m
  since   : t.start[m].since = s.up
  reverse : t.start[m].reverse = s.foundReverse m
  logged  : s.foundReverse m = true → Logged s t .CATCH_REVERSE m
  br      : t.br = s.br
  others  : ∀ j : Fin 4, j ≠ m → t.start[j] = s.start[j]

/-- What differs from the state after the measurement in the position interfaces at most goes to SYNC. -/
theorem synchronises {x : State} (hk : s.foundKnown m = true) (hst : x.start = (s.found m).start) (hbr : x.br = (s.found m).br)
    (hup : x.up = (s.found m).up) (hr : x.recd = (s.found m).recd) : Synchronises s (x.toStart m .sync) m := by
  obtain ⟨hspd, hang, hrev, hothers⟩ := found_start s m
  rw [hk, if_pos rfl] at hspd
  rw [hk, Bool.and_true] at hrev
  have here : (x.toStart m .sync).start[m] = { (s.found m).start[m] with state := .sync, since := x.up } := by rw [toStart_here, hst]
  refine ⟨?_, ?_, ?_, ?_, ?_, fun h => ?_, ?_, fun j hj => ?_⟩
  · rw [here]
  · rw [here, ← hspd]
  · rw [here, ← hang]
  · rw [here]
    exact hup.trans (found_reads s m (k := State.up) (fun _ _ _ => rfl) fun _ _ => rfl)
  · rw [here, ← hrev]
  · have told := found_logged s m (by rw [h, hk]; rfl)
    exact told.of_recd hr
  · exact hbr.trans (found_reads s m (k := State.br) (fun _ _ _ => rfl) fun _ _ => rfl)
  · rw [State.toStart, State.onStart_start, vmod_ne _ _ _ _ hj, hst, hothers j hj]

/-- The bridges that can be driven are. -/
def Drives (s t : State) (m : Fin 4) : Prop := ∀ n ∈ s.feeding m, s.br[n].enabled = true → s.br[n].exec_.rank < 4 → t.br[n].form = .run

theorem drives_of_br {t : State} (h : t.br = ((s.found m).gatesOn m).br) : Drives s t m := by
  have br : (s.found m).br = s.br := found_reads s m (k := State.br) (fun _ _ _ => rfl) fun _ _ => rfl
  have feeding : (s.found m).feeding m = s.feeding m := found_reads s m (k := fun s => s.feeding m) (fun _ _ _ => rfl) fun _ _ => rfl
  intro n hn he hr
  rw [← br] at he hr
  rw [← feeding] at hn
  rw [h]
  exact gatesOn_form _ m hn he hr

/-- The speed of a synchronous motor is always known. -/
theorem foundKnown_synchronous (him : s.induction m = false) : s.foundKnown m = true := by simp [State.foundKnown, him]

include hs hh

section
variable (him : s.induction m = false)
include him

/-- A turning synchronous motor is caught. -/
theorem measure_turning (ht : s.foundTurning m = true) : Synchronises s (s.measure m) m := by
  have known := foundKnown_synchronous him
  rw [measure_eq s m hs hh, him, ht]
  simp only [Bool.false_eq_true, if_false, if_true]
  split
  · exact synchronises known (setOffset_reads _ m (fun _ _ _ => rfl) _) (setOffset_reads _ m (fun _ _ _ => rfl) _)
      (setOffset_reads _ m (fun _ _ _ => rfl) _) (setOffset_reads _ m (fun _ _ _ => rfl) _)
  · exact synchronises known rfl rfl rfl rfl

/-- At rest with an absolute sensor it runs. -/
theorem measure_rest (ht : s.foundTurning m = false) (hsrc : s.hasSpeedSource m = true) (ha : s.sourceAbs m = true) :
    s.measure m = ((s.found m).gatesOn m).enterRun m := by
  rw [measure_eq s m hs hh, him, ht, hsrc, ha]
  simp

/-- At rest without a sensor an interior one is tracked, and a surface one aligned. -/
theorem measure_blind (ht : s.foundTurning m = false) (hsrc : s.hasSpeedSource m = false) : s.measure m =
    if s.n Fld.MOTOR_TYPE m = 1 then ((s.found m).gatesOn m).toHfi m else ((s.found m).gatesOn m).toStart m .align := by
  rw [measure_eq s m hs hh, him, ht, hsrc]
  simp

end

section
variable (him : s.induction m = true)
include him

/-- An induction motor with a source is caught, or fluxed at rest. -/
theorem measure_induction (hsrc : s.hasSpeedSource m = true) : s.measure m =
    if s.foundTurning m then (s.found m).toStart m .sync else ((s.found m).gatesOn m).toStart m .flux := by
  rw [measure_eq s m hs hh, him, hsrc]
  simp

/-- Without a source it is caught by its residual voltage, or its speed is searched for. -/
theorem measure_residual (hsrc : s.hasSpeedSource m = false) : s.measure m =
    if s.residual m then (s.found m).toStart m .sync
    else (((s.found m).gatesOn m).onStart m fun x => { x with pPos := false, cross := none }).toStart m .search := by
  have known : s.foundKnown m = s.residual m := by simp [State.foundKnown, him, hsrc]
  rw [measure_eq s m hs hh, him, hsrc, known]
  simp

end

end

end Sys2Proof.Machine
end

section
/-! SUPPORT. The later states of a start (R102, R108 to R113): one equation per outcome of each command. -/

namespace Sys2Proof.Machine

section
variable {s : State} {m : Fin 4}

/-! ## The catch (R108) -/

/-- A bridge in SYNC gets its integrators preset and its gates enabled. -/
theorem syncGates_drives {n : Fin 8} (hst : s.start[s.br[n].mo].state = .sync) (hn : n ∈ s.feeding s.br[n].mo)
    (he : s.br[n].enabled = true) (hr : s.br[n].exec_.rank < 4) : ∃ xd xq,
      s.syncGates n = ((if (s.feeding s.br[n].mo).any fun j => s.br[j].form == .run then s
        else s.onStart s.br[n].mo fun x => { x with peak2 := 0 }).onBr n fun b => { b with form := .run }).onPwm n
          (fun p => { p with xd := xd, xq := xq }) ∧ (s.induction s.br[n].mo = true → xd = 0 ∧ xq = 0) := by
  have goes : ¬(s.start[s.br[n].mo].state ≠ .sync ∨ (!(s.feeding s.br[n].mo).contains n) = true) := by
    rintro (h | h)
    · exact h hst
    · rw [List.contains_iff_mem.2 hn] at h
      exact Bool.false_ne_true h
  unfold State.syncGates
  dsimp only
  rw [if_neg goes, if_pos ⟨he, hr⟩]
  refine ⟨_, _, rfl, fun hi => ?_⟩
  rw [if_pos (.inr hi)]
  exact ⟨rfl, rfl⟩

/-- The settling of a catch: done, or failed beyond what an extension allows. -/
theorem settleCheck_settled (hst : s.start[m].state = .sync) (hp : s.start[m].peak2 ≤ 25 / 10000 * s.imaxEff m * s.imaxEff m) :
    s.settleCheck m = if s.induction m then s.toStart m .flux else s.enterRun m := by
  unfold State.settleCheck
  dsimp only
  rw [if_neg (not_not_intro hst), if_pos hp]

theorem settleCheck_fails (hst : s.start[m].state = .sync) (h1 : 1 / 100 * s.imaxEff m * s.imaxEff m < s.start[m].peak2)
    (h5 : 25 / 10000 * s.imaxEff m * s.imaxEff m < s.start[m].peak2) : s.settleCheck m = s.attemptFails m 6 := by
  unfold State.settleCheck
  dsimp only
  rw [if_neg (not_not_intro hst), if_neg (not_le.2 h5), if_neg fun h => not_le.2 h1 h.2]

/-! ## Polarity (R111, R112) -/

theorem absQ_eq_abs (x : Rat) : absQ x = |x| := by
  unfold absQ
  split
  next h => exact (abs_of_neg h).symm
  next h => exact (abs_of_nonneg (not_lt.1 h)).symm

theorem maxQ_eq_max (x y : Rat) : maxQ x y = max x y := by
  unfold maxQ
  split
  next h => exact (max_eq_right h.le).symm
  next h => exact (max_eq_left (not_lt.1 h)).symm

section
variable (hst : s.start[m].state = .hfi) (hn : 17 ≤ s.start[m].polN) {plus minus : Rat}
include hst hn

theorem polarity_goes : ¬(s.start[m].state ≠ .hfi ∨ s.start[m].polN < 17) := not_or.2 ⟨not_not_intro hst, Nat.not_lt.2 hn⟩

/-- Two responses that differ by less than 10 % of the larger one. -/
theorem polarity_fails (h : absQ (plus - minus) < 1 / 10 * maxQ (absQ plus) (absQ minus)) :
    s.polarity m plus minus = s.attemptFails m 4 := by
  unfold State.polarity
  rw [if_neg (polarity_goes hst hn), if_pos h]

/-- Two responses that differ by more: the larger one lies on +d. -/
theorem polarity_runs (h : 1 / 10 * maxQ (absQ plus) (absQ minus) ≤ absQ (plus - minus)) :
    (s.polarity m plus minus).start[m].state = .run ∧
      (s.polarity m plus minus).start[m].ang = if plus < minus then wrapQ 1 (s.start[m].ang + 1 / 2) else s.start[m].ang := by
  have ran (x : State) (b : Bool) (a : Rat) : ((if b then x.setOffset m a else x).enterRun m).start[m].state = .run ∧
      ((if b then x.setOffset m a else x).enterRun m).start[m].ang = x.start[m].ang := by
    have start : (if b then x.setOffset m a else x).start = x.start := by
      split
      · exact setOffset_reads _ m (fun _ _ _ => rfl) _
      · rfl
    rw [enterRun_start, start]
    exact ⟨rfl, rfl⟩
  unfold State.polarity
  rw [if_neg (polarity_goes hst hn), if_neg (not_lt.2 h)]
  extract_lets a s1
  obtain ⟨lamA, lamB, placed⟩ := obsPlace_here (s.onStart m fun x => { x with ang := a }) m a s.start[m].wPll 0 0
  have ang : s1.start[m].ang = a := by
    unfold s1
    rw [placed, State.onStart_start, vmod_self]
    rfl
  obtain ⟨state, angle⟩ := ran s1 (s.hasSpeedSource m) a
  exact ⟨state, angle.trans ang⟩

end

/-! ## The angle of a standstill start (R102, R113) -/

theorem keepVoltage_start (s : State) (m : Fin 4) (a d : Rat) : (s.keepVoltage m a d).start = s.start := by
  unfold State.keepVoltage
  refine reads_foldl (k := State.start) ?_ _ s
  exact fun _ _ => rfl

/-- The observer takes over in IFRAMP. -/
theorem observerLock_runs (hst : s.start[m].state = .iframp) (hl : s.start[m].locked = true) (hp : s.n Fld.MOTOR_POSMODE m ≠ 0) :
    (s.observerLock m).start[m].state = .run ∧ (s.observerLock m).start[m].locked = true ∧
      (s.observerLock m).start[m].asrc = .observer ∧ (s.observerLock m).start[m].ang = s.start[m].obsAng := by
  unfold State.observerLock
  rw [if_pos ⟨hst, hl, hp⟩]
  dsimp only
  rw [enterRun_start, State.onStart_start, vmod_self, keepVoltage_start]
  exact ⟨rfl, hl, rfl, rfl⟩

theorem observerLock_waits (h : s.start[m].state ≠ .iframp ∨ s.start[m].locked = false) : s.observerLock m = s := by
  unfold State.observerLock
  refine if_neg ?_
  rintro ⟨hst, hl, -⟩
  rcases h with h | h
  · exact h hst
  · exact Bool.false_ne_true (h.symm.trans hl)

section
variable (hst : s.start[m].state = .align)
include hst

theorem alignElapsed_induction (hi : s.induction m = true) : s.alignElapsed m = s.toStart m .flux := by
  unfold State.alignElapsed
  rw [if_neg (not_not_intro hst), if_pos hi]

theorem alignElapsed_source (hi : s.induction m = false) (hsrc : s.hasSpeedSource m = true) :
    s.alignElapsed m = (s.setOffset m 0).enterRun m := by
  unfold State.alignElapsed
  rw [if_neg (not_not_intro hst), if_neg (by rw [hi]; exact Bool.false_ne_true), if_pos hsrc]

theorem alignElapsed_blind (hi : s.induction m = false) (hsrc : s.hasSpeedSource m = false) :
    s.alignElapsed m = ((s.onStart m fun x => { x with ang := 0 }).obsPlace m 0 0 0 0).toStart m .iframp := by
  unfold State.alignElapsed
  rw [if_neg (not_not_intro hst), if_neg (by rw [hi]; exact Bool.false_ne_true), if_neg (by rw [hsrc]; exact Bool.false_ne_true)]

end

/-! ## The search, and the flux (R107, R109) -/

/-- The start machine at the end of a search, with the speed of a stator frequency. -/
def State.searched (s : State) (m : Fin 4) (f : Rat) : State :=
  (s.onStart m fun x => { x with
    spd := s.rpmOf m (2 * Config.pi * f), reverse := decide (s.rpmOf m (2 * Config.pi * f) * s.cmdSign m < 0)
    turning := s.start[m].cross.isSome
    catchSpd := if s.start[m].cross.isSome then s.rpmOf m (2 * Config.pi * f) else x.catchSpd }).obsPlace m s.start[m].ang
      (2 * Config.pi * f) 0 0

theorem searched_here (s : State) (m : Fin 4) (f : Rat) : (s.searched m f).start[m].spd = s.rpmOf m (2 * Config.pi * f) ∧
    (s.searched m f).start[m].turning = s.start[m].cross.isSome := by
  unfold State.searched
  obtain ⟨lamA, lamB, placed⟩ := obsPlace_here (s.onStart m fun x => { x with
    spd := s.rpmOf m (2 * Config.pi * f), reverse := decide (s.rpmOf m (2 * Config.pi * f) * s.cmdSign m < 0)
    turning := s.start[m].cross.isSome
    catchSpd := if s.start[m].cross.isSome then s.rpmOf m (2 * Config.pi * f) else x.catchSpd }) m s.start[m].ang (2 * Config.pi * f) 0 0
  rw [placed, State.onStart_start, vmod_self]
  exact ⟨rfl, rfl⟩

theorem searchEnd_eq (hst : s.start[m].state = .search) : s.searchEnd m = ((s.searched m (s.start[m].cross.getD 0)).raiseIf
    (decide (s.rpmOf m (2 * Config.pi * s.start[m].cross.getD 0) * s.cmdSign m < 0)) .CATCH_REVERSE m).toStart m .flux := by
  unfold State.searchEnd
  exact if_neg (not_not_intro hst)

theorem fluxBuilt_runs (hst : s.start[m].state = .flux) (hsrc : s.hasSpeedSource m = true) : s.fluxBuilt m = s.enterRun m := by
  unfold State.fluxBuilt
  rw [if_neg (not_not_intro hst), if_pos (.inl hsrc)]

theorem fluxBuilt_ramps (hst : s.start[m].state = .flux) (hsrc : s.hasSpeedSource m = false) (hsl : s.slower m (5 / 100) = true) :
    s.fluxBuilt m = (s.obsPlace m s.start[m].ang 0 0 0).toStart m .iframp := by
  unfold State.fluxBuilt
  rw [if_neg (not_not_intro hst), if_neg]
  rw [hsrc, hsl]
  decide

end

end Sys2Proof.Machine
end

section
/-! SUPPORT. How the measurement and the later states of a start stand with the quotient 0 / 0 (log 3): `rpmOf` divides by the pole pairs, and
in a state whose configuration holds 0 of them the speed of a motor at rest is the free value `Config.divZero 0`. -/

namespace Sys2Proof.Machine

/-! ## The speed of a motor at rest -/

/-- A motor with pole pairs is at rest at 0 rpm; without them that rests on the free value. -/
theorem rpmOf_zero {s : State} {m : Fin 4} (h : s.n Fld.MOTOR_POLEPAIRS m ≠ 0 ∨ Config.divZero 0 = 0) : s.rpmOf m 0 = 0 := by
  unfold State.rpmOf qdiv
  rw [zero_mul, zero_div, zero_div]
  split
  next hp => exact h.resolve_left (not_not_intro (Nat.cast_eq_zero.1 hp))
  next => rfl

/-- A state whose motor object 0 has no pole pairs, no source and no hoist, with a rated speed and a start machine as given. -/
def poleless (rated : Rat) (x : Start) : State :=
  { State.reset with
    used := [(fieldKey Fld.MOTOR_POLEPAIRS 0 0 0, .num 0), (fieldKey Fld.MOTOR_TYPE 0 0 0, .num 0), (fieldKey Fld.MOTOR_HOIST 0 0 0, .num 0),
      (fieldKey Fld.MOTOR_POSMODE 0 0 0, .num 1), (fieldKey Fld.MOTOR_NRATED 0 0 0, .num rated)]
    start := vmod State.reset.start 0 fun _ => x }

/-- A start machine in MEASURE whose terminal voltages are below every floor. -/
def Start.silent : Start := { Start.reset with state := .measure, emfMag := -1 }

section
variable (rated : Rat) (x : Start)

theorem poleless_start : (poleless rated x).start[(0 : Fin 4)] = x := vmod_self ..

theorem poleless_pairs : (poleless rated x).n Fld.MOTOR_POLEPAIRS (0 : Fin 4) = 0 := rfl

theorem poleless_rest : (poleless rated x).rpmOf 0 0 = Config.divZero 0 := by
  unfold State.rpmOf qdiv
  rw [poleless_pairs, zero_mul, zero_div]
  rfl

theorem poleless_emf : (poleless rated x).ratedEmf 0 = 0 := by
  unfold State.ratedEmf State.ratedElec
  rw [poleless_pairs, Nat.cast_zero, mul_zero, mul_zero]

end

/-! ## The measurement -/

section
variable {s : State} {m : Fin 4}

theorem foundSpeed_source (h : s.hasSpeedSource m = true) : s.foundSpeed m = s.sourceRpm m := if_pos h

theorem foundSpeed_blind (h : s.hasSpeedSource m = false) : s.foundSpeed m = s.rpmOf m (s.emfSpeed m) :=
  if_neg (by rw [h]; exact Bool.false_ne_true)

theorem foundReverse_turning (h : s.foundTurning m = true) : s.foundReverse m = decide (s.foundSpeed m * s.cmdSign m < 0) := by
  rw [State.foundReverse, h, Bool.true_and]

theorem foundAngle_blind (h : s.hasSpeedSource m = false) : s.foundAngle m = s.emfTheta m :=
  if_neg (by rw [h]; exact fun hc => Bool.false_ne_true hc.1)

/-- Terminal voltages below their floor tell of a motor at rest. -/
theorem foundTurning_silent (h0 : s.rpmOf m 0 = 0) (hsrc : s.hasSpeedSource m = false) (hn : 0 < s.q Fld.MOTOR_NRATED m)
    (he : s.start[m].emfMag < s.ratedEmf m / 100) : s.foundTurning m = false := by
  have silent : s.emfSpeed m = 0 := if_pos he
  have rest : absQ 0 = 0 := rfl
  rw [State.foundTurning, foundSpeed_blind hsrc, silent, h0, rest, decide_eq_false_iff_not, not_le]
  exact mul_pos (by norm_num) hn

theorem induction_of_type {k : Nat} (h : s.n Fld.MOTOR_TYPE m = k) (hk : k ≠ 2) : s.induction m = false :=
  decide_eq_false (h ▸ hk)

theorem hoist_source (h : s.yes Fld.MOTOR_HOIST m = false) : s.yes Fld.MOTOR_HOIST m = true → s.hasSpeedSource m = true :=
  fun h' => absurd (h.symm.trans h') Bool.false_ne_true

/-- The gates of a motor that is measured at rest go on. -/
theorem drives_toStart (st : StartState) : Drives s (((s.found m).gatesOn m).toStart m st) m := drives_of_br rfl

theorem toHfi_br (s : State) (m : Fin 4) : (s.toHfi m).br = s.br := rfl

theorem drives_toHfi : Drives s (((s.found m).gatesOn m).toHfi m) m := drives_of_br (toHfi_br ..)

/-- A motor that is measured at rest with an absolute sensor runs, and its brake is proved. -/
theorem rest_proves (hb : s.braked m = true) (hr : s.runsHere m = true) (hc : s.brake[m].state = .closed) :
    (((s.found m).gatesOn m).enterRun m).brake[m].state = .proving := by
  have reads {α : Type} (k : State → α) (hk : Silent k) (hs : ∀ s f, k (State.onStart s m f) = k s)
      (hbr : ∀ s n f, k (State.onBr s n f) = k s) : k ((s.found m).gatesOn m) = k s :=
    (gatesOn_reads _ m hbr).trans (found_reads s m hk hs)
  have braked := reads (State.braked · m) (fun _ _ _ => rfl) (fun _ _ => rfl) fun _ _ _ => rfl
  have here := reads (State.runsHere · m) (fun _ _ _ => rfl) (fun _ _ => rfl) fun _ _ _ => rfl
  have brake := reads State.brake (fun _ _ _ => rfl) (fun _ _ => rfl) fun _ _ _ => rfl
  refine enterRun_proves _ m (braked.trans hb) (here.trans hr) ?_
  rw [brake]
  exact hc

end

/-- O39 can be neither proved nor refuted: its seventh and eighth clause hold of a motor without pole pairs exactly where the free value of
0 / 0 is 0, and all else of it holds. -/
theorem startMeasurement_iff : Obligations.StartMeasurement ↔ Config.divZero 0 = 0 := by
  constructor
  · rintro ⟨-, -, -, -, -, -, aligns, -⟩
    by_contra hne
    have rated : 0 < absQ (Config.divZero 0) := by
      unfold absQ
      split
      next h => exact neg_pos.2 h
      next h => exact lt_of_le_of_ne (not_lt.1 h) (Ne.symm hne)
    generalize hq : absQ (Config.divZero 0) = q at rated
    have here := poleless_start q Start.silent
    have emf : (poleless q Start.silent).start[(0 : Fin 4)].emfMag < (poleless q Start.silent).ratedEmf 0 / 100 := by
      have floor : Start.silent.emfMag < 0 / 100 := by norm_num [Start.silent]
      rwa [here, poleless_emf]
    obtain ⟨t, ht, align, -⟩ := aligns (poleless q Start.silent) 0 (congrArg Start.state here) rfl rfl rfl rated emf
    have turning : (poleless q Start.silent).foundTurning 0 = true := by
      have silent : (poleless q Start.silent).emfSpeed 0 = 0 := if_pos emf
      have nrated : (poleless q Start.silent).q Fld.MOTOR_NRATED (0 : Fin 4) = q := rfl
      rw [State.foundTurning, foundSpeed_blind rfl, silent, poleless_rest, hq, nrated, decide_eq_true_eq]
      linarith
    have sync := (measure_turning (s := poleless q Start.silent) (m := 0) (congrArg Start.state here) (hoist_source rfl) rfl turning).state
    have e : (poleless q Start.silent).measure 0 = t := Host.Outcome.next.inj ht
    rw [e, align] at sync
    cases sync
  · intro h0
    refine ⟨?other, ?hoist, ?absolute, ?relative, ?emf, ?rest, ?align, ?hfi, ?caught, ?flux, ?residual, ?search⟩
    case other => exact fun s m h => congrArg Host.Outcome.next (if_pos (.inl h))
    case hoist =>
      intro s m hh hsrc
      refine congrArg Host.Outcome.next (if_pos (.inr ⟨hh, ?_⟩))
      rw [hsrc]
      rfl
    case absolute =>
      intro s m hs hi hsrc ha hw
      rw [← foundSpeed_source hsrc] at hw ⊢
      have turning : s.foundTurning m = true := decide_eq_true hw
      have sync := measure_turning hs (fun _ => hsrc) hi turning
      have reverse := foundReverse_turning turning
      refine ⟨s.measure m, rfl, sync.state, sync.spd, sync.since, sync.reverse.trans reverse, fun h => sync.logged ?_, sync.br, sync.others⟩
      rw [reverse]
      exact decide_eq_true h
    case relative =>
      intro s m hs hi hsrc _ hw
      rw [← foundSpeed_source hsrc] at hw ⊢
      have sync := measure_turning hs (fun _ => hsrc) hi (decide_eq_true hw)
      exact ⟨s.measure m, rfl, sync.state, sync.spd, sync.br⟩
    case emf =>
      intro s m hs hi hsrc hh hw
      rw [← foundSpeed_blind hsrc] at hw ⊢
      have sync := measure_turning hs (hoist_source hh) hi (decide_eq_true hw)
      exact ⟨s.measure m, rfl, sync.state, sync.spd, sync.ang.trans (foundAngle_blind hsrc), sync.br⟩
    case rest =>
      intro s m hs hi hsrc ha hw
      rw [← foundSpeed_source hsrc] at hw
      have still : s.foundTurning m = false := decide_eq_false (not_le.2 hw)
      exact ⟨_, congrArg Host.Outcome.next (measure_rest hs (fun _ => hsrc) hi still hsrc ha), congrArg Start.state (enterRun_start ..),
        drives_of_br (enterRun_br ..), rest_proves⟩
    case align =>
      intro s m hs ht hsrc hh hn he
      have still := foundTurning_silent (rpmOf_zero (.inr h0)) hsrc hn he
      have blind := measure_blind hs (hoist_source hh) (induction_of_type ht (by decide)) still hsrc
      rw [if_neg (by rw [ht]; decide)] at blind
      exact ⟨_, congrArg Host.Outcome.next blind, congrArg Start.state (toStart_here ..), drives_toStart _⟩
    case hfi =>
      intro s m hs ht hsrc hh hn he
      have still := foundTurning_silent (rpmOf_zero (.inr h0)) hsrc hn he
      have blind := measure_blind hs (hoist_source hh) (induction_of_type ht (by decide)) still hsrc
      rw [if_pos ht] at blind
      exact ⟨_, congrArg Host.Outcome.next blind, congrArg Start.state (toStart_here ..), drives_toHfi⟩
    case caught =>
      intro s m hs hi hsrc hw
      rw [← foundSpeed_source hsrc] at hw ⊢
      have turning : s.foundTurning m = true := decide_eq_true hw
      have induction_ := measure_induction hs (fun _ => hsrc) hi hsrc
      rw [if_pos turning] at induction_
      have known : s.foundKnown m = true := by simp [State.foundKnown, hsrc]
      have sync := synchronises known (x := s.found m) rfl rfl rfl rfl
      exact ⟨_, congrArg Host.Outcome.next induction_, sync.state, sync.spd, sync.br⟩
    case flux =>
      intro s m hs hi hsrc hw
      rw [← foundSpeed_source hsrc] at hw
      have still : s.foundTurning m = false := decide_eq_false (not_le.2 hw)
      have induction_ := measure_induction hs (fun _ => hsrc) hi hsrc
      rw [if_neg (by rw [still]; exact Bool.false_ne_true)] at induction_
      exact ⟨_, congrArg Host.Outcome.next induction_, congrArg Start.state (toStart_here ..), drives_toStart _⟩
    case residual =>
      intro s m hs hi hsrc hh hres
      have residual := measure_residual hs (hoist_source hh) hi hsrc
      rw [if_pos hres] at residual
      have known : s.foundKnown m = true := by simp [State.foundKnown, hres]
      have sync := synchronises known (x := s.found m) rfl rfl rfl rfl
      exact ⟨_, congrArg Host.Outcome.next residual, sync.state, sync.ang.trans (foundAngle_blind hsrc), sync.br⟩
    case search =>
      intro s m hs hi hsrc hh hres
      have residual := measure_residual hs (hoist_source hh) hi hsrc
      rw [if_neg (by rw [hres]; exact Bool.false_ne_true)] at residual
      have unknown : s.foundKnown m = false := by simp [State.foundKnown, hi, hsrc, hres]
      obtain ⟨spd, -⟩ := found_start s m
      rw [unknown, if_neg Bool.false_ne_true] at spd
      have on := gatesOn_reads (s.found m) m (k := State.start) fun _ _ _ => rfl
      have br (x : State) (f : Start → Start) : ((x.onStart m f).toStart m .search).br = x.br := rfl
      refine ⟨_, congrArg Host.Outcome.next residual, congrArg Start.state (toStart_here ..), ?_, drives_of_br (br ..)⟩
      rw [toStart_here, State.onStart_start, vmod_self, on]
      exact spd

end Sys2Proof.Machine
end

section
/-! SUPPORT. The later states of a start and the quotient 0 / 0 (log 3): a search without a crossing shows the speed of a motor at rest. -/

namespace Sys2Proof.Machine

section
variable {s : State} {m : Fin 4}

/-! ## The catch (R108) -/

/-- The peak of the settling current begins with the first bridge that switches. -/
theorem peakBegins (s : State) (m : Fin 4) : ∃ f : Start → Start, (∀ x, (f x).state = x.state) ∧
    (if (s.feeding m).any fun j => s.br[j].form == .run then s else s.onStart m fun x => { x with peak2 := 0 }) = s.onStart m f ∧
      ((∀ j ∈ s.feeding m, s.br[j].form ≠ .run) → ∀ x, (f x).peak2 = 0) := by
  split
  next h =>
    obtain ⟨j, hj, hf⟩ := List.any_eq_true.1 h
    refine ⟨id, fun _ => rfl, ?_, fun off => absurd (beq_iff_eq.1 hf) (off j hj)⟩
    simp [State.onStart, vmod]
  next => exact ⟨fun x => { x with peak2 := 0 }, fun _ => rfl, rfl, fun _ _ => rfl⟩

theorem syncGateEnable_spec {n : Fin 8} (hst : s.start[s.br[n].mo].state = .sync) (hn : n ∈ s.feeding s.br[n].mo)
    (he : s.br[n].enabled = true) (hr : s.br[n].exec_.rank < 4) : (s.syncGates n).br[n].form = .run ∧
      (∀ j : Fin 8, j ≠ n → (s.syncGates n).br[j] = s.br[j] ∧ (s.syncGates n).pwm[j] = s.pwm[j]) ∧
      (s.syncGates n).start[s.br[n].mo].state = .sync ∧
      (s.induction s.br[n].mo = true → (s.syncGates n).pwm[n].xd = 0 ∧ (s.syncGates n).pwm[n].xq = 0) ∧
      ((∀ j ∈ s.feeding s.br[n].mo, s.br[j].form ≠ .run) → (s.syncGates n).start[s.br[n].mo].peak2 = 0) ∧
      s.syncGates n = { s with pwm := (s.syncGates n).pwm, start := (s.syncGates n).start, br := (s.syncGates n).br } := by
  obtain ⟨xd, xq, e, presets⟩ := syncGates_drives hst hn he hr
  obtain ⟨f, hf, before, peak⟩ := peakBegins s s.br[n].mo
  rw [e, before]
  have start : (((s.onStart s.br[n].mo f).onBr n fun b => { b with form := .run }).onPwm n fun p => { p with xd := xd, xq := xq }).start[s.br[n].mo] =
      f s.start[s.br[n].mo] := vmod_self ..
  refine ⟨?_, fun j hj => ⟨vmod_ne _ _ _ _ hj, vmod_ne _ _ _ _ hj⟩, ?_, fun hi => ?_, fun off => ?_, rfl⟩
  · rw [State.onPwm_br, State.onBr_br, vmod_self]
  · rw [start, hf, hst]
  · rw [State.onPwm_pwm, vmod_self]
    exact presets hi
  · rw [start, peak off]

theorem syncGates_waits {n : Fin 8} (h : s.start[s.br[n].mo].state ≠ .sync ∨ n ∉ s.feeding s.br[n].mo) : s.syncGates n = s := by
  refine if_pos (h.imp_right fun hn => ?_)
  rw [Bool.not_eq_true', ← Bool.not_eq_true, List.contains_iff_mem]
  exact hn

end

section
variable (s : State) (m : Fin 4)

/-! ## The end of a search (R109) -/

theorem searchEnd_here (hst : s.start[m].state = .search) : (s.searchEnd m).start[m].state = .flux ∧
    (s.searchEnd m).start[m].turning = s.start[m].cross.isSome ∧
      (s.searchEnd m).start[m].spd = s.rpmOf m (2 * Config.pi * s.start[m].cross.getD 0) := by
  obtain ⟨spd, turning⟩ := searched_here s m (s.start[m].cross.getD 0)
  rw [searchEnd_eq hst, toStart_here, State.raiseIf_start]
  exact ⟨rfl, turning, spd⟩

theorem searchEnd_frame (hst : s.start[m].state = .search) : s.searchEnd m =
    { s with start := (s.searchEnd m).start, recd := (s.searchEnd m).recd, cap := (s.searchEnd m).cap } := by
  rw [searchEnd_eq hst]
  obtain ⟨r, c, h⟩ := raiseIf_recOnly (s.searched m (s.start[m].cross.getD 0))
    (decide (s.rpmOf m (2 * Config.pi * s.start[m].cross.getD 0) * s.cmdSign m < 0)) .CATCH_REVERSE m 0 []
  rw [h]
  rfl

/-- Without a crossing the speed is that of a motor at rest. -/
theorem searchEnd_rest (hst : s.start[m].state = .search) (hc : s.start[m].cross = none) :
    (s.searchEnd m).start[m].spd = s.rpmOf m 0 := by
  obtain ⟨-, -, spd⟩ := searchEnd_here s m hst
  rw [spd, hc, Option.getD_none, mul_zero]

/-- A motor at rest turns against no command. -/
theorem searchEnd_quiet (h0 : s.rpmOf m 0 = 0) (hst : s.start[m].state = .search) (hc : s.start[m].cross = none) :
    s.searchEnd m = { s with start := (s.searchEnd m).start } := by
  have still : decide (s.rpmOf m (2 * Config.pi * s.start[m].cross.getD 0) * s.cmdSign m < 0) = false := by
    rw [hc, Option.getD_none, mul_zero, h0, zero_mul]
    exact decide_eq_false (lt_irrefl 0)
  rw [searchEnd_eq hst, still]
  rfl

end

/-- O40 can be neither proved nor refuted: its clause of a search without a crossing holds of a motor without pole pairs exactly where the free
value of 0 / 0 is 0, and all else of it holds. -/
theorem startProgress_iff : Obligations.StartProgress ↔ Config.divZero 0 = 0 := by
  constructor
  · rintro ⟨-, -, -, -, -, -, -, -, -, -, -, -, -, -, -, -, -, rest, -⟩
    have here := poleless_start 0 { Start.reset with state := .search }
    have state := congrArg Start.state here
    have cross := congrArg Start.cross here
    obtain ⟨t, ht, -, spd, -⟩ := rest (poleless 0 { Start.reset with state := .search }) 0 state cross
    have e : (poleless 0 { Start.reset with state := .search }).searchEnd 0 = t := Host.Outcome.next.inj ht
    rw [← e, searchEnd_rest _ _ state cross, poleless_rest] at spd
    exact spd
  · intro h0
    refine ⟨?sync, ?noSync, ?settled, ?settledFlux, ?unsettled, ?plus, ?minus, ?early, ?equal, ?converged, ?noConvergence, ?lock, ?noLock,
      ?alignBlind, ?alignSource, ?alignFlux, ?lockTimeout, ?noCrossing, ?crossing, ?fluxRun, ?fluxRamp, ?lost, ?pauseEnd⟩
    case sync => exact fun s n hst hn he hr => ⟨s.syncGates n, rfl, syncGateEnable_spec hst hn he hr⟩
    case noSync => exact fun s n h => congrArg Host.Outcome.next (syncGates_waits h)
    case settled =>
      intro s m hst hp hi
      have runs := settleCheck_settled hst hp
      rw [if_neg (by rw [hi]; exact Bool.false_ne_true)] at runs
      exact ⟨_, congrArg Host.Outcome.next runs, congrArg Start.state (enterRun_start ..),
        congrArg Start.turning (enterRun_start ..), enterRun_logged s m, enterRun_br s m⟩
    case settledFlux =>
      intro s m hst hp hi
      have fluxes := settleCheck_settled hst hp
      rw [if_pos hi] at fluxes
      exact ⟨_, congrArg Host.Outcome.next fluxes, congrArg Start.state (toStart_here ..), rfl⟩
    case unsettled =>
      intro s m hst h1 h5 hr
      obtain ⟨here, logged, off⟩ := attemptFails_pause (reason := 6) hr
      exact ⟨_, congrArg Host.Outcome.next (settleCheck_fails hst h1 h5),
        congrArg Start.state here, congrArg Start.reason here, congrArg Start.retry here, congrArg Start.fail here, logged, off⟩
    case plus =>
      intro s m plus minus hst hn h0 hlt h
      have apart : 1 / 10 * maxQ (absQ plus) (absQ minus) ≤ absQ (plus - minus) := by
        rwa [absQ_eq_abs, absQ_eq_abs, absQ_eq_abs, maxQ_eq_max, abs_of_nonneg (h0.trans hlt.le), abs_of_nonneg h0,
          abs_of_pos (sub_pos.2 hlt), max_eq_left hlt.le]
      have runs := polarity_runs hst hn apart
      rw [if_neg (not_lt.2 hlt.le)] at runs
      exact ⟨s.polarity m plus minus, rfl, runs⟩
    case minus =>
      intro s m plus minus hst hn h0 hlt h
      have apart : 1 / 10 * maxQ (absQ plus) (absQ minus) ≤ absQ (plus - minus) := by
        rwa [absQ_eq_abs, absQ_eq_abs, absQ_eq_abs, maxQ_eq_max, abs_of_nonneg h0, abs_of_nonneg (h0.trans hlt.le), abs_sub_comm,
          abs_of_pos (sub_pos.2 hlt), max_eq_right hlt.le]
      have runs := polarity_runs hst hn apart
      rw [if_pos hlt] at runs
      exact ⟨s.polarity m plus minus, rfl, runs⟩
    case early => exact fun s m plus minus h => congrArg Host.Outcome.next (if_pos (.inr h))
    case equal =>
      intro s m hst hn hr
      obtain ⟨here, -, -⟩ := attemptFails_pause (reason := 4) hr
      exact ⟨_, congrArg Host.Outcome.next (polarity_fails hst hn (by norm_num [absQ_eq_abs, maxQ_eq_max])),
        congrArg Start.state here, congrArg Start.reason here⟩
    case converged => exact fun s m h => congrArg Host.Outcome.next (if_neg fun hc => h hc.2)
    case noConvergence =>
      intro s m hst hn hr
      obtain ⟨here, logged, failed, off⟩ := attemptFails_failed (reason := 3) hr
      exact ⟨_, congrArg Host.Outcome.next (if_pos ⟨hst, hn⟩), congrArg Start.state here, congrArg Start.reason here, logged, failed, off⟩
    case lock => exact fun s m hp hst hl => ⟨s.observerLock m, rfl, observerLock_runs hst hl hp⟩
    case noLock => exact fun s m h => congrArg Host.Outcome.next (observerLock_waits h)
    case alignBlind =>
      intro s m hst hi hsrc
      obtain ⟨lamA, lamB, placed⟩ := obsPlace_eq (s.onStart m fun x => { x with ang := 0 }) m 0 0 0 0
      have blind := alignElapsed_blind hst hi hsrc
      rw [placed] at blind
      refine ⟨_, congrArg Host.Outcome.next blind, congrArg Start.state (toStart_here ..), ?_, ?_, rfl⟩
      all_goals
        rw [toStart_here, State.onStart_start, vmod_self, State.onStart_start, vmod_self]
        rfl
    case alignSource =>
      intro s m hst hi hsrc
      exact ⟨_, congrArg Host.Outcome.next (alignElapsed_source hst hi hsrc), congrArg Start.state (enterRun_start ..),
        (enterRun_br ..).trans (setOffset_reads s m (fun _ _ _ => rfl) 0)⟩
    case alignFlux => exact fun s m hst hi => ⟨_, congrArg Host.Outcome.next (alignElapsed_induction hst hi), toStart_here .., rfl⟩
    case lockTimeout =>
      intro s m hst hr
      obtain ⟨here, logged, -⟩ := attemptFails_pause (reason := 5) hr
      exact ⟨_, congrArg Host.Outcome.next (if_pos hst), congrArg Start.state here, congrArg Start.reason here, congrArg Start.retry here, logged⟩
    case noCrossing =>
      intro s m hst hc
      obtain ⟨state, turning, -⟩ := searchEnd_here s m hst
      rw [hc] at turning
      exact ⟨s.searchEnd m, rfl, state, (searchEnd_rest s m hst hc).trans (rpmOf_zero (.inr h0)), turning,
        searchEnd_quiet s m (rpmOf_zero (.inr h0)) hst hc⟩
    case crossing =>
      intro s m f hst hc
      obtain ⟨state, turning, spd⟩ := searchEnd_here s m hst
      rw [hc] at turning spd
      exact ⟨s.searchEnd m, rfl, state, turning, spd, searchEnd_frame s m hst⟩
    case fluxRun =>
      exact fun s m hst hsrc => ⟨_, congrArg Host.Outcome.next (fluxBuilt_runs hst hsrc), congrArg Start.state (enterRun_start ..), enterRun_br ..⟩
    case fluxRamp =>
      intro s m hst hsrc hsl
      obtain ⟨lamA, lamB, placed⟩ := obsPlace_eq s m s.start[m].ang 0 0 0
      have ramps := fluxBuilt_ramps hst hsrc hsl
      rw [placed] at ramps
      refine ⟨_, congrArg Host.Outcome.next ramps, congrArg Start.state (toStart_here ..), ?_, rfl⟩
      rw [toStart_here, State.onStart_start, vmod_self]
      rfl
    case lost =>
      intro s m hst hr
      obtain ⟨here, logged, -⟩ := attemptFails_pause (reason := 7) hr
      exact ⟨_, congrArg Host.Outcome.next (if_pos hst), congrArg Start.state here, congrArg Start.reason here, logged⟩
    case pauseEnd =>
      intro s m hst
      have ends : s.pauseEnd m = s.toMeasure m := if_pos hst
      refine ⟨_, congrArg Host.Outcome.next ends, ?_, rfl⟩
      rw [State.toMeasure, State.onStart_start, vmod_self, toStart_here]

end Sys2Proof.Machine
end

section
/-! SUPPORT. What a bridge that executes a reaction, a motor object whose gates go off, and one that comes to its standstill leave of the
brakes and the start machines (R14, R134, R136, R203), and when a motor object counts as blocked (R15). -/

namespace Sys2Proof.Machine

/-! ## A bridge that executes a reaction -/

/-- The parts that a bridge which executes a reaction may change, taken from `t`. -/
def State.formedFrom (s t : State) : State := { s with br := t.br, pwm := t.pwm, recd := t.recd, cap := t.cap }

theorem silent_formedFrom : Silent State.formedFrom := fun _ _ _ => rfl

@[simp] theorem formed_onBr (s : State) (n : Fin 8) (f : Bridge → Bridge) : (s.onBr n f).formedFrom = s.formedFrom := rfl

@[simp] theorem formed_raise (s : State) (ev : Ev) (u a : Nat) (d : List Byte) : (s.raise ev u a d).formedFrom = s.formedFrom :=
  reads_raise silent_formedFrom s ev u a d

@[simp] theorem formed_offBridge (s : State) (n : Fin 8) (f : Bridge → Bridge) : (s.offBridge n f).formedFrom = s.formedFrom := by
  unfold State.offBridge
  split <;> rfl

@[simp] theorem formed_bridgeTrip (s : State) (n : Fin 8) : (s.bridgeTrip n).formedFrom = s.formedFrom := formed_offBridge ..

@[simp] theorem formed_bridgeBlock (s : State) (n : Fin 8) : (s.bridgeBlock n).formedFrom = s.formedFrom := formed_offBridge ..

@[simp] theorem formed_bridgeAsc (s : State) (n : Fin 8) : (s.bridgeAsc n).formedFrom = s.formedFrom := by
  unfold State.bridgeAsc
  split <;> simp

theorem formed_bridgeExec (s : State) (n : Fin 8) : (s.bridgeExec n).formedFrom = s.formedFrom := by
  unfold State.bridgeExec
  split
  case h_1 => split <;> simp
  case h_2 =>
    split
    · simp
    · split
      · simp
      · split <;> simp
  case h_3 => simp
  case h_4 =>
    dsimp only
    split <;> simp

theorem foldl_bridgeExec_brake (s : State) (l : List (Fin 8)) : (l.foldl (fun s n => s.bridgeExec n) s).brake = s.brake :=
  congrArg (fun k => (k s).brake) (reads_foldl formed_bridgeExec l s)

/-! ## Gates off under a reaction -/

@[simp] theorem endRender_brake (s : State) (m : Fin 4) : (s.endRender m).brake = s.brake :=
  stopped_reads (stopped_endRender s m) State.brake fun _ => rfl

@[simp] theorem startToIdle_brake (s : State) (m : Fin 4) : (s.startToIdle m).brake = s.brake := by
  unfold State.startToIdle
  dsimp only
  split <;> simp

@[simp] theorem stopLinkedAxes_brake (s : State) (m : Fin 4) : (s.stopLinkedAxes m).brake = s.brake := by
  refine reads_forFin (k := State.brake) (fun k s => ?_) s
  split
  · simp [State.axisImmediate, State.axisUncertain]
  · rfl

@[simp] theorem abortShadowsOf_brake (s : State) (m : Fin 4) : (s.abortShadowsOf m).brake = s.brake := by
  refine reads_forFin (k := State.brake) (fun i s => ?_) s
  split
  case h_4 => rfl
  all_goals split <;> simp [State.abortShadow]

theorem drumOff_brake (s : State) (m : Fin 4) : (s.drumOff m).brake = (s.brakeToClosed m).brake := by
  simp [State.drumOff, State.dropHeave]

/-- A brake that falls to CLOSED keeps its count of failed proofs. -/
theorem brakeToClosed_fail (s : State) (m : Fin 4) : (s.brakeToClosed m).brake[m].fail = s.brake[m].fail := by
  rw [State.brakeToClosed, State.onBrake_brake, vmod_self]

theorem drumOff_fail (s : State) (m : Fin 4) : (s.drumOff m).brake[m].fail = s.brake[m].fail :=
  (congrArg (fun v : Vector Brake 4 => v[m].fail) (drumOff_brake s m)).trans (brakeToClosed_fail s m)

/-- Gates off, before the drum of the motor object follows. -/
def State.gatesShut (s : State) (m : Fin 4) (c : OutCause) : State :=
  ((((s.startToIdle m).stopLinkedAxes m).memberOut m c).abortShadowsOf m).onLoop m fun l => { l with run := false }

theorem gatesOff_eq (s : State) (m : Fin 4) (c : OutCause) : s.gatesOff m c =
    if s.inGroup m && s.runsHere m && s.othersShare m then s.gatesShut m c else (s.gatesShut m c).drumOff m := rfl

theorem gatesShut_brake (s : State) (m : Fin 4) (c : OutCause) : (s.gatesShut m c).brake = s.brake := by
  simp [State.gatesShut, State.memberOut]

theorem gatesOff_fail (s : State) (m : Fin 4) (c : OutCause) : (s.gatesOff m c).brake[m].fail = s.brake[m].fail := by
  have shut : (s.gatesShut m c).brake[m].fail = s.brake[m].fail :=
    congrArg (fun v : Vector Brake 4 => v[m].fail) (gatesShut_brake s m c)
  rw [gatesOff_eq]
  split
  · exact shut
  · exact (drumOff_fail ..).trans shut

/-- A PULSE_BLOCK keeps the count of failed proofs. -/
theorem reactEv_pulseBlock_fail (s : State) (m : Fin 4) (ev : Ev) (u : Nat) (present : Bool) :
    (s.reactEv m ev u .pulseBlock present).brake[m].fail = s.brake[m].fail := by
  have executed (x : State) : (x.execReact m .pulseBlock .reaction).brake[m].fail = x.brake[m].fail := by
    have bridges : (x.execReact m .pulseBlock .reaction).brake = (x.gatesOff m .reaction).brake := foldl_bridgeExec_brake ..
    rw [bridges, gatesOff_fail]
  unfold State.reactEv State.react
  rw [if_neg (show Reaction.pulseBlock ≠ .log by decide)]
  dsimp only
  split
  · exact executed _
  · rfl

/-! ## Blocked -/

theorem harder_rank (a b : Reaction) : (harder a b).rank = max a.rank b.rank := by
  unfold harder
  split <;> omega

/-- No reaction of a list is harder than the hardest, from whichever the search begins. -/
theorem rank_le_foldl_harder (l : List React) (a : Reaction) : a.rank ≤ (l.foldl (fun a r => harder a r.sev) a).rank ∧
    ∀ r ∈ l, r.sev.rank ≤ (l.foldl (fun a r => harder a r.sev) a).rank := by
  induction l generalizing a with
  | nil => simp
  | cons x l ih =>
    obtain ⟨first, rest⟩ := ih (harder a x.sev)
    rw [harder_rank] at first
    refine ⟨by rw [List.foldl_cons]; omega, fun r hr => ?_⟩
    rw [List.foldl_cons]
    rcases List.mem_cons.1 hr with rfl | hr
    · omega
    · exact rest r hr

/-- A request of PULSE_BLOCK or harder blocks its motor object (R15). -/
theorem blocked_of_mem {s : State} {m : Fin 4} {r : React} (hr : r ∈ s.reacts[m]) (hs : 4 ≤ r.sev.rank) : s.blocked m = true :=
  decide_eq_true (hs.trans ((rank_le_foldl_harder s.reacts[m] .log).2 r hr))

/-! ## The end of a stop -/

/-- The parts that gates going off and the mode that follows may change, taken from `t`. -/
def State.restedFrom (s t : State) : State :=
  { s with
    br := t.br, pwm := t.pwm, loops := t.loops, outer := t.outer, shock := t.shock, heave := t.heave, em := t.em
    recd := t.recd, cap := t.cap }

@[simp] theorem rested_onEm (s : State) (m : Fin 4) (f : Emerg → Emerg) : (s.onEm m f).restedFrom = s.restedFrom := rfl

@[simp] theorem rested_onOuter (s : State) (m : Fin 4) (f : Outer → Outer) : (s.onOuter m f).restedFrom = s.restedFrom := rfl

@[simp] theorem rested_gatesIdle (s : State) (m : Fin 4) : (s.gatesIdle m).restedFrom = s.restedFrom :=
  gatesIdle_reads State.restedFrom (fun _ => rfl) s m

@[simp] theorem rested_standstill (s : State) (m : Fin 4) : (s.standstill m).restedFrom = s.restedFrom := by
  unfold State.standstill
  dsimp only
  split
  · rw [rested_onOuter]
    refine (reads_foldl (k := State.restedFrom) (fun s n => ?_) _ _).trans (rested_gatesIdle s m)
    split <;> rfl
  · exact rested_gatesIdle s m

@[simp] theorem rested_enterStop (s : State) (m : Fin 4) (e : EMode) (b : StopBy) : (s.enterStop m e b).restedFrom = s.restedFrom :=
  stopped_reads (stopped_enterStop s m e b) State.restedFrom fun _ => rfl

@[simp] theorem rested_resumePending (s : State) (m : Fin 4) : (s.resumePending m).restedFrom = s.restedFrom := by
  unfold State.resumePending
  dsimp only
  split
  · simp
  · split <;> simp

/-- A motor object in IDLE: it holds no payout, and its member joins or shares no more. -/
def State.idled (s : State) (m : Fin 4) : State :=
  ((s.onStart m fun x => { x with state := .idle, since := s.up }).onOuter m fun o => { o with hold := none }).onMbr m fun x =>
    match x.state with
    | .joining | .share => { x with state := .idle, cpos := 0, cneg := 0, factor := 0, ramp := false }
    | _ => x

theorem rested_stopDone (s : State) (m : Fin 4) (block : Bool) : (s.stopDone m block).restedFrom = (s.idled m).restedFrom := by
  have off (x : State) : (if block then x.gatesIdle m else x.standstill m).restedFrom = x.restedFrom := by split <;> simp
  unfold State.stopDone
  dsimp only
  split
  · exact (rested_onEm ..).trans (rested_gatesIdle ..)
  · split
    · exact (rested_resumePending ..).trans (off _)
    · exact off _

/-- However a motor object comes to its standstill, it is in IDLE (R136). -/
theorem stopDone_idle (s : State) (m : Fin 4) (block : Bool) : (s.stopDone m block).start[m].state = .idle := by
  have start : (s.stopDone m block).start = (s.idled m).start := congrArg (fun k => (k s).start) (rested_stopDone s m block)
  rw [start]
  exact congrArg Start.state (vmod_self s.start m _)

theorem stopDone_brake (s : State) (m : Fin 4) (block : Bool) : (s.stopDone m block).brake = s.brake :=
  congrArg (fun k => (k s).brake) (rested_stopDone s m block)

end Sys2Proof.Machine
end

section
/-! SUPPORT. The brake sequence (R134, R135): one equation per outcome of each of its commands, and what that outcome leaves. -/

namespace Sys2Proof.Machine

section
variable {s : State} {m : Fin 4}

/-! ## The proof -/

theorem provingEnd_opens (hp : s.brake[m].state = .proving) (ha : s.brake[m].abort = false) (hm : s.proveMoved m = false)
    (hh : s.proveHeld m = true) : s.provingEnd m =
      (s.onBrake m fun b => { b with state := .opening, since := s.up, proved := true, release := true }).onOuter m fun o =>
        { o with hold := some o.pay } := by
  simp [State.provingEnd, hp, ha, hm, hh, -Fin.getElem_fin]

theorem provingEnd_fails (hp : s.brake[m].state = .proving) (ha : s.brake[m].abort = false)
    (hf : s.proveMoved m = true ∨ s.proveHeld m = false) : s.provingEnd m = s.proveFail m := by
  simp [State.provingEnd, hp, ha, hf, -Fin.getElem_fin]

/-- A proof that fails blocks the motor object, is counted and is on record. -/
theorem proveFail_spec (s : State) (m : Fin 4) : (s.proveFail m).blocked m = true ∧
    (s.proveFail m).brake[m].fail = bump s.brake[m].fail ∧ Logged s (s.proveFail m) .BRK_PROVE_FAIL m := by
  refine ⟨?_, ?_, ?_⟩
  · obtain ⟨r, hr, -, -, hsev, -⟩ := reactEv_asks (s := (s.onBrake m fun b => { b with fail := bump b.fail }).raise .BRK_PROVE_FAIL m)
      (r := .pulseBlock) (by decide) m .BRK_PROVE_FAIL m false
    exact blocked_of_mem hr hsev
  · rw [State.proveFail, reactEv_pulseBlock_fail, State.raise_brake, State.onBrake_brake, vmod_self]
  · have told := raise_logged_of s (s.onBrake m fun b => { b with fail := bump b.fail }) .BRK_PROVE_FAIL m 0 [] rfl rfl
    rw [State.proveFail, State.reactEv]
    exact told.keeps keeps_react

/-! ## Opening -/

theorem brakeOpened_spec (s : State) (m : Fin 4) :
    (s.brakeOpened m).brake[m] = { s.brake[m] with state := .open_, since := s.up } ∧ (s.brakeOpened m).outer[m].hold = none ∧
      s.brakeOpened m = { s with brake := (s.brakeOpened m).brake, outer := (s.brakeOpened m).outer } :=
  ⟨vmod_self .., congrArg Outer.hold (vmod_self s.outer m _), rfl⟩

theorem brakeFeedback_opens (ho : s.brake[m].state = .opening) (hr : s.pairReads (s.n Fld.MOTOR_BRKFB m) = true) :
    s.brakeFeedback m = s.brakeOpened m := if_pos ⟨ho, hr⟩

theorem brakeFeedback_waits (h : s.brake[m].state ≠ .opening ∨ s.pairReads (s.n Fld.MOTOR_BRKFB m) = false) :
    s.brakeFeedback m = s := by
  refine if_neg fun ⟨ho, hr⟩ => h.elim (fun h => h ho) fun h => ?_
  rw [h] at hr
  exact Bool.false_ne_true hr

theorem brakeOpenTimeout_opens (ho : s.brake[m].state = .opening) (hf : s.n Fld.MOTOR_BRKFB m = 0) :
    s.brakeOpenTimeout m = s.brakeOpened m := by
  rw [State.brakeOpenTimeout, if_neg (not_not_intro ho), if_pos hf]

theorem brakeOpenTimeout_sets (ho : s.brake[m].state = .opening) (hf : s.n Fld.MOTOR_BRKFB m ≠ 0) :
    s.brakeOpenTimeout m = (s.brakeClose m).raise .BRK_OPEN_FAIL m := by
  rw [State.brakeOpenTimeout, if_neg (not_not_intro ho), if_neg hf]

/-- A change of a brake and its outer loop that is told. -/
theorem onBrake_onOuter_raise_spec (s : State) (m : Fin 4) (f : Brake → Brake) (g : Outer → Outer) (ev : Ev) {t : State}
    (ht : t = ((s.onBrake m f).onOuter m g).raise ev m) : t.brake[m] = f s.brake[m] ∧ t.outer[m] = g s.outer[m] ∧ Logged s t ev m ∧
      t = { s with brake := t.brake, outer := t.outer, recd := t.recd, cap := t.cap } := by
  have told := raise_logged_of s ((s.onBrake m f).onOuter m g) ev m 0 [] rfl rfl
  obtain ⟨r, c, h⟩ := raise_recOnly ((s.onBrake m f).onOuter m g) ev m 0 []
  rw [← ht] at told
  rw [h] at ht
  subst ht
  exact ⟨vmod_self .., vmod_self .., told, rfl⟩

/-! ## Setting and the slip test -/

theorem brakeClosed_tests (hc : s.brake[m].state = .closing) : s.brakeClosed m = s.onBrake m fun b => { b with
    state := .slipTest, since := s.up, hold := s.outer[m].tPrev, holdSet := true, proved := false, start := s.shaft m } :=
  if_neg (not_not_intro hc)

theorem slipTestEnd_slips (ht : s.brake[m].state = .slipTest) (hm : s.proveMoved m = true) : s.slipTestEnd m = s.brakeSlipped m := by
  rw [State.slipTestEnd, if_neg (not_not_intro ht), if_pos hm]

/-- A brake that has passed its slip test. -/
def Brake.passed (b : Brake) (up : Nat) : Brake :=
  { b with state := .closed, since := up, slip := false, release := false, runNext := false }

/-- The brake of a motor object has passed its slip test. -/
def State.slipPassed (s : State) (m : Fin 4) : State := s.onBrake m fun b => b.passed s.up

theorem slipPassed_here (s : State) (m : Fin 4) : (s.slipPassed m).brake[m] = s.brake[m].passed s.up := vmod_self ..

/-- A brake that holds, of a motor object in no group that is not to run again, ends the stop. -/
theorem slipTestEnd_rests (ht : s.brake[m].state = .slipTest) (hm : s.proveMoved m = false) (hr : s.brake[m].runNext = false)
    (hg : s.inGroup m = false) : s.slipTestEnd m = (s.slipPassed m).stopDone m := by
  have alone : (s.slipPassed m).stopDoneAll m = (s.slipPassed m).stopDone m := stopDoneAll_alone hg
  rw [← alone]
  simp [State.slipTestEnd, ht, hm, hr, State.slipPassed, Brake.passed, -Fin.getElem_fin]

/-- A brake that holds, of a motor object that is to run again, is proved again. -/
theorem slipTestEnd_proves (ht : s.brake[m].state = .slipTest) (hm : s.proveMoved m = false) (hr : s.brake[m].runNext = true)
    (he : s.em[m].mode = .modeLaw) : s.slipTestEnd m = (s.slipPassed m).brakeProve m := by
  simp [State.slipTestEnd, ht, hm, hr, he, EMode.isStop, State.slipPassed, Brake.passed, -Fin.getElem_fin]

theorem brakeProve_here (s : State) (m : Fin 4) : (s.brakeProve m).brake[m] = { s.brake[m] with
    state := .proving, since := s.up, proved := false, runNext := false, abort := false, start := s.shaft m } := vmod_self ..

end

/-! ## The statement -/

/-- Settles O44: one equation per outcome of each command; a failed proof through its request of PULSE_BLOCK, which keeps the count of the
brake, and a passed slip test through the standstill, which keeps the brake. -/
theorem brakeSequence : Obligations.BrakeSequence := by
  refine ⟨?opens, ?fails, ?notProving, ?feedback, ?noFeedback, ?timeOpens, ?timeSets, ?closing, ?slips, ?rests, ?again⟩
  case opens =>
    intro s m hp ha hm hh
    refine ⟨_, congrArg Host.Outcome.next (provingEnd_opens hp ha hm hh), vmod_self .., ?_, rfl⟩
    exact congrArg Outer.hold (vmod_self s.outer m _)
  case fails => exact fun s m hp ha hf => ⟨_, congrArg Host.Outcome.next (provingEnd_fails hp ha hf), proveFail_spec s m⟩
  case notProving => exact fun s m h => congrArg Host.Outcome.next (if_pos h)
  case feedback => exact fun s m ho hr => ⟨_, congrArg Host.Outcome.next (brakeFeedback_opens ho hr), brakeOpened_spec s m⟩
  case noFeedback => exact fun s m h => congrArg Host.Outcome.next (brakeFeedback_waits h)
  case timeOpens =>
    intro s m ho hf
    obtain ⟨here, hold, frame⟩ := brakeOpened_spec s m
    exact ⟨_, congrArg Host.Outcome.next (brakeOpenTimeout_opens ho hf), congrArg Brake.state here, hold, frame⟩
  case timeSets =>
    intro s m ho hf
    obtain ⟨brake, outer, told, frame⟩ := onBrake_onOuter_raise_spec s m _ _ .BRK_OPEN_FAIL (brakeOpenTimeout_sets ho hf)
    exact ⟨s.brakeOpenTimeout m, rfl, congrArg Brake.state brake, congrArg Brake.release brake, congrArg Outer.hold outer, told, frame⟩
  case closing => exact fun s m hc => ⟨_, congrArg Host.Outcome.next (brakeClosed_tests hc), vmod_self .., rfl⟩
  case slips =>
    intro s m ht hm
    obtain ⟨brake, outer, told, frame⟩ := onBrake_onOuter_raise_spec s m _ _ .BRK_SLIP (slipTestEnd_slips ht hm)
    exact ⟨s.slipTestEnd m, rfl, congrArg Brake.state brake, congrArg Brake.slip brake, congrArg Outer.tPrev outer, told, frame⟩
  case rests =>
    intro s m ht hm hr hg _
    have passed : ((s.slipPassed m).stopDone m).brake[m] = s.brake[m].passed s.up := by rw [stopDone_brake, slipPassed_here]
    exact ⟨_, congrArg Host.Outcome.next (slipTestEnd_rests ht hm hr hg), congrArg Brake.state passed, congrArg Brake.slip passed,
      stopDone_idle ..⟩
  case again =>
    intro s m ht hm hr he
    have proves := brakeProve_here (s.slipPassed m) m
    exact ⟨_, congrArg Host.Outcome.next (slipTestEnd_proves ht hm hr he), congrArg Brake.state proves, congrArg Brake.proved proves⟩

end Sys2Proof.Machine
end

section
/-! SUPPORT. One auxiliary axis changed (R148 to R154): what the operations that several commands share leave of it and of the rest of the
state. -/

namespace Sys2Proof.Machine

/-! ## One axis changed -/

/-- A state that differs from another in one axis, changed by `f`, and in the recorder and the capture buffers at most. -/
structure AxisStep (s t : State) (k : Fin 8) (f : Axis → Axis) : Prop where
  here   : t.axes[k] = f s.axes[k]
  others : ∀ j : Fin 8, j ≠ k → t.axes[j] = s.axes[j]
  rest   : t = { s with axes := t.axes, recd := t.recd, cap := t.cap }

section
variable {s t u : State} {k : Fin 8} {f g : Axis → Axis}

theorem onAxis_step (s : State) (k : Fin 8) (f : Axis → Axis) : AxisStep s (s.onAxis k f) k f :=
  ⟨vmod_self .., fun _ hj => vmod_ne _ _ _ _ hj, rfl⟩

theorem AxisStep.trans (h : AxisStep s t k f) (h' : AxisStep t u k g) : AxisStep s u k (g ∘ f) where
  here := by rw [h'.here, h.here]; rfl
  others j hj := (h'.others j hj).trans (h.others j hj)
  rest := by
    have hr := h'.rest
    rw [h.rest] at hr
    exact hr

theorem RecOnly.axisStep (h : RecOnly s t) : AxisStep s t k id := by
  obtain ⟨r, c, rfl⟩ := h
  exact ⟨rfl, fun _ _ => rfl, rfl⟩

theorem AxisStep.onAxis (h : AxisStep s t k f) (g : Axis → Axis) : AxisStep s (t.onAxis k g) k (g ∘ f) := h.trans (onAxis_step t k g)

theorem AxisStep.raise (h : AxisStep s t k f) (ev : Ev) (n a : Nat) (d : List Byte) : AxisStep s (t.raise ev n a d) k f :=
  h.trans (raise_recOnly t ev n a d).axisStep

theorem AxisStep.inputs (h : AxisStep s t k f) (hf : ∀ a, (f a).inputs = a.inputs) : t.axes[k].inputs = s.axes[k].inputs := by
  rw [h.here, hf]

theorem AxisStep.n (h : AxisStep s t k f) (x : Field) (i : Nat) : t.n x i = s.n x i :=
  (congrArg (fun u : State => u.n x i) h.rest).trans rfl

/-- Whether an input is active is a matter of the inputs alone (R155). -/
theorem AxisStep.active (h : AxisStep s t k f) (hf : ∀ a, (f a).inputs = a.inputs) (i : Fin 4) : t.axActive k i = s.axActive k i := by
  unfold State.axActive
  rw [h.inputs hf, h.n]

theorem axRefuse_spec (s : State) (k : Fin 8) (why : Nat) : Logged s (s.axRefuse k why) .AX_REFUSED k why ∧
    s.axRefuse k why = { s with recd := (s.axRefuse k why).recd, cap := (s.axRefuse k why).cap } :=
  ⟨raise_logged s _ _ _ _, (raise_recOnly ..).eq⟩

end

/-! ## The position uncertain, and immediate stops (R153) -/

/-- An axis whose position is uncertain. -/
def Axis.lost (a : Axis) : Axis := { a with uncert := true, homed := false }

/-- An axis stopped at once at the time `up`: to FAULT, or to READY where motion stood. -/
def Axis.stopped (a : Axis) (toFault short : Bool) (up : Nat) : Axis :=
  let b := { a with
    gen := a.gen.restAt a.pos.toInt, pend := none, halting := false, thenStandstill := false, limHalt := none, homeStep := .none_ }
  if toFault then { b with state := .fault, axen := false, shrt := short, since := up }
  else match a.state with
    | .moving | .homing | .sync => { b with state := .ready, since := up }
    | _ => b

theorem Axis.stopped_fault (a : Axis) (short : Bool) (up : Nat) :
    (a.stopped true short up).state = .fault ∧ (a.stopped true short up).axen = false := ⟨rfl, rfl⟩

/-- Motion that stops at once leaves the axis in READY. -/
theorem Axis.stopped_ready {a : Axis} (h : a.state = .moving ∨ a.state = .homing ∨ a.state = .sync) (short : Bool) (up : Nat) :
    (a.stopped false short up).state = .ready := by
  rcases h with h | h | h <;> simp [Axis.stopped, h]

/-- What an immediate stop leaves of an axis. -/
theorem Axis.stopped_keeps (a : Axis) (toFault short : Bool) (up : Nat) :
    (a.stopped toFault short up).uncert = a.uncert ∧ (a.stopped toFault short up).homed = a.homed ∧
      (a.stopped toFault short up).pos = a.pos ∧ (a.stopped toFault short up).inputs = a.inputs ∧
      (a.stopped toFault short up).lwErr = a.lwErr := by
  unfold Axis.stopped
  dsimp only
  split
  · exact ⟨rfl, rfl, rfl, rfl, rfl⟩
  · split <;> exact ⟨rfl, rfl, rfl, rfl, rfl⟩

theorem Axis.lost_stopped_inputs (a : Axis) (toFault short : Bool) (up : Nat) : (a.lost.stopped toFault short up).inputs = a.inputs := by
  obtain ⟨-, -, -, inputs, -⟩ := a.lost.stopped_keeps toFault short up
  exact inputs

theorem axisUncertain_step (s : State) (k : Fin 8) : AxisStep s (s.axisUncertain k) k Axis.lost := (onAxis_step s k Axis.lost).raise ..

theorem axisUncertain_logged {s x : State} (hd : x.dev = s.dev) (k : Fin 8) : Logged s (x.axisUncertain k) .AX_POS_UNCERTAIN k :=
  raise_logged_fast (ev := .AX_POS_UNCERTAIN) ((State.onAxis_dev x k Axis.lost).trans hd) (by decide) k 0 []

theorem axisImmediate_step (s : State) (k : Fin 8) (b : Bool) : AxisStep s (s.axisImmediate k b) k
    fun a => a.lost.stopped b (s.n Fld.AXIS_STANDSTILL k == 1) s.up :=
  (axisUncertain_step s k).onAxis _

/-- Whatever an immediate stop finds, the position is uncertain after it. -/
theorem axisImmediate_lost (s : State) (k : Fin 8) (b : Bool) :
    (s.axisImmediate k b).axes[k].uncert = true ∧ (s.axisImmediate k b).axes[k].homed = false := by
  rw [(axisImmediate_step s k b).here]
  obtain ⟨uncert, homed, -⟩ := s.axes[k].lost.stopped_keeps b (s.n Fld.AXIS_STANDSTILL k == 1) s.up
  exact ⟨uncert, homed⟩

theorem axisImmediate_leaves (s : State) (k : Fin 8) (b : Bool) : (s.axisImmediate k b).axes[k].pos = s.axes[k].pos ∧
    (s.axisImmediate k b).axes[k].lwErr = s.axes[k].lwErr := by
  rw [(axisImmediate_step s k b).here]
  obtain ⟨-, -, pos, -, lwErr⟩ := s.axes[k].lost.stopped_keeps b (s.n Fld.AXIS_STANDSTILL k == 1) s.up
  exact ⟨pos, lwErr⟩

theorem axisImmediate_logged {s x : State} (hd : x.dev = s.dev) (k : Fin 8) (b : Bool) :
    Logged s (x.axisImmediate k b) .AX_POS_UNCERTAIN k := (axisUncertain_logged hd k).of_recd (State.onAxis_recd ..)

theorem axisImmediate_fault (s : State) (k : Fin 8) :
    (s.axisImmediate k true).axes[k].state = .fault ∧ (s.axisImmediate k true).axes[k].axen = false := by
  rw [(axisImmediate_step s k true).here]
  exact Axis.stopped_fault ..

/-! ## STANDSTILL (R154) -/

/-- An axis in STANDSTILL since the time `up`. -/
def Axis.stood (a : Axis) (short : Bool) (up : Nat) : Axis :=
  { a with
    state := .standstill, axen := false, shrt := short, pend := none, halting := false, limHalt := none
    thenStandstill := false, homeStep := .none_, since := up, gen := a.gen.restAt a.pos.toInt }

theorem axStandstill_eq (s : State) (k : Fin 8) : s.axStandstill k =
    let t := s.onAxis k fun a => a.stood (s.n Fld.AXIS_STANDSTILL k == 1) s.up
    if s.yes Fld.AXIS_ENOFFUNC k then t.axisUncertain k else t := rfl

/-- STANDSTILL releases AXEN and drops what waits; the enable and the chatter counter stand. -/
theorem axStandstill_spec (s : State) (k : Fin 8) : (s.axStandstill k).axes[k].state = .standstill ∧
    (s.axStandstill k).axes[k].axen = false ∧ (s.axStandstill k).axes[k].shrt = (s.n Fld.AXIS_STANDSTILL k == 1) ∧
    (s.axStandstill k).axes[k].pend = none ∧ (s.axStandstill k).axes[k].en = s.axes[k].en ∧
    (s.axStandstill k).axes[k].chat = s.axes[k].chat := by
  have step := onAxis_step s k fun a => a.stood (s.n Fld.AXIS_STANDSTILL k == 1) s.up
  rw [axStandstill_eq]
  dsimp only
  split
  · rw [(step.trans (axisUncertain_step ..)).here]
    exact ⟨rfl, rfl, rfl, rfl, rfl, rfl⟩
  · rw [step.here]
    exact ⟨rfl, rfl, rfl, rfl, rfl, rfl⟩

/-- Where STANDSTILL takes the position with it, that is on record (R154). -/
theorem axStandstill_lost {s x : State} {k : Fin 8} (hd : x.dev = s.dev) (h : x.yes Fld.AXIS_ENOFFUNC k = true) :
    (x.axStandstill k).axes[k].uncert = true ∧ Logged s (x.axStandstill k) .AX_POS_UNCERTAIN k := by
  rw [axStandstill_eq]
  dsimp only
  rw [if_pos h]
  refine ⟨?_, axisUncertain_logged ((State.onAxis_dev ..).trans hd) k⟩
  rw [(axisUncertain_step ..).here]
  rfl

end Sys2Proof.Machine
end

section
/-! SUPPORT. The requests of an auxiliary axis (R146, R150 to R153, R157): one equation per outcome of each of them. -/

namespace Sys2Proof.Machine

/-! ## Commands that start from a moving axis -/

/-- The states from which an axis is brought to rest (R152, R153). -/
def Axis.underway (a : Axis) : Prop := a.state = .moving ∨ a.state = .homing ∨ a.state = .sync

section
variable {s : State} {k : Fin 8}

theorem axStop_underway (h : s.axes[k].underway) : s.axStop k = s.axisImmediate k false := by
  rcases h with h | h | h <;> simp only [State.axStop, h]

theorem axStop_refuses (h : s.axes[k].state = .off ∨ s.axes[k].state = .standstill ∨ s.axes[k].state = .ready ∨ s.axes[k].state = .fault) :
    s.axStop k = s.axRefuse k 1 := by
  rcases h with h | h | h | h <;> simp only [State.axStop, h]

theorem axHalt_halts (h : s.axes[k].state = .moving ∨ s.axes[k].state = .sync) : s.axHalt k = s.axHaltNow k false := by
  rcases h with h | h <;> simp only [State.axHalt, h]

theorem axSyncOff_halts (h : s.axes[k].state = .sync) : s.axSyncOff k = s.axHaltNow k false := if_pos h

/-- A halt keeps the state until the axis is at rest. -/
theorem axHaltNow_spec (s : State) (k : Fin 8) (then_ : Bool) : (s.axHaltNow k then_).axes[k].halting = true ∧
    (s.axHaltNow k then_).axes[k].thenStandstill = (s.axes[k].thenStandstill || then_) ∧
    (s.axHaltNow k then_).axes[k].state = s.axes[k].state ∧ (s.axHaltNow k then_).axes[k].uncert = s.axes[k].uncert ∧
    (s.axHaltNow k then_).axes[k].en = s.axes[k].en ∧ s.axHaltNow k then_ = { s with axes := (s.axHaltNow k then_).axes } := by
  unfold State.axHaltNow
  rw [(onAxis_step ..).here]
  exact ⟨rfl, rfl, rfl, rfl, rfl, rfl⟩

/-! ## The enable -/

/-- The enable of an axis written. -/
def State.axEn (s : State) (k : Fin 8) (en : Bool) : State := s.onAxis k fun a => { a with en := en }

theorem axEn_here (s : State) (k : Fin 8) (en : Bool) : (s.axEn k en).axes[k] = { s.axes[k] with en := en } := vmod_self ..

theorem axEnable_on (s : State) (k : Fin 8) : s.axEnable k true = s.axEn k true := rfl

theorem axEnable_ready (h : s.axes[k].state = .ready) : s.axEnable k false = (s.axEn k false).axStandstill k := by
  simp only [State.axEnable, h]
  rfl

theorem axEnable_underway (h : s.axes[k].underway) : s.axEnable k false = (s.axEn k false).axHaltNow k true := by
  rcases h with h | h | h <;> simp only [State.axEnable, h] <;> rfl

/-! ## Targets (R146, R150) -/

/-- The target of an axis written. -/
def State.axAim (s : State) (k : Fin 8) (hi : Word) : State := s.onAxis k fun a => { a with tgt := hi ++ a.tgtLow }

/-- An axis sent to a position. -/
def Axis.sent (a : Axis) (t : BitVec 64) : Axis :=
  { a with tgt := t, state := .moving, halting := false, limHalt := none, gen := a.gen.aim .position t.toInt }

/-- A target within the soft limits is taken as it is where no limit is qualified (R146, R156). -/
theorem axClamp_within {t : Int} (lo : s.z Fld.AXIS_SWLIMN k ≤ t) (hi : t ≤ s.z Fld.AXIS_SWLIMP k)
    (pos : s.axes[k].inputs[1].qualified = false) (neg : s.axes[k].inputs[2].qualified = false) : s.axClamp k t = (s, t) := by
  have inside : clampI (s.z Fld.AXIS_SWLIMN k) (s.z Fld.AXIS_SWLIMP k) t = t := by
    unfold clampI
    rw [if_neg (Int.not_lt.2 lo), if_neg (Int.not_lt.2 hi)]
  unfold State.axClamp
  simp only [inside, pos, neg, ne_eq, not_true_eq_false, decide_false, Bool.false_and, Bool.or_self, Bool.false_eq_true, if_false]
  rfl

/-- A target elsewhere that is taken as it is sends the axis there. -/
theorem axGo_sent (hc : s.axClamp k s.axes[k].tgt.toInt = (s, s.axes[k].tgt.toInt))
    (hne : s.axes[k].tgt ≠ s.axes[k].pos) : (s.axGo k).axes[k] = s.axes[k].sent s.axes[k].tgt ∧
      (∀ j : Fin 8, j ≠ k → (s.axGo k).axes[j] = s.axes[j]) ∧ s.axGo k = { s with axes := (s.axGo k).axes } := by
  have elsewhere : s.axes[k].tgt.toInt ≠ s.axes[k].pos.toInt := fun h => hne (BitVec.eq_of_toInt_eq h)
  unfold State.axGo
  rw [hc]
  dsimp only
  refine ⟨?_, (onAxis_step ..).others, rfl⟩
  rw [(onAxis_step ..).here, if_neg (fun h => elsewhere h.2), BitVec.ofInt_toInt]
  rfl

theorem axTarget_uncert (h : s.axes[k].uncert = true) (hi : Word) : s.axTarget k hi = s.axRefuse k 2 := if_pos h

theorem axTarget_ready (hu : s.axes[k].uncert = false) (h : s.axes[k].state = .ready) (hi : Word) :
    s.axTarget k hi = (s.axAim k hi).axGo k := by
  simp only [State.axTarget, hu, h, Bool.false_eq_true, if_false]
  rfl

theorem axTarget_standstill (hu : s.axes[k].uncert = false) (h : s.axes[k].state = .standstill) (hi : Word) :
    s.axTarget k hi = (s.axAim k hi).axWake k .target := by
  simp only [State.axTarget, hu, h, Bool.false_eq_true, if_false]
  rfl

/-- A target from READY within the limits moves the axis. -/
theorem axTarget_moves {hi : Word} (hst : s.axes[k].state = .ready) (hu : s.axes[k].uncert = false)
    (hlo : s.z Fld.AXIS_SWLIMN k ≤ (hi ++ s.axes[k].tgtLow).toInt) (hhi : (hi ++ s.axes[k].tgtLow).toInt ≤ s.z Fld.AXIS_SWLIMP k)
    (hp : s.axes[k].inputs[1].qualified = false) (hn : s.axes[k].inputs[2].qualified = false)
    (hne : hi ++ s.axes[k].tgtLow ≠ s.axes[k].pos) :
    (s.axTarget k hi).axes[k] = s.axes[k].sent (hi ++ s.axes[k].tgtLow) ∧
      (∀ j : Fin 8, j ≠ k → (s.axTarget k hi).axes[j] = s.axes[j]) ∧ s.axTarget k hi = { s with axes := (s.axTarget k hi).axes } := by
  have aimed := onAxis_step s k fun a => { a with tgt := hi ++ a.tgtLow }
  have here : (s.axAim k hi).axes[k] = { s.axes[k] with tgt := hi ++ s.axes[k].tgtLow } := aimed.here
  have taken : (s.axAim k hi).axClamp k (hi ++ s.axes[k].tgtLow).toInt = (s.axAim k hi, (hi ++ s.axes[k].tgtLow).toInt) := by
    apply axClamp_within
    · exact hlo
    · exact hhi
    · rw [here]; exact hp
    · rw [here]; exact hn
  obtain ⟨sent, others, frame⟩ := axGo_sent (s := s.axAim k hi) (k := k) (by rw [here]; exact taken)
    (by rw [here]; exact hne)
  rw [axTarget_ready hu hst]
  refine ⟨?_, fun j hj => (others j hj).trans (aimed.others j hj), frame⟩
  rw [sent, here]
  rfl

/-! ## Requests that wait for ENONDLY (R152) -/

theorem axWake_waits {r : AxReq} (he : s.axes[k].en = true) (ha : s.axActive k 3 = false) : s.axWake k r =
    s.onAxis k fun a => { a with axen := true, shrt := false, pend := some r, since := s.up } := by
  simp [State.axWake, he, ha, -Fin.getElem_fin]

theorem axAim_active (s : State) (k : Fin 8) (hi : Word) (i : Fin 4) : (s.axAim k hi).axActive k i = s.axActive k i := by
  refine (onAxis_step s k _).active ?_ i
  exact fun _ => rfl

/-- An axis whose request waits since the time `up`. -/
def Axis.waiting (a : Axis) (r : AxReq) (up : Nat) : Axis := { a with axen := true, shrt := false, pend := some r, since := up }

/-- A target from STANDSTILL waits for the axis to be enabled. -/
theorem axTarget_waits (hu : s.axes[k].uncert = false) (h : s.axes[k].state = .standstill) (he : s.axes[k].en = true)
    (ha : s.axActive k 3 = false) (hi : Word) : s.axTarget k hi = (s.axAim k hi).onAxis k fun a => a.waiting .target s.up := by
  have enabled : (s.axAim k hi).axes[k].en = true := (congrArg Axis.en (vmod_self s.axes k _)).trans he
  rw [axTarget_standstill hu h, axWake_waits enabled ((axAim_active s k hi 3).trans ha)]
  rfl

/-- An axis in READY, its waiting request taken up. -/
def State.axAwake (s : State) (k : Fin 8) : State := s.onAxis k fun a => { a with state := .ready, pend := none, since := s.up }

theorem axEnabled_home (h : s.axes[k].state = .standstill) (hp : s.axes[k].pend = some .home) :
    s.axEnabled k = (s.axAwake k).homeStart k := by
  simp only [State.axEnabled, h, hp]
  rfl

theorem axEnabled_idle (h : s.axes[k].state ≠ .standstill ∨ s.axes[k].pend = none) : s.axEnabled k = s := by
  unfold State.axEnabled
  split
  next hs hp =>
    rcases h with h | h
    · exact absurd hs h
    · rw [hp] at h
      exact absurd h (Option.some_ne_none _)
  next => rfl

/-! ## Homing (R157) -/

/-- An axis that begins to home at the time `up`. -/
def Axis.homing (a : Axis) (up : Nat) : Axis :=
  { a with state := .homing, homeRev := false, latched := false, since := up, halting := false, limHalt := none }

theorem axHome_ready (h : s.axes[k].state = .ready) : s.axHome k = s.homeStart k := by simp only [State.axHome, h]

theorem axHome_moving (h : s.axes[k].state = .moving) : s.axHome k = s.axRefuse k 1 := by simp only [State.axHome, h]

/-- The step with which a homing begins: a qualified home switch is left first (R157 steps 1 and 2). -/
def State.firstStep (s : State) (k : Fin 8) : HomeStep :=
  if (vat s.axes[k].inputs .reset (s.homeInput k)).qualified then .leave else .search

theorem firstStep_cases (s : State) (k : Fin 8) : s.firstStep k = .leave ∨ s.firstStep k = .search := by
  unfold State.firstStep
  split
  · exact .inl rfl
  · exact .inr rfl

theorem homeLeave_eq (s : State) (k : Fin 8) :
    ∃ g : Axis → Gen, s.homeLeave k = s.onAxis k fun a => { a with homeStep := s.firstStep k, gen := g a } := by
  unfold State.homeLeave State.firstStep
  split
  · exact ⟨_, rfl⟩
  · exact ⟨_, rfl⟩

/-- Homing begins with the first step, and leaves the request that waits. -/
theorem homeStart_spec (s : State) (k : Fin 8) : (s.homeStart k).axes[k].state = .homing ∧ (s.homeStart k).axes[k].latched = false ∧
    (s.homeStart k).axes[k].homeRev = false ∧ (s.homeStart k).axes[k].homeStep = s.firstStep k ∧
    (s.homeStart k).axes[k].pend = s.axes[k].pend ∧ s.homeStart k = { s with axes := (s.homeStart k).axes } := by
  have begun := onAxis_step s k fun a => a.homing s.up
  have first : (s.onAxis k fun a => a.homing s.up).firstStep k = s.firstStep k := by
    unfold State.firstStep
    rw [begun.inputs fun _ => rfl]
    rfl
  have e : s.homeStart k = (s.onAxis k fun a => a.homing s.up).homeLeave k := rfl
  obtain ⟨g, hg⟩ := homeLeave_eq (s.onAxis k fun a => a.homing s.up) k
  rw [e, hg, first, (begun.onAxis _).here]
  exact ⟨rfl, rfl, rfl, rfl, rfl, rfl⟩

/-! ## Synchronisation (R152) -/

theorem axSyncOn_ready (hu : s.axes[k].uncert = false) (hm : s.axMaySync k = true) (h : s.axes[k].state = .ready) :
    s.axSyncOn k = s.axSync k := by
  simp only [State.axSyncOn, hu, hm, h, Bool.not_true, Bool.false_eq_true, if_false]

theorem axSyncOn_refuses (hu : s.axes[k].uncert = false) (hm : s.axMaySync k = false) : s.axSyncOn k = s.axRefuse k 5 := by
  simp only [State.axSyncOn, hu, hm, Bool.not_false, Bool.false_eq_true, if_false, if_true]

/-! ## FAULT is left (R152) -/

/-- The chatter counter of an axis cleared. -/
def State.axCalm (s : State) (k : Fin 8) : State := s.onAxis k fun a => { a with chat := .zero }

theorem axClear_leaves (h : s.axes[k].state = .fault) (ha : s.axActive k 3 = false)
    (hb : ∀ m : Fin 4, s.axLink k = some m → s.blocked m = false) : s.axClear k = (s.axCalm k).axStandstill k := by
  have gone : (s.axActive k 3 || (match s.axLink k with | some m => s.blocked m | none => false)) = false := by
    cases hl : s.axLink k with
    | none => simp only [ha, Bool.false_or]
    | some m => simp only [ha, hb m hl, Bool.false_or]
  unfold State.axClear
  dsimp only
  rw [if_neg (not_not_intro h), if_neg]
  · rfl
  · exact ne_true_of_eq_false gone

theorem axClear_refuses (h : s.axes[k].state = .fault) (ha : s.axActive k 3 = true) : s.axClear k = (s.axCalm k).axRefuse k 1 := by
  simp only [State.axClear, h, ha, ne_eq, not_true_eq_false, if_false, Bool.true_or, if_true]
  rfl

theorem axIdle_ready (h : s.axes[k].state = .ready) : s.axIdle k = s.axStandstill k := if_pos h

end

/-! ## The statement -/

/-- Settles O50: one equation per outcome of each request, and what the operation it comes to leaves of the axis. -/
theorem axisRequests : Obligations.AxisRequests := by
  refine ⟨?moves, ?uncertain, ?wakes, ?homes, ?notWaiting, ?enables, ?disables, ?disablesMoving, ?stops, ?stopRefused, ?halts, ?home,
    ?homeRefused, ?syncs, ?syncRefused, ?syncEnds, ?clears, ?clearRefused, ?idles, ?notReady⟩
  case moves =>
    intro s k hi hst hu hlo hhi hp hn hne
    obtain ⟨here, others, frame⟩ := axTarget_moves hst hu hlo hhi hp hn hne
    exact ⟨s.axTarget k hi, rfl, congrArg Axis.state here, congrArg Axis.tgt here, (congrArg Axis.pos here).trans rfl, others, frame⟩
  case uncertain => exact fun s k hi hu => ⟨_, congrArg Host.Outcome.next (axTarget_uncert hu hi), axRefuse_spec s k 2⟩
  case wakes =>
    intro s k hi hu hst he ha
    have aimed := onAxis_step s k fun a => { a with tgt := hi ++ a.tgtLow }
    have here := (aimed.onAxis fun a => a.waiting .target s.up).here
    exact ⟨_, congrArg Host.Outcome.next (axTarget_waits hu hst he ha hi), congrArg Axis.axen here, congrArg Axis.pend here,
      (congrArg Axis.state here).trans hst, congrArg Axis.since here, congrArg Axis.tgt here, rfl⟩
  case homes =>
    intro s k hst hp
    obtain ⟨state, -, -, step, pend, frame⟩ := homeStart_spec (s.axAwake k) k
    have awake : (s.axAwake k).axes[k].pend = none := congrArg Axis.pend (vmod_self ..)
    refine ⟨_, congrArg Host.Outcome.next (axEnabled_home hst hp), state, pend.trans awake, ?_, frame⟩
    rw [step]
    exact firstStep_cases ..
  case notWaiting => exact fun s k h => congrArg Host.Outcome.next (axEnabled_idle h)
  case enables => exact fun s k => ⟨_, congrArg Host.Outcome.next (axEnable_on s k), axEn_here s k true, (onAxis_step ..).others, rfl⟩
  case disables =>
    intro s k hst
    obtain ⟨state, axen, -, -, en, -⟩ := axStandstill_spec (s.axEn k false) k
    refine ⟨_, congrArg Host.Outcome.next (axEnable_ready hst), en.trans ?_, state, axen, fun h => axStandstill_lost rfl h⟩
    rw [axEn_here]
  case disablesMoving =>
    intro s k hst
    obtain ⟨halting, ends, state, -, en, frame⟩ := axHaltNow_spec (s.axEn k false) k true
    refine ⟨_, congrArg Host.Outcome.next (axEnable_underway hst), en.trans ?_, halting, ends.trans (Bool.or_true _), state.trans ?_, frame⟩
    · rw [axEn_here]
    · rw [axEn_here]
  case stops =>
    intro s k hst
    obtain ⟨uncert, homed⟩ := axisImmediate_lost s k false
    obtain ⟨pos, -⟩ := axisImmediate_leaves s k false
    have step := axisImmediate_step s k false
    have state : (s.axisImmediate k false).axes[k].state = .ready := by
      rw [step.here]
      exact Axis.stopped_ready (a := s.axes[k].lost) hst ..
    exact ⟨_, congrArg Host.Outcome.next (axStop_underway hst), state, uncert, homed, pos, axisImmediate_logged rfl k false, step.rest⟩
  case stopRefused => exact fun s k h => ⟨_, congrArg Host.Outcome.next (axStop_refuses h), axRefuse_spec s k 1⟩
  case halts =>
    intro s k hst
    obtain ⟨halting, ends, state, uncert, -, frame⟩ := axHaltNow_spec s k false
    exact ⟨_, congrArg Host.Outcome.next (axHalt_halts hst), halting, ends.trans (Bool.or_false _), state, uncert, frame⟩
  case home =>
    intro s k hst
    obtain ⟨state, latched, rev, step, -, frame⟩ := homeStart_spec s k
    exact ⟨_, congrArg Host.Outcome.next (axHome_ready hst), state, latched, rev, step, frame⟩
  case homeRefused => exact fun s k h => ⟨_, congrArg Host.Outcome.next (axHome_moving h), axRefuse_spec s k 1⟩
  case syncs => exact fun s k hu hm hst => ⟨_, congrArg Host.Outcome.next (axSyncOn_ready hu hm hst), vmod_self .., rfl⟩
  case syncRefused => exact fun s k hu hm => ⟨_, congrArg Host.Outcome.next (axSyncOn_refuses hu hm), axRefuse_spec s k 5⟩
  case syncEnds =>
    intro s k hst
    obtain ⟨halting, -, state, -, -, frame⟩ := axHaltNow_spec s k false
    exact ⟨_, congrArg Host.Outcome.next (axSyncOff_halts hst), halting, state.trans hst, frame⟩
  case clears =>
    intro s k hst ha hb
    obtain ⟨state, axen, -, -, -, chat⟩ := axStandstill_spec (s.axCalm k) k
    refine ⟨_, congrArg Host.Outcome.next (axClear_leaves hst ha hb), state, chat.trans ?_, axen⟩
    exact congrArg Axis.chat (vmod_self s.axes k _)
  case clearRefused =>
    intro s k hst ha
    have step := (onAxis_step s k fun a => { a with chat := .zero }).raise .AX_REFUSED k 1 []
    exact ⟨_, congrArg Host.Outcome.next (axClear_refuses hst ha), (congrArg Axis.state step.here).trans hst,
      congrArg Axis.chat step.here, raise_logged_of s (s.axCalm k) _ _ _ _ rfl rfl⟩
  case idles =>
    intro s k hst
    obtain ⟨state, axen, short, pend, -⟩ := axStandstill_spec s k
    exact ⟨_, congrArg Host.Outcome.next (axIdle_ready hst), state, axen, short, pend⟩
  case notReady => exact fun s k h => congrArg Host.Outcome.next (if_neg h)

end Sys2Proof.Machine
end

section
/-! SUPPORT. The period of an axis (R139, R148), its inputs (R155 to R158) and its drive fault (R153): one equation per outcome of each. -/

namespace Sys2Proof.Machine

/-! ## The events of a generator (R144 to R146) -/

/-- An event of the fast plane raised under a condition that holds is on record for every state of the same time. -/
theorem raiseIf_logged_fast {s x : State} {b : Bool} {ev : Ev} (hb : b = true) (hd : x.dev = s.dev) (hl : ev.code < 0x0C00) (u a : Nat)
    (d : List Byte) : Logged s (x.raiseIf b ev u a d) ev u a d := by
  unfold State.raiseIf
  rw [if_pos hb]
  exact raise_logged_fast hd hl u a d

theorem genEvents_recOnly (s : State) (u : Nat) (n : GenNotes) : RecOnly s (s.genEvents u n) :=
  ((raiseIf_recOnly ..).trans (raiseIf_recOnly ..)).trans (raiseIf_recOnly ..)

/-- Each note of a period is on record where it is set. -/
theorem genEvents_logged {s x : State} (hd : x.dev = s.dev) (u : Nat) (n : GenNotes) :
    (n.dfr = true → Logged s (x.genEvents u n) .PROF_LIMIT_DEFERRED u) ∧ (n.past = true → Logged s (x.genEvents u n) .PROF_OVERSHOOT u) ∧
      (n.cut = true → Logged s (x.genEvents u n) .PROF_TARGET_CLAMPED u) := by
  let cut := x.raiseIf n.cut .PROF_TARGET_CLAMPED u
  let dfr := cut.raiseIf n.dfr .PROF_LIMIT_DEFERRED u
  have cutDev : cut.dev = s.dev := (State.raiseIf_dev ..).trans hd
  have dfrDev : dfr.dev = s.dev := (State.raiseIf_dev ..).trans cutDev
  refine ⟨fun h => ?_, fun h => ?_, fun h => ?_⟩
  · have told : Logged s dfr .PROF_LIMIT_DEFERRED u := raiseIf_logged_fast (ev := .PROF_LIMIT_DEFERRED) h cutDev (by decide) u 0 []
    exact told.keeps (.raiseIf rfl)
  · exact raiseIf_logged_fast (ev := .PROF_OVERSHOOT) h dfrDev (by decide) u 0 []
  · have told : Logged s cut .PROF_TARGET_CLAMPED u := raiseIf_logged_fast (ev := .PROF_TARGET_CLAMPED) h hd (by decide) u 0 []
    exact (told.keeps (.raiseIf rfl)).keeps (.raiseIf rfl)

/-! ## Shadows of KIND MOVE (R356) -/

/-- The parts that a comparison of a shadow may change, taken from `t`. -/
def State.judgedFrom (s t : State) : State := { s with shadow := t.shadow, recd := t.recd, cap := t.cap }

@[simp] theorem judged_onShadow (s : State) (i : Fin 2) (f : Shadow → Shadow) : (s.onShadow i f).judgedFrom = s.judgedFrom := rfl

@[simp] theorem judged_raise (s : State) (ev : Ev) (u a : Nat) (d : List Byte) : (s.raise ev u a d).judgedFrom = s.judgedFrom :=
  reads_raise (k := State.judgedFrom) (fun _ _ _ => rfl) s ev u a d

theorem judged_shadowJudge (s : State) (i : Fin 2) (d tol : Rat) : (s.shadowJudge i d tol).judgedFrom = s.judgedFrom := by
  unfold State.shadowJudge
  dsimp only
  split
  · simp
  · split <;> simp

theorem judged_shadowMove (s : State) (t : Nat) : (s.shadowMove t).judgedFrom = s.judgedFrom := by
  refine reads_forFin (fun i s => ?_) s
  dsimp only
  split
  · exact judged_shadowJudge ..
  · rfl

theorem eq_judgedFrom {s t : State} (h : t.judgedFrom = s.judgedFrom) : t = s.judgedFrom t := congrFun h t

theorem judged_axes {s t : State} (h : t.judgedFrom = s.judgedFrom) : t.axes = s.axes := (congrArg State.axes (eq_judgedFrom h)).trans rfl

theorem shadowMove_axes (s : State) (t : Nat) : (s.shadowMove t).axes = s.axes := judged_axes (judged_shadowMove s t)

theorem keeps_shadowJudge (s : State) (i : Fin 2) (d tol : Rat) : KeepsAll s (s.shadowJudge i d tol) := by
  unfold State.shadowJudge
  dsimp only
  split
  · exact .of_recd (by simp)
  · split
    · exact .raise (by simp)
    · exact .of_recd (by simp)

theorem keeps_shadowMove (s : State) (t : Nat) : KeepsAll s (s.shadowMove t) := by
  refine keeps_forFin (fun i s => ?_) s
  dsimp only
  split
  · exact keeps_shadowJudge s i 0 0
  · exact .refl s

section
variable {s : State} {k : Fin 8}

/-! ## The period (R139, R148) -/

/-- An axis at the point to which its generator has moved. -/
def Axis.moved (a : Axis) (g : Gen) : Axis :=
  { a with gen := g, pos := BitVec.ofInt 64 (gridDown (1 / 4294967296) g.x + 1 / 2).floor, dir := decide (0 < g.dir) }

theorem axPeriod_off (h : s.axes[k].state = .off) : s.axPeriod k = s := by simp only [State.axPeriod, h]

/-- While the generator moves, a period moves the axis and tells its notes. -/
theorem axPeriod_moves {g : Gen} {notes : GenNotes} (h : s.axes[k].state ≠ .off)
    (hg : s.axes[k].gen.periodLate (s.axLimits k) (s.axDwell k) (5 / 100000) = (g, notes)) (hs : g.still = false) :
    s.axPeriod k = (s.onAxis k fun a => a.moved g).genEvents k notes := by
  unfold State.axPeriod
  split
  next off => exact absurd off h
  next =>
    rw [hg]
    dsimp only
    rw [if_neg (ne_true_of_eq_false hs)]
    rfl

/-! ## Drive fault and homing that takes too long (R153, R158) -/

/-- An axis with one input changed. -/
def Axis.onInput (a : Axis) (i : Fin 4) (f : AxInput → AxInput) : Axis := { a with inputs := vmod a.inputs i f }

/-- An axis one of whose inputs is at a level. -/
def Axis.level (a : Axis) (i : Fin 4) (high : Bool) : Axis := a.onInput i fun x => { x with ball := high }

theorem onAxis_level_active (s : State) (k : Fin 8) (i : Fin 4) :
    (s.onAxis k fun a => a.level i !(s.n Fld.AXIS_INPOL k).testBit i).axActive k i = true := by
  have step := onAxis_step s k fun a => a.level i !(s.n Fld.AXIS_INPOL k).testBit i
  have ball : (s.onAxis k fun a => a.level i !(s.n Fld.AXIS_INPOL k).testBit i).axes[k].inputs[i].ball =
      !(s.n Fld.AXIS_INPOL k).testBit i := by
    rw [step.here]
    exact congrArg AxInput.ball (vmod_self ..)
  unfold State.axActive
  rw [ball, step.n]
  exact Bool.not_bne_self _

theorem axDrvFault_off (h : s.axes[k].state = .off) : s.axDrvFault k = s := by simp only [State.axDrvFault, h]

theorem axDrvFault_stops (h : s.axes[k].state ≠ .off ∧ s.axes[k].state ≠ .fault) : s.axDrvFault k =
    ((s.onAxis k fun a => a.level 3 !(s.n Fld.AXIS_INPOL k).testBit 3).raise .AX_DRV_FAULT k).axisImmediate k true := by
  obtain ⟨off, fault⟩ := h
  unfold State.axDrvFault
  dsimp only
  split
  next e => exact absurd e off
  next e => exact absurd e fault
  next => rfl

theorem homeTimeout_fails (h : s.axes[k].state = .homing) : s.homeTimeout k = (s.raise .HOME_FAILED k).axisImmediate k true := if_pos h

/-! ## Input edges (R155) -/

/-- Within a window only the level of an input is kept. -/
theorem axEdge_held {i : Fin 4} (level : Bool) (h : s.axes[k].inputs[i].window.isSome = true) :
    s.axEdge k i level = s.onAxis k fun a => a.level i level := if_pos (.inr (.inr (.inl h)))

/-- An edge into the active level outside a window opens one. -/
theorem axEdge_active {i : Fin 4} {level : Bool} (hst : s.axes[k].state ≠ .off) (hi : i.1 ≠ 3) (hw : s.axes[k].inputs[i].window = none)
    (ha : (level != (s.n Fld.AXIS_INPOL k).testBit i) = true) (hb : s.axes[k].inputs[i].ball ≠ level)
    (hq : s.axes[k].inputs[i].qualified = false) :
    s.axEdge k i level = (s.onAxis k fun a => a.level i level).activeEdge k i := by
  unfold State.axEdge
  dsimp only
  rw [if_neg, if_pos ⟨ha, by rw [hq]; rfl⟩]
  · rfl
  · rw [hw]
    rintro (e | e | e | e)
    · exact hst e
    · exact hi e
    · exact absurd e Bool.false_ne_true
    · exact hb e

/-- An axis whose AXHOM has met its switch at a device time, with the window open since `up`. -/
def Axis.caught (a : Axis) (dev up : Nat) : Axis :=
  { a with latch := a.pos, latchT := dev, latched := true }.onInput 0 fun x => { x with window := some up }

/-- Outside homing, the first active edge of AXHOM latches the position (R155). -/
theorem activeEdge_home (h : s.axes[k].state ≠ .homing) : s.activeEdge k 0 = s.onAxis k fun a => a.caught s.dev.toNat s.up := by
  have home : s.homeLatch k = 0 := if_neg h
  unfold State.activeEdge
  simp only [h, home, Fin.val_zero, true_or, decide_true, Bool.or_true, if_true, if_false]
  rfl

/-! ## The end of a window (R155 to R157) -/

/-- An axis one of whose inputs has closed its window. -/
def Axis.closed (a : Axis) (i : Fin 4) (act : Bool) : Axis := a.onInput i fun x => { x with window := none, qualified := act }

/-- A change of an axis that leaves its inputs and its chatter counter. -/
def Axis.Inward (f : Axis → Axis) : Prop := ∀ a, (f a).inputs = a.inputs ∧ (f a).chat = a.chat

theorem window_open {w : Option Nat} (h : w.isSome = true) : w.isNone = false := by rw [← Option.not_isSome, h]; rfl

/-- An input that ends its window active is qualified; what follows leaves the inputs. -/
theorem axDebounce_qualifies {i : Fin 4} (hw : s.axes[k].inputs[i].window.isSome = true) (ha : s.axActive k i = true) :
    ∃ f, Axis.Inward f ∧ s.axDebounce k i = (s.onAxis k fun a => a.closed i true).onAxis k f := by
  unfold State.axDebounce
  dsimp only
  rw [window_open hw, if_neg Bool.false_ne_true, ha, if_pos rfl]
  split
  · refine ⟨_, ?_, rfl⟩
    exact fun _ => ⟨rfl, rfl⟩
  · refine ⟨_, ?_, rfl⟩
    exact fun _ => ⟨rfl, rfl⟩

/-- An input that ends its window inactive, and was not qualified, chatters. -/
theorem axDebounce_chatters {i : Fin 4} (hw : s.axes[k].inputs[i].window.isSome = true) (ha : s.axActive k i = false)
    (hq : s.axes[k].inputs[i].qualified = false) : s.axDebounce k i = (s.onAxis k fun a => a.closed i false).axChatter k i := by
  unfold State.axDebounce
  dsimp only
  rw [window_open hw, if_neg Bool.false_ne_true, ha, if_neg Bool.false_ne_true, if_neg (ne_true_of_eq_false hq)]
  rfl

/-- An axis that has counted a chatter, its latch discarded where it was that of the input. -/
def Axis.chattered (a : Axis) (own : Prop) [Decidable own] : Axis :=
  { a with chat := bump a.chat, latched := if own then false else a.latched }

/-- Chatter counted and told. -/
def State.chatterTold (s : State) (k : Fin 8) (i : Fin 4) : State :=
  (s.onAxis k fun a => a.chattered (i.1 = s.homeLatch k)).raise .AX_CHATTER k i

theorem chatterTold_step (s : State) (k : Fin 8) (i : Fin 4) :
    AxisStep s (s.chatterTold k i) k fun a => a.chattered (i.1 = s.homeLatch k) := (onAxis_step ..).raise ..

/-- A change of one axis that leaves its inputs and its chatter counter. -/
structure InwardStep (s t : State) (k : Fin 8) : Prop where
  inputs : t.axes[k].inputs = s.axes[k].inputs
  chat   : t.axes[k].chat = s.axes[k].chat
  rest   : t = { s with axes := t.axes }

theorem InwardStep.refl (s : State) (k : Fin 8) : InwardStep s s k := ⟨rfl, rfl, rfl⟩

theorem inwardStep_onAxis {f : Axis → Axis} (hf : Axis.Inward f) (s : State) (k : Fin 8) : InwardStep s (s.onAxis k f) k := by
  obtain ⟨inputs, chat⟩ := hf s.axes[k]
  refine ⟨?_, ?_, rfl⟩
  · rw [(onAxis_step s k f).here, inputs]
  · rw [(onAxis_step s k f).here, chat]

theorem homeSearch_inward (s : State) (k : Fin 8) : InwardStep s (s.homeSearch k) k := by
  refine inwardStep_onAxis ?_ s k
  exact fun _ => ⟨rfl, rfl⟩

theorem limitResume_inward (s : State) (k : Fin 8) (sync : Bool) : InwardStep s (s.limitResume k sync) k := by
  refine inwardStep_onAxis ?_ s k
  intro a
  dsimp only
  split
  case h_1 | h_2 => split <;> exact ⟨rfl, rfl⟩
  case h_3 => exact ⟨rfl, rfl⟩

theorem InwardStep.keeps {s t : State} {k : Fin 8} (h : InwardStep s t k) : KeepsAll s t :=
  .of_recd ((congrArg State.recd h.rest).trans rfl)

/-- After chatter the search or the motion goes on, or nothing follows. -/
theorem axChatter_inward (s : State) (k : Fin 8) (i : Fin 4) : InwardStep (s.chatterTold k i) (s.axChatter k i) k := by
  unfold State.axChatter
  dsimp only
  split
  · exact homeSearch_inward ..
  · split
    · split
      · exact limitResume_inward ..
      · exact .refl ..
    · exact .refl ..

end

end Sys2Proof.Machine
end

section
/-! SUPPORT. A reaction keeps the following error of every level-wind axis (R153, R160). -/

namespace Sys2Proof.Machine

section
variable (s : State) (m : Fin 4) (j : Fin 8)

@[simp] theorem startToIdle_axes : (s.startToIdle m).axes = s.axes := by
  unfold State.startToIdle
  dsimp only
  split <;> simp

@[simp] theorem endRender_axes : (s.endRender m).axes = s.axes := stopped_reads (stopped_endRender s m) State.axes fun _ => rfl

@[simp] theorem requestStop_axes (e : EMode) (b : StopBy) : (s.requestStop m e b).axes = s.axes :=
  stopped_reads (stopped_requestStop s m e b) State.axes fun _ => rfl

@[simp] theorem abortShadowsOf_axes : (s.abortShadowsOf m).axes = s.axes := by
  refine reads_forFin (k := State.axes) (fun i s => ?_) s
  split
  case h_4 => rfl
  all_goals split <;> simp [State.abortShadow]

@[simp] theorem dropHeave_axes : (s.dropHeave m).axes = s.axes := rfl

theorem drainMember_axes : (s.drainMember m).axes = s.axes := rfl

@[simp] theorem brakeToClosed_axes : (s.brakeToClosed m).axes = s.axes := rfl

theorem drumOff_axes : (s.drumOff m).axes = s.axes := by simp [State.drumOff]

theorem foldl_bridgeExec_axes (l : List (Fin 8)) : (l.foldl (fun s n => s.bridgeExec n) s).axes = s.axes :=
  congrArg (fun k => (k s).axes) (reads_foldl formed_bridgeExec l s)

/-- An immediate stop of the linked axes keeps their following error. -/
theorem stopLinkedAxes_lwErr : (s.stopLinkedAxes m).axes[j].lwErr = s.axes[j].lwErr := by
  refine reads_forFin (k := fun s => s.axes[j].lwErr) (fun i s => ?_) s
  split
  · by_cases h : j = i
    · rw [h]
      obtain ⟨-, lwErr⟩ := axisImmediate_leaves s i true
      exact lwErr
    · rw [(axisImmediate_step s i true).others j h]
  · rfl

theorem gatesShut_axes (c : OutCause) : (s.gatesShut m c).axes = ((s.startToIdle m).stopLinkedAxes m).axes := by
  simp [State.gatesShut, State.memberOut]

theorem gatesOff_axes (c : OutCause) : (s.gatesOff m c).axes = ((s.startToIdle m).stopLinkedAxes m).axes := by
  rw [gatesOff_eq]
  split
  · exact gatesShut_axes ..
  · exact (drumOff_axes ..).trans (gatesShut_axes ..)

/-- A reaction leaves the axes, or stops those that are linked. -/
theorem execReact_axes (r : Reaction) (c : OutCause) :
    (s.execReact m r c).axes = s.axes ∨ (s.execReact m r c).axes = ((s.startToIdle m).stopLinkedAxes m).axes := by
  have ended : (((s.abortShadowsOf m).endRender m).dropHeave m).axes = s.axes := by simp
  unfold State.execReact
  dsimp only
  split
  case h_1 | h_2 => exact .inl (foldl_bridgeExec_axes ..)
  case h_3 | h_4 =>
    left
    split
    · rw [foldl_bridgeExec_axes, drainMember_axes, ended]
    · rw [foldl_bridgeExec_axes, ← ended]
      split <;> simp
  case h_5 => exact .inr ((foldl_bridgeExec_axes ..).trans (gatesOff_axes ..))

theorem execReact_lwErr (r : Reaction) (c : OutCause) : (s.execReact m r c).axes[j].lwErr = s.axes[j].lwErr := by
  rcases execReact_axes s m r c with h | h
  · rw [h]
  · rw [h, stopLinkedAxes_lwErr, startToIdle_axes]

theorem reactEv_lwErr (ev : Ev) (u : Nat) (sev : Reaction) (b : Bool) :
    (s.reactEv m ev u sev b).axes[j].lwErr = s.axes[j].lwErr := by
  unfold State.reactEv State.react
  dsimp only
  split
  · rfl
  · split
    · exact execReact_lwErr ..
    · rfl

end

/-! ## The following error (R160) -/

section
variable {s : State} {k : Fin 8}

theorem lwFollow_faults {m : Fin 4} (hl : s.axLink k = some m) (hst : s.axes[k].state = .sync) (he : s.axes[k].lwErr = false)
    (hh : heldFor s.axes[k].lwOver s.up 100000000 = true) : s.lwFollow k =
      ((s.onAxis k fun a => { a with lwErr := true }).raise .LW_FOLLOW k).reactEv m .LW_FOLLOW k (s.rc Fld.AXIS_LWREACT k) := by
  unfold State.lwFollow
  rw [hl]
  exact if_pos ⟨hst, by rw [he]; rfl, hh⟩

/-- Without a link, out of SYNC, with the error told or the axis in place, nothing happens. -/
theorem lwFollow_idle (h : s.axLink k = none ∨ s.axes[k].state ≠ .sync ∨ s.axes[k].lwErr = true ∨ s.axes[k].lwOver = none) :
    s.lwFollow k = s := by
  unfold State.lwFollow
  split
  next m hl =>
    refine if_neg fun hc => ?_
    obtain ⟨sync, fresh, held⟩ := hc
    rcases h with h | h | h | h
    · rw [hl] at h
      exact Option.some_ne_none _ h
    · exact h sync
    · rw [h] at fresh
      exact Bool.false_ne_true fresh
    · rw [h] at held
      exact Bool.false_ne_true held
  next => rfl

end

end Sys2Proof.Machine
end

section
/-! SUPPORT. The motion and the inputs of the auxiliary axes (R139, R148, R153, R155 to R158): what each outcome leaves of the axis and of the
rest of the state, and the statement. -/

namespace Sys2Proof.Machine

section
variable {s : State} {k : Fin 8}

/-- One axis changed, and then a shadow compared. -/
theorem AxisStep.judged {x t : State} {f : Axis → Axis} (h : AxisStep s x k f) (hj : t.judgedFrom = x.judgedFrom) :
    t = { s with axes := t.axes, shadow := t.shadow, recd := t.recd, cap := t.cap } := by
  have frame := eq_judgedFrom hj
  rw [h.rest] at frame
  rw [judged_axes hj]
  exact frame

/-- Where the generator moves on, a period moves the axis, and the notes of the plan are on record (R139, R144 to R148). -/
theorem axPeriod_spec {g : Gen} {notes : GenNotes} (h : s.axes[k].state ≠ .off)
    (hg : s.axes[k].gen.periodLate (s.axLimits k) (s.axDwell k) (5 / 100000) = (g, notes)) (hs : g.still = false) :
    AxisStep s (s.axPeriod k) k (fun a => a.moved g) ∧ (notes.dfr = true → Logged s (s.axPeriod k) .PROF_LIMIT_DEFERRED k) ∧
      (notes.past = true → Logged s (s.axPeriod k) .PROF_OVERSHOOT k) ∧
      (notes.cut = true → Logged s (s.axPeriod k) .PROF_TARGET_CLAMPED k) := by
  rw [axPeriod_moves h hg hs]
  exact ⟨(onAxis_step ..).trans (genEvents_recOnly ..).axisStep, genEvents_logged (State.onAxis_dev ..) k notes⟩

/-- A fault raised, and the axis stopped for it (R153, R158). -/
theorem raise_axisImmediate_spec {s x : State} {ev : Ev} (hd : x.dev = s.dev) (hl : ev.code < 0x0C00) (k : Fin 8) :
    ((x.raise ev k).axisImmediate k true).axes[k].state = .fault ∧ ((x.raise ev k).axisImmediate k true).axes[k].axen = false ∧
      ((x.raise ev k).axisImmediate k true).axes[k].uncert = true ∧ Logged s ((x.raise ev k).axisImmediate k true) ev k ∧
      Logged s ((x.raise ev k).axisImmediate k true) .AX_POS_UNCERTAIN k := by
  obtain ⟨state, axen⟩ := axisImmediate_fault (x.raise ev k) k
  obtain ⟨uncert, -⟩ := axisImmediate_lost (x.raise ev k) k true
  have told : Logged s (x.raise ev k) ev k := raise_logged_fast hd hl k 0 []
  exact ⟨state, axen, uncert, told.keeps keeps_axisImmediate, axisImmediate_logged ((State.raise_dev ..).trans hd) k true⟩

/-- The level of its input is the only thing that a drive fault changes of an axis before the stop. -/
theorem axDrvFault_active (h : s.axes[k].state ≠ .off ∧ s.axes[k].state ≠ .fault) : (s.axDrvFault k).axActive k 3 = true := by
  rw [axDrvFault_stops h, (axisImmediate_step ..).active fun a => a.lost_stopped_inputs ..]
  exact ((raise_recOnly ..).axisStep.active (fun _ => rfl) 3).trans (onAxis_level_active s k 3)

/-- One axis changed, and then what leaves its inputs. -/
theorem AxisStep.inward {x t : State} {f : Axis → Axis} (h : AxisStep s x k f) (hi : InwardStep x t k) :
    t = { s with axes := t.axes, recd := t.recd, cap := t.cap } := by
  have frame := hi.rest
  rw [h.rest] at frame
  rw [frame]

/-- An input that chatters closes its window unqualified, and the chatter is counted and told (R155). -/
theorem axDebounce_chatter_spec {i : Fin 4} (hw : s.axes[k].inputs[i].window.isSome = true) (ha : s.axActive k i = false)
    (hq : s.axes[k].inputs[i].qualified = false) :
    (s.axDebounce k i).axes[k].inputs = (s.axes[k].closed i false).inputs ∧ (s.axDebounce k i).axes[k].chat = bump s.axes[k].chat ∧
      Logged s (s.axDebounce k i) .AX_CHATTER k i ∧
      s.axDebounce k i = { s with axes := (s.axDebounce k i).axes, recd := (s.axDebounce k i).recd, cap := (s.axDebounce k i).cap } := by
  let x := s.onAxis k fun a => a.closed i false
  have step := (onAxis_step s k fun a => a.closed i false).trans (chatterTold_step x k i)
  have inward := axChatter_inward x k i
  have told : Logged s (x.chatterTold k i) .AX_CHATTER k i := raise_logged_of s _ _ _ _ _ rfl rfl
  rw [axDebounce_chatters hw ha hq]
  refine ⟨?_, ?_, told.keeps inward.keeps, step.inward inward⟩
  · rw [inward.inputs, step.here]
    rfl
  · rw [inward.chat, step.here]
    rfl

end

/-! ## The statement -/

/-- Settles O51: one equation per outcome of each command; the reaction to a following error keeps the error itself. -/
theorem axisMotionAndInputs : Obligations.AxisMotionAndInputs := by
  refine ⟨?moves, ?off, ?faults, ?faultOff, ?held, ?latches, ?qualifies, ?chatters, ?noWindow, ?times, ?notHoming, ?follows, ?inPlace⟩
  case moves =>
    intro s k g notes hst hg hs
    obtain ⟨step, deferred, past, cut⟩ := axPeriod_spec hst hg hs
    have kept := keeps_shadowMove (s.axPeriod k) (20 + k)
    have axes := shadowMove_axes (s.axPeriod k) (20 + k)
    have here : ((s.axPeriod k).shadowMove (20 + k)).axes[k] = s.axes[k].moved g := by rw [axes, step.here]
    refine ⟨(s.axPeriod k).shadowMove (20 + k), rfl, congrArg Axis.gen here, congrArg Axis.pos here, congrArg Axis.dir here,
      fun h => (deferred h).keeps kept, fun h => (past h).keeps kept, fun h => (cut h).keeps kept, fun j hj => ?_,
      step.judged (judged_shadowMove ..)⟩
    rw [axes, step.others j hj]
  case off =>
    intro s k hst
    refine ⟨_, rfl, (shadowMove_axes ..).trans ?_⟩
    rw [axPeriod_off hst]
  case faults =>
    intro s k hst
    have stops := axDrvFault_stops hst
    obtain ⟨state, axen, uncert, told, lost⟩ := raise_axisImmediate_spec (ev := .AX_DRV_FAULT) (State.onAxis_dev s k fun a =>
      a.level 3 !(s.n Fld.AXIS_INPOL k).testBit 3) (by decide) k
    have step := ((onAxis_step s k fun a => a.level 3 !(s.n Fld.AXIS_INPOL k).testBit 3).raise .AX_DRV_FAULT k 0 []).trans
      (axisImmediate_step _ k true)
    rw [← stops] at state axen uncert told lost step
    exact ⟨s.axDrvFault k, rfl, state, axen, axDrvFault_active hst, uncert, told, lost, step.others⟩
  case faultOff => exact fun s k hst => congrArg Host.Outcome.next (axDrvFault_off hst)
  case held =>
    intro s k i level hw
    have here := (onAxis_step s k fun a => a.level i level).here
    refine ⟨_, congrArg Host.Outcome.next (axEdge_held level hw), ?_, fun j hj => ?_, ?_, rfl⟩
    · rw [here]
      exact vmod_self ..
    · rw [here]
      exact vmod_ne _ _ _ _ hj
    · rw [here]
      rfl
  case latches =>
    intro s k level hst hw ha hb hq
    have running : s.axes[k].state ≠ .off := by rw [hst]; decide
    have level' := onAxis_step s k fun a => a.level 0 level
    have state : (s.onAxis k fun a => a.level 0 level).axes[k].state ≠ .homing := by
      rw [level'.here, show (s.axes[k].level 0 level).state = s.axes[k].state from rfl, hst]
      decide
    have h := (axEdge_active (i := 0) running (by decide) hw ha hb hq).trans (activeEdge_home state)
    have here := (level'.onAxis fun a => a.caught s.dev.toNat s.up).here
    refine ⟨_, congrArg Host.Outcome.next h, ?_, ?_, ?_, ?_, rfl⟩
    · exact (congrArg (fun a : Axis => a.inputs[0].window) here).trans (congrArg AxInput.window (vmod_self _ (0 : Fin 4) _))
    · exact (congrArg Axis.latch here :)
    · exact congrArg Axis.latchT here
    · exact congrArg Axis.latched here
  case qualifies =>
    intro s k i hw ha
    obtain ⟨f, inward, h⟩ := axDebounce_qualifies hw ha
    have step := inwardStep_onAxis inward (s.onAxis k fun a => a.closed i true) k
    have here := (onAxis_step s k fun a => a.closed i true).here
    refine ⟨_, congrArg Host.Outcome.next h, ?_, ?_, ?_, rfl⟩
    · rw [step.inputs, here]
      exact congrArg AxInput.qualified (vmod_self ..)
    · rw [step.inputs, here]
      exact congrArg AxInput.window (vmod_self ..)
    · rw [step.chat, here]
      rfl
  case chatters =>
    intro s k i hw ha hq
    obtain ⟨inputs, chat, told, frame⟩ := axDebounce_chatter_spec hw ha hq
    refine ⟨s.axDebounce k i, rfl, ?_, ?_, chat, told, frame⟩
    · rw [inputs]
      exact congrArg AxInput.window (vmod_self ..)
    · rw [inputs]
      exact congrArg AxInput.qualified (vmod_self ..)
  case noWindow =>
    intro s k i hw
    have none : s.axes[k].inputs[i].window.isNone = true := by rw [hw]; rfl
    exact congrArg Host.Outcome.next (if_pos none)
  case times =>
    intro s k hst
    obtain ⟨state, axen, uncert, told, -⟩ := raise_axisImmediate_spec (s := s) (x := s) (ev := .HOME_FAILED) rfl (by decide) k
    have step := (raise_recOnly s .HOME_FAILED k 0 []).axisStep.trans (axisImmediate_step (s.raise .HOME_FAILED k) k true)
    exact ⟨_, congrArg Host.Outcome.next (homeTimeout_fails hst), state, uncert, axen, told, step.rest⟩
  case notHoming => exact fun s k h => congrArg Host.Outcome.next (if_neg h)
  case follows =>
    intro s k m hl hst he hh
    have step := (onAxis_step s k fun a => { a with lwErr := true }).raise .LW_FOLLOW k 0 []
    obtain ⟨-, logged, asked⟩ := raise_reactEv_spec (s := s) (x := s.onAxis k fun a => { a with lwErr := true }) rfl rfl m .LW_FOLLOW k 0 []
      (s.rc Fld.AXIS_LWREACT k)
    refine ⟨_, congrArg Host.Outcome.next (lwFollow_faults hl hst he hh), ?_, logged, asked⟩
    rw [reactEv_lwErr, step.here]
  case inPlace => exact fun s k h => congrArg Host.Outcome.next (lwFollow_idle h)

end Sys2Proof.Machine
end

section
/-! SUPPORT. What an entry of EQR, CRO or SLA leaves (R172, R203): the emergency registers, the render and the record; and what a start
command that goes with it leaves (R107). -/

namespace Sys2Proof.Machine

section
variable {s : State} {m : Fin 4}

/-! ## A start under way (R107) -/

/-- A start command changes the start machine and tells of it at most. -/
theorem startCommand_frame (s : State) (m : Fin 4) : s.startCommand m =
    { s with start := (s.startCommand m).start, recd := (s.startCommand m).recd, cap := (s.startCommand m).cap } := by
  by_cases hr : s.startRefusal m = 0
  · cases hg : s.gatesReady m
    · have stays : s.startCommand m = s := by simp [State.startCommand, hr, hg]
      rw [stays]
    · obtain ⟨-, -, -, -, frame⟩ := startCommand_accepted hr hg
      rw [frame]
  · obtain ⟨-, -, frame⟩ := startCommand_refused hr
    exact frame

theorem startCommand_em (s : State) (m : Fin 4) : (s.startCommand m).em = s.em := by rw [startCommand_frame]

theorem startCommand_brake (s : State) (m : Fin 4) : (s.startCommand m).brake = s.brake := by rw [startCommand_frame]

theorem keeps_startCommand : KeepsAll s (s.startCommand m) := by
  unfold State.startCommand
  dsimp only
  split
  · exact .raise rfl
  · split <;> exact .of_recd rfl

/-! ## The render ends (R172) -/

/-- What a render leaves of the detector where it ends: armed again from the tension that it ends at. -/
def Shock.ended (h : Shock) : Shock :=
  { h with render := false, below := false, n := 0, base := h.f, baseSet := true, hot := none, calm := none }

theorem endRender_rendering (h : s.shock[m].render = true) : s.endRender m = (s.onShock m Shock.ended).raise .RENDER_END m := if_pos h

/-- However it finds the drum, no render is in progress after it. -/
theorem endRender_render (s : State) (m : Fin 4) : (s.endRender m).shock[m].render = false := by
  cases h : s.shock[m].render
  · have stays : s.endRender m = s := if_neg (ne_true_of_eq_false h)
    rw [stays, h]
  · rw [endRender_rendering h, State.raise_shock, State.onShock_shock, vmod_self]
    rfl

/-! ## Entries (R203) -/

/-- The emergency registers as an entry of EQR, CRO or SLA finds the drum. -/
def Emerg.entered (x : Emerg) (e : EMode) (pay w : Rat) : Emerg :=
  { x.displace with mode := e, stopped := false, empay := 0, payAt := pay, wRef := w }

theorem enterDrum_em (s : State) (m : Fin 4) (e : EMode) :
    (s.enterDrum m e).em[m] = s.em[m].entered e s.outer[m].pay (s.omega m) := by
  have kept : ((s.endRender m).dropHeave m).em = s.em := endRender_em s m
  rw [State.enterDrum, State.onEm_em, vmod_self, kept]
  rfl

theorem stopped_enterDrum (s : State) (m : Fin 4) (e : EMode) : (s.enterDrum m e).stoppedFrom = s.stoppedFrom :=
  (stopped_onEm ..).trans ((stopped_onHeave ..).trans (stopped_endRender s m))

theorem enterDrum_dev (s : State) (m : Fin 4) (e : EMode) : (s.enterDrum m e).dev = s.dev :=
  stopped_reads (stopped_enterDrum s m e) State.dev fun _ => rfl

theorem enterDrum_render (s : State) (m : Fin 4) (e : EMode) : (s.enterDrum m e).shock[m].render = false := by
  rw [State.enterDrum, State.onEm_shock, State.dropHeave, State.onHeave_shock, endRender_render]

theorem keeps_enterDrum {e : EMode} : KeepsAll s (s.enterDrum m e) := keeps_endRender.trans (.of_recd rfl)

/-- An entry that is told first. -/
theorem raise_enterDrum_em (s : State) (m : Fin 4) (ev : Ev) (e : EMode) :
    ((s.raise ev m).enterDrum m e).em[m] = s.em[m].entered e s.outer[m].pay (s.omega m) := by
  have same : (s.raise ev m).omega m = s.omega m := reads_raise (k := fun s => s.omega m) (fun _ _ _ => rfl) ..
  rw [enterDrum_em, State.raise_em, State.raise_outer, same]

theorem raise_enterDrum_logged {x : State} {ev : Ev} (hd : x.dev = s.dev) (hl : ev.code < 0x0C00) (m : Fin 4) (e : EMode) :
    Logged s ((x.raise ev m).enterDrum m e) ev m := (raise_logged_fast hd hl m 0 []).keeps keeps_enterDrum

end

end Sys2Proof.Machine
end

section
/-! SUPPORT. EQR, CRO and SLA (R170, R207 to R209): one equation per outcome of each command, what a granted request for EQR leaves, and the
law of the mode that comes back. -/

namespace Sys2Proof.Machine

section
variable {s : State} {m : Fin 4}

/-! ## EQR (R207) -/

/-- The emergency registers of a release, asked for by the input pair or by command, at a payout speed. -/
def Emerg.released (x : Emerg) (pin : Bool) (v : Rat) (noSpool : Bool) : Emerg :=
  { x with eqrPin := pin, eqrEnding := false, eqrV := v, noSpool := noSpool }

/-- EQR in force, before the brake opens. -/
def State.eqrEntered (s : State) (m : Fin 4) (pin : Bool) : State :=
  (((s.raise .EQR_ON m).enterDrum m .eqr).onEm m fun e => e.released pin (s.paySpeed m) !s.outer[m].spoolOk).raiseIf
    (!s.outer[m].spoolOk) .EQR_NOSPOOL m

/-- EQR in force with the brake open. -/
def State.eqrReleased (s : State) (m : Fin 4) (pin : Bool) : State :=
  if s.braked m then (s.eqrEntered m pin).onBrake m fun b => { b with state := .open_, since := s.up, release := true }
  else s.eqrEntered m pin

theorem eqrRequest_blocked {pin : Bool}
    (h : s.yes Fld.EMERGENCY_EQREN m = false ∨ s.runsHere m = false ∨ s.em[m].mode = .cat0 ∨ s.blocked m = true) :
    s.eqrRequest m pin = s.raise .EM_REFUSED m := by
  refine if_pos ?_
  simpa [or_left_comm, -Fin.getElem_fin] using h

theorem eqrRequest_unheld {pin : Bool} (hr : s.runsHere m = true) (he : s.yes Fld.EMERGENCY_EQREN m = true) (hc : s.em[m].mode ≠ .cat0)
    (hb : s.blocked m = false) (hh : s.yes Fld.SAFETY_MO_EQRHOLD 0 m = false) : s.eqrRequest m pin = s.raise .EQR_REFUSED m := by
  simp [State.eqrRequest, hr, he, hc, hb, hh, -Fin.getElem_fin]

theorem eqrEntered_em (s : State) (m : Fin 4) (pin : Bool) : (s.eqrEntered m pin).em[m] =
    (s.em[m].entered .eqr s.outer[m].pay (s.omega m)).released pin (s.paySpeed m) !s.outer[m].spoolOk := by
  rw [State.eqrEntered, State.raiseIf_em, State.onEm_em, vmod_self, raise_enterDrum_em]

theorem eqrEntered_logged (s : State) (m : Fin 4) (pin : Bool) : Logged s (s.eqrEntered m pin) .EQR_ON m := by
  have told := raise_enterDrum_logged (s := s) (ev := .EQR_ON) rfl (by decide) m .eqr
  rw [State.eqrEntered]
  exact told.keeps (.raiseIf (State.onEm_recd ..))

theorem eqrEntered_noSpool (pin : Bool) (h : s.outer[m].spoolOk = false) : Logged s (s.eqrEntered m pin) .EQR_NOSPOOL m := by
  refine raiseIf_logged_fast (ev := .EQR_NOSPOOL) (by rw [h]; rfl) ?_ (by decide) m 0 []
  exact (State.onEm_dev ..).trans ((enterDrum_dev ..).trans (State.raise_dev ..))

/-- What a request that is granted leaves: EQR in force and told, and the brake open. -/
structure EqrGranted (s t : State) (m : Fin 4) (pin : Bool) : Prop where
  em      : t.em[m] = (s.em[m].entered .eqr s.outer[m].pay (s.omega m)).released pin (s.paySpeed m) !s.outer[m].spoolOk
  told    : Logged s t .EQR_ON m
  noSpool : s.outer[m].spoolOk = false → Logged s t .EQR_NOSPOOL m
  opened  : s.braked m = true → t.brake[m].state = .open_ ∧ t.brake[m].release = true

theorem EqrGranted.of_frame {t u : State} {pin : Bool} (h : EqrGranted s t m pin) (he : u.em = t.em) (hb : u.brake = t.brake)
    (hk : KeepsAll t u) : EqrGranted s u m pin where
  em := by rw [he, h.em]
  told := h.told.keeps hk
  noSpool hs := (h.noSpool hs).keeps hk
  opened hbr := by
    rw [hb]
    exact h.opened hbr

theorem eqrReleased_granted (s : State) (m : Fin 4) (pin : Bool) : EqrGranted s (s.eqrReleased m pin) m pin := by
  unfold State.eqrReleased
  cases hb : s.braked m
  · exact ⟨eqrEntered_em s m pin, eqrEntered_logged s m pin, eqrEntered_noSpool pin, fun h => absurd (hb.symm.trans h) Bool.false_ne_true⟩
  · refine ⟨eqrEntered_em s m pin, eqrEntered_logged s m pin, eqrEntered_noSpool pin, fun _ => ?_⟩
    have opened := vmod_self (s.eqrEntered m pin).brake m fun b => { b with state := .open_, since := s.up, release := true }
    exact ⟨congrArg Brake.state opened, congrArg Brake.release opened⟩

theorem eqrRequest_granted (pin : Bool) (hr : s.runsHere m = true) (he : s.yes Fld.EMERGENCY_EQREN m = true) (hc : s.em[m].mode ≠ .cat0)
    (hb : s.blocked m = false) (hh : s.yes Fld.SAFETY_MO_EQRHOLD 0 m = true) (hm : s.em[m].mode ≠ .eqr) :
    EqrGranted s (s.eqrRequest m pin) m pin := by
  have released := eqrReleased_granted s m pin
  have h : s.eqrRequest m pin =
      if s.start[m].state = .idle then (s.eqrReleased m pin).startCommand m else s.eqrReleased m pin := by
    rw [State.eqrRequest, if_neg (by simp [hr, he, hc, hb, -Fin.getElem_fin]), if_neg (by simp [hh]), if_neg hm]
    rfl
  rw [h]
  split
  · exact released.of_frame (startCommand_em ..) (startCommand_brake ..) keeps_startCommand
  · exact released

theorem eqrEnds_runs (h : s.em[m].mode = .eqr) : s.eqrEnds m = s.onEm m fun e => { e with eqrEnding := true } := if_pos h

/-- An EQR that waits below a category 0 is given up, and the brake with it. -/
def State.eqrDropped (s : State) (m : Fin 4) : State :=
  (s.onEm m fun e => { e with free := false }).onBrake m fun b => { b with state := .closed, release := false, since := s.up }

theorem eqrEnds_waits (hm : s.em[m].mode ≠ .eqr) (hf : s.em[m].free = true) : s.eqrEnds m = (s.eqrDropped m).raise .EQR_END m := by
  rw [State.eqrEnds, if_neg hm, if_pos hf]
  rfl

/-- One motor object's emergency registers changed, and an event told. -/
theorem onEm_raise_spec (s : State) (m : Fin 4) (f : Emerg → Emerg) (ev : Ev) {t : State} (ht : t = (s.onEm m f).raise ev m) :
    t.em[m] = f s.em[m] ∧ Logged s t ev m ∧ t = { s with em := t.em, recd := t.recd, cap := t.cap } := by
  have told := raise_logged_of s (s.onEm m f) ev m 0 [] rfl rfl
  obtain ⟨r, c, h⟩ := raise_recOnly (s.onEm m f) ev m 0 []
  rw [← ht] at told
  rw [h] at ht
  subst ht
  exact ⟨vmod_self .., told, rfl⟩

/-! ## The law of the mode comes back (R208, R209) -/

/-- Re-basing the path touches the reference and the generator alone. -/
theorem rebase_reads {α : Type} {k : State → α} (hk : ∀ s c g, k { s with cmd := c, moGen := g } = k s) (s : State) (m : Fin 4) :
    k (s.rebase m) = k s := by
  unfold State.rebase
  split
  · exact hk s _ _
  · rfl

/-- In POSITION the path starts at the present payout, so that line given is not hauled back. -/
theorem rebase_position {s : State} {m : Fin 4} (h : s.outer[m].mode = .position) :
    (s.rebase m).cmd[m].ref = s.outer[m].pay ∧ (s.rebase m).cmd[m].target = s.outer[m].pay := by
  have based : (s.rebase m).cmd[m] = { s.cmd[m] with ref := s.outer[m].pay, target := s.outer[m].pay } := by
    rw [State.rebase, if_pos h, State.onGen_cmd, State.onCmd_cmd, vmod_self]
  rw [based]
  exact ⟨rfl, rfl⟩

/-- The law of the mode in force again, with its path re-based. -/
def State.lawBack (s : State) (m : Fin 4) : State := (s.resumePending m).rebase m

section
variable (hp : s.em[m].pend = []) (hf : s.em[m].free = false)
include hp hf

theorem lawBack_mode : (s.lawBack m).em[m].mode = .modeLaw := by
  have kept : (s.lawBack m).em = (s.resumePending m).em := rebase_reads (k := State.em) (fun _ _ _ => rfl) ..
  rw [kept, resumePending_none s m hp hf, State.onEm_em, vmod_self]

theorem lawBack_position (h : s.outer[m].mode = .position) :
    (s.lawBack m).cmd[m].ref = s.outer[m].pay ∧ (s.lawBack m).cmd[m].target = s.outer[m].pay := by
  rw [State.lawBack, resumePending_none s m hp hf]
  exact rebase_position (s := s.onEm m _) h

theorem lawBack_recd : (s.lawBack m).recd = s.recd ∧ (s.lawBack m).dev = s.dev := by
  rw [State.lawBack, resumePending_none s m hp hf]
  exact ⟨rebase_reads (k := State.recd) (fun _ _ _ => rfl) .., rebase_reads (k := State.dev) (fun _ _ _ => rfl) ..⟩

end

/-! ## CRO (R170, R208) -/

theorem croStart_em (s : State) (m : Fin 4) :
    (s.croStart m).em[m] = { s.em[m].entered .cro s.outer[m].pay (s.omega m) with lineEnd := false } := by
  rw [State.croStart, State.onEm_em, vmod_self, raise_enterDrum_em]

theorem croStart_logged {x : State} (hd : x.dev = s.dev) (m : Fin 4) : Logged s (x.croStart m) .CRO_ON m :=
  (raise_enterDrum_logged (ev := .CRO_ON) hd (by decide) m .cro).of_recd (State.onEm_recd ..)

theorem croStart_render (s : State) (m : Fin 4) : (s.croStart m).shock[m].render = false := by
  rw [State.croStart, State.onEm_shock, enterDrum_render]

theorem keeps_croStart : KeepsAll s (s.croStart m) :=
  (raise_keepsAll s .CRO_ON m 0 []).trans (keeps_enterDrum.toRecd (State.onEm_recd ..))

/-- CRO over, before it is told. -/
def State.croOver (s : State) (m : Fin 4) : State := (s.lawBack m).onShock m fun h => { h with ovld := false }

theorem croExit_leaves (hm : s.em[m].mode = .cro)
    (hu : heldFor s.em[m].under s.up (natQ (s.q Fld.EMERGENCY_CROHOLD m * 1000000000)) = true) :
    s.croExit m = (s.croOver m).raise .CRO_END m := if_pos ⟨hm, hu⟩

theorem croOver_ovld (s : State) (m : Fin 4) : (s.croOver m).shock[m].ovld = false := by
  rw [State.croOver, State.onShock_shock, vmod_self]

theorem croOver_logged (hp : s.em[m].pend = []) (hf : s.em[m].free = false) : Logged s ((s.croOver m).raise .CRO_END m) .CRO_END m := by
  obtain ⟨hrecd, hdev⟩ := lawBack_recd hp hf
  have recd : (s.croOver m).recd = s.recd := (State.onShock_recd ..).trans hrecd
  have dev : (s.croOver m).dev = s.dev := (State.onShock_dev ..).trans hdev
  exact raise_logged_of s (s.croOver m) .CRO_END m 0 [] recd dev

/-- A render that is spent, before CRO takes the drum. -/
def State.renderGiven (s : State) (m : Fin 4) : State :=
  (s.onShock m fun h => { h with ovld := true, render := false, n := 0, base := h.f, baseSet := true }).raise .RENDER_OVERLOAD m

theorem renderGiven_logged (s : State) (m : Fin 4) : Logged s (s.renderGiven m) .RENDER_OVERLOAD m := by
  rw [State.renderGiven]
  exact raise_logged_of s _ _ _ _ _ rfl rfl

theorem renderGiven_dev (s : State) (m : Fin 4) : (s.renderGiven m).dev = s.dev := by
  rw [State.renderGiven, State.raise_dev, State.onShock_dev]

theorem renderOverload_spent (h : s.renderSpent m = true) : s.renderOverload m = (s.renderGiven m).croStart m := if_pos h

/-! ## SLA (R209) -/

theorem slaEntry_stays (h : s.yes Fld.EMERGENCY_SLKEN m = false ∨ s.drumLive m = false ∨ s.slackNow m = false) : s.slaEntry m = s :=
  if_pos (by simpa using h)

theorem slaEntry_slack (he : s.yes Fld.EMERGENCY_SLKEN m = true) (hl : s.drumLive m = true) (hs : s.slackNow m = true) :
    s.slaEntry m =
      if s.em[m].mode = .eqr then (s.onEm m fun e => { e with slackTold := true }).raiseIf (!s.em[m].slackTold) .TENS_DROP m
      else if s.below m .sla then ((s.raise .SLACK_ARREST m).enterDrum m .sla).onEm m fun e => { e with slaRest := false }
      else s := if_neg (by simp [he, hl, hs])

/-- During EQR a slack line is told once for each drop. -/
theorem slaEntry_drops (he : s.yes Fld.EMERGENCY_SLKEN m = true) (hl : s.drumLive m = true) (hs : s.slackNow m = true)
    (hm : s.em[m].mode = .eqr) (ht : s.em[m].slackTold = false) :
    s.slaEntry m = (s.onEm m fun e => { e with slackTold := true }).raise .TENS_DROP m := by
  rw [slaEntry_slack he hl hs, if_pos hm, ht, State.raiseIf, Bool.not_false, if_pos rfl]

theorem slackClear_refused (h : s.em[m].mode ≠ .sla ∨ s.drumF m < s.q Fld.EMERGENCY_SLKF m ∨
    s.pairReads (s.n Fld.EMERGENCY_SLKIN m) = true) : s.slackClear m = s.raise .EM_REFUSED m := by
  refine if_neg ?_
  rintro ⟨hm, hf, hr⟩
  rcases h with h | h | h
  · exact h hm
  · exact absurd hf (not_le.2 h)
  · rw [h] at hr
    exact Bool.false_ne_true hr

end

/-! ## The statement -/

/-- Settles O46: each entry through what `State.enterDrum` leaves of the emergency registers and of the render, each end through the law of
the mode that comes back, each refusal as one event told. -/
theorem drumEmergencies : Obligations.DrumEmergencies := by
  refine ⟨?eqr, ?eqrBlocked, ?eqrUnheld, ?eqrInput, ?eqrNoInput, ?eqrOff, ?eqrWaits, ?cro, ?croStays, ?croExit, ?croHeld, ?sla, ?slaEqr,
    ?slaStays, ?slackClear, ?slackRefused, ?overload, ?unspent⟩
  case eqr =>
    intro s m hr he hc hb hh hm
    have granted := eqrRequest_granted false hr he hc hb hh hm
    have em := granted.em
    refine ⟨s.eqrRequest m false, rfl, ?_, ?_, ?_, ?_, ?_, granted.told, granted.opened, granted.noSpool⟩ <;> rw [em] <;> rfl
  case eqrBlocked =>
    exact fun s m h => ⟨_, congrArg Host.Outcome.next (eqrRequest_blocked h), raise_logged s _ _ _ _, (raise_recOnly ..).eq⟩
  case eqrUnheld =>
    exact fun s m hr he hc hb hh =>
      ⟨_, congrArg Host.Outcome.next (eqrRequest_unheld hr he hc hb hh), raise_logged s _ _ _ _, (raise_recOnly ..).eq⟩
  case eqrInput =>
    intro s m hi hr he hc hb hh hm
    have granted := eqrRequest_granted true hr he hc hb hh hm
    have em := granted.em
    refine ⟨_, congrArg Host.Outcome.next (if_pos hi), ?_, ?_, granted.told⟩ <;> rw [em] <;> rfl
  case eqrNoInput => exact fun s m hi => congrArg Host.Outcome.next (if_neg (ne_true_of_eq_false hi))
  case eqrOff => exact fun s m hm => ⟨_, congrArg Host.Outcome.next (eqrEnds_runs hm), vmod_self .., rfl⟩
  case eqrWaits =>
    intro s m hm hf
    obtain ⟨r, c, h⟩ := raise_recOnly (s.eqrDropped m) .EQR_END m 0 []
    have told := raise_logged_of s (s.eqrDropped m) .EQR_END m 0 [] rfl rfl
    have closed := vmod_self s.brake m fun b => { b with state := .closed, release := false, since := s.up }
    refine ⟨_, congrArg Host.Outcome.next (eqrEnds_waits hm hf), ?_, ?_, ?_, told, ?_⟩ <;> rw [h]
    · exact vmod_self ..
    · exact congrArg Brake.state closed
    · exact congrArg Brake.release closed
    · rfl
  case cro =>
    intro s m he hl ho hb hh
    have enters : s.croEntry m = s.croStart m := if_pos ⟨he, hl, ho, hb, hh⟩
    have em := croStart_em s m
    refine ⟨_, congrArg Host.Outcome.next enters, ?_, ?_, ?_, ?_, croStart_logged rfl m⟩ <;> rw [em] <;> rfl
  case croStays =>
    intro s m h
    refine congrArg Host.Outcome.next (if_neg ?_)
    rintro ⟨he, hl, -, -, hh⟩
    rcases h with h | h | h
    · exact Bool.false_ne_true (h.symm.trans he)
    · exact Bool.false_ne_true (h.symm.trans hl)
    · exact Bool.false_ne_true (h.symm.trans hh)
  case croExit =>
    intro s m hm hp hf hu
    refine ⟨_, congrArg Host.Outcome.next (croExit_leaves hm hu), ?_, ?_, croOver_logged hp hf, fun ho => ?_⟩
    · rw [State.raise_em, State.croOver, State.onShock_em, lawBack_mode hp hf]
    · rw [State.raise_shock, croOver_ovld]
    · rw [State.raise_cmd, State.croOver, State.onShock_cmd]
      exact lawBack_position hp hf ho
  case croHeld =>
    intro s m h
    refine congrArg Host.Outcome.next (if_neg ?_)
    rintro ⟨hm, hu⟩
    rcases h with h | h
    · exact h hm
    · rw [h] at hu
      exact Bool.false_ne_true hu
  case sla =>
    intro s m he hl hm hb hs
    have enters := (slaEntry_slack he hl hs).trans ((if_neg hm).trans (if_pos hb))
    have told := raise_enterDrum_logged (s := s) (ev := .SLACK_ARREST) rfl (by decide) m .sla
    refine ⟨_, congrArg Host.Outcome.next enters, ?_, ?_, told.of_recd (State.onEm_recd ..)⟩ <;> rw [State.onEm_em, vmod_self]
    rw [raise_enterDrum_em]
    rfl
  case slaEqr =>
    intro s m he hl hm hs ht
    obtain ⟨em, told, frame⟩ := onEm_raise_spec s m _ .TENS_DROP (slaEntry_drops he hl hs hm ht)
    exact ⟨s.slaEntry m, rfl, em, told, frame⟩
  case slaStays => exact fun s m h => congrArg Host.Outcome.next (slaEntry_stays h)
  case slackClear =>
    intro s m hm hp hf hF hr
    have clears : s.slackClear m = s.lawBack m := if_pos ⟨hm, hF, by rw [hr]; rfl⟩
    exact ⟨_, congrArg Host.Outcome.next clears, lawBack_mode hp hf, fun ho => (lawBack_position hp hf ho).2⟩
  case slackRefused =>
    exact fun s m h => ⟨_, congrArg Host.Outcome.next (slackClear_refused h), raise_logged s _ _ _ _, (raise_recOnly ..).eq⟩
  case overload =>
    intro s m h
    refine ⟨_, congrArg Host.Outcome.next (renderOverload_spent h), croStart_render .., ?_,
      (renderGiven_logged s m).keeps keeps_croStart, croStart_logged (renderGiven_dev s m) m⟩
    rw [croStart_em]
    rfl
  case unspent => exact fun s m h => congrArg Host.Outcome.next (if_neg (ne_true_of_eq_false h))

end Sys2Proof.Machine
end

section
/-! SUPPORT. The samples of the shock detector (R164, R166): what a sample leaves of the detector, what a detection and the start of a render
leave, and the source of the tension. -/

namespace Sys2Proof.Machine

section
variable {s t : State} {m : Fin 4}

/-! ## One detector changed -/

theorem RecOnly.judged (h : RecOnly s t) : t.judgedFrom = s.judgedFrom := by
  obtain ⟨r, c, rfl⟩ := h
  rfl

theorem judged_shock (h : t.judgedFrom = s.judgedFrom) : t.shock = s.shock := (congrArg State.shock (eq_judgedFrom h)).trans rfl

theorem shadowMove_shock (s : State) (k : Nat) : (s.shadowMove k).shock = s.shock := judged_shock (judged_shadowMove s k)

/-- One detector changed, and then a shadow compared. -/
theorem onShock_judged {f : Shock → Shock} (h : t.judgedFrom = (s.onShock m f).judgedFrom) : t.shock[m] = f s.shock[m] ∧
    t = { s with shock := t.shock, shadow := t.shadow, recd := t.recd, cap := t.cap } := by
  have shock := judged_shock h
  refine ⟨?_, ?_⟩
  · rw [shock, State.onShock_shock, vmod_self]
  · rw [shock]
    exact eq_judgedFrom h

/-- One detector changed, and then an event told. -/
theorem onShock_told {f : Shock → Shock} (h : RecOnly (s.onShock m f) t) : t.shock[m] = f s.shock[m] ∧
    t = { s with shock := t.shock, recd := t.recd, cap := t.cap } := by
  obtain ⟨r, c, rfl⟩ := h
  exact ⟨vmod_self .., rfl⟩

/-! ## A sample that is not skipped (R164) -/

/-- The baseline that a sample is judged against: the sample itself where it is the first one in RUN. -/
def State.shockBase (s : State) (m : Fin 4) (f : Rat) : Rat := if s.live m ∧ !s.shock[m].baseSet then f else s.shock[m].base

theorem shockBase_set {f : Rat} (h : s.shock[m].baseSet = true) : s.shockBase m f = s.shock[m].base := by
  refine if_neg fun ⟨_, hb⟩ => ?_
  rw [h] at hb
  exact Bool.false_ne_true hb

/-- The samples in a row that lie above the baseline, this one included. -/
def State.shockCount (s : State) (m : Fin 4) (f : Rat) : Nat :=
  if s.q Fld.LOOP_SHKDF m < f - s.shockBase m f then s.shock[m].n + 1 else 0

/-- The baseline after a sample: it follows the tension while no run above it is under way. -/
def State.shockFollow (s : State) (m : Fin 4) (f : Rat) : Rat :=
  if s.shockCount m f = 0 ∧ !s.shock[m].render then
    s.shockBase m f + (1 - Config.exp (-2 * Config.pi * s.q Fld.LOOP_SHKBW m * (((s.up : Rat) - s.shock[m].lastAt) / sec))) *
      (f - s.shockBase m f)
  else s.shockBase m f

/-- A sample above the baseline is counted, and leaves the baseline where it is. -/
theorem shock_high {f : Rat} (h : s.q Fld.LOOP_SHKDF m < f - s.shockBase m f) :
    s.shockCount m f = s.shock[m].n + 1 ∧ s.shockFollow m f = s.shockBase m f := by
  have count : s.shockCount m f = s.shock[m].n + 1 := if_pos h
  exact ⟨count, if_neg fun hz => Nat.succ_ne_zero _ (count.symm.trans hz.1)⟩

/-- A sample lies below the baseline. -/
def State.shockLow (s : State) (m : Fin 4) (f : Rat) : Bool := decide (f - s.shockBase m f < -s.q Fld.LOOP_SHKDF m)

/-- The detector of a drum after a sample. -/
def State.shockNext (s : State) (m : Fin 4) (f : Rat) (k : Shock) : Shock :=
  { k with
    f := f, n := s.shockCount m f, base := s.shockFollow m f, baseSet := decide (s.live m), below := s.shockLow m f, ovrRun := 0
    lastAt := s.up, wLast := s.omega m, peak := if k.render then maxQ k.peak f else k.peak }

/-- A sample taken, before it is judged. -/
def State.shockTaken (s : State) (m : Fin 4) (f : Rat) : State :=
  (s.onShock m (s.shockNext m f)).raiseIf (s.shockLow m f && !s.shock[m].below) .TENS_DROP m

/-- As many samples in a row lie above the baseline as make a detection. -/
def State.shockHit (s : State) (m : Fin 4) (f : Rat) : Bool := decide (s.shockCount m f = s.n Fld.LOOP_SHKN m)

theorem shockClean_eq (s : State) (m : Fin 4) (f : Rat) : s.shockClean m f =
    if s.shockHit m f ∧ s.shock[m].render then (s.shockTaken m f).onShock m fun k => { k with cnt := bump k.cnt }
    else if s.shockHit m f ∧ s.shockArmed m then (s.shockTaken m f).shockDetect m
    else s.shockTaken m f := rfl

theorem shockClean_counts {f : Rat} (h : s.shockHit m f = false) : s.shockClean m f = s.shockTaken m f := by
  rw [shockClean_eq, h, if_neg fun hh => Bool.false_ne_true hh.1, if_neg fun hh => Bool.false_ne_true hh.1]

theorem shockClean_detects {f : Rat} (h : s.shockHit m f = true) (ha : s.shockArmed m = true) (hr : s.shock[m].render = false) :
    s.shockClean m f = (s.shockTaken m f).shockDetect m := by
  rw [shockClean_eq, h, hr, if_neg fun hh => Bool.false_ne_true hh.2, if_pos ⟨rfl, ha⟩]

theorem shockTaken_recOnly (s : State) (m : Fin 4) (f : Rat) : RecOnly (s.onShock m (s.shockNext m f)) (s.shockTaken m f) :=
  raiseIf_recOnly ..

theorem shockTaken_here (s : State) (m : Fin 4) (f : Rat) : (s.shockTaken m f).shock[m] = s.shockNext m f s.shock[m] :=
  (onShock_told (shockTaken_recOnly s m f)).1

/-! ## A render starts (R167, R168) -/

/-- The parts that writing a render torque may change, taken from `t`. -/
def State.postedFrom (s t : State) : State := { s with fab := t.fab, ring := t.ring, outer := t.outer }

theorem posted_onMbr (s : State) (m : Fin 4) (f : Member → Member) : (s.onMbr m f).postedFrom = s.postedFrom := rfl

theorem posted_onOuter (s : State) (m : Fin 4) (f : Outer → Outer) : (s.onOuter m f).postedFrom = s.postedFrom := rfl

theorem posted_noFab (s : State) : s.noFab.postedFrom = s.postedFrom := rfl

theorem posted_post (s : State) (port : Nat) (f : Fin 256) (it : Item) : (s.post port f it).postedFrom = s.postedFrom := by
  rw [← posted_noFab, State.post, postFrom_noFab, posted_noFab]

theorem posted_postRef (s : State) (m : Fin 4) (port : Nat) (x : Rat) : (s.postRef m port x).postedFrom = s.postedFrom :=
  reads_foldl (k := State.postedFrom) (fun _ _ => posted_post ..) _ s

theorem posted_postShare (s : State) (m : Fin 4) (q : Int) : (s.postShare m q).postedFrom = s.postedFrom :=
  (posted_onMbr ..).trans (posted_postRef ..)

theorem posted_renderPost (s : State) (m : Fin 4) (x : Rat) : (s.renderPost m x).postedFrom = s.postedFrom := by
  unfold State.renderPost
  split
  extract_lets t s1 d mine claims out
  split
  · refine (reads_foldl (k := State.postedFrom) (fun s j => ?_) _ _).trans (posted_onOuter ..)
    refine (apply_ite State.postedFrom ..).trans (ite_eq_right_iff.2 fun _ => ?_)
    exact (posted_onMbr ..).trans (posted_postShare ..)
  · rw [State.postTorque, posted_postRef, posted_onOuter]

theorem eq_postedFrom (h : t.postedFrom = s.postedFrom) : t = s.postedFrom t := congrFun h t

theorem renderPost_shock (s : State) (m : Fin 4) (x : Rat) : (s.renderPost m x).shock = s.shock :=
  (congrArg State.shock (eq_postedFrom (posted_renderPost s m x))).trans rfl

theorem renderPost_recd (s : State) (m : Fin 4) (x : Rat) : (s.renderPost m x).recd = s.recd :=
  (congrArg State.recd (eq_postedFrom (posted_renderPost s m x))).trans rfl

/-- A render fixes its constants, tells where it is soft, evaluates its law and writes its torque. -/
theorem renderStart_eq (s : State) (m : Fin 4) : ∃ (fix law : Shock → Shock) (soft : Bool) (x : Rat),
    s.renderStart m = (((s.onShock m fix).raiseIf soft .RENDER_SOFT m).onShock m law).renderPost m x ∧
      ∀ h, (law (fix h)).render = true ∧ (law (fix h)).rndCnt = bump h.rndCnt ∧ (law (fix h)).cnt = h.cnt ∧ (law (fix h)).t = h.t :=
  ⟨_, _, _, _, rfl, fun _ => ⟨rfl, rfl, rfl, rfl⟩⟩

theorem renderStart_here (s : State) (m : Fin 4) : (s.renderStart m).shock[m].render = true ∧
    (s.renderStart m).shock[m].rndCnt = bump s.shock[m].rndCnt ∧ (s.renderStart m).shock[m].cnt = s.shock[m].cnt ∧
    (s.renderStart m).shock[m].t = s.shock[m].t := by
  obtain ⟨fix, law, soft, x, h, hlaw⟩ := renderStart_eq s m
  have here : (s.renderStart m).shock[m] = law (fix s.shock[m]) := by
    rw [h, renderPost_shock, State.onShock_shock, vmod_self, State.raiseIf_shock, State.onShock_shock, vmod_self]
  rw [here]
  exact hlaw _

theorem keeps_renderStart : KeepsAll s (s.renderStart m) := by
  obtain ⟨fix, law, soft, x, h, -⟩ := renderStart_eq s m
  have told : KeepsAll s ((s.onShock m fix).raiseIf soft .RENDER_SOFT m) := .raiseIf (State.onShock_recd ..)
  rw [h]
  exact told.toRecd ((renderPost_recd ..).trans (State.onShock_recd ..))

/-! ## A detection (R164) -/

/-- A detection starts a render. -/
def State.mayRender (s : State) (m : Fin 4) : Bool :=
  s.yes Fld.LOOP_RNDEN m && !s.shock[m].rndInh && s.outer[m].mode != .torque && s.em[m].mode == .modeLaw

/-- A detection counted, stamped and told. -/
def State.shockFound (s : State) (m : Fin 4) : State := (s.onShock m fun h => { h with cnt := bump h.cnt, t := s.dev }).raise .SHOCK m

theorem shockDetect_eq (s : State) (m : Fin 4) :
    s.shockDetect m = if s.mayRender m then (s.shockFound m).renderStart m else s.shockFound m := by
  unfold State.shockDetect
  refine if_congr ?_ rfl rfl
  simp [State.mayRender, and_assoc, -Fin.getElem_fin]

theorem shockFound_here (s : State) (m : Fin 4) :
    (s.shockFound m).shock[m] = { s.shock[m] with cnt := bump s.shock[m].cnt, t := s.dev } := by
  rw [State.shockFound, State.raise_shock, State.onShock_shock, vmod_self]

theorem shockFound_logged {x : State} (hd : x.dev = s.dev) (m : Fin 4) : Logged s (x.shockFound m) .SHOCK m := by
  rw [State.shockFound]
  exact raise_logged_fast ((State.onShock_dev ..).trans hd) (by decide) m 0 []

theorem shockDetect_logged {x : State} (hd : x.dev = s.dev) (m : Fin 4) : Logged s (x.shockDetect m) .SHOCK m := by
  have told := shockFound_logged hd m
  rw [shockDetect_eq]
  split
  · exact told.keeps keeps_renderStart
  · exact told

/-- A detection outside a render is counted and stamped, and starts a render where one may start. -/
theorem shockDetect_here (h : s.shock[m].render = false) : (s.shockDetect m).shock[m].cnt = bump s.shock[m].cnt ∧
    (s.shockDetect m).shock[m].t = s.dev ∧ (s.shockDetect m).shock[m].render = s.mayRender m ∧
    ((s.shockDetect m).shock[m].render = true → (s.shockDetect m).shock[m].rndCnt = bump s.shock[m].rndCnt) := by
  have found := shockFound_here s m
  rw [shockDetect_eq]
  cases hm : s.mayRender m
  · rw [if_neg Bool.false_ne_true, found]
    exact ⟨rfl, rfl, h, fun hr => absurd (h.symm.trans hr) Bool.false_ne_true⟩
  · obtain ⟨render, rndCnt, cnt, stamp⟩ := renderStart_here (s.shockFound m) m
    rw [if_pos rfl, render, rndCnt, cnt, stamp, found]
    exact ⟨rfl, rfl, rfl, fun _ => rfl⟩

/-- A sample changes nothing that decides whether a render starts. -/
theorem shockTaken_mayRender (s : State) (m : Fin 4) (f : Rat) : (s.shockTaken m f).mayRender m = s.mayRender m := by
  obtain ⟨r, c, h⟩ := shockTaken_recOnly s m f
  have inhibit : (s.shockTaken m f).shock[m].rndInh = s.shock[m].rndInh := by
    rw [shockTaken_here]
    rfl
  unfold State.mayRender
  rw [inhibit, h]
  rfl

/-! ## Samples (R163, R166) -/

theorem shockSample_off (h : s.yes Fld.LOOP_SHKEN m = false) : s.shockSample m = s := if_pos (.inl (by rw [h]; rfl))

section
variable (he : s.yes Fld.LOOP_SHKEN m = true) (hr : s.runsHere m = true)
include he hr

theorem shockSample_clean (hp : s.pinFlags m = (false, false)) : s.shockSample m = s.shockClean m (s.shockF m) := by
  rw [State.shockSample, if_neg (by simp [he, hr]), hp]
  rfl

/-- A sample skipped for the overflow of its item. -/
def State.shockSkip (s : State) (m : Fin 4) : State :=
  s.onShock m fun h => { h with n := 0, ovrRun := min 3 (s.shock[m].ovrRun + 1), lastAt := s.up, wLast := s.omega m }

theorem shockSample_skips {sus : Bool} (hp : s.pinFlags m = (true, sus)) : s.shockSample m =
    if 3 ≤ s.shock[m].ovrRun + 1 then (s.shockSkip m).shockSrcFault m else s.shockSkip m := by
  rw [State.shockSample, if_neg (by simp [he, hr]), hp]
  rfl

end

/-- Only a detector on its pin reads flags of an item. -/
theorem onPin_of_pinFlags {sus : Bool} (h : s.pinFlags m = (true, sus)) : s.n Fld.LOOP_SHKSRC m = 0 ∧ s.shock[m].srcfb = false := by
  have pin : s.onPin m = true := by
    by_contra hn
    rw [State.pinFlags, if_neg hn] at h
    exact Bool.false_ne_true (congrArg Prod.fst h)
  simpa [State.onPin, -Fin.getElem_fin] using pin

/-- A detector that EST feeds. -/
def Shock.onEst (h : Shock) : Shock := { h with srcfb := true, n := 0, ovrRun := 0 }

theorem shockSrcFault_falls (hs : s.n Fld.LOOP_SHKSRC m = 0) (hf : s.shock[m].srcfb = false) (he : s.yes Fld.LOOP_SHKEN m = true) :
    s.shockSrcFault m = (s.onShock m Shock.onEst).raise .SHOCK_SRC_FAULT m := if_pos ⟨hs, by rw [hf]; rfl, he⟩

theorem shockSrcFault_spec (hs : s.n Fld.LOOP_SHKSRC m = 0) (hf : s.shock[m].srcfb = false) (he : s.yes Fld.LOOP_SHKEN m = true) :
    (s.shockSrcFault m).shock[m] = s.shock[m].onEst ∧ Logged s (s.shockSrcFault m) .SHOCK_SRC_FAULT m ∧
      s.shockSrcFault m = { s with
        shock := (s.shockSrcFault m).shock, recd := (s.shockSrcFault m).recd, cap := (s.shockSrcFault m).cap } := by
  have falls := shockSrcFault_falls hs hf he
  obtain ⟨here, frame⟩ := onShock_told (raise_recOnly (s.onShock m Shock.onEst) .SHOCK_SRC_FAULT m 0 [])
  have told := raise_logged_of s (s.onShock m Shock.onEst) .SHOCK_SRC_FAULT m 0 [] rfl rfl
  rw [← falls] at here frame told
  exact ⟨here, told, frame⟩

end

end Sys2Proof.Machine
end

section
/-! SUPPORT. Shock and render (R164, R166 to R168, R171, R173): the end of a render by the mode of the outer loop, and the statement. -/

namespace Sys2Proof.Machine

section
variable {s : State} {m : Fin 4}

/-! ## A render ends (R171) -/

/-- What the end of a render leaves: the detector armed from the present tension, and the end told. -/
theorem endRender_spec (h : s.shock[m].render = true) : (s.endRender m).shock[m] = s.shock[m].ended ∧
    Logged s (s.endRender m) .RENDER_END m ∧
    s.endRender m = { s with shock := (s.endRender m).shock, recd := (s.endRender m).recd, cap := (s.endRender m).cap } := by
  have ends := endRender_rendering h
  obtain ⟨here, frame⟩ := onShock_told (raise_recOnly (s.onShock m Shock.ended) .RENDER_END m 0 [])
  have told := raise_logged_of s (s.onShock m Shock.ended) .RENDER_END m 0 [] rfl rfl
  rw [← ends] at here frame told
  exact ⟨here, told, frame⟩

section
variable (h : s.renderCalm m = true)
include h

theorem renderCalm_render : s.shock[m].render = true := (Bool.and_eq_true_iff.1 h).1

theorem renderExit_position (hm : s.outer[m].mode = .position) : s.renderExit m =
    (s.endRender m).onShock m fun k => { k with xr := s.shock[m].x, recov := decide (s.shock[m].x ≠ 0) } := by
  simp only [State.renderExit, h, hm, Bool.not_true, Bool.false_eq_true, if_false]

theorem renderExit_speed (hm : s.outer[m].mode = .speed) : s.renderExit m =
    ((s.endRender m).onCmd m fun c => { c with ref := s.rpm m, refSpd := s.rpm m }).onGen m fun g => g.setTo g.x (s.rpm m) := by
  simp only [State.renderExit, h, hm, Bool.not_true, Bool.false_eq_true, if_false]

theorem renderExit_tension (hm : s.outer[m].mode = .tension) : s.renderExit m =
    ((s.endRender m).onCmd m fun c => { c with ref := s.shock[m].fCmd }).onShock m fun k => { k with restore := true } := by
  simp only [State.renderExit, h, hm, Bool.not_true, Bool.false_eq_true, if_false]

theorem renderExit_torque (hm : s.outer[m].mode = .torque) : s.renderExit m = s.endRender m := by
  simp only [State.renderExit, h, hm, Bool.not_true, Bool.false_eq_true, if_false]

/-- By whichever law the drum goes on, a render that ends leaves the detector armed, and changes the path at most. -/
theorem renderExit_shape : ∃ (k : Vector Shock 4) (c : Vector Command 4) (g : Vector Gen 4),
    s.renderExit m = { s.endRender m with shock := k, cmd := c, moGen := g } ∧ k[m].render = false ∧ k[m].base = s.shock[m].f := by
  obtain ⟨here, -, -⟩ := endRender_spec (renderCalm_render h)
  have render := congrArg Shock.render here
  have base := congrArg Shock.base here
  cases hm : s.outer[m].mode
  case position =>
    refine ⟨_, _, _, renderExit_position h hm, ?_, ?_⟩ <;> rw [vmod_self]
    · exact render
    · exact base
  case tension =>
    refine ⟨_, _, _, renderExit_tension h hm, ?_, ?_⟩ <;> rw [vmod_self]
    · exact render
    · exact base
  case speed => exact ⟨_, _, _, renderExit_speed h hm, render, base⟩
  case torque => exact ⟨_, _, _, renderExit_torque h hm, render, base⟩

theorem renderExit_ends : (s.renderExit m).shock[m].render = false ∧ (s.renderExit m).shock[m].base = s.shock[m].f ∧
    Logged s (s.renderExit m) .RENDER_END m ∧ s.renderExit m = { s with
      shock := (s.renderExit m).shock, cmd := (s.renderExit m).cmd, moGen := (s.renderExit m).moGen
      recd := (s.renderExit m).recd, cap := (s.renderExit m).cap } := by
  obtain ⟨-, told, frame⟩ := endRender_spec (renderCalm_render h)
  obtain ⟨k, c, g, shape, render, base⟩ := renderExit_shape h
  rw [shape]
  exact ⟨render, base, told.of_recd rfl, congrArg (fun x : State => { x with shock := k, cmd := c, moGen := g }) frame⟩

end

end

/-! ## The statement -/

/-- Settles O48: a sample through `State.shockTaken`, a detection through `State.shockFound` and the start of a render, the end of a render
by the mode of the outer loop. -/
theorem shockAndRender : Obligations.ShockAndRender := by
  refine ⟨?counts, ?detects, ?skips, ?falls, ?off, ?srcFault, ?onEst, ?pinBack, ?ends, ?goesOn, ?clear⟩
  case counts =>
    intro s m he hr hp hb hrn hn h0
    have base := shockBase_set (f := s.shockF m) hb
    have miss : s.shockHit m (s.shockF m) = false := by
      refine decide_eq_false fun e => ?_
      rw [State.shockCount] at e
      split at e
      · exact hn e
      · omega
    have taken : s.shockSample m = s.shockTaken m (s.shockF m) := (shockSample_clean he hr hp).trans (shockClean_counts miss)
    have judged := (judged_shadowMove (s.shockSample m) (12 + m)).trans
      ((congrArg State.judgedFrom taken).trans (shockTaken_recOnly s m (s.shockF m)).judged)
    obtain ⟨here, frame⟩ := onShock_judged judged
    refine ⟨(s.shockSample m).shadowMove (12 + m), rfl, congrArg Shock.f here, congrArg Shock.lastAt here, congrArg Shock.ovrRun here,
      (congrArg Shock.cnt here :), ?_, fun high => ?_, frame⟩ <;> rw [here]
    · rw [← base]
      rfl
    · rw [← base] at high ⊢
      exact (shock_high high).2
  case detects =>
    intro s m he hr hp hb hn high ha
    rw [← shockBase_set (f := s.shockF m) hb] at high
    have rendering : s.shock[m].render = false := by simpa using (Bool.and_eq_true_iff.1 ha).2
    have hit : s.shockHit m (s.shockF m) = true := decide_eq_true ((shock_high high).1.trans hn)
    have detects := (shockSample_clean he hr hp).trans (shockClean_detects hit ha rendering)
    have here := shockTaken_here s m (s.shockF m)
    have dev : (s.shockTaken m (s.shockF m)).dev = s.dev := State.raiseIf_dev ..
    obtain ⟨cnt, stamp, render, rndCnt⟩ := shockDetect_here (s := s.shockTaken m (s.shockF m)) (m := m) (by rw [here]; exact rendering)
    rw [here] at cnt rndCnt
    refine ⟨_, rfl, ?_⟩
    dsimp only
    rw [shadowMove_shock, detects]
    refine ⟨cnt, stamp.trans dev, (shockDetect_logged dev m).keeps (keeps_shadowMove _ _), ?_, rndCnt⟩
    rw [render, shockTaken_mayRender]
    rfl
  case skips =>
    intro s m sus he hr hp hk
    have skips : s.shockSample m = s.shockSkip m := by rw [shockSample_skips he hr hp, if_neg (by omega)]
    refine ⟨_, rfl, ?_⟩
    dsimp only
    rw [shadowMove_shock, skips, State.shockSkip, State.onShock_shock, vmod_self, Nat.min_eq_right (by omega)]
  case falls =>
    intro s m sus he hr hp hk
    obtain ⟨src, feed⟩ := onPin_of_pinFlags hp
    have falls : s.shockSample m = (s.shockSkip m).shockSrcFault m := by rw [shockSample_skips he hr hp, if_pos (by omega)]
    have skipped : (s.shockSkip m).shock[m].srcfb = false := by
      rw [State.shockSkip, State.onShock_shock, vmod_self]
      exact feed
    have est := shockSrcFault_falls (s := s.shockSkip m) src skipped he
    have told : Logged s ((s.shockSkip m).shockSrcFault m) .SHOCK_SRC_FAULT m := by
      rw [est]
      exact raise_logged_of s _ _ _ _ _ rfl rfl
    obtain ⟨here, -⟩ := shockSrcFault_spec (s := s.shockSkip m) src skipped he
    refine ⟨_, rfl, ?_⟩
    dsimp only
    rw [shadowMove_shock, falls, here]
    exact ⟨rfl, rfl, told.keeps (keeps_shadowMove _ _)⟩
  case off =>
    intro s m he
    refine ⟨_, rfl, ?_⟩
    dsimp only
    rw [shadowMove_shock, shockSample_off he]
  case srcFault => exact fun s m hs hf he => ⟨s.shockSrcFault m, rfl, shockSrcFault_spec hs hf he⟩
  case onEst =>
    intro s m hf
    refine congrArg Host.Outcome.next (if_neg ?_)
    rintro ⟨-, h, -⟩
    rw [hf] at h
    exact Bool.false_ne_true h
  case pinBack =>
    intro s m
    refine ⟨s.shockPinBack m, rfl, ?_, fun j hj => vmod_ne _ _ _ _ hj, rfl⟩
    rw [State.shockPinBack, State.onShock_shock, vmod_self]
    cases s.shock[m].render <;> rfl
  case ends =>
    intro s m h
    obtain ⟨render, base, told, frame⟩ := renderExit_ends h
    refine ⟨s.renderExit m, rfl, render, base, told, fun hm => ?_, fun hm => ?_, fun hm => ?_, frame⟩
    · rw [renderExit_position h hm, State.onShock_shock, vmod_self]
      exact ⟨rfl, rfl⟩
    · rw [renderExit_speed h hm, State.onGen_cmd, State.onCmd_cmd, vmod_self]
    · rw [renderExit_tension h hm, State.onShock_cmd, State.onCmd_cmd, vmod_self, State.onShock_shock, vmod_self]
      exact ⟨rfl, rfl⟩
  case goesOn => exact fun s m h => congrArg Host.Outcome.next (if_pos (by rw [h]; rfl))
  case clear => exact fun s m => ⟨_, rfl, vmod_self .., fun j hj => vmod_ne _ _ _ _ hj, rfl⟩

end Sys2Proof.Machine
end

section
/-! SUPPORT. Heave compensation (R174 to R179): one equation per outcome of each command, what a sample leaves of the estimator, and the
statement. -/

namespace Sys2Proof.Machine

section
variable {s t : State} {m : Fin 4}

/-! ## One estimator changed -/

/-- One estimator changed, and then a shadow compared. -/
theorem onHeave_judged {f : Heave → Heave} (h : t.judgedFrom = (s.onHeave m f).judgedFrom) : t.heave[m] = f s.heave[m] ∧
    (∀ j : Fin 4, j ≠ m → t.heave[j] = s.heave[j]) ∧
    t = { s with heave := t.heave, shadow := t.shadow, recd := t.recd, cap := t.cap } := by
  have frame := eq_judgedFrom h
  have heave : t.heave = vmod s.heave m f := (congrArg State.heave frame).trans rfl
  refine ⟨?_, fun j hj => ?_, ?_⟩
  · rw [heave, vmod_self]
  · rw [heave, vmod_ne _ _ _ _ hj]
  · rw [heave]
    exact frame

/-- One estimator changed, and then an event told. -/
theorem onHeave_raise_spec (s : State) (m : Fin 4) (f : Heave → Heave) (ev : Ev) {t : State} (ht : t = (s.onHeave m f).raise ev m) :
    t.heave[m] = f s.heave[m] ∧ Logged s t ev m ∧ t = { s with heave := t.heave, recd := t.recd, cap := t.cap } := by
  have told := raise_logged_of s (s.onHeave m f) ev m 0 [] rfl rfl
  obtain ⟨r, c, h⟩ := raise_recOnly (s.onHeave m f) ev m 0 []
  rw [← ht] at told
  rw [h] at ht
  subst ht
  exact ⟨vmod_self .., told, rfl⟩

/-! ## A sample (R174 to R176) -/

/-- The model that a sample corrects: initialised anew where the number of components has changed and compensation is out. -/
def State.heaveModel (s : State) (m : Fin 4) : Heave :=
  if s.heave[m].nComp = s.n Fld.LOOP_HVNWAVE m ∨ 0 < s.heave[m].g ∨ s.heave[m].ofs ≠ 0 then s.heave[m]
  else s.heave[m].init (s.n Fld.LOOP_HVNWAVE m)

/-- A model initialised anew keeps the half-second average under way. -/
theorem heaveModel_accN (s : State) (m : Fin 4) : (s.heaveModel m).accN = s.heave[m].accN := by
  unfold State.heaveModel
  split <;> rfl

/-- The estimator `h` has taken the sample `z` of the time `at_`, as the next one of a half second that holds `n`. -/
structure Heave.Took (h : Heave) (z : Rat) (at_ n : Nat) : Prop where
  z       : h.z = z
  lastAt  : h.lastAt = some at_
  mruOk   : h.mruOk = true
  coast   : h.coast = false
  fitFrom : h.fitFrom.isSome = true
  accN    : h.accN = n + 1

theorem heaveSample_takes {at_ : Nat} (hn : s.mruNext m = some at_) (hr : s.runsHere m = true) : ∃ (h : Heave) (poor : Bool),
    s.heaveSample m = (s.onHeave m fun _ => h).raiseIf poor .HEAVE_POOR m ∧
      h.Took (s.tipHeave m (s.mruValue (s.n Fld.LOOP_HVMRUZ m) * s.q Fld.LOOP_HVZFS m)) at_ (s.heaveModel m).accN := by
  rw [State.heaveSample, hn]
  exact ⟨_, _, if_neg (by simp [hr]), rfl, rfl, rfl, rfl, rfl, rfl⟩

theorem heaveSample_none (h : s.mruNext m = none ∨ s.runsHere m = false) : s.heaveSample m = s := by
  unfold State.heaveSample
  split
  · rfl
  next at_ hn =>
    refine if_pos ?_
    rcases h with h | h
    · exact absurd (h.symm.trans hn) (by simp)
    · rw [h]
      rfl

theorem shadowMove_heave (s : State) (k : Nat) : (s.shadowMove k).heave = s.heave :=
  (congrArg State.heave (eq_judgedFrom (judged_shadowMove s k))).trans rfl

/-- Without a heave channel there is no sample. -/
theorem mruNext_noChannel (h : s.n Fld.LOOP_HVMRUZ m = 0) : s.mruNext m = none := by
  have never : s.mruAt m = none := if_pos h
  rw [State.mruNext, never]

/-! ## Commands and losses (R175, R177, R178) -/

theorem heaveReady_sets (ho : s.heave[m].mruOk = true) (hh : heldFor s.heave[m].fitFrom s.up 120000000000 = true) :
    (s.heaveReady m).heave[m] = { s.heave[m] with ready := true } := by
  rw [State.heaveReady, State.onHeave_heave, vmod_self]
  exact if_pos ⟨ho, hh⟩

theorem ahcWrite_accepted (hr : s.runsHere m = true) (hm : s.outer[m].mode = .position) (hs : s.outer[m].spoolOk = true)
    (hb : s.braked m = false ∨ s.brake[m].state = .open_) (ho : s.heave[m].mruOk = true) (hy : s.heave[m].ready = true) :
    s.ahcWrite m true = s.onHeave m fun h => { h with ahcOn := true } := by
  have brake : (!s.braked m) = true ∨ s.brake[m].state = .open_ := hb.imp_left fun h => by rw [h]; rfl
  rw [State.ahcWrite, if_neg (by decide), if_pos ⟨hr, hm, hs, brake, ho, hy⟩]

theorem ahcWrite_refused (h : s.outer[m].mode ≠ .position ∨ s.outer[m].spoolOk = false ∨ s.heave[m].mruOk = false ∨
    s.heave[m].ready = false ∨ s.runsHere m = false ∨ (s.braked m = true ∧ s.brake[m].state ≠ .open_)) :
    s.ahcWrite m true = (s.onHeave m fun h => { h with ahcOn := false }).raise .AHC_REFUSED m := by
  rw [State.ahcWrite, if_neg (by decide), if_neg]
  rintro ⟨hr, hm, hs, hb, ho, hy⟩
  rcases h with h | h | h | h | h | ⟨h, hc⟩
  · exact h hm
  · exact Bool.false_ne_true (h.symm.trans hs)
  · exact Bool.false_ne_true (h.symm.trans ho)
  · exact Bool.false_ne_true (h.symm.trans hy)
  · exact Bool.false_ne_true (h.symm.trans hr)
  · rw [h] at hb
    exact hb.elim Bool.false_ne_true hc

theorem mruLoss_coasts (ho : s.heave[m].mruOk = true) (hf : s.mruFresh m = false) : s.mruLoss m = (s.onHeave m fun h => { h with
    mruOk := false, coast := true, gFrom := h.g, gTo := 0, fitFrom := none, accBad := true }).raise .HEAVE_MRU_LOSS m :=
  if_pos ⟨ho, by rw [hf]; rfl⟩

theorem mruLoss_none (h : s.heave[m].mruOk = false ∨ s.mruFresh m = true) : s.mruLoss m = s := by
  refine if_neg fun ⟨ho, hf⟩ => ?_
  rcases h with h | h
  · exact Bool.false_ne_true (h.symm.trans ho)
  · rw [h] at hf
    exact Bool.false_ne_true hf

theorem coastEnd_ends (hc : s.heave[m].coast = true) (hg : s.heave[m].g = 0) : s.coastEnd m =
    s.onHeave m fun h => { h.init h.nComp with ahcOn := false, coast := false, g := 0, poor := false } := if_pos ⟨hc, hg⟩

theorem coastEnd_none (h : s.heave[m].coast = false ∨ s.heave[m].g ≠ 0) : s.coastEnd m = s :=
  if_neg fun ⟨hc, hg⟩ => h.elim (fun h => Bool.false_ne_true (h.symm.trans hc)) fun h => h hg

/-! ## History (R179) -/

/-- The sample that a half second posts. -/
def State.halfSecond (s : State) (m : Fin 4) : HeaveSample where
  index := (s.dev.toNat / 500000000 + 7199) % 7200
  z := if s.heave[m].accN = 0 then s.heave[m].z else s.heave[m].accSum / s.heave[m].accN
  invalid := s.heave[m].accBad || !s.heave[m].mruOk || decide (s.heave[m].accN = 0)

theorem heavePost_posts (hz : s.n Fld.LOOP_HVMRUZ m ≠ 0) (hr : s.runsHere m = true) : s.heavePost m =
    { s.onHeave m fun h => { h with accSum := 0, accN := 0, accBad := !h.mruOk } with
      hist := s.hist.set m.1 (s.halfSecond m :: s.hist[m].filter fun y => y.index != (s.halfSecond m).index) m.2 } :=
  if_neg (by simp [hz, hr])

theorem halfSecond_average (h : s.heave[m].accN ≠ 0) : (s.halfSecond m).z = s.heave[m].accSum / s.heave[m].accN ∧
    (s.halfSecond m).invalid = (s.heave[m].accBad || !s.heave[m].mruOk) := by
  refine ⟨if_neg h, ?_⟩
  rw [State.halfSecond, decide_eq_false h, Bool.or_false]

theorem halfSecond_empty (h : s.heave[m].accN = 0) : (s.halfSecond m).invalid = true := by
  rw [State.halfSecond, decide_eq_true h, Bool.or_true]

/-! ## Statistics (R179) -/

/-- The samples of the window that are invalid or missing. -/
def State.heaveMissing (s : State) (m : Fin 4) : Nat :=
  let win := s.hist[m].take (2 * s.n Fld.LOOP_HVSTATWIN m)
  (win.filter fun x => x.invalid).length + (2 * s.n Fld.LOOP_HVSTATWIN m - win.length)

/-- An empty history misses the whole window. -/
theorem heaveMissing_nil (h : s.hist[m] = []) : s.heaveMissing m = 2 * s.n Fld.LOOP_HVSTATWIN m := by
  rw [State.heaveMissing, h]
  simp

/-- A full history of valid samples misses nothing. -/
theorem heaveMissing_full (hl : 2 * s.n Fld.LOOP_HVSTATWIN m ≤ s.hist[m].length) (hv : ∀ x ∈ s.hist[m], x.invalid = false) :
    s.heaveMissing m = 0 := by
  have valid : (s.hist[m].take (2 * s.n Fld.LOOP_HVSTATWIN m)).filter (fun x => x.invalid) = [] :=
    List.filter_eq_nil_iff.2 fun x hx => ne_true_of_eq_false (hv x (List.mem_of_mem_take hx))
  simp only [State.heaveMissing, valid, List.length_nil, List.length_take_of_le hl, Nat.sub_self]

section
variable (hz : s.n Fld.LOOP_HVMRUZ m ≠ 0) (hr : s.runsHere m = true) (hrun : s.rst.mgmtRun = true)
include hz hr hrun

theorem heaveStats_runs : ∃ (spec : Vector Rat 64) (hs tp : Rat), s.heaveStats m =
    if 2 * s.n Fld.LOOP_HVSTATWIN m < 10 * s.heaveMissing m then s.onHeave m fun h => { h with statInv := true }
    else s.onHeave m fun h => { h with statInv := false, spec := spec, hs := hs, tp := tp, stamp := s.dev.toNat } :=
  ⟨_, _, _, if_neg (by simp [hz, hr, hrun])⟩

theorem heaveStats_invalid (h : 2 * s.n Fld.LOOP_HVSTATWIN m < 10 * s.heaveMissing m) :
    s.heaveStats m = s.onHeave m fun h => { h with statInv := true } := by
  obtain ⟨spec, hs, tp, e⟩ := heaveStats_runs hz hr hrun
  rw [e, if_pos h]

theorem heaveStats_valid (h : ¬2 * s.n Fld.LOOP_HVSTATWIN m < 10 * s.heaveMissing m) : ∃ (spec : Vector Rat 64) (hs tp : Rat),
    s.heaveStats m = s.onHeave m fun h => { h with statInv := false, spec := spec, hs := hs, tp := tp, stamp := s.dev.toNat } := by
  obtain ⟨spec, hs, tp, e⟩ := heaveStats_runs hz hr hrun
  exact ⟨spec, hs, tp, e.trans (if_neg h)⟩

end

end

/-! ## The statement -/

/-- Settles O49: one equation per outcome of each command; the statistics by what the window misses of the history. -/
theorem heaveCompensation : Obligations.HeaveCompensation := by
  refine ⟨?sample, ?noSample, ?noChannel, ?ready, ?off, ?on, ?refused, ?loss, ?noLoss, ?coasted, ?coasts, ?history, ?empty, ?full⟩
  case sample =>
    intro s m at_ hn hr
    obtain ⟨h, poor, takes, took⟩ := heaveSample_takes hn hr
    have judged := (judged_shadowMove (s.heaveSample m) (16 + m)).trans
      ((congrArg State.judgedFrom takes).trans (raiseIf_recOnly ..).judged)
    obtain ⟨here, others, frame⟩ := onHeave_judged judged
    refine ⟨(s.heaveSample m).shadowMove (16 + m), rfl, ?_, ?_, ?_, ?_, ?_, ?_, others, frame⟩ <;> rw [here]
    · exact took.z
    · exact took.lastAt
    · exact took.mruOk
    · exact took.coast
    · exact took.fitFrom
    · exact took.accN.trans (congrArg (· + 1) (heaveModel_accN s m))
  case noSample =>
    intro s m h
    refine ⟨_, rfl, ?_⟩
    dsimp only
    rw [shadowMove_heave, heaveSample_none h]
  case noChannel => exact fun s m h => mruNext_noChannel h
  case ready => exact fun s m ho hh => ⟨s.heaveReady m, rfl, heaveReady_sets ho hh, rfl⟩
  case off => exact fun s m => ⟨_, congrArg Host.Outcome.next (if_pos rfl), vmod_self .., rfl⟩
  case on =>
    exact fun s m hr hm hs hb ho hy => ⟨_, congrArg Host.Outcome.next (ahcWrite_accepted hr hm hs hb ho hy), vmod_self .., rfl⟩
  case refused => exact fun s m h => ⟨s.ahcWrite m true, rfl, onHeave_raise_spec s m _ .AHC_REFUSED (ahcWrite_refused h)⟩
  case loss => exact fun s m ho hf => ⟨s.mruLoss m, rfl, onHeave_raise_spec s m _ .HEAVE_MRU_LOSS (mruLoss_coasts ho hf)⟩
  case noLoss => exact fun s m h => congrArg Host.Outcome.next (mruLoss_none h)
  case coasted =>
    intro s m hc hg
    refine ⟨_, congrArg Host.Outcome.next (coastEnd_ends hc hg), ?_, ?_, ?_, ?_, rfl⟩ <;> rw [State.onHeave_heave, vmod_self]
    rfl
  case coasts => exact fun s m h => congrArg Host.Outcome.next (coastEnd_none h)
  case history =>
    intro s m hz hr
    have cleared := vmod_self s.heave m fun h => { h with accSum := 0, accN := 0, accBad := !h.mruOk }
    refine ⟨_, congrArg Host.Outcome.next (heavePost_posts hz hr), ⟨s.halfSecond m, Vector.getElem_set_self .., rfl, halfSecond_average,
      halfSecond_empty⟩, congrArg Heave.accN cleared, congrArg Heave.accSum cleared, rfl⟩
  case empty =>
    intro s m hz hr hrun hh hw
    have misses : 2 * s.n Fld.LOOP_HVSTATWIN m < 10 * s.heaveMissing m := by rw [heaveMissing_nil hh]; omega
    exact ⟨_, congrArg Host.Outcome.next (heaveStats_invalid hz hr hrun misses), vmod_self .., rfl⟩
  case full =>
    intro s m hz hr hrun hl hv
    obtain ⟨spec, hs, tp, e⟩ := heaveStats_valid hz hr hrun (by rw [heaveMissing_full hl hv]; omega)
    have here := vmod_self s.heave m fun h => { h with statInv := false, spec := spec, hs := hs, tp := tp, stamp := s.dev.toNat }
    exact ⟨_, congrArg Host.Outcome.next e, congrArg Heave.statInv here, congrArg Heave.stamp here, fun j hj => vmod_ne _ _ _ _ hj, rfl⟩

end Sys2Proof.Machine
end
